-- ==== Sys2Proof/Word.lean ====
section
/-! DEFINITION. The two word types: a register is 32 bits wide (spec/19_register_map.md R438), memory and packets are
made of bytes (spec/00_scope.md R5). -/

namespace Sys2Proof

/-- A register word. -/
abbrev Word := BitVec 32

/-- A byte of a packet, a descriptor or an eMRAM object. -/
abbrev Byte := BitVec 8

end Sys2Proof
end

