-- ==== Sys2Proof/Syntax.lean ====
section
/-! DEFINITION. The commands of the block, one constructor per row of spec/opcode_table.json, in the table's order, and
the types of their operands. The table gives a row no operands and no bits; an operand here is what the spec's text says
comes from outside the device when the step happens (who writes, which port, the bytes read from host memory, the codes
an ADC converts), and nothing that the state already holds (log entry 2). -/

namespace Sys2Proof

/-- The roles of R1. -/
inductive Role where
  | tile | sender
  deriving DecidableEq, Repr

/-- The sampled straps (R397). -/
structure Straps where
  role : Role
  /-- TWIN_PRI strap high. -/
  twinPri : Bool
  /-- SVC_ADDR[1:0]. -/
  svcAddr : Fin 4
  deriving DecidableEq, Repr

/-- The initiators of register accesses (R444); only `nutcracker` is the trusted part. The last two are the host's other ways
to the function: a write to BAR2 (R48) and a configuration write (R49), whose addresses are offsets there. -/
inductive Initiator where
  | mc0 | mc1 | nutcracker | bar0 | command | service | jtag | bar2 | config
  deriving DecidableEq, Repr

/-- The pin that takes a cold reset (R398, R400). -/
inductive ColdPin where
  | resetN | pwrGood
  deriving DecidableEq, Repr

/-- Where the descriptor that an opcode row runs stands: a LOCAL descriptor of the sender, by the free-running index of
its slot, or the CMD at the head of those that wait at this device (R176). -/
inductive CmdRef where
  | ring (index : Nat)
  | remote
  deriving DecidableEq, Repr

/-- A chain port A to D as 0 to 3. -/
abbrev Port := Fin 4

/-- A lane of a port. -/
abbrev Lane := Fin 2

/-- The rings that the device fetches from (R50, R52). -/
inductive FetchRing where
  | flip | command | bulk
  deriving DecidableEq, Repr

/-- The rings whose descriptors are fetched one slot at a time (R52). -/
inductive DescRing where
  | command | bulk
  deriving DecidableEq, Repr

/-- How wide an access is (R442): a whole word, one, two or three bytes from a byte offset in the word, or larger or
word-crossing. -/
inductive AccessWidth where
  | word | three (byteOffset : Fin 4) | half (byteOffset : Fin 4) | byte (byteOffset : Fin 4) | crossing
  deriving DecidableEq, Repr

/-- The target address that opens a transaction on the bus of the service port (R447): 7 bits, of which 0 is the general call,
or 10 bits. -/
inductive I2cTarget where
  | seven (address : Fin 128) | ten (address : Fin 1024)
  deriving DecidableEq, Repr

/-- Why a layer read fails (R111): the read of host memory failed, or these are the headers read and one of them fails
conditions 1 to 4 of R96. -/
inductive LayerFail where
  | dma
  | headers (bytes : List Byte)
  deriving DecidableEq, Repr

/-- One lane's codeword as its slicer delivers it: the level indices 0 to 3 of its 2,720 symbols, symbol k in bits 2k and
2k + 1 (R119, R122). -/
abbrev RxCodeword := BitVec 5440

/-- How the receiver of a lane in phase lock finds its boundaries (R128): by the run of markers, or by the hunt over these
sliced level indices of the line (R129). -/
inductive LaneLock where
  | markers
  | hunt (line : List (Fin 4))
  deriving DecidableEq, Repr

/-- How a PTP message travels (R189): over UDP/IPv4 or on layer 2, with which 802.1Q tag, in which domain. -/
structure PtpWire where
  udp : Bool
  vlan : Option (BitVec 12)
  domain : Nat
  deriving DecidableEq, Repr

/-- Pins whose level the device shows: edges on the reference inputs of ports A and B (R150), the links of the two PTP
interfaces (R209), WAKE_N low (R418), and TRST_N high (R428). -/
structure PinLevels where
  refiA : Bool
  refiB : Bool
  link0 : Bool
  link1 : Bool
  wakeLow : Bool
  trstHigh : Bool
  deriving DecidableEq, Repr

/-- What a PTP Announce carries that the instance uses (R189, R190): how it travels, the source's identity, the
values the best-master comparison ranks, and its offset from UTC. -/
structure Announce where
  wire : PtpWire
  source : Nat
  priority1 : Nat
  clockClass : Nat
  clockAccuracy : Nat
  variance : Nat
  priority2 : Nat
  grandmaster : BitVec 64
  stepsRemoved : Nat
  utcOffset : BitVec 16
  /-- The interval between Announces, in seconds as a power of two (R190). -/
  logInterval : Int
  deriving DecidableEq, Repr

/-- A Sync with its Follow_Up (R191): how it travels, the source, whether it is two-step, the origin time and the receive time stamp in
nanoseconds, the correction in nanoseconds. -/
structure PtpSync where
  wire : PtpWire
  source : Nat
  twoStep : Bool
  origin : Int
  receipt : Int
  correction : Int
  deriving DecidableEq, Repr

/-- A Delay_Resp or a Pdelay response (R189): how it travels, its source, four time stamps in nanoseconds, the correction, and
the interval that a Delay_Resp grants, in seconds as a power of two. -/
structure PtpDelay where
  wire : PtpWire
  source : Nat
  granted : Int
  t1 : Int
  t2 : Int
  t3 : Int
  t4 : Int
  correction : Int
  deriving DecidableEq, Repr

/-- What a row slot meets: the analogue samples it may take (R270, R273), which are the ADC codes of the columns judged on
their picture pulses (column, code), the codes of VLED_SNS0 to 3 and of NTC0 to 3; and the banks whose edge-list FIFO is
empty when the edge placers need the slot (R37). -/
structure SlotSamples where
  columns : List (Nat × Nat)
  vled : List Nat
  ntc : List Nat
  starved : List Nat
  deriving DecidableEq, Repr

/-- The raw conversion of one junction sensor (R302), before the offset of SENS; `none` when the conversion is not
valid. -/
abbrev SensorReading := Option Int

/-- What a calibration step measures when it is not slot by slot (R318, R320, R322, R324, R325): a list of runs for each
attempt. -/
inductive CalReadings where
  /-- Per attempt, per run, TJ_DRV in that run and the 384 × 72 cell values, sink by sink. -/
  | sink (attempts : List (List (Int × List (List Nat))))
  /-- Per attempt, per run, the (VR_LO, VR_HI) codes of the 48 bank ADCs. -/
  | adc (attempts : List (List (List (Nat × Nat))))
  /-- Per attempt, per run, TREF0, TREF1 and the twelve raw sensor readings. -/
  | sens (attempts : List (List (Int × Int × List Int)))
  /-- Per attempt, per run, the WIDTH of lane 0 and of lane 1. -/
  | lane (attempts : List (List (Nat × Nat)))
  deriving DecidableEq, Repr

/-- Analogue conditions that a calibration step checks (R317), as they stand when it starts or measures: a ROWG output
below VLED − 1.0 V, a column carrying other current, a reference sensor that moved by more than 0.25 °C in the last 1 s, the
drive die in reset. -/
structure CalConditions where
  rowActive : Bool
  columnCurrent : Bool
  notStable : Bool
  driveReset : Bool
  deriving DecidableEq, Repr

/-- The eMRAM areas of R338 that a burst can be writing when power is removed. -/
inductive NvmArea where
  | settings (slot : Fin 2) | coef (slot : Fin 2) | cal (slot : Fin 2) | safe (slot : Fin 2)
  | manifest (slot : Fin 2) | ucode (slot : Fin 2) | mgmtRunning | mgmtStaging | delta | commit (kind : Fin 8) (slot : Fin 2)
  | recorderSlot (n : Nat) | recorderCheck (n : Nat)
  deriving DecidableEq, Repr

/-- A burst of eMRAM writes in progress (R339): the area, the byte offset and the bytes being written, at most 1,024. -/
structure NvmBurst where
  area : NvmArea
  offset : Nat
  bytes : List Byte
  deriving DecidableEq, Repr

/-- The supplies and inputs watched in dormancy (R407). -/
inductive AonSupply where
  | vcore | vdrv | vled | pwrGood
  deriving DecidableEq, Repr

/-- The call window of a trusted monitor call (R344). -/
structure NvmCall where
  /-- Object kind, 4 CAL, 5 COEF, 6 SETTINGS, 7 SAFE (R340). -/
  kind : Nat
  offset : Nat
  bytes : List Byte
  deriving DecidableEq, Repr

/-- The sides of the mailboxes (R386). Accesses over BAR0 or by remote command act as none of the writers (R393). -/
inductive MbxSide where
  | host | mc | trusted | twin | other
  deriving DecidableEq, Repr

/-- The commands: one constructor per row of spec/opcode_table.json. -/
inductive Instr where
  /-- REGISTER_WRITE (R9). -/
  | registerWrite (init : Initiator) (addr : Nat) (width : AccessWidth) (value : Word)
  /-- TIME_NOW_READ (R209): a register read; at the address of TIME_NOW_NS the row's own. No row is a read of another register by
  BAR0, a management core, the trusted part or JTAG, and R439 and R442 say what each does: they are this row's other addresses
  and widths. -/
  | timeNowRead (init : Initiator) (addr : Nat) (width : AccessWidth)
  /-- SERVICE_PORT_WRITE (R447). -/
  | servicePortWrite (target : I2cTarget) (addr : Nat) (data : List Byte)
  /-- SERVICE_PORT_READ (R447), until the controller has taken this many bytes. -/
  | servicePortRead (target : I2cTarget) (addr : Nat) (bytes : Nat)
  /-- POWER_ON_RESET (R398). -/
  | powerOnReset (straps : Straps)
  /-- COLD_RESET (R398). -/
  | coldReset (pin : ColdPin) (straps : Straps)
  /-- WARM_RESET (R398). -/
  | warmReset (init : Initiator)
  /-- CORE_RESTART (R398). -/
  | coreRestart (init : Initiator)
  /-- WATCHDOG_KICK (R401). -/
  | watchdogKick (init : Initiator)
  /-- WATCHDOG_EXPIRE (R401). -/
  | watchdogExpire
  /-- FIRMWARE_START (R402). -/
  | firmwareStart (adc : List (List (List (Nat × Nat))))
  /-- DEVICE_READY (R402). -/
  | deviceReady
  /-- VLOW_EXCURSION (R38). -/
  | vlowExcursion
  /-- BROWN_OUT (R399). -/
  | brownOut
  /-- BROWN_OUT_RELEASE (R399). -/
  | brownOutRelease
  /-- PERST_DEASSERT (R84). -/
  | perstDeassert
  /-- PCIE_LINK_DOWN (R47). -/
  | pcieLinkDown
  /-- FUNCTION_LEVEL_RESET (R51). -/
  | functionLevelReset
  /-- D3HOT_ENTRY (R51). -/
  | d3hotEntry
  /-- HIF_POLL_ENABLE (R57). -/
  | hifPollEnable (init : Initiator)
  /-- HIF_POLL_DISABLE (R61). -/
  | hifPollDisable (init : Initiator)
  /-- RING_ENABLE (R77). -/
  | ringEnable (init : Initiator) (ring : Fin 5)
  /-- RING_DISABLE (R77). -/
  | ringDisable (init : Initiator) (ring : Fin 5)
  /-- DOORBELL_POLL (R57). -/
  | doorbellPoll (page : List Byte)
  /-- DOORBELL_POLL_FAIL (R50). -/
  | doorbellPollFail
  /-- DESC_FETCH (R74). -/
  | descFetch (ring : DescRing) (slot : List Byte)
  /-- DESC_FETCH_FAIL (R50). -/
  | descFetchFail (ring : FetchRing) (ahead : Nat)
  /-- SHADOW_WRITE (R61). -/
  | shadowWrite
  /-- COMPLETION_POST (R76). -/
  | completionPost
  /-- EVENT_RING_WRITE (R70). -/
  | eventRingWrite
  /-- INTR_MODERATION_TIMEOUT (R83). -/
  | intrModerationTimeout (cause : Fin 16)
  /-- INTR_COUNT_REACHED (R83). -/
  | intrCountReached (cause : Fin 16)
  /-- MSIX_UNMASK (R83). -/
  | msixUnmask (vector : Fin 64)
  /-- NOP (R66). -/
  | nop (ref : CmdRef)
  /-- REG_READ (R66). -/
  | regRead (ref : CmdRef)
  /-- REG_WRITE (R66). -/
  | regWrite (ref : CmdRef)
  /-- REG_RMW (R66). -/
  | regRmw (ref : CmdRef)
  /-- UNDEFINED_OPCODE (R66). -/
  | undefinedOpcode (ref : CmdRef)
  /-- CMD_DISPATCH (R176). -/
  | cmdDispatch (ring : DescRing) (index : Nat)
  /-- CMD_TIMEOUT (R79). -/
  | cmdTimeout (xid : Nat)
  /-- RSP_RECEIVE (R165). -/
  | rspReceive
  /-- PROGRESS_RSP_RECEIVE (R177). -/
  | progressRspReceive
  /-- PROGRESS_RSP_SEND (R177). -/
  | progressRspSend (xid : Nat)
  /-- MGMT_STAGE (R351). -/
  | mgmtStage (ref : CmdRef)
  /-- UCODE_DELTA (R352). -/
  | ucodeDelta (ref : CmdRef)
  /-- MANIFEST_STAGE (R349). -/
  | manifestStage (ref : CmdRef)
  /-- OWNER_TOKEN (R336). -/
  | ownerToken (ref : CmdRef)
  /-- ENROLL_REQUEST (R335). -/
  | enrollRequest (ref : CmdRef)
  /-- ATTEST (R347). -/
  | attest (ref : CmdRef)
  /-- COEF_SET_TO_DEVICE (R236). -/
  | coefSetToDevice (ref : CmdRef)
  /-- COEF_SET_FROM_DEVICE (R237). -/
  | coefSetFromDevice (ref : CmdRef)
  /-- COEF_SET_LOADED (R236). -/
  | coefSetLoaded
  /-- SAFE_IMAGE (R225). -/
  | safeImage (ref : CmdRef)
  /-- LAMP_MAP (R276). -/
  | lampMap (ref : CmdRef)
  /-- MEAS (R276). -/
  | meas (ref : CmdRef)
  /-- BULK_SNAPSHOT (R276). -/
  | bulkSnapshot
  /-- REC_DUMP (R377). -/
  | recDump (ref : CmdRef)
  /-- SETTINGS_TO_DEVICE (R362). -/
  | settingsToDevice (ref : CmdRef)
  /-- SETTINGS_FROM_DEVICE (R362). -/
  | settingsFromDevice (ref : CmdRef)
  /-- FLIP_PARSE (R102). -/
  | flipParse (slots : List (List Byte)) (guardTable : Option (List Byte))
  /-- FENCE_POLL (R107). -/
  | fencePoll (reads : List (Option (BitVec 64)))
  /-- FRAME_LAUNCH (R180). -/
  | frameLaunch
  /-- LAYER_READ_COMPLETE (R113). -/
  | layerReadComplete (entry : Nat) (surface payload : List Byte)
  /-- LAYER_READ_FAIL (R111). -/
  | layerReadFail (entry : Nat) (why : LayerFail)
  /-- PACKET_SEND_COMPLETE (R171). -/
  | packetSendComplete (port : Port)
  /-- TRANSPORT_END (R181). -/
  | transportEnd
  /-- SENDER_MODE_SWITCH (R116). -/
  | senderModeSwitch
  /-- PORT_ENABLE (R141). -/
  | portEnable (init : Initiator) (port : Port)
  /-- PORT_DISABLE (R141). -/
  | portDisable (init : Initiator) (port : Port)
  /-- LANE_TARGET_WRITE (R141). -/
  | laneTargetWrite (init : Initiator) (port : Port) (target : Fin 4)
  /-- TXIDLE_SET (R145). -/
  | txidleSet (init : Initiator) (port : Port)
  /-- TXIDLE_CLEAR (R145). -/
  | txidleClear (init : Initiator) (port : Port)
  /-- LANE_PLL_LOCK (R141). -/
  | lanePllLock (port : Port)
  /-- TRAINING_FRAME_RX (R125). -/
  | trainingFrameRx (port : Port) (lane : Lane) (position : Fin 2720) (marker : BitVec 64) (last : Fin 4)
  /-- RX_LOCK (R128). -/
  | rxLock (port : Port) (lane0 lane1 : Option LaneLock) (skewNs : Nat)
  /-- PEER_RXLOCK_SEEN (R141). -/
  | peerRxlockSeen (port : Port)
  /-- COUNTDOWN_DONE (R141). -/
  | countdownDone (port : Port)
  /-- GO_TIMEOUT (R141). -/
  | goTimeout (port : Port)
  /-- TRAIN_TIMEOUT (R141). -/
  | trainTimeout (port : Port)
  /-- TXONLY_LOS_TIMEOUT (R141). -/
  | txonlyLosTimeout (port : Port)
  /-- CODEWORD_PAIR_RX (R152). -/
  | codewordPairRx (port : Port) (lane0 lane1 : Option RxCodeword) (residence : Nat)
  /-- LOS_ASSERT (R142). -/
  | losAssert (port : Port) (lane : Lane)
  /-- LOS_CLEAR (R142). -/
  | losClear (port : Port) (lane : Lane)
  /-- LOSS_OF_LOCK (R143). -/
  | lossOfLock (port : Port) (lane : Lane)
  /-- RECOVER_TIMEOUT (R141). -/
  | recoverTimeout (port : Port)
  /-- PEER_RXLOCK_LOST (R141). -/
  | peerRxlockLost (port : Port)
  /-- PM_AGREEMENT (R141). -/
  | pmAgreement (port : Port)
  /-- LS2_ENERGY_DETECT (R141). -/
  | ls2EnergyDetect (port : Port)
  /-- CLEANER_LOCK (R132). -/
  | cleanerLock
  /-- REF_INPUT_LOSS (R133). -/
  | refInputLoss
  /-- REF_SELECT_CHANGE (R140). -/
  | refSelectChange
  /-- EYE_MONITOR_UPDATE (R147). -/
  | eyeMonitorUpdate (port : Port) (lane : Lane) (live : BitVec 8)
  /-- TAP_SAVE (R148). -/
  | tapSave (port : Port) (lane : Lane)
  /-- GUARD_RESUME (R148). -/
  | guardResume (port : Port) (lane : Lane)
  /-- PACKET_REASSEMBLY_TIMEOUT (R184). -/
  | packetReassemblyTimeout (port : Port) (stream : Nat)
  /-- BLOCK_RECEIVE (R182). -/
  | blockReceive
  /-- FLIP_HDR_RECEIVE (R182). -/
  | flipHdrReceive
  /-- PRESENT_RECEIVE (R162). -/
  | presentReceive
  /-- CMD_DESC_RECEIVE (R176). -/
  | cmdDescReceive
  /-- BULK_OPEN_RECEIVE (R178). -/
  | bulkOpenReceive
  /-- BULK_DATA_RECEIVE (R178). -/
  | bulkDataReceive
  /-- BULK_PULL_RECEIVE (R178). -/
  | bulkPullReceive
  /-- ENUM_RECEIVE_HEAD (R172). -/
  | enumReceiveHead
  /-- ENUM_RECEIVE_TAIL (R173). -/
  | enumReceiveTail
  /-- ENUM_AT_TAIL_SENDER (R172). -/
  | enumAtTailSender
  /-- WITNESS_SEND (R163). -/
  | witnessSend (port : Port)
  /-- WITNESS_RECEIVE (R175). -/
  | witnessReceive
  /-- PRESENCE_TIMEOUT (R175). -/
  | presenceTimeout (port : Port) (position : Fin 64)
  /-- AUTO_ENUM (R174). -/
  | autoEnum (port : Port)
  /-- EVENT_SEND (R374). -/
  | eventSend
  /-- EVENT_RECEIVE (R70). -/
  | eventReceive
  /-- CHAIN_ENUM (R179). -/
  | chainEnum (ref : CmdRef)
  /-- CHAIN_ENUM_COMPLETE (R179). -/
  | chainEnumComplete
  /-- CHAIN_PING (R179). -/
  | chainPing (ref : CmdRef)
  /-- TIME_SEND (R194). -/
  | timeSend (port : Port)
  /-- TIME_RECEIVE (R197). -/
  | timeReceive
  /-- TIME_HOLDOVER_TIMEOUT (R197). -/
  | timeHoldoverTimeout
  /-- CLOCK_SLEW_DONE (R188). -/
  | clockSlewDone
  /-- PTP_ENABLE (R190). -/
  | ptpEnable (init : Initiator) (inst : Fin 2)
  /-- PTP_DISABLE (R190). -/
  | ptpDisable (init : Initiator) (inst : Fin 2)
  /-- PTP_ANNOUNCE_RECEIVE (R190). -/
  | ptpAnnounceReceive (inst : Fin 2) (msg : Announce)
  /-- PTP_SYNC_RECEIVE (R191). -/
  | ptpSyncReceive (inst : Fin 2) (msg : PtpSync)
  /-- PTP_DELAY_REQ_SEND (R189). -/
  | ptpDelayReqSend (inst : Fin 2)
  /-- PTP_DELAY_RESP_RECEIVE (R189). -/
  | ptpDelayRespReceive (inst : Fin 2) (msg : PtpDelay)
  /-- PTP_ANNOUNCE_TIMEOUT (R190). -/
  | ptpAnnounceTimeout (inst : Fin 2)
  /-- PTP_LINK_DOWN (R190). -/
  | ptpLinkDown (inst : Fin 2)
  /-- PTP_ARP_REQUEST (R189). -/
  | ptpArpRequest (inst : Fin 2) (target : Word) (asker : Nat)
  /-- PTP_REVERT_TIMEOUT (R191). -/
  | ptpRevertTimeout
  /-- PPS_IN_EDGE (R192). -/
  | ppsInEdge
  /-- PPS_TIMEOUT (R192). -/
  | ppsTimeout
  /-- PPS_OUT_PULSE (R193). -/
  | ppsOutPulse
  /-- SURVEY_START (R199). -/
  | surveyStart (port : Port)
  /-- SURVEY_PROBE (R199). -/
  | surveyProbe (port : Port)
  /-- TIME_PROBE (R198). -/
  | timeProbe (ref : CmdRef)
  /-- TIME_SET (R208). -/
  | timeSet (ref : CmdRef)
  /-- TIME_ADJ (R208). -/
  | timeAdj (ref : CmdRef)
  /-- TIME_SURVEY (R208). -/
  | timeSurvey (ref : CmdRef)
  /-- COMPOSE_DEADLINE (R39). -/
  | composeDeadline
  /-- COMPOSE_COMPLETE (R40). -/
  | composeComplete
  /-- SWAP_POINT (R40). -/
  | swapPoint
  /-- PRESENT_FRAME (R29). -/
  | presentFrame
  /-- REFRESH_START (R245). -/
  | refreshStart
  /-- ROW_SLOT_START (R246). -/
  | rowSlotStart (samples : SlotSamples)
  /-- PINWHEEL_RETUNE (R257). -/
  | pinwheelRetune
  /-- PACING_CYCLE (R42). -/
  | pacingCycle
  /-- SRAM_PARITY_ERROR (R45). -/
  | sramParityError (mem unit offset : Nat)
  /-- ENGINE_RELOAD_DONE (R45). -/
  | engineReloadDone (engine : Fin 192)
  /-- FAB_PINJ_ARM (R470). -/
  | fabPinjArm (init : Initiator) (mem : Fin 16) (unit : Fin 256)
  /-- FAB_PINJ_CANCEL (R470). -/
  | fabPinjCancel (init : Initiator)
  /-- FOOTPRINT_ARM (R213). -/
  | footprintArm (init : Initiator)
  /-- FOOTPRINT_DISARM (R469). -/
  | footprintDisarm (init : Initiator)
  /-- FOOTPRINT_SWITCH (R213). -/
  | footprintSwitch
  /-- COR_ARM (R238). -/
  | corArm (init : Initiator)
  /-- COR_DISARM (R469). -/
  | corDisarm (init : Initiator)
  /-- COEF_SET_SWITCH (R238). -/
  | coefSetSwitch
  /-- COEF_ACTIVATION_COMMIT (R238). -/
  | coefActivationCommit
  /-- COR_CANVAS_WRITE (R229). -/
  | corCanvasWrite (init : Initiator) (value : Word)
  /-- FADE_ARM (R249). -/
  | fadeArm (init : Initiator)
  /-- FADE_DISARM (R469). -/
  | fadeDisarm (init : Initiator)
  /-- FADE_START (R249). -/
  | fadeStart
  /-- FADE_END (R249). -/
  | fadeEnd
  /-- LAMP_TEST (R263). -/
  | lampTest (codes : List Nat)
  /-- PIN_TEST (R266). -/
  | pinTest (codes : List Nat)
  /-- DIAG_LAMP (R275). -/
  | diagLamp (ref : CmdRef)
  /-- DIAG_FORCE (R275). -/
  | diagForce (ref : CmdRef)
  /-- YOYO_SEND (R283). -/
  | yoyoSend
  /-- YOYO_RECEIVE (R283). -/
  | yoyoReceive (bytes : List Byte)
  /-- YOYO_LOST (R284). -/
  | yoyoLost
  /-- YOYO_REGAINED (R284). -/
  | yoyoRegained
  /-- HEARTBEAT_SEND (R285). -/
  | heartbeatSend (port : Port)
  /-- HEARTBEAT_RECEIVE (R285). -/
  | heartbeatReceive
  /-- PEER_HEARTBEAT_ABSENT (R285). -/
  | peerHeartbeatAbsent (port : Port)
  /-- PEER_HEARTBEAT_RESUMED (R290). -/
  | peerHeartbeatResumed (port : Port)
  /-- TWIN_INIT_DECIDED (R290). -/
  | twinInitDecided
  /-- FRAMES_REJECTED (R291). -/
  | framesRejected
  /-- SENDER_FLIP_HDR_RECEIVE (R289). -/
  | senderFlipHdrReceive
  /-- SOURCE_HEARD_TIMEOUT (R280). -/
  | sourceHeardTimeout
  /-- TWIN_SWAP (R300). -/
  | twinSwap (ref : CmdRef)
  /-- SWAP_RECLAIM_START (R296). -/
  | swapReclaimStart
  /-- SWAP_CHECK (R298). -/
  | swapCheck
  /-- SWAP_INSTANT (R297). -/
  | swapInstant
  /-- SWAP_PORT_RELEASE (R297). -/
  | swapPortRelease (port : Port)
  /-- STALE_TIMEOUT (R299). -/
  | staleTimeout (port : Port) (position : Fin 64)
  /-- THERMAL_ROUND (R302). -/
  | thermalRound (raw : List SensorReading)
  /-- THROTTLE_STEP (R308). -/
  | throttleStep
  /-- SHUTDOWN_RESTART (R310). -/
  | shutdownRestart
  /-- CAL_RUN_SINK (R320). -/
  | calRunSink (ref : CmdRef) (cond : CalConditions)
  /-- CAL_RUN_ADC (R322). -/
  | calRunAdc (ref : CmdRef) (cond : CalConditions)
  /-- CAL_RUN_SENS (R324). -/
  | calRunSens (ref : CmdRef) (cond : CalConditions)
  /-- CAL_RUN_LANE (R325). -/
  | calRunLane (ref : CmdRef) (cond : CalConditions)
  /-- CAL_SLOT_MEASURE (R321). -/
  | calSlotMeasure (cells : List Nat) (cond : CalConditions)
  /-- CAL_STEP_COMPLETE (R319). -/
  | calStepComplete (readings : CalReadings) (cond : CalConditions) (commits : Bool)
  /-- CAL_ABORT (R316). -/
  | calAbort (ref : CmdRef)
  /-- CAL_REVERT (R330). -/
  | calRevert (ref : CmdRef)
  /-- UPD_OPEN (R350). -/
  | updOpen (ref : CmdRef)
  /-- UPD_RENEW (R350). -/
  | updRenew (ref : CmdRef)
  /-- UPD_CLOSE (R350). -/
  | updClose (ref : CmdRef)
  /-- UPD_PREPARE (R355). -/
  | updPrepare (ref : CmdRef)
  /-- UPD_ACTIVATE (R356). -/
  | updActivate (ref : CmdRef)
  /-- UPD_ABORT (R356). -/
  | updAbort (ref : CmdRef)
  /-- UPDATE_OPEN (R353). -/
  | updateOpen
  /-- UPDATE_DATA (R353). -/
  | updateData
  /-- UPDATE_PREPARE (R353). -/
  | updatePrepare
  /-- UPDATE_ACTIVATE (R353). -/
  | updateActivate
  /-- UPDATE_ABORT (R356). -/
  | updateAbort
  /-- UPDATE_CLOSE (R353). -/
  | updateClose
  /-- UPDATE_RENEW (R353). -/
  | updateRenew
  /-- LEASE_EXPIRE (R350). -/
  | leaseExpire
  /-- ACTIVATION_CHECK (R356). -/
  | activationCheck
  /-- ACTIVATION_SWITCH (R357). -/
  | activationSwitch
  /-- LOADER_SWAP_DONE (R357). -/
  | loaderSwapDone
  /-- UPDATE_PAUSE_END (R356). -/
  | updatePauseEnd
  /-- SVC_OPEN (R365). -/
  | svcOpen (init : Initiator)
  /-- SVC_RENEW (R365). -/
  | svcRenew (init : Initiator)
  /-- SVC_CLOSE (R365). -/
  | svcClose (init : Initiator)
  /-- SVC_DATA (R365). -/
  | svcData (init : Initiator) (object : Fin 16) (content : Fin 8)
  /-- SVC_PREPARE (R365). -/
  | svcPrepare (init : Initiator)
  /-- SVC_ACTIVATE (R365). -/
  | svcActivate (init : Initiator)
  /-- SVC_ABORT (R365). -/
  | svcAbort (init : Initiator)
  /-- NVM_WRITE (R344). -/
  | nvmWrite (call : NvmCall)
  /-- NVM_COMMIT (R340). -/
  | nvmCommit (kind seq : Nat)
  /-- NVM_READ (R344). -/
  | nvmRead (area : NvmArea) (offset length : Nat)
  /-- FACTORY_READ (R344). -/
  | factoryRead (offset : Nat)
  /-- TOKEN_CHECK (R344). -/
  | tokenCheck (type : Nat) (token : List Byte)
  /-- MEASURE (R344). -/
  | measure
  /-- RECORDER_WRITE (R372). -/
  | recorderWrite
  /-- REC_CLEAR (R378). -/
  | recClear (ref : CmdRef)
  /-- REC_MARK (R379). -/
  | recMark (ref : CmdRef)
  /-- REC_RD_SEQ_WRITE (R375). -/
  | recRdSeqWrite (init : Initiator) (seq : Word)
  /-- CRC_START (R385). -/
  | crcStart (init : Initiator) (n : Fin 8)
  /-- CRC_SEED_WRITE (R385). -/
  | crcSeedWrite (init : Initiator) (n : Fin 8) (seed : Word)
  /-- CRC_DATA_WRITE (R382). -/
  | crcDataWrite (init : Initiator) (n : Fin 8) (reg : Fin 3) (bytes : List Byte)
  /-- SNOOP_ARM (R383). -/
  | snoopArm (init : Initiator) (n : Fin 8)
  /-- SNOOP_CAPTURE_END (R383). -/
  | snoopCaptureEnd (n : Fin 8)
  /-- MBX_WRITE (R387). -/
  | mbxWrite (writer : MbxSide) (m : Fin 8) (word : Word)
  /-- MBX_ACK (R387). -/
  | mbxAck (reader : MbxSide) (m : Fin 8)
  /-- MBX_CROSS (R390). -/
  | mbxCross (pair : Fin 4)
  /-- TWIN_MBX_DATA_RECEIVE (R392). -/
  | twinMbxDataReceive (bytes : List Byte)
  /-- TWIN_MBX_ACK_RECEIVE (R392). -/
  | twinMbxAckReceive (bytes : List Byte)
  /-- TWIN_MBX_ABORT_RECEIVE (R392). -/
  | twinMbxAbortReceive (bytes : List Byte)
  /-- TWIN_MBX_REPEAT (R392). -/
  | twinMbxRepeat
  /-- DORMANT_ARM (R408). -/
  | dormantArm (init : Initiator)
  /-- DORMANT_DISARM (R469). -/
  | dormantDisarm (init : Initiator)
  /-- DORMANT_ENTRY (R409). -/
  | dormantEntry
  /-- WAKE_N_ASSERT (R407). -/
  | wakeNAssert
  /-- JACK_TONE_DETECT (R407). -/
  | jackToneDetect
  /-- JACK_TONE_END (R411). -/
  | jackToneEnd
  /-- AON_ALARM (R407). -/
  | aonAlarm
  /-- DORMANT_EXIT (R412). -/
  | dormantExit
  /-- DORMANT_OVERTEMP (R407). -/
  | dormantOvertemp (hot : Bool)
  /-- AON_SUPPLY_CHANGE (R407). -/
  | aonSupplyChange (supply : AonSupply) (present : Bool)
  /-- WAKE_TONE_SEND (R411). -/
  | wakeToneSend (init : Initiator) (ports : BitVec 4)
  /-- WAKE_TONE_END (R411). -/
  | wakeToneEnd
  /-- BKUP_N_EDGE (R415). -/
  | bkupNEdge (low : Bool)
  /-- MOTION_N_EDGE (R415). -/
  | motionNEdge (low : Bool)
  /-- WALL_CLOCK_TICK (R186). -/
  | wallClockTick (pins : PinLevels)
  /-- AON_CLOCK_TICK (R406). -/
  | aonClockTick
  /-- PCIE_LINK_UP (R84). -/
  | pcieLinkUp (gen width : Nat)
  /-- BULK_DATA_READ_DONE (R50). -/
  | bulkDataReadDone (index : Nat) (data : Option (List Byte))
  /-- TWIN_SWAP_DONE (R297). -/
  | twinSwapDone
  /-- VLOW_END (R38). -/
  | vlowEnd
  /-- PPS_OUT_FALL (R193). -/
  | ppsOutFall
  /-- XTAL_OK_CHANGE (R465). -/
  | xtalOkChange (ok : Bool)
  /-- POWER_REMOVED (R339). -/
  | powerRemoved (burst : Option NvmBurst)
  deriving DecidableEq, Repr

end Sys2Proof
end

