-- ==== Sys2Proof/Decode.lean ====
section
/-! DEFINITION. The commands that a word spells by the bits of spec/opcode_table.json. The table gives no row any bits (its
commands come from pins, buses, register accesses and the passing of time), so no word spells a command. -/

namespace Sys2Proof

/-- The command that `nbits` bits `w` spell: none, for the table gives no row any bits. -/
def decodeTableWord (_nbits _w : Nat) : Option Instr := none

end Sys2Proof
end

