-- ==== Sys2Proof/Machine/Bits.lean ====
section
/-! DEFINITION. Bit fields, byte order and the arithmetic of the spec's pseudocode (spec/00_scope.md R5, R11 to R13). -/

namespace Sys2Proof.Machine

/-- The field of `width` bits from bit `lo` of a word, as a number. -/
def fieldOf (v : Word) (lo width : Nat) : Nat := (v.toNat >>> lo) % 2 ^ width

/-- The word with that field holding the low `width` bits of `x`; every other bit is kept. -/
def withField (v : Word) (lo width x : Nat) : Word :=
  let mask : Word := BitVec.ofNat 32 ((2 ^ width - 1) <<< lo)
  (v &&& ~~~mask) ||| (BitVec.ofNat 32 ((x % 2 ^ width) <<< lo))

/-- Bits `lo` to `lo + width − 1` of a number. -/
def natBits (v lo width : Nat) : Nat := (v >>> lo) % 2 ^ width

/-- One bit of a number. -/
def natBit (v k : Nat) : Bool := natBits v k 1 == 1

/-- The number with bit `k` set or cleared. -/
def natSetBit (v k : Nat) (b : Bool) : Nat :=
  if natBit v k == b then v else if b then v + 2 ^ k else v - 2 ^ k

/-- 1 for true. -/
def b2n (b : Bool) : Nat := if b then 1 else 0

/-- A number read as two's complement on `w` bits. -/
def toSigned (w v : Nat) : Int := if v % 2 ^ w < 2 ^ (w - 1) then (v % 2 ^ w : Nat) else ((v % 2 ^ w : Nat) : Int) - 2 ^ w

/-- The low `w` bits of an integer, two's complement. -/
def ofSigned (w : Nat) (v : Int) : Nat := (v % (2 ^ w : Int)).toNat

/-- Byte `k` of a byte list, 0 past its end. -/
def byteAt (bs : List Byte) (k : Nat) : Nat :=
  match bs[k]? with
  | some b => b.toNat
  | none => 0

/-- The little-endian number of `n` bytes at offset `k` (R5). -/
def leAt (bs : List Byte) (k : Nat) : Nat → Nat
  | 0 => 0
  | n + 1 => byteAt bs k + 256 * leAt bs (k + 1) n

/-- The `n` little-endian bytes of a number (R5). -/
def leBytes (v : Nat) : Nat → List Byte
  | 0 => []
  | n + 1 => BitVec.ofNat 8 v :: leBytes (v / 256) n

/-- The bytes of a list of registers words, each little-endian. -/
def leWords : List Word → List Byte
  | [] => []
  | w :: ws => leBytes w.toNat 4 ++ leWords ws

/-- `n` bytes from offset `k`, zeros past the end. -/
def slice (bs : List Byte) (k n : Nat) : List Byte := (List.range n).map fun j => BitVec.ofNat 8 (byteAt bs (k + j))

/-- Zero bytes. -/
def zeros (n : Nat) : List Byte := List.replicate n 0

/-- The list padded with zero bytes to at least `n` bytes. -/
def padTo (n : Nat) (bs : List Byte) : List Byte := bs ++ zeros (n - bs.length)

/-- The list padded with zero bytes to a multiple of `n` bytes. -/
def padMul (n : Nat) (bs : List Byte) : List Byte := bs ++ zeros ((n - bs.length % n) % n)

/-- Floor division by a power of two of a possibly negative integer (R12: >>). -/
def shr (x : Int) (n : Nat) : Int := Int.fdiv x (2 ^ n)

/-- rnd(x, n) of R12: (x + 2^(n−1)) >> n; n = 0 leaves x. -/
def rnd (x : Int) (n : Nat) : Int := if n = 0 then x else shr (x + 2 ^ (n - 1)) n

/-- sat(x, lo, hi) of R12. -/
def sat (x lo hi : Int) : Int := if x < lo then lo else if x > hi then hi else x

/-- A count that saturates on `w` bits. -/
def satCount (w v : Nat) : Nat := if v < 2 ^ w then v else 2 ^ w - 1

/-- Whether every element of a Boolean list holds. -/
def allTrue (l : List Bool) : Bool := l.all id

/-- Replaces the element at an index. -/
def setAt {α : Type} (l : List α) (k : Nat) (v : α) : List α := l.set k v

/-- Changes the element at an index. -/
def modAt {α : Type} (l : List α) (k : Nat) (f : α → α) : List α := l.modify k f

/-- The element at an index, or the given one past the end. -/
def nth {α : Type} (l : List α) (k : Nat) (dflt : α) : α := l.getD k dflt

end Sys2Proof.Machine
end

