-- ==== Sys2Proof/Machine/Crc.lean ====
section
/-! DEFINITION. The check values of the spec: the four CRCs of R381, the CRC-8 of the training marker (R125), and
SHA-256, which R340 to R353 name (FIPS 180-4; PRESUMED, log entry 10). -/

namespace Sys2Proof.Machine

/-- One of the CRCs of R381: width, polynomial, initial value, reflection, final XOR. -/
structure CrcSpec where
  width : Nat
  poly : Nat
  init : Nat
  refl : Bool
  xorOut : Nat
  deriving DecidableEq, Repr

/-- The CRC that POLY selects (R381). -/
def crcSpec (poly : Nat) : CrcSpec :=
  match poly with
  | 0 => ⟨32, 0x04C11DB7, 0xFFFFFFFF, true, 0xFFFFFFFF⟩
  | 1 => ⟨32, 0x1EDC6F41, 0xFFFFFFFF, true, 0xFFFFFFFF⟩
  | 2 => ⟨16, 0x1021, 0xFFFF, false, 0x0000⟩
  | _ => ⟨8, 0x07, 0x00, false, 0x00⟩

/-- The bits of `v` in reverse order on `w` bits. -/
def revBits (v : Nat) : Nat → Nat
  | 0 => 0
  | w + 1 => (v % 2) * 2 ^ w + revBits (v / 2) w

/-- One step of the shift register over one bit, most significant bit first. -/
def crcBit (c : CrcSpec) (s : Nat) (b : Nat) : Nat :=
  let top := (s >>> (c.width - 1)) % 2
  let s1 := (s * 2) % 2 ^ c.width
  if (top + b) % 2 = 1 then s1 ^^^ c.poly else s1

/-- Eight steps over a byte's bits, most significant first. -/
def crcByteMsb (c : CrcSpec) (s byte : Nat) : Nat :=
  [7, 6, 5, 4, 3, 2, 1, 0].foldl (fun s k => crcBit c s ((byte >>> k) % 2)) s

/-- One bit of a reflected CRC, whose register is held bit-reversed. -/
def crcReflBit (rpoly s : Nat) : Nat := if s % 2 = 1 then (s / 2) ^^^ rpoly else s / 2

/-- A byte of a reflected CRC: least significant bit first. -/
def crcByteRefl (c : CrcSpec) (s byte : Nat) : Nat :=
  let rp := revBits c.poly c.width
  let f := crcReflBit rp
  f (f (f (f (f (f (f (f (s ^^^ byte))))))))

/-- The state after a byte (R381). The state of a reflected CRC is the register as RESULT shows it before the final
XOR. -/
def crcByte (c : CrcSpec) (s byte : Nat) : Nat := if c.refl then crcByteRefl c s byte else crcByteMsb c s byte

/-- The state after a list of bytes. -/
def crcFeed (c : CrcSpec) (s : Nat) (bs : List Byte) : Nat := bs.foldl (fun s b => crcByte c s b.toNat) s

/-- The CRC of a list of bytes (R381). -/
def crcOf (c : CrcSpec) (bs : List Byte) : Nat := crcFeed c c.init bs ^^^ c.xorOut

/-- CRC-32C (R63). -/
def crc32c (bs : List Byte) : Nat := crcOf (crcSpec 1) bs

/-- CHK of an INFO word: CRC-8 over bits 23 to 0, most significant first (R125). -/
def markerChk (info : Nat) : Nat :=
  [23, 22, 21, 20, 19, 18, 17, 16, 15, 14, 13, 12, 11, 10, 9, 8, 7, 6, 5, 4, 3, 2, 1, 0].foldl
    (fun s k => crcBit (crcSpec 3) s ((info >>> k) % 2)) 0

/-! SHA-256 (FIPS 180-4). -/

/-- The eight 32-bit words of a 256-bit number, the most significant first. -/
def words256 (v : Nat) : List Nat := (List.range 8).map fun i => v >>> (32 * (7 - i)) % 2 ^ 32

/-- Its 64 round constants, eight to a number. -/
def shaK : List Nat :=
  List.flatMap words256
    [0x428a2f9871374491b5c0fbcfe9b5dba53956c25b59f111f1923f82a4ab1c5ed5,
     0xd807aa9812835b01243185be550c7dc372be5d7480deb1fe9bdc06a7c19bf174,
     0xe49b69c1efbe47860fc19dc6240ca1cc2de92c6f4a7484aa5cb0a9dc76f988da,
     0x983e5152a831c66db00327c8bf597fc7c6e00bf3d5a7914706ca635114292967,
     0x27b70a852e1b21384d2c6dfc53380d13650a7354766a0abb81c2c92e92722c85,
     0xa2bfe8a1a81a664bc24b8b70c76c51a3d192e819d6990624f40e3585106aa070,
     0x19a4c1161e376c082748774c34b0bcb5391c0cb34ed8aa4a5b9cca4f682e6ff3,
     0x748f82ee78a5636f84c878148cc7020890befffaa4506cebbef9a3f7c67178f2]

/-- Its eight working values. -/
structure ShaState where
  a : Word
  b : Word
  c : Word
  d : Word
  e : Word
  f : Word
  g : Word
  h : Word
  deriving DecidableEq, Repr

/-- The initial hash value: the working values in one 256-bit number, a first. -/
def shaInit : ShaState :=
  let w (i : Nat) : Word := BitVec.ofNat 32 (nth (words256 0x6a09e667bb67ae853c6ef372a54ff53a510e527f9b05688c1f83d9ab5be0cd19) i 0)
  ⟨w 0, w 1, w 2, w 3, w 4, w 5, w 6, w 7⟩

/-- One round with its schedule word plus constant. -/
def shaRound (s : ShaState) (kw : Word) : ShaState :=
  let s1 := s.e.rotateRight 6 ^^^ s.e.rotateRight 11 ^^^ s.e.rotateRight 25
  let ch := (s.e &&& s.f) ^^^ (~~~s.e &&& s.g)
  let t1 := s.h + s1 + ch + kw
  let s0 := s.a.rotateRight 2 ^^^ s.a.rotateRight 13 ^^^ s.a.rotateRight 22
  let maj := (s.a &&& s.b) ^^^ (s.a &&& s.c) ^^^ (s.b &&& s.c)
  ⟨t1 + (s0 + maj), s.a, s.b, s.c, s.d + t1, s.e, s.f, s.g⟩

/-- `n` more words of the message schedule; the list holds the words so far, newest first. -/
def shaExpand : Nat → List Word → List Word
  | 0, w => w
  | n + 1, w =>
    let w2 := w.getD 1 0
    let w15 := w.getD 14 0
    let s0 := w15.rotateRight 7 ^^^ w15.rotateRight 18 ^^^ (w15 >>> 3)
    let s1 := w2.rotateRight 17 ^^^ w2.rotateRight 19 ^^^ (w2 >>> 10)
    shaExpand n ((s1 + w.getD 6 0 + s0 + w.getD 15 0) :: w)

/-- The big-endian words of a list of bytes. -/
def beWords : Nat → List Byte → List Word
  | 0, _ => []
  | n + 1, bs =>
    BitVec.ofNat 32 (byteAt bs 0 * 0x1000000 + byteAt bs 1 * 0x10000 + byteAt bs 2 * 0x100 + byteAt bs 3) ::
      beWords n (bs.drop 4)

/-- One 64-byte block. -/
def shaBlock (s : ShaState) (block : List Byte) : ShaState :=
  let ws := (shaExpand 48 (beWords 16 block).reverse).reverse
  let r := (ws.zip shaK).foldl (fun t wk => shaRound t (wk.1 + BitVec.ofNat 32 wk.2)) s
  ⟨s.a + r.a, s.b + r.b, s.c + r.c, s.d + r.d, s.e + r.e, s.f + r.f, s.g + r.g, s.h + r.h⟩

/-- `n` blocks in turn. -/
def shaBlocks : Nat → List Byte → ShaState → ShaState
  | 0, _, s => s
  | n + 1, bs, s => shaBlocks n (bs.drop 64) (shaBlock s (bs.take 64))

/-- The bytes of a number, most significant first. -/
def beBytes (v n : Nat) : List Byte := (leBytes v n).reverse

/-- SHA-256 of a list of bytes, 32 bytes. -/
def sha256 (bs : List Byte) : List Byte :=
  let l := bs.length
  let pad := (119 - l % 64) % 64
  let m := bs ++ [0x80] ++ zeros pad ++ beBytes (8 * l) 8
  let s := shaBlocks (m.length / 64) m shaInit
  beBytes s.a.toNat 4 ++ beBytes s.b.toNat 4 ++ beBytes s.c.toNat 4 ++ beBytes s.d.toNat 4 ++
  beBytes s.e.toNat 4 ++ beBytes s.f.toNat 4 ++ beBytes s.g.toNat 4 ++ beBytes s.h.toNat 4

end Sys2Proof.Machine
end

