-- ==== Sys2Proof/Config.lean ====
section
/-! DEFINITION. What an implementation fixes and the spec leaves open: constants and functions without a body, so that a
statement holds whatever they are (log entries 3 and 9). A free value is one of these functions applied to the counter
`free` of the state. -/

namespace Sys2Proof.Config

/-- The free values that the machine draws, by their number (log entry 3). -/
opaque freeValue : Nat → Nat

/-- DEVICE_ID of the silicon (R345). -/
opaque deviceId : BitVec 64

/-- Silicon revision, HIF_ID.REV (R85). -/
opaque revision : BitVec 8

/-- SHA-256 of the trusted ROM (R347). -/
opaque romHash : Nat → BitVec 8

/-- The 56-byte identity public key, created at production (R345). -/
opaque identityKey : List (BitVec 8)

/-- The signature of Hokudjasha's production key in the certificate, at most 4,992 bytes (R345, R347). -/
opaque productionSignature : List (BitVec 8)

/-- The HSS public key in the boot ROM, key slot 0 (R334). -/
opaque slot0Key : List (BitVec 8)

/-- The hash values of the identity signature made with a leaf over a message, 88 of 32 bytes (R333, R346): the private key
is not for the spec to give. -/
opaque lmsSign : Nat → List (BitVec 8) → List (BitVec 8)

/-- The servo that sets TRIM from the filtered rate (R191): the trim in force, and the offset in ns, to the new trim. -/
opaque servoTrim : Int → Int → Int

/-- The mean path delay filter of a PTP instance (R189): the value held and a new measurement in ns. -/
opaque delayFilter : Nat → Int → Nat

/-- What adaptation sets in a receiver (R147): the continuous-time linear equaliser, 12 taps of the feed-forward equaliser
and 1 of the decision-feedback equaliser. -/
structure Taps where
  ctle : Int
  ffe : Vector Int 12
  dfe : Int
  deriving DecidableEq, Repr, Inhabited

/-- The default adaptation taps of a receiver (R141). -/
opaque defaultTaps : Taps

/-- One least-mean-squares adaptation of the equalisers (R147): whether the step is μ (true) or μ/16 (R148), the taps, and a
number that stands for the samples that the receiver saw, which the state does not hold. -/
opaque lms : Bool → Taps → Nat → Taps

/-- The interval of Delay_Req or Pdelay_Req that a profile sets, in seconds as a power of two (R189): ST 2059-2 or the default
profile, and P2P or E2E. -/
opaque delayInterval : Bool → Bool → Int

/-- How many cells the forwarding buffer of a tile holds (R169): at least the 12 from which idle cells are dropped. -/
opaque forwardDepth : Nat

/-- How management firmware migrates a settings block whose VERSION is below the schema's (R359): block number, old version,
new version and body, to the migrated body; `none` when the block cannot be migrated. -/
opaque migrate : Nat → Nat → Nat → List (BitVec 8) → Option (List (BitVec 8))

/-- The firmware's default of a settings block that cannot be migrated (R359): block number and version, to the body. -/
opaque settingDefault : Nat → Nat → List (BitVec 8)

/-- The median of an even number of readings, from the two middle ones (R318 gives RUNS from 3 to 7 and no rule for an
even count). -/
opaque evenMedian : Int → Int → Int

/-- What a field of that many bits holds for a result outside its range, where the spec says neither that the result
saturates nor that it wraps. -/
opaque outOfRange : Nat → Int → Nat

end Sys2Proof.Config
end

