-- ==== Sys2Proof/Machine/Flags.lean ====
section
/-! DEFINITION. The codes that the device reports: completion STATUS values (R69, R104, R179, R208, R300, R330, R364,
R379) and the codes and severities of the events (R368, R417). -/

namespace Sys2Proof.Machine

/-- R69. -/
def ST_OK : Nat := 0x0000
/-- R69. -/
def ST_DESC_CRC : Nat := 0x0001
/-- R69. -/
def ST_BAD_OPCODE : Nat := 0x0002
/-- R69. -/
def ST_BAD_PARAM : Nat := 0x0003
/-- R69. -/
def ST_UNREACHABLE : Nat := 0x0004
/-- R69. -/
def ST_TIMEOUT : Nat := 0x0005
/-- R69. -/
def ST_REMOTE_FAULT : Nat := 0x0006
/-- R69. -/
def ST_DMA_ERR : Nat := 0x0007
/-- R69. -/
def ST_ABORTED : Nat := 0x0008
/-- R69. -/
def ST_DATA_CRC : Nat := 0x0009
/-- R69. -/
def ST_PENDING : Nat := 0x000A
/-- R104. -/
def ST_FLIP_REJECT_CRC : Nat := 0x0100
/-- R104. -/
def ST_FLIP_REJECT_DESC : Nat := 0x0101
/-- R104. -/
def ST_FLIP_REJECT_MODE : Nat := 0x0102
/-- R104. -/
def ST_FLIP_REJECT_TIME : Nat := 0x0103
/-- R104. -/
def ST_FLIP_REJECT_ORDER : Nat := 0x0104
/-- R104. -/
def ST_FLIP_REJECT_GUARD : Nat := 0x0105
/-- R104. -/
def ST_FLIP_REJECT_LAYERS : Nat := 0x0106
/-- R104. -/
def ST_FLIP_REJECT_SCALER : Nat := 0x0107
/-- R104. -/
def ST_FLIP_REJECT_LINEBUF : Nat := 0x0108
/-- R104. -/
def ST_FLIP_REJECT_STORE : Nat := 0x0109
/-- R104. -/
def ST_FLIP_REJECT_RATIO : Nat := 0x010A
/-- R104. -/
def ST_LAYER_HELD : Nat := 0x0180
/-- R104. -/
def ST_LAYER_FORMAT : Nat := 0x0181
/-- R104. -/
def ST_LAYER_FLUSHED : Nat := 0x0182
/-- R104. -/
def ST_LAYER_UNUSED : Nat := 0x0183
/-- R179. -/
def ST_LINK_DOWN : Nat := 0x0200
/-- R179. -/
def ST_PORT_IDLE : Nat := 0x0201
/-- R208. -/
def ST_TIME_BUSY : Nat := 0x0210
/-- R208. -/
def ST_TIME_RANGE : Nat := 0x0211
/-- R300. -/
def ST_TWIN_REJECT : Nat := 0x0400
/-- R300. -/
def ST_TWIN_STATE : Nat := 0x0401
/-- R300. -/
def ST_TWIN_NOT_SYNCED : Nat := 0x0402
/-- R300. -/
def ST_TWIN_REFUSED : Nat := 0x0403
/-- R300. -/
def ST_TWIN_SWAP_FAIL : Nat := 0x0404
/-- R330. -/
def ST_CAL_PRECOND : Nat := 0x0500
/-- R330. -/
def ST_CAL_DISAGREE : Nat := 0x0501
/-- R330. -/
def ST_CAL_RANGE : Nat := 0x0502
/-- R330. -/
def ST_CAL_BUSY : Nat := 0x0503
/-- R330. -/
def ST_CAL_ABORTED : Nat := 0x0504
/-- R330. -/
def ST_CAL_NVM : Nat := 0x0505
/-- R364. -/
def ST_UPDATE_BUSY : Nat := 0x0600
/-- R364. -/
def ST_UPDATE_REFUSED : Nat := 0x0601
/-- R364. -/
def ST_SIG_FAIL : Nat := 0x0602
/-- R364. -/
def ST_SVN_LOW : Nat := 0x0603
/-- R364. -/
def ST_STAGE_ORDER : Nat := 0x0604
/-- R364. -/
def ST_CHUNK_HASH : Nat := 0x0605
/-- R364. -/
def ST_NOT_READY : Nat := 0x0606
/-- R364. -/
def ST_TOO_LATE : Nat := 0x0607
/-- R364. -/
def ST_TOKEN_BAD : Nat := 0x0608
/-- R364. -/
def ST_LMS_EXHAUSTED : Nat := 0x0609
/-- R364. -/
def ST_NO_LEASE : Nat := 0x060A
/-- R364. -/
def ST_ENROLL_DENIED : Nat := 0x060B
/-- R364. -/
def ST_SOURCE_MISMATCH : Nat := 0x060C
/-- R379. -/
def ST_REC_NO_TOKEN : Nat := 0x0700
/-- R379. -/
def ST_REC_NVM : Nat := 0x0701

/-- An event: its code and its severity (R367, R368). -/
structure EvCode where
  code : Nat
  sev : Nat
  deriving DecidableEq, Repr

/-- R368. -/
def EV_FRAME_HELD : EvCode := ⟨0x0000, 3⟩
/-- R368. -/
def EV_EVT_RING_OVF : EvCode := ⟨0x0100, 3⟩
/-- R368. -/
def EV_FLIP_DEFER : EvCode := ⟨0x0200, 2⟩
/-- R368. -/
def EV_LAYER_ABANDON : EvCode := ⟨0x0201, 4⟩
/-- R368. -/
def EV_LAYER_FORMAT : EvCode := ⟨0x0202, 4⟩
/-- R368. -/
def EV_MODE_CHANGE : EvCode := ⟨0x0203, 1⟩
/-- R368. -/
def EV_LAYER_SUBST : EvCode := ⟨0x0204, 3⟩
/-- R368. -/
def EV_LANE_UP : EvCode := ⟨0x0300, 1⟩
/-- R368. -/
def EV_LANE_DOWN : EvCode := ⟨0x0301, 4⟩
/-- R368. -/
def EV_LANE_NOLOCK : EvCode := ⟨0x0302, 4⟩
/-- R368. -/
def EV_LANE_GUARD : EvCode := ⟨0x0303, 3⟩
/-- R368. -/
def EV_REF_HOLDOVER : EvCode := ⟨0x0304, 4⟩
/-- R368. -/
def EV_REF_SWITCH : EvCode := ⟨0x0305, 2⟩
/-- R368. -/
def EV_XPT_OVERLONG : EvCode := ⟨0x0400, 4⟩
/-- R368. -/
def EV_XPT_RENUM : EvCode := ⟨0x0401, 2⟩
/-- R368. -/
def EV_XPT_TRUNC : EvCode := ⟨0x0402, 4⟩
/-- R368. -/
def EV_FRAME_MISSING : EvCode := ⟨0x0403, 3⟩
/-- R368. -/
def EV_TIME_STEP : EvCode := ⟨0x0500, 3⟩
/-- R368. -/
def EV_TIME_PTP_STATE : EvCode := ⟨0x0501, 2⟩
/-- R368. -/
def EV_TIME_DOMAIN : EvCode := ⟨0x0502, 3⟩
/-- R368. -/
def EV_TIME_NOPATH : EvCode := ⟨0x0503, 3⟩
/-- R368. -/
def EV_TIME_HOLDOVER : EvCode := ⟨0x0504, 3⟩
/-- R368. -/
def EV_TIME_SURVEY_FAIL : EvCode := ⟨0x0505, 3⟩
/-- R368. -/
def EV_TIME_RETIME : EvCode := ⟨0x0506, 3⟩
/-- R368. -/
def EV_TIME_QFLUSH : EvCode := ⟨0x0507, 4⟩
/-- R368. -/
def EV_CMP_FP_SWITCH : EvCode := ⟨0x0600, 1⟩
/-- R368. -/
def EV_CMP_RECLAIM : EvCode := ⟨0x0601, 3⟩
/-- R368. -/
def EV_CMP_STORE_FULL : EvCode := ⟨0x0602, 4⟩
/-- R368. -/
def EV_GUARD_FAIL : EvCode := ⟨0x0603, 5⟩
/-- R368. -/
def EV_COR_CANVAS_MISMATCH : EvCode := ⟨0x0700, 3⟩
/-- R368. -/
def EV_COR_TSRC_FALLBACK : EvCode := ⟨0x0701, 3⟩
/-- R368. -/
def EV_COR_SET_STAGED : EvCode := ⟨0x0702, 1⟩
/-- R368. -/
def EV_COR_SET_SWITCH : EvCode := ⟨0x0703, 1⟩
/-- R368. -/
def EV_COR_NO_SET : EvCode := ⟨0x0704, 4⟩
/-- R368. -/
def EV_COR_MAP_MISMATCH : EvCode := ⟨0x0705, 3⟩
/-- R368. -/
def EV_GRY_FADE_DONE : EvCode := ⟨0x0800, 1⟩
/-- R368. -/
def EV_GRY_TSRC_FALLBACK : EvCode := ⟨0x0801, 3⟩
/-- R368. -/
def EV_DIAG_LAMP : EvCode := ⟨0x0A00, 3⟩
/-- R368. -/
def EV_DIAG_PIN : EvCode := ⟨0x0A01, 4⟩
/-- R368. -/
def EV_DIAG_ROW_OPEN : EvCode := ⟨0x0A02, 4⟩
/-- R368. -/
def EV_DIAG_EVT_OVF : EvCode := ⟨0x0A03, 3⟩
/-- R368. -/
def EV_TWIN_SRC_CHANGE : EvCode := ⟨0x0B00, 3⟩
/-- R368. -/
def EV_TWIN_PAIR_MISMATCH : EvCode := ⟨0x0B01, 4⟩
/-- R368. -/
def EV_TWIN_OUT_OF_STEP : EvCode := ⟨0x0B02, 3⟩
/-- R368. -/
def EV_TWIN_TAKEOVER : EvCode := ⟨0x0B03, 5⟩
/-- R368. -/
def EV_TWIN_LINK_LOST : EvCode := ⟨0x0B04, 4⟩
/-- R368. -/
def EV_TWIN_PARTIAL : EvCode := ⟨0x0B05, 4⟩
/-- R368. -/
def EV_TWIN_PARTIAL_END : EvCode := ⟨0x0B06, 2⟩
/-- R368. -/
def EV_TWIN_DEMOTE : EvCode := ⟨0x0B07, 4⟩
/-- R368. -/
def EV_TWIN_PRI_CONFLICT : EvCode := ⟨0x0B08, 4⟩
/-- R368. -/
def EV_TWIN_SWAP_FAIL : EvCode := ⟨0x0B09, 4⟩
/-- R368. -/
def EV_TWIN_RECONCILE : EvCode := ⟨0x0B0A, 3⟩
/-- R368. -/
def EV_THM_SENSOR_FAULT : EvCode := ⟨0x0C00, 4⟩
/-- R368. -/
def EV_THM_NTC_INVALID : EvCode := ⟨0x0C01, 3⟩
/-- R368. -/
def EV_THM_WARN : EvCode := ⟨0x0C02, 3⟩
/-- R368. -/
def EV_THM_WARN_CLEAR : EvCode := ⟨0x0C03, 1⟩
/-- R368. -/
def EV_THM_THROTTLE : EvCode := ⟨0x0C04, 3⟩
/-- R368. -/
def EV_THM_SHUTDOWN : EvCode := ⟨0x0C05, 5⟩
/-- R368. -/
def EV_CAL_ABORT : EvCode := ⟨0x0D00, 3⟩
/-- R368. -/
def EV_CAL_DISAGREE : EvCode := ⟨0x0D01, 3⟩
/-- R368. -/
def EV_CAL_DONE : EvCode := ⟨0x0D02, 1⟩
/-- R368. -/
def EV_CAL_SINK_RANGE : EvCode := ⟨0x0D03, 3⟩
/-- R368. -/
def EV_CAL_FACTORY : EvCode := ⟨0x0D04, 3⟩
/-- R368. -/
def EV_CAL_NO_RECORD : EvCode := ⟨0x0D05, 4⟩
/-- R368. -/
def EV_SEC_ENROLLED : EvCode := ⟨0x0E00, 2⟩
/-- R368. -/
def EV_SEC_FALLBACK : EvCode := ⟨0x0E01, 5⟩
/-- R368. -/
def EV_UPD_MIXED : EvCode := ⟨0x0E02, 4⟩
/-- R368. -/
def EV_UPD_DONE : EvCode := ⟨0x0E03, 1⟩
/-- R368. -/
def EV_SET_DEFAULTED : EvCode := ⟨0x0E04, 3⟩
/-- R368. -/
def EV_REC_LOST : EvCode := ⟨0x0F00, 4⟩
/-- R368. -/
def EV_REC_CLEARED : EvCode := ⟨0x0F01, 2⟩
/-- R368. -/
def EV_REC_MARK : EvCode := ⟨0x0F02, 0⟩
/-- R368. -/
def EV_MBX_CROSS : EvCode := ⟨0x1100, 3⟩
/-- R368. -/
def EV_FAB_UNDERRUN : EvCode := ⟨0x1300, 4⟩
/-- R368. -/
def EV_FAB_PARITY : EvCode := ⟨0x1301, 4⟩
/-- R417. -/
def EV_GEN_RESET : EvCode := ⟨0x0010, 2⟩
/-- R417. -/
def EV_GEN_READY : EvCode := ⟨0x0011, 1⟩
/-- R417. -/
def EV_GEN_WATCHDOG : EvCode := ⟨0x0012, 4⟩
/-- R417. -/
def EV_GEN_BKUP : EvCode := ⟨0x0013, 3⟩
/-- R417. -/
def EV_GEN_MOTION : EvCode := ⟨0x0014, 2⟩
/-- R417. -/
def EV_AON_DORMANT : EvCode := ⟨0x1200, 1⟩
/-- R417. -/
def EV_AON_WAKE : EvCode := ⟨0x1201, 1⟩
/-- R417. -/
def EV_AON_DORM_REFUSED : EvCode := ⟨0x1202, 3⟩

/-- REC_MARK with the severity that its command gives (R379). -/
def evRecMark (sev : Nat) : EvCode := ⟨EV_REC_MARK.code, sev⟩

/-! The states of a port, LANE_x_STAT.STATE (R150). -/

def P_DOWN : Nat := 0
def P_REFWAIT : Nat := 1
def P_TRAIN : Nat := 2
def P_GO : Nat := 3
def P_LS0 : Nat := 4
def P_RECOVER : Nat := 5
def P_LS1 : Nat := 6
def P_LS2 : Nat := 7
def P_TXONLY : Nat := 8
def P_LISTEN : Nat := 9

/-! TIME_STAT.STATE (R209). -/

def T_FREE : Nat := 0
def T_LOCKED : Nat := 1
def T_HOLDOVER : Nat := 2

/-! TWIN_STAT.STATE and the port modes (R301, R283). -/

def W_INIT : Nat := 0
def W_STANDBY : Nat := 1
def W_ACTIVE : Nat := 2
def M_LISTEN : Nat := 0
def M_PRIME : Nat := 1
def M_FEED : Nat := 2

/-! The interrupt causes (R82). -/

def IRQ_CPL : Nat := 0
def IRQ_EVT : Nat := 1
def IRQ_MBX : Nat := 2
def IRQ_RING_ERR : Nat := 3
def IRQ_TWIN : Nat := 4
def IRQ_TIME : Nat := 5

/-! Completion kinds (R68). -/

def K_CMD_DONE : Nat := 0x01
def K_BULK_DONE : Nat := 0x02
def K_FLIP_ACCEPT : Nat := 0x10
def K_FLIP_REJECT : Nat := 0x11
def K_LAYER_RETIRE : Nat := 0x12

/-! Packet types (R159) and CMD kinds (R164). -/

def PT_BLOCK : Nat := 1
def PT_FLIP_HDR : Nat := 2
def PT_CMD : Nat := 3
def PT_RSP : Nat := 4
def PT_TIME : Nat := 5
def PT_PRESENT : Nat := 6
def PT_EVENT : Nat := 7
def PT_HEARTBEAT : Nat := 8
def PT_WITNESS : Nat := 9
def PT_UPDATE : Nat := 10
def CK_DESC : Nat := 0
def CK_BULK_OPEN : Nat := 1
def CK_BULK_DATA : Nat := 2
def CK_BULK_PULL : Nat := 3
def CK_ENUM : Nat := 4

/-! Bulk objects (R67). -/

def OB_MGMT_STAGE : Nat := 0x0001
def OB_UCODE_DELTA : Nat := 0x0002
def OB_MANIFEST : Nat := 0x0003
def OB_ATTEST : Nat := 0x0004
def OB_COEF_SET : Nat := 0x0010
def OB_SAFE_IMAGE : Nat := 0x0011
def OB_LAMP_MAP : Nat := 0x0020
def OB_MEAS : Nat := 0x0021
def OB_REC_DUMP : Nat := 0x0030
def OB_SETTINGS : Nat := 0x0040

/-! The causes of the latest reset (R400). -/

def RC_POWER_ON : Nat := 0
def RC_RESET_N : Nat := 1
def RC_PWR_GOOD : Nat := 2
def RC_BROWN_OUT : Nat := 3
def RC_SOFTWARE : Nat := 4
def RC_SHUTDOWN : Nat := 5
def RC_PARITY : Nat := 6
def RC_WATCHDOG : Nat := 7
def RC_DORMANT : Nat := 8
def RC_CORES : Nat := 9

end Sys2Proof.Machine
end

