-- ==== Sys2Proof/Machine/Cells.lean ====
section
/-! DEFINITION. Sparse stores held as plain data: the register file, the frame store, the source store, the recorder.
A store is a list of (address, value) pairs in one canonical form: addresses strictly rise, and no pair holds what an
unlisted address reads as. What an unlisted address reads as is the argument `dflt` of each operation. -/

namespace Sys2Proof.Machine

/-- A sparse store of values of one type. -/
abbrev Cells (α : Type) := List (Nat × α)

/-- What address `a` reads as. -/
def Cells.read {α : Type} (dflt : Nat → α) : Cells α → Nat → α
  | [], a => dflt a
  | (b, v) :: rest, a => if b = a then v else Cells.read dflt rest a

/-- The store without an entry at `a`. -/
def Cells.erase {α : Type} (c : Cells α) (a : Nat) : Cells α := c.filter fun e => e.1 != a

/-- Puts an entry at its place in the rising order, over one that stands there. -/
def Cells.insert {α : Type} : Cells α → Nat → α → Cells α
  | [], a, v => [(a, v)]
  | (b, w) :: rest, a, v =>
    if a < b then (a, v) :: (b, w) :: rest
    else if a = b then (a, v) :: rest
    else (b, w) :: Cells.insert rest a v

/-- Writes `v` at `a`; the entry goes when `v` is what an unlisted address reads as. -/
def Cells.write {α : Type} [DecidableEq α] (dflt : Nat → α) (c : Cells α) (a : Nat) (v : α) : Cells α :=
  if v = dflt a then Cells.erase c a else Cells.insert c a v

/-- Writes `vs` to the consecutive addresses from `a`. -/
def Cells.writeList {α : Type} [DecidableEq α] (dflt : Nat → α) : Cells α → Nat → List α → Cells α
  | c, _, [] => c
  | c, a, v :: vs => Cells.writeList dflt (Cells.write dflt c a v) (a + 1) vs

/-- The `n` values from address `a` on. -/
def Cells.readList {α : Type} (dflt : Nat → α) (c : Cells α) (a n : Nat) : List α :=
  (List.range n).map fun k => Cells.read dflt c (a + k)

/-- The canonical form: every address is over `lo`, addresses rise, no entry equals the default. -/
def Cells.wfFrom {α : Type} [DecidableEq α] (dflt : Nat → α) : Option Nat → Cells α → Bool
  | _, [] => true
  | lo, (b, v) :: rest =>
    (match lo with | none => true | some l => decide (l < b)) && decide (v ≠ dflt b) && Cells.wfFrom dflt (some b) rest

/-- The canonical form of a whole store. -/
def Cells.wf {α : Type} [DecidableEq α] (dflt : Nat → α) (c : Cells α) : Bool := Cells.wfFrom dflt none c

end Sys2Proof.Machine
end

