-- ==== Sys2Proof/Machine/State.lean ====
section
/-! DEFINITION. The state of the machine as plain data: one record for each part of the device, each field with the rule
that names it, and the state after reset. A time that ends in "At", or is called a tick, is a value of `Clock.ticks`. -/

namespace Sys2Proof.Machine

/-- Why the machine stops with a fault. No command of this block does: the spec gives every command an effect, so the one
constructor is raised by nobody (safe: nothing is proved from it). -/
inductive Fault where
  /-- Raised by nobody. Safe. -/
  | never
  deriving DecidableEq, Repr

/-- Why a command is refused. -/
inductive Refusal where
  /-- The command has no meaning in this model yet; raised by its arm of `exec`. Safe. -/
  | notModelled (mnemonic : String)
  deriving DecidableEq, Repr

/-- What leaves the device at its pins and buses, in order (log entry 6). -/
inductive Out where
  /-- A posted write to host memory (R50). -/
  | hostWrite (addr : Nat) (bytes : List Byte)
  /-- A read request to host memory for a doorbell page, a descriptor or flip slot, a signature table or a fence word (R50,
  R57): its address and length. -/
  | hostRead (addr len : Nat)
  /-- An MSI-X message of a vector: the address and the data of its table entry (R48, R83). -/
  | msix (vector addr data : Nat)
  /-- One codeword pair sent on a port: the 20 cells in slot order (R152) and the line levels of the two lanes (R119). -/
  | pair (port : Nat) (cells : List (List Byte)) (line0 line1 : List Int)
  /-- Training frames sent on a port: the INFO word and the line levels of each lane (R124). -/
  | training (port : Nat) (info0 info1 : Nat) (line0 line1 : List Int)
  /-- The transmitters of a port go electrically idle (R141, R145). -/
  | txIdle (port : Nat)
  /-- A message on the twin link: K28.5 and these bytes (R283, R392). -/
  | yoyo (bytes : List Byte)
  /-- The service port answers a byte or word with NACK (R447, R448). -/
  | svcNack
  /-- The bytes a service-port read returns (R447). -/
  | svcRead (bytes : List Byte)
  /-- The bytes a register read returns to its initiator (R209, R442). -/
  | readValue (bytes : List Byte)
  /-- A read over BAR0 that is larger than a word or crosses one completes with Completer Abort (R442). -/
  | completerAbort
  /-- What the trusted monitor puts in the call window of an index (R344). -/
  | window (index : Nat) (bytes : List Byte)
  /-- A write to a full mailbox is rejected toward its writer (R388). -/
  | mbxReject (m : Nat)
  /-- An interrupt to a mailbox side, for mailbox m: at the management core it goes to, or at the trusted part (R386, R387,
  R389, R390). -/
  | mbxInterrupt (m : Nat) (core : Option Nat)
  /-- PPS_OUT changes level (R193). -/
  | ppsOut (high : Bool)
  /-- A PTP message leaves instance n: 1 Delay_Req, 2 Pdelay_Req; over UDP or on layer 2, its 802.1Q tag, its domain (R189). -/
  | ptp (inst kind : Nat) (udp : Bool) (vlan : Option Nat) (domain : Nat)
  /-- An IGMPv2 report joins the PTP groups, or a leave ends it, from the instance's address (R189, R190). -/
  | ptpGroups (inst : Nat) (join : Bool) (vlan : Option Nat) (addr : Nat)
  /-- An ARP reply for the instance's address to the asker (R189). -/
  | arpReply (inst : Nat) (vlan : Option Nat) (addr asker : Nat)
  /-- ALERT_N is driven low, or released (R416). -/
  | alertN (low : Bool)
  /-- The wake tone on lane 0 of a port, whose lane 1 is idle: the runs, each a level and its number of symbols, that repeat; no
  run when the tone stops (R411). -/
  | tone (port : Nat) (runs : List (Int × Nat))
  /-- NTC_REF is on at 2.500 V, or off (R428). -/
  | ntcRef (on : Bool)
  /-- The reference outputs: 0 stopped, 1 bypass, 2 the cleaned clock (R132). -/
  | refOut (mode : Nat)
  /-- One row slot of the lamp drive (R246, R248, R252 to R255, R258, R312): its row, DADV and RT, the pre-charge codes of
  the columns (`none` without pre-charge), code and RANGE of each bank, the cells of each sink that carry full and quarter
  current (R315), and for each column the start, the steps at full current and the steps at quarter current of its pulse. -/
  | rowSlot (row dadv : Nat) (rt : Int) (pre : Option (List Nat)) (banks cells : List (Nat × Nat))
      (pulses : List (Nat × Nat × Nat))
  /-- The lamp drive goes dark: every sink off and every row gate off (R38, R259). -/
  | driveOff
  /-- A lamp test of a row: DADV and RT, its length, CODE and RANGE of each bank, the cells of each sink, and for each
  column tested the start of its pulse (R263, R312, R315). -/
  | lampTest (row dadv : Nat) (rt : Int) (tp : Nat) (banks cells pulses : List (Nat × Nat))
  /-- A pin test, in the slot of a row: CODE and RANGE of each bank and the cells of each sink, which make the test current,
  and in each half of the window the columns pulled up at VPRE code 0 and those that sink (R266). -/
  | pinTest (row : Nat) (banks cells : List (Nat × Nat)) (halves : List (List Nat × List Nat))
  /-- A calibration measurement of one cell of each sink (R320, R321). -/
  | calMeasure (cell : Nat)
  /-- The drive starts or stops its refreshes (R259). -/
  | pinwheel (running : Bool)
  /-- PCIe link training starts (R84). -/
  | linkTraining
  /-- A data-abort exception is raised in a core: 0 MC0, 1 MC1 (R45). -/
  | dataAbort (core : Nat)
  deriving DecidableEq, Repr

/-- A packet (R157): header and body as bytes. -/
structure RxPkt where
  /-- The port that received it. -/
  port : Nat
  bytes : List Byte
  /-- The device's clock at the first symbol of the pair that carried its first cell, in 2^−16 ns (R196, R198). -/
  tRx : Nat
  deriving DecidableEq, Repr

/-- Who is answered when an operation ends: a LOCAL command or bulk descriptor of the sender, or the sender of a CMD
packet (R176). -/
inductive Waiter where
  | ring (index : Nat)
  | bulk (index : Nat)
  | remote (pkt : RxPkt)
  deriving DecidableEq, Repr

/-- An event record (R366) before it is laid out as bytes. -/
structure EventRec where
  code : Nat
  sev : Nat
  /-- SOURCE, the wall address of the recording device. -/
  source : Nat
  seq : Nat
  secs : Nat
  ns : Nat
  tepoch : Nat
  /-- FLAGS[9:0] (R367). -/
  flags : Nat
  p0 : Nat
  p1 : Nat
  p2 : Nat
  /-- The initiator of the REC_MARK that made it, which waits for its SEQ (R379). -/
  mark : Option Waiter := none
  deriving DecidableEq, Repr

/-- The wall clock (R186, R188, R197). -/
structure Clock where
  /-- Seconds, 48 bits. -/
  sec : Nat
  /-- Nanoseconds, 30 bits, under 10^9. -/
  ns : Nat
  /-- Fraction of a nanosecond, 16 bits. -/
  frac : Nat
  /-- Hidden residue, 16 bits. -/
  res : Nat
  /-- Ticks of 4 ns since power-on: the model's own count of elapsed time (log entry 7). -/
  ticks : Nat
  /-- The correction that a slew has still to apply, in 2^−32 ns (R188). -/
  slewRem : Int
  /-- Tile role: corr(o) of R197, in force until the next TIME is taken. -/
  corr : Int
  /-- Tick of the last TIME taken (R197). -/
  lastTime : Nat
  /-- TIME_NOPATH has been recorded for the present source (R197). -/
  noPathRecorded : Bool
  deriving DecidableEq, Repr

/-- One PTP instance (R189 to R191). -/
structure PtpInst where
  /-- The time-transmitters heard in the instance's domain: their latest Announce and its tick. -/
  heard : List (Announce × Nat)
  /-- The source identity of the selected time-transmitter (BMCA). -/
  selected : Option Nat
  /-- Consecutive offsets within ±100 ns. -/
  within : Nat
  /-- Consecutive offsets outside ±1 µs. -/
  outside : Nat
  /-- Tick at which the instance became LOCKED. -/
  lockedAt : Nat
  /-- The offset of the last Sync, in nanoseconds; `none` once offsets are discarded (R190). -/
  offset : Option Int
  /-- The interval that the time-transmitter has granted, and the tick of the last Delay_Req or Pdelay_Req (R189). -/
  granted : Option Int
  lastReq : Option Nat
  deriving DecidableEq, Repr

/-- A survey of a port (R199). -/
structure Survey where
  /-- Tick by which a survey is due because of an enumeration or a start of transmission; `none` when none is asked for. -/
  due : Option Nat
  /-- Tick of the last start. -/
  last : Nat
  /-- Positions still to probe in the survey that runs. -/
  todo : List Nat
  /-- Tick of the last probe sent. -/
  lastProbe : Nat
  /-- Whether every present position of the port has been surveyed since the port last entered LS0 (R298). -/
  complete : Bool
  /-- Positions written by this survey (TIME_SURVEY's VALUE). -/
  written : Nat
  /-- A position of this survey failed; a result of it saturated. -/
  failed : Bool
  range : Bool
  /-- The index of the TIME_SURVEY descriptor that waits for this survey's end. -/
  waiter : Option Nat
  deriving DecidableEq, Repr

/-- Sender-side timekeeping and PPS (R191 to R193). -/
structure TimeSt where
  clk : Clock
  inst : List PtpInst
  /-- Of the instances that are UNCALIBRATED, the one that reached it first (R191). -/
  uncalFirst : Nat
  /-- Tick of the last PPS_IN edge. -/
  lastPps : Option Nat
  /-- PPS_OUT is high, since this tick. -/
  ppsHigh : Option Nat
  /-- The second or grid instant of the last PPS_OUT pulse, in nanoseconds. -/
  lastPulse : Option Nat
  /-- One survey per port. -/
  surveys : List Survey
  deriving DecidableEq, Repr

/-- One lane of a port (R122, R124, R128, R142 to R148). -/
structure LaneSt where
  /-- Transmit scrambler. -/
  txScr : BitVec 58
  /-- Transmit precoder state p_prev. -/
  txPrev : Nat
  /-- PRBS31 state of the training sequence. -/
  prbs : BitVec 31
  /-- Receive descrambler. -/
  rxScr : BitVec 58
  /-- The receiver's precoder state p_prev (R122). -/
  rxPrev : Nat
  /-- Consecutive valid markers at one symbol position and polarity, and that position and polarity (R128). -/
  markRun : Nat
  markPos : Nat
  markInv : Bool
  /-- The next codeword is the first after a lock and is discarded (R122). -/
  discardFirst : Bool
  /-- Consecutive codewords that failed to decode (R143). -/
  failRun : Nat
  /-- The adaptation taps in use; `none` before the first adaptation (default taps). -/
  taps : Option Config.Taps
  /-- The taps last saved (R148). They survive warm reset and dormancy. -/
  saved : Option Config.Taps
  /-- Tick of the last save. -/
  savedAt : Nat
  /-- Tick since which LIVE has stayed at or above THRESH + HYST; `none` while it is below. -/
  goodSince : Option Nat
  /-- Whether the adaptation step is μ (true) or μ/16 (false): μ in TRAIN, then by the last codeword (R148). -/
  fullStep : Bool
  deriving DecidableEq, Repr

/-- A packet that is being reassembled from its cells (R158, R184). -/
structure Reasm where
  stream : Nat
  /-- DATA bytes so far. -/
  data : List Byte
  /-- Cells so far. -/
  cells : Nat
  /-- Tick of the last cell. -/
  lastCell : Nat
  /-- The device's clock at the pair of the first cell, in 2^−16 ns. -/
  tRx : Nat
  deriving DecidableEq, Repr

/-- What a tile does with the remaining cells of an open packet it forwards (R166, R167). -/
inductive Route where
  | forward | strip | consume
  deriving DecidableEq, Repr

/-- A packet waiting at a sender port (R171). -/
inductive TxPkt where
  /-- A TIME: its cell is formed when it leaves (R194). -/
  | time
  /-- Any other packet, whole. `xid` marks a CMD whose departure is stamped (R176, R198). `frameCell` marks the packets
  of frames (R180). -/
  | bytes (data : List Byte) (xid : Option Nat) (frame : Bool)
  deriving DecidableEq, Repr

/-- A tile's own packet that waits for slots (R170). -/
structure OwnPkt where
  /-- 0 the packet begun, 1 RSP, 2 WITNESS, 3 EVENT. -/
  prec : Nat
  cells : List (List Byte)
  /-- The RSP of a TIME_PROBE: the arrival of its CMD, from which TURN is taken when the packet leaves (R198). -/
  turn : Option Nat
  /-- The EVENT of the record with this SEQ, which stays in the recorder until the packet leaves (R170). -/
  record : Option Nat
  deriving DecidableEq, Repr

/-- One chain port: link state machine, transport and queues. -/
structure PortSt where
  lanes : List LaneSt
  /-- The rate in force, taken at REFWAIT (R127): 0 FULL, 1 HALF. -/
  rate : Nat
  /-- Tick of entry to the present state, or in GO of the end of the own countdown (R141). -/
  since : Nat
  /-- LANE_NOLOCK has been recorded in this stay in TRAIN. -/
  noLockRecorded : Bool
  /-- The lane PLLs have not locked since the port entered REFWAIT: a port that reports LISTEN is then still in REFWAIT
  underneath (R145). -/
  refwait : Bool
  /-- The port is in GO on the TXONLY path. -/
  txonlyPath : Bool
  /-- The own countdown has been sent (R141). -/
  countdownSent : Bool
  /-- The peer's CD = 0 training frame has been received. -/
  peerCd0 : Bool
  /-- Consecutive markers or codewords with RXLOCK = 1 (R141). It is counted, and TRAIN goes to GO on the latest report alone
  (log entry 146). -/
  peerLockRun : Nat
  /-- Those of them that were codewords. -/
  peerLockCw : Nat
  /-- Tick of the first of the consecutive codewords with RXLOCK = 0; `none` when the last had 1. -/
  peerUnlockSince : Option Nat
  /-- Consecutive markers or codewords of lane 0 with the same PMREQ, and that PMREQ. -/
  peerPmRun : Nat
  peerPm : Nat
  /-- The tick since which both receivers have been at LOS; `none` when some lane is not at LOS. -/
  losSince : Option Nat
  /-- SSC has been taken from a marker of the present training of the port (R136). -/
  sscTaken : Bool
  /-- Up to where the port's lanes are filled with the codeword pairs or training frames sent, in 0.8 ns: a slot lasts 128
  at FULL and 256 at HALF (R127; log entry 105). -/
  lineEnd : Nat
  /-- PAIRSEQ of the next pair sent (R153). -/
  pairSeq : Nat
  /-- Open packets received on this port. -/
  open_ : List Reasm
  /-- The route of each stream open at this port. -/
  routes : List (Nat × Route)
  /-- Tile role: the forwarding buffer of the cells that leave by this port (R169); `none` for an idle cell. -/
  fwd : List (Option (List Byte))
  /-- Tile role: own packets that wait for slots, in the precedence of R170. -/
  own : List OwnPkt
  /-- WSEQ of the next WITNESS (R163). -/
  wseq : Nat
  /-- Tick of the last WITNESS, TIME and HEARTBEAT sent. -/
  lastWit : Nat
  lastTimeSent : Nat
  lastHbSent : Nat
  /-- Present time of the last frame launched on the port (R285). -/
  lastLaunch : Nat
  /-- TSEQ and HSEQ (R194, R285). -/
  tseq : Nat
  hseq : Nat
  /-- Sender role: the packet being sent. -/
  cur : Option TxPkt
  /-- Sender role: waiting packets by precedence: TIME, HEARTBEAT, CMD, UPDATE, frames (R171). -/
  txq : List (List TxPkt)
  /-- Tick of the last automatic or R173 enumeration sent on the port (R174, R294). -/
  lastEnum : Option Nat
  /-- A WITNESS with UNASG that asks for an enumeration has been received at this tick (R174, R294). -/
  unasgSeen : Option Nat
  /-- Positions present, with the tick of their latest WITNESS (R175). -/
  present : List (Nat × Nat)
  /-- The BLOCK packets launched for the frame in transport (R162). -/
  blocks : Nat
  /-- The wake tone is being sent since this tick (R411). -/
  toneSince : Option Nat
  deriving DecidableEq, Repr


/-- What an outstanding CMD at a sender belongs to (R176, R178, R198, R199, R353, R358). -/
inductive OutKind where
  /-- A command descriptor. -/
  | desc (index : Nat)
  /-- The BULK_OPEN of a bulk descriptor. -/
  | bulkOpen (index : Nat)
  /-- A BULK_DATA segment; the last one carries the completion status. -/
  | bulkData (index : Nat) (last : Bool)
  /-- A BULK_PULL of `count` bytes at `offset`. -/
  | bulkPull (index offset count : Nat)
  /-- Probe number `n` of a TIME_PROBE descriptor. -/
  | probe (index n : Nat)
  /-- Probe number `n` of a survey of the port. -/
  | survey (n : Nat)
  /-- The REG_WRITE of a surveyed path. -/
  | pathWrite
  /-- The REG_READ of SEC_MFST at a position that became present (R358). -/
  | mixedCheck
  /-- The last UPDATE of a bulk transfer that a sender broadcasts (R351). -/
  | bcast (index : Nat)
  deriving DecidableEq, Repr

/-- A CMD or UPDATE that waits for its RSP (R176). -/
structure OutCmd where
  xid : Nat
  port : Nat
  position : Nat
  kind : OutKind
  /-- Tick of its departure or of its last progress RSP; `none` while it waits in the port's queue (R176, R177). -/
  sentAt : Option Nat
  /-- The sender's clock at the departure of the pair with its first cell, in 2^−16 ns (R198). -/
  t1 : Int
  deriving DecidableEq, Repr

/-- A run of time probes to one position (R198): the sum over the probes done. -/
structure ProbeRun where
  port : Nat
  position : Nat
  /-- `none` for a survey, otherwise the command descriptor's index. -/
  index : Option Nat
  done : Nat
  sum : Int
  deriving DecidableEq, Repr

/-- Where a fetched descriptor stands (R65, R74, R77). -/
inductive Phase where
  /-- Fetched, not started. -/
  | fetched
  /-- Started. -/
  | started
  /-- Its completion waits to be posted. -/
  | finished
  deriving DecidableEq, Repr

/-- A command or bulk descriptor in flight (R64, R67, R74). -/
structure Desc where
  /-- 1 command, 2 bulk. -/
  ring : Nat
  index : Nat
  bytes : List Byte
  phase : Phase
  /-- Data read from host memory for TO_DEVICE, or gathered for FROM_DEVICE. -/
  data : List Byte
  /-- Bytes of the transfer handed to the port or asked for. -/
  sent : Nat
  /-- The target accepted the BULK_OPEN. -/
  opened : Bool
  /-- The operation has ended with this STATUS and VALUE, and an earlier descriptor of the ring to the same target has not
  completed (R73). -/
  result : Option (Nat × Nat)
  deriving DecidableEq, Repr

/-- A completion that waits to be posted (R68, R76). -/
structure Cpl where
  tag : Nat
  status : Nat
  kind : Nat
  /-- RING of FLAGS. -/
  ring : Nat
  index : Nat
  value : Nat
  deriving DecidableEq, Repr

/-- A layer entry of an accepted flip (R98, R107 to R113). -/
structure LayerSt where
  entry : List Byte
  /-- The fence has been seen satisfied. -/
  ready : Bool
  /-- Held in this frame (R109, R111). -/
  held : Bool
  /-- Its LAYER_RETIRE has been generated. -/
  retired : Bool
  deriving DecidableEq, Repr

/-- An accepted flip until its last LAYER_RETIRE (R100, R113). -/
structure Flip where
  index : Nat
  header : List Byte
  layers : List LayerSt
  /-- The expected-signature table without its CRC (R101, R222). -/
  guards : List Byte
  mode : Nat
  /-- The present time, in nanoseconds. -/
  present : Nat
  modeChange : Bool
  /-- Frame periods deferred (R110). -/
  deferred : Nat
  /-- `some n`: launched as launch count n. -/
  launched : Option Nat
  /-- The PRESENT copies have been handed to the ports. -/
  closed : Bool
  /-- Its transport end has been acted on (R181). -/
  ended : Bool
  /-- Ports that send the frame. -/
  ports : List Nat
  /-- Its completions are posted after a reset of the function has dropped its rings (R51). -/
  dropped : Bool
  deriving DecidableEq, Repr

/-- The PCIe function (R47 to R49, R84). -/
structure PcieSt where
  /-- Memory Space Enable and Bus Master Enable. -/
  memEn : Bool
  busEn : Bool
  /-- The base addresses assigned to BAR0 and BAR2. -/
  bar0 : Nat
  bar2 : Nat
  /-- The power state: D3hot (true) or D0. -/
  d3hot : Bool
  /-- AER has logged a Completer Abort. -/
  caLogged : Bool
  /-- What the host has programmed: Device Control (payload size, read request size), the ASPM bits of Link Control, enable
  and function mask of MSI-X, and the ECRC enables of AER. -/
  devCtl : Nat
  linkCtl : Nat
  msixCtl : Nat
  aerCtl : Nat
  /-- The MSI-X table: message address and data of each vector. Its mask bits are `HostSt.vecMask`. -/
  table : List (Nat × Nat)
  deriving DecidableEq, Repr

/-- The host interface of a sender. -/
structure HostSt where
  pcie : PcieSt
  /-- The indices of the rings that the host owns, as last read good: PI of Q0 to Q2, CI of Q3 and Q4. -/
  hostIdx : List Nat
  /-- The indices last written to the shadow page; `none` before the first write since HIF_CTRL.EN was set. -/
  shadow : Option (List Nat)
  /-- SEQ of the next shadow write. -/
  shadowSeq : Nat
  /-- Tick of the last shadow write and of the last doorbell poll. -/
  lastShadow : Option Nat
  lastPoll : Option Nat
  /-- Tick of the last reading of fences (R107). -/
  lastFence : Option Nat
  /-- The run of failed polls (R50). -/
  failRun : Nat
  /-- Command and bulk descriptors in flight, each ring in index order. -/
  descs : List Desc
  /-- Completions waiting to be posted, oldest first. -/
  cpls : List Cpl
  /-- Records that wait for delivery to the Event Ring: the sender's own (R374), and tiles' behind an EVT_RING_OVF. -/
  evtPend : List EventRec
  /-- Records dropped since the last EVT_RING_OVF (R71). -/
  dropped : Nat
  /-- An EVT_RING_OVF has been recorded and is still to be written to the Event Ring. -/
  ovfPend : Bool
  /-- Pending items per cause and the tick of the first of them (R83). -/
  items : List (Nat × Nat)
  /-- MSI-X vectors that are masked. -/
  vecMask : List Bool
  /-- Pending Bit Array. -/
  pba : List Bool
  /-- Accepted flips not yet launched, in order. -/
  queue : List Flip
  /-- Launched flips with layers still to retire or frames in transport. -/
  flying : List Flip
  /-- The flip launched last: present time and mode (R100). -/
  prev : Option (Nat × Nat)
  /-- The sender's launch count (R180). -/
  launchCount : Nat
  /-- Present time of the frame last launched, and its TAG (R283). -/
  lastLaunch : Option (Nat × Nat)
  /-- The XID of the next CMD (R164). -/
  nextXid : Nat
  /-- CMDs and UPDATEs that wait for their RSP. -/
  out : List OutCmd
  probes : List ProbeRun
  /-- A CHAIN_ENUM descriptor that waits: index, port, tick of its ENUM, OVERLONG seen. -/
  enumWait : Option (Nat × Nat × Nat × Bool)
  /-- The PCIe link is in L0. -/
  linkUp : Bool
  /-- PERST_N is deasserted and training runs. -/
  training : Bool
  deriving DecidableEq, Repr

/-- A WITNESS as a sender keeps it for the rules of R279, R291 and R297. -/
structure WitRec where
  port : Nat
  position : Nat
  unasg : Bool
  epoch : Nat
  pri : Bool
  tail : Bool
  valid : Bool
  tick : Nat
  deriving DecidableEq, Repr

/-- A planned swap at this sender (R296 to R298). -/
structure Swap where
  /-- P_s in nanoseconds. -/
  ps : Nat
  /-- This sender was the standby that started it. -/
  mine : Bool
  /-- The ACK has been received, or given. -/
  acked : Bool
  /-- The check of step 5 has passed (R297). -/
  checked : Bool
  /-- The swap instant has passed. -/
  done : Bool
  /-- The TWIN_SWAP descriptor's index. -/
  index : Option Nat
  deriving DecidableEq, Repr

/-- The twin logic of a sender (R278 to R299). TWIN_STAT holds its STATE, SYNCED, YOYO_OK, SWAP_PEND and port modes. -/
structure TwinSt where
  /-- TWIN_CTRL.EN as read on entry to INIT (R290). -/
  en : Bool
  /-- Tick at which HIF_STAT.READY was set, for "decided". -/
  readyAt : Option Nat
  /-- Tick of entry to the present twin state. -/
  since : Nat
  /-- The last valid Yo-yo message received, as bytes; `none` since reset or since entering STANDBY. -/
  peer : Option (List Byte)
  /-- A valid message has been received since entering STANDBY (R279). -/
  peerSinceStandby : Bool
  lastYoyo : Nat
  /-- Consecutive valid messages (R284). -/
  yoyoRun : Nat
  /-- TWIN_PAIR_MISMATCH has been recorded for this run (R283). -/
  mismatchRecorded : Bool
  /-- YSEQ of the next message, and tick of the last one sent. -/
  yseq : Nat
  lastSent : Nat
  /-- A message is to be sent at once. -/
  sendNow : Bool
  /-- REQ that the messages carry. -/
  req : Nat
  /-- Per port: tick of the last peer HEARTBEAT; tick since which they have come without a gap over 2.5 ms. -/
  lastHb : List (Option Nat)
  hbSince : List (Option Nat)
  /-- Per port: tick of the latest arrival at RX_UP = 1 and of the latest arrival in LS0; wall time of entry to FEED. -/
  rxUpAt : List Nat
  ls0At : List Nat
  feedAt : List Nat
  ls0Wall : List Nat
  /-- The WITNESSes of the last 100 ms. -/
  wits : List WitRec
  /-- Per port: tick since which every WITNESS has named the new active. -/
  namedSince : List (Option Nat)
  /-- The outcomes of the last 8 frames whose FLIP-HDR came from the peer. -/
  steps : List Bool
  /-- The (FRAME, port) of the peer's FLIP-HDR compared last. -/
  lastPeerFrame : Option Nat
  /-- Flips this sender accepted lately: present time, TAG and LAYERS. -/
  accepted : List (Nat × Nat × Nat)
  /-- Tick since which SYNCED has held. -/
  syncedSince : Option Nat
  swap : Option Swap
  /-- Tick at which a swap was last refused or abandoned (R296). -/
  retryAt : Nat
  /-- Positions out of agreement: port, position, tick since. -/
  stale : List (Nat × Nat × Nat)
  /-- The twin mailbox: MSEQ sent last, the word waits for its ACK, tick of the last DATA (R392). -/
  mseq : Nat
  mbxLast : Nat
  /-- MSEQ of the word in mailbox 7, and of the one emptied last. -/
  mseqIn : Option Nat
  mseqAcked : Option Nat
  deriving DecidableEq, Repr

/-- A source of its chain as a tile hears it (R280). -/
structure Source where
  epoch : Nat
  pri : Bool
  tail : Bool
  /-- Tick of its last TIME. -/
  lastTime : Option Nat
  deriving DecidableEq, Repr

/-- The temperature sample of a frame (R306). -/
structure TempSample where
  tjDrv : Int
  tjLog : Int
  ntc : List Int
  ntcValid : List Bool
  drvFallback : Bool
  deriving DecidableEq, Repr

/-- One decoded block in the source store (R221): the samples in raster order, C0, C1, C2 and A of each pixel. -/
structure StoreBlock where
  /-- FRAME of the frame it arrived for. -/
  frame : Nat
  layer : Nat
  bx : Nat
  by_ : Nat
  /-- The samples, 1,024 values. -/
  samples : List Nat
  /-- A parity error has marked it invalid (R45). -/
  invalid : Bool
  deriving DecidableEq, Repr

/-- The held version of a layer: the entry that supplied it and its blocks (R109, R221). -/
structure HeldLayer where
  layer : Nat
  /-- The FLIP-HDR's layer record (R161). -/
  entry : List Byte
  blocks : List StoreBlock
  deriving DecidableEq, Repr

/-- A frame at a tile from its FLIP-HDR until it is presented or held (R182). -/
structure TileFrame where
  frame : Nat
  /-- Changes of the accepted source since its FLIP-HDR was taken: with FRAME, what tells kept frames apart (R281). -/
  past : Nat
  /-- The FLIP-HDR's body (R161). -/
  header : List Byte
  present : Nat
  mode : Nat
  /-- The PRESENT taken: HELD and TRUNC. -/
  close : Option (Nat × Bool)
  blocks : List StoreBlock
  /-- (layer, BX, BY) of every block taken, duplicates and discarded ones included. -/
  seen : List (Nat × Nat × Nat)
  /-- Layers that failed condition 5 of R96 here (R112). -/
  badLayers : List Nat
  /-- (layer, BX, BY) of the blocks discarded for want of a slot (R221). -/
  lost : List (Nat × Nat × Nat)
  /-- The compose deadline has been judged. -/
  judged : Bool
  /-- The condition of FRAME_HELD already known to fail: 1 block, 4 incomplete, 5 time step, 6 update pause. -/
  fail : Option Nat
  sample : TempSample
  /-- Masked lamps (R271). -/
  mask : List Nat
  /-- COR_CTRL, the seam gains and the user filter sets at the deadline (R218, R230). -/
  corCtrl : Word
  seam : List Nat
  filters : List Word
  /-- The two words of the footprint in force, and the coefficient slot in use (3: the default set), at the deadline
  (R230). -/
  foot : Word × Word
  slot : Nat
  /-- The stored bytes of the coefficient set in use, `none` for the default set; GUARD_EN, the object of safe images in
  force and the wall address: what the frame's values depend on besides, fixed at the deadline (R26, R230). -/
  coef : Option (List Byte)
  guardOn : Bool
  safeObj : List Byte
  addr : Nat
  /-- The regions checked: number, SIG, computed signature (none: empty intersection), substitution asked and made
  (R223, R224). -/
  checks : List (Nat × Nat × Option Nat × Bool × Bool)
  /-- Composition and correction are finished. -/
  composed : Bool
  /-- Slack in microseconds at completion (FAB_SLACK). -/
  slackUs : Nat
  deriving DecidableEq, Repr

/-- What drives the lamps in the present frame period (R247 to R256). -/
structure DriveSt where
  /-- The device has presented a frame since reset. -/
  any : Bool
  /-- Grid index k and present time of the frame whose period runs, held frames included. -/
  k : Nat
  present : Nat
  /-- The mode whose grid Pinwheel runs; `none` before the first frame. -/
  mode : Option Nat
  /-- M, Q, E, D, N_L, UMAX and S in force. -/
  m : Nat
  q : Nat
  e : Nat
  d : Nat
  nl : Nat
  umax : Nat
  s : Nat
  diag : Bool
  /-- Lt of the frame, and per bank the DAC code and pulse scale (R248). -/
  lt : Nat
  codes : List Nat
  scales : List Nat
  sample : TempSample
  mask : List Nat
  /-- The refresh j that starts next, and the row slot i that comes next in the refresh that runs; S when it has none
  left. -/
  j : Nat
  slot : Nat
  /-- A diagnostic slot is open: its test has not been made. -/
  open_ : Bool
  /-- Pinwheel drives lamps: DRIVE_EN as taken at the last refresh boundary. -/
  driving : Bool
  /-- Lamps dark for the rest of the period after a parity error (R45), and banks dark for the slot (R37). -/
  darkLamps : List Nat
  darkBanks : List Nat
  /-- A mode change waits for its retune: new mode and P_new (R257). -/
  retune : Option (Nat × Nat)
  /-- A clock step has ended the refresh; the next one starts at this boundary: grid index, refresh and instant (R207). -/
  restart : Option (Nat × Nat × Nat)
  /-- FRAME and present time of the frame last presented (R163, R281). -/
  lastFrame : Nat
  lastPresent : Option Nat
  /-- The frame counter that AGE counts by (R268). -/
  frames : Nat
  deriving DecidableEq, Repr

/-- A write that acts from a later frame on (R251, R277, R315). -/
structure LateWrite where
  addr : Nat
  value : Word
  /-- It acts from the first frame whose present time is at or after this. -/
  due : Nat
  deriving DecidableEq, Repr

/-- A bulk transfer at its target (R178). -/
structure BulkIn where
  /-- The BULK_OPEN. -/
  pkt : RxPkt
  /-- TO_DEVICE data so far. -/
  data : List Byte
  /-- The snapshot that a LAMP_MAP or MEAS returns (R276). -/
  snapshot : Option (List Byte)
  /-- The status and VALUE with which the transfer was refused or failed; 0 while it stands. -/
  refused : Nat
  refusedValue : Nat
  /-- A LAMP_MAP or MEAS object as it stood at the first frame boundary after the BULK_OPEN (R276). -/
  boundary : Option (List Byte)
  /-- The BULK_OPEN while it waits behind other CMDs to be judged, with its arrival number and the tick of the last progress
  RSP (R176, R177). -/
  opening : Option (RxPkt × Nat × Nat)
  /-- BULK_DATA segments that wait behind other CMDs, with the same two. -/
  segs : List (RxPkt × Nat × Nat)
  /-- BULK_PULLs that wait for their data or behind other CMDs, with the same two. -/
  pulls : List (RxPkt × Nat × Nat)
  /-- The last segment, with the same two, while the transfer waits to be carried out. -/
  last : Option (RxPkt × Nat × Nat)
  deriving DecidableEq, Repr

/-- The tile's frame path. -/
structure TileSt where
  sources : List Source
  /-- The accepted source by its TAIL; `none` when none is accepted. -/
  accepted : Option Bool
  /-- The accepted source has changed since reset: from then on no frame is presented whose present time is not later than
  that of the last frame presented (R281). -/
  changed : Bool
  /-- FRAME of the last FLIP-HDR taken; `none` when the FRAME_MISSING check is off (R281, R404). -/
  lastHdr : Option Nat
  frames : List TileFrame
  /-- FRAME of frames that are done with, newest first, the last 64. -/
  done : List Nat
  /-- The held-frame counter (R29). -/
  heldCount : Nat
  held : List HeldLayer
  /-- Slots in use at the end of each of the last 64 frames, newest first. -/
  usedHist : List Nat
  /-- FAB_SLACK of the last 64 frames, newest first. -/
  slackHist : List Nat
  /-- Front and back half of the output frame store (R231), by lamp index. -/
  front : Cells Nat
  back : Cells Nat
  drive : DriveSt
  /-- Pending writes of R251 and R277. -/
  late : List LateWrite
  /-- The values in force of the registers that R251 and R277 name. -/
  eff : Cells Word
  /-- The fade: L0, L1, AT and DUR in ms, of the armed fade and of the running or ended one (R249). -/
  fadePend : Option (Nat × Nat × Nat × Nat)
  fadeRun : Option (Nat × Nat × Nat × Nat)
  /-- A run of frames with a fallback source is open: blend (R232) and derating (R250). -/
  corFallback : Bool
  gryFallback : Bool
  /-- Tick of the last COEF_SET_SWITCH whose activation is still to be committed (R238). -/
  actCommit : Option Nat
  /-- The staged set is committed and not yet loaded: after a transfer (true) or at start-up (R236, R239). -/
  loading : Option Bool
  /-- The slot of the staged set. -/
  staged : Nat
  /-- The set and the footprint in force differ in MAP since the last switch of either (R235). -/
  mapBad : Bool
  /-- Engines being reloaded, while frames are held (R45). -/
  reload : List Nat
  /-- An engine has had work in the frame period that runs (R46, FAB_RATE). -/
  worked : Bool
  /-- TIME_PROBE CMDs forwarded and not yet answered: SRC, DST and XID (R195). -/
  probes : List (Nat × Nat × Nat)
  /-- The arrival number of the next CMD that has to wait (R176). -/
  arrivals : Nat
  /-- CMDs that wait for firmware or behind one that does, with their arrival number and the tick of arrival or of the last
  progress RSP (R176, R177). -/
  cmds : List (RxPkt × Nat × Nat)
  /-- CMDs that have begun and have no final RSP yet, with the same two. -/
  running : List (RxPkt × Nat × Nat)
  /-- Bulk transfers of which this tile is the target, oldest first. -/
  bulks : List BulkIn
  deriving DecidableEq, Repr

/-- The lamp diagnosis (R262 to R276). -/
structure DiagSt where
  /-- LAST per lamp; unlisted 0 UNKNOWN. -/
  last : Cells Nat
  /-- The frame counter at the lamp's last test, plus 1; unlisted 0 never. -/
  tested : Cells Nat
  /-- The results that agree so far: code × 16 + count. -/
  agree : Cells Nat
  /-- VCOL per lamp in mV plus 1; unlisted 0 never tested. -/
  vcol : Cells Nat
  /-- Columns whose latest pin result is NBR_SHORT: 1. -/
  pin : Cells Nat
  /-- DIAG_LAMP events recorded in this frame, and left out. -/
  events : Nat
  leftOut : Nat
  /-- Forced masks: lamp indexes in rising order; kept in the settings record (R272). -/
  forced : List Nat
  deriving DecidableEq, Repr

/-- The thermal logic (R302 to R310). -/
structure ThermSt where
  /-- Per sensor: consecutive rounds out of agreement, and, when excluded, in agreement (R303). -/
  out_ : List Nat
  back_ : List Nat
  /-- Rounds on the other side of the warning threshold, and in a new throttle region (R307, R308). -/
  warnRun : Nat
  regionNew : Nat
  regionRun : Nat
  /-- The region in force: 0 COOL, 1 BAND, 2 HOT. -/
  region : Nat
  /-- Tick of the last change of TLEVEL. -/
  stepAt : Nat
  /-- Thermistors that were valid at the last reading. -/
  ntcWas : List Bool
  deriving DecidableEq, Repr

/-- The thermal shutdown as the always-on domain keeps it (R310). -/
structure ShutSt where
  /-- Wall time at entry, in nanoseconds. -/
  entry : Nat
  /-- Tick at entry. -/
  tick : Nat
  peak : Int
  /-- Events waiting in the recorder's queue at entry. -/
  lost : Nat
  /-- Consecutive rounds with every valid sensor under RESTART. -/
  coolRun : Nat
  deriving DecidableEq, Repr

/-- A calibration step that runs (R316 to R325). -/
structure CalStep where
  /-- 0 SINK, 1 ADC, 2 SENS, 3 LANE. -/
  item : Nat
  inService : Bool
  port : Nat
  /-- Nobody waits for the boot step. -/
  waiter : Option Waiter
  /-- In-service measurements so far, one list of 384 cell values for each slot. -/
  slots : List (List Nat)
  /-- TJ_DRV at the end of each run measured in service (R320). -/
  tj : List Int
  deriving DecidableEq, Repr

/-- The calibration logic. The values in force are the CAL registers. -/
structure CalSt where
  step : Option CalStep
  /-- Tick at which DRIVE_EN was last 1 (R317 reason 5). -/
  driveOnAt : Option Nat
  deriving DecidableEq, Repr

/-- One slot of an object kind in eMRAM (R340). -/
structure NvmSlot where
  bytes : List Byte
  /-- The end of what has been written since the newest commit record; 0 when nothing has, or the object stands whole. -/
  written : Nat
  /-- The slot's newest commit record, 64 bytes in the trusted store, and the one before it; empty when there is none. -/
  commit : List Byte
  prior : List Byte
  deriving DecidableEq, Repr

/-- The trusted store (R338, R346), but for the commit records, which stand beside their slots. -/
structure TrustedSt where
  /-- Slot 1: the owner's 60-byte HSS public key. -/
  slot1 : Option (List Byte)
  vendorOk : Bool
  /-- The last TSEQ accepted (R336). -/
  tseq : Nat
  onair : Bool
  svnFloor : Nat
  /-- NEXT_Q (R346). -/
  nextQ : Nat
  /-- The manifest slot in force, and the microcode slot that is active. -/
  manifest : Nat
  ucode : Nat
  /-- The armed record: P_a in nanoseconds, and whether it is a rollback (R356). -/
  armed : Option (Nat × Bool)
  /-- The loader journal, open while the running and staging images are being swapped: the chunk, and the copies of it that
  are done, of three (R357). -/
  journal : Option (Nat × Nat)
  /-- The manifest slot not in force holds a staged manifest, not the previous one (R351). -/
  staged : Bool
  /-- Verified chunks of the role's management image in the staging area (R351). -/
  chunks : Nat
  /-- The microcode slot not in force holds the built microcode of the staged manifest (R352). -/
  built : Bool
  /-- P_a of the activation whose end is still to come (R356 step 7), and whether it pauses the device (R357). -/
  switched : Option (Nat × Bool)
  /-- Management firmware has not started since the last activation: its settings are to be migrated (R359). -/
  migrateDue : Bool
  /-- SVC_PERM and ENROLL as the tokens left them (R337). -/
  svcPerm : Nat
  enroll : Nat
  /-- The eMRAM write counter (R413). -/
  writes : Nat
  deriving DecidableEq, Repr

/-- The eMRAM (R338). It is kept through every reset and without power. -/
structure NvmSt where
  trusted : TrustedSt
  /-- The factory record's calibration part, 9,536 bytes, empty when there is none (R328). -/
  factory : List Byte
  manifest : List NvmSlot
  /-- The running management image, and the staging area: the staged image, or the previous one. While the loader journal is
  open, as they stood before the swap (R357). -/
  mgmt : List NvmSlot
  ucode : List NvmSlot
  delta : List Byte
  cal : List NvmSlot
  coef : List NvmSlot
  /-- Staging and activation sequences of the coefficient slots (R236, R238). -/
  coefSeq : List (Nat × Nat)
  settings : List NvmSlot
  safe : List NvmSlot
  /-- Uncorrectable bytes: area and offset (R339). -/
  bad : List (NvmArea × Nat)
  deriving DecidableEq, Repr

/-- A wall-wide PREPARE or ACTIVATE that a sender runs (R356). -/
structure Domino where
  /-- The descriptor's index. -/
  index : Nat
  /-- False for PREPARE, true for ACTIVATE. -/
  activate : Bool
  session : Nat
  /-- Wall addresses asked, those that answered READY or ARMED, and those that answered otherwise. -/
  asked : List Nat
  good : List Nat
  bad : List Nat
  /-- This sender itself is READY or armed. -/
  self : Bool
  pa : Nat
  /-- Tick of its start. -/
  tick : Nat
  deriving DecidableEq, Repr

/-- The trusted part's update state (R350 to R357). -/
structure SecSt where
  /-- The lease: 1 chain or host, 2 service port; tick of its last renewal; SESSION. -/
  lease : Option (Nat × Nat × Nat)
  /-- The bytes of a MANIFEST object that has not arrived whole: its CONTENT and what has come (R351). -/
  mfstPart : Nat × List Byte
  /-- READY was answered, for the staged manifest or for a rollback (R355). -/
  readyFor : Option Bool
  /-- Management chunks of which some bytes have come, each with them: the images of both roles travel over one CONTENT, and
  what has come of a chunk may be the other role's (R351). -/
  stage : List (Nat × List Byte)
  /-- The held CLEAR_REC token (R378). -/
  clearToken : Option (List Byte)
  /-- SHA-256 of the running management image and of the active microcode, kept at start-up (R341). -/
  hashMgmt : List Byte
  hashUcode : List Byte
  /-- The next leaf to sign with (R346). -/
  leaf : Nat
  /-- A wall-wide PREPARE or ACTIVATE that runs. -/
  domino : Option Domino
  /-- Positions (port, position) whose SEC_MFST differs (R358). -/
  mixed : List (Nat × Nat)
  /-- Positions whose SEC_MFST is still to be read. -/
  unread : List (Nat × Nat)
  /-- Positions armed by an UPD_ACTIVATE of their own, with P_a: their SEC_MFST is read again after it (R358). -/
  recheck : List (Nat × Nat × Nat)
  deriving DecidableEq, Repr

/-- The recorder (R370 to R378). -/
structure RecSt where
  /-- Events of the step that runs, not yet in the queue (R370: ascending CODE order). -/
  fresh : List EventRec
  /-- The 32-entry input queue. -/
  queue : List EventRec
  /-- The pending loss count and the time of the first event lost. -/
  lost : Nat
  lostSecs : Nat
  lostNs : Nat
  /-- SEQ of the next record. -/
  next : Nat
  /-- eMRAM record slots: 32 bytes each, and check words. -/
  slots : Cells (List Byte)
  checks : Cells Nat
  deriving DecidableEq, Repr

/-- One check-value unit (R381 to R384). -/
structure CrcUnit where
  /-- The CRC state before the final XOR. -/
  state : Nat
  /-- A capture is armed, or runs. -/
  armed : Bool
  running : Bool
  /-- The captured frame of the stream has ended (R383). -/
  ended : Bool
  /-- The capture's state and byte count. -/
  snoop : Nat
  count : Nat
  deriving DecidableEq, Repr

/-- The mailboxes (R386 to R393). FULL, ABORTED and CROSS are in MBX_STAT, the words in MBX_m_DATA. -/
structure MbxSt where
  /-- Per pair: tick since which both mailboxes have been full. -/
  bothSince : List (Option Nat)
  /-- ABORTED and CROSS of the configuration capability (R391). -/
  vsecAborted : Nat
  vsecCross : Nat
  deriving DecidableEq, Repr

/-- What a byte of an SRAM holds a part of, where the model follows its content. -/
inductive SramItem where
  /-- Content that no field of this model stands for. -/
  | other
  /-- The microcode and coefficients of an engine, or what a management core has been loaded with. -/
  | code
  /-- A block in the source store or in the block buffer of a sender: FRAME, layer, BX, BY. -/
  | block (frame layer bx by_ : Nat)
  /-- A lamp value, in the front or the back half of the output frame store. -/
  | lamp (n : Nat) (front : Bool)
  deriving DecidableEq, Repr

/-- A byte whose nine bits hold an even number of ones (R44): its memory and unit, its offset in the unit (R46), and what
it holds. -/
structure BadByte where
  mem : Nat
  unit : Nat
  offset : Nat
  item : SramItem
  deriving DecidableEq, Repr

/-- Memory parity (R44, R45, R470). The parity bit of every byte that is not listed is the right one. -/
structure ParitySt where
  /-- The armed injection: memory and unit. -/
  armed : Option (Nat × Nat)
  /-- The bytes that stand with inverted parity. -/
  bad : List BadByte
  deriving DecidableEq, Repr

/-- The always-on domain (R405 to R415). -/
structure AonSt where
  s : Nat
  ns : Nat
  ph : Nat
  /-- The retention store: RWS fields, saved taps per port and lane, resume record (eMRAM write counter, armed). -/
  keptRegs : List (Nat × Word)
  keptTaps : List (Option Config.Taps)
  resume : Option (Nat × Bool)
  /-- The wall clock's seconds at dormant entry. -/
  enteredAt : Nat
  /-- Wake events latched and not yet acted on: bits of AON_STAT.SRC. -/
  wake : Nat
  /-- Presence of VCORE, VDRV, VLED and PWR_GOOD. -/
  vcore : Bool
  vdrv : Bool
  vled : Bool
  pwrGood : Bool
  /-- The repeater sends the tone on port B. -/
  repeating : Bool
  deriving DecidableEq, Repr

/-- Whether the device runs (R398, R399, R409, R310). -/
inductive Power where
  /-- Power removed, or never applied. -/
  | off
  /-- Running. -/
  | awake
  /-- Held in the warm reset of a brown-out (R399). -/
  | brownOut
  /-- Held in the warm reset of a thermal shutdown (R310). -/
  | shutdown
  /-- Dormant (R409). -/
  | dormant
  deriving DecidableEq, Repr

/-- What a management core has been loaded with (R341, R343): where it starts, and the segments in its SRAM. -/
structure CoreLoad where
  entry : Nat
  segments : List (Nat × List Byte)
  deriving DecidableEq, Repr

/-- Start-up and supervision (R401, R402). -/
structure BootSt where
  power : Power
  /-- Management firmware has been released and runs. -/
  mcRunning : Bool
  /-- FIRMWARE_START has been done since the last reset (step 5 of R402). -/
  started : Bool
  /-- The cores have restarted, by a core restart or after a loader swap, and firmware has not started again since (R359,
  R398). -/
  restarted : Bool
  /-- Tick of the last kick, and of the watchdog firings within the last 60 s. -/
  kickAt : Nat
  firings : List Nat
  /-- The thermal shutdown that the device is in (R310). -/
  shut : Option ShutSt
  /-- A THM_SHUTDOWN is to be recorded once firmware runs (R310): its parameters. -/
  shutReport : Option (Nat × Nat × Nat)
  /-- What MC0 and MC1 have been loaded with; empty while they are held (R341 step 6, R342). -/
  cores : List CoreLoad
  /-- The microcode that each pixel engine holds: the active one, and beside it the one of an armed activation (R357). -/
  engines : List (List Byte)
  /-- TRST_N is high: the TAP is out of reset (R428). -/
  trst : Bool
  deriving DecidableEq, Repr

/-- The device, but for its straps and its queue of commands. -/
structure Dev where
  /-- The register file (R438 to R441): address and word; an address that is not listed reads its Reset value. -/
  regs : Cells Word
  time : TimeSt
  ports : List PortSt
  host : HostSt
  twin : TwinSt
  tile : TileSt
  diag : DiagSt
  therm : ThermSt
  cal : CalSt
  nvm : NvmSt
  sec : SecSt
  rcd : RecSt
  crc : List CrcUnit
  mbx : MbxSt
  parity : ParitySt
  aon : AonSt
  boot : BootSt
  /-- Packets received whole and not yet taken, oldest first. -/
  rxq : List RxPkt
  /-- What has left the device, oldest first (log entry 6). -/
  out : List Out
  /-- Counts the free values drawn so far: the model's own field, not the spec's (log entry 3). -/
  free : Nat
  deriving DecidableEq, Repr

/-- The machine: the straps as sampled (R397), the device, and the queue of waiting commands, first in first out. -/
structure State where
  straps : Straps
  dev : Dev
  pending : List Instr
  deriving DecidableEq, Repr

/-- A lane after power-on. -/
def LaneSt.init : LaneSt :=
  { txScr := 0, txPrev := 0, prbs := 0x7FFFFFFF, rxScr := 0, rxPrev := 0, markRun := 0, markPos := 0, markInv := false, discardFirst := false, failRun := 0, taps := none,
    saved := none, savedAt := 0, goodSince := none, fullStep := true }

/-- A port after power-on. -/
def PortSt.init : PortSt :=
  { lanes := [LaneSt.init, LaneSt.init], rate := 0, since := 0, noLockRecorded := false, refwait := false, txonlyPath := false,
    countdownSent := false, peerCd0 := false, peerLockRun := 0, peerLockCw := 0, peerUnlockSince := none,
    peerPmRun := 0, peerPm := 0, losSince := some 0, sscTaken := false, lineEnd := 0, pairSeq := 0, open_ := [], routes := [],
    fwd := [], own := [], wseq := 0, lastWit := 0, lastTimeSent := 0, lastHbSent := 0, lastLaunch := 0, tseq := 0, hseq := 0,
    cur := none, txq := [[], [], [], [], []], lastEnum := none, unasgSeen := none, present := [], blocks := 0,
    toneSince := none }

/-- The clock after power-on: FREE, at 0. -/
def Clock.init : Clock :=
  { sec := 0, ns := 0, frac := 0, res := 0, ticks := 0, slewRem := 0, corr := 0, lastTime := 0,
    noPathRecorded := false }

def PtpInst.init : PtpInst := { heard := [], selected := none, within := 0, outside := 0, lockedAt := 0, offset := none, granted := none, lastReq := none }

def Survey.init : Survey :=
  { due := none, last := 0, todo := [], lastProbe := 0, complete := false, written := 0, failed := false,
    range := false, waiter := none }

def TimeSt.init : TimeSt :=
  { clk := Clock.init, inst := [PtpInst.init, PtpInst.init], uncalFirst := 0, lastPps := none, ppsHigh := none, lastPulse := none,
    surveys := [Survey.init, Survey.init, Survey.init, Survey.init] }

/-- The PCIe function after its reset. -/
def PcieSt.init : PcieSt :=
  { memEn := false, busEn := false, bar0 := 0, bar2 := 0, d3hot := false, caLogged := false,
    devCtl := 0x2000, linkCtl := 0, msixCtl := 0, aerCtl := 0,
    table := List.replicate 64 (0, 0) }

def HostSt.init : HostSt :=
  { pcie := PcieSt.init, hostIdx := [0, 0, 0, 0, 0], shadow := none, shadowSeq := 1, lastShadow := none, lastPoll := none, lastFence := none, failRun := 0,
    descs := [], cpls := [], evtPend := [], dropped := 0, ovfPend := false, items := List.replicate 16 (0, 0),
    vecMask := List.replicate 64 true, pba := List.replicate 64 false, queue := [], flying := [], prev := none,
    launchCount := 0, lastLaunch := none, nextXid := 0, out := [], probes := [], enumWait := none, linkUp := false,
    training := false }

def TwinSt.init : TwinSt :=
  { en := false, readyAt := none, since := 0, peer := none, peerSinceStandby := false, lastYoyo := 0, yoyoRun := 0,
    mismatchRecorded := false, yseq := 0, lastSent := 0, sendNow := false, req := 0,
    lastHb := [none, none, none, none], hbSince := [none, none, none, none], rxUpAt := [0, 0, 0, 0],
    ls0At := [0, 0, 0, 0], feedAt := [0, 0, 0, 0], ls0Wall := [0, 0, 0, 0], wits := [], namedSince := [none, none, none, none], steps := [], lastPeerFrame := none, accepted := [],
    syncedSince := none, swap := none, retryAt := 0, stale := [], mseq := 0, mbxLast := 0, mseqIn := none,
    mseqAcked := none }

def TempSample.init : TempSample :=
  { tjDrv := 0, tjLog := 0, ntc := [0, 0, 0, 0], ntcValid := [false, false, false, false], drvFallback := false }

def DriveSt.init : DriveSt :=
  { any := false, k := 0, present := 0, mode := none, m := 0, q := 0, e := 0, d := 0, nl := 0, umax := 0, s := 64,
    diag := true, lt := 0, codes := List.replicate 48 0, scales := List.replicate 48 0, sample := TempSample.init,
    mask := [], j := 0, slot := 0, open_ := false, driving := false, darkLamps := [], darkBanks := [], retune := none,
    restart := none, lastFrame := 0, lastPresent := none, frames := 0 }

def TileSt.init : TileSt :=
  { sources := [], accepted := none, changed := false, lastHdr := none, frames := [], done := [], heldCount := 0, held := [], usedHist := [],
    slackHist := [], front := [], back := [], drive := DriveSt.init, late := [], eff := [], fadePend := none,
    fadeRun := none, corFallback := false, gryFallback := false, actCommit := none,
    loading := none, staged := 0, mapBad := false, reload := [], worked := false, probes := [], arrivals := 0, cmds := [], running := [], bulks := [] }

def DiagSt.init : DiagSt :=
  { last := [], tested := [], agree := [], vcol := [], pin := [], events := 0, leftOut := 0, forced := [] }

def ThermSt.init : ThermSt :=
  { out_ := List.replicate 12 0, back_ := List.replicate 12 0, warnRun := 0, regionNew := 0, regionRun := 0,
    region := 0, stepAt := 0, ntcWas := [false, false, false, false] }

def CalSt.init : CalSt := { step := none, driveOnAt := none }

def NvmSlot.empty : NvmSlot := { bytes := [], written := 0, commit := [], prior := [] }

def TrustedSt.init : TrustedSt :=
  { slot1 := none, vendorOk := false, tseq := 0, onair := false, svnFloor := 0, nextQ := 0, manifest := 0, ucode := 0,
    armed := none, journal := none, staged := false, chunks := 0, built := false, switched := none, migrateDue := false, svcPerm := 13,
    enroll := 0, writes := 0 }

/-- The eMRAM of State.reset: nothing staged, stored or recorded (log entry 8). -/
def NvmSt.init : NvmSt :=
  { trusted := TrustedSt.init, factory := [], manifest := [NvmSlot.empty, NvmSlot.empty],
    mgmt := [NvmSlot.empty, NvmSlot.empty], ucode := [NvmSlot.empty, NvmSlot.empty], delta := [],
    cal := [NvmSlot.empty, NvmSlot.empty], coef := [NvmSlot.empty, NvmSlot.empty], coefSeq := [(0, 0), (0, 0)],
    settings := [NvmSlot.empty, NvmSlot.empty], safe := [NvmSlot.empty, NvmSlot.empty], bad := [] }

def SecSt.init : SecSt :=
  { lease := none, mfstPart := (0, []), readyFor := none, stage := [], clearToken := none, hashMgmt := [], hashUcode := [], leaf := 0,
    domino := none, mixed := [], unread := [], recheck := [] }

def RecSt.init : RecSt :=
  { fresh := [], queue := [], lost := 0, lostSecs := 0, lostNs := 0, next := 1, slots := [], checks := [] }

def CrcUnit.init : CrcUnit := { state := 0xFFFFFFFF, armed := false, running := false, ended := false, snoop := 0, count := 0 }

def MbxSt.init : MbxSt := { bothSince := [none, none, none, none], vsecAborted := 0, vsecCross := 0 }

def ParitySt.init : ParitySt := { armed := none, bad := [] }

def AonSt.init : AonSt :=
  { s := 0, ns := 0, ph := 0, keptRegs := [], keptTaps := [], resume := none, enteredAt := 0, wake := 0,
    vcore := true, vdrv := true, vled := true, pwrGood := true, repeating := false }

def BootSt.init : BootSt :=
  { power := .awake, mcRunning := false, started := false, restarted := false, kickAt := 0, firings := [], shut := none,
    shutReport := none, cores := [], engines := [], trst := false }

/-- The device right after reset. The two words listed are LANE_A_CTRL and LANE_B_CTRL, whose Reset values differ from those
of ports C and D (R150). -/
def Dev.init : Dev :=
  { regs := [(0x030000, 0x1901), (0x030400, 0x1911)], time := TimeSt.init, ports := [PortSt.init, PortSt.init, PortSt.init, PortSt.init],
    host := HostSt.init, twin := TwinSt.init, tile := TileSt.init, diag := DiagSt.init,
    therm := ThermSt.init, cal := CalSt.init, nvm := NvmSt.init, sec := SecSt.init, rcd := RecSt.init,
    crc := List.replicate 8 CrcUnit.init, mbx := MbxSt.init, parity := ParitySt.init, aon := AonSt.init,
    boot := BootSt.init, rxq := [], out := [], free := 0 }

/-- The machine right after reset (log entries 1, 4 and 8): a tile with TWIN_PRI low and SVC_ADDR 0, every register at
its Reset value, an empty queue. -/
def State.reset : State :=
  { straps := { role := .tile, twinPri := false, svcAddr := 0 }, dev := Dev.init, pending := [] }

end Sys2Proof.Machine
end

