-- ==== Sys2Proof/Machine/Operands.lean ====
section
/-! DEFINITION. The formats that commands carry: packets and their headers (R157 to R165), command and bulk descriptors
(R64, R67), flip headers and layer entries (R97, R98), event records (R366), completion entries (R68), the canvas modes
(R114) and the frame grid (R201). -/

namespace Sys2Proof.Machine

/-! Packets (R157). -/

def pktType (p : List Byte) : Nat := natBits (byteAt p 0) 0 4
def pktBcast (p : List Byte) : Bool := natBit (byteAt p 0) 4
def pktCopy (p : List Byte) : Bool := natBit (byteAt p 0) 5
def pktFrame (p : List Byte) : Nat := byteAt p 1
/-- SRC, its 16 bits. -/
def pktSrc (p : List Byte) : Nat := leAt p 2 2
def pktSrcAddr (p : List Byte) : Nat := natBits (pktSrc p) 0 12
def pktSnd (p : List Byte) : Bool := natBit (pktSrc p) 12
def pktTail (p : List Byte) : Bool := natBit (pktSrc p) 13
def pktUnasg (p : List Byte) : Bool := natBit (pktSrc p) 14
/-- DST, its 16 bits. -/
def pktDst (p : List Byte) : Nat := leAt p 4 2
def pktDstAddr (p : List Byte) : Nat := natBits (pktDst p) 0 12
def pktPri (p : List Byte) : Bool := natBit (byteAt p 6) 0
def pktEpoch (p : List Byte) : Nat := leAt p 8 4
/-- LEN[16:0]. -/
def pktLen (p : List Byte) : Nat := natBits (leAt p 12 4) 0 17
/-- The body. -/
def pktBody (p : List Byte) : List Byte := p.drop 16

/-- Bits 0 to 4 of a header's first byte. -/
def pktType5 (typ : Nat) (bcast : Bool) (copy : Bool) : Nat := typ + 16 * b2n bcast + 32 * b2n copy

/-- A packet from its header fields and body (R157). -/
def mkPkt (typ : Nat) (bcast copy : Bool) (frame src dst : Nat) (pri : Bool) (epoch : Nat) (body : List Byte) :
    List Byte :=
  leBytes (pktType5 typ bcast copy) 1 ++ leBytes frame 1 ++ leBytes src 2 ++ leBytes dst 2 ++ leBytes (b2n pri) 1 ++
  leBytes 0 1 ++ leBytes epoch 4 ++ leBytes body.length 4 ++ body

/-- The number of cells of a packet with `len` body bytes (R158). -/
def pktCells (len : Nat) : Nat := (16 + len + 55) / 56

/-- The types of R159. -/
def pktTypeKnown (t : Nat) : Bool := decide (1 ≤ t) && decide (t ≤ 10)

/-! CMD (R164). -/

def cmdXid (p : List Byte) : Nat := leAt p 16 2
def cmdKind (p : List Byte) : Nat := byteAt p 18
/-- The 60 descriptor bytes of a DESC or BULK_OPEN. -/
def cmdDesc (p : List Byte) : List Byte := slice p 20 60
def cmdOffset (p : List Byte) : Nat := leAt p 20 4
def cmdPullCount (p : List Byte) : Nat := leAt p 24 4
def cmdData (p : List Byte) : List Byte := p.drop 24
def enumChain (p : List Byte) : Nat := byteAt p 20
def enumNext (p : List Byte) : Nat := byteAt p 21

/-- The body of a CMD of KIND DESC or BULK_OPEN. -/
def descBody (xid kind : Nat) (desc : List Byte) : List Byte := leBytes xid 2 ++ leBytes kind 1 ++ leBytes 0 1 ++ slice desc 0 60

/-- The body of a BULK_DATA. -/
def bulkDataBody (xid off : Nat) (data : List Byte) : List Byte :=
  leBytes xid 2 ++ leBytes CK_BULK_DATA 1 ++ leBytes 0 1 ++ leBytes off 4 ++ data

/-- The body of a BULK_PULL. -/
def bulkPullBody (xid off count : Nat) : List Byte :=
  leBytes xid 2 ++ leBytes CK_BULK_PULL 1 ++ leBytes 0 1 ++ leBytes off 4 ++ leBytes count 4

/-- The body of an ENUM. -/
def enumBody (xid chain next : Nat) : List Byte :=
  leBytes xid 2 ++ leBytes CK_ENUM 1 ++ leBytes 0 1 ++ leBytes chain 1 ++ leBytes next 1 ++ leBytes 0 2

/-! RSP (R165). -/

def rspXid (p : List Byte) : Nat := leAt p 16 2
def rspStatus (p : List Byte) : Nat := leAt p 18 2
def rspValue (p : List Byte) : Nat := leAt p 20 4
def rspOffset (p : List Byte) : Nat := leAt p 24 4
def rspData (p : List Byte) : List Byte := p.drop 28

/-- The body of an RSP. -/
def rspBody (xid status value off : Nat) (data : List Byte) : List Byte :=
  leBytes xid 2 ++ leBytes status 2 ++ leBytes value 4 ++ leBytes off 4 ++ data

/-! Command descriptors (R64). -/

def dOpcode (d : List Byte) : Nat := leAt d 0 2
def dFence (d : List Byte) : Bool := natBit (leAt d 2 2) 0
def dLocal (d : List Byte) : Bool := natBit (leAt d 2 2) 1
def dNoCpl (d : List Byte) : Bool := natBit (leAt d 2 2) 2
def dTag (d : List Byte) : Nat := leAt d 4 4
def dTarget (d : List Byte) : Nat := natBits (leAt d 8 2) 0 12
def dCount (d : List Byte) : Nat := leAt d 10 2
def dAddr (d : List Byte) : Nat := natBits (leAt d 12 4) 0 24
def dResult (d : List Byte) : Nat := leAt d 16 8
/-- DATAk, k = 0 to 7. -/
def dData (d : List Byte) (k : Nat) : Nat := leAt d (24 + 4 * k) 4
/-- Whether the CRC at bytes 60 to 63 matches bytes 0 to 59 (R63). -/
def dCrcOk (d : List Byte) : Bool := leAt d 60 4 == crc32c (d.take 60)

/-! Bulk descriptors (R67). -/

def bObject (d : List Byte) : Nat := leAt d 10 2
def bOffset (d : List Byte) : Nat := leAt d 12 4
def bHostAddr (d : List Byte) : Nat := leAt d 16 8
def bLength (d : List Byte) : Nat := leAt d 24 4
def bDataCrc (d : List Byte) : Nat := leAt d 28 4
/-- PARAM byte at its offset in the descriptor, 32 to 59. -/
def bParam (d : List Byte) (k : Nat) : Nat := byteAt d k

/-- The limits of R67 on OFFSET, HOST_ADDR and LENGTH. -/
def bulkLimitsOk (d : List Byte) : Bool :=
  bOffset d % 64 == 0 && bHostAddr d % 64 == 0 && decide (4 ≤ bLength d) && decide (bLength d ≤ 16777216) &&
  bLength d % 4 == 0

/-- Whether the object takes the direction: 1 TO_DEVICE, 2 FROM_DEVICE (R67). -/
def bulkDirOk (object dir : Nat) : Bool :=
  match object with
  | 0x0001 | 0x0002 | 0x0003 | 0x0011 => dir == 1
  | 0x0004 | 0x0020 | 0x0021 | 0x0030 => dir == 2
  | 0x0010 | 0x0040 => true
  | _ => false

/-- The parameter checks of R66 on REG_READ (1), REG_WRITE (2) and REG_RMW (3). -/
def regCmdOk (op count addr result : Nat) : Bool :=
  let countOk := if op == 1 then decide (1 ≤ count) && decide (count ≤ 64)
    else if op == 2 then decide (1 ≤ count) && decide (count ≤ 8) else count == 1
  countOk && addr % 4 == 0 && decide (addr + 4 * count ≤ 0x1000000) &&
  (op != 1 || (result % 4 == 0 && !(decide (1 < count) && result == 0)))

/-! Flip headers and layer entries (R97, R98). -/

def fType (h : List Byte) : Nat := leAt h 0 2
def fLayers (h : List Byte) : Nat := byteAt h 2
def fMode (h : List Byte) : Nat := byteAt h 3
def fTag (h : List Byte) : Nat := leAt h 4 4
def fNext (h : List Byte) : Bool := natBit (leAt h 8 2) 0
def fDefer (h : List Byte) : Nat := byteAt h 10
def fPresentNs (h : List Byte) : Nat := natBits (leAt h 12 4) 0 30
def fPresentS (h : List Byte) : Nat := natBits (leAt h 16 8) 0 48
def fGuardAddr (h : List Byte) : Nat := leAt h 32 8
def fGuardLen (h : List Byte) : Nat := leAt h 40 4
def eLayer (e : List Byte) : Nat := byteAt e 0
def eFormat (e : List Byte) : Nat := byteAt e 1
def eDefer (e : List Byte) : Bool := natBit (byteAt e 2) 0
def ePremult (e : List Byte) : Bool := natBit (byteAt e 2) 1
def eColour (e : List Byte) : Nat := byteAt e 3
def eSrcW (e : List Byte) : Nat := leAt e 4 2
def eSrcH (e : List Byte) : Nat := leAt e 6 2
def eAddr (e : List Byte) : Nat := leAt e 8 8
def ePayload (e : List Byte) : Nat := leAt e 16 8
def ePitch (e : List Byte) : Nat := leAt e 24 4
def eDstX (e : List Byte) : Int := toSigned 32 (leAt e 28 4)
def eDstY (e : List Byte) : Int := toSigned 32 (leAt e 32 4)
def eDstW (e : List Byte) : Nat := leAt e 36 2
def eDstH (e : List Byte) : Nat := leAt e 38 2
def eOpacity (e : List Byte) : Nat := natBits (leAt e 40 2) 0 12
def eFenceAddr (e : List Byte) : Nat := leAt e 44 8
def eFenceValue (e : List Byte) : Nat := leAt e 52 8

/-- The 32-byte layer record of a FLIP-HDR for an entry (R161). -/
def layerRecord (e : List Byte) : List Byte :=
  slice e 0 8 ++ slice e 28 8 ++ slice e 36 4 ++ leBytes (eOpacity e) 2 ++ zeros 10

/-! A layer as a tile and the composition see it: the record of R161. -/

/-- A layer's placement and conversion, from the sender's entry or from the FLIP-HDR's record. -/
structure Layer where
  number : Nat
  format : Nat
  premult : Bool
  colour : Nat
  srcW : Nat
  srcH : Nat
  dstX : Int
  dstY : Int
  dstW : Nat
  dstH : Nat
  opacity : Nat
  deriving DecidableEq, Repr

/-- From a FLIP-HDR's layer record (R161). -/
def layerOfRecord (r : List Byte) : Layer :=
  { number := natBits (byteAt r 0) 0 4, format := byteAt r 1, premult := natBit (byteAt r 2) 1, colour := byteAt r 3,
    srcW := leAt r 4 2, srcH := leAt r 6 2, dstX := toSigned 32 (leAt r 8 4), dstY := toSigned 32 (leAt r 12 4),
    dstW := leAt r 16 2, dstH := leAt r 18 2, opacity := natBits (leAt r 20 2) 0 12 }

/-- From a layer entry (R98). -/
def layerOfEntry (e : List Byte) : Layer := layerOfRecord (layerRecord e)

/-- A layer is scaled when its source and destination sizes differ (R98). -/
def Layer.scaled (l : Layer) : Bool := l.srcW != l.dstW || l.srcH != l.dstH

/-! Canvas modes (R114). -/

/-- Width and height of a size index. -/
def canvasSize (mode : Nat) : Nat × Nat :=
  match natBits mode 4 4 with
  | 0 => (1920, 1080)
  | 1 => (2048, 1080)
  | 2 => (3840, 2160)
  | 3 => (4096, 2160)
  | 4 => (5120, 2880)
  | 5 => (7680, 4320)
  | 6 => (8192, 4320)
  | 7 => (15360, 8640)
  | _ => (0, 0)

/-- The frame period N/D of a rate index, in seconds. -/
def framePeriod (mode : Nat) : Nat × Nat :=
  match natBits mode 0 4 with
  | 0 => (1001, 24000)
  | 1 => (1, 24)
  | 2 => (1, 25)
  | 3 => (1001, 30000)
  | 4 => (1, 30)
  | 5 => (1001, 48000)
  | 6 => (1, 48)
  | 7 => (1, 50)
  | 8 => (1001, 60000)
  | 9 => (1, 60)
  | 10 => (1, 100)
  | 11 => (1001, 120000)
  | 12 => (1, 120)
  | 13 => (1, 144)
  | _ => (1, 240)

/-- Whether MODE is an allowed entry: the sizes and rates of the tables (R114). -/
def modeAllowed (mode : Nat) : Bool :=
  let s := natBits mode 4 4
  let r := natBits mode 0 4
  decide (mode < 256) && decide (r ≤ 14) &&
    (if s ≤ 5 then true else if s == 6 then decide (r ≤ 13) else if s == 7 then decide (r ≤ 9) else false)

/-- T of R203: the frame period in whole nanoseconds, rounded down. -/
def periodFloor (mode : Nat) : Nat := (framePeriod mode).1 * 10 ^ 9 / (framePeriod mode).2

/-- The frame period in whole nanoseconds, rounded up (R115). -/
def periodCeil (mode : Nat) : Nat := ((framePeriod mode).1 * 10 ^ 9 + (framePeriod mode).2 - 1) / (framePeriod mode).2

/-- Grid instant k in nanoseconds after the PTP epoch (R201). -/
def gridAt (mode k : Nat) : Nat := k * (framePeriod mode).1 * 10 ^ 9 / (framePeriod mode).2

/-- The least k whose grid instant is at or after a time. -/
def gridIndexFrom (mode t : Nat) : Nat :=
  (t * (framePeriod mode).2 + (framePeriod mode).1 * 10 ^ 9 - 1) / ((framePeriod mode).1 * 10 ^ 9)

/-- The first grid instant at or after a time. -/
def gridFrom (mode t : Nat) : Nat := gridAt mode (gridIndexFrom mode t)

/-- Whether a time is a grid instant. -/
def onGrid (mode t : Nat) : Bool := gridFrom mode t == t

/-- The first grid instant after a time. -/
def gridAfter (mode t : Nat) : Nat := gridFrom mode (t + 1)

/-- Refresh boundary r(k, j) with M refreshes in the frame (R201). -/
def refreshAt (mode m k j : Nat) : Nat := gridAt mode k + j * (gridAt mode (k + 1) - gridAt mode k) / m

/-- Scanned rows of a SCAN code. -/
def scanRows (code : Nat) : Nat := 32 * 2 ^ code

/-- M of R243. -/
def refreshCount (mode s : Nat) : Nat := 491520 * (framePeriod mode).1 / (s * (framePeriod mode).2)

/-- The first refresh boundary at or after a time: grid index and refresh (R201, R207, R257). -/
def boundaryFrom (mode m t : Nat) : Nat × Nat :=
  let k := gridIndexFrom mode t
  if gridAt mode k = t || k = 0 then (k, 0)
  else
    let base := gridAt mode (k - 1)
    let len := gridAt mode k - base
    let j := ((t - base) * m + len - 1) / len
    if j < m then (k - 1, j) else (k, 0)

/-! Event records (R366). -/

/-- The 32 bytes of a record. -/
def eventBytes (e : EventRec) : List Byte :=
  leBytes e.code 2 ++ leBytes (e.sev + 16 * e.source) 2 ++ leBytes e.seq 4 ++ leBytes e.secs 6 ++
  leBytes (e.ns + 2 ^ 30 * e.tepoch + 2 ^ 38 * e.flags) 6 ++ leBytes e.p0 4 ++ leBytes e.p1 4 ++ leBytes e.p2 4

/-- A record read back from 32 bytes. -/
def eventOfBytes (b : List Byte) : EventRec :=
  { code := leAt b 0 2, sev := natBits (leAt b 2 2) 0 4, source := natBits (leAt b 2 2) 4 12, seq := leAt b 4 4,
    secs := leAt b 8 6, ns := natBits (leAt b 14 6) 0 30, tepoch := natBits (leAt b 14 6) 30 8,
    flags := natBits (leAt b 14 6) 38 10, p0 := leAt b 20 4, p1 := leAt b 24 4, p2 := leAt b 28 4 }

/-! Completion entries (R68). -/

/-- The 16 bytes of a completion entry with its PHASE. -/
def cplBytes (c : Cpl) (phase : Bool) : List Byte :=
  leBytes c.tag 4 ++ leBytes c.status 2 ++ leBytes c.kind 1 ++ leBytes (b2n phase + 2 * c.ring) 1 ++
  leBytes c.index 4 ++ leBytes c.value 4

/-! Cells (R154 to R156). -/

/-- The header word of a packet cell. -/
def cellHeader (sop eop : Bool) (stream cidx : Nat) : Nat :=
  1 + 2 * b2n sop + 4 * b2n eop + 16 * (stream % 2 ^ 14) + 2 ^ 18 * (cidx % 64)

/-- A cell: header, 56 bytes of data, CRC-32C. -/
def mkCell (header : Nat) (data : List Byte) : List Byte :=
  let b := leBytes header 4 ++ slice data 0 56
  b ++ leBytes (crc32c b) 4

/-- The idle cell (R156). -/
def idleCell : List Byte := mkCell 0 []

def cellValid (c : List Byte) : Bool := natBit (leAt c 0 4) 0
def cellSop (c : List Byte) : Bool := natBit (leAt c 0 4) 1
def cellEop (c : List Byte) : Bool := natBit (leAt c 0 4) 2
def cellStream (c : List Byte) : Nat := natBits (leAt c 0 4) 4 14
def cellCidx (c : List Byte) : Nat := natBits (leAt c 0 4) 18 6
def cellData (c : List Byte) : List Byte := slice c 4 56
/-- Whether the cell passes its CCRC. -/
def cellOk (c : List Byte) : Bool := leAt c 60 4 == crc32c (slice c 0 60)

/-- The cells of a packet from cell index `k` on, `n` of them (R158). -/
def cellsFrom (stream : Nat) (bytes : List Byte) (total : Nat) : Nat → Nat → List (List Byte)
  | _, 0 => []
  | k, n + 1 =>
    mkCell (cellHeader (k == 0) (k + 1 == total) stream k) (slice bytes (56 * k) 56) ::
      cellsFrom stream bytes total (k + 1) n

/-- The cells of a packet (R155, R158). -/
def packetCells (p : List Byte) : List (List Byte) :=
  let n := pktCells (p.length - 16)
  cellsFrom (natBits (pktSrc p) 0 14) p n 0 n

end Sys2Proof.Machine
end

