-- ==== Sys2Proof/Machine/Regs.lean ====
section
/-! DEFINITION. The register map (spec/19_register_map.md R438 to R441): every register of the field tables with its
address, the strides of its array, and each field's place, access code, Reset value and legal encodings.
The names of the field constants are the spec's register and field names, joined by an underscore; an array's index
variables are the arguments (LANE_x_STAT.STATE is `LANE_STAT_STATE x`, LANE_xn_STAT.LOS is `LANEN_STAT_LOS x n`). -/

namespace Sys2Proof.Machine

/-- A field of a register: the register's address, the field's lowest bit and its width. -/
structure Fld where
  addr : Nat
  lo : Nat
  width : Nat
  deriving DecidableEq, Repr

/-- Access codes of R9. -/
inductive Access where
  | rw | ro | w1c | wo | rwt | rws
  deriving DecidableEq, Repr

/-- One row of a field table. `legal` lists the inclusive ranges of the encodings that are not reserved (R8);
the empty list means that no encoding is reserved. -/
structure FieldDesc where
  lo : Nat
  width : Nat
  acc : Access
  reset : Nat
  legal : List (Nat × Nat)
  deriving DecidableEq, Repr

/-- One register, or one array of registers: the address of its first word, the (count, stride) of every index with
the largest stride first, and its fields. -/
structure RegDesc where
  base : Nat
  dims : List (Nat × Nat)
  fields : List FieldDesc
  deriving DecidableEq, Repr

/-! Block GEN. -/

/-- R418 (17_power_reset_dormant.md). -/
def GEN_STRAP : Nat := 0x000000
def GEN_STRAP_ROLE : Fld := ⟨GEN_STRAP, 0, 1⟩
def GEN_STRAP_TWIN_PRI : Fld := ⟨GEN_STRAP, 1, 1⟩
def GEN_STRAP_SVC_ADDR : Fld := ⟨GEN_STRAP, 2, 2⟩
/-- R418 (17_power_reset_dormant.md). -/
def GEN_RST_CAUSE : Nat := 0x000004
def GEN_RST_CAUSE_CAUSE : Fld := ⟨GEN_RST_CAUSE, 0, 4⟩
def GEN_RST_CAUSE_WARM_CNT : Fld := ⟨GEN_RST_CAUSE, 16, 16⟩
/-- R418 (17_power_reset_dormant.md). -/
def GEN_STAT : Nat := 0x000008
def GEN_STAT_READY : Fld := ⟨GEN_STAT, 0, 1⟩
def GEN_STAT_BKUP : Fld := ⟨GEN_STAT, 1, 1⟩
def GEN_STAT_MOTION : Fld := ⟨GEN_STAT, 2, 1⟩
def GEN_STAT_WAKE : Fld := ⟨GEN_STAT, 3, 1⟩
def GEN_STAT_PWR_GOOD : Fld := ⟨GEN_STAT, 4, 1⟩
def GEN_STAT_ALERT : Fld := ⟨GEN_STAT, 5, 1⟩
def GEN_STAT_BKUP_SEEN : Fld := ⟨GEN_STAT, 6, 1⟩
def GEN_STAT_MOTION_SEEN : Fld := ⟨GEN_STAT, 7, 1⟩
/-- R418 (17_power_reset_dormant.md). -/
def GEN_CTRL : Nat := 0x00000C
def GEN_CTRL_ALERT_FW : Fld := ⟨GEN_CTRL, 0, 1⟩
def GEN_CTRL_WDOG : Fld := ⟨GEN_CTRL, 8, 8⟩
/-- R418 (17_power_reset_dormant.md). -/
def GEN_WDOG : Nat := 0x000010
def GEN_WDOG_KICK : Fld := ⟨GEN_WDOG, 0, 32⟩
/-- R418 (17_power_reset_dormant.md). -/
def GEN_RST : Nat := 0x000014
def GEN_RST_WARM : Fld := ⟨GEN_RST, 0, 1⟩
def GEN_RST_CORES : Fld := ⟨GEN_RST, 1, 1⟩
/-- R450 (19_register_map.md). -/
def GEN_SVC_STAT : Nat := 0x000020
def GEN_SVC_STAT_NACKS : Fld := ⟨GEN_SVC_STAT, 0, 16⟩
def GEN_SVC_STAT_DENIED_SEEN : Fld := ⟨GEN_SVC_STAT, 16, 1⟩
def GEN_SVC_STAT_FULL_SEEN : Fld := ⟨GEN_SVC_STAT, 17, 1⟩
/-- R450 (19_register_map.md). -/
def GEN_ACC_ERR : Nat := 0x000024
def GEN_ACC_ERR_ADDR : Fld := ⟨GEN_ACC_ERR, 0, 24⟩
def GEN_ACC_ERR_INIT : Fld := ⟨GEN_ACC_ERR, 24, 3⟩
def GEN_ACC_ERR_WRITE : Fld := ⟨GEN_ACC_ERR, 27, 1⟩
def GEN_ACC_ERR_NARROW : Fld := ⟨GEN_ACC_ERR, 28, 1⟩
def GEN_ACC_ERR_VALID : Fld := ⟨GEN_ACC_ERR, 31, 1⟩

/-- The registers of block GEN. -/
def regsGEN : List RegDesc :=
  [
    ⟨0x000000, [], [⟨0, 1, .ro, 0x0, []⟩, ⟨1, 1, .ro, 0x0, []⟩, ⟨2, 2, .ro, 0x0, []⟩]⟩,
    ⟨0x000004, [], [⟨0, 4, .ro, 0x0, []⟩, ⟨16, 16, .rws, 0x0, []⟩]⟩,
    ⟨0x000008, [], [⟨0, 1, .ro, 0x0, []⟩, ⟨1, 1, .ro, 0x0, []⟩, ⟨2, 1, .ro, 0x0, []⟩, ⟨3, 1, .ro, 0x0, []⟩, ⟨4, 1, .ro, 0x0, []⟩, ⟨5, 1, .ro, 0x0, []⟩, ⟨6, 1, .w1c, 0x0, []⟩, ⟨7, 1, .w1c, 0x0, []⟩]⟩,
    ⟨0x00000C, [], [⟨0, 1, .rw, 0x0, []⟩, ⟨8, 8, .rw, 0x0, []⟩]⟩,
    ⟨0x000010, [], [⟨0, 32, .wo, 0x0, []⟩]⟩,
    ⟨0x000014, [], [⟨0, 1, .rwt, 0x0, []⟩, ⟨1, 1, .rwt, 0x0, []⟩]⟩,
    ⟨0x000020, [], [⟨0, 16, .rw, 0x0, []⟩, ⟨16, 1, .w1c, 0x0, []⟩, ⟨17, 1, .w1c, 0x0, []⟩]⟩,
    ⟨0x000024, [], [⟨0, 24, .ro, 0x0, []⟩, ⟨24, 3, .ro, 0x0, []⟩, ⟨27, 1, .ro, 0x0, []⟩, ⟨28, 1, .ro, 0x0, []⟩, ⟨31, 1, .w1c, 0x0, []⟩]⟩
  ]

/-! Block HIF. -/

/-- R85 (03_host_interface.md). -/
def HIF_ID : Nat := 0x010000
def HIF_ID_DEVICE : Fld := ⟨HIF_ID, 0, 16⟩
def HIF_ID_REV : Fld := ⟨HIF_ID, 16, 8⟩
def HIF_ID_SENDER : Fld := ⟨HIF_ID, 24, 1⟩
/-- R85 (03_host_interface.md). -/
def HIF_CTRL : Nat := 0x010004
def HIF_CTRL_EN : Fld := ⟨HIF_CTRL, 0, 1⟩
def HIF_CTRL_POLL_US : Fld := ⟨HIF_CTRL, 8, 7⟩
/-- R85 (03_host_interface.md). -/
def HIF_STAT : Nat := 0x010008
def HIF_STAT_READY : Fld := ⟨HIF_STAT, 0, 1⟩
def HIF_STAT_RUN : Fld := ⟨HIF_STAT, 1, 1⟩
def HIF_STAT_DB_ERR : Fld := ⟨HIF_STAT, 2, 1⟩
def HIF_STAT_LINK_GEN : Fld := ⟨HIF_STAT, 4, 4⟩
def HIF_STAT_LINK_WIDTH : Fld := ⟨HIF_STAT, 8, 4⟩
def HIF_STAT_INFLIGHT : Fld := ⟨HIF_STAT, 16, 11⟩
/-- R85 (03_host_interface.md). -/
def HIF_DB_LO : Nat := 0x01000C
def HIF_DB_LO_ADDR : Fld := ⟨HIF_DB_LO, 12, 20⟩
/-- R85 (03_host_interface.md). -/
def HIF_DB_HI : Nat := 0x010010
def HIF_DB_HI_ADDR : Fld := ⟨HIF_DB_HI, 0, 32⟩
/-- R85 (03_host_interface.md). -/
def HIF_SH_LO : Nat := 0x010014
def HIF_SH_LO_ADDR : Fld := ⟨HIF_SH_LO, 12, 20⟩
/-- R85 (03_host_interface.md). -/
def HIF_SH_HI : Nat := 0x010018
def HIF_SH_HI_ADDR : Fld := ⟨HIF_SH_HI, 0, 32⟩
/-- R85 (03_host_interface.md). -/
def HIF_CMD_TMO : Nat := 0x01001C
def HIF_CMD_TMO_US : Fld := ⟨HIF_CMD_TMO, 0, 16⟩
/-- R85 (03_host_interface.md). -/
def HIF_EVT_CFG : Nat := 0x010020
def HIF_EVT_CFG_MIN_SEV : Fld := ⟨HIF_EVT_CFG, 0, 4⟩
/-- R85 (03_host_interface.md). -/
def HIF_EVT_DROP : Nat := 0x010024
def HIF_EVT_DROP_COUNT : Fld := ⟨HIF_EVT_DROP, 0, 32⟩
/-- R85 (03_host_interface.md). -/
def HIF_ISR : Nat := 0x010028
def HIF_ISR_CAUSE : Fld := ⟨HIF_ISR, 0, 16⟩
/-- R85 (03_host_interface.md). -/
def HIF_VEC (n : Nat) : Nat := 0x010040 + 0x4 * n
def HIF_VEC_VECTOR (n : Nat) : Fld := ⟨(HIF_VEC n), 0, 6⟩
def HIF_VEC_EN (n : Nat) : Fld := ⟨(HIF_VEC n), 7, 1⟩
def HIF_VEC_COUNT (n : Nat) : Fld := ⟨(HIF_VEC n), 8, 8⟩
def HIF_VEC_TIME (n : Nat) : Fld := ⟨(HIF_VEC n), 16, 16⟩

/-- The registers of block HIF. -/
def regsHIF : List RegDesc :=
  [
    ⟨0x010000, [], [⟨0, 16, .ro, 0x4892, []⟩, ⟨16, 8, .ro, 0x0, []⟩, ⟨24, 1, .ro, 0x0, []⟩]⟩,
    ⟨0x010004, [], [⟨0, 1, .rw, 0x0, []⟩, ⟨8, 7, .rw, 0x10, [(1, 64)]⟩]⟩,
    ⟨0x010008, [], [⟨0, 1, .ro, 0x0, []⟩, ⟨1, 1, .ro, 0x0, []⟩, ⟨2, 1, .w1c, 0x0, []⟩, ⟨4, 4, .ro, 0x0, []⟩, ⟨8, 4, .ro, 0x0, []⟩, ⟨16, 11, .ro, 0x0, []⟩]⟩,
    ⟨0x01000C, [], [⟨12, 20, .rw, 0x0, []⟩]⟩,
    ⟨0x010010, [], [⟨0, 32, .rw, 0x0, []⟩]⟩,
    ⟨0x010014, [], [⟨12, 20, .rw, 0x0, []⟩]⟩,
    ⟨0x010018, [], [⟨0, 32, .rw, 0x0, []⟩]⟩,
    ⟨0x01001C, [], [⟨0, 16, .rw, 0x3e8, [(100, 65535)]⟩]⟩,
    ⟨0x010020, [], [⟨0, 4, .rw, 0x0, []⟩]⟩,
    ⟨0x010024, [], [⟨0, 32, .rw, 0x0, []⟩]⟩,
    ⟨0x010028, [], [⟨0, 16, .w1c, 0x0, []⟩]⟩,
    ⟨0x010040, [(16, 0x4)], [⟨0, 6, .rw, 0x0, []⟩, ⟨7, 1, .rw, 0x0, []⟩, ⟨8, 8, .rw, 0x1, []⟩, ⟨16, 16, .rw, 0x0, []⟩]⟩
  ]

/-! Block RING. -/

/-- R86 (03_host_interface.md). -/
def RING_BASE_LO (n : Nat) : Nat := 0x020000 + 0x20 * n
def RING_BASE_LO_ADDR (n : Nat) : Fld := ⟨(RING_BASE_LO n), 12, 20⟩
/-- R86 (03_host_interface.md). -/
def RING_BASE_HI (n : Nat) : Nat := 0x020004 + 0x20 * n
def RING_BASE_HI_ADDR (n : Nat) : Fld := ⟨(RING_BASE_HI n), 0, 32⟩
/-- R86 (03_host_interface.md). -/
def RING_CFG (n : Nat) : Nat := 0x020008 + 0x20 * n
def RING_CFG_LOG2SIZE (n : Nat) : Fld := ⟨(RING_CFG n), 0, 4⟩
def RING_CFG_EN (n : Nat) : Fld := ⟨(RING_CFG n), 8, 1⟩
def RING_CFG_BUSY (n : Nat) : Fld := ⟨(RING_CFG n), 9, 1⟩
/-- R86 (03_host_interface.md). -/
def RING_IDX (n : Nat) : Nat := 0x02000C + 0x20 * n
def RING_IDX_INDEX (n : Nat) : Fld := ⟨(RING_IDX n), 0, 32⟩
/-- R86 (03_host_interface.md). -/
def RING_ERR (n : Nat) : Nat := 0x020010 + 0x20 * n
def RING_ERR_CODE (n : Nat) : Fld := ⟨(RING_ERR n), 0, 4⟩
/-- R86 (03_host_interface.md). -/
def RING_ERR_IDX (n : Nat) : Nat := 0x020014 + 0x20 * n
def RING_ERR_IDX_INDEX (n : Nat) : Fld := ⟨(RING_ERR_IDX n), 0, 32⟩
/-- R118 (04_layers_surfaces_modes.md). -/
def RING_FLIP_MODE : Nat := 0x020100
def RING_FLIP_MODE_CUR : Fld := ⟨RING_FLIP_MODE, 0, 8⟩
def RING_FLIP_MODE_NEXT : Fld := ⟨RING_FLIP_MODE, 8, 8⟩
/-- R118 (04_layers_surfaces_modes.md). -/
def RING_FLIP_ACC : Nat := 0x020104
def RING_FLIP_ACC_COUNT : Fld := ⟨RING_FLIP_ACC, 0, 32⟩
/-- R118 (04_layers_surfaces_modes.md). -/
def RING_FLIP_REJ : Nat := 0x020108
def RING_FLIP_REJ_COUNT : Fld := ⟨RING_FLIP_REJ, 0, 16⟩
def RING_FLIP_REJ_LAST : Fld := ⟨RING_FLIP_REJ, 16, 16⟩
/-- R118 (04_layers_surfaces_modes.md). -/
def RING_FLIP_HELD : Nat := 0x02010C
def RING_FLIP_HELD_HELD : Fld := ⟨RING_FLIP_HELD, 0, 16⟩
def RING_FLIP_HELD_DEFER : Fld := ⟨RING_FLIP_HELD, 16, 16⟩

/-- The registers of block RING. -/
def regsRING : List RegDesc :=
  [
    ⟨0x020000, [(5, 0x20)], [⟨12, 20, .rw, 0x0, []⟩]⟩,
    ⟨0x020004, [(5, 0x20)], [⟨0, 32, .rw, 0x0, []⟩]⟩,
    ⟨0x020008, [(5, 0x20)], [⟨0, 4, .rw, 0x6, [(6, 12)]⟩, ⟨8, 1, .rw, 0x0, []⟩, ⟨9, 1, .ro, 0x0, []⟩]⟩,
    ⟨0x02000C, [(5, 0x20)], [⟨0, 32, .ro, 0x0, []⟩]⟩,
    ⟨0x020010, [(5, 0x20)], [⟨0, 4, .ro, 0x0, []⟩]⟩,
    ⟨0x020014, [(5, 0x20)], [⟨0, 32, .ro, 0x0, []⟩]⟩,
    ⟨0x020100, [], [⟨0, 8, .ro, 0xff, []⟩, ⟨8, 8, .ro, 0xff, []⟩]⟩,
    ⟨0x020104, [], [⟨0, 32, .ro, 0x0, []⟩]⟩,
    ⟨0x020108, [], [⟨0, 16, .ro, 0x0, []⟩, ⟨16, 16, .ro, 0x0, []⟩]⟩,
    ⟨0x02010C, [], [⟨0, 16, .ro, 0x0, []⟩, ⟨16, 16, .ro, 0x0, []⟩]⟩
  ]

/-! Block LANE. -/

/-- R150 (05_chain_lanes.md). -/
def LANE_CTRL (n : Nat) : Nat := 0x030000 + 0x400 * n
def LANE_CTRL_EN (n : Nat) : Fld := ⟨(LANE_CTRL n), 0, 1⟩
def LANE_CTRL_TARGET (n : Nat) : Fld := ⟨(LANE_CTRL n), 1, 2⟩
def LANE_CTRL_RATE (n : Nat) : Fld := ⟨(LANE_CTRL n), 3, 1⟩
def LANE_CTRL_TXONLY_EN (n : Nat) : Fld := ⟨(LANE_CTRL n), 4, 1⟩
def LANE_CTRL_TXIDLE (n : Nat) : Fld := ⟨(LANE_CTRL n), 5, 1⟩
def LANE_CTRL_TMO (n : Nat) : Fld := ⟨(LANE_CTRL n), 8, 8⟩
/-- R150 (05_chain_lanes.md). -/
def LANE_STAT (n : Nat) : Nat := 0x030004 + 0x400 * n
def LANE_STAT_STATE (n : Nat) : Fld := ⟨(LANE_STAT n), 0, 4⟩
def LANE_STAT_UP (n : Nat) : Fld := ⟨(LANE_STAT n), 4, 1⟩
def LANE_STAT_TX_UP (n : Nat) : Fld := ⟨(LANE_STAT n), 5, 1⟩
def LANE_STAT_RX_UP (n : Nat) : Fld := ⟨(LANE_STAT n), 6, 1⟩
def LANE_STAT_PEER_PM (n : Nat) : Fld := ⟨(LANE_STAT n), 7, 2⟩
def LANE_STAT_PEER_REFDEP (n : Nat) : Fld := ⟨(LANE_STAT n), 9, 1⟩
def LANE_STAT_SWAP (n : Nat) : Fld := ⟨(LANE_STAT n), 10, 1⟩
def LANE_STAT_SKEW (n : Nat) : Fld := ⟨(LANE_STAT n), 11, 1⟩
def LANE_STAT_TMO_SEEN (n : Nat) : Fld := ⟨(LANE_STAT n), 12, 1⟩
def LANE_STAT_DOWN_SEEN (n : Nat) : Fld := ⟨(LANE_STAT n), 13, 1⟩
/-- R150 (05_chain_lanes.md). -/
def LANEN_STAT (x n : Nat) : Nat := 0x030100 + 0x400 * x + 0x80 * n
def LANEN_STAT_LOS (x n : Nat) : Fld := ⟨(LANEN_STAT x n), 0, 1⟩
def LANEN_STAT_LOL (x n : Nat) : Fld := ⟨(LANEN_STAT x n), 1, 1⟩
def LANEN_STAT_POLINV (x n : Nat) : Fld := ⟨(LANEN_STAT x n), 2, 1⟩
def LANEN_STAT_GUARD (x n : Nat) : Fld := ⟨(LANEN_STAT x n), 3, 1⟩
def LANEN_STAT_LOS_SEEN (x n : Nat) : Fld := ⟨(LANEN_STAT x n), 4, 1⟩
def LANEN_STAT_LOL_SEEN (x n : Nat) : Fld := ⟨(LANEN_STAT x n), 5, 1⟩
def LANEN_STAT_GUARD_SEEN (x n : Nat) : Fld := ⟨(LANEN_STAT x n), 6, 1⟩
/-- R150 (05_chain_lanes.md). -/
def LANEN_EYEW (x n : Nat) : Nat := 0x030104 + 0x400 * x + 0x80 * n
def LANEN_EYEW_WIDTH (x n : Nat) : Fld := ⟨(LANEN_EYEW x n), 0, 8⟩
def LANEN_EYEW_VALID (x n : Nat) : Fld := ⟨(LANEN_EYEW x n), 8, 1⟩
def LANEN_EYEW_LIVE (x n : Nat) : Fld := ⟨(LANEN_EYEW x n), 16, 8⟩
/-- R150 (05_chain_lanes.md). -/
def LANEN_GUARD (x n : Nat) : Nat := 0x030108 + 0x400 * x + 0x80 * n
def LANEN_GUARD_THRESH (x n : Nat) : Fld := ⟨(LANEN_GUARD x n), 0, 8⟩
def LANEN_GUARD_HYST (x n : Nat) : Fld := ⟨(LANEN_GUARD x n), 8, 8⟩
/-- R150 (05_chain_lanes.md). -/
def LANEN_TXEQ (x n : Nat) : Nat := 0x03010C + 0x400 * x + 0x80 * n
def LANEN_TXEQ_PRE (x n : Nat) : Fld := ⟨(LANEN_TXEQ x n), 0, 4⟩
def LANEN_TXEQ_POST (x n : Nat) : Fld := ⟨(LANEN_TXEQ x n), 4, 4⟩
def LANEN_TXEQ_SWING (x n : Nat) : Fld := ⟨(LANEN_TXEQ x n), 8, 4⟩
/-- R150 (05_chain_lanes.md). -/
def LANEN_CWC (x n : Nat) : Nat := 0x030110 + 0x400 * x + 0x80 * n
def LANEN_CWC_COUNT (x n : Nat) : Fld := ⟨(LANEN_CWC x n), 0, 32⟩
/-- R150 (05_chain_lanes.md). -/
def LANEN_CWU (x n : Nat) : Nat := 0x030114 + 0x400 * x + 0x80 * n
def LANEN_CWU_COUNT (x n : Nat) : Fld := ⟨(LANEN_CWU x n), 0, 32⟩
/-- R150 (05_chain_lanes.md). -/
def LANEN_SYM (x n : Nat) : Nat := 0x030118 + 0x400 * x + 0x80 * n
def LANEN_SYM_COUNT (x n : Nat) : Fld := ⟨(LANEN_SYM x n), 0, 32⟩
/-- R150 (05_chain_lanes.md). -/
def LANE_REF_CTRL : Nat := 0x031000
def LANE_REF_CTRL_SEL : Fld := ⟨LANE_REF_CTRL, 0, 2⟩
def LANE_REF_CTRL_SSC_EN : Fld := ⟨LANE_REF_CTRL, 2, 1⟩
/-- R150 (05_chain_lanes.md). -/
def LANE_REF_STAT : Nat := 0x031004
def LANE_REF_STAT_LOCKED : Fld := ⟨LANE_REF_STAT, 0, 1⟩
def LANE_REF_STAT_HOLDOVER : Fld := ⟨LANE_REF_STAT, 1, 1⟩
def LANE_REF_STAT_SRC : Fld := ⟨LANE_REF_STAT, 2, 1⟩
def LANE_REF_STAT_BYPASS : Fld := ⟨LANE_REF_STAT, 3, 1⟩
def LANE_REF_STAT_REFI_A_OK : Fld := ⟨LANE_REF_STAT, 4, 1⟩
def LANE_REF_STAT_REFI_B_OK : Fld := ⟨LANE_REF_STAT, 5, 1⟩
def LANE_REF_STAT_SSC : Fld := ⟨LANE_REF_STAT, 6, 1⟩
def LANE_REF_STAT_HOLD_SEEN : Fld := ⟨LANE_REF_STAT, 7, 1⟩

/-- The registers of block LANE. -/
def regsLANE : List RegDesc :=
  [
    ⟨0x030000, [(4, 0x400)], [⟨0, 1, .rw, 0x0, []⟩, ⟨1, 2, .rw, 0x0, [(0, 2)]⟩, ⟨3, 1, .rws, 0x0, []⟩, ⟨4, 1, .rw, 0x0, []⟩, ⟨5, 1, .rw, 0x0, []⟩, ⟨8, 8, .rw, 0x19, [(1, 255)]⟩]⟩,
    ⟨0x030004, [(4, 0x400)], [⟨0, 4, .ro, 0x0, []⟩, ⟨4, 1, .ro, 0x0, []⟩, ⟨5, 1, .ro, 0x0, []⟩, ⟨6, 1, .ro, 0x0, []⟩, ⟨7, 2, .ro, 0x0, []⟩, ⟨9, 1, .ro, 0x0, []⟩, ⟨10, 1, .ro, 0x0, []⟩, ⟨11, 1, .ro, 0x0, []⟩, ⟨12, 1, .w1c, 0x0, []⟩, ⟨13, 1, .w1c, 0x0, []⟩]⟩,
    ⟨0x030100, [(4, 0x400), (2, 0x80)], [⟨0, 1, .ro, 0x1, []⟩, ⟨1, 1, .ro, 0x1, []⟩, ⟨2, 1, .ro, 0x0, []⟩, ⟨3, 1, .ro, 0x0, []⟩, ⟨4, 1, .w1c, 0x0, []⟩, ⟨5, 1, .w1c, 0x0, []⟩, ⟨6, 1, .w1c, 0x0, []⟩]⟩,
    ⟨0x030104, [(4, 0x400), (2, 0x80)], [⟨0, 8, .ro, 0x0, []⟩, ⟨8, 1, .ro, 0x0, []⟩, ⟨16, 8, .ro, 0x0, []⟩]⟩,
    ⟨0x030108, [(4, 0x400), (2, 0x80)], [⟨0, 8, .rw, 0x12, []⟩, ⟨8, 8, .rw, 0x3, []⟩]⟩,
    ⟨0x03010C, [(4, 0x400), (2, 0x80)], [⟨0, 4, .rws, 0x2, []⟩, ⟨4, 4, .rws, 0x4, []⟩, ⟨8, 4, .rws, 0xa, []⟩]⟩,
    ⟨0x030110, [(4, 0x400), (2, 0x80)], [⟨0, 32, .rw, 0x0, []⟩]⟩,
    ⟨0x030114, [(4, 0x400), (2, 0x80)], [⟨0, 32, .rw, 0x0, []⟩]⟩,
    ⟨0x030118, [(4, 0x400), (2, 0x80)], [⟨0, 32, .rw, 0x0, []⟩]⟩,
    ⟨0x031000, [], [⟨0, 2, .rw, 0x0, [(0, 2)]⟩, ⟨2, 1, .rws, 0x0, []⟩]⟩,
    ⟨0x031004, [], [⟨0, 1, .ro, 0x0, []⟩, ⟨1, 1, .ro, 0x0, []⟩, ⟨2, 1, .ro, 0x0, []⟩, ⟨3, 1, .ro, 0x1, []⟩, ⟨4, 1, .ro, 0x0, []⟩, ⟨5, 1, .ro, 0x0, []⟩, ⟨6, 1, .ro, 0x0, []⟩, ⟨7, 1, .w1c, 0x0, []⟩]⟩
  ]

/-! Block XPT. -/

/-- R185 (06_chain_transport.md). -/
def XPT_CTRL : Nat := 0x040000
def XPT_CTRL_AUTO_ENUM : Fld := ⟨XPT_CTRL, 0, 1⟩
def XPT_CTRL_WIT_EN : Fld := ⟨XPT_CTRL, 1, 1⟩
def XPT_CTRL_PAIR : Fld := ⟨XPT_CTRL, 4, 4⟩
/-- R185 (06_chain_transport.md). -/
def XPT_ADDR : Nat := 0x040004
def XPT_ADDR_ADDR : Fld := ⟨XPT_ADDR, 0, 12⟩
def XPT_ADDR_VALID : Fld := ⟨XPT_ADDR, 15, 1⟩
/-- R185 (06_chain_transport.md). -/
def XPT_STAT : Nat := 0x040008
def XPT_STAT_OVERLONG : Fld := ⟨XPT_STAT, 0, 1⟩
def XPT_STAT_RENUM : Fld := ⟨XPT_STAT, 1, 1⟩
/-- R185 (06_chain_transport.md). -/
def XPT_CELLERR (n : Nat) : Nat := 0x040100 + 0x40 * n
def XPT_CELLERR_COUNT (n : Nat) : Fld := ⟨(XPT_CELLERR n), 0, 32⟩
/-- R185 (06_chain_transport.md). -/
def XPT_PKTERR (n : Nat) : Nat := 0x040104 + 0x40 * n
def XPT_PKTERR_COUNT (n : Nat) : Fld := ⟨(XPT_PKTERR n), 0, 32⟩
/-- R185 (06_chain_transport.md). -/
def XPT_UNKTYPE (n : Nat) : Nat := 0x040108 + 0x40 * n
def XPT_UNKTYPE_COUNT (n : Nat) : Fld := ⟨(XPT_UNKTYPE n), 0, 32⟩
/-- R185 (06_chain_transport.md). -/
def XPT_OVF (n : Nat) : Nat := 0x04010C + 0x40 * n
def XPT_OVF_COUNT (n : Nat) : Fld := ⟨(XPT_OVF n), 0, 32⟩
/-- R185 (06_chain_transport.md). -/
def XPT_ORPHAN (n : Nat) : Nat := 0x040110 + 0x40 * n
def XPT_ORPHAN_COUNT (n : Nat) : Fld := ⟨(XPT_ORPHAN n), 0, 32⟩
/-- R185 (06_chain_transport.md). -/
def XPT_PRES_LO (n : Nat) : Nat := 0x040114 + 0x40 * n
def XPT_PRES_LO_MAP (n : Nat) : Fld := ⟨(XPT_PRES_LO n), 0, 32⟩
/-- R185 (06_chain_transport.md). -/
def XPT_PRES_HI (n : Nat) : Nat := 0x040118 + 0x40 * n
def XPT_PRES_HI_MAP (n : Nat) : Fld := ⟨(XPT_PRES_HI n), 0, 32⟩
/-- R185 (06_chain_transport.md). -/
def XPT_CHAIN (n : Nat) : Nat := 0x04011C + 0x40 * n
def XPT_CHAIN_COUNT (n : Nat) : Fld := ⟨(XPT_CHAIN n), 0, 7⟩
def XPT_CHAIN_COUNT_VALID (n : Nat) : Fld := ⟨(XPT_CHAIN n), 7, 1⟩
def XPT_CHAIN_END (n : Nat) : Fld := ⟨(XPT_CHAIN n), 8, 1⟩
def XPT_CHAIN_END_VALID (n : Nat) : Fld := ⟨(XPT_CHAIN n), 9, 1⟩
/-- R185 (06_chain_transport.md). -/
def XPT_FRAME_CELLS (n : Nat) : Nat := 0x040120 + 0x40 * n
def XPT_FRAME_CELLS_CELLS (n : Nat) : Fld := ⟨(XPT_FRAME_CELLS n), 0, 32⟩
/-- R185 (06_chain_transport.md). -/
def XPT_TRUNC (n : Nat) : Nat := 0x040124 + 0x40 * n
def XPT_TRUNC_COUNT (n : Nat) : Fld := ⟨(XPT_TRUNC n), 0, 32⟩

/-- The registers of block XPT. -/
def regsXPT : List RegDesc :=
  [
    ⟨0x040000, [], [⟨0, 1, .rw, 0x0, []⟩, ⟨1, 1, .rw, 0x1, []⟩, ⟨4, 4, .rws, 0x0, []⟩]⟩,
    ⟨0x040004, [], [⟨0, 12, .rws, 0x0, []⟩, ⟨15, 1, .rws, 0x0, []⟩]⟩,
    ⟨0x040008, [], [⟨0, 1, .w1c, 0x0, []⟩, ⟨1, 1, .w1c, 0x0, []⟩]⟩,
    ⟨0x040100, [(4, 0x40)], [⟨0, 32, .rw, 0x0, []⟩]⟩,
    ⟨0x040104, [(4, 0x40)], [⟨0, 32, .rw, 0x0, []⟩]⟩,
    ⟨0x040108, [(4, 0x40)], [⟨0, 32, .rw, 0x0, []⟩]⟩,
    ⟨0x04010C, [(4, 0x40)], [⟨0, 32, .rw, 0x0, []⟩]⟩,
    ⟨0x040110, [(4, 0x40)], [⟨0, 32, .rw, 0x0, []⟩]⟩,
    ⟨0x040114, [(4, 0x40)], [⟨0, 32, .ro, 0x0, []⟩]⟩,
    ⟨0x040118, [(4, 0x40)], [⟨0, 32, .ro, 0x0, []⟩]⟩,
    ⟨0x04011C, [(4, 0x40)], [⟨0, 7, .ro, 0x0, []⟩, ⟨7, 1, .ro, 0x0, []⟩, ⟨8, 1, .ro, 0x0, []⟩, ⟨9, 1, .ro, 0x0, []⟩]⟩,
    ⟨0x040120, [(4, 0x40)], [⟨0, 32, .ro, 0x0, []⟩]⟩,
    ⟨0x040124, [(4, 0x40)], [⟨0, 32, .rw, 0x0, []⟩]⟩
  ]

/-! Block TIME. -/

/-- R209 (07_wall_time.md). -/
def TIME_CTRL : Nat := 0x050000
def TIME_CTRL_SRC : Fld := ⟨TIME_CTRL, 0, 2⟩
def TIME_CTRL_PREF : Fld := ⟨TIME_CTRL, 2, 1⟩
def TIME_CTRL_SURVEY_EN : Fld := ⟨TIME_CTRL, 3, 1⟩
def TIME_CTRL_REVERT_S : Fld := ⟨TIME_CTRL, 8, 8⟩
def TIME_CTRL_SLEW_PPM : Fld := ⟨TIME_CTRL, 16, 5⟩
/-- R209 (07_wall_time.md). -/
def TIME_STAT : Nat := 0x050004
def TIME_STAT_STATE : Fld := ⟨TIME_STAT, 0, 2⟩
def TIME_STAT_SEL : Fld := ⟨TIME_STAT, 2, 2⟩
def TIME_STAT_SLEWING : Fld := ⟨TIME_STAT, 4, 1⟩
def TIME_STAT_STEP_SEEN : Fld := ⟨TIME_STAT, 5, 1⟩
def TIME_STAT_PATH_OK : Fld := ⟨TIME_STAT, 6, 1⟩
def TIME_STAT_TEPOCH : Fld := ⟨TIME_STAT, 8, 8⟩
/-- R209 (07_wall_time.md). -/
def TIME_NOW_NS : Nat := 0x050008
def TIME_NOW_NS_NS : Fld := ⟨TIME_NOW_NS, 0, 30⟩
/-- R209 (07_wall_time.md). -/
def TIME_NOW_SL : Nat := 0x05000C
def TIME_NOW_SL_S : Fld := ⟨TIME_NOW_SL, 0, 32⟩
/-- R209 (07_wall_time.md). -/
def TIME_NOW_SH : Nat := 0x050010
def TIME_NOW_SH_S : Fld := ⟨TIME_NOW_SH, 0, 16⟩
def TIME_NOW_SH_FRAC : Fld := ⟨TIME_NOW_SH, 16, 16⟩
/-- R209 (07_wall_time.md). -/
def TIME_TRIM : Nat := 0x050014
def TIME_TRIM_TRIM : Fld := ⟨TIME_TRIM, 0, 32⟩
/-- R209 (07_wall_time.md). -/
def TIME_OFFSET : Nat := 0x050018
def TIME_OFFSET_OFFSET : Fld := ⟨TIME_OFFSET, 0, 32⟩
/-- R209 (07_wall_time.md). -/
def TIME_LAUNCH : Nat := 0x05001C
def TIME_LAUNCH_LEAD_US : Fld := ⟨TIME_LAUNCH, 0, 16⟩
/-- R209 (07_wall_time.md). -/
def TIME_PPS : Nat := 0x050020
def TIME_PPS_MODE : Fld := ⟨TIME_PPS, 0, 2⟩
def TIME_PPS_WIDTH_US : Fld := ⟨TIME_PPS, 8, 10⟩
/-- R209 (07_wall_time.md). -/
def TIME_PPSIN : Nat := 0x050024
def TIME_PPSIN_NS : Fld := ⟨TIME_PPSIN, 0, 30⟩
def TIME_PPSIN_NEW : Fld := ⟨TIME_PPSIN, 31, 1⟩
/-- R209 (07_wall_time.md). -/
def TIME_PATH_A : Nat := 0x050028
def TIME_PATH_A_DELAY : Fld := ⟨TIME_PATH_A, 0, 24⟩
def TIME_PATH_A_VALID : Fld := ⟨TIME_PATH_A, 31, 1⟩
/-- R209 (07_wall_time.md). -/
def TIME_PATH_B : Nat := 0x05002C
def TIME_PATH_B_DELAY : Fld := ⟨TIME_PATH_B, 0, 24⟩
def TIME_PATH_B_VALID : Fld := ⟨TIME_PATH_B, 31, 1⟩
/-- R209 (07_wall_time.md). -/
def TIME_PTP_CTRL (n : Nat) : Nat := 0x050100 + 0x40 * n
def TIME_PTP_CTRL_EN (n : Nat) : Fld := ⟨(TIME_PTP_CTRL n), 0, 1⟩
def TIME_PTP_CTRL_PROFILE (n : Nat) : Fld := ⟨(TIME_PTP_CTRL n), 1, 1⟩
def TIME_PTP_CTRL_UDP (n : Nat) : Fld := ⟨(TIME_PTP_CTRL n), 2, 1⟩
def TIME_PTP_CTRL_P2P (n : Nat) : Fld := ⟨(TIME_PTP_CTRL n), 3, 1⟩
def TIME_PTP_CTRL_VLAN_EN (n : Nat) : Fld := ⟨(TIME_PTP_CTRL n), 4, 1⟩
def TIME_PTP_CTRL_DOMAIN (n : Nat) : Fld := ⟨(TIME_PTP_CTRL n), 8, 7⟩
def TIME_PTP_CTRL_VLAN_ID (n : Nat) : Fld := ⟨(TIME_PTP_CTRL n), 16, 12⟩
/-- R209 (07_wall_time.md). -/
def TIME_PTP_STAT (n : Nat) : Nat := 0x050104 + 0x40 * n
def TIME_PTP_STAT_STATE (n : Nat) : Fld := ⟨(TIME_PTP_STAT n), 0, 2⟩
def TIME_PTP_STAT_TWO_STEP (n : Nat) : Fld := ⟨(TIME_PTP_STAT n), 2, 1⟩
def TIME_PTP_STAT_LINK (n : Nat) : Fld := ⟨(TIME_PTP_STAT n), 3, 1⟩
def TIME_PTP_STAT_UTC_OFFSET (n : Nat) : Fld := ⟨(TIME_PTP_STAT n), 16, 16⟩
/-- R209 (07_wall_time.md). -/
def TIME_PTP_OFFSET (n : Nat) : Nat := 0x050108 + 0x40 * n
def TIME_PTP_OFFSET_VALUE (n : Nat) : Fld := ⟨(TIME_PTP_OFFSET n), 0, 32⟩
/-- R209 (07_wall_time.md). -/
def TIME_PTP_MPD (n : Nat) : Nat := 0x05010C + 0x40 * n
def TIME_PTP_MPD_VALUE (n : Nat) : Fld := ⟨(TIME_PTP_MPD n), 0, 32⟩
/-- R209 (07_wall_time.md). -/
def TIME_PTP_GMID_LO (n : Nat) : Nat := 0x050110 + 0x40 * n
def TIME_PTP_GMID_LO_ID (n : Nat) : Fld := ⟨(TIME_PTP_GMID_LO n), 0, 32⟩
/-- R209 (07_wall_time.md). -/
def TIME_PTP_GMID_HI (n : Nat) : Nat := 0x050114 + 0x40 * n
def TIME_PTP_GMID_HI_ID (n : Nat) : Fld := ⟨(TIME_PTP_GMID_HI n), 0, 32⟩
/-- R209 (07_wall_time.md). -/
def TIME_PTP_IPV4 (n : Nat) : Nat := 0x050118 + 0x40 * n
def TIME_PTP_IPV4_ADDR (n : Nat) : Fld := ⟨(TIME_PTP_IPV4 n), 0, 32⟩

/-- The registers of block TIME. -/
def regsTIME : List RegDesc :=
  [
    ⟨0x050000, [], [⟨0, 2, .rw, 0x0, [(0, 2)]⟩, ⟨2, 1, .rw, 0x0, []⟩, ⟨3, 1, .rw, 0x1, []⟩, ⟨8, 8, .rw, 0xa, []⟩, ⟨16, 5, .rw, 0xa, [(1, 30)]⟩]⟩,
    ⟨0x050004, [], [⟨0, 2, .ro, 0x0, []⟩, ⟨2, 2, .ro, 0x3, []⟩, ⟨4, 1, .ro, 0x0, []⟩, ⟨5, 1, .w1c, 0x0, []⟩, ⟨6, 1, .ro, 0x0, []⟩, ⟨8, 8, .rws, 0x0, []⟩]⟩,
    ⟨0x050008, [], [⟨0, 30, .ro, 0x0, []⟩]⟩,
    ⟨0x05000C, [], [⟨0, 32, .ro, 0x0, []⟩]⟩,
    ⟨0x050010, [], [⟨0, 16, .ro, 0x0, []⟩, ⟨16, 16, .ro, 0x0, []⟩]⟩,
    ⟨0x050014, [], [⟨0, 32, .rw, 0x0, []⟩]⟩,
    ⟨0x050018, [], [⟨0, 32, .ro, 0x0, []⟩]⟩,
    ⟨0x05001C, [], [⟨0, 16, .rw, 0x1770, [(6000, 40000)]⟩]⟩,
    ⟨0x050020, [], [⟨0, 2, .rw, 0x0, [(0, 2)]⟩, ⟨8, 10, .rw, 0xa, [(1, 1000)]⟩]⟩,
    ⟨0x050024, [], [⟨0, 30, .ro, 0x0, []⟩, ⟨31, 1, .w1c, 0x0, []⟩]⟩,
    ⟨0x050028, [], [⟨0, 24, .rw, 0x0, []⟩, ⟨31, 1, .rw, 0x0, []⟩]⟩,
    ⟨0x05002C, [], [⟨0, 24, .rw, 0x0, []⟩, ⟨31, 1, .rw, 0x0, []⟩]⟩,
    ⟨0x050100, [(2, 0x40)], [⟨0, 1, .rw, 0x0, []⟩, ⟨1, 1, .rw, 0x1, []⟩, ⟨2, 1, .rw, 0x0, []⟩, ⟨3, 1, .rw, 0x0, []⟩, ⟨4, 1, .rw, 0x0, []⟩, ⟨8, 7, .rw, 0x7f, []⟩, ⟨16, 12, .rw, 0x0, []⟩]⟩,
    ⟨0x050104, [(2, 0x40)], [⟨0, 2, .ro, 0x0, []⟩, ⟨2, 1, .ro, 0x0, []⟩, ⟨3, 1, .ro, 0x0, []⟩, ⟨16, 16, .ro, 0x0, []⟩]⟩,
    ⟨0x050108, [(2, 0x40)], [⟨0, 32, .ro, 0x0, []⟩]⟩,
    ⟨0x05010C, [(2, 0x40)], [⟨0, 32, .ro, 0x0, []⟩]⟩,
    ⟨0x050110, [(2, 0x40)], [⟨0, 32, .ro, 0x0, []⟩]⟩,
    ⟨0x050114, [(2, 0x40)], [⟨0, 32, .ro, 0x0, []⟩]⟩,
    ⟨0x050118, [(2, 0x40)], [⟨0, 32, .rw, 0x0, []⟩]⟩
  ]

/-! Block CMP. -/

/-- R226 (08_composition.md). -/
def CMP_CTRL : Nat := 0x060000
def CMP_CTRL_GUARD_EN : Fld := ⟨CMP_CTRL, 0, 1⟩
/-- R226 (08_composition.md). -/
def CMP_STAT : Nat := 0x060004
def CMP_STAT_FULL_SEEN : Fld := ⟨CMP_STAT, 0, 1⟩
def CMP_STAT_RECLAIM_SEEN : Fld := ⟨CMP_STAT, 1, 1⟩
def CMP_STAT_FP_LATE : Fld := ⟨CMP_STAT, 2, 1⟩
/-- R226 (08_composition.md). -/
def CMP_STORE : Nat := 0x060008
def CMP_STORE_USED : Fld := ⟨CMP_STORE, 0, 12⟩
def CMP_STORE_PEAK : Fld := ⟨CMP_STORE, 16, 12⟩
/-- R226 (08_composition.md). -/
def CMP_FP_CUR0 : Nat := 0x060010
def CMP_FP_CUR0_X : Fld := ⟨CMP_FP_CUR0, 0, 14⟩
def CMP_FP_CUR0_Y : Fld := ⟨CMP_FP_CUR0, 16, 14⟩
/-- R226 (08_composition.md). -/
def CMP_FP_CUR1 : Nat := 0x060014
def CMP_FP_CUR1_EN : Fld := ⟨CMP_FP_CUR1, 0, 1⟩
def CMP_FP_CUR1_MAP : Fld := ⟨CMP_FP_CUR1, 1, 1⟩
def CMP_FP_CUR1_ROT : Fld := ⟨CMP_FP_CUR1, 2, 2⟩
def CMP_FP_CUR1_MIRROR : Fld := ⟨CMP_FP_CUR1, 4, 1⟩
/-- R226 (08_composition.md). -/
def CMP_FP_NEXT0 : Nat := 0x060018
def CMP_FP_NEXT0_X : Fld := ⟨CMP_FP_NEXT0, 0, 14⟩
def CMP_FP_NEXT0_Y : Fld := ⟨CMP_FP_NEXT0, 16, 14⟩
/-- R226 (08_composition.md). -/
def CMP_FP_NEXT1 : Nat := 0x06001C
def CMP_FP_NEXT1_EN : Fld := ⟨CMP_FP_NEXT1, 0, 1⟩
def CMP_FP_NEXT1_MAP : Fld := ⟨CMP_FP_NEXT1, 1, 1⟩
def CMP_FP_NEXT1_ROT : Fld := ⟨CMP_FP_NEXT1, 2, 2⟩
def CMP_FP_NEXT1_MIRROR : Fld := ⟨CMP_FP_NEXT1, 4, 1⟩
/-- R226 (08_composition.md). -/
def CMP_FP_AT_NS : Nat := 0x060020
def CMP_FP_AT_NS_NS : Fld := ⟨CMP_FP_AT_NS, 0, 30⟩
/-- R226 (08_composition.md). -/
def CMP_FP_AT_SL : Nat := 0x060024
def CMP_FP_AT_SL_S : Fld := ⟨CMP_FP_AT_SL, 0, 32⟩
/-- R226 (08_composition.md). -/
def CMP_FP_AT_SH : Nat := 0x060028
def CMP_FP_AT_SH_S : Fld := ⟨CMP_FP_AT_SH, 0, 16⟩
/-- R226 (08_composition.md). -/
def CMP_FP_ARM : Nat := 0x06002C
def CMP_FP_ARM_ARM : Fld := ⟨CMP_FP_ARM, 0, 1⟩
def CMP_FP_ARM_DISARM : Fld := ⟨CMP_FP_ARM, 1, 1⟩
def CMP_FP_ARM_PEND : Fld := ⟨CMP_FP_ARM, 2, 1⟩
/-- R226 (08_composition.md). -/
def CMP_GR_SIG (n : Nat) : Nat := 0x060040 + 0x8 * n
def CMP_GR_SIG_SIG (n : Nat) : Fld := ⟨(CMP_GR_SIG n), 0, 32⟩
/-- R226 (08_composition.md). -/
def CMP_GR_STAT (n : Nat) : Nat := 0x060044 + 0x8 * n
def CMP_GR_STAT_FAILS (n : Nat) : Fld := ⟨(CMP_GR_STAT n), 0, 16⟩
def CMP_GR_STAT_LAST (n : Nat) : Fld := ⟨(CMP_GR_STAT n), 16, 2⟩
def CMP_GR_STAT_SAFE (n : Nat) : Fld := ⟨(CMP_GR_STAT n), 18, 1⟩
/-- R226 (08_composition.md). -/
def CMP_UF (e d c : Nat) : Nat := 0x060400 + 0x180 * e + 0xC * d + 0x4 * c
def CMP_UF_C_LO (e d c : Nat) : Fld := ⟨(CMP_UF e d c), 0, 16⟩
def CMP_UF_C_HI (e d c : Nat) : Fld := ⟨(CMP_UF e d c), 16, 16⟩
/-- R226 (08_composition.md). -/
def CMP_FM_NEXT0 (x n : Nat) : Nat := 0x061000 + 0x200 * x + 0x8 * n
def CMP_FM_NEXT0_X (x n : Nat) : Fld := ⟨(CMP_FM_NEXT0 x n), 0, 14⟩
def CMP_FM_NEXT0_Y (x n : Nat) : Fld := ⟨(CMP_FM_NEXT0 x n), 16, 14⟩
/-- R226 (08_composition.md). -/
def CMP_FM_NEXT1 (x n : Nat) : Nat := 0x061004 + 0x200 * x + 0x8 * n
def CMP_FM_NEXT1_EN (x n : Nat) : Fld := ⟨(CMP_FM_NEXT1 x n), 0, 1⟩
def CMP_FM_NEXT1_MAP (x n : Nat) : Fld := ⟨(CMP_FM_NEXT1 x n), 1, 1⟩
def CMP_FM_NEXT1_ROT (x n : Nat) : Fld := ⟨(CMP_FM_NEXT1 x n), 2, 2⟩
def CMP_FM_NEXT1_MIRROR (x n : Nat) : Fld := ⟨(CMP_FM_NEXT1 x n), 4, 1⟩
/-- R226 (08_composition.md). -/
def CMP_FM_CUR0 (x n : Nat) : Nat := 0x062000 + 0x200 * x + 0x8 * n
def CMP_FM_CUR0_X (x n : Nat) : Fld := ⟨(CMP_FM_CUR0 x n), 0, 14⟩
def CMP_FM_CUR0_Y (x n : Nat) : Fld := ⟨(CMP_FM_CUR0 x n), 16, 14⟩
/-- R226 (08_composition.md). -/
def CMP_FM_CUR1 (x n : Nat) : Nat := 0x062004 + 0x200 * x + 0x8 * n
def CMP_FM_CUR1_EN (x n : Nat) : Fld := ⟨(CMP_FM_CUR1 x n), 0, 1⟩
def CMP_FM_CUR1_MAP (x n : Nat) : Fld := ⟨(CMP_FM_CUR1 x n), 1, 1⟩
def CMP_FM_CUR1_ROT (x n : Nat) : Fld := ⟨(CMP_FM_CUR1 x n), 2, 2⟩
def CMP_FM_CUR1_MIRROR (x n : Nat) : Fld := ⟨(CMP_FM_CUR1 x n), 4, 1⟩

/-- The registers of block CMP. -/
def regsCMP : List RegDesc :=
  [
    ⟨0x060000, [], [⟨0, 1, .rw, 0x1, []⟩]⟩,
    ⟨0x060004, [], [⟨0, 1, .w1c, 0x0, []⟩, ⟨1, 1, .w1c, 0x0, []⟩, ⟨2, 1, .w1c, 0x0, []⟩]⟩,
    ⟨0x060008, [], [⟨0, 12, .ro, 0x0, []⟩, ⟨16, 12, .ro, 0x0, []⟩]⟩,
    ⟨0x060010, [], [⟨0, 14, .ro, 0x0, []⟩, ⟨16, 14, .ro, 0x0, []⟩]⟩,
    ⟨0x060014, [], [⟨0, 1, .ro, 0x0, []⟩, ⟨1, 1, .ro, 0x0, []⟩, ⟨2, 2, .ro, 0x0, []⟩, ⟨4, 1, .ro, 0x0, []⟩]⟩,
    ⟨0x060018, [], [⟨0, 14, .rw, 0x0, []⟩, ⟨16, 14, .rw, 0x0, []⟩]⟩,
    ⟨0x06001C, [], [⟨0, 1, .rw, 0x0, []⟩, ⟨1, 1, .rw, 0x0, []⟩, ⟨2, 2, .rw, 0x0, []⟩, ⟨4, 1, .rw, 0x0, []⟩]⟩,
    ⟨0x060020, [], [⟨0, 30, .rw, 0x0, []⟩]⟩,
    ⟨0x060024, [], [⟨0, 32, .rw, 0x0, []⟩]⟩,
    ⟨0x060028, [], [⟨0, 16, .rw, 0x0, []⟩]⟩,
    ⟨0x06002C, [], [⟨0, 1, .wo, 0x0, []⟩, ⟨1, 1, .wo, 0x0, []⟩, ⟨2, 1, .ro, 0x0, []⟩]⟩,
    ⟨0x060040, [(4, 0x8)], [⟨0, 32, .ro, 0x0, []⟩]⟩,
    ⟨0x060044, [(4, 0x8)], [⟨0, 16, .rw, 0x0, []⟩, ⟨16, 2, .ro, 0x0, []⟩, ⟨18, 1, .ro, 0x0, []⟩]⟩,
    ⟨0x060400, [(2, 0x180), (32, 0xc), (3, 0x4)], [⟨0, 16, .rw, 0x0, []⟩, ⟨16, 16, .rw, 0x0, []⟩]⟩,
    ⟨0x061000, [(4, 0x200), (64, 0x8)], [⟨0, 14, .rw, 0x0, []⟩, ⟨16, 14, .rw, 0x0, []⟩]⟩,
    ⟨0x061004, [(4, 0x200), (64, 0x8)], [⟨0, 1, .rw, 0x0, []⟩, ⟨1, 1, .rw, 0x0, []⟩, ⟨2, 2, .rw, 0x0, []⟩, ⟨4, 1, .rw, 0x0, []⟩]⟩,
    ⟨0x062000, [(4, 0x200), (64, 0x8)], [⟨0, 14, .ro, 0x0, []⟩, ⟨16, 14, .ro, 0x0, []⟩]⟩,
    ⟨0x062004, [(4, 0x200), (64, 0x8)], [⟨0, 1, .ro, 0x0, []⟩, ⟨1, 1, .ro, 0x0, []⟩, ⟨2, 2, .ro, 0x0, []⟩, ⟨4, 1, .ro, 0x0, []⟩]⟩
  ]

/-! Block COR. -/

/-- R241 (09_lamp_correction.md). -/
def COR_CTRL : Nat := 0x070000
def COR_CTRL_BLEND_EN : Fld := ⟨COR_CTRL, 0, 1⟩
def COR_CTRL_SEAM_EN : Fld := ⟨COR_CTRL, 1, 1⟩
def COR_CTRL_LG_EN : Fld := ⟨COR_CTRL, 2, 1⟩
def COR_CTRL_TSRC : Fld := ⟨COR_CTRL, 4, 3⟩
/-- R241 (09_lamp_correction.md). -/
def COR_CANVAS : Nat := 0x070004
def COR_CANVAS_TF : Fld := ⟨COR_CANVAS, 0, 4⟩
def COR_CANVAS_PRIM : Fld := ⟨COR_CANVAS, 4, 4⟩
/-- R241 (09_lamp_correction.md). -/
def COR_STAT : Nat := 0x070008
def COR_STAT_ACTIVE : Fld := ⟨COR_STAT, 0, 2⟩
def COR_STAT_STAGED : Fld := ⟨COR_STAT, 2, 1⟩
def COR_STAT_READY : Fld := ⟨COR_STAT, 3, 1⟩
def COR_STAT_PEND : Fld := ⟨COR_STAT, 4, 1⟩
def COR_STAT_ARM_LATE : Fld := ⟨COR_STAT, 5, 1⟩
def COR_STAT_MISMATCH_SEEN : Fld := ⟨COR_STAT, 6, 1⟩
def COR_STAT_TFALLBACK_SEEN : Fld := ⟨COR_STAT, 7, 1⟩
/-- R241 (09_lamp_correction.md). -/
def COR_WEIGHT : Nat := 0x07000C
def COR_WEIGHT_W : Fld := ⟨COR_WEIGHT, 0, 9⟩
def COR_WEIGHT_T : Fld := ⟨COR_WEIGHT, 16, 16⟩
/-- R241 (09_lamp_correction.md). -/
def COR_SLOT_ID (n : Nat) : Nat := 0x070010 + 0x8 * n
def COR_SLOT_ID_SERIAL (n : Nat) : Fld := ⟨(COR_SLOT_ID n), 0, 32⟩
/-- R241 (09_lamp_correction.md). -/
def COR_SLOT_SEQ (n : Nat) : Nat := 0x070014 + 0x8 * n
def COR_SLOT_SEQ_STAGE (n : Nat) : Fld := ⟨(COR_SLOT_SEQ n), 0, 16⟩
def COR_SLOT_SEQ_ACT (n : Nat) : Fld := ⟨(COR_SLOT_SEQ n), 16, 16⟩
/-- R241 (09_lamp_correction.md). -/
def COR_AT_NS : Nat := 0x070020
def COR_AT_NS_NS : Fld := ⟨COR_AT_NS, 0, 30⟩
/-- R241 (09_lamp_correction.md). -/
def COR_AT_SL : Nat := 0x070024
def COR_AT_SL_S : Fld := ⟨COR_AT_SL, 0, 32⟩
/-- R241 (09_lamp_correction.md). -/
def COR_AT_SH : Nat := 0x070028
def COR_AT_SH_S : Fld := ⟨COR_AT_SH, 0, 16⟩
/-- R241 (09_lamp_correction.md). -/
def COR_ARM : Nat := 0x07002C
def COR_ARM_ARM : Fld := ⟨COR_ARM, 0, 1⟩
def COR_ARM_DISARM : Fld := ⟨COR_ARM, 1, 1⟩
def COR_ARM_PEND : Fld := ⟨COR_ARM, 2, 1⟩
/-- R241 (09_lamp_correction.md). -/
def COR_SEAM (e d c : Nat) : Nat := 0x070100 + 0x40 * e + 0x10 * d + 0x4 * c
def COR_SEAM_GAIN (e d c : Nat) : Fld := ⟨(COR_SEAM e d c), 0, 16⟩

/-- The registers of block COR. -/
def regsCOR : List RegDesc :=
  [
    ⟨0x070000, [], [⟨0, 1, .rw, 0x1, []⟩, ⟨1, 1, .rw, 0x1, []⟩, ⟨2, 1, .rw, 0x1, []⟩, ⟨4, 3, .rw, 0x0, [(0, 4)]⟩]⟩,
    ⟨0x070004, [], [⟨0, 4, .rws, 0x0, [(0, 3)]⟩, ⟨4, 4, .rws, 0x0, [(0, 2)]⟩]⟩,
    ⟨0x070008, [], [⟨0, 2, .ro, 0x3, []⟩, ⟨2, 1, .ro, 0x0, []⟩, ⟨3, 1, .ro, 0x0, []⟩, ⟨4, 1, .ro, 0x0, []⟩, ⟨5, 1, .w1c, 0x0, []⟩, ⟨6, 1, .w1c, 0x0, []⟩, ⟨7, 1, .w1c, 0x0, []⟩]⟩,
    ⟨0x07000C, [], [⟨0, 9, .ro, 0x0, []⟩, ⟨16, 16, .ro, 0x0, []⟩]⟩,
    ⟨0x070010, [(2, 0x8)], [⟨0, 32, .ro, 0x0, []⟩]⟩,
    ⟨0x070014, [(2, 0x8)], [⟨0, 16, .ro, 0x0, []⟩, ⟨16, 16, .ro, 0x0, []⟩]⟩,
    ⟨0x070020, [], [⟨0, 30, .rw, 0x0, []⟩]⟩,
    ⟨0x070024, [], [⟨0, 32, .rw, 0x0, []⟩]⟩,
    ⟨0x070028, [], [⟨0, 16, .rw, 0x0, []⟩]⟩,
    ⟨0x07002C, [], [⟨0, 1, .wo, 0x0, []⟩, ⟨1, 1, .wo, 0x0, []⟩, ⟨2, 1, .ro, 0x0, []⟩]⟩,
    ⟨0x070100, [(4, 0x40), (4, 0x10), (3, 0x4)], [⟨0, 16, .rws, 0x8000, []⟩]⟩
  ]

/-! Block GRY. -/

/-- R260 (10_grey_synthesis_drive.md). -/
def GRY_SCAN : Nat := 0x080000
def GRY_SCAN_SCAN : Fld := ⟨GRY_SCAN, 0, 2⟩
def GRY_SCAN_DIAG_EN : Fld := ⟨GRY_SCAN, 2, 1⟩
/-- R260 (10_grey_synthesis_drive.md). -/
def GRY_STAT : Nat := 0x080004
def GRY_STAT_M : Fld := ⟨GRY_STAT, 0, 10⟩
def GRY_STAT_D : Fld := ⟨GRY_STAT, 16, 5⟩
def GRY_STAT_HELD : Fld := ⟨GRY_STAT, 21, 1⟩
def GRY_STAT_TFALLBACK_SEEN : Fld := ⟨GRY_STAT, 22, 1⟩
/-- R260 (10_grey_synthesis_drive.md). -/
def GRY_WIN : Nat := 0x080008
def GRY_WIN_E : Fld := ⟨GRY_WIN, 0, 14⟩
/-- R260 (10_grey_synthesis_drive.md). -/
def GRY_UMAX : Nat := 0x08000C
def GRY_UMAX_UMAX : Fld := ⟨GRY_UMAX, 0, 25⟩
/-- R260 (10_grey_synthesis_drive.md). -/
def GRY_LEVEL : Nat := 0x080010
def GRY_LEVEL_LVL : Fld := ⟨GRY_LEVEL, 0, 17⟩
/-- R260 (10_grey_synthesis_drive.md). -/
def GRY_XOVER : Nat := 0x080014
def GRY_XOVER_LX : Fld := ⟨GRY_XOVER, 0, 17⟩
/-- R260 (10_grey_synthesis_drive.md). -/
def GRY_FADE : Nat := 0x080018
def GRY_FADE_TGT : Fld := ⟨GRY_FADE, 0, 17⟩
/-- R260 (10_grey_synthesis_drive.md). -/
def GRY_FADE_DUR : Nat := 0x08001C
def GRY_FADE_DUR_MS : Fld := ⟨GRY_FADE_DUR, 0, 16⟩
/-- R260 (10_grey_synthesis_drive.md). -/
def GRY_FADE_AT_NS : Nat := 0x080020
def GRY_FADE_AT_NS_NS : Fld := ⟨GRY_FADE_AT_NS, 0, 30⟩
/-- R260 (10_grey_synthesis_drive.md). -/
def GRY_FADE_AT_SL : Nat := 0x080024
def GRY_FADE_AT_SL_S : Fld := ⟨GRY_FADE_AT_SL, 0, 32⟩
/-- R260 (10_grey_synthesis_drive.md). -/
def GRY_FADE_AT_SH : Nat := 0x080028
def GRY_FADE_AT_SH_S : Fld := ⟨GRY_FADE_AT_SH, 0, 16⟩
/-- R260 (10_grey_synthesis_drive.md). -/
def GRY_FADE_ARM : Nat := 0x08002C
def GRY_FADE_ARM_ARM : Fld := ⟨GRY_FADE_ARM, 0, 1⟩
def GRY_FADE_ARM_DISARM : Fld := ⟨GRY_FADE_ARM, 1, 1⟩
def GRY_FADE_ARM_PEND : Fld := ⟨GRY_FADE_ARM, 2, 1⟩
def GRY_FADE_ARM_RUN : Fld := ⟨GRY_FADE_ARM, 3, 1⟩
def GRY_FADE_ARM_LATE : Fld := ⟨GRY_FADE_ARM, 4, 1⟩
/-- R260 (10_grey_synthesis_drive.md). -/
def GRY_DERATE : Nat := 0x080030
def GRY_DERATE_TK : Fld := ⟨GRY_DERATE, 0, 16⟩
def GRY_DERATE_SLOPE : Fld := ⟨GRY_DERATE, 16, 12⟩
def GRY_DERATE_TSRC : Fld := ⟨GRY_DERATE, 28, 3⟩
def GRY_DERATE_EN : Fld := ⟨GRY_DERATE, 31, 1⟩
/-- R260 (10_grey_synthesis_drive.md). -/
def GRY_DMAX : Nat := 0x080034
def GRY_DMAX_DMAX : Fld := ⟨GRY_DMAX, 0, 17⟩
/-- R260 (10_grey_synthesis_drive.md). -/
def GRY_NOW : Nat := 0x080038
def GRY_NOW_LEVEL : Fld := ⟨GRY_NOW, 0, 17⟩
/-- R260 (10_grey_synthesis_drive.md). -/
def GRY_DL : Nat := 0x08003C
def GRY_DL_LEVEL : Fld := ⟨GRY_DL, 0, 17⟩

/-- The registers of block GRY. -/
def regsGRY : List RegDesc :=
  [
    ⟨0x080000, [], [⟨0, 2, .rw, 0x1, [(0, 2)]⟩, ⟨2, 1, .rw, 0x1, []⟩]⟩,
    ⟨0x080004, [], [⟨0, 10, .ro, 0x0, []⟩, ⟨16, 5, .ro, 0x0, []⟩, ⟨21, 1, .ro, 0x0, []⟩, ⟨22, 1, .w1c, 0x0, []⟩]⟩,
    ⟨0x080008, [], [⟨0, 14, .ro, 0x0, []⟩]⟩,
    ⟨0x08000C, [], [⟨0, 25, .ro, 0x0, []⟩]⟩,
    ⟨0x080010, [], [⟨0, 17, .rw, 0x0, [(0, 98304)]⟩]⟩,
    ⟨0x080014, [], [⟨0, 17, .rw, 0x2000, [(0, 98303)]⟩]⟩,
    ⟨0x080018, [], [⟨0, 17, .rw, 0x0, [(0, 98304)]⟩]⟩,
    ⟨0x08001C, [], [⟨0, 16, .rw, 0x3e8, [(0, 0), (10, 60000)]⟩]⟩,
    ⟨0x080020, [], [⟨0, 30, .rw, 0x0, []⟩]⟩,
    ⟨0x080024, [], [⟨0, 32, .rw, 0x0, []⟩]⟩,
    ⟨0x080028, [], [⟨0, 16, .rw, 0x0, []⟩]⟩,
    ⟨0x08002C, [], [⟨0, 1, .wo, 0x0, []⟩, ⟨1, 1, .wo, 0x0, []⟩, ⟨2, 1, .ro, 0x0, []⟩, ⟨3, 1, .ro, 0x0, []⟩, ⟨4, 1, .w1c, 0x0, []⟩]⟩,
    ⟨0x080030, [], [⟨0, 16, .rw, 0x5f0, []⟩, ⟨16, 12, .rw, 0x19a, []⟩, ⟨28, 3, .rw, 0x0, [(0, 5)]⟩, ⟨31, 1, .rw, 0x1, []⟩]⟩,
    ⟨0x080034, [], [⟨0, 17, .rw, 0x2000, []⟩]⟩,
    ⟨0x080038, [], [⟨0, 17, .ro, 0x0, []⟩]⟩,
    ⟨0x08003C, [], [⟨0, 17, .ro, 0x0, []⟩]⟩
  ]

/-! Block LDRV. -/

/-- R261 (10_grey_synthesis_drive.md). -/
def LDRV_CTRL : Nat := 0x090000
def LDRV_CTRL_DRIVE_EN : Fld := ⟨LDRV_CTRL, 0, 1⟩
def LDRV_CTRL_PRE_EN : Fld := ⟨LDRV_CTRL, 1, 1⟩
def LDRV_CTRL_VPRE0 : Fld := ⟨LDRV_CTRL, 8, 5⟩
def LDRV_CTRL_VPRE1 : Fld := ⟨LDRV_CTRL, 16, 5⟩
def LDRV_CTRL_VPRE2 : Fld := ⟨LDRV_CTRL, 24, 5⟩
/-- R261 (10_grey_synthesis_drive.md). -/
def LDRV_STAT : Nat := 0x090004
def LDRV_STAT_DRIVING : Fld := ⟨LDRV_STAT, 0, 1⟩
/-- R261 (10_grey_synthesis_drive.md). -/
def LDRV_BANK_IFS (n : Nat) : Nat := 0x090100 + 0x4 * n
def LDRV_BANK_IFS_CODE (n : Nat) : Fld := ⟨(LDRV_BANK_IFS n), 0, 8⟩
def LDRV_BANK_IFS_RANGE (n : Nat) : Fld := ⟨(LDRV_BANK_IFS n), 8, 1⟩
/-- R261 (10_grey_synthesis_drive.md). -/
def LDRV_BANK_RUN (n : Nat) : Nat := 0x090200 + 0x4 * n
def LDRV_BANK_RUN_C (n : Nat) : Fld := ⟨(LDRV_BANK_RUN n), 0, 8⟩

/-- The registers of block LDRV. -/
def regsLDRV : List RegDesc :=
  [
    ⟨0x090000, [], [⟨0, 1, .rw, 0x0, []⟩, ⟨1, 1, .rw, 0x1, []⟩, ⟨8, 5, .rw, 0xc, []⟩, ⟨16, 5, .rw, 0x14, []⟩, ⟨24, 5, .rw, 0x14, []⟩]⟩,
    ⟨0x090004, [], [⟨0, 1, .ro, 0x0, []⟩]⟩,
    ⟨0x090100, [(48, 0x4)], [⟨0, 8, .rw, 0x0, []⟩, ⟨8, 1, .rw, 0x0, []⟩]⟩,
    ⟨0x090200, [(48, 0x4)], [⟨0, 8, .ro, 0x0, []⟩]⟩
  ]

/-! Block DIAG. -/

/-- R277 (11_lamp_diagnosis.md). -/
def DIAG_CTRL : Nat := 0x0A0000
def DIAG_CTRL_TP : Fld := ⟨DIAG_CTRL, 0, 9⟩
def DIAG_CTRL_DIV : Fld := ⟨DIAG_CTRL, 9, 3⟩
def DIAG_CTRL_REPEAT : Fld := ⟨DIAG_CTRL, 12, 4⟩
def DIAG_CTRL_MASK_EN : Fld := ⟨DIAG_CTRL, 16, 1⟩
def DIAG_CTRL_PIN_EN : Fld := ⟨DIAG_CTRL, 17, 1⟩
def DIAG_CTRL_LIVE_EN : Fld := ⟨DIAG_CTRL, 18, 1⟩
/-- R277 (11_lamp_diagnosis.md). -/
def DIAG_THR : Nat := 0x0A0004
def DIAG_THR_VOPEN : Fld := ⟨DIAG_THR, 0, 8⟩
def DIAG_THR_VSHORT0 : Fld := ⟨DIAG_THR, 8, 8⟩
def DIAG_THR_VSHORT1 : Fld := ⟨DIAG_THR, 16, 8⟩
def DIAG_THR_VSHORT2 : Fld := ⟨DIAG_THR, 24, 8⟩
/-- R277 (11_lamp_diagnosis.md). -/
def DIAG_CFG : Nat := 0x0A0008
def DIAG_CFG_AGE_LIM : Fld := ⟨DIAG_CFG, 0, 8⟩
def DIAG_CFG_EVT_MAX : Fld := ⟨DIAG_CFG, 8, 8⟩
/-- R277 (11_lamp_diagnosis.md). -/
def DIAG_STAT : Nat := 0x0A000C
def DIAG_STAT_PIN_FAULT : Fld := ⟨DIAG_STAT, 0, 1⟩
def DIAG_STAT_OVF_SEEN : Fld := ⟨DIAG_STAT, 1, 1⟩
def DIAG_STAT_ROW_OPEN_SEEN : Fld := ⟨DIAG_STAT, 2, 1⟩
/-- R277 (11_lamp_diagnosis.md). -/
def DIAG_CNT (n : Nat) : Nat := 0x0A0010 + 0x4 * n
def DIAG_CNT_COUNT (n : Nat) : Fld := ⟨(DIAG_CNT n), 0, 16⟩
/-- R277 (11_lamp_diagnosis.md). -/
def DIAG_VLED (n : Nat) : Nat := 0x0A0040 + 0x4 * n
def DIAG_VLED_MV (n : Nat) : Fld := ⟨(DIAG_VLED n), 0, 16⟩
def DIAG_VLED_VALID (n : Nat) : Fld := ⟨(DIAG_VLED n), 16, 1⟩
/-- R277 (11_lamp_diagnosis.md). -/
def DIAG_NTC (n : Nat) : Nat := 0x0A0050 + 0x4 * n
def DIAG_NTC_CODE (n : Nat) : Fld := ⟨(DIAG_NTC n), 0, 12⟩
def DIAG_NTC_VALID (n : Nat) : Fld := ⟨(DIAG_NTC n), 16, 1⟩

/-- The registers of block DIAG. -/
def regsDIAG : List RegDesc :=
  [
    ⟨0x0A0000, [], [⟨0, 9, .rw, 0x40, [(32, 256)]⟩, ⟨9, 3, .rw, 0x2, [(0, 6)]⟩, ⟨12, 4, .rw, 0x3, [(1, 15)]⟩, ⟨16, 1, .rw, 0x1, []⟩, ⟨17, 1, .rw, 0x1, []⟩, ⟨18, 1, .rw, 0x1, []⟩]⟩,
    ⟨0x0A0004, [], [⟨0, 8, .rw, 0xf, []⟩, ⟨8, 8, .rw, 0x10, []⟩, ⟨16, 8, .rw, 0x18, []⟩, ⟨24, 8, .rw, 0x18, []⟩]⟩,
    ⟨0x0A0008, [], [⟨0, 8, .rw, 0xff, []⟩, ⟨8, 8, .rw, 0x10, []⟩]⟩,
    ⟨0x0A000C, [], [⟨0, 1, .ro, 0x0, []⟩, ⟨1, 1, .w1c, 0x0, []⟩, ⟨2, 1, .w1c, 0x0, []⟩]⟩,
    ⟨0x0A0010, [(6, 0x4)], [⟨0, 16, .ro, 0x0, []⟩]⟩,
    ⟨0x0A0040, [(4, 0x4)], [⟨0, 16, .ro, 0x0, []⟩, ⟨16, 1, .ro, 0x0, []⟩]⟩,
    ⟨0x0A0050, [(4, 0x4)], [⟨0, 12, .ro, 0x0, []⟩, ⟨16, 1, .ro, 0x0, []⟩]⟩
  ]

/-! Block TWIN. -/

/-- R301 (12_twin_redundancy.md). -/
def TWIN_CTRL : Nat := 0x0B0000
def TWIN_CTRL_EN : Fld := ⟨TWIN_CTRL, 0, 1⟩
def TWIN_CTRL_PREFERRED : Fld := ⟨TWIN_CTRL, 1, 1⟩
def TWIN_CTRL_HOLD_S : Fld := ⟨TWIN_CTRL, 8, 8⟩
/-- R301 (12_twin_redundancy.md). -/
def TWIN_STAT : Nat := 0x0B0004
def TWIN_STAT_STATE : Fld := ⟨TWIN_STAT, 0, 2⟩
def TWIN_STAT_PRI : Fld := ⟨TWIN_STAT, 2, 1⟩
def TWIN_STAT_SYNCED : Fld := ⟨TWIN_STAT, 3, 1⟩
def TWIN_STAT_YOYO_OK : Fld := ⟨TWIN_STAT, 4, 1⟩
def TWIN_STAT_SWAP_PEND : Fld := ⟨TWIN_STAT, 5, 1⟩
def TWIN_STAT_MODES : Fld := ⟨TWIN_STAT, 8, 8⟩
def TWIN_STAT_TAKEOVER_SEEN : Fld := ⟨TWIN_STAT, 16, 1⟩
def TWIN_STAT_PARTIAL_SEEN : Fld := ⟨TWIN_STAT, 17, 1⟩
def TWIN_STAT_DEMOTE_SEEN : Fld := ⟨TWIN_STAT, 18, 1⟩
def TWIN_STAT_LINK_LOST_SEEN : Fld := ⟨TWIN_STAT, 19, 1⟩
/-- R301 (12_twin_redundancy.md). -/
def TWIN_EPOCH : Nat := 0x0B0008
def TWIN_EPOCH_EPOCH : Fld := ⟨TWIN_EPOCH, 0, 32⟩
/-- R301 (12_twin_redundancy.md). -/
def TWIN_PEER_EPOCH : Nat := 0x0B000C
def TWIN_PEER_EPOCH_EPOCH : Fld := ⟨TWIN_PEER_EPOCH, 0, 32⟩
/-- R301 (12_twin_redundancy.md). -/
def TWIN_SYNC : Nat := 0x0B0010
def TWIN_SYNC_SECS : Fld := ⟨TWIN_SYNC, 0, 16⟩
def TWIN_SYNC_MISMATCH : Fld := ⟨TWIN_SYNC, 16, 16⟩
/-- R301 (12_twin_redundancy.md). -/
def TWIN_ACC : Nat := 0x0B0020
def TWIN_ACC_VALID : Fld := ⟨TWIN_ACC, 0, 1⟩
def TWIN_ACC_PRI : Fld := ⟨TWIN_ACC, 1, 1⟩
def TWIN_ACC_TAIL : Fld := ⟨TWIN_ACC, 2, 1⟩
def TWIN_ACC_CHANGES : Fld := ⟨TWIN_ACC, 16, 16⟩
/-- R301 (12_twin_redundancy.md). -/
def TWIN_ACC_EPOCH : Nat := 0x0B0024
def TWIN_ACC_EPOCH_EPOCH : Fld := ⟨TWIN_ACC_EPOCH, 0, 32⟩
/-- R301 (12_twin_redundancy.md). -/
def TWIN_INV_LO (n : Nat) : Nat := 0x0B0100 + 0x20 * n
def TWIN_INV_LO_MAP (n : Nat) : Fld := ⟨(TWIN_INV_LO n), 0, 32⟩
/-- R301 (12_twin_redundancy.md). -/
def TWIN_INV_HI (n : Nat) : Nat := 0x0B0104 + 0x20 * n
def TWIN_INV_HI_MAP (n : Nat) : Fld := ⟨(TWIN_INV_HI n), 0, 32⟩
/-- R301 (12_twin_redundancy.md). -/
def TWIN_PEER_LO (n : Nat) : Nat := 0x0B0108 + 0x20 * n
def TWIN_PEER_LO_MAP (n : Nat) : Fld := ⟨(TWIN_PEER_LO n), 0, 32⟩
/-- R301 (12_twin_redundancy.md). -/
def TWIN_PEER_HI (n : Nat) : Nat := 0x0B010C + 0x20 * n
def TWIN_PEER_HI_MAP (n : Nat) : Fld := ⟨(TWIN_PEER_HI n), 0, 32⟩
/-- R301 (12_twin_redundancy.md). -/
def TWIN_STALE_LO (n : Nat) : Nat := 0x0B0110 + 0x20 * n
def TWIN_STALE_LO_MAP (n : Nat) : Fld := ⟨(TWIN_STALE_LO n), 0, 32⟩
/-- R301 (12_twin_redundancy.md). -/
def TWIN_STALE_HI (n : Nat) : Nat := 0x0B0114 + 0x20 * n
def TWIN_STALE_HI_MAP (n : Nat) : Fld := ⟨(TWIN_STALE_HI n), 0, 32⟩

/-- The registers of block TWIN. -/
def regsTWIN : List RegDesc :=
  [
    ⟨0x0B0000, [], [⟨0, 1, .rws, 0x0, []⟩, ⟨1, 1, .rws, 0x0, []⟩, ⟨8, 8, .rws, 0xa, [(1, 255)]⟩]⟩,
    ⟨0x0B0004, [], [⟨0, 2, .ro, 0x0, []⟩, ⟨2, 1, .ro, 0x0, []⟩, ⟨3, 1, .ro, 0x0, []⟩, ⟨4, 1, .ro, 0x0, []⟩, ⟨5, 1, .ro, 0x0, []⟩, ⟨8, 8, .ro, 0x0, []⟩, ⟨16, 1, .w1c, 0x0, []⟩, ⟨17, 1, .w1c, 0x0, []⟩, ⟨18, 1, .w1c, 0x0, []⟩, ⟨19, 1, .w1c, 0x0, []⟩]⟩,
    ⟨0x0B0008, [], [⟨0, 32, .ro, 0x0, []⟩]⟩,
    ⟨0x0B000C, [], [⟨0, 32, .ro, 0x0, []⟩]⟩,
    ⟨0x0B0010, [], [⟨0, 16, .ro, 0x0, []⟩, ⟨16, 16, .rw, 0x0, []⟩]⟩,
    ⟨0x0B0020, [], [⟨0, 1, .ro, 0x0, []⟩, ⟨1, 1, .ro, 0x0, []⟩, ⟨2, 1, .ro, 0x0, []⟩, ⟨16, 16, .rw, 0x0, []⟩]⟩,
    ⟨0x0B0024, [], [⟨0, 32, .ro, 0x0, []⟩]⟩,
    ⟨0x0B0100, [(4, 0x20)], [⟨0, 32, .rw, 0x0, []⟩]⟩,
    ⟨0x0B0104, [(4, 0x20)], [⟨0, 32, .rw, 0x0, []⟩]⟩,
    ⟨0x0B0108, [(4, 0x20)], [⟨0, 32, .ro, 0x0, []⟩]⟩,
    ⟨0x0B010C, [(4, 0x20)], [⟨0, 32, .ro, 0x0, []⟩]⟩,
    ⟨0x0B0110, [(4, 0x20)], [⟨0, 32, .ro, 0x0, []⟩]⟩,
    ⟨0x0B0114, [(4, 0x20)], [⟨0, 32, .ro, 0x0, []⟩]⟩
  ]

/-! Block THM. -/

/-- R313 (13_thermal.md). -/
def THM_CTRL : Nat := 0x0C0000
def THM_CTRL_ALERT_EN : Fld := ⟨THM_CTRL, 0, 1⟩
def THM_CTRL_STEP_MS : Fld := ⟨THM_CTRL, 8, 7⟩
/-- R313 (13_thermal.md). -/
def THM_STAT : Nat := 0x0C0004
def THM_STAT_WARN : Fld := ⟨THM_STAT, 0, 1⟩
def THM_STAT_THROT : Fld := ⟨THM_STAT, 1, 1⟩
def THM_STAT_WARN_SEEN : Fld := ⟨THM_STAT, 2, 1⟩
def THM_STAT_SENS_SEEN : Fld := ⟨THM_STAT, 3, 1⟩
def THM_STAT_NTC_SEEN : Fld := ⟨THM_STAT, 4, 1⟩
def THM_STAT_TMAX : Fld := ⟨THM_STAT, 16, 16⟩
/-- R313 (13_thermal.md). -/
def THM_WARN : Nat := 0x0C0008
def THM_WARN_T : Fld := ⟨THM_WARN, 0, 16⟩
def THM_WARN_HYST : Fld := ⟨THM_WARN, 16, 8⟩
/-- R313 (13_thermal.md). -/
def THM_THROT : Nat := 0x0C000C
def THM_THROT_T : Fld := ⟨THM_THROT, 0, 16⟩
def THM_THROT_HYST : Fld := ⟨THM_THROT, 16, 8⟩
/-- R313 (13_thermal.md). -/
def THM_SHUT : Nat := 0x0C0010
def THM_SHUT_T : Fld := ⟨THM_SHUT, 0, 16⟩
def THM_SHUT_RESTART : Fld := ⟨THM_SHUT, 16, 16⟩
/-- R313 (13_thermal.md). -/
def THM_SD_CNT : Nat := 0x0C0014
def THM_SD_CNT_COUNT : Fld := ⟨THM_SD_CNT, 0, 16⟩
/-- R313 (13_thermal.md). -/
def THM_SENS_BAD : Nat := 0x0C0018
def THM_SENS_BAD_MAP : Fld := ⟨THM_SENS_BAD, 0, 12⟩
/-- R313 (13_thermal.md). -/
def THM_TJ (n : Nat) : Nat := 0x0C0040 + 0x4 * n
def THM_TJ_T (n : Nat) : Fld := ⟨(THM_TJ n), 0, 16⟩
def THM_TJ_VALID (n : Nat) : Fld := ⟨(THM_TJ n), 16, 1⟩
/-- R313 (13_thermal.md). -/
def THM_SAMPLE0 : Nat := 0x0C0080
def THM_SAMPLE0_LO : Fld := ⟨THM_SAMPLE0, 0, 16⟩
def THM_SAMPLE0_HI : Fld := ⟨THM_SAMPLE0, 16, 16⟩
/-- R313 (13_thermal.md). -/
def THM_SAMPLE1 : Nat := 0x0C0084
def THM_SAMPLE1_LO : Fld := ⟨THM_SAMPLE1, 0, 16⟩
def THM_SAMPLE1_HI : Fld := ⟨THM_SAMPLE1, 16, 16⟩
/-- R313 (13_thermal.md). -/
def THM_SAMPLE2 : Nat := 0x0C0088
def THM_SAMPLE2_LO : Fld := ⟨THM_SAMPLE2, 0, 16⟩
def THM_SAMPLE2_HI : Fld := ⟨THM_SAMPLE2, 16, 16⟩
/-- R313 (13_thermal.md). -/
def THM_SAMPLE3 : Nat := 0x0C008C
def THM_SAMPLE3_NTC_VALID : Fld := ⟨THM_SAMPLE3, 0, 4⟩
def THM_SAMPLE3_DRV_FALLBACK : Fld := ⟨THM_SAMPLE3, 4, 1⟩
/-- R313 (13_thermal.md). -/
def THM_COMP : Nat := 0x0C0090
def THM_COMP_DADV : Fld := ⟨THM_COMP, 0, 5⟩
def THM_COMP_RT : Fld := ⟨THM_COMP, 8, 8⟩
/-- R313 (13_thermal.md). -/
def THM_NTC_LIM : Nat := 0x0C0094
def THM_NTC_LIM_MIN : Fld := ⟨THM_NTC_LIM, 0, 12⟩
def THM_NTC_LIM_MAX : Fld := ⟨THM_NTC_LIM, 16, 12⟩
/-- R313 (13_thermal.md). -/
def THM_NTC_LUT (n : Nat) : Nat := 0x0C0100 + 0x4 * n
def THM_NTC_LUT_T (n : Nat) : Fld := ⟨(THM_NTC_LUT n), 0, 16⟩

/-- The registers of block THM. -/
def regsTHM : List RegDesc :=
  [
    ⟨0x0C0000, [], [⟨0, 1, .rw, 0x1, []⟩, ⟨8, 7, .rw, 0xa, [(1, 100)]⟩]⟩,
    ⟨0x0C0004, [], [⟨0, 1, .ro, 0x0, []⟩, ⟨1, 1, .ro, 0x0, []⟩, ⟨2, 1, .w1c, 0x0, []⟩, ⟨3, 1, .w1c, 0x0, []⟩, ⟨4, 1, .w1c, 0x0, []⟩, ⟨16, 16, .ro, 0x0, []⟩]⟩,
    ⟨0x0C0008, [], [⟨0, 16, .rw, 0x6e0, []⟩, ⟨16, 8, .rw, 0x50, [(1, 255)]⟩]⟩,
    ⟨0x0C000C, [], [⟨0, 16, .rw, 0x780, []⟩, ⟨16, 8, .rw, 0x50, [(1, 255)]⟩]⟩,
    ⟨0x0C0010, [], [⟨0, 16, .rwt, 0x8c0, []⟩, ⟨16, 16, .rwt, 0x730, []⟩]⟩,
    ⟨0x0C0014, [], [⟨0, 16, .rws, 0x0, []⟩]⟩,
    ⟨0x0C0018, [], [⟨0, 12, .ro, 0x0, []⟩]⟩,
    ⟨0x0C0040, [(12, 0x4)], [⟨0, 16, .ro, 0x0, []⟩, ⟨16, 1, .ro, 0x0, []⟩]⟩,
    ⟨0x0C0080, [], [⟨0, 16, .ro, 0x0, []⟩, ⟨16, 16, .ro, 0x0, []⟩]⟩,
    ⟨0x0C0084, [], [⟨0, 16, .ro, 0x0, []⟩, ⟨16, 16, .ro, 0x0, []⟩]⟩,
    ⟨0x0C0088, [], [⟨0, 16, .ro, 0x0, []⟩, ⟨16, 16, .ro, 0x0, []⟩]⟩,
    ⟨0x0C008C, [], [⟨0, 4, .ro, 0x0, []⟩, ⟨4, 1, .ro, 0x0, []⟩]⟩,
    ⟨0x0C0090, [], [⟨0, 5, .ro, 0x0, []⟩, ⟨8, 8, .ro, 0x0, []⟩]⟩,
    ⟨0x0C0094, [], [⟨0, 12, .rw, 0x40, []⟩, ⟨16, 12, .rw, 0xfbf, []⟩]⟩,
    ⟨0x0C0100, [(33, 0x4)], [⟨0, 16, .rw, 0x0, []⟩]⟩
  ]

/-! Block CAL. -/

/-- R331 (14_calibration.md). -/
def CAL_CTRL : Nat := 0x0D0000
def CAL_CTRL_RUNS : Fld := ⟨CAL_CTRL, 0, 4⟩
def CAL_CTRL_RETRY : Fld := ⟨CAL_CTRL, 4, 3⟩
def CAL_CTRL_ADC_BOOT : Fld := ⟨CAL_CTRL, 7, 1⟩
/-- R331 (14_calibration.md). -/
def CAL_STAT : Nat := 0x0D0004
def CAL_STAT_BUSY : Fld := ⟨CAL_STAT, 0, 1⟩
def CAL_STAT_ITEM : Fld := ⟨CAL_STAT, 1, 2⟩
def CAL_STAT_RESULT : Fld := ⟨CAL_STAT, 4, 4⟩
def CAL_STAT_REASON : Fld := ⟨CAL_STAT, 8, 4⟩
def CAL_STAT_SRC : Fld := ⟨CAL_STAT, 12, 2⟩
def CAL_STAT_PRECOND_SEEN : Fld := ⟨CAL_STAT, 14, 1⟩
/-- R331 (14_calibration.md). -/
def CAL_SLOT_SEQ (n : Nat) : Nat := 0x0D0008 + 0x4 * n
def CAL_SLOT_SEQ_SEQ (n : Nat) : Fld := ⟨(CAL_SLOT_SEQ n), 0, 32⟩
/-- R331 (14_calibration.md). -/
def CAL_Q_SINK : Nat := 0x0D0010
def CAL_Q_SINK_WORST : Fld := ⟨CAL_Q_SINK, 0, 16⟩
def CAL_Q_SINK_OUT : Fld := ⟨CAL_Q_SINK, 16, 9⟩
/-- R331 (14_calibration.md). -/
def CAL_Q_SINK2 : Nat := 0x0D0014
def CAL_Q_SINK2_SPREAD : Fld := ⟨CAL_Q_SINK2, 0, 16⟩
def CAL_Q_SINK2_MOVE : Fld := ⟨CAL_Q_SINK2, 16, 16⟩
/-- R331 (14_calibration.md). -/
def CAL_Q_ADC : Nat := 0x0D0018
def CAL_Q_ADC_MAX : Fld := ⟨CAL_Q_ADC, 0, 8⟩
def CAL_Q_ADC_WHICH : Fld := ⟨CAL_Q_ADC, 8, 8⟩
/-- R331 (14_calibration.md). -/
def CAL_Q_SENS : Nat := 0x0D001C
def CAL_Q_SENS_MAX : Fld := ⟨CAL_Q_SENS, 0, 8⟩
def CAL_Q_SENS_WHICH : Fld := ⟨CAL_Q_SENS, 8, 8⟩
/-- R331 (14_calibration.md). -/
def CAL_ADC (n : Nat) : Nat := 0x0D0400 + 0x4 * n
def CAL_ADC_GAIN (n : Nat) : Fld := ⟨(CAL_ADC n), 0, 16⟩
def CAL_ADC_OFS (n : Nat) : Fld := ⟨(CAL_ADC n), 16, 16⟩
/-- R331 (14_calibration.md). -/
def CAL_SENS (n : Nat) : Nat := 0x0D0500 + 0x4 * n
def CAL_SENS_OFS (n : Nat) : Fld := ⟨(CAL_SENS n), 0, 16⟩
/-- R331 (14_calibration.md). -/
def CAL_TCOMP : Nat := 0x0D0540
def CAL_TCOMP_TCAL : Fld := ⟨CAL_TCOMP, 0, 16⟩
def CAL_TCOMP_DK : Fld := ⟨CAL_TCOMP, 16, 8⟩
/-- R331 (14_calibration.md). -/
def CAL_IK : Nat := 0x0D0544
def CAL_IK_IK : Fld := ⟨CAL_IK, 0, 16⟩
/-- R331 (14_calibration.md). -/
def CAL_SINK_EN0 (n : Nat) : Nat := 0x0D1000 + 0x20 * n
def CAL_SINK_EN0_MAP (n : Nat) : Fld := ⟨(CAL_SINK_EN0 n), 0, 32⟩
/-- R331 (14_calibration.md). -/
def CAL_SINK_EN1 (n : Nat) : Nat := 0x0D1004 + 0x20 * n
def CAL_SINK_EN1_MAP (n : Nat) : Fld := ⟨(CAL_SINK_EN1 n), 0, 32⟩
/-- R331 (14_calibration.md). -/
def CAL_SINK_EN2 (n : Nat) : Nat := 0x0D1008 + 0x20 * n
def CAL_SINK_EN2_MAP (n : Nat) : Fld := ⟨(CAL_SINK_EN2 n), 0, 32⟩
/-- R331 (14_calibration.md). -/
def CAL_SINK_Q0 (n : Nat) : Nat := 0x0D100C + 0x20 * n
def CAL_SINK_Q0_MAP (n : Nat) : Fld := ⟨(CAL_SINK_Q0 n), 0, 32⟩
/-- R331 (14_calibration.md). -/
def CAL_SINK_Q1 (n : Nat) : Nat := 0x0D1010 + 0x20 * n
def CAL_SINK_Q1_MAP (n : Nat) : Fld := ⟨(CAL_SINK_Q1 n), 0, 32⟩
/-- R331 (14_calibration.md). -/
def CAL_SINK_Q2 (n : Nat) : Nat := 0x0D1014 + 0x20 * n
def CAL_SINK_Q2_MAP (n : Nat) : Fld := ⟨(CAL_SINK_Q2 n), 0, 32⟩
/-- R331 (14_calibration.md). -/
def CAL_SINK_RESID (n : Nat) : Nat := 0x0D1018 + 0x20 * n
def CAL_SINK_RESID_RESID (n : Nat) : Fld := ⟨(CAL_SINK_RESID n), 0, 16⟩
def CAL_SINK_RESID_OUT (n : Nat) : Fld := ⟨(CAL_SINK_RESID n), 16, 1⟩

/-- The registers of block CAL. -/
def regsCAL : List RegDesc :=
  [
    ⟨0x0D0000, [], [⟨0, 4, .rw, 0x3, [(3, 7)]⟩, ⟨4, 3, .rw, 0x2, []⟩, ⟨7, 1, .rws, 0x1, []⟩]⟩,
    ⟨0x0D0004, [], [⟨0, 1, .ro, 0x0, []⟩, ⟨1, 2, .ro, 0x0, []⟩, ⟨4, 4, .ro, 0x0, []⟩, ⟨8, 4, .ro, 0x0, []⟩, ⟨12, 2, .ro, 0x3, []⟩, ⟨14, 1, .w1c, 0x0, []⟩]⟩,
    ⟨0x0D0008, [(2, 0x4)], [⟨0, 32, .ro, 0x0, []⟩]⟩,
    ⟨0x0D0010, [], [⟨0, 16, .ro, 0x0, []⟩, ⟨16, 9, .ro, 0x0, []⟩]⟩,
    ⟨0x0D0014, [], [⟨0, 16, .ro, 0x0, []⟩, ⟨16, 16, .ro, 0x0, []⟩]⟩,
    ⟨0x0D0018, [], [⟨0, 8, .ro, 0x0, []⟩, ⟨8, 8, .ro, 0x0, []⟩]⟩,
    ⟨0x0D001C, [], [⟨0, 8, .ro, 0x0, []⟩, ⟨8, 8, .ro, 0x0, []⟩]⟩,
    ⟨0x0D0400, [(48, 0x4)], [⟨0, 16, .ro, 0xbb80, []⟩, ⟨16, 16, .ro, 0x0, []⟩]⟩,
    ⟨0x0D0500, [(12, 0x4)], [⟨0, 16, .ro, 0x0, []⟩]⟩,
    ⟨0x0D0540, [], [⟨0, 16, .ro, 0x1e0, []⟩, ⟨16, 8, .ro, 0x0, []⟩]⟩,
    ⟨0x0D0544, [], [⟨0, 16, .ro, 0x0, []⟩]⟩,
    ⟨0x0D1000, [(384, 0x20)], [⟨0, 32, .ro, 0xffffffff, []⟩]⟩,
    ⟨0x0D1004, [(384, 0x20)], [⟨0, 32, .ro, 0xffffffff, []⟩]⟩,
    ⟨0x0D1008, [(384, 0x20)], [⟨0, 32, .ro, 0x0, []⟩]⟩,
    ⟨0x0D100C, [(384, 0x20)], [⟨0, 32, .ro, 0xffff, []⟩]⟩,
    ⟨0x0D1010, [(384, 0x20)], [⟨0, 32, .ro, 0x0, []⟩]⟩,
    ⟨0x0D1014, [(384, 0x20)], [⟨0, 32, .ro, 0x0, []⟩]⟩,
    ⟨0x0D1018, [(384, 0x20)], [⟨0, 16, .ro, 0x0, []⟩, ⟨16, 1, .ro, 0x0, []⟩]⟩
  ]

/-! Block SEC. -/

/-- R365 (15_firmware_trust_update.md). -/
def SEC_DEVID_LO : Nat := 0x0E0000
def SEC_DEVID_LO_ID : Fld := ⟨SEC_DEVID_LO, 0, 32⟩
/-- R365 (15_firmware_trust_update.md). -/
def SEC_DEVID_HI : Nat := 0x0E0004
def SEC_DEVID_HI_ID : Fld := ⟨SEC_DEVID_HI, 0, 32⟩
/-- R365 (15_firmware_trust_update.md). -/
def SEC_STAT : Nat := 0x0E0008
def SEC_STAT_OWNED : Fld := ⟨SEC_STAT, 0, 1⟩
def SEC_STAT_VENDOR_OK : Fld := ⟨SEC_STAT, 1, 1⟩
def SEC_STAT_ONAIR : Fld := ⟨SEC_STAT, 2, 1⟩
def SEC_STAT_RECOVERY : Fld := ⟨SEC_STAT, 3, 1⟩
def SEC_STAT_LEASE : Fld := ⟨SEC_STAT, 4, 2⟩
def SEC_STAT_ROLLBACK_OK : Fld := ⟨SEC_STAT, 6, 1⟩
/-- R365 (15_firmware_trust_update.md). -/
def SEC_PRIV : Nat := 0x0E000C
def SEC_PRIV_DEBUG : Fld := ⟨SEC_PRIV, 0, 1⟩
def SEC_PRIV_SVC_PERM : Fld := ⟨SEC_PRIV, 4, 4⟩
def SEC_PRIV_ENROLL : Fld := ⟨SEC_PRIV, 8, 2⟩
/-- R365 (15_firmware_trust_update.md). -/
def SEC_UPD : Nat := 0x0E0010
def SEC_UPD_STATE : Fld := ⟨SEC_UPD, 0, 3⟩
def SEC_UPD_MFST_OK : Fld := ⟨SEC_UPD, 3, 1⟩
def SEC_UPD_CHUNKS : Fld := ⟨SEC_UPD, 4, 4⟩
def SEC_UPD_UCODE_OK : Fld := ⟨SEC_UPD, 8, 1⟩
def SEC_UPD_REASON : Fld := ⟨SEC_UPD, 9, 3⟩
/-- R365 (15_firmware_trust_update.md). -/
def SEC_MFST : Nat := 0x0E0014
def SEC_MFST_VALUE : Fld := ⟨SEC_MFST, 0, 32⟩
/-- R365 (15_firmware_trust_update.md). -/
def SEC_MFST_REL : Nat := 0x0E0018
def SEC_MFST_REL_VALUE : Fld := ⟨SEC_MFST_REL, 0, 32⟩
/-- R365 (15_firmware_trust_update.md). -/
def SEC_SVN : Nat := 0x0E001C
def SEC_SVN_CUR : Fld := ⟨SEC_SVN, 0, 16⟩
def SEC_SVN_FLOOR : Fld := ⟨SEC_SVN, 16, 16⟩
/-- R365 (15_firmware_trust_update.md). -/
def SEC_LMS_LEFT : Nat := 0x0E0020
def SEC_LMS_LEFT_LEFT : Fld := ⟨SEC_LMS_LEFT, 0, 21⟩
/-- R365 (15_firmware_trust_update.md). -/
def SEC_ACT_NS : Nat := 0x0E0024
def SEC_ACT_NS_NS : Fld := ⟨SEC_ACT_NS, 0, 30⟩
/-- R365 (15_firmware_trust_update.md). -/
def SEC_ACT_SL : Nat := 0x0E0028
def SEC_ACT_SL_S : Fld := ⟨SEC_ACT_SL, 0, 32⟩
/-- R365 (15_firmware_trust_update.md). -/
def SEC_ACT_SH : Nat := 0x0E002C
def SEC_ACT_SH_S : Fld := ⟨SEC_ACT_SH, 0, 16⟩
/-- R365 (15_firmware_trust_update.md). -/
def SEC_SVC_CMD : Nat := 0x0E0030
def SEC_SVC_CMD_OP : Fld := ⟨SEC_SVC_CMD, 0, 4⟩
def SEC_SVC_CMD_OBJECT : Fld := ⟨SEC_SVC_CMD, 4, 4⟩
def SEC_SVC_CMD_BUSY : Fld := ⟨SEC_SVC_CMD, 8, 1⟩
def SEC_SVC_CMD_CONTENT : Fld := ⟨SEC_SVC_CMD, 9, 3⟩
def SEC_SVC_CMD_STATUS : Fld := ⟨SEC_SVC_CMD, 16, 16⟩
/-- R365 (15_firmware_trust_update.md). -/
def SEC_SVC_WIN (n : Nat) : Nat := 0x0E1000 + 0x4 * n
def SEC_SVC_WIN_WORD (n : Nat) : Fld := ⟨(SEC_SVC_WIN n), 0, 32⟩

/-- The registers of block SEC. -/
def regsSEC : List RegDesc :=
  [
    ⟨0x0E0000, [], [⟨0, 32, .ro, 0x0, []⟩]⟩,
    ⟨0x0E0004, [], [⟨0, 32, .ro, 0x0, []⟩]⟩,
    ⟨0x0E0008, [], [⟨0, 1, .ro, 0x0, []⟩, ⟨1, 1, .ro, 0x0, []⟩, ⟨2, 1, .ro, 0x0, []⟩, ⟨3, 1, .ro, 0x0, []⟩, ⟨4, 2, .ro, 0x0, []⟩, ⟨6, 1, .ro, 0x0, []⟩]⟩,
    ⟨0x0E000C, [], [⟨0, 1, .rwt, 0x0, []⟩, ⟨4, 4, .rwt, 0xd, []⟩, ⟨8, 2, .rwt, 0x0, [(0, 2)]⟩]⟩,
    ⟨0x0E0010, [], [⟨0, 3, .ro, 0x0, []⟩, ⟨3, 1, .ro, 0x0, []⟩, ⟨4, 4, .ro, 0x0, []⟩, ⟨8, 1, .ro, 0x0, []⟩, ⟨9, 3, .ro, 0x0, []⟩]⟩,
    ⟨0x0E0014, [], [⟨0, 32, .ro, 0x0, []⟩]⟩,
    ⟨0x0E0018, [], [⟨0, 32, .ro, 0x0, []⟩]⟩,
    ⟨0x0E001C, [], [⟨0, 16, .ro, 0x0, []⟩, ⟨16, 16, .ro, 0x0, []⟩]⟩,
    ⟨0x0E0020, [], [⟨0, 21, .ro, 0x0, []⟩]⟩,
    ⟨0x0E0024, [], [⟨0, 30, .ro, 0x0, []⟩]⟩,
    ⟨0x0E0028, [], [⟨0, 32, .ro, 0x0, []⟩]⟩,
    ⟨0x0E002C, [], [⟨0, 16, .ro, 0x0, []⟩]⟩,
    ⟨0x0E0030, [], [⟨0, 4, .wo, 0x0, []⟩, ⟨4, 4, .wo, 0x0, []⟩, ⟨8, 1, .ro, 0x0, []⟩, ⟨9, 3, .wo, 0x0, []⟩, ⟨16, 16, .ro, 0x0, []⟩]⟩,
    ⟨0x0E1000, [(1024, 0x4)], [⟨0, 32, .rw, 0x0, []⟩]⟩
  ]

/-! Block REC. -/

/-- R380 (16_recorder_crc_mailbox.md). -/
def REC_CTRL : Nat := 0x0F0000
def REC_CTRL_SEND_SEV : Fld := ⟨REC_CTRL, 0, 4⟩
/-- R380 (16_recorder_crc_mailbox.md). -/
def REC_STAT : Nat := 0x0F0004
def REC_STAT_QUEUE : Fld := ⟨REC_STAT, 0, 6⟩
def REC_STAT_LOST_PEND : Fld := ⟨REC_STAT, 6, 1⟩
def REC_STAT_CLEARING : Fld := ⟨REC_STAT, 7, 1⟩
def REC_STAT_EMPTY : Fld := ⟨REC_STAT, 8, 1⟩
def REC_STAT_SKIP_CNT : Fld := ⟨REC_STAT, 16, 16⟩
/-- R380 (16_recorder_crc_mailbox.md). -/
def REC_OLDEST : Nat := 0x0F0008
def REC_OLDEST_SEQ : Fld := ⟨REC_OLDEST, 0, 32⟩
/-- R380 (16_recorder_crc_mailbox.md). -/
def REC_NEWEST : Nat := 0x0F000C
def REC_NEWEST_SEQ : Fld := ⟨REC_NEWEST, 0, 32⟩
/-- R380 (16_recorder_crc_mailbox.md). -/
def REC_SENT : Nat := 0x0F0010
def REC_SENT_SEQ : Fld := ⟨REC_SENT, 0, 32⟩
/-- R380 (16_recorder_crc_mailbox.md). -/
def REC_LOST_CNT : Nat := 0x0F0014
def REC_LOST_CNT_COUNT : Fld := ⟨REC_LOST_CNT, 0, 32⟩
/-- R380 (16_recorder_crc_mailbox.md). -/
def REC_RD_SEQ : Nat := 0x0F0018
def REC_RD_SEQ_SEQ : Fld := ⟨REC_RD_SEQ, 0, 32⟩
/-- R380 (16_recorder_crc_mailbox.md). -/
def REC_RD_STAT : Nat := 0x0F001C
def REC_RD_STAT_RESULT : Fld := ⟨REC_RD_STAT, 0, 2⟩
def REC_RD_STAT_BUSY : Fld := ⟨REC_RD_STAT, 2, 1⟩
/-- R380 (16_recorder_crc_mailbox.md). -/
def REC_RD_DATA (n : Nat) : Nat := 0x0F0020 + 0x4 * n
def REC_RD_DATA_WORD (n : Nat) : Fld := ⟨(REC_RD_DATA n), 0, 32⟩

/-- The registers of block REC. -/
def regsREC : List RegDesc :=
  [
    ⟨0x0F0000, [], [⟨0, 4, .rw, 0x0, []⟩]⟩,
    ⟨0x0F0004, [], [⟨0, 6, .ro, 0x0, []⟩, ⟨6, 1, .ro, 0x0, []⟩, ⟨7, 1, .ro, 0x0, []⟩, ⟨8, 1, .ro, 0x1, []⟩, ⟨16, 16, .rw, 0x0, []⟩]⟩,
    ⟨0x0F0008, [], [⟨0, 32, .ro, 0x0, []⟩]⟩,
    ⟨0x0F000C, [], [⟨0, 32, .ro, 0x0, []⟩]⟩,
    ⟨0x0F0010, [], [⟨0, 32, .ro, 0x0, []⟩]⟩,
    ⟨0x0F0014, [], [⟨0, 32, .rws, 0x0, []⟩]⟩,
    ⟨0x0F0018, [], [⟨0, 32, .rw, 0x0, []⟩]⟩,
    ⟨0x0F001C, [], [⟨0, 2, .ro, 0x0, []⟩, ⟨2, 1, .ro, 0x0, []⟩]⟩,
    ⟨0x0F0020, [(8, 0x4)], [⟨0, 32, .ro, 0x0, []⟩]⟩
  ]

/-! Block CRC. -/

/-- R385 (16_recorder_crc_mailbox.md). -/
def CRC_CTRL (n : Nat) : Nat := 0x100000 + 0x40 * n
def CRC_CTRL_POLY (n : Nat) : Fld := ⟨(CRC_CTRL n), 0, 2⟩
def CRC_CTRL_START (n : Nat) : Fld := ⟨(CRC_CTRL n), 4, 1⟩
def CRC_CTRL_FEED_IGN (n : Nat) : Fld := ⟨(CRC_CTRL n), 8, 1⟩
/-- R385 (16_recorder_crc_mailbox.md). -/
def CRC_SEED (n : Nat) : Nat := 0x100004 + 0x40 * n
def CRC_SEED_VALUE (n : Nat) : Fld := ⟨(CRC_SEED n), 0, 32⟩
/-- R385 (16_recorder_crc_mailbox.md). -/
def CRC_RESULT (n : Nat) : Nat := 0x100008 + 0x40 * n
def CRC_RESULT_VALUE (n : Nat) : Fld := ⟨(CRC_RESULT n), 0, 32⟩
/-- R385 (16_recorder_crc_mailbox.md). -/
def CRC_COUNT (n : Nat) : Nat := 0x10000C + 0x40 * n
def CRC_COUNT_VALUE (n : Nat) : Fld := ⟨(CRC_COUNT n), 0, 32⟩
/-- R385 (16_recorder_crc_mailbox.md). -/
def CRC_DATA (n : Nat) : Nat := 0x100010 + 0x40 * n
def CRC_DATA_DATA (n : Nat) : Fld := ⟨(CRC_DATA n), 0, 32⟩
/-- R385 (16_recorder_crc_mailbox.md). -/
def CRC_DATA_H (n : Nat) : Nat := 0x100014 + 0x40 * n
def CRC_DATA_H_DATA (n : Nat) : Fld := ⟨(CRC_DATA_H n), 0, 32⟩
/-- R385 (16_recorder_crc_mailbox.md). -/
def CRC_DATA_B (n : Nat) : Nat := 0x100018 + 0x40 * n
def CRC_DATA_B_DATA (n : Nat) : Fld := ⟨(CRC_DATA_B n), 0, 32⟩
/-- R385 (16_recorder_crc_mailbox.md). -/
def SNP_CTRL (n : Nat) : Nat := 0x100800 + 0x20 * n
def SNP_CTRL_EN (n : Nat) : Fld := ⟨(SNP_CTRL n), 0, 1⟩
def SNP_CTRL_CONT (n : Nat) : Fld := ⟨(SNP_CTRL n), 1, 1⟩
def SNP_CTRL_ARM (n : Nat) : Fld := ⟨(SNP_CTRL n), 2, 1⟩
def SNP_CTRL_POLY (n : Nat) : Fld := ⟨(SNP_CTRL n), 4, 2⟩
def SNP_CTRL_SRC (n : Nat) : Fld := ⟨(SNP_CTRL n), 8, 4⟩
def SNP_CTRL_SEL (n : Nat) : Fld := ⟨(SNP_CTRL n), 12, 4⟩
/-- R385 (16_recorder_crc_mailbox.md). -/
def SNP_SEED (n : Nat) : Nat := 0x100804 + 0x20 * n
def SNP_SEED_VALUE (n : Nat) : Fld := ⟨(SNP_SEED n), 0, 32⟩
/-- R385 (16_recorder_crc_mailbox.md). -/
def SNP_RESULT (n : Nat) : Nat := 0x100808 + 0x20 * n
def SNP_RESULT_VALUE (n : Nat) : Fld := ⟨(SNP_RESULT n), 0, 32⟩
/-- R385 (16_recorder_crc_mailbox.md). -/
def SNP_COUNT (n : Nat) : Nat := 0x10080C + 0x20 * n
def SNP_COUNT_VALUE (n : Nat) : Fld := ⟨(SNP_COUNT n), 0, 32⟩
/-- R385 (16_recorder_crc_mailbox.md). -/
def SNP_STAT (n : Nat) : Nat := 0x100810 + 0x20 * n
def SNP_STAT_DONE (n : Nat) : Fld := ⟨(SNP_STAT n), 0, 1⟩
def SNP_STAT_RUN (n : Nat) : Fld := ⟨(SNP_STAT n), 1, 1⟩
def SNP_STAT_OVR (n : Nat) : Fld := ⟨(SNP_STAT n), 2, 1⟩

/-- The registers of block CRC. -/
def regsCRC : List RegDesc :=
  [
    ⟨0x100000, [(8, 0x40)], [⟨0, 2, .rw, 0x1, []⟩, ⟨4, 1, .wo, 0x0, []⟩, ⟨8, 1, .w1c, 0x0, []⟩]⟩,
    ⟨0x100004, [(8, 0x40)], [⟨0, 32, .wo, 0x0, []⟩]⟩,
    ⟨0x100008, [(8, 0x40)], [⟨0, 32, .ro, 0x0, []⟩]⟩,
    ⟨0x10000C, [(8, 0x40)], [⟨0, 32, .ro, 0x0, []⟩]⟩,
    ⟨0x100010, [(8, 0x40)], [⟨0, 32, .wo, 0x0, []⟩]⟩,
    ⟨0x100014, [(8, 0x40)], [⟨0, 32, .wo, 0x0, []⟩]⟩,
    ⟨0x100018, [(8, 0x40)], [⟨0, 32, .wo, 0x0, []⟩]⟩,
    ⟨0x100800, [(8, 0x20)], [⟨0, 1, .rw, 0x0, []⟩, ⟨1, 1, .rw, 0x0, []⟩, ⟨2, 1, .wo, 0x0, []⟩, ⟨4, 2, .rw, 0x1, []⟩, ⟨8, 4, .rw, 0x0, [(0, 3)]⟩, ⟨12, 4, .rw, 0x0, []⟩]⟩,
    ⟨0x100804, [(8, 0x20)], [⟨0, 32, .rw, 0xffffffff, []⟩]⟩,
    ⟨0x100808, [(8, 0x20)], [⟨0, 32, .ro, 0x0, []⟩]⟩,
    ⟨0x10080C, [(8, 0x20)], [⟨0, 32, .ro, 0x0, []⟩]⟩,
    ⟨0x100810, [(8, 0x20)], [⟨0, 1, .w1c, 0x0, []⟩, ⟨1, 1, .ro, 0x0, []⟩, ⟨2, 1, .w1c, 0x0, []⟩]⟩
  ]

/-! Block MBX. -/

/-- R393 (16_recorder_crc_mailbox.md). -/
def MBX_CTRL : Nat := 0x110000
def MBX_CTRL_MCSEL : Fld := ⟨MBX_CTRL, 0, 1⟩
/-- R393 (16_recorder_crc_mailbox.md). -/
def MBX_STAT : Nat := 0x110004
def MBX_STAT_FULL : Fld := ⟨MBX_STAT, 0, 8⟩
def MBX_STAT_ABORTED : Fld := ⟨MBX_STAT, 8, 8⟩
def MBX_STAT_CROSS : Fld := ⟨MBX_STAT, 16, 4⟩
/-- R393 (16_recorder_crc_mailbox.md). -/
def MBX_ACK : Nat := 0x110008
def MBX_ACK_ACK : Fld := ⟨MBX_ACK, 0, 8⟩
/-- R393 (16_recorder_crc_mailbox.md). -/
def MBX_DATA (n : Nat) : Nat := 0x110020 + 0x4 * n
def MBX_DATA_WORD (n : Nat) : Fld := ⟨(MBX_DATA n), 0, 32⟩

/-- The registers of block MBX. -/
def regsMBX : List RegDesc :=
  [
    ⟨0x110000, [], [⟨0, 1, .rw, 0x0, []⟩]⟩,
    ⟨0x110004, [], [⟨0, 8, .ro, 0x0, []⟩, ⟨8, 8, .w1c, 0x0, []⟩, ⟨16, 4, .w1c, 0x0, []⟩]⟩,
    ⟨0x110008, [], [⟨0, 8, .wo, 0x0, []⟩]⟩,
    ⟨0x110020, [(8, 0x4)], [⟨0, 32, .rw, 0x0, []⟩]⟩
  ]

/-! Block AON. -/

/-- R419 (17_power_reset_dormant.md). -/
def AON_CTRL : Nat := 0x120000
def AON_CTRL_XTAL : Fld := ⟨AON_CTRL, 0, 1⟩
def AON_CTRL_JACK_EN : Fld := ⟨AON_CTRL, 1, 1⟩
def AON_CTRL_RPT_EN : Fld := ⟨AON_CTRL, 2, 1⟩
def AON_CTRL_WAKEN_EN : Fld := ⟨AON_CTRL, 3, 1⟩
def AON_CTRL_ALARM_EN : Fld := ⟨AON_CTRL, 4, 1⟩
/-- R419 (17_power_reset_dormant.md). -/
def AON_STAT : Nat := 0x120004
def AON_STAT_SRC : Fld := ⟨AON_STAT, 0, 3⟩
def AON_STAT_OTEMP : Fld := ⟨AON_STAT, 8, 1⟩
def AON_STAT_OTEMP_SEEN : Fld := ⟨AON_STAT, 9, 1⟩
def AON_STAT_VCORE_LOST : Fld := ⟨AON_STAT, 10, 1⟩
def AON_STAT_VDRV_LOST : Fld := ⟨AON_STAT, 11, 1⟩
def AON_STAT_VLED_LOST : Fld := ⟨AON_STAT, 12, 1⟩
def AON_STAT_XTAL_OK : Fld := ⟨AON_STAT, 13, 1⟩
/-- R419 (17_power_reset_dormant.md). -/
def AON_DORM_AT_NS : Nat := 0x120010
def AON_DORM_AT_NS_NS : Fld := ⟨AON_DORM_AT_NS, 0, 30⟩
/-- R419 (17_power_reset_dormant.md). -/
def AON_DORM_AT_SL : Nat := 0x120014
def AON_DORM_AT_SL_S : Fld := ⟨AON_DORM_AT_SL, 0, 32⟩
/-- R419 (17_power_reset_dormant.md). -/
def AON_DORM_AT_SH : Nat := 0x120018
def AON_DORM_AT_SH_S : Fld := ⟨AON_DORM_AT_SH, 0, 16⟩
/-- R419 (17_power_reset_dormant.md). -/
def AON_DORM_ARM : Nat := 0x12001C
def AON_DORM_ARM_ARM : Fld := ⟨AON_DORM_ARM, 0, 1⟩
def AON_DORM_ARM_DISARM : Fld := ⟨AON_DORM_ARM, 1, 1⟩
def AON_DORM_ARM_PEND : Fld := ⟨AON_DORM_ARM, 2, 1⟩
def AON_DORM_ARM_REFUSE : Fld := ⟨AON_DORM_ARM, 4, 4⟩
/-- R419 (17_power_reset_dormant.md). -/
def AON_ALARM_NS : Nat := 0x120020
def AON_ALARM_NS_NS : Fld := ⟨AON_ALARM_NS, 0, 30⟩
/-- R419 (17_power_reset_dormant.md). -/
def AON_ALARM_SL : Nat := 0x120024
def AON_ALARM_SL_S : Fld := ⟨AON_ALARM_SL, 0, 32⟩
/-- R419 (17_power_reset_dormant.md). -/
def AON_ALARM_SH : Nat := 0x120028
def AON_ALARM_SH_S : Fld := ⟨AON_ALARM_SH, 0, 16⟩
/-- R419 (17_power_reset_dormant.md). -/
def AON_TONE : Nat := 0x120030
def AON_TONE_PORTS : Fld := ⟨AON_TONE, 0, 4⟩
/-- R419 (17_power_reset_dormant.md). -/
def AON_DUR : Nat := 0x120034
def AON_DUR_SECONDS : Fld := ⟨AON_DUR, 0, 32⟩

/-- The registers of block AON. -/
def regsAON : List RegDesc :=
  [
    ⟨0x120000, [], [⟨0, 1, .rw, 0x0, []⟩, ⟨1, 1, .rw, 0x1, []⟩, ⟨2, 1, .rw, 0x1, []⟩, ⟨3, 1, .rw, 0x1, []⟩, ⟨4, 1, .rw, 0x0, []⟩]⟩,
    ⟨0x120004, [], [⟨0, 3, .ro, 0x0, []⟩, ⟨8, 1, .ro, 0x0, []⟩, ⟨9, 1, .w1c, 0x0, []⟩, ⟨10, 1, .w1c, 0x0, []⟩, ⟨11, 1, .w1c, 0x0, []⟩, ⟨12, 1, .w1c, 0x0, []⟩, ⟨13, 1, .ro, 0x0, []⟩]⟩,
    ⟨0x120010, [], [⟨0, 30, .rw, 0x0, []⟩]⟩,
    ⟨0x120014, [], [⟨0, 32, .rw, 0x0, []⟩]⟩,
    ⟨0x120018, [], [⟨0, 16, .rw, 0x0, []⟩]⟩,
    ⟨0x12001C, [], [⟨0, 1, .wo, 0x0, []⟩, ⟨1, 1, .wo, 0x0, []⟩, ⟨2, 1, .ro, 0x0, []⟩, ⟨4, 4, .ro, 0x0, []⟩]⟩,
    ⟨0x120020, [], [⟨0, 30, .rw, 0x0, []⟩]⟩,
    ⟨0x120024, [], [⟨0, 32, .rw, 0x0, []⟩]⟩,
    ⟨0x120028, [], [⟨0, 16, .rw, 0x0, []⟩]⟩,
    ⟨0x120030, [], [⟨0, 4, .wo, 0x0, []⟩]⟩,
    ⟨0x120034, [], [⟨0, 32, .ro, 0x0, []⟩]⟩
  ]

/-! Block FAB. -/

/-- R46 (02_self_timed_fabric.md). -/
def FAB_CTRL : Nat := 0x130000
def FAB_CTRL_THR_MAX : Fld := ⟨FAB_CTRL, 0, 4⟩
def FAB_CTRL_SW_LEVEL : Fld := ⟨FAB_CTRL, 4, 4⟩
def FAB_CTRL_TEST_EN : Fld := ⟨FAB_CTRL, 8, 1⟩
/-- R46 (02_self_timed_fabric.md). -/
def FAB_STAT : Nat := 0x130004
def FAB_STAT_LEVEL : Fld := ⟨FAB_STAT, 0, 4⟩
def FAB_STAT_TLEVEL : Fld := ⟨FAB_STAT, 4, 4⟩
def FAB_STAT_VLOW : Fld := ⟨FAB_STAT, 8, 1⟩
def FAB_STAT_VLOW_SEEN : Fld := ⟨FAB_STAT, 9, 1⟩
def FAB_STAT_UNDERRUN_SEEN : Fld := ⟨FAB_STAT, 10, 1⟩
/-- R46 (02_self_timed_fabric.md). -/
def FAB_RATE : Nat := 0x130008
def FAB_RATE_AVG : Fld := ⟨FAB_RATE, 0, 16⟩
def FAB_RATE_SLOW_PE : Fld := ⟨FAB_RATE, 16, 8⟩
/-- R46 (02_self_timed_fabric.md). -/
def FAB_SLACK : Nat := 0x13000C
def FAB_SLACK_MIN : Fld := ⟨FAB_SLACK, 0, 16⟩
def FAB_SLACK_LAST : Fld := ⟨FAB_SLACK, 16, 16⟩
/-- R46 (02_self_timed_fabric.md). -/
def FAB_LATE_CNT : Nat := 0x130010
def FAB_LATE_CNT_COUNT : Fld := ⟨FAB_LATE_CNT, 0, 32⟩
/-- R46 (02_self_timed_fabric.md). -/
def FAB_PERR_CNT : Nat := 0x130014
def FAB_PERR_CNT_COUNT : Fld := ⟨FAB_PERR_CNT, 0, 32⟩
/-- R46 (02_self_timed_fabric.md). -/
def FAB_PERR_LOG : Nat := 0x130018
def FAB_PERR_LOG_MEM : Fld := ⟨FAB_PERR_LOG, 0, 4⟩
def FAB_PERR_LOG_UNIT : Fld := ⟨FAB_PERR_LOG, 4, 8⟩
def FAB_PERR_LOG_VALID : Fld := ⟨FAB_PERR_LOG, 31, 1⟩
/-- R46 (02_self_timed_fabric.md). -/
def FAB_PERR_ADDR : Nat := 0x13001C
def FAB_PERR_ADDR_OFFSET : Fld := ⟨FAB_PERR_ADDR, 0, 32⟩
/-- R46 (02_self_timed_fabric.md). -/
def FAB_PINJ : Nat := 0x130020
def FAB_PINJ_MEM : Fld := ⟨FAB_PINJ, 0, 4⟩
def FAB_PINJ_UNIT : Fld := ⟨FAB_PINJ, 4, 8⟩
def FAB_PINJ_ARM : Fld := ⟨FAB_PINJ, 31, 1⟩

/-- The registers of block FAB. -/
def regsFAB : List RegDesc :=
  [
    ⟨0x130000, [], [⟨0, 4, .rw, 0x4, [(0, 8)]⟩, ⟨4, 4, .rw, 0x0, [(0, 8)]⟩, ⟨8, 1, .rwt, 0x0, []⟩]⟩,
    ⟨0x130004, [], [⟨0, 4, .ro, 0x0, []⟩, ⟨4, 4, .ro, 0x0, []⟩, ⟨8, 1, .ro, 0x0, []⟩, ⟨9, 1, .w1c, 0x0, []⟩, ⟨10, 1, .w1c, 0x0, []⟩]⟩,
    ⟨0x130008, [], [⟨0, 16, .ro, 0x0, []⟩, ⟨16, 8, .ro, 0x0, []⟩]⟩,
    ⟨0x13000C, [], [⟨0, 16, .ro, 0x0, []⟩, ⟨16, 16, .ro, 0x0, []⟩]⟩,
    ⟨0x130010, [], [⟨0, 32, .ro, 0x0, []⟩]⟩,
    ⟨0x130014, [], [⟨0, 32, .rws, 0x0, []⟩]⟩,
    ⟨0x130018, [], [⟨0, 4, .ro, 0x0, []⟩, ⟨4, 8, .ro, 0x0, []⟩, ⟨31, 1, .w1c, 0x0, []⟩]⟩,
    ⟨0x13001C, [], [⟨0, 32, .ro, 0x0, []⟩]⟩,
    ⟨0x130020, [], [⟨0, 4, .wo, 0x0, []⟩, ⟨4, 8, .wo, 0x0, []⟩, ⟨31, 1, .wo, 0x0, []⟩]⟩
  ]

/-! Block NVM. -/

/-- R365 (15_firmware_trust_update.md). -/
def NVM_STAT : Nat := 0x140000
def NVM_STAT_CE : Fld := ⟨NVM_STAT, 0, 16⟩
def NVM_STAT_UE_SEEN : Fld := ⟨NVM_STAT, 16, 1⟩
/-- R365 (15_firmware_trust_update.md). -/
def NVM_UE_ADDR : Nat := 0x140004
def NVM_UE_ADDR_ADDR : Fld := ⟨NVM_UE_ADDR, 0, 23⟩

/-- The registers of block NVM. -/
def regsNVM : List RegDesc :=
  [
    ⟨0x140000, [], [⟨0, 16, .rws, 0x0, []⟩, ⟨16, 1, .w1c, 0x0, []⟩]⟩,
    ⟨0x140004, [], [⟨0, 23, .ro, 0x0, []⟩]⟩
  ]

/-- The registers of block number `b` (R438). -/
def blockRegs (b : Nat) : List RegDesc :=
  match b with
  | 0 => regsGEN
  | 1 => regsHIF
  | 2 => regsRING
  | 3 => regsLANE
  | 4 => regsXPT
  | 5 => regsTIME
  | 6 => regsCMP
  | 7 => regsCOR
  | 8 => regsGRY
  | 9 => regsLDRV
  | 10 => regsDIAG
  | 11 => regsTWIN
  | 12 => regsTHM
  | 13 => regsCAL
  | 14 => regsSEC
  | 15 => regsREC
  | 16 => regsCRC
  | 17 => regsMBX
  | 18 => regsAON
  | 19 => regsFAB
  | 20 => regsNVM
  | _ => []

end Sys2Proof.Machine
end

