-- ==== Sys2Proof/Machine/RegFile.lean ====
section
/-! DEFINITION. The register file: which register stands at an address, its Reset value, and the raw reads and writes
of fields by the device itself (spec/19_register_map.md R438 to R441, R446). -/

namespace Sys2Proof.Machine

/-- Whether the offset lies on the first word of an element of an array with these (count, stride) pairs. -/
def dimsHit : List (Nat × Nat) → Nat → Bool
  | [], off => off == 0
  | (n, s) :: rest, off => decide (off / s < n) && dimsHit rest (off % s)

/-- Whether a register description covers an address. -/
def RegDesc.covers (r : RegDesc) (a : Nat) : Bool := decide (r.base ≤ a) && dimsHit r.dims (a - r.base)

/-- The register at an address; `none` where no register stands (R439). -/
def regAt (a : Nat) : Option RegDesc := (blockRegs (a / 0x10000)).find? fun r => r.covers a

/-- The Reset word of a list of fields. -/
def resetWord : List FieldDesc → Word
  | [] => 0
  | f :: fs => withField (resetWord fs) f.lo f.width f.reset

/-- The Reset value of the register at an address, in tile role where the roles differ; 0 where none stands.
HIF_VEC_c.VECTOR resets to c (R85). -/
def regReset (a : Nat) : Word :=
  match regAt a with
  | some r =>
    let w := resetWord r.fields
    if r.base == HIF_VEC 0 then withField w (HIF_VEC_VECTOR 0).lo (HIF_VEC_VECTOR 0).width ((a - r.base) / 4) else w
  | none => 0

/-- The word held at an address. -/
def Dev.rd (d : Dev) (a : Nat) : Word := Cells.read regReset d.regs a

/-- The device with that word held at an address. -/
def Dev.wr (d : Dev) (a : Nat) (v : Word) : Dev := { d with regs := Cells.write regReset d.regs a v }

/-- The value of a field. -/
def Dev.get (d : Dev) (f : Fld) : Nat := fieldOf (d.rd f.addr) f.lo f.width

/-- The device with a field set. -/
def Dev.set (d : Dev) (f : Fld) (v : Nat) : Dev := d.wr f.addr (withField (d.rd f.addr) f.lo f.width v)

/-- A one-bit field, or any field compared with 0. -/
def Dev.getb (d : Dev) (f : Fld) : Bool := d.get f != 0

/-- Sets a one-bit field. -/
def Dev.setb (d : Dev) (f : Fld) (b : Bool) : Dev := d.set f (b2n b)

/-- A field read as two's complement. -/
def Dev.geti (d : Dev) (f : Fld) : Int := toSigned f.width (d.get f)

/-- Sets a field to the low bits of an integer. -/
def Dev.seti (d : Dev) (f : Fld) (v : Int) : Dev := d.set f (ofSigned f.width v)

/-- Adds to a counter that wraps at its width. -/
def Dev.add (d : Dev) (f : Fld) (n : Nat) : Dev := d.set f (d.get f + n)

/-- Adds to a counter that stops at its largest value. -/
def Dev.addSat (d : Dev) (f : Fld) (n : Nat) : Dev := d.set f (satCount f.width (d.get f + n))

/-- Sets several fields. -/
def Dev.setAll (d : Dev) : List (Fld × Nat) → Dev
  | [] => d
  | (f, v) :: rest => (d.set f v).setAll rest

/-- The fields of block `b` whose access code satisfies `p` keep their values; every other field of the block's
registers returns to its Reset value. Registers are visited by the addresses listed in the file. -/
def keepField (p : Access → Bool) (a : Nat) (v : Word) : Word :=
  match regAt a with
  | none => 0
  | some r =>
    r.fields.foldl (fun w f => if p f.acc then withField w f.lo f.width (fieldOf v f.lo f.width) else w)
      (regReset a)

/-- Returns to Reset every field whose address and access code satisfy `p`, and keeps the others. -/
def resetRegs (p : Nat → Access → Bool) (c : Cells Word) : Cells Word :=
  c.foldr (fun e acc => Cells.write regReset acc e.1 (keepField (fun k => ! p e.1 k) e.1 e.2)) []

end Sys2Proof.Machine
end

