-- ==== Sys2Proof/Machine/Ops.lean ====
section
/-! DEFINITION. The operations that the meanings of all families share: roles and power (R1, R15), elapsed and wall time
(R186, R203), free values, what leaves the device, events (R366, R370), interrupts and the shadow page (R61, R83). -/

namespace Sys2Proof.Machine

/-! Elapsed time, in ticks of 4 ns (log entry 7). -/

/-- Ticks in `n` microseconds. -/
def us (n : Nat) : Nat := n * 250

/-- Ticks in `n` milliseconds. -/
def ms (n : Nat) : Nat := n * 250000

/-- Ticks in `n` seconds. -/
def secs (n : Nat) : Nat := n * 250000000

/-- The tick count. -/
def Dev.ticks (d : Dev) : Nat := d.time.clk.ticks

/-- Whether `n` ticks have passed since tick `t`. -/
def Dev.passed (d : Dev) (t n : Nat) : Bool := decide (t + n ≤ d.ticks)

/-! Wall time. -/

/-- Nanoseconds in a second. -/
def giga : Nat := 1000000000

/-- The clock in nanoseconds. -/
def Dev.now (d : Dev) : Nat := d.time.clk.sec * giga + d.time.clk.ns

/-- The clock in 2^−16 ns. -/
def Dev.nowFine (d : Dev) : Nat := d.now * 65536 + d.time.clk.frac

/-- The time held by three registers: nanoseconds, seconds bits 31:0, seconds bits 47:32 (R443). -/
def Dev.timeOf (d : Dev) (ns sl sh : Fld) : Nat := (d.get sh * 2 ^ 32 + d.get sl) * giga + d.get ns

/-- The device with a time in those registers. -/
def Dev.setTime (d : Dev) (ns sl sh : Fld) (t : Nat) : Dev :=
  d.setAll [(ns, t % giga), (sl, t / giga), (sh, t / giga / 2 ^ 32)]

/-! Small updates. -/

/-- The device with one more thing sent. -/
def Dev.emit (d : Dev) (o : Out) : Dev := { d with out := d.out ++ [o] }

/-- A port's state. -/
def Dev.port (d : Dev) (x : Nat) : PortSt := nth d.ports x PortSt.init

/-- Changes a port's state. -/
def Dev.modPort (d : Dev) (x : Nat) (f : PortSt → PortSt) : Dev := { d with ports := modAt d.ports x f }

/-- A lane's state. -/
def Dev.lane (d : Dev) (x n : Nat) : LaneSt := nth (d.port x).lanes n LaneSt.init

/-- Changes a lane's state. -/
def Dev.modLane (d : Dev) (x n : Nat) (f : LaneSt → LaneSt) : Dev :=
  d.modPort x fun p => { p with lanes := modAt p.lanes n f }

/-- Applies a step for each element of a list. -/
def Dev.each {α : Type} (d : Dev) (l : List α) (f : Dev → α → Dev) : Dev := l.foldl f d

/-- Draws a free value under `n` (log entry 3). -/
def Dev.draw (d : Dev) (n : Nat) : Nat × Dev := (Config.freeValue d.free % n, { d with free := d.free + 1 })

/-- The pixel engines can work: none is being reloaded (R45; which engine does which work is not stated, log entry 19), and
they are not held in recovery (R342). -/
def Dev.enginesReady (d : Dev) : Bool := d.tile.reload.isEmpty && !d.getb SEC_STAT_RECOVERY

/-! Roles and addresses (R1, R17). -/

/-- Tile role. -/
def isTile (st : Straps) : Bool := st.role == Role.tile

/-- Sender role. -/
def isSender (st : Straps) : Bool := st.role == Role.sender

/-- The device is running. -/
def Dev.awake (d : Dev) : Bool := d.boot.power == Power.awake

/-- Whether the device has a valid wall address (R17). -/
def Dev.addrValid (d : Dev) : Bool := d.getb XPT_ADDR_VALID

/-- The wall address: XPT_ADDR of a tile; a sender's is 4·PAIR with position 0 (R366). -/
def ownAddr (st : Straps) (d : Dev) : Nat :=
  match st.role with
  | .sender => 4 * d.get XPT_CTRL_PAIR * 64
  | .tile => if d.addrValid then d.get XPT_ADDR_ADDR else 0

/-- The port of a sender on which a chain numbered c of its pair leaves: c mod 4 (R17). -/
def chainPort (addr : Nat) : Nat := addr / 64 % 4

/-- The position part of a wall address. -/
def posOf (addr : Nat) : Nat := addr % 64

/-- Whether a wall address belongs to a chain of this sender's pair. -/
def inPair (d : Dev) (addr : Nat) : Bool := addr / 256 == d.get XPT_CTRL_PAIR

/-! Events (R366 to R371). -/

/-- FLAGS of a record stamped now: the code's own bits, the clock state, SND and UNASG (R367). -/
def eventFlags (st : Straps) (d : Dev) (own : Nat) : Nat :=
  own % 64 + 64 * d.get TIME_STAT_STATE + 256 * b2n (isSender st) + 512 * b2n (isTile st && !d.addrValid)

/-- The record of an event, stamped with the clock at this instant. -/
def Dev.record (st : Straps) (e : EvCode) (flags p0 p1 p2 : Nat) (d : Dev) : EventRec :=
  { code := e.code, sev := e.sev, source := ownAddr st d, seq := 0, secs := d.time.clk.sec, ns := d.time.clk.ns,
    tepoch := d.get TIME_STAT_TEPOCH, flags := eventFlags st d flags, p0 := p0 % 2 ^ 32, p1 := p1 % 2 ^ 32,
    p2 := p2 % 2 ^ 32 }

/-- A record waits for the end of the step. -/
def Dev.note (r : EventRec) (d : Dev) : Dev := { d with rcd.fresh := d.rcd.fresh ++ [r] }

/-- Records an event. -/
def Dev.eventF (st : Straps) (e : EvCode) (flags p0 p1 p2 : Nat) (d : Dev) : Dev := d.note (d.record st e flags p0 p1 p2)

/-- Records an event whose own FLAGS are 0. -/
def Dev.event (st : Straps) (e : EvCode) (p0 p1 p2 : Nat) (d : Dev) : Dev := d.eventF st e 0 p0 p1 p2

/-- Records the events of a condition. -/
def Dev.eventIf (st : Straps) (b : Bool) (e : EvCode) (p0 p1 p2 : Nat) (d : Dev) : Dev :=
  if b then d.event st e p0 p1 p2 else d

/-- The depth of the recorder's input queue (R370). -/
def recDepth : Nat := 32

/-- One event enters the queue, or is lost (R370). -/
def Dev.enqueue (d : Dev) (e : EventRec) : Dev :=
  if d.rcd.queue.length < recDepth then { d with rcd.queue := d.rcd.queue ++ [e] }
  else
    let r := if d.rcd.lost = 0 then { d.rcd with lostSecs := e.secs, lostNs := e.ns } else d.rcd
    { d with rcd := { r with lost := r.lost + 1 } }.add REC_LOST_CNT_COUNT 1

/-- Puts an event at its place by ascending CODE, after those of the same CODE. -/
def insertByCode (e : EventRec) : List EventRec → List EventRec
  | [] => [e]
  | x :: xs => if x.code ≤ e.code then x :: insertByCode e xs else e :: x :: xs

/-- Events in ascending CODE order. -/
def sortByCode (l : List EventRec) : List EventRec := l.foldl (fun acc e => insertByCode e acc) []

/-- The events of the step enter the queue, in ascending CODE order (R370). -/
def Dev.finish (d : Dev) : Dev :=
  match d.rcd.fresh with
  | [] => d
  | es => { d with rcd.fresh := [] }.each (sortByCode es) Dev.enqueue

/-! Running a command's effect: the queue of commands and the straps stay. -/

/-- The outcome of an effect on the device. -/
def run (f : Straps → Dev → Dev) (s : State) : Host.Outcome State Fault Refusal :=
  .next { s with dev := (f s.straps s.dev).finish }

/-- An effect that takes place where the condition holds; otherwise nothing changes (R15). -/
def runIf (c : Straps → Dev → Bool) (f : Straps → Dev → Dev) (s : State) : Host.Outcome State Fault Refusal :=
  if c s.straps s.dev then run f s else .next s

/-- An effect of a running device. -/
def runAwake (f : Straps → Dev → Dev) (s : State) : Host.Outcome State Fault Refusal :=
  runIf (fun _ d => d.awake) f s

/-- An effect of a running tile. -/
def runTile (f : Straps → Dev → Dev) (s : State) : Host.Outcome State Fault Refusal :=
  runIf (fun st d => isTile st && d.awake) f s

/-- An effect of a running sender. -/
def runSender (f : Straps → Dev → Dev) (s : State) : Host.Outcome State Fault Refusal :=
  runIf (fun st d => isSender st && d.awake) f s

/-! Who reaches the registers (R444, R448, R449). -/

/-- The function's BARs respond: the link is up, Memory Space Enable is set and the function is in D0 (R84). -/
def Dev.barsOn (d : Dev) : Bool := d.host.linkUp && d.host.pcie.memEn && !d.host.pcie.d3hot

/-- A bit of SVC_PERM: 0 READ, 1 WRITE_CFG, 2 ENROLL, 3 UPDATE. -/
def Dev.svcMay (d : Dev) (bit : Nat) : Bool := natBit (d.get SEC_PRIV_SVC_PERM) bit

/-- Whether a write by an initiator arrives: the BARs of a sender and, while its link is up, its configuration space; the
service port with WRITE_CFG; JTAG with DEBUG, out of the reset of TRST_N (R428). -/
def hasAccess (st : Straps) (init : Initiator) (d : Dev) : Bool :=
  match init with
  | .bar0 | .bar2 => isSender st && d.barsOn
  | .config => isSender st && d.host.linkUp
  | .service => d.svcMay 1
  | .jtag => d.getb SEC_PRIV_DEBUG && d.boot.trst
  | _ => true

/-- Whether an initiator writes to one of the function's own spaces, not to the device's register space. -/
def outsideRegs (init : Initiator) : Bool := init == .bar2 || init == .config

/-- Whether an initiator's write reaches a register of the device. -/
def mayWrite (st : Straps) (init : Initiator) (d : Dev) : Bool := !outsideRegs init && hasAccess st init d

/-- Whether an initiator's read reaches a register of the device: the service port needs READ. -/
def mayRead (st : Straps) (init : Initiator) (d : Dev) : Bool := if init == .service then d.svcMay 0 else mayWrite st init d

/-- A NACK of the service port, counted (R448). -/
def Dev.svcNack (d : Dev) : Dev := (d.addSat GEN_SVC_STAT_NACKS 1).emit .svcNack

/-- The effect of a register write by an initiator on a running device, where a further condition holds. The service port
answers a write that WRITE_CFG does not allow with NACK (R448). -/
def runBy (init : Initiator) (c : Straps → Dev → Bool) (f : Straps → Dev → Dev) (s : State) : Host.Outcome State Fault Refusal :=
  runIf (fun st d => d.awake && (if init == .service && !d.svcMay 1 then true else mayWrite st init d && c st d))
    (fun st d => if init == .service && !d.svcMay 1 then d.svcNack else f st d) s

/-- The device is held in a warm reset: reads return 0 and writes have no effect (R446). -/
def Dev.held (d : Dev) : Bool := d.boot.power == Power.brownOut || d.boot.power == Power.shutdown

/-- A read of registers that reaches them; while the device is held in a reset it answers the zeros given (R446). -/
def runRead (c : Straps → Dev → Bool) (zero : Dev → Dev) (f : Straps → Dev → Dev) (s : State) : Host.Outcome State Fault Refusal :=
  runIf (fun st d => (d.awake || d.held) && c st d) (fun st d => if d.held then zero d else f st d) s

/-! The shadow page and MSI-X (R60 to R62, R82, R83). -/

/-- The indices that the device owns: FLIP_CI, CMD_CI, BULK_CI, CPL_PI, EVT_PI. -/
def Dev.indices (d : Dev) : List Nat := [0, 1, 2, 3, 4].map fun n => d.get (RING_IDX_INDEX n)

/-- The address of the shadow page. -/
def Dev.shadowAddr (d : Dev) : Nat := d.get HIF_SH_HI_ADDR * 2 ^ 32 + d.get HIF_SH_LO_ADDR * 2 ^ 12

/-- The 32 bytes of a shadow write. -/
def Dev.shadowBytes (d : Dev) : List Byte :=
  (d.indices.flatMap fun i => leBytes i 4) ++ leBytes d.host.shadowSeq 4 ++ leBytes d.time.clk.ns 4 ++
  leBytes d.time.clk.sec 4

/-- Writes the shadow page. -/
def Dev.shadowWrite (d : Dev) : Dev :=
  let d1 := d.emit (.hostWrite d.shadowAddr d.shadowBytes)
  { d1 with host.shadow := some d.indices, host.shadowSeq := (d.host.shadowSeq + 1) % 2 ^ 32,
            host.lastShadow := some d.ticks }

/-- Polling is on and an index has changed since the last shadow write, or none was made since EN was set. -/
def Dev.shadowStale (d : Dev) : Bool := d.getb HIF_CTRL_EN && d.host.shadow != some d.indices

/-- The shadow page is brought up to date before an MSI-X message, also within a poll interval; where no index has changed
nothing is written (log entry 103). -/
def Dev.freshShadow (d : Dev) : Dev := if d.shadowStale then d.shadowWrite else d

/-- The message of a vector: a write of the data of its table entry to the address there (R48, R83). -/
def Dev.msixMessage (d : Dev) (v : Nat) : Out :=
  let e := nth d.host.pcie.table v (0, 0)
  .msix v e.1 e.2

/-- A vector is masked: by its own mask bit, or with all others by the Function Mask of MSI-X Message Control (R83). -/
def Dev.vecMasked (d : Dev) (v : Nat) : Bool := natBit d.host.pcie.msixCtl 0 || nth d.host.vecMask v true

/-- A vector's message leaves, the shadow page first (R61). -/
def Dev.sendMessage (d : Dev) (v : Nat) : Dev :=
  let d1 := d.freshShadow
  d1.emit (d1.msixMessage v)

/-- Sends a vector's message, or sets its Pending Bit while it is masked. -/
def Dev.sendVector (d : Dev) (v : Nat) : Dev :=
  if d.vecMasked v then { d with host.pba := setAt d.host.pba v true } else d.sendMessage v

/-- Signals an interrupt cause: its message, its HIF_ISR bit; the pending count returns to 0. -/
def Dev.signal (d : Dev) (c : Nat) : Dev :=
  let d2 := d.sendVector (d.get (HIF_VEC_VECTOR c))
  let d3 := d2.set HIF_ISR_CAUSE (natSetBit (d2.get HIF_ISR_CAUSE) c true)
  { d3 with host.items := setAt d3.host.items c (0, 0) }

/-- Counts an item of a cause (R83): nothing while the cause is disabled; causes 2 to 5 signal on each item, the others
wait for their threshold. -/
def Dev.raise (d : Dev) (c : Nat) : Dev :=
  if !d.getb (HIF_VEC_EN c) then d
  else if 2 ≤ c then d.signal c
  else
    let it := nth d.host.items c (0, 0)
    let first := if it.1 = 0 then d.ticks else it.2
    { d with host.items := setAt d.host.items c (it.1 + 1, first) }

/-- A cause of a sender; a tile has none. -/
def Dev.raiseIf (st : Straps) (c : Nat) (d : Dev) : Dev := if isSender st then d.raise c else d

/-! Completions (R68, R76). -/

/-- A completion is generated; it waits to be posted in the order of generation. -/
def Dev.complete (d : Dev) (c : Cpl) : Dev := { d with host.cpls := d.host.cpls ++ [c] }

/-! Free-running indices (R54) and sequence numbers. -/

/-- The distance from `a` to `b` modulo 2^32. -/
def dist32 (a b : Nat) : Nat := (b + 2 ^ 32 - a % 2 ^ 32) % 2 ^ 32

/-- Sequence number `a` precedes `b` (R371). -/
def precedes (a b : Nat) : Bool := 1 ≤ dist32 a b && dist32 a b < 2 ^ 31

end Sys2Proof.Machine
end

