-- ==== Sys2Proof/Machine/Nvm.lean ====
section
/-! DEFINITION. The eMRAM objects kept in two slots under commit records (spec/15_firmware_trust_update.md R338 to R340,
spec/14_calibration.md R327). -/

namespace Sys2Proof.Machine

/-- The object kinds of R340. Management firmware commits those from CAL on. -/
def NK_MFST : Nat := 1
def NK_MGMT : Nat := 2
def NK_UCODE : Nat := 3
def NK_CAL : Nat := 4
def NK_COEF : Nat := 5
def NK_SETTINGS : Nat := 6
def NK_SAFE : Nat := 7

/-- The two slots of an object kind. -/
def Dev.slots (d : Dev) (kind : Nat) : List NvmSlot :=
  match kind with
  | 4 => d.nvm.cal
  | 5 => d.nvm.coef
  | 6 => d.nvm.settings
  | 7 => d.nvm.safe
  | 1 => d.nvm.manifest
  | 2 => d.nvm.mgmt
  | 3 => d.nvm.ucode
  | _ => []

/-- The device with other slots of a kind. -/
def Dev.setSlots (d : Dev) (kind : Nat) (l : List NvmSlot) : Dev :=
  match kind with
  | 4 => { d with nvm.cal := l }
  | 5 => { d with nvm.coef := l }
  | 6 => { d with nvm.settings := l }
  | 7 => { d with nvm.safe := l }
  | 1 => { d with nvm.manifest := l }
  | 2 => { d with nvm.mgmt := l }
  | 3 => { d with nvm.ucode := l }
  | _ => d

/-- The area of a slot; of MGMT, slot 0 is the running image and slot 1 the staging area. -/
def slotArea (kind slot : Nat) : Option NvmArea :=
  let s : Fin 2 := if slot = 0 then 0 else 1
  match kind with
  | 4 => some (.cal s)
  | 5 => some (.coef s)
  | 6 => some (.settings s)
  | 7 => some (.safe s)
  | 1 => some (.manifest s)
  | 2 => some (if slot = 0 then .mgmtRunning else .mgmtStaging)
  | 3 => some (.ucode s)
  | _ => none

/-- Whether an area holds an uncorrectable byte under a length (R339). -/
def Dev.areaBad (d : Dev) (area : Option NvmArea) (length : Nat) : Bool :=
  d.nvm.bad.any fun e => some e.1 == area && decide (e.2 < length)

/-! Commit records (R340). -/

/-- The area of a slot's newest commit record, in the trusted store. -/
def commitArea (kind slot : Nat) : NvmArea := .commit (Fin.ofNat 8 kind) (if slot = 0 then 0 else 1)

/-- The 60 bytes of a commit record before its CRC: MAGIC, OBJECT, SLOT, SEQ, LENGTH and the object's SHA-256 (log entry
114). -/
def recordBody (kind slot seq length : Nat) (hash : List Byte) : List Byte :=
  leBytes 0x43524D4F 4 ++ leBytes kind 4 ++ leBytes slot 4 ++ leBytes seq 4 ++ leBytes length 4 ++ slice hash 0 32 ++ zeros 8

/-- The 64-byte commit record: its CRC-32C stands last. -/
def recordBytes (kind slot seq length : Nat) (hash : List Byte) : List Byte :=
  let b := recordBody kind slot seq length hash
  b ++ leBytes (crc32c b) 4

/-- A commit record is one of a slot, and its CRC matches. -/
def recordOk (kind slot : Nat) (r : List Byte) : Bool :=
  r.length == 64 && leAt r 0 4 == 0x43524D4F && leAt r 4 4 == kind && leAt r 8 4 == slot &&
  leAt r 60 4 == crc32c (r.take 60)

/-- SEQ, LENGTH and the SHA-256 of a commit record. -/
def recordSeq (r : List Byte) : Nat := leAt r 12 4
def recordLength (r : List Byte) : Nat := leAt r 16 4
def recordHash (r : List Byte) : List Byte := slice r 20 32

/-- The commit record by which a slot stands: the newest whose CRC matches. A torn one fails, and the slot stands as it did
before the write. -/
def Dev.slotRecord (d : Dev) (kind slot : Nat) : Option (List Byte) :=
  let s := nth (d.slots kind) slot NvmSlot.empty
  if recordOk kind slot s.commit && !d.areaBad (some (commitArea kind slot)) 64 then some s.commit
  else if recordOk kind slot s.prior then some s.prior
  else none

/-- Whether a slot is committed: the SHA-256 of its record matches the object, which holds no uncorrectable word (R339,
R340). -/
def Dev.slotValid (d : Dev) (kind slot : Nat) : Bool :=
  match d.slotRecord kind slot with
  | none => false
  | some r =>
    let b := (nth (d.slots kind) slot NvmSlot.empty).bytes
    decide (recordLength r ≤ b.length) && !d.areaBad (slotArea kind slot) (recordLength r) &&
    recordHash r == sha256 (b.take (recordLength r))

/-- SEQ of a slot's commit record; 0 when the slot is empty or fails to verify. -/
def Dev.slotSeq (d : Dev) (kind slot : Nat) : Nat :=
  if d.slotValid kind slot then ((d.slotRecord kind slot).map recordSeq).getD 0 else 0

/-- The committed object of a slot, empty when the slot is not committed. -/
def Dev.slotObject (d : Dev) (kind slot : Nat) : List Byte :=
  if d.slotValid kind slot then
    (nth (d.slots kind) slot NvmSlot.empty).bytes.take (((d.slotRecord kind slot).map recordLength).getD 0)
  else []

/-- The slot in force: the committed one with the higher SEQ. -/
def Dev.inForce (d : Dev) (kind : Nat) : Option Nat :=
  let a := d.slotValid kind 0
  let b := d.slotValid kind 1
  if a && b then some (if d.slotSeq kind 0 < d.slotSeq kind 1 then 1 else 0)
  else if a then some 0
  else if b then some 1
  else none

/-- The object in force, empty when there is none. -/
def Dev.objectInForce (d : Dev) (kind : Nat) : List Byte :=
  match d.inForce kind with
  | some s => d.slotObject kind s
  | none => []

/-- The slot that a new object is written into: the one not in force (R340). -/
def Dev.spareSlot (d : Dev) (kind : Nat) : Nat :=
  match d.inForce kind with
  | some 0 => 1
  | _ => 0

/-- Whether a write that is to be committed fails in the eMRAM, which the spec does not say of any write: a free choice (log
entry 51). -/
def Dev.writeFails (d : Dev) : Bool × Dev :=
  let r := d.draw 2
  (r.1 == 1, r.2)

/-- A write to the eMRAM is counted in the trusted store (R413). -/
def Dev.countWrite (d : Dev) : Dev := { d with nvm.trusted.writes := d.nvm.trusted.writes + 1 }

/-- The uncorrectable words of an area go when it is written whole. -/
def Dev.clearBad (d : Dev) (area : Option NvmArea) : Dev :=
  { d with nvm.bad := d.nvm.bad.filter fun e => some e.1 != area }

/-- The uncorrectable words that a write touches go with it: each is written again. -/
def Dev.clearBadIn (d : Dev) (area : Option NvmArea) (off n : Nat) : Dev :=
  { d with nvm.bad := d.nvm.bad.filter fun e => !(some e.1 == area && decide (off ≤ e.2 + 7) && decide (e.2 < off + n)) }

/-- The eMRAM is read: how many of the words read hold one wrong bit is not for the spec to say, and a free choice; each is
corrected and counted (R339, log entry 51). -/
def Dev.nvmRead (d : Dev) : Dev :=
  let r := d.draw 65536
  r.2.addSat NVM_STAT_CE r.1

/-- An object is written whole into a slot. What the slot held before is gone, since its record no longer matches. -/
def Dev.writeSlot (d : Dev) (kind slot : Nat) (bytes : List Byte) : Dev :=
  ((d.setSlots kind (modAt (d.slots kind) slot fun s => { s with bytes := bytes, written := 0 })).clearBad
    (slotArea kind slot)).countWrite

/-- The bytes of a slot that a commit takes: what has been written since the last one, or the object as it stands. -/
def NvmSlot.object (s : NvmSlot) : List Byte := if s.written = 0 then s.bytes else s.bytes.take s.written

/-- A slot's commit record is written; the record before it is kept until the next (R340). -/
def Dev.commitSlot (d : Dev) (kind slot seq : Nat) : Dev :=
  ((d.setSlots kind (modAt (d.slots kind) slot fun s =>
    { s with
      written := 0
      commit := recordBytes kind slot (seq % 2 ^ 32) s.object.length (sha256 s.object)
      prior := s.commit })).clearBad (some (commitArea kind slot))).countWrite

/-- How far the loader had come when it was cut short by a reset is a free choice: chunk and copy, as its
journal has them (R357, R363, log entry 123). -/
def Dev.cutLoader (d : Dev) : Dev :=
  match d.nvm.trusted.journal with
  | none => d
  | some _ =>
    let r := d.draw 36
    { r.2 with nvm.trusted.journal := some (r.1 / 3, r.1 % 3) }

/-- One more than the higher SEQ of the two slots. -/
def Dev.nextSeq (d : Dev) (kind : Nat) : Nat := max (d.slotSeq kind 0) (d.slotSeq kind 1) + 1

/-- A new object becomes the one in force: written whole to the spare slot, its commit record last. -/
def Dev.commitObject (d : Dev) (kind : Nat) (bytes : List Byte) : Dev :=
  let s := d.spareSlot kind
  let q := d.nextSeq kind
  (d.writeSlot kind s bytes).commitSlot kind s q

end Sys2Proof.Machine
end

