-- ==== Sys2Proof/Machine/Geometry.lean ====
section
/-! DEFINITION. Footprints, the placement of layers, and the read sets that both roles derive from them
(spec/08_composition.md R211 to R213, R217, R218, R220). -/

namespace Sys2Proof.Machine

/-- A footprint (R211, R226). -/
structure Footprint where
  x : Nat
  y : Nat
  en : Bool
  mono : Bool
  rot : Nat
  mirror : Bool
  deriving DecidableEq, Repr

/-- A footprint from its two register words. -/
def footprintOf (w0 w1 : Word) : Footprint :=
  { x := fieldOf w0 0 14, y := fieldOf w0 16 14, en := fieldOf w1 0 1 == 1, mono := fieldOf w1 1 1 == 1,
    rot := fieldOf w1 2 2, mirror := fieldOf w1 4 1 == 1 }

/-- AT of a footprint change. -/
def Dev.fpAt (d : Dev) : Nat := d.timeOf CMP_FP_AT_NS_NS CMP_FP_AT_SL_S CMP_FP_AT_SH_S

/-- Whether the NEXT footprint is the one in force for a present time (R213). -/
def Dev.fpNext (d : Dev) (present : Nat) : Bool := d.getb CMP_FP_ARM_PEND && decide (d.fpAt ≤ present)

/-- The words of a tile's footprint in force for a present time. -/
def Dev.footWords (d : Dev) (present : Nat) : Word × Word :=
  if d.fpNext present then (d.rd CMP_FP_NEXT0, d.rd CMP_FP_NEXT1) else (d.rd CMP_FP_CUR0, d.rd CMP_FP_CUR1)

/-- A tile's footprint in force for a present time. -/
def Dev.footprintFor (d : Dev) (present : Nat) : Footprint :=
  footprintOf (d.footWords present).1 (d.footWords present).2

/-- The footprint of a frame: the one in force for its present time, fixed at its compose deadline (R230). -/
def Dev.frameFp (d : Dev) (f : TileFrame) : Footprint :=
  if f.judged then footprintOf f.foot.1 f.foot.2 else d.footprintFor f.present

/-- A sender's map entry in force for a position of a port and a present time. -/
def Dev.mapFor (d : Dev) (x q present : Nat) : Footprint :=
  if d.fpNext present then footprintOf (d.rd (CMP_FM_NEXT0 x q)) (d.rd (CMP_FM_NEXT1 x q))
  else footprintOf (d.rd (CMP_FM_CUR0 x q)) (d.rd (CMP_FM_CUR1 x q))

/-- Wp, the width of the physical pixel grid. -/
def Footprint.wp (f : Footprint) : Nat := if f.mono then 384 else 128

/-- Width and height of the canvas extent (R211). -/
def Footprint.extent (f : Footprint) : Nat × Nat := if f.rot % 2 = 0 then (f.wp, 128) else (128, f.wp)

/-- The canvas pixel that physical pixel (px, py) shows (R211). -/
def Footprint.canvas (f : Footprint) (px py : Nat) : Nat × Nat :=
  let m := if f.mirror then f.wp - 1 - px else px
  match f.rot with
  | 0 => (f.x + m, f.y + py)
  | 1 => (f.x + (127 - py), f.y + m)
  | 2 => (f.x + (f.wp - 1 - m), f.y + (127 - py))
  | _ => (f.x + py, f.y + (f.wp - 1 - m))

/-! Rectangles, as half-open ranges of integers. -/

/-- A rectangle: columns x0 to x1 − 1, rows y0 to y1 − 1. -/
structure Rect where
  x0 : Int
  x1 : Int
  y0 : Int
  y1 : Int
  deriving DecidableEq, Repr

def Rect.inter (a b : Rect) : Rect :=
  { x0 := max a.x0 b.x0, x1 := min a.x1 b.x1, y0 := max a.y0 b.y0, y1 := min a.y1 b.y1 }

def Rect.nonempty (r : Rect) : Bool := decide (r.x0 < r.x1) && decide (r.y0 < r.y1)

def Rect.has (r : Rect) (x y : Int) : Bool :=
  decide (r.x0 ≤ x) && decide (x < r.x1) && decide (r.y0 ≤ y) && decide (y < r.y1)

/-- The canvas of a mode. -/
def canvasRect (mode : Nat) : Rect :=
  { x0 := 0, x1 := (canvasSize mode).1, y0 := 0, y1 := (canvasSize mode).2 }

/-- The canvas extent of a footprint. -/
def Footprint.rect (f : Footprint) : Rect :=
  { x0 := f.x, x1 := f.x + f.extent.1, y0 := f.y, y1 := f.y + f.extent.2 }

/-- The destination rectangle of a layer. -/
def Layer.rect (l : Layer) : Rect :=
  { x0 := l.dstX, x1 := l.dstX + l.dstW, y0 := l.dstY, y1 := l.dstY + l.dstH }

/-- The part of a layer, clipped to the canvas, that a footprint shows. -/
def layerPart (mode : Nat) (f : Footprint) (l : Layer) : Rect := (l.rect.inter (canvasRect mode)).inter f.rect

/-- Whether a layer's clipped destination meets an enabled footprint (R103, R212). -/
def layerMeets (mode : Nat) (f : Footprint) (l : Layer) : Bool := f.en && (layerPart mode f l).nonempty

/-! Positions, filter sets and read ranges (R217, R218, R220). -/

/-- The colour encoding, reserved ones as 0 (R218). -/
def Layer.encoding (l : Layer) : Nat := if natBits l.colour 0 4 ≤ 5 then natBits l.colour 0 4 else 0

/-- The filter set, reserved ones as 1 (R218). -/
def Layer.filter (l : Layer) : Nat :=
  let f := natBits l.colour 4 4
  if f ≤ 2 || f == 8 || f == 9 then f else 1

/-- LAYER_SUBST's P2: bit 0 the encoding, bit 1 the filter set was substituted. -/
def substBits (colour : Nat) : Nat :=
  b2n (decide (5 < natBits colour 0 4)) +
  2 * b2n (!(decide (natBits colour 4 4 ≤ 2) || natBits colour 4 4 == 8 || natBits colour 4 4 == 9))

/-- pos of R217. -/
def axisPos (x dst : Int) (src dw : Nat) : Int :=
  Int.fdiv (((2 * (x - dst) + 1) * src - dw) * 65536) (2 * dw)

/-- The first tap's offset h and the number of taps n of a filter set (R218). -/
def filterTaps (f : Nat) : Int × Nat :=
  match f with
  | 0 => (0, 1)
  | 1 => (0, 2)
  | 2 => (-1, 4)
  | _ => (-2, 6)

/-- The index of the first sample read for output position x on one axis, before clamping. -/
def firstRead (scaled : Bool) (f : Nat) (x dst : Int) (src dw : Nat) : Int :=
  if !scaled then x - dst
  else if f = 0 then rnd (axisPos x dst src dw) 16
  else shr (axisPos x dst src dw) 16 + (filterTaps f).1

/-- The least and the largest sample index read on one axis for output positions lo to hi, after clamping (R220). -/
def readRange (scaled : Bool) (f : Nat) (lo hi dst : Int) (src dw : Nat) : Nat × Nat :=
  let n : Int := if scaled then ((filterTaps f).2 : Int) - 1 else 0
  let clamp (v : Int) : Nat := (sat v 0 ((src : Int) - 1)).toNat
  (clamp (firstRead scaled f lo dst src dw), clamp (firstRead scaled f hi dst src dw + n))

/-- The read set of a layer at a footprint: columns and rows, each as a least and a largest index. -/
def readSet (mode : Nat) (f : Footprint) (l : Layer) : (Nat × Nat) × (Nat × Nat) :=
  let p := layerPart mode f l
  (readRange l.scaled l.filter p.x0 (p.x1 - 1) l.dstX l.srcW l.dstW,
   readRange l.scaled l.filter p.y0 (p.y1 - 1) l.dstY l.srcH l.dstH)

/-- S of check 8c (R220). -/
def lineSpan (mode : Nat) (f : Footprint) (l : Layer) : Nat :=
  let r := (readSet mode f l).1
  r.2 - r.1 + 1

/-- Whether a footprint needs block (bx, by) of a layer (R180, R220). Source steps are at most four rows (R102), so the
blocks of a read set have no gaps. -/
def needsBlock (mode : Nat) (f : Footprint) (l : Layer) (bx byy : Nat) : Bool :=
  let r := readSet mode f l
  layerMeets mode f l && decide (r.1.1 / 32 ≤ bx) && decide (bx ≤ r.1.2 / 32) && decide (r.2.1 / 8 ≤ byy) &&
  decide (byy ≤ r.2.2 / 8)

/-- The number of blocks of a layer that a footprint needs. -/
def blockCount (mode : Nat) (f : Footprint) (l : Layer) : Nat :=
  let r := readSet mode f l
  if layerMeets mode f l then (r.1.2 / 32 - r.1.1 / 32 + 1) * (r.2.2 / 8 - r.2.1 / 8 + 1) else 0

/-- The blocks of a layer that a footprint needs, by rows. -/
def blocksNeeded (mode : Nat) (f : Footprint) (l : Layer) : List (Nat × Nat) :=
  let r := readSet mode f l
  if layerMeets mode f l then
    (List.range (r.2.2 / 8 - r.2.1 / 8 + 1)).flatMap fun j =>
      (List.range (r.1.2 / 32 - r.1.1 / 32 + 1)).map fun i => (r.1.1 / 32 + i, r.2.1 / 8 + j)
  else []

end Sys2Proof.Machine
end

