-- ==== Sys2Proof/Machine/Manifest.lean ====
section
/-! DEFINITION. Manifests as they stand in eMRAM: their fields and entries, the one in force and the other
(spec/15_firmware_trust_update.md R338, R348). -/

namespace Sys2Proof.Machine

/-- An entry of a manifest. -/
structure MEntry where
  kind : Nat
  version : Nat
  length : Nat
  /-- TARGET_HASH, or the schema versions. -/
  target : List Byte
  hashes : List (List Byte)
  /-- Bytes 0 to 47 of the entry, and its endorsement. -/
  signed : List Byte
  endorsement : List Byte
  /-- The bytes that the entry takes. -/
  size : Nat
  deriving DecidableEq, Repr

/-- The entry at the start of a byte list. -/
def entryOf (b : List Byte) : MEntry :=
  let chunks := byteAt b 1
  let elen := if byteAt b 0 = 3 then leAt b 48 4 else 0
  { kind := byteAt b 0, version := leAt b 4 4, length := leAt b 8 4, target := slice b 16 32,
    hashes := (List.range chunks).map fun k => slice b (64 + 32 * k) 32, signed := b.take 48,
    endorsement := (b.drop (64 + 32 * chunks)).take elen, size := 64 + 32 * chunks + elen }

/-- `n` entries in a row. -/
def entriesOf : Nat → List Byte → List MEntry
  | 0, _ => []
  | n + 1, b =>
    let e := entryOf b
    e :: entriesOf n (b.drop e.size)

/-- The entries of a manifest. -/
def mfstEntries (m : List Byte) : List MEntry := entriesOf (byteAt m 7) (m.drop 64)

/-- KEYSLOT, RELEASE, SVN, SVN_FLOOR and LENGTH. -/
def mfstKeyslot (m : List Byte) : Nat := byteAt m 6
def mfstRelease (m : List Byte) : Nat := leAt m 8 4
def mfstSvn (m : List Byte) : Nat := leAt m 12 2
def mfstFloor (m : List Byte) : Nat := leAt m 14 2
def mfstLength (m : List Byte) : Nat := leAt m 16 4

/-- The kind of management image of the role. -/
def mgmtKind (st : Straps) : Nat := if isTile st then 1 else 2

/-- The entry of a kind. -/
def mfstEntry (m : List Byte) (kind : Nat) : Option MEntry := (mfstEntries m).find? fun e => e.kind == kind

/-- The manifest slot not in force. -/
def Dev.otherMfst (d : Dev) : Nat := 1 - d.nvm.trusted.manifest

/-- The manifest in force. -/
def Dev.mfstInForce (d : Dev) : List Byte := d.slotObject 1 d.nvm.trusted.manifest

/-- The device runs the management image that a manifest names for its role. -/
def Dev.mgmtSame (st : Straps) (m : List Byte) (d : Dev) : Bool :=
  match mfstEntry m (mgmtKind st), mfstEntry d.mfstInForce (mgmtKind st) with
  | some a, some b => a.target == b.target && a.length == b.length
  | _, _ => false

end Sys2Proof.Machine
end

