-- ==== Sys2Proof/Machine/Parity.lean ====
section
/-! DEFINITION. Memory parity: the bytes that stand with inverted parity, injection, and the log
(spec/02_self_timed_fabric.md R44 to R46, R470). -/

namespace Sys2Proof.Machine

/-- The number of bytes of a unit from which an offset is drawn: 64 KiB for an engine; for the others the spec gives no
size, so any offset that FAB_PERR_ADDR can show. -/
def unitBytes (mem : Nat) : Nat := if mem = 0 then 65536 else 2 ^ 32

/-- Bytes written again stand with the right parity. -/
def Dev.memRewrite (p : BadByte → Bool) (d : Dev) : Dev :=
  { d with parity.bad := d.parity.bad.filter fun b => !p b }

/-- A write to a memory unit consumes an injection armed for it: the lowest byte that it covers, which holds a part of
`item`, stands with inverted parity. Where that byte lies in the unit is not stated: a free choice (log entry 99). -/
def Dev.memInject (mem unit : Nat) (item : SramItem) (d : Dev) : Dev :=
  if d.parity.armed == some (mem, unit) then
    let r := d.draw (unitBytes mem)
    { r.2 with parity := { armed := none, bad := { mem := mem, unit := unit, offset := r.1, item := item } :: r.2.parity.bad } }
  else d

/-- An item of a unit is written. -/
def Dev.memWrite (mem unit : Nat) (item : SramItem) (d : Dev) : Dev :=
  (d.memRewrite fun b => b.mem == mem && b.unit == unit && b.item == item).memInject mem unit item

/-- An item of each of the first `n` units of a memory is written. -/
def Dev.memWriteAll (mem n : Nat) (item : SramItem) (d : Dev) : Dev := d.each (List.range n) fun d u => d.memWrite mem u item

/-- Work writes in the first `n` units of a memory content that the model does not follow. -/
def Dev.memWrites (mem n : Nat) (d : Dev) : Dev := d.memWriteAll mem n .other

/-- The number of engines. -/
def engineCount : Nat := 192

/-- Work of the engines: it writes their memory, and FAB_RATE counts its frame period (R46). Which engines a piece of work
takes is not stated: all of them (log entry 19). -/
def Dev.enginesWork (d : Dev) : Dev := { d with tile.worked := true }.memWrites 0 engineCount

/-- MC0 reloads an engine after a parity error in its memory (R45). -/
def Dev.reloadEngine (unit : Nat) (d : Dev) : Dev := { d with tile.reload := unit :: d.tile.reload.erase unit }

/-- What the bytes of a BLOCK packet hold in the block buffer: its block (R160). -/
def pktItem (p : List Byte) : SramItem :=
  let b := pktBody p
  .block (pktFrame p) (natBits (byteAt b 8) 0 4) (leAt b 10 2) (leAt b 12 2)

/-- The bytes that a read of items of a memory finds wrong. -/
def Dev.badBytes (d : Dev) (mem : Nat) (p : SramItem → Bool) : List BadByte :=
  d.parity.bad.filter fun b => b.mem == mem && p b.item

/-- The bytes that work of the engines finds wrong in their memory: it reads its microcode and coefficients, and what it has
written (log entry 99). -/
def Dev.engineFinds (d : Dev) : List BadByte := d.badBytes 0 fun _ => true

/-- The log, the count and the event of an error (R45). FAB_PERR_CNT wraps past 2^32 − 1, which the spec does not say
(log entry 100). A byte that has been found is not read again before it is written (log entry 99). -/
def Dev.logParity (st : Straps) (mem unit offset : Nat) (d : Dev) : Dev :=
  let d1 := (d.memRewrite fun b => b.mem == mem && b.unit == unit && b.offset == offset).add FAB_PERR_CNT_COUNT 1
  let d2 := if d.getb FAB_PERR_LOG_VALID then d1
    else d1.setAll [(FAB_PERR_LOG_MEM, mem), (FAB_PERR_LOG_UNIT, unit), (FAB_PERR_LOG_VALID, 1),
      (FAB_PERR_ADDR_OFFSET, offset)]
  d2.event st EV_FAB_PARITY mem unit offset

/-- Logs every byte that a read has found. -/
def Dev.logFound (st : Straps) (l : List BadByte) (d : Dev) : Dev :=
  d.each l fun d b => d.logParity st b.mem b.unit b.offset

/-- FAB_RATE of the frame period that ends: 0 when no engine had work in it, otherwise a measurement, which the spec gives
no value (R46). -/
def Dev.noteRate (d : Dev) : Dev :=
  if d.tile.worked then
    let a := d.draw 65536
    let b := a.2.draw engineCount
    { b.2 with tile.worked := false }.setAll [(FAB_RATE_AVG, a.1), (FAB_RATE_SLOW_PE, b.1)]
  else d.setAll [(FAB_RATE_AVG, 0), (FAB_RATE_SLOW_PE, 0)]

end Sys2Proof.Machine
end

