-- ==== Sys2Proof/Machine/Pbs.lean ====
section
/-! DEFINITION. Surfaces and the Packed Block Surface: reading pixels of raw surfaces, packing a block, block headers and
decoding a block (spec/04_layers_surfaces_modes.md R87 to R96). A block's samples are a list of 1,024 values in raster
order of its pixels, C0, C1, C2 and A of each. -/

namespace Sys2Proof.Machine

/-! Widening (R88). -/

def widen8 (v : Nat) : Nat := (v * 16) ||| (v / 16)
def widen10 (v : Nat) : Nat := (v * 4) ||| (v / 256)
def widen16 (v : Nat) : Nat := (sat (rnd v 4) 0 4095).toNat
def widen2 (v : Nat) : Nat := v * 1365

/-! Raw surfaces (R87, R89). -/

/-- A surface format of R87. -/
def formatKnown (f : Nat) : Bool := (decide (1 ≤ f) && decide (f ≤ 5)) || f == 0x10

/-- A Packed Block Surface. -/
def isPbs (f : Nat) : Bool := f == 0x10

/-- Bytes of one row of a raw surface. -/
def rowBytes (f w : Nat) : Nat :=
  match f with
  | 3 => 8 * w
  | 4 => 5 * ((w + 1) / 2)
  | _ => 4 * w

/-- The four channels of pixel (x, y) of a raw surface whose bytes begin at its ADDR (R88, R89). -/
def rawPixel (f pitch : Nat) (s : List Byte) (x y : Nat) : List Nat :=
  let row := y * pitch
  match f with
  | 1 =>
    let p := row + 4 * x
    [widen8 (byteAt s p), widen8 (byteAt s (p + 1)), widen8 (byteAt s (p + 2)), widen8 (byteAt s (p + 3))]
  | 2 =>
    let w := leAt s (row + 4 * x) 4
    [widen10 (natBits w 0 10), widen10 (natBits w 10 10), widen10 (natBits w 20 10), widen2 (natBits w 30 2)]
  | 3 =>
    let p := row + 8 * x
    [widen16 (leAt s p 2), widen16 (leAt s (p + 2) 2), widen16 (leAt s (p + 4) 2), widen16 (leAt s (p + 6) 2)]
  | 4 =>
    let w := leAt s (row + 5 * (x / 2)) 5
    let yv := if x % 2 = 0 then natBits w 0 10 else natBits w 20 10
    [widen10 yv, widen10 (natBits w 10 10), widen10 (natBits w 30 10), 4095]
  | _ =>
    let w := leAt s (row + 4 * x) 4
    [widen10 (natBits w 0 10), widen10 (natBits w 10 10), widen10 (natBits w 20 10), 4095]

/-- The samples of block (bx, by) of a raw surface, with the fill of R94. -/
def rawBlock (f pitch w h : Nat) (s : List Byte) (bx byy : Nat) : List Nat :=
  (List.range 256).flatMap fun i =>
    rawPixel f pitch s (min (32 * bx + i % 32) (w - 1)) (min (8 * byy + i / 32) (h - 1))

/-! Block headers (R90, R91, R96). -/

/-- Blocks in a row, and rows of blocks, of a surface. -/
def blocksWide (w : Nat) : Nat := (w + 31) / 32
def blocksHigh (h : Nat) : Nat := (h + 7) / 8

def bhMode (b : Nat) : Nat := natBits b 0 2
def bhUnits (b : Nat) : Nat := if bhMode b == 1 then 0 else natBits b 4 5
def bhOffset (b : Nat) : Nat := natBits b 32 32
/-- The Rice parameter of a channel. -/
def bhK (b c : Nat) : Nat := natBits b (16 + 4 * c) 4

/-- Whether a header fails conditions 1 to 4 of R96; `units` is PAYLOAD_UNITS of a host-supplied surface. -/
def headerBad (units b : Nat) : Bool :=
  bhMode b == 3 || (bhMode b == 0 && natBits b 4 5 != 24) ||
  (bhMode b == 2 && (natBits b 4 5 == 0 || decide (24 < natBits b 4 5))) ||
  (bhMode b != 1 && decide (units < bhOffset b + natBits b 4 5))

/-! Prediction (R93). -/

/-- The median of R93. -/
def median (a b g : Int) : Int := max (min a b) (min (max a b) g)

/-- The prediction of sample number `i` from the samples before it, newest first; used for every sample of a pixel but
the first. -/
def predictAt (i : Nat) (past : List Nat) : Int :=
  let x := i / 4 % 32
  let y := i / 128
  let left : Int := past.getD 3 0
  let up : Int := past.getD 127 0
  if y = 0 then left
  else if x = 0 then up
  else median left up (left + up - (past.getD 131 0 : Nat))

/-- m of a sample: the zigzag of its prediction error. -/
def zigzag (v : Nat) (pred : Int) : Nat :=
  let dm := ((v : Int) - pred) % 4096
  (if dm < 2048 then 2 * dm else 2 * (4096 - dm) - 1).toNat

/-- Bits of the code of m under parameter k. -/
def codeLen (k m : Nat) : Nat := if m / 2 ^ k < 16 then m / 2 ^ k + 1 + k else 28

/-- The `w` low bits of a number, most significant first. -/
def bitsOf (v : Nat) : Nat → List Bool
  | 0 => []
  | w + 1 => natBit v w :: bitsOf v w

/-- The code of m under parameter k. -/
def codeBits (k m : Nat) : List Bool :=
  if m / 2 ^ k < 16 then List.replicate (m / 2 ^ k) true ++ [false] ++ bitsOf m k
  else List.replicate 16 true ++ bitsOf m 12

/-- The m values of the samples from number `i` on, beside their channels; a first sample gives its value. -/
def mValues : Nat → List Nat → List Nat → List (Nat × Nat)
  | _, _, [] => []
  | i, past, v :: vs =>
    (i % 4, if i < 4 then v else zigzag v (predictAt i past)) :: mValues (i + 1) (v :: past) vs

/-- Bits that a channel's codes take under k. -/
def channelLen (c k : Nat) (ms : List (Nat × Nat)) : Nat :=
  ((ms.filter fun m => m.1 == c).map fun m => codeLen k m.2).sum

/-- The k that gives a channel the fewest bits, the lowest on a tie (R95). -/
def bestK (c : Nat) (ms : List (Nat × Nat)) : Nat :=
  (List.range 16).foldl (fun b k => if channelLen c k ms < channelLen c b ms then k else b) 0

/-- Bits to bytes, most significant bit first, padded with 0. -/
def packBits (l : List Bool) : List Byte :=
  (List.range ((l.length + 7) / 8)).map fun n =>
    BitVec.ofNat 8 ((List.range 8).foldl (fun a b => 2 * a + b2n (l.getD (8 * n + b) false)) 0)

/-- The RAW payload (R92). -/
def rawPayload (samples : List Nat) : List Byte :=
  (List.range 256).flatMap fun p =>
    leBytes (samples.getD (4 * p) 0 + 2 ^ 12 * samples.getD (4 * p + 1) 0 + 2 ^ 24 * samples.getD (4 * p + 2) 0 +
      2 ^ 36 * samples.getD (4 * p + 3) 0) 6

/-- Whether all 256 pixels are equal. -/
def isConstant (samples : List Nat) : Bool :=
  (List.range 1024).all fun i => samples.getD i 0 == samples.getD (i % 4) 0

/-- A block packed by the sender: its header, with OFFSET 0, and its payload (R95). -/
def packBlock (samples : List Nat) : Nat × List Byte :=
  let ms := mValues 0 [] samples
  let rest := ms.drop 4
  if isConstant samples then
    (1 + 2 ^ 4 * samples.getD 0 0 + 2 ^ 16 * samples.getD 1 0 + 2 ^ 28 * samples.getD 2 0 +
      2 ^ 40 * samples.getD 3 0, [])
  else
    let ks := [0, 1, 2, 3].map fun c => bestK c rest
    let bits := (ms.take 4).flatMap (fun m => bitsOf m.2 12) ++ rest.flatMap fun m => codeBits (ks.getD m.1 0) m.2
    if 12288 < bits.length then (2 ^ 4 * 24, rawPayload samples)
    else
      let units := (bits.length + 511) / 512
      (2 + 2 ^ 4 * units + 2 ^ 16 * (ks.getD 0 0 + 16 * ks.getD 1 0 + 256 * ks.getD 2 0 + 4096 * ks.getD 3 0),
        padTo (64 * units) (packBits bits))

/-! Decoding (R92, R93). -/

/-- Leading one-bits, at most `n`, and the stream after them; the zero that ends fewer than 16 is taken too. -/
def unary : Nat → List Bool → Option (Nat × List Bool)
  | 0, l => some (0, l)
  | _, [] => none
  | _, false :: l => some (0, l)
  | n + 1, true :: l => (unary n l).map fun r => (r.1 + 1, r.2)

/-- The next `n` bits as a number, when the stream holds them. -/
def takeBits (n : Nat) (l : List Bool) : Option (Nat × List Bool) :=
  if l.length < n then none
  else some ((l.take n).foldl (fun a b => 2 * a + b2n b) 0, l.drop n)

/-- The next m of a stream. -/
def readCode (k : Nat) (l : List Bool) : Option (Nat × List Bool) :=
  match unary 16 l with
  | none => none
  | some (q, rest) =>
    if q = 16 then takeBits 12 rest
    else (takeBits k rest).map fun r => (q * 2 ^ k + r.1, r.2)

/-- The sample of an m and its prediction. -/
def unzigzag (m : Nat) (pred : Int) : Nat :=
  let e : Int := if m % 2 = 0 then ((m / 2 : Nat) : Int) else -(((m + 1) / 2 : Nat) : Int)
  ((pred + e) % 4096).toNat

/-- The samples of a PREDICT stream, newest first; `none` when the stream is too short (condition 5 of R96). -/
def decodeFrom (hdr : Nat) : Nat → Nat → List Nat → List Bool → Option (List Nat)
  | 0, _, past, _ => some past
  | n + 1, i, past, l =>
    match (if i < 4 then takeBits 12 l else readCode (bhK hdr (i % 4)) l) with
    | none => none
    | some (m, rest) => decodeFrom hdr n (i + 1) ((if i < 4 then m else unzigzag m (predictAt i past)) :: past) rest

/-- The samples of a block from its header and payload; `none` when it fails condition 5 of R96. -/
def decodeBlock (hdr : Nat) (payload : List Byte) : Option (List Nat) :=
  match bhMode hdr with
  | 1 =>
    let px := [natBits hdr 4 12, natBits hdr 16 12, natBits hdr 28 12, natBits hdr 40 12]
    some ((List.replicate 256 px).flatten)
  | 0 =>
    some ((List.range 256).flatMap fun p =>
      let w := leAt payload (6 * p) 6
      [natBits w 0 12, natBits w 12 12, natBits w 24 12, natBits w 36 12])
  | _ =>
    (decodeFrom hdr 1024 0 [] ((payload.take (64 * bhUnits hdr)).flatMap fun b => bitsOf b.toNat 8)).map List.reverse

end Sys2Proof.Machine
end

