-- ==== Sys2Proof/Machine/Fec.lean ====
section
/-! DEFINITION. The RS(544,514) code over GF(2^10) with x^10 + x^3 + 1 (spec/05_chain_lanes.md R120): the field, the
encoder, and the decoder that corrects up to 15 symbols. A polynomial is a list of coefficients, lowest power first; a
codeword is a list of symbols, highest power first. -/

namespace Sys2Proof.Machine

/-! The field. -/

/-- Multiplication by x: the term of power 10 is replaced by x^3 + 1. -/
def gfX (a : Nat) : Nat := (2 * a) ^^^ (0x409 * (a / 512))

/-- The product, over the low `n` bits of `b`. -/
def gfMulN : Nat → Nat → Nat → Nat
  | 0, _, _ => 0
  | n + 1, a, b => (b % 2 * a) ^^^ gfMulN n (gfX a) (b / 2)

/-- The product. -/
def gfMul (a b : Nat) : Nat := gfMulN 10 a b

/-- α^j, with α = x. -/
def gfPow : Nat → Nat
  | 0 => 1
  | j + 1 => gfX (gfPow j)

/-- The inverse: a^1022, as the product of the squares a^2, a^4 to a^512. -/
def gfInv (a : Nat) : Nat :=
  ((List.range 9).foldl (fun s _ => let q := gfMul s.1 s.1; (q, gfMul s.2 q)) (a, 1)).2

/-! Polynomials. -/

/-- The product of a polynomial with (x − c). -/
def polyTimes (c : Nat) (p : List Nat) : List Nat :=
  List.zipWith (· ^^^ ·) (0 :: p) (p.map (gfMul c) ++ [0])

/-- The value of a polynomial. -/
def polyEval (p : List Nat) (x : Nat) : Nat := p.foldr (fun c v => c ^^^ gfMul x v) 0

/-- The sum of two polynomials. -/
def polyAdd : List Nat → List Nat → List Nat
  | [], q => q
  | p, [] => p
  | a :: p, b :: q => (a ^^^ b) :: polyAdd p q

/-- Coefficient `k` of the product of two polynomials. -/
def polyMulAt (p q : List Nat) (k : Nat) : Nat :=
  (List.range (k + 1)).foldl (fun s i => s ^^^ gfMul (nth p i 0) (nth q (k - i) 0)) 0

/-- The formal derivative: in this field the odd powers alone leave a term. -/
def polyDeriv (p : List Nat) : List Nat :=
  (List.range (p.length - 1)).map fun i => if i % 2 = 0 then nth p (i + 1) 0 else 0

/-! The encoder. -/

/-- The generator: the product of (x − α^j) for j = 0 to `n` − 1. -/
def rsGen : Nat → List Nat
  | 0 => [1]
  | n + 1 => polyTimes (gfPow n) (rsGen n)

/-- The 30 coefficients of the generator under its leading 1, highest power first. -/
def rsTaps : List Nat := ((rsGen 30).take 30).reverse

/-- One message symbol enters the division; the register is held highest power first. -/
def rsStep (taps : List Nat) (reg : List Nat) (m : Nat) : List Nat :=
  let f := m ^^^ reg.headD 0
  List.zipWith (fun r t => r ^^^ gfMul t f) (reg.drop 1 ++ [0]) taps

/-- The 30 parity symbols of a message, x^29 first. -/
def rsParity (msg : List Nat) : List Nat := msg.foldl (rsStep rsTaps) (List.replicate 30 0)

/-! The decoder. -/

/-- The 30 syndromes of a received word: its values at α^0 to α^29. -/
def syndromes (w : List Nat) : List Nat :=
  (List.range 30).map fun j => let a := gfPow j; w.foldl (fun s c => gfMul a s ^^^ c) 0

/-- The search for the shortest recurrence that yields the syndromes: the locator so far and the one before its last
change, their length, the shift between them, and the discrepancy at that change. -/
structure LocatorSearch where
  loc : List Nat
  prev : List Nat
  len : Nat
  shift : Nat
  last : Nat

/-- Syndrome `n` enters the search. -/
def LocatorSearch.next (syn : List Nat) (s : LocatorSearch) (n : Nat) : LocatorSearch :=
  let gap := (List.range (s.len + 1)).foldl (fun g i => g ^^^ gfMul (nth s.loc i 0) (nth syn (n - i) 0)) 0
  if gap = 0 then { s with shift := s.shift + 1 }
  else
    let f := gfMul gap (gfInv s.last)
    let loc := polyAdd s.loc (List.replicate s.shift 0 ++ s.prev.map (gfMul f))
    if 2 * s.len ≤ n then { loc := loc, prev := s.loc, len := n + 1 - s.len, shift := 1, last := gap }
    else { s with loc := loc, shift := s.shift + 1 }

/-- The error locator and its number of errors. -/
def errorLocator (syn : List Nat) : List Nat × Nat :=
  let s := (List.range 30).foldl (LocatorSearch.next syn) { loc := [1], prev := [1], len := 0, shift := 1, last := 1 }
  (s.loc.take (s.len + 1), s.len)

/-- The value to add at the symbol of power `k`: 0 where the locator has no root. -/
def errorAt (loc deriv omega : List Nat) (k : Nat) : Nat :=
  let xInv := gfPow (1023 - k)
  if polyEval loc xInv ≠ 0 then 0
  else gfMul (gfMul (gfPow k) (polyEval omega xInv)) (gfInv (polyEval deriv xInv))

/-- A received word decoded: the codeword within 15 symbols of it and how many symbols were corrected, or `none`. -/
def rsDecode (w : List Nat) : Option (List Nat × Nat) :=
  let syn := syndromes w
  if syn.all (· == 0) then some (w, 0)
  else
    let l := errorLocator syn
    if 15 < l.2 then none
    else
      let deriv := polyDeriv l.1
      let omega := (List.range 30).map (polyMulAt syn l.1)
      let errs := (List.range 544).map fun j => errorAt l.1 deriv omega (543 - j)
      let fixed := List.zipWith (· ^^^ ·) w errs
      let n := (errs.filter (· != 0)).length
      if n ≤ 15 && (syndromes fixed).all (· == 0) then some (fixed, n) else none

end Sys2Proof.Machine
end

