-- ==== Sys2Proof/Machine/LineCode.lean ====
section
/-! DEFINITION. The line from the payload bits of a codeword to the line levels and back (spec/05_chain_lanes.md R119 to
R126, spec/06_chain_transport.md R151 to R153). -/

namespace Sys2Proof.Machine

/-- Symbols per codeword and per training frame. -/
def codewordSymbols : Nat := 2720

/-! The scrambler (R122). -/

/-- One bit through the scrambler. -/
def scrambleBit (s : BitVec 58) (d : Bool) : Bool × BitVec 58 :=
  let o := xor d (xor (s.getLsbD 38) (s.getLsbD 57))
  (o, (s <<< 1) ||| BitVec.ofNat 58 (b2n o))

/-- One bit through the descrambler. -/
def descrambleBit (s : BitVec 58) (r : Bool) : Bool × BitVec 58 :=
  (xor r (xor (s.getLsbD 38) (s.getLsbD 57)), (s <<< 1) ||| BitVec.ofNat 58 (b2n r))

/-- Bits through one of the two, in order. -/
def throughBits (f : BitVec 58 → Bool → Bool × BitVec 58) : BitVec 58 → List Bool → List Bool × BitVec 58
  | s, [] => ([], s)
  | s, d :: ds =>
    let r := f s d
    let t := throughBits f r.2 ds
    (r.1 :: t.1, t.2)

/-! Symbols, Gray mapping and precoding (R121, R122). -/

/-- A number from bits, most significant first. -/
def bitsNat (l : List Bool) : Nat := l.foldl (fun a b => 2 * a + b2n b) 0

/-- The low `w` bits of a number, most significant first. -/
def natToBits (v : Nat) : Nat → List Bool
  | 0 => []
  | w + 1 => natBit v w :: natToBits v w

/-- `n` ten-bit symbols from a bit list. -/
def symbolsOf : Nat → List Bool → List Nat
  | 0, _ => []
  | n + 1, l => bitsNat (l.take 10) :: symbolsOf n (l.drop 10)

/-- Gray mapping: 00 to 0, 01 to 1, 11 to 2, 10 to 3. -/
def gray (b1 b0 : Bool) : Nat :=
  match b1, b0 with
  | false, false => 0
  | false, true => 1
  | true, true => 2
  | true, false => 3

/-- The precoder: the next transmitted index from the Gray symbol and the previous index. -/
def precode (g prev : Nat) : Nat := (g + 4 - prev % 4) % 4

/-- Gray mapping taken back: the bit pair of a symbol. -/
def ungray (g : Nat) : List Bool :=
  match g with
  | 0 => [false, false]
  | 1 => [false, true]
  | 2 => [true, true]
  | _ => [true, false]

/-- receive(p) over sliced level indices, in order: the bits, and the receiver's precoder state (R122). -/
def receiveLevels : Nat → List Nat → List Bool × Nat
  | prev, [] => ([], prev)
  | prev, p :: ps =>
    let t := receiveLevels p ps
    (ungray ((p + prev) % 4) ++ t.1, t.2)

/-- A level index at the polarity that the receiver corrects for (R130). -/
def atPolarity (inverted : Bool) (p : Nat) : Nat := if inverted then 3 - p else p

/-- The line level of an index. -/
def level (p : Nat) : Int := 2 * (p : Int) - 3

/-- A bit stream to line levels; the answer holds the levels and the precoder's state. -/
def sendBits : Nat → List Bool → List Int × Nat
  | prev, b1 :: b0 :: rest =>
    let p := precode (gray b1 b0) prev
    let t := sendBits p rest
    (level p :: t.1, t.2)
  | prev, _ => ([], prev)

/-- A codeword's 5,140 payload bits through the transmitter of a lane: the line levels and the lane's next state. -/
def sendCodeword (l : LaneSt) (payload : List Bool) : List Int × LaneSt :=
  let s := throughBits scrambleBit l.txScr payload
  let msg := symbolsOf 514 s.1
  let bits := (msg ++ rsParity msg).flatMap fun m => natToBits m 10
  let r := sendBits l.txPrev bits
  (r.1, { l with txScr := s.2, txPrev := r.2 })

/-! The training sequence (R124, R125). -/

/-- SYNC. -/
def trainSync : Nat := 0xC6A1F25D

/-- One bit of the PRBS31. -/
def prbsBit (t : BitVec 31) : Bool × BitVec 31 :=
  let b := xor (t.getLsbD 30) (t.getLsbD 27)
  (b, (t <<< 1) ||| BitVec.ofNat 31 (b2n b))

/-- `n` bits of the PRBS31. -/
def prbsBits : Nat → BitVec 31 → List Bool × BitVec 31
  | 0, t => ([], t)
  | n + 1, t =>
    let r := prbsBit t
    let q := prbsBits n r.2
    (r.1 :: q.1, q.2)

/-- An INFO word with its CHK (R125). -/
def infoWord (rxlock : Bool) (laneid pmreq : Nat) (refdep ssc go : Bool) (cd : Nat) : Nat :=
  let i := b2n rxlock + 2 * laneid + 4 * pmreq + 16 * b2n refdep + 32 * b2n ssc + 64 * b2n go + 128 * cd
  i + 2 ^ 24 * markerChk i

/-- A training frame on one lane: the line levels and the lane's next state. -/
def sendTraining (l : LaneSt) (info : Nat) : List Int × LaneSt :=
  let marker := (natToBits trainSync 32 ++ natToBits info 32).map fun b => if b then (3 : Int) else -3
  let q := prbsBits 5312 l.prbs
  let r := sendBits 0 q.1
  (marker ++ r.1, { l with prbs := q.2, txPrev := r.2 })

/-- The INFO word of a marker that is valid: SYNC true or inverted, CHK right (R125). The flag says inverted. -/
def markerInfo (marker : BitVec 64) : Option (Nat × Bool) :=
  let m := marker.toNat
  let inv := 2 ^ 64 - 1 - m
  let ok (v : Nat) : Bool := v / 2 ^ 32 == trainSync && natBits v 24 8 == markerChk (v % 2 ^ 24)
  if ok m then some (m % 2 ^ 32, false) else if ok inv then some (inv % 2 ^ 32, true) else none

/-! The payload of a codeword (R123, R151, R153). -/

/-- The link control field of a codeword. -/
def linkField (rxlock : Bool) (pmreq : Nat) (refdep : Bool) (laneid pairseq : Nat) (cells : List (List Byte)) : Nat :=
  b2n rxlock + 2 * pmreq + 8 * b2n refdep + 16 * laneid + 32 * (pairseq % 8) +
  256 * ((List.range 10).map fun j => if cellValid (nth cells j idleCell) then 2 ^ j else 0).sum

/-- The payload bits of a codeword in sending order: the link control field, bit 19 first, then each byte of the ten
cells, most significant bit first. -/
def payloadBits (link : Nat) (cells : List (List Byte)) : List Bool :=
  natToBits link 20 ++ (List.range 10).flatMap fun j =>
    (List.range 64).flatMap fun b => natToBits (byteAt (nth cells j idleCell) b) 8

/-- A payload taken apart: the link control field and the ten cells. -/
def payloadSplit (bits : List Bool) : Nat × List (List Byte) :=
  let rec bytesOf : Nat → List Bool → List Byte
    | 0, _ => []
    | n + 1, l => BitVec.ofNat 8 (bitsNat (l.take 8)) :: bytesOf n (l.drop 8)
  let rec cellsOf : Nat → List Byte → List (List Byte)
    | 0, _ => []
    | n + 1, l => l.take 64 :: cellsOf n (l.drop 64)
  (bitsNat (bits.take 20), cellsOf 10 (bytesOf 640 (bits.drop 20)))

/-- The level indices of a codeword's 2,720 symbols: symbol k in bits 2k and 2k + 1. -/
def lineLevels (w : BitVec 5440) : List Nat := (List.range codewordSymbols).map fun k => natBits w.toNat (2 * k) 2

/-- The message symbols of the codeword that these level indices carry after `prev`, how many symbols were corrected, and
the precoder's state; no symbols when it fails to decode (R119, R120, R122). -/
def decodeLevels (prev : Nat) (levels : List Nat) : Option (List Nat × Nat) × Nat :=
  let r := receiveLevels prev levels
  ((rsDecode (symbolsOf 544 r.1)).map fun c => (c.1.take 514, c.2), r.2)

/-- A codeword off the line of a lane (R119): the payload and the number of symbols corrected, or `none` when it fails to
decode, and the lane's next state. -/
def receiveCodeword (l : LaneSt) (inverted : Bool) (w : BitVec 5440) :
    Option ((Nat × List (List Byte)) × Nat) × LaneSt :=
  let r := decodeLevels l.rxPrev ((lineLevels w).map (atPolarity inverted))
  match r.1 with
  | none => (none, { l with rxPrev := r.2 })
  | some c =>
    let s := throughBits descrambleBit l.rxScr (c.1.flatMap fun m => natToBits m 10)
    (some (payloadSplit s.1, c.2), { l with rxScr := s.2, rxPrev := r.2 })

/-! The hunt (R129). -/

/-- From symbol `o` of the line, at one polarity, `n` consecutive codewords decode. The symbol before the first of them is
line symbol `o`. -/
def codewordsAt (line : List Nat) (o : Nat) : Nat → Bool
  | 0 => true
  | n + 1 =>
    let w := (line.drop (o + 1)).take codewordSymbols
    w.length == codewordSymbols && (decodeLevels (nth line o 0) w).1.isSome && codewordsAt line (o + codewordSymbols) n

/-- The first symbol offset and polarity at which 4 consecutive codewords decode (R129). -/
def huntLine (line : List Nat) : Option (Nat × Bool) :=
  ((List.range codewordSymbols).flatMap fun o => [(o, false), (o, true)]).find? fun e =>
    codewordsAt (line.map (atPolarity e.2)) e.1 4

end Sys2Proof.Machine
end

