-- ==== Sys2Proof/Machine/Source.lean ====
section
/-! DEFINITION. The sources that a tile hears and the one it accepts (spec/12_twin_redundancy.md R280, R281), and the
reference selection that follows it (spec/05_chain_lanes.md R138, R139). -/

namespace Sys2Proof.Machine

/-- A source is heard while a TIME from it has come within the last 3 ms (R280). -/
def Source.heard (s : Source) (now : Nat) : Bool :=
  match s.lastTime with
  | some t => decide (now < t + ms 3)
  | none => false

/-- The key (EPOCH, PRI, H) as one number: H is 1 for a head-end source (R280). -/
def Source.key (s : Source) : Nat := 4 * s.epoch + 2 * b2n s.pri + b2n (!s.tail)

/-- The source that feeds from the named end, when it is known. -/
def Dev.sourceAt (d : Dev) (tail : Bool) : Option Source := d.tile.sources.find? fun s => s.tail == tail

/-- The accepted source. -/
def Dev.acceptedSource (d : Dev) : Option Source :=
  match d.tile.accepted with
  | some t => d.sourceAt t
  | none => none

/-- Whether a packet comes from the accepted source. -/
def Dev.fromAccepted (d : Dev) (p : List Byte) : Bool := pktSnd p && d.tile.accepted == some (pktTail p)

/-- The best of a list of sources. -/
def bestSource : List Source → Option Source
  | [] => none
  | s :: rest =>
    match bestSource rest with
    | none => some s
    | some b => if b.key ≤ s.key then some s else some b

/-- The heard sources. -/
def Dev.heardSources (d : Dev) : List Source := d.tile.sources.filter fun s => s.heard d.ticks

/-- The port through which a source is reached: A for the head end, B for the tail end. -/
def endPort (tail : Bool) : Nat := if tail then 1 else 0

/-- PATH_OK: the path delay for the accepted source's side is VALID (R209). -/
def Dev.pathOk (d : Dev) : Bool :=
  match d.tile.accepted with
  | some false => d.getb TIME_PATH_A_VALID
  | some true => d.getb TIME_PATH_B_VALID
  | none => false

/-- The port whose reference the selection asks for: SEL, or under AUTO the accepted source's port (R138). A tile with
no source keeps the port in use. -/
def Dev.wantedRef (d : Dev) : Nat :=
  match d.get LANE_REF_CTRL_SEL with
  | 1 => 0
  | 2 => 1
  | _ =>
    match d.tile.accepted with
    | some t => endPort t
    | none => d.get LANE_REF_STAT_SRC

/-- The key bits of TWIN_SRC_CHANGE: PRI, H, valid (R468). -/
def keyBits (s : Option Source) : Nat :=
  match s with
  | some k => b2n k.pri + 2 * b2n (!k.tail) + 4
  | none => 0

/-- The EPOCH word of a side. -/
def keyEpoch (s : Option Source) : Nat :=
  match s with
  | some k => k.epoch
  | none => 0

/-- The registers and status bits that show the accepted source. -/
def Dev.showAccepted (d : Dev) : Dev :=
  match d.acceptedSource with
  | some s =>
    d.setAll [(TWIN_ACC_VALID, 1), (TWIN_ACC_PRI, b2n s.pri), (TWIN_ACC_TAIL, b2n s.tail),
      (TWIN_ACC_EPOCH_EPOCH, s.epoch), (TIME_STAT_SEL, endPort s.tail), (TIME_STAT_PATH_OK, b2n d.pathOk)]
  | none =>
    d.setAll [(TWIN_ACC_VALID, 0), (TWIN_ACC_PRI, 0), (TWIN_ACC_TAIL, 0), (TWIN_ACC_EPOCH_EPOCH, 0),
      (TIME_STAT_SEL, 3), (TIME_STAT_PATH_OK, 0)]

/-- The tile accepts another source, or none (R281). -/
def Dev.changeSource (st : Straps) (new : Option Source) (d : Dev) : Dev :=
  let old := d.acceptedSource
  let d1 := (d.event st EV_TWIN_SRC_CHANGE (keyEpoch old) (keyEpoch new) (keyBits old + 256 * keyBits new)).addSat
    TWIN_ACC_CHANGES 1
  let d2 := { d1 with
    tile.accepted := new.map Source.tail
    tile.frames := (d1.tile.frames.filter fun (f : TileFrame) => f.close.isSome).map fun (f : TileFrame) =>
      { f with past := f.past + 1 }
    tile.done := []
    tile.lastHdr := none
    tile.changed := true
    time.clk.noPathRecorded := false }
  d2.showAccepted

/-- A source's latest packet: its EPOCH and PRI, and for a TIME the tick (R280). -/
def Dev.noteSource (d : Dev) (p : List Byte) : Dev :=
  let isTime := pktType p == PT_TIME
  let old := d.sourceAt (pktTail p)
  let last := if isTime then some d.ticks else
    match old with
    | some s => s.lastTime
    | none => none
  let s : Source := { epoch := pktEpoch p, pri := pktPri p, tail := pktTail p, lastTime := last }
  { d with tile.sources := s :: d.tile.sources.filter fun k => k.tail != s.tail }

/-- Whether a packet is one on which a tile changes its source at once: a TIME, HEARTBEAT or FLIP-HDR (R280). -/
def changesSource (p : List Byte) : Bool :=
  pktType p == PT_TIME || pktType p == PT_HEARTBEAT || pktType p == PT_FLIP_HDR

/-- Any other packet from a sender, as its first cell comes by: its fields are noted (R280). -/
def Dev.passSource (p : List Byte) (d : Dev) : Dev :=
  if pktSnd p && !changesSource p then
    let d1 := d.noteSource p
    if d.tile.accepted == some (pktTail p) then d1.showAccepted else d1
  else d

/-- A TIME, HEARTBEAT or FLIP-HDR from a sender: its fields are noted, and a source with a higher key than the accepted
one is accepted at once; with none accepted, the best heard source is (R280). -/
def Dev.hearSender (st : Straps) (p : List Byte) (d : Dev) : Dev :=
  if !pktSnd p then d
  else
    let d1 := d.noteSource p
    match d1.acceptedSource with
    | none =>
      match bestSource d1.heardSources with
      | some b => d1.changeSource st (some b)
      | none => d1
    | some a =>
      let cands := d1.heardSources ++ d1.tile.sources.filter fun s => s.tail == pktTail p
      match bestSource cands with
      | some b => if a.key < b.key then d1.changeSource st (some b) else d1.showAccepted
      | none => d1.showAccepted

/-- The accepted source has not been heard for 3 ms: the best other heard source, or none (R280). -/
def Dev.loseSource (st : Straps) (d : Dev) : Dev :=
  match d.acceptedSource with
  | none => d
  | some a => if a.heard d.ticks then d else d.changeSource st (bestSource d.heardSources)

end Sys2Proof.Machine
end

