-- ==== Sys2Proof/Machine/Wire.lean ====
section
/-! DEFINITION. Sending and receiving on a chain port: codeword pairs and training frames, a tile's own packets, a
sender's packet queue, cells received, forwarded and reassembled (spec/06_chain_transport.md R151 to R184). -/

namespace Sys2Proof.Machine

/-! Ports (R141). -/

/-- The four ports. -/
def allPorts : List Nat := [0, 1, 2, 3]

/-- The state of a port. -/
def Dev.pstate (d : Dev) (x : Nat) : Nat := d.get (LANE_STAT_STATE x)

/-- The states whose codewords carry cells (R141). -/
def sendsCells (s : Nat) : Bool := s == P_LS0 || s == P_RECOVER || s == P_TXONLY

/-- The port sends codewords with cells. -/
def Dev.transmitting (d : Dev) (x : Nat) : Bool := sendsCells (d.pstate x)

/-- Both receivers of the port are locked. -/
def Dev.rxUp (d : Dev) (x : Nat) : Bool := d.getb (LANE_STAT_RX_UP x)

/-- REFDEP that the device reports on a port: a tile's on the port whose reference its cleaner uses (R139). -/
def refdepOf (st : Straps) (d : Dev) (x : Nat) : Bool := isTile st && d.get LANE_REF_STAT_SRC == x

/-! The line of a port (R124, R126; log entry 105). -/

/-- Elapsed time in 0.8 ns. -/
def Dev.lineNow (d : Dev) : Nat := 5 * d.ticks

/-- How long a codeword pair or a training frame takes at the rate in force, in 0.8 ns (R124, R127). -/
def PortSt.slot (p : PortSt) : Nat := if p.rate = 0 then 128 else 256

/-- Where the next slot of the line begins: at the end of the last one, or now when none was sent for two slots. -/
def Dev.slotStart (d : Dev) (x : Nat) : Nat :=
  let p := d.port x
  if d.lineNow < p.lineEnd + 2 * p.slot then p.lineEnd else d.lineNow

/-- The line is free: no slot that was filled has still to begin. -/
def Dev.lineFree (d : Dev) (x : Nat) : Bool := decide ((d.port x).lineEnd ≤ d.lineNow + 5)

/-- Nothing has filled the line for a whole slot. -/
def Dev.lineDry (d : Dev) (x : Nat) : Bool := decide ((d.port x).lineEnd + (d.port x).slot ≤ d.lineNow)

/-- The lanes of a port after a slot that they have sent. -/
def Dev.slotSent (x : Nat) (lanes : List LaneSt) (d : Dev) : Dev :=
  d.modPort x fun q => { q with lanes := lanes, lineEnd := d.slotStart x + q.slot }

/-- Codewords with cells leave by the port: its state has them, and no wake tone is being sent. -/
def Dev.carries (d : Dev) (x : Nat) : Bool := d.transmitting x && (d.port x).toneSince.isNone

/-- Sends one codeword pair with these cells in its first slots and idle cells in the rest. -/
def Dev.putPair (st : Straps) (x : Nat) (cells : List (List Byte)) (d : Dev) : Dev :=
  let p := d.port x
  let slots := (List.range 20).map fun k => nth cells k idleCell
  let link (n : Nat) (cs : List (List Byte)) : Nat :=
    linkField (d.rxUp x) (d.get (LANE_CTRL_TARGET x)) (refdepOf st d x) n p.pairSeq cs
  let a := sendCodeword (d.lane x 0) (payloadBits (link 0 (slots.take 10)) (slots.take 10))
  let b := sendCodeword (d.lane x 1) (payloadBits (link 1 (slots.drop 10)) (slots.drop 10))
  ((d.slotSent x [a.2, b.2]).modPort x fun q => { q with pairSeq := (q.pairSeq + 1) % 8 }).emit (.pair x slots a.1 b.1)

/-- Sends a codeword pair with cells. A port that carries no cells discards them (R141, R166). -/
def Dev.emitPair (st : Straps) (x : Nat) (cells : List (List Byte)) (d : Dev) : Dev :=
  if d.carries x then d.putPair st x cells else d

/-- A LANE step runs on the port, which in TRAIN then holds its outgoing RXLOCK at 0 (R325). -/
def Dev.laneStep (d : Dev) (x : Nat) : Bool :=
  match d.cal.step with
  | some c => c.item == 3 && c.port == x && d.pstate x == P_TRAIN
  | none => false

/-- Sends one training frame on both lanes of a port (R124, R125). -/
def Dev.emitTraining (st : Straps) (x : Nat) (go : Bool) (cd : Nat) (d : Dev) : Dev :=
  let info (n : Nat) : Nat :=
    infoWord (d.rxUp x && !d.laneStep x) n (d.get (LANE_CTRL_TARGET x)) (refdepOf st d x) (d.getb LANE_REF_STAT_SSC) go cd
  let a := sendTraining (d.lane x 0) (info 0)
  let b := sendTraining (d.lane x 1) (info 1)
  if (d.port x).toneSince.isSome then d
  else (d.slotSent x [a.2, b.2]).emit (.training x (info 0) (info 1) a.1 b.1)

/-- Cells in groups of at most `n`. -/
def groups {α : Type} (n : Nat) (l : List α) : List (List α) :=
  (List.range ((l.length + n - 1) / n)).map fun k => (l.drop (n * k)).take n

/-! Packet headers of this device (R157). -/

/-- SRC of a sender's packet on a port. -/
def senderSrc (d : Dev) (x : Nat) : Nat :=
  (4 * d.get XPT_CTRL_PAIR + x) * 64 + 4096 + 8192 * d.get (XPT_CHAIN_END x)

/-- SRC of a tile's packet. -/
def tileSrc (d : Dev) : Nat := if d.addrValid then d.get XPT_ADDR_ADDR else 2 ^ 14

/-- A packet of a sender on a port, stamped with its epoch and priority. -/
def senderPkt (st : Straps) (d : Dev) (x typ : Nat) (bcast copy : Bool) (frame dst : Nat) (body : List Byte) : List Byte :=
  mkPkt typ bcast copy frame (senderSrc d x) dst st.twinPri (d.get TWIN_EPOCH_EPOCH) body

/-- A packet of a tile. -/
def tilePkt (d : Dev) (typ dst : Nat) (body : List Byte) : List Byte := mkPkt typ false false 0 (tileSrc d) dst false 0 body

/-- The body of a TIME (R194). -/
def timeBody (d : Dev) (tseq : Nat) : List Byte :=
  let utc := match d.get TIME_STAT_SEL with
    | 0 => d.get (TIME_PTP_STAT_UTC_OFFSET 0)
    | 1 => d.get (TIME_PTP_STAT_UTC_OFFSET 1)
    | _ => 0
  leBytes d.time.clk.ns 4 ++ leBytes d.time.clk.sec 8 ++ leBytes (d.get TIME_TRIM_TRIM) 4 ++ leBytes 0 8 ++
  leBytes (d.get TIME_STAT_TEPOCH) 1 ++ leBytes (d.get TIME_STAT_STATE + 4 * d.get TIME_STAT_SLEWING) 1 ++
  leBytes tseq 2 ++ leBytes utc 2 ++ leBytes 0 2

/-! A tile's own packets (R170). -/

/-- A cell with `n` added to the u64 at a byte of its data, CCRC recomputed (R195). -/
def addResidence (cell : List Byte) (off n : Nat) : List Byte :=
  let b := cellData cell
  mkCell (leAt cell 0 4) (b.take off ++ leBytes ((leAt b off 8 + n) % 2 ^ 64) 8 ++ b.drop (off + 8))

/-- Puts a packet behind those of the same or a higher precedence. -/
def insertOwn (e : OwnPkt) : List OwnPkt → List OwnPkt
  | [] => [e]
  | q :: rest => if q.prec ≤ e.prec then q :: insertOwn e rest else e :: q :: rest

/-- The cells of a packet that leaves now: the RSP of a TIME_PROBE takes its TURN, from the arrival of the CMD to the
departure (R198); it has one cell. -/
def OwnPkt.leaving (now : Nat) (e : OwnPkt) : List (List Byte) :=
  match e.turn with
  | some t => e.cells.map fun c => addResidence c 36 ((now + 2 ^ 64 - t % 2 ^ 64) % 2 ^ 64)
  | none => e.cells

/-- Takes up to `n` cells in order; a packet begun keeps the front. The answer holds the cells, the records whose EVENT
has left, and what waits on. -/
def takeOwn (now : Nat) : Nat → List OwnPkt → List (List Byte) × List Nat × List OwnPkt
  | _, [] => ([], [], [])
  | n, e :: q =>
    let cs := e.leaving now
    if cs.length ≤ n then
      let r := takeOwn now (n - cs.length) q
      (cs ++ r.1, e.record.toList ++ r.2.1, r.2.2)
    else if n = 0 then ([], [], e :: q)
    else (cs.take n, [], { e with prec := 0, cells := cs.drop n, turn := none } :: q)

/-- The record of an EVENT that has left is sent (R170, R374). -/
def Dev.recordSent (d : Dev) (seq : Nat) : Dev :=
  if d.get REC_SENT_SEQ = seq then d.set REC_SENT_SEQ (seq + 1) else d

/-- Puts cells into the free slots, in order. -/
def fillSlots {α : Type} : List (Option α) → List α → List (Option α)
  | [], _ => []
  | some c :: s, cs => some c :: fillSlots s cs
  | none :: s, [] => none :: fillSlots s []
  | none :: s, c :: cs => some c :: fillSlots s cs

/-- The port of a tile across from a port. -/
def otherPort (x : Nat) : Nat := 1 - x

/-- The forwarded pairs that carry a port's own cells come from the other port while that is in LS0. -/
def Dev.relays (d : Dev) (y : Nat) : Bool := d.pstate (otherPort y) == P_LS0

/-- A port that carries no cells discards what is due to leave by it, without count (R141, R166); an EVENT is still in the
recorder. -/
def Dev.discardDue (y : Nat) (d : Dev) : Dev := d.modPort y fun q => { q with fwd := [], own := [] }

/-- Sends the pair that these slots make: forwarded cells in their slots, then own packets in the free ones (R166, R170). -/
def Dev.sendSlots (st : Straps) (y : Nat) (slots : List (Option (List Byte))) (d : Dev) : Dev :=
  if !d.carries y then d.discardDue y
  else
    let all := slots ++ List.replicate (20 - slots.length) none
    let own := takeOwn d.nowFine ((all.filter Option.isNone).length) (d.port y).own
    let out := (fillSlots all own.1).map fun c => c.getD idleCell
    ((d.modPort y fun q => { q with own := own.2.2 }).each own.2.1 Dev.recordSent).putPair st y out

/-- Sends the next pair of a port from its forwarding buffer and its own packets. -/
def Dev.sendNext (st : Straps) (y : Nat) (d : Dev) : Dev :=
  let slots := (d.port y).fwd.take 20
  (d.modPort y fun q => { q with fwd := q.fwd.drop 20 }).sendSlots st y slots

/-- Sends a port's waiting cells in pairs of its own: no pairs arrive that it would fill. -/
def Dev.drain (st : Straps) (y : Nat) (d : Dev) : Dev :=
  let p := d.port y
  let n := p.fwd.length + (p.own.map fun e => e.cells.length).sum
  d.each (List.range ((n + 19) / 20)) fun d _ => d.sendNext st y

/-- An own packet waits for slots of a port, at its precedence (R170). -/
def Dev.queueOwn (st : Straps) (y : Nat) (e : OwnPkt) (d : Dev) : Dev :=
  let d1 := d.modPort y fun q => { q with own := insertOwn e q.own }
  if d1.relays y then d1 else d1.drain st y

/-- A tile's own packet is sent on a port. -/
def Dev.sendOwn (st : Straps) (y prec : Nat) (pkt : List Byte) (d : Dev) : Dev :=
  d.queueOwn st y { prec := prec, cells := packetCells pkt, turn := none, record := none }

/-- The RSP with which a tile answers a CMD or UPDATE, toward the end its sender is at (R159, R165). -/
def rspPkt (d : Dev) (cmd : List Byte) (status value off : Nat) (data : List Byte) (turn : Option Nat) : OwnPkt :=
  { prec := 1
    cells := packetCells (tilePkt d PT_RSP (pktSrc cmd % 2 ^ 14) (rspBody (cmdXid cmd) status value off data))
    turn := turn, record := none }

/-- A tile answers a CMD or UPDATE. Without an address it answers none (R157). -/
def Dev.respond (st : Straps) (cmd : List Byte) (status value off : Nat) (data : List Byte) (d : Dev) : Dev :=
  if !d.addrValid then d else d.queueOwn st (endPort (pktTail cmd)) (rspPkt d cmd status value off data none)

/-! A sender's packets (R171). -/

/-- The index of the precedence classes of R171. -/
def TQ_TIME : Nat := 0
def TQ_HEARTBEAT : Nat := 1
def TQ_CMD : Nat := 2
def TQ_UPDATE : Nat := 3
def TQ_FRAME : Nat := 4

/-- The departure of a CMD: its timeout runs, and its time stamp is taken (R176, R198). -/
def OutCmd.depart (now : Nat) (t1 : Int) (xid : Nat) (o : OutCmd) : OutCmd :=
  if o.xid = xid then { o with sentAt := some now, t1 := t1 } else o

/-- The first packet of the highest class that waits, and the queues without it. -/
def pickTx : List (List TxPkt) → Option (TxPkt × List (List TxPkt))
  | [] => none
  | (p :: ps) :: rest => some (p, ps :: rest)
  | [] :: rest => (pickTx rest).map fun r => (r.1, [] :: r.2)

/-- Another packet waits at the port. -/
def Dev.txWaits (d : Dev) (x : Nat) : Bool := (pickTx (d.port x).txq).isSome

/-- A sender's cells leave, behind those that a packet before has left over: 19 to a codeword pair (R171). While another
packet waits, cells that do not fill a pair stay, in `fwd`, for a pair that they share with it (log entry 96). -/
def Dev.sendCells (st : Straps) (x : Nat) (cells : List (List Byte)) (d : Dev) : Dev :=
  let all := (d.port x).fwd.filterMap id ++ cells
  let n := if d.txWaits x && d.carries x then all.length / 19 * 19 else all.length
  (d.modPort x fun q => { q with fwd := (all.drop n).map some }).each (groups 19 (all.take n)) fun d c => d.emitPair st x c

/-- A packet starts on a port, and its cells leave. -/
def Dev.startTx (st : Straps) (x : Nat) (pkt : TxPkt) (d : Dev) : Dev :=
  match pkt with
  | .time =>
    let bytes := senderPkt st d x PT_TIME false false 0 0 (timeBody d (d.port x).tseq)
    (d.modPort x fun q => { q with cur := some pkt, tseq := (q.tseq + 1) % 65536 }).sendCells st x (packetCells bytes)
  | .bytes data xid frame =>
    let cells := packetCells data
    let d1 := d.modPort x fun q => { q with cur := some pkt }
    let d2 := match xid with
      | some k => { d1 with host.out := d1.host.out.map (OutCmd.depart d.ticks (d.nowFine : Int) k) }
      | none => d1
    let d3 := if frame && d.transmitting x then d2.add (XPT_FRAME_CELLS_CELLS x) cells.length else d2
    d3.sendCells st x cells

/-- The block of a waiting packet, if it is a BLOCK of a frame. -/
def TxPkt.item : TxPkt → Option SramItem
  | .bytes p _ true => if pktType p == PT_BLOCK then some (pktItem p) else none
  | _ => none

/-- The blocks that wait in the block buffer, port by port. -/
def Dev.waitingBlocks (d : Dev) : List SramItem := d.ports.flatMap fun p => (nth p.txq TQ_FRAME []).filterMap TxPkt.item

/-- The frame of a block. -/
def SramItem.frame : SramItem → Option Nat
  | .block frame _ _ _ => some frame
  | _ => none

/-- A waiting PRESENT of a frame with `n` BLOCKs fewer (R162). -/
def TxPkt.fewer (frame : Option Nat) (n : Nat) : TxPkt → TxPkt
  | .bytes p xid true =>
    if pktType p == PT_PRESENT && frame == some (pktFrame p) then
      .bytes (p.take 32 ++ leBytes (leAt p 32 4 - n) 4 ++ p.drop 36) xid true
    else .bytes p xid true
  | k => k

/-- The BLOCKs of one block that wait at a port are not launched; a PRESENT that waits behind them counts them no more. -/
def PortSt.without (i : SramItem) (p : PortSt) : PortSt :=
  let hit (k : TxPkt) : Bool := k.item == some i
  let n := ((nth p.txq TQ_FRAME []).filter hit).length
  { p with blocks := p.blocks - n
           txq := modAt p.txq TQ_FRAME fun l => (l.filter fun k => !hit k).map (TxPkt.fewer i.frame n) }

/-- A block of the block buffer is not launched on any port (R45, MEM 7). -/
def Dev.dropBlock (i : SramItem) (d : Dev) : Dev := { d with ports := d.ports.map (PortSt.without i) }

/-- A port reads its next packet: a block with a byte that stands wrong in the block buffer is not launched (R45, R470). -/
def Dev.readNext (st : Straps) (x : Nat) (d : Dev) : Dev :=
  match (pickTx (d.port x).txq).bind fun r => r.1.item with
  | none => d
  | some i =>
    match d.badBytes 7 (· == i) with
    | [] => d
    | l => (d.logFound st l).dropBlock i

/-- The transport end of a present time (R181). -/
def transportEnd (present : Nat) : Nat := present - 2000000

/-- FRAME of a launched flip. -/
def Flip.frame (f : Flip) : Nat :=
  match f.launched with
  | some n => n % 256
  | none => 0

/-- A BLOCK of a frame whose transport end has passed: it is launched no more (R181). -/
def Dev.lateBlock (d : Dev) : TxPkt → Bool
  | .bytes p _ true => pktType p == PT_BLOCK &&
      d.host.flying.any fun f => f.frame == pktFrame p && !f.ended && decide (transportEnd f.present < d.now)
  | _ => false

/-- An idle port starts its next packet. It starts no BLOCK after the frame's transport end. -/
def Dev.txNext (st : Straps) (x : Nat) (d : Dev) : Dev :=
  match (d.port x).cur with
  | some _ => d
  | none =>
    let d1 := d.each d.parity.bad fun d _ => d.readNext st x
    match pickTx (d1.port x).txq with
    | none => d1.sendCells st x []
    | some (p, q) =>
      if d1.lateBlock p then d1.sendCells st x [] else (d1.modPort x fun o => { o with txq := q }).startTx st x p

/-- The mode of a port (R287). -/
def Dev.portMode (d : Dev) (x : Nat) : Nat := natBits (d.get TWIN_STAT_MODES) (2 * x) 2

/-- A port in LISTEN or PRIME discards the packets of frames (R286). -/
def Dev.discards (d : Dev) (x : Nat) : TxPkt → Bool
  | .bytes _ _ true => d.portMode x != M_FEED
  | _ => false

/-- A packet waits at a port in its class. -/
def Dev.parkTx (x cls : Nat) (pkt : TxPkt) (d : Dev) : Dev :=
  d.modPort x fun q => { q with txq := modAt q.txq cls fun l => l ++ [pkt] }

/-- A packet waits at a port in its class; it starts at once when the port is idle. A frame's packet is discarded at a port
that does not feed. -/
def Dev.queueTx (st : Straps) (x cls : Nat) (pkt : TxPkt) (d : Dev) : Dev :=
  if d.discards x pkt then d else (d.parkTx x cls pkt).txNext st x

/-- A port no longer feeds: the frame packets that wait at it are discarded, and it carries no more of the frames under way
(R286). -/
def Dev.stopFeeding (x : Nat) (d : Dev) : Dev :=
  { d.modPort x fun q => { q with txq := modAt q.txq TQ_FRAME fun _ => [] } with
    host.flying := d.host.flying.map fun f => { f with ports := f.ports.filter fun y => y != x } }

/-! Presence (R175). -/

/-- A WITNESS of the position has come within the last 3 ms. -/
def Dev.isPresent (d : Dev) (x pos : Nat) : Bool :=
  (d.port x).present.any fun e => e.1 == pos && decide (d.ticks < e.2 + ms 3)

/-- The present positions of a port, ascending. -/
def Dev.presentOn (d : Dev) (x : Nat) : List Nat := (List.range 64).filter fun q => d.isPresent x q

/-! Receiving cells (R155, R158, R166, R167, R184). -/

/-- UPDATE kinds of R353. -/
def updKindKnown (k : Nat) : Bool := decide (k ≤ 6)

/-- Whether TYPE and, for a CMD or UPDATE, KIND are defined (R159, R164). -/
def pktDefined (p : List Byte) : Bool :=
  pktTypeKnown (pktType p) && (pktType p != PT_CMD || decide (cmdKind p ≤ 4)) &&
  (pktType p != PT_UPDATE || updKindKnown (cmdKind p))

/-- A CMD or UPDATE addressed to this tile alone. -/
def toMe (d : Dev) (p : List Byte) : Bool :=
  (pktType p == PT_CMD || pktType p == PT_UPDATE) && !pktBcast p && d.addrValid && pktDstAddr p == d.get XPT_ADDR_ADDR

/-- An ENUM. -/
def isEnum (p : List Byte) : Bool := pktType p == PT_CMD && cmdKind p == CK_ENUM

/-- Whether this tile keeps the packet for itself. -/
def tileWants (d : Dev) (p : List Byte) : Bool :=
  if !pktDefined p then false
  else if pktType p == PT_TIME || pktType p == PT_HEARTBEAT || isEnum p then true
  else if !d.addrValid then false
  else if pktType p == PT_BLOCK then natBit (leAt p 16 8) (posOf (d.get XPT_ADDR_ADDR)) && d.fromAccepted p
  else if pktType p == PT_FLIP_HDR || pktType p == PT_PRESENT then true
  else toMe d p || ((pktType p == PT_CMD || pktType p == PT_UPDATE) && pktBcast p)

/-- The device that a packet of undefined TYPE or KIND counts at: one that would consume it (R184). -/
def unknownHere (st : Straps) (d : Dev) (p : List Byte) : Bool :=
  !pktDefined p && (isSender st || !(pktType p == PT_CMD || pktType p == PT_UPDATE) || pktBcast p || toMe d p)

/-- Whether a packet that reached a sender, which consumes all, does something there (R159, R172, R289). -/
def senderWants (p : List Byte) : Bool :=
  pktDefined p && (pktType p == PT_RSP || pktType p == PT_EVENT || pktType p == PT_WITNESS || pktType p == PT_HEARTBEAT ||
    pktType p == PT_FLIP_HDR || isEnum p)

/-- Whether a POSMASK has a 1 above, or below, a position (R167). -/
def maskBeyond (mask pos : Nat) (tail : Bool) : Bool :=
  if tail then mask % 2 ^ pos != 0 else mask >>> (pos + 1) != 0

/-- The route of a packet's cells, decided from its first cell (R166, R167, R172). -/
def routeOf (st : Straps) (d : Dev) (p : List Byte) : Route :=
  if isSender st then .consume
  else if toMe d p && pktDefined p then .consume
  else if pktType p == PT_BLOCK && d.addrValid &&
      !maskBeyond (leAt p 16 8) (posOf (d.get XPT_ADDR_ADDR)) (pktTail p) then .strip
  else .forward

/-- An ENUM with another NEXT. -/
def enumWith (p : List Byte) (next : Nat) : List Byte := p.take 21 ++ leBytes next 1 ++ p.drop 22

/-- The cell of an ENUM as a tile that received it on a port forwards it; `none` where it ends (R172, R173). -/
def enumOn (x : Nat) (cell : List Byte) : Option (List Byte) :=
  let p := cellData cell
  let n := enumNext p
  let rewritten (m : Nat) : List Byte := mkCell (leAt cell 0 4) (enumWith p m)
  if x = 0 then some (if n ≤ 63 then rewritten (n + 1) else cell)
  else if n = 0 then none else some (rewritten (n - 1))

/-- A TIME_PROBE CMD (R195). -/
def isProbeCmd (p : List Byte) : Bool := pktType p == PT_CMD && cmdKind p == CK_DESC && leAt p 20 2 == 0x0200

/-- The key under which a TIME_PROBE's RSP is known: the sender's SRC, the target and the XID. -/
def probeKeyCmd (p : List Byte) : Nat × Nat × Nat := (pktSrc p % 2 ^ 14, pktDstAddr p, cmdXid p)

/-- The same key read from an RSP. -/
def probeKeyRsp (p : List Byte) : Nat × Nat × Nat := (pktDst p % 2 ^ 14, pktSrcAddr p, rspXid p)

/-- The first cell of a packet as a tile forwards it: residence added where R195 says, also to a TIME that it does not take
(log entry 106), and an ENUM rewritten. -/
def forwardSop (x residence : Nat) (cell : List Byte) (d : Dev) : Option (List Byte) × Dev :=
  let p := cellData cell
  if pktType p == PT_TIME then (some (addResidence cell 32 residence), d)
  else if isProbeCmd p then
    (some (addResidence cell 44 residence),
      { d with tile.probes := probeKeyCmd p :: d.tile.probes.filter fun k => k != probeKeyCmd p })
  else if pktType p == PT_RSP && d.tile.probes.contains (probeKeyRsp p) then
    (some (addResidence cell 44 residence), { d with tile.probes := d.tile.probes.filter fun k => k != probeKeyRsp p })
  else if isEnum p then (enumOn x cell, d)
  else (some cell, d)

/-- A whole packet has arrived: a tile takes a HEARTBEAT at once (R280), a sender consumes without effect what no step
takes (R159); others wait for the step that takes them. -/
def Dev.arrived (st : Straps) (x : Nat) (r : Reasm) (bytes : List Byte) (d : Dev) : Dev :=
  if isTile st && pktType bytes == PT_HEARTBEAT then d.hearSender st bytes
  else if isSender st && !senderWants bytes then d
  else { d with rxq := d.rxq ++ [{ port := x, bytes := bytes, tRx := r.tRx }] }

/-- The stream is no longer being reassembled at the port. -/
def Dev.dropReasm (d : Dev) (x s : Nat) : Dev :=
  d.modPort x fun q => { q with open_ := q.open_.filter fun r => r.stream != s }

/-- The stream's route at the port ends. -/
def Dev.endRoute (d : Dev) (x s : Nat) : Dev :=
  d.modPort x fun q => { q with routes := q.routes.filter fun r => r.1 != s }

/-- One more cell of a packet that is being reassembled; its last one completes it, and any disagreement discards it
(R184). -/
def Dev.addCell (st : Straps) (x : Nat) (r : Reasm) (cell : List Byte) (d : Dev) : Dev :=
  let s := r.stream
  let data := r.data ++ cellData cell
  let n := r.cells + 1
  let total := pktCells (pktLen data)
  if cellCidx cell != r.cells % 64 || total < n || (cellEop cell && n != total) then
    (d.dropReasm x s).add (XPT_PKTERR_COUNT x) 1
  else if cellEop cell then (d.dropReasm x s).arrived st x r (data.take (16 + pktLen data))
  else
    (d.dropReasm x s).modPort x fun q =>
      { q with open_ := { r with data := data, cells := n, lastCell := d.ticks } :: q.open_ }

/-- The first cell of a packet: its route, and its reassembly where this device keeps it. -/
def Dev.takeSop (st : Straps) (x : Nat) (cell : List Byte) (d : Dev) : Dev :=
  let s := cellStream cell
  let p := cellData cell
  let d1 := if (d.port x).open_.any fun r => r.stream == s then (d.dropReasm x s).add (XPT_PKTERR_COUNT x) 1 else d
  let d2 := if unknownHere st d p then d1.add (XPT_UNKTYPE_COUNT x) 1 else d1
  let d3 := (if isTile st then d2.passSource p else d2).endRoute x s
  let d4 := if cellEop cell then d3 else d3.modPort x fun q => { q with routes := (s, routeOf st d p) :: q.routes }
  if (if isSender st then pktDefined p else tileWants d p) then
    d4.addCell st x { stream := s, data := [], cells := 0, lastCell := d.ticks, tRx := d.nowFine } cell
  else d4

/-- A further cell of a packet. A cell whose stream is not open here counts once for its packet (R184). -/
def Dev.takeNext (st : Straps) (x : Nat) (cell : List Byte) (d : Dev) : Dev :=
  let s := cellStream cell
  let d1 :=
    if (d.port x).routes.any fun r => r.1 == s then
      match (d.port x).open_.find? fun r => r.stream == s with
      | some r => d.addCell st x r cell
      | none => d
    else
      (d.modPort x fun q => { q with routes := (s, Route.forward) :: q.routes }).add (XPT_PKTERR_COUNT x) 1
  if cellEop cell then d1.endRoute x s else d1

/-- The route of a cell that is not the first of its packet. -/
def Dev.routeAt (d : Dev) (x s : Nat) : Route :=
  match (d.port x).routes.find? fun r => r.1 == s with
  | some r => r.2
  | none => .forward

/-- One received cell: what is forwarded in its slot, and the device after it. -/
def Dev.takeCell (st : Straps) (x residence : Nat) (cell : List Byte) (d : Dev) : Option (List Byte) × Dev :=
  if !cellOk cell then (none, d.add (XPT_CELLERR_COUNT x) 1)
  else if !cellValid cell then (none, d)
  else if cellSop cell then
    let route := routeOf st d (cellData cell)
    let d1 := d.takeSop st x cell
    match route with
    | .forward =>
      forwardSop x residence cell d1
    | _ => (none, d1)
  else
    let route := d.routeAt x (cellStream cell)
    let d1 := d.takeNext st x cell
    match route with
    | .forward => (some cell, d1)
    | _ => (none, d1)

/-- Received cells in slot order. -/
def Dev.takeCells (st : Straps) (x residence : Nat) : List (List Byte) → Dev → List (Option (List Byte)) × Dev
  | [], d => ([], d)
  | c :: cs, d =>
    let r := d.takeCell st x residence c
    let t := Dev.takeCells st x residence cs r.2
    (r.1 :: t.1, t.2)

/-! The forwarding buffer (R169). -/

/-- The cells held from which incoming idle cells are dropped. -/
def dropIdleAt : Nat := 12

/-- A slot enters the buffer, unless it is idle and dropped, or the buffer is full; the answer says whether a packet cell
was lost. -/
def bufferSlot (buf : List (Option (List Byte))) (c : Option (List Byte)) : List (Option (List Byte)) × Bool :=
  if c.isNone then (if dropIdleAt ≤ buf.length then (buf, false) else (buf ++ [c], false))
  else if max dropIdleAt Config.forwardDepth ≤ buf.length then (buf, true)
  else (buf ++ [c], false)

/-- The slots of a received pair enter the buffer in order; while the pair that leaves is filled, one cell leaves for each
slot. The answer holds the slots that leave, the buffer and how many packet cells were lost. -/
def bufferPair (leaving : Bool) : List (Option (List Byte)) → List (Option (List Byte)) →
    List (Option (List Byte)) × List (Option (List Byte)) × Nat
  | [], buf => ([], buf, 0)
  | c :: cs, buf =>
    let r := bufferSlot buf c
    let out := if leaving then r.1.take 1 else []
    let t := bufferPair leaving cs (if leaving then r.1.drop 1 else r.1)
    (out ++ t.1, t.2.1, t.2.2 + b2n r.2)

/-- The pair that a tile sends on a port for the pair it received on the other, when the line of that port is free for it
(R166, R169, R170). -/
def Dev.relayPair (st : Straps) (y : Nat) (slots : List (Option (List Byte))) (d : Dev) : Dev :=
  if !d.carries y then d.discardDue y
  else
    let leaving := d.lineFree y
    let r := bufferPair leaving slots (d.port y).fwd
    let d1 := (d.modPort y fun q => { q with fwd := r.2.1 }).add (XPT_OVF_COUNT (otherPort y)) r.2.2
    if leaving then d1.sendSlots st y r.1 else d1

/-- What a port puts on its line when nothing else fills it: the pair of its waiting cells or of idle cells, idle codewords
after the countdown in GO, training frames in TRAIN and LS1 (R124, R126, R141, R166). -/
def Dev.fillLine (st : Straps) (d : Dev) (x : Nat) : Dev :=
  let s := d.pstate x
  if (d.port x).toneSince.isSome then d
  else if sendsCells s then
    if d.lineDry x || (decide (20 ≤ (d.port x).fwd.length) && decide ((d.port x).lineEnd ≤ d.lineNow)) then d.sendNext st x
    else d
  else if !d.lineDry x then d
  else if s == P_GO then d.putPair st x []
  else if s == P_TRAIN || s == P_LS1 then d.emitTraining st x false 0
  else d

end Sys2Proof.Machine
end

