-- ==== Sys2Proof/Machine/Recorder.lean ====
section
/-! DEFINITION. The recorder and the check-value units (spec/16_recorder_crc_mailbox.md R370 to R385). -/

namespace Sys2Proof.Machine

/-! The recorder's slots (R372, R373). -/

/-- Record slots in eMRAM. -/
def recSlots : Nat := 16384

/-- What an unwritten record slot holds (log entry 8). -/
def recSlotDflt (_ : Nat) : List Byte := zeros 32

/-- What an unwritten check word holds (log entry 8). -/
def recCheckDflt (_ : Nat) : Nat := 0

/-- The record slot of a sequence number. -/
def Dev.recSlot (d : Dev) (seq : Nat) : List Byte := Cells.read recSlotDflt d.rcd.slots (seq % recSlots)

/-- Whether the slot's check word matches its bytes, and no word of either is uncorrectable. -/
def Dev.recCheckOk (d : Dev) (seq : Nat) : Bool :=
  let k := seq % recSlots
  Cells.read recCheckDflt d.rcd.checks k == crc32c (d.recSlot seq) &&
  !(d.nvm.bad.any fun e => e.1 == NvmArea.recorderSlot k || e.1 == NvmArea.recorderCheck k)

/-- OLDEST after a record `seq` is written: the earliest uncleared one within 16,383 of it. -/
def oldestAfter (empty : Bool) (oldest seq : Nat) : Nat :=
  if empty then seq
  else if dist32 oldest seq ≤ recSlots - 1 then oldest
  else (seq + 2 ^ 32 - (recSlots - 1)) % 2 ^ 32

/-- REC_SENT moves past records that were overwritten before they were sent (R374). -/
def Dev.skipUnsent (d : Dev) : Dev :=
  let sent := d.get REC_SENT_SEQ
  let oldest := d.get REC_OLDEST_SEQ
  if precedes sent oldest then (d.addSat REC_STAT_SKIP_CNT (dist32 sent oldest)).set REC_SENT_SEQ oldest else d

/-- One record is written to its slot with its SEQ, and its check word (R371, R372). The sender's own records then wait
for its Event Ring (R374), an EVT_RING_OVF before all others (R71). -/
def Dev.writeRecord (st : Straps) (d : Dev) (e : EventRec) : Dev :=
  let seq := d.rcd.next
  let r := { e with seq := seq, mark := none }
  let bytes := eventBytes r
  let d1 := { d with
    rcd.slots := Cells.write recSlotDflt d.rcd.slots (seq % recSlots) bytes
    rcd.checks := Cells.write recCheckDflt d.rcd.checks (seq % recSlots) (crc32c bytes)
    rcd.next := (seq + 1) % 2 ^ 32
    nvm.bad := d.nvm.bad.filter fun e =>
      e.1 != NvmArea.recorderSlot (seq % recSlots) && e.1 != NvmArea.recorderCheck (seq % recSlots) }
  let d2 := d1.setAll [(REC_OLDEST_SEQ, oldestAfter (d.getb REC_STAT_EMPTY) (d.get REC_OLDEST_SEQ) seq),
    (REC_NEWEST_SEQ, seq), (REC_STAT_EMPTY, 0)]
  if isSender st then
    if r.code == EV_EVT_RING_OVF.code then { d2 with host.evtPend := r :: d2.host.evtPend, host.ovfPend := false }
    else { d2 with host.evtPend := d2.host.evtPend ++ [r] }
  else d2.skipUnsent

/-- The REC_LOST record that takes a freed entry (R371). -/
def lostRecord (st : Straps) (d : Dev) : EventRec :=
  { code := EV_REC_LOST.code, sev := EV_REC_LOST.sev, source := ownAddr st d, seq := 0, secs := d.time.clk.sec,
    ns := d.time.clk.ns, tepoch := d.get TIME_STAT_TEPOCH, flags := eventFlags st d 0, p0 := d.rcd.lost % 2 ^ 32,
    p1 := d.rcd.lostNs, p2 := d.rcd.lostSecs % 2 ^ 32 }

/-- With entries free and losses pending, REC_LOST takes one before any further event (R371). -/
def Dev.reportLost (st : Straps) (d : Dev) : Dev :=
  if d.rcd.lost = 0 then d
  else { d with rcd.queue := d.rcd.queue ++ [lostRecord st d], rcd.lost := 0 }

/-! Sending records up the chain (R374). -/

/-- The port on which a tile's EVENT leaves: toward its accepted source's end, up when it has none (R159). -/
def eventPort (d : Dev) : Nat :=
  match d.tile.accepted with
  | some t => endPort t
  | none => 0

/-- EVENT_SEND: the record at REC_SENT waits for a slot when its severity is at least SEND_SEV, and REC_SENT moves on when
it leaves (R170); a lesser one is passed over (R374). -/
def execEventSend (s : State) : Host.Outcome State Fault Refusal :=
  runIf (fun st d => isTile st && d.awake && !d.getb REC_STAT_EMPTY && d.get REC_SENT_SEQ != d.rcd.next &&
      d.carries (eventPort d) && d.ports.all fun p => p.own.all fun e => e.record.isNone)
    (fun st d =>
      let d1 := d.skipUnsent
      let seq := d1.get REC_SENT_SEQ
      let rec32 := d1.recSlot seq
      if (eventOfBytes rec32).sev < d.get REC_CTRL_SEND_SEV || !d1.recCheckOk seq then d1.set REC_SENT_SEQ (seq + 1)
      else d1.queueOwn st (eventPort d)
        { prec := 3, cells := packetCells (tilePkt d PT_EVENT 0 rec32), turn := none, record := some seq }) s

/-! Reading (R375 to R377). -/

/-- The RESULT of reading sequence `s`: 0 VALID, 1 NOT_YET, 2 GONE, 3 BAD (R375). -/
def Dev.recResult (d : Dev) (s : Nat) : Nat :=
  if d.getb REC_STAT_EMPTY || precedes (d.get REC_NEWEST_SEQ) s then 1
  else if precedes s (d.get REC_OLDEST_SEQ) then 2
  else if !d.recCheckOk s then 3
  else if (eventOfBytes (d.recSlot s)).seq != s then 2
  else 0

/-- A write of REC_RD_SEQ: the slot is copied and RESULT set; the copy is over when the step is (R375). -/
def Dev.opRecRdSeq (s : Nat) (d : Dev) : Dev :=
  let bytes := d.recSlot s
  let d1 := d.setAll [(REC_RD_SEQ_SEQ, s), (REC_RD_STAT_RESULT, d.recResult s), (REC_RD_STAT_BUSY, 0)]
  d1.each (List.range 8) fun d i => d.set (REC_RD_DATA_WORD i) (leAt bytes (4 * i) 4)

/-- REC_RD_SEQ_WRITE (R375). -/
def execRecRdSeqWrite (init : Initiator) (seq : Word) (s : State) : Host.Outcome State Fault Refusal :=
  runBy init (fun _ _ => true) (fun _ d => d.opRecRdSeq seq.toNat) s

/-- Whether the parameters of a REC_DUMP are allowed (R377). -/
def recDumpOk (desc : List Byte) : Bool :=
  bOffset desc == 0 && decide (64 ≤ bLength desc) && decide (bLength desc ≤ 524320) && bLength desc % 32 == 0

/-- The 32-byte header of a dump. -/
def recDumpHeader (d : Dev) (desc : List Byte) : List Byte :=
  let oldest := d.get REC_OLDEST_SEQ
  let newest := d.get REC_NEWEST_SEQ
  let first := if natBit (bParam desc 36) 0 then oldest else leAt desc 32 4
  let count := if d.getb REC_STAT_EMPTY || precedes newest first then 0
    else min (dist32 first newest + 1) ((bLength desc - 32) / 32)
  leBytes oldest 4 ++ leBytes newest 4 ++ leBytes first 4 ++ leBytes count 4 ++ leBytes (d.get REC_LOST_CNT_COUNT) 4 ++
  leBytes (d.get TIME_STAT_TEPOCH) 1 ++ zeros 11

/-- A fill record (R377). -/
def fillRecord (code seq : Nat) : List Byte := leBytes code 2 ++ zeros 2 ++ leBytes seq 4 ++ zeros 24

/-- One record of a dump. -/
def recDumpRecord (d : Dev) (seq : Nat) : List Byte :=
  match d.recResult seq with
  | 0 => d.recSlot seq
  | 2 => fillRecord 0xFFFF seq
  | 1 => fillRecord 0xFFFF seq
  | _ => fillRecord 0xFFFE seq

/-- `count` bytes of a dump at `off`, with the header taken when its first segment was served. -/
def recDumpBytes (d : Dev) (header : List Byte) (off count : Nat) : List Byte :=
  let first := leAt header 8 4
  let n := leAt header 12 4
  let at32 (k : Nat) : List Byte :=
    if k = 0 then header else if k ≤ n then recDumpRecord d ((first + k - 1) % 2 ^ 32) else zeros 32
  let from32 := off / 32
  slice ((List.range ((off + count + 31) / 32 - from32)).flatMap fun k => at32 (from32 + k)) (off % 32) count

/-! Clearing (R378). -/

/-- Steps 2 and 3 of REC_CLEAR: REC_CLEARED is written ahead of every queued record, and every other slot's check word
becomes zero. -/
def Dev.recClearNow (st : Straps) (tseq : Nat) (d : Dev) : Dev :=
  let empty := d.getb REC_STAT_EMPTY
  let last := (d.rcd.next + 2 ^ 32 - 1) % 2 ^ 32
  let cleared := if empty then 0 else dist32 (d.get REC_OLDEST_SEQ) (d.get REC_NEWEST_SEQ) + 1
  let e : EventRec :=
    { code := EV_REC_CLEARED.code, sev := EV_REC_CLEARED.sev, source := ownAddr st d, seq := 0,
      secs := d.time.clk.sec, ns := d.time.clk.ns, tepoch := d.get TIME_STAT_TEPOCH, flags := eventFlags st d 0,
      p0 := tseq % 2 ^ 32, p1 := last, p2 := cleared }
  let d1 := { d with rcd.checks := [] }.set REC_STAT_EMPTY 1
  d1.writeRecord st e

/-- The recorder's queue has room for a record of this step. -/
def Dev.recRoom (d : Dev) : Bool := decide (d.rcd.queue.length + d.rcd.fresh.length < recDepth)

/-! The check-value units (R381 to R385). -/

/-- A unit's state. -/
def Dev.crcUnit (d : Dev) (n : Nat) : CrcUnit := nth d.crc n CrcUnit.init

/-- Changes a unit. -/
def Dev.modCrc (d : Dev) (n : Nat) (f : CrcUnit → CrcUnit) : Dev := { d with crc := modAt d.crc n f }

/-- The CRC that a unit computes. -/
def Dev.crcKind (d : Dev) (n : Nat) : CrcSpec := crcSpec (d.get (CRC_CTRL_POLY n))

/-- The unit serves a guarded region and takes no settings: CRC4 to CRC7 of a tile with GUARD_EN = 1 (R384). -/
def crcGuarded (st : Straps) (d : Dev) (n : Nat) : Bool := isTile st && decide (4 ≤ n) && d.getb CMP_CTRL_GUARD_EN

/-- RESULT: the state XOR the final XOR, in the low bits (R381); that of a signature engine is a CRC-32C (R384). -/
def Dev.crcResult (st : Straps) (d : Dev) (n : Nat) : Nat :=
  let c := if crcGuarded st d n then crcSpec 1 else d.crcKind n
  ((d.crcUnit n).state % 2 ^ c.width) ^^^ c.xorOut

/-- A native write: ignored by a signature engine (R384), and discarded with FEED_IGN by a unit in snoop mode (R383). -/
def Dev.native (st : Straps) (n : Nat) (f : Dev → Dev) (d : Dev) : Dev :=
  if crcGuarded st d n then d else if d.getb (SNP_CTRL_EN n) then d.set (CRC_CTRL_FEED_IGN n) 1 else f d

/-- START: the standard init value (R385). -/
def Dev.opCrcStart (st : Straps) (n : Nat) (d : Dev) : Dev :=
  d.native st n fun d => (d.modCrc n fun u => { u with state := (d.crcKind n).init }).set (CRC_COUNT_VALUE n) 0

/-- A write of SEED loads the state directly (R381, R385). -/
def Dev.opCrcSeed (st : Straps) (n seed : Nat) (d : Dev) : Dev :=
  d.native st n fun d => (d.modCrc n fun u => { u with state := seed % 2 ^ (d.crcKind n).width }).set (CRC_COUNT_VALUE n) 0

/-- The bytes that a write feeds, by the register it names: DATA all, DATA_H the low 2, DATA_B the low one (R382). -/
def crcFed (reg : Nat) (bytes : List Byte) : List Byte :=
  match reg with
  | 0 => bytes.take 4
  | 1 => slice bytes 0 2
  | _ => slice bytes 0 1

/-- A unit taps a stream by its own settings; a signature engine has none of its own (R384). -/
def Dev.taps (st : Straps) (n src : Nat) (d : Dev) : Bool :=
  !crcGuarded st d n && d.getb (SNP_CTRL_EN n) && d.get (SNP_CTRL_SRC n) == src

/-- Whether a unit taps a stream in place of native feed. -/
def crcSnooping (st : Straps) (d : Dev) (n : Nat) : Bool := d.getb (SNP_CTRL_EN n) || crcGuarded st d n

/-- Native feed (R382); discarded with FEED_IGN in snoop mode (R383). -/
def Dev.opCrcData (st : Straps) (n reg : Nat) (bytes : List Byte) (d : Dev) : Dev :=
  if crcSnooping st d n then d.set (CRC_CTRL_FEED_IGN n) 1
  else
    let fed := crcFed reg bytes
    let c := d.crcKind n
    (d.modCrc n fun u => { u with state := crcFeed c (u.state % 2 ^ c.width) fed }).add (CRC_COUNT_VALUE n) fed.length

/-- ARM: a capture starts at the next frame boundary (R383). -/
def Dev.opSnoopArm (st : Straps) (n : Nat) (d : Dev) : Dev :=
  if crcGuarded st d n || !d.getb (SNP_CTRL_EN n) then d else d.modCrc n fun u => { u with armed := true }

/-- A capture begins: the state is the seed masked to the CRC's width (R383). -/
def Dev.startCapture (d : Dev) (n : Nat) : Dev :=
  (d.modCrc n fun u =>
    { u with armed := false, running := true, ended := false, count := 0,
             snoop := d.get (SNP_SEED_VALUE n) % 2 ^ (d.crcKind n).width }).set (SNP_STAT_RUN n) 1

/-- A frame boundary of a stream: every armed capture of it starts. -/
def Dev.snoopBoundary (st : Straps) (src : Nat) (d : Dev) : Dev :=
  d.each (List.range 8) fun d n => if (d.crcUnit n).armed && d.taps st n src then d.startCapture n else d

/-- A frame of a stream ends: the captures that run over it are over (R383). -/
def Dev.endCaptures (st : Straps) (src : Nat) (d : Dev) : Dev :=
  d.each (List.range 8) fun d n =>
    if (d.crcUnit n).running && d.taps st n src then d.modCrc n fun u => { u with ended := true } else d

/-- The units that tap a stream take its bytes (R383). -/
def Dev.snoopFeed (st : Straps) (src sel : Nat) (bytes : List Byte) (d : Dev) : Dev :=
  d.each (List.range 8) fun d n =>
    let wanted := if src = 2 then d.get (SNP_CTRL_SEL n) % 4 else d.get (SNP_CTRL_SEL n)
    if (d.crcUnit n).running && !(d.crcUnit n).ended && d.taps st n src && wanted == sel then
      d.modCrc n fun u =>
        { u with snoop := crcFeed (d.crcKind n) u.snoop bytes, count := (u.count + bytes.length) % 2 ^ 32 }
    else d

/-- The end of a captured frame: RESULT and COUNT are latched, DONE or OVR set, and CONT restarts (R383). -/
def Dev.opCaptureEnd (n : Nat) (d : Dev) : Dev :=
  let u := d.crcUnit n
  let d1 := d.setAll [(SNP_RESULT_VALUE n, u.snoop ^^^ (d.crcKind n).xorOut), (SNP_COUNT_VALUE n, u.count)]
  let d2 := if d.getb (SNP_STAT_DONE n) then d1.set (SNP_STAT_OVR n) 1 else d1.set (SNP_STAT_DONE n) 1
  if d.getb (SNP_CTRL_CONT n) then d2.startCapture n
  else (d2.modCrc n fun u => { u with running := false, ended := false }).set (SNP_STAT_RUN n) 0

/-- CRC_START (R385). -/
def execCrcStart (init : Initiator) (n : Fin 8) (s : State) : Host.Outcome State Fault Refusal :=
  runBy init (fun _ _ => true) (fun st d => d.opCrcStart st n) s

/-- CRC_SEED_WRITE (R385). -/
def execCrcSeedWrite (init : Initiator) (n : Fin 8) (seed : Word) (s : State) : Host.Outcome State Fault Refusal :=
  runBy init (fun _ _ => true) (fun st d => d.opCrcSeed st n seed.toNat) s

/-- CRC_DATA_WRITE (R382). -/
def execCrcDataWrite (init : Initiator) (n : Fin 8) (reg : Fin 3) (bytes : List Byte) (s : State) :
    Host.Outcome State Fault Refusal :=
  runBy init (fun _ _ => true) (fun st d => d.opCrcData st n reg bytes) s

/-- SNOOP_ARM (R383). -/
def execSnoopArm (init : Initiator) (n : Fin 8) (s : State) : Host.Outcome State Fault Refusal :=
  runBy init (fun _ _ => true) (fun st d => d.opSnoopArm st n) s

/-- SNOOP_CAPTURE_END (R383). -/
def execSnoopCaptureEnd (n : Fin 8) (s : State) : Host.Outcome State Fault Refusal :=
  let k : Nat := n
  runIf (fun st d => d.awake && (d.crcUnit k).running && (d.crcUnit k).ended && !crcGuarded st d k) (fun _ d => d.opCaptureEnd k) s

end Sys2Proof.Machine
end

