-- ==== Sys2Proof/Machine/Sample.lean ====
section
/-! DEFINITION. Analogue readings: the bank ADCs, the supply and thermistor samples and the temperature sample of a frame
(spec/11_lamp_diagnosis.md R273, spec/13_thermal.md R305, R306, spec/14_calibration.md R315), and the writes that act from
a later frame on (spec/10_grey_synthesis_drive.md R251). -/

namespace Sys2Proof.Machine

/-! Writes that act from a later frame on (R251, R277, R315). -/

/-- The value of a register that is in force for the frame being driven. -/
def Dev.eff (d : Dev) (a : Nat) : Word := Cells.read regReset d.tile.eff a

/-- The value in force of a field. -/
def Dev.effGet (d : Dev) (f : Fld) : Nat := fieldOf (d.eff f.addr) f.lo f.width

/-- The value in force of a field, as two's complement. -/
def Dev.effGeti (d : Dev) (f : Fld) : Int := toSigned f.width (d.effGet f)

/-- A register's new value acts from the first frame whose present time is at or after `due`. -/
def Dev.actsLater (a : Nat) (v : Word) (due : Nat) (d : Dev) : Dev :=
  { d with tile.late := d.tile.late ++ [{ addr := a, value := v, due := due }] }

/-- The margin of R251. -/
def lateMargin : Nat := 1000000

/-- Whether a register shows the value in force itself: the CAL block (R331). -/
def showsInForce (a : Nat) : Bool := a / 0x10000 == 0x0D

/-- The value comes into force now. -/
def Dev.enforce (d : Dev) (a : Nat) (v : Word) : Dev :=
  if showsInForce a then d.wr a v else { d with tile.eff := Cells.write regReset d.tile.eff a v }

/-- The writes that are due for a frame with this present time come into force. A GRY_LEVEL write ends the rule of a fade
that is over (R249). -/
def Dev.takeLate (present : Nat) (d : Dev) : Dev :=
  let now := d.tile.late.filter fun w => decide (w.due ≤ present)
  let d1 := { d with tile.late := d.tile.late.filter fun w => !decide (w.due ≤ present) }
  d1.each now fun d w =>
    let d1 := d.enforce w.addr w.value
    if w.addr == GRY_LEVEL then { d1 with tile.fadeRun := none } else d1

/-! The sinks (R315). -/

/-- The cells of a sink that carry its picture and test current, and those of its quarter current: cell i at bit i. -/
def Dev.sinkCells (d : Dev) (s : Nat) : Nat × Nat :=
  let map (a b c : Nat) : Nat := (d.rd a).toNat + 2 ^ 32 * (d.rd b).toNat + 2 ^ 64 * ((d.rd c).toNat % 256)
  (map (CAL_SINK_EN0 s) (CAL_SINK_EN1 s) (CAL_SINK_EN2 s), map (CAL_SINK_Q0 s) (CAL_SINK_Q1 s) (CAL_SINK_Q2 s))

/-- The cells of every sink, one for each column. -/
def Dev.allCells (d : Dev) : List (Nat × Nat) := (List.range 384).map d.sinkCells

/-! Conversions. -/

/-- A bank ADC's reading in millivolts (R315), with the calibration in force. -/
def Dev.adcMv (d : Dev) (bank code : Nat) : Nat :=
  (sat (rnd (code * d.get (CAL_ADC_GAIN bank)) 15 + d.geti (CAL_ADC_OFS bank)) 0 6000).toNat

/-- ntc_temp of a raw code (R305). -/
def Dev.ntcTemp (d : Dev) (code : Nat) : Int :=
  let i := code / 128
  let f := code % 128
  let a := d.geti (THM_NTC_LUT_T i)
  a + Int.fdiv ((d.geti (THM_NTC_LUT_T (i + 1)) - a) * f) 128

/-- Whether a thermistor's reading is valid (R305). -/
def Dev.ntcValid (d : Dev) (n : Nat) : Bool :=
  let c := d.get (DIAG_NTC_CODE n)
  d.getb (DIAG_NTC_VALID n) && decide (d.get THM_NTC_LIM_MIN ≤ c) && decide (c ≤ d.get THM_NTC_LIM_MAX)

/-- The largest of a list of integers. -/
def maxInt : List Int → Option Int
  | [] => none
  | x :: xs =>
    match maxInt xs with
    | some m => some (max x m)
    | none => some x

/-- The valid readings of sensors `lo` to `lo + n − 1`, latest round. -/
def Dev.sensors (d : Dev) (lo n : Nat) : List Int :=
  ((List.range n).filter fun k => d.getb (THM_TJ_VALID (lo + k))).map fun k => d.geti (THM_TJ_T (lo + k))

/-- The temperature sample (R306). With no valid logic-die reading the spec gives TJ_LOG no value: a free value. -/
def Dev.takeSample (st : Straps) (d : Dev) : TempSample × Dev :=
  let r := d.draw 65536
  let log := match maxInt (d.sensors 0 8) with
    | some t => (t, d)
    | none => (toSigned 16 r.1, r.2)
  let drv := if isTile st then maxInt (d.sensors 8 4) else none
  ({ tjDrv := match drv with
      | some t => t
      | none => log.1
     tjLog := log.1
     ntc := (List.range 4).map fun n => d.ntcTemp (d.get (DIAG_NTC_CODE n))
     ntcValid := (List.range 4).map fun n => d.ntcValid n
     drvFallback := drv.isNone }, log.2)

/-- The temperature that a selection names: 0 TJ_DRV, 1 to 4 NTC0 to NTC3; an invalid thermistor falls back to TJ_DRV
(R232, R250). The second answer says that it fell back. -/
def TempSample.select (t : TempSample) (sel : Nat) : Int × Bool :=
  if sel = 0 then (t.tjDrv, false)
  else if nth t.ntcValid (sel - 1) false then (nth t.ntc (sel - 1) 0, false)
  else (t.tjDrv, true)

/-- The highest of TJ_DRV and every valid thermistor (R250, TSRC 5). -/
def TempSample.highest (t : TempSample) : Int :=
  (List.range 4).foldl (fun m n => if nth t.ntcValid n false then max m (nth t.ntc n 0) else m) t.tjDrv

end Sys2Proof.Machine
end

