-- ==== Sys2Proof/Machine/Lane.lean ====
section
/-! DEFINITION. The link state machine of a port, its receivers, the reference cleaner and the drift guard
(spec/05_chain_lanes.md R127 to R148). -/

namespace Sys2Proof.Machine

/-- The ports that exist in a role: A and B of a tile, all four of a sender (R131, R134). -/
def portExists (st : Straps) (x : Nat) : Bool := isSender st || x < 2

/-- Down-spread takes effect when all four ports of a sender are in REFWAIT (R135). -/
def Dev.takeSsc (st : Straps) (d : Dev) : Dev :=
  if isSender st && [0, 1, 2, 3].all fun x => (d.port x).refwait then
    d.set LANE_REF_STAT_SSC (d.get LANE_REF_CTRL_SSC_EN)
  else d

/-- Nothing that counts consecutive markers or codewords of lane 0 goes on (R125, R141). -/
def PortSt.breakRuns (p : PortSt) : PortSt :=
  { p with peerLockRun := 0, peerLockCw := 0, peerPmRun := 0, peerUnlockSince := none }

/-- The valid markers seen so far count no more (R128). -/
def LaneSt.unmarked (l : LaneSt) : LaneSt := { l with markRun := 0 }

/-- The receivers of a port are off, and see nothing that goes on from before. They show loss of lock; LOL_SEEN and the LOS
bits stay (log entry 147). -/
def Dev.receiversOff (x : Nat) (d : Dev) : Dev :=
  (d.setAll [(LANE_STAT_RX_UP x, 0), (LANE_STAT_TX_UP x, 0), (LANEN_STAT_LOL x 0, 1), (LANEN_STAT_LOL x 1, 1)]).modPort x
    fun p => { p.breakRuns with lanes := p.lanes.map LaneSt.unmarked }

/-- PATH_A or PATH_B loses VALID when the tile's port on that side leaves LS0 (R209). -/
def Dev.dropPath (x : Nat) (d : Dev) : Dev :=
  let d1 := d.set (if x = 0 then TIME_PATH_A_VALID else TIME_PATH_B_VALID) 0
  d1.setb TIME_STAT_PATH_OK d1.pathOk

/-- A survey of the port is due within 10 ms, unless one is due earlier (R199). -/
def Dev.surveySoon (x : Nat) (d : Dev) : Dev :=
  { d with time.surveys := modAt d.time.surveys x fun v => { v with due := some (v.due.getD (d.ticks + ms 10)) } }

/-- The port starts to transmit: with codewords that carry cells, or, as R412 counts it, by coming to LS0 (log entry 148). -/
def startsSending (was s : Nat) : Bool := (!sendsCells was && sendsCells s) || (s == P_LS0 && was != P_LS0)

/-- The port enters a state (R141), with what follows from leaving or reaching LS0, from starting to transmit and from
carrying cells no more (R166, R199, R209, R285, R288, R412). -/
def Dev.enter (st : Straps) (x s : Nat) (d : Dev) : Dev :=
  let was := d.pstate x
  let d0 := if sendsCells s then d else d.discardDue x
  let d1 := (d0.set (LANE_STAT_STATE x) s).modPort x fun p =>
    { p with since := d.ticks, noLockRecorded := false, refwait := s == P_REFWAIT }
  let d2 := if isTile st && was == P_LS0 && s != P_LS0 then d1.dropPath x else d1
  let d3 := if isSender st && s == P_LS0 && was != P_LS0 then
      { d2 with
        twin.ls0At := setAt d2.twin.ls0At x d.ticks
        twin.ls0Wall := setAt d2.twin.ls0Wall x d.now
        time.surveys := modAt d2.time.surveys x fun v => { v with complete := false } }
    else d2
  if isSender st && startsSending was s && d.getb TIME_CTRL_SURVEY_EN then d3.surveySoon x else d3

/-- Entry to REFWAIT: the rate is taken from RATE (R127, R141). -/
def Dev.enterRefwait (st : Straps) (x : Nat) (d : Dev) : Dev :=
  let d1 := (d.receiversOff x).modPort x fun p => { p with rate := d.get (LANE_CTRL_RATE x) }
  let idle := isSender st && d.getb (LANE_CTRL_TXIDLE x)
  let d2 := d1.enter st x (if idle then P_LISTEN else P_REFWAIT)
  (d2.modPort x fun p => { p with refwait := true }).takeSsc st

/-- The taps that adaptation starts from: the saved ones, or the defaults (R141, R148). -/
def LaneSt.startTaps (l : LaneSt) : LaneSt :=
  { l with taps := some (match l.saved with
      | some t => t
      | none => Config.defaultTaps) }

/-- A lane enters TRAIN: the PRBS is loaded, the adaptation step is μ, and markers count anew (R124, R128, R148). -/
def LaneSt.train (l : LaneSt) : LaneSt := { l with prbs := 0x7FFFFFFF, fullStep := true, markRun := 0 }

/-- Entry to TRAIN: training frames are sent, and SSC is taken anew (R124, R136, R141). -/
def Dev.enterTrain (st : Straps) (x : Nat) (d : Dev) : Dev :=
  let d1 := d.enter st x P_TRAIN
  (d1.modPort x fun p =>
    { p with lanes := p.lanes.map LaneSt.train, txonlyPath := false, countdownSent := false, peerCd0 := false,
             sscTaken := false }).emitTraining st x false 0

/-- Entry to GO: the countdown of 16 frames (R141). -/
def Dev.enterGo (st : Straps) (x : Nat) (txonly : Bool) (d : Dev) : Dev :=
  let d1 := (d.enter st x P_GO).modPort x fun p =>
    { p with txonlyPath := txonly, countdownSent := false, peerCd0 := false }
  d1.each [15, 14, 13, 12, 11, 10, 9, 8, 7, 6, 5, 4, 3, 2, 1, 0] fun d cd => d.emitTraining st x true cd

/-- Entry to LS0 with LANE_UP. -/
def Dev.linkUp (st : Straps) (x : Nat) (d : Dev) : Dev := (d.enter st x P_LS0).event st EV_LANE_UP 0 0 0

/-- Entry to LS2: transmitters idle, receivers off (R141). -/
def Dev.enterLs2 (st : Straps) (x : Nat) (d : Dev) : Dev :=
  ((d.enter st x P_LS2).receiversOff x).emit (.txIdle x)

/-- The port falls back to TRAIN with LANE_DOWN. -/
def Dev.linkDown (st : Straps) (x : Nat) (d : Dev) : Dev :=
  ((d.set (LANE_STAT_DOWN_SEEN x) 1).event st EV_LANE_DOWN 0 0 0).enterTrain st x

/-- Codewords with cells are sent in TXONLY; with TARGET = LS2 the port goes on to LS2 (R141). -/
def Dev.enterTxonly (st : Straps) (x : Nat) (d : Dev) : Dev :=
  let d1 := d.enter st x P_TXONLY
  if d.get (LANE_CTRL_TARGET x) == 2 then d1.enterLs2 st x else d1

/-- In GO with the own countdown sent: LS0 on the peer's CD = 0, or on locked codewords with RXLOCK = 1 in 4
consecutive ones; TXONLY on the TXONLY path (R141). -/
def Dev.goCheck (st : Straps) (x : Nat) (d : Dev) : Dev :=
  let p := d.port x
  if d.pstate x == P_GO && p.countdownSent then
    if p.peerCd0 || (d.rxUp x && 4 ≤ p.peerLockCw) then d.linkUp st x
    else if p.txonlyPath then d.enterTxonly st x
    else d
  else d

/-! EN, TARGET and TXIDLE. -/

/-- LANE_x_CTRL.EN set (R141). -/
def Dev.opPortEnable (st : Straps) (x : Nat) (d : Dev) : Dev :=
  if !portExists st x then d
  else
    let d1 := d.set (LANE_CTRL_EN x) 1
    if d.pstate x == P_DOWN then d1.enterRefwait st x else d1

/-- LANE_x_CTRL.EN cleared: DOWN from any state (R141). Without power the lanes show LOS and LOL; their SEEN bits stay (log
entry 147). -/
def Dev.opPortDisable (st : Straps) (x : Nat) (d : Dev) : Dev :=
  if !portExists st x || !d.getb (LANE_CTRL_EN x) then d
  else
    let d1 := ((d.set (LANE_CTRL_EN x) 0).enter st x P_DOWN).receiversOff x
    let d2 := d1.modPort x fun p => { p with losSince := some (p.losSince.getD d.ticks) }
    (d2.setAll [(LANEN_STAT_LOS x 0, 1), (LANEN_STAT_LOS x 1, 1)]).emit (.txIdle x)

/-- A write of TARGET; 3 is a reserved encoding (R8, R141). -/
def Dev.opTarget (st : Straps) (x t : Nat) (d : Dev) : Dev :=
  if 2 < t then d
  else
    let d1 := d.set (LANE_CTRL_TARGET x) t
    let s := d.pstate x
    if s == P_LS1 && t == 0 then d1.enterGo st x false
    else if s == P_LS2 && t < 2 then d1.enterRefwait st x
    else if s == P_TXONLY && t == 2 then d1.enterLs2 st x
    else d1

/-- TXIDLE set: the transmitters idle at once and the port reports LISTEN (R145). In LS2, which R145 does not name, the lane
PLLs are still to lock again and RATE is not taken anew (log entry 107). -/
def Dev.opTxidleSet (st : Straps) (x : Nat) (d : Dev) : Dev :=
  let d1 := d.set (LANE_CTRL_TXIDLE x) 1
  let s := d.pstate x
  if s == P_DOWN || s == P_LISTEN then d1
  else
    let r := (d.port x).refwait || s == P_LS2
    ((d1.enter st x P_LISTEN).modPort x fun p => { p with refwait := r }).emit (.txIdle x)

/-- TXIDLE cleared: codewords at once with the receivers up, TRAIN otherwise (R145). -/
def Dev.opTxidleClear (st : Straps) (x : Nat) (d : Dev) : Dev :=
  let d1 := d.set (LANE_CTRL_TXIDLE x) 0
  if d.pstate x == P_LISTEN then
    if d.rxUp x then d1.enterTxonly st x else d1.enterTrain st x
  else d1

/-- Whether a write to TXIDLE is taken: sender role, and not while the twin logic owns it (R145, R287). -/
def txidleWritable (st : Straps) (d : Dev) : Bool := isSender st && !d.twin.en

/-- PORT_ENABLE (R141). -/
def execPortEnable (init : Initiator) (port : Port) (s : State) : Host.Outcome State Fault Refusal :=
  runBy init (fun _ _ => true) (fun st d => d.opPortEnable st port) s

/-- PORT_DISABLE (R141). -/
def execPortDisable (init : Initiator) (port : Port) (s : State) : Host.Outcome State Fault Refusal :=
  runBy init (fun _ _ => true) (fun st d => d.opPortDisable st port) s

/-- LANE_TARGET_WRITE (R141). -/
def execLaneTargetWrite (init : Initiator) (port : Port) (target : Fin 4) (s : State) :
    Host.Outcome State Fault Refusal :=
  runBy init (fun _ _ => true) (fun st d => d.opTarget st port target) s

/-- TXIDLE_SET (R145). -/
def execTxidleSet (init : Initiator) (port : Port) (s : State) : Host.Outcome State Fault Refusal :=
  runBy init txidleWritable (fun st d => d.opTxidleSet st port) s

/-- TXIDLE_CLEAR (R145). -/
def execTxidleClear (init : Initiator) (port : Port) (s : State) : Host.Outcome State Fault Refusal :=
  runBy init txidleWritable (fun st d => d.opTxidleClear st port) s

/-! Training and locking. -/

/-- LANE_PLL_LOCK: REFWAIT to TRAIN once the cleaner is locked; adaptation starts (R141). -/
def execLanePllLock (port : Port) (s : State) : Host.Outcome State Fault Refusal :=
  let x : Nat := port
  runIf (fun _ d => d.awake && (d.port x).refwait && d.getb LANE_REF_STAT_LOCKED)
    (fun st d =>
      let d1 := d.modPort x fun p => { p with lanes := p.lanes.map LaneSt.startTaps, refwait := false }
      if d.pstate x == P_REFWAIT then d1.enterTrain st x else d1) s

/-- What a marker or codeword of the peer reports is taken (R123, R125). `run` says whether it counts in the runs of
consecutive ones; both lanes carry the same report, and lane 0 counts. -/
def Dev.peerReport (x : Nat) (rxlock : Bool) (pmreq : Nat) (refdep run codeword : Bool) (d : Dev) : Dev :=
  let d1 := d.setAll [(LANE_STAT_TX_UP x, b2n rxlock), (LANE_STAT_PEER_PM x, pmreq), (LANE_STAT_PEER_REFDEP x, b2n refdep)]
  if !run then d1
  else d1.modPort x fun p =>
    { p with
      peerLockRun := if rxlock then p.peerLockRun + 1 else 0
      peerLockCw := if rxlock && codeword then p.peerLockCw + 1 else 0
      peerPmRun := if p.peerPm = pmreq then p.peerPmRun + 1 else 1
      peerPm := pmreq
      peerUnlockSince :=
        if rxlock || !codeword then none
        else match p.peerUnlockSince with
          | some t => some t
          | none => some d.ticks }

/-- The LANEID that arrives on lane 0 tells whether the lanes are crossed (R130). -/
def Dev.noteLaneId (x n : Nat) (laneid : Bool) (d : Dev) : Dev :=
  if n = 0 then d.setb (LANE_STAT_SWAP x) laneid else d

/-- The adaptation of a lane stands still: LOS holds, or the drift guard has frozen it (R142, R148). -/
def Dev.frozen (d : Dev) (x n : Nat) : Bool := d.getb (LANEN_STAT_LOS x n) || d.getb (LANEN_STAT_GUARD x n)

/-- One adaptation of a lane's taps, at its step (R147, R148). The samples are free (log entry 108). -/
def Dev.adapt (x n : Nat) (d : Dev) : Dev :=
  if d.frozen x n then d
  else
    { d with free := d.free + 1 }.modLane x n fun l =>
      { l with taps := some (Config.lms l.fullStep (l.taps.getD Config.defaultTaps) d.free) }

/-- A lane after the marker of a training frame: the run of valid ones at one position and polarity (R128), and the
precoder's state after the frame's last symbol (R122), at the polarity of a valid marker or else at the one that the receiver
corrects for (R130). -/
def LaneSt.mark (l : LaneSt) (inverted : Bool) (position : Nat) (marker : Option Bool) (last : Nat) : LaneSt :=
  match marker with
  | none => { l with markRun := 0, rxPrev := atPolarity inverted last }
  | some inv =>
    let goesOn := l.markRun != 0 && l.markPos == position && l.markInv == inv
    { l with markRun := if goesOn then l.markRun + 1 else 1, markPos := position, markInv := inv
             rxPrev := atPolarity inv last }

/-- SSC is taken from the first valid marker of a training, on the port whose reference a tile uses (R136). -/
def Dev.noteSsc (st : Straps) (x : Nat) (ssc : Bool) (d : Dev) : Dev :=
  if isTile st && d.get LANE_REF_STAT_SRC == x && !(d.port x).sscTaken then
    (d.setb LANE_REF_STAT_SSC ssc).modPort x fun p => { p with sscTaken := true }
  else d

/-- TRAINING_FRAME_RX: a valid marker's INFO word is taken (R125, R128, R130, R136, R141). An invalid one ends the runs. -/
def execTrainingFrameRx (port : Port) (lane : Lane) (position : Fin 2720) (marker : BitVec 64) (last : Fin 4)
    (s : State) : Host.Outcome State Fault Refusal :=
  let x : Nat := port
  let n : Nat := lane
  runIf (fun _ d => d.awake && d.pstate x != P_DOWN && d.pstate x != P_LS2 && !(d.port x).refwait)
    (fun st d =>
      let m := markerInfo marker
      let d0 := (d.modLane x n fun l => l.mark (d.getb (LANEN_STAT_POLINV x n)) position (m.map Prod.snd) last).adapt x n
      match m with
      | none => if n = 0 then d0.modPort x PortSt.breakRuns else d0
      | some (info, _) =>
        let d1 := (d0.peerReport x (natBit info 0) (natBits info 2 2) (natBit info 4) (n == 0) false).noteLaneId x n
          (natBit info 1)
        let d2 := d1.noteSsc st x (natBit info 5)
        let d3 := if natBit info 6 && natBits info 7 4 == 0 then d2.modPort x fun p => { p with peerCd0 := true } else d2
        if d.pstate x == P_LS1 && natBits info 2 2 == 0 then d3.enterGo st x false else d3.goCheck st x) s

/-- The states in which the receivers of a port look for lock. -/
def canLock (s : Nat) : Bool :=
  s == P_TRAIN || s == P_GO || s == P_RECOVER || s == P_TXONLY || s == P_LISTEN || s == P_LS1

/-- The lane has a signal and its LIVE is at or above THRESH (R128, R142). -/
def laneReady (d : Dev) (x n : Nat) : Bool :=
  d.get (LANEN_GUARD_THRESH x n) ≤ d.get (LANEN_EYEW_LIVE x n) && !d.getb (LANEN_STAT_LOS x n)

/-- What a lane in phase lock finds: the polarity, and the precoder's state after the symbols seen; `none` when neither 8
markers nor the hunt have succeeded (R128, R129). -/
def LaneSt.found (l : LaneSt) : LaneLock → Option (Bool × Nat)
  | .markers => if 8 ≤ l.markRun then some (l.markInv, l.rxPrev) else none
  | .hunt line =>
    let levels := line.map Fin.val
    (huntLine levels).map fun e => (e.2, atPolarity e.2 (nth levels (e.1 + 4 * codewordSymbols) 0))

/-- One lane's receiver locks where the conditions of R128 hold; its next codeword is discarded (R122, R130). -/
def Dev.lockLane (x n : Nat) (how : Option LaneLock) (d : Dev) : Dev :=
  match how.bind (d.lane x n).found with
  | none => d
  | some (inv, prev) =>
    if !laneReady d x n then d
    else
      (d.setAll [(LANEN_STAT_LOL x n, 0), (LANEN_STAT_POLINV x n, b2n inv)]).modLane x n fun l =>
        { l with discardFirst := true, failRun := 0, rxPrev := prev }

/-- Both lanes are locked: neither reports loss of lock, and the signal and LIVE of each are as R128 has them. -/
def Dev.lanesLocked (d : Dev) (x : Nat) : Bool :=
  [0, 1].all fun n => !d.getb (LANEN_STAT_LOL x n) && laneReady d x n

/-- The port's receivers are locked: RECOVER returns to LS0, and the outgoing RXLOCK becomes 1 (R141). -/
def Dev.portLocked (st : Straps) (x : Nat) (d : Dev) : Dev :=
  let d1 := d.setAll [(LANE_STAT_SKEW x, 0), (LANE_STAT_RX_UP x, 1)]
  let d2 := if isSender st && !d.rxUp x then { d1 with twin.rxUpAt := setAt d1.twin.rxUpAt x d.ticks } else d1
  if d.pstate x == P_RECOVER then d2.enter st x P_LS0
  else if d.pstate x == P_TRAIN then d2.emitTraining st x false 0
  else d2

/-- RX_LOCK: the lanes lock; with both locked and their boundaries within 40 ns the port's receivers are (R128 to R130,
R141). -/
def execRxLock (port : Port) (lane0 lane1 : Option LaneLock) (skewNs : Nat) (s : State) :
    Host.Outcome State Fault Refusal :=
  let x : Nat := port
  runIf (fun _ d => d.awake && canLock (d.pstate x) && !(d.port x).refwait)
    (fun st d =>
      let d1 := (d.lockLane x 0 lane0).lockLane x 1 lane1
      if !d1.lanesLocked x then d1
      else if 40 < skewNs then d1.set (LANE_STAT_SKEW x) 1
      else d1.portLocked st x) s

/-- PEER_RXLOCK_SEEN: with the own receivers locked, TRAIN goes to GO and TXONLY to LS0 (R141), on the latest report of the
peer alone (log entry 146). -/
def execPeerRxlockSeen (port : Port) (s : State) : Host.Outcome State Fault Refusal :=
  let x : Nat := port
  runIf (fun _ d => d.awake && d.rxUp x && d.getb (LANE_STAT_TX_UP x))
    (fun st d =>
      if d.pstate x == P_TRAIN then d.enterGo st x false
      else if d.pstate x == P_TXONLY then d.linkUp st x
      else d) s

/-- COUNTDOWN_DONE: the own countdown has been sent (R141). -/
def execCountdownDone (port : Port) (s : State) : Host.Outcome State Fault Refusal :=
  let x : Nat := port
  runIf (fun _ d => d.awake && d.pstate x == P_GO && !(d.port x).countdownSent)
    (fun st d => (d.modPort x fun p => { p with countdownSent := true, since := d.ticks }).goCheck st x) s

/-- GO_TIMEOUT (R141). -/
def execGoTimeout (port : Port) (s : State) : Host.Outcome State Fault Refusal :=
  let x : Nat := port
  runIf (fun _ d => d.awake && d.pstate x == P_GO && (d.port x).countdownSent && d.passed (d.port x).since (ms 1))
    (fun st d => d.enterTrain st x) s

/-- TRAIN_TIMEOUT: TMO ms in TRAIN (R141). -/
def execTrainTimeout (port : Port) (s : State) : Host.Outcome State Fault Refusal :=
  let x : Nat := port
  runIf (fun _ d => d.awake && d.pstate x == P_TRAIN && d.passed (d.port x).since (ms (d.get (LANE_CTRL_TMO x))))
    (fun st d =>
      let d1 := d.set (LANE_STAT_TMO_SEEN x) 1
      (d1.eventIf st (!(d.port x).noLockRecorded) EV_LANE_NOLOCK 0 0 0).modPort x
        fun p => { p with noLockRecorded := true }) s

/-- Both receivers of the port are at LOS, for 20 ms since entering TRAIN. -/
def losLong (d : Dev) (x : Nat) : Bool :=
  match (d.port x).losSince with
  | some t => d.passed (max t (d.port x).since) (ms 20)
  | none => false

/-- TXONLY_LOS_TIMEOUT (R141). -/
def execTxonlyLosTimeout (port : Port) (s : State) : Host.Outcome State Fault Refusal :=
  let x : Nat := port
  runIf (fun _ d => d.awake && d.pstate x == P_TRAIN && d.getb (LANE_CTRL_TXONLY_EN x) && losLong d x)
    (fun st d => d.enterGo st x true) s

/-! Losing and regaining the signal. -/

/-- The port's receivers are no longer locked: LS0 goes to RECOVER (R141). -/
def Dev.unlock (st : Straps) (x : Nat) (d : Dev) : Dev :=
  let d1 := (d.set (LANE_STAT_RX_UP x) 0).modPort x PortSt.breakRuns
  if d.pstate x == P_LS0 then d1.enter st x P_RECOVER else d1

/-- LOS_ASSERT (R142). -/
def execLosAssert (port : Port) (lane : Lane) (s : State) : Host.Outcome State Fault Refusal :=
  let x : Nat := port
  runIf (fun _ d => d.awake && d.pstate x != P_DOWN)
    (fun st d =>
      let d1 := d.setAll [(LANEN_STAT_LOS x lane, 1), (LANEN_STAT_LOS_SEEN x lane, 1)]
      let both := d1.getb (LANEN_STAT_LOS x 0) && d1.getb (LANEN_STAT_LOS x 1)
      let d2 := if both && (d.port x).losSince.isNone then d1.modPort x fun p => { p with losSince := some d.ticks } else d1
      d2.unlock st x) s

/-- LOS_CLEAR (R142). -/
def execLosClear (port : Port) (lane : Lane) (s : State) : Host.Outcome State Fault Refusal :=
  let x : Nat := port
  runIf (fun _ d => d.awake && d.pstate x != P_DOWN)
    (fun _ d => (d.set (LANEN_STAT_LOS x lane) 0).modPort x fun p => { p with losSince := none }) s

/-- A lane's receiver is no longer locked (R143). -/
def Dev.loseLock (st : Straps) (x n : Nat) (d : Dev) : Dev :=
  ((d.setAll [(LANEN_STAT_LOL x n, 1), (LANEN_STAT_LOL_SEEN x n, 1)]).modLane x n LaneSt.unmarked).unlock st x

/-- LOSS_OF_LOCK: clock recovery leaves phase lock (R143). -/
def execLossOfLock (port : Port) (lane : Lane) (s : State) : Host.Outcome State Fault Refusal :=
  let x : Nat := port
  runIf (fun _ d => d.awake && d.pstate x != P_DOWN) (fun st d => d.loseLock st x lane) s

/-- RECOVER_TIMEOUT (R141). -/
def execRecoverTimeout (port : Port) (s : State) : Host.Outcome State Fault Refusal :=
  let x : Nat := port
  runIf (fun _ d => d.awake && d.pstate x == P_RECOVER && d.passed (d.port x).since (ms 1))
    (fun st d => d.linkDown st x) s

/-- The peer has reported RXLOCK = 0 for 1 ms of codewords. -/
def peerUnlocked (d : Dev) (x : Nat) : Bool :=
  match (d.port x).peerUnlockSince with
  | some t => d.passed t (ms 1)
  | none => false

/-- PEER_RXLOCK_LOST (R141). -/
def execPeerRxlockLost (port : Port) (s : State) : Host.Outcome State Fault Refusal :=
  let x : Nat := port
  runIf (fun _ d => d.awake && d.pstate x == P_LS0 && peerUnlocked d x)
    (fun st d => d.linkDown st x) s

/-- The state that the port and its peer agree to go to: the lesser of TARGET and the peer's PMREQ, once that was seen
in 4 consecutive markers or codewords (R141). -/
def agreed (d : Dev) (x : Nat) : Nat :=
  if 4 ≤ (d.port x).peerPmRun then min (d.get (LANE_CTRL_TARGET x)) (d.port x).peerPm else 0

/-- PM_AGREEMENT (R141, R144). -/
def execPmAgreement (port : Port) (s : State) : Host.Outcome State Fault Refusal :=
  let x : Nat := port
  runAwake (fun st d =>
    let k := agreed d x
    let s := d.pstate x
    if (s == P_LS0 || s == P_LS1) && 2 ≤ k then d.enterLs2 st x
    else if s == P_LS0 && k == 1 then (d.enter st x P_LS1).emitTraining st x false 0
    else d) s

/-- LS2_ENERGY_DETECT (R141). -/
def execLs2EnergyDetect (port : Port) (s : State) : Host.Outcome State Fault Refusal :=
  let x : Nat := port
  runIf (fun _ d => d.awake && d.pstate x == P_LS2) (fun st d => d.enterRefwait st x) s

/-! The reference cleaner (R131 to R140). -/

/-- The status bit that shows edges on the selected input. -/
def refOkFld (d : Dev) : Fld := if d.get LANE_REF_STAT_SRC == 0 then LANE_REF_STAT_REFI_A_OK else LANE_REF_STAT_REFI_B_OK

/-- The inputs on which edges are present (R150); a sender's only input is that of port A (R134). -/
def Dev.noteEdges (st : Straps) (a b : Bool) (d : Dev) : Dev :=
  (d.setb LANE_REF_STAT_REFI_A_OK a).setb LANE_REF_STAT_REFI_B_OK (b && isTile st)

/-- CLEANER_LOCK: the outputs change from bypass to the cleaned clock; holdover ends (R132, R133). -/
def execCleanerLock (s : State) : Host.Outcome State Fault Refusal :=
  runAwake (fun _ d =>
    (d.setAll [(LANE_REF_STAT_LOCKED, 1), (LANE_REF_STAT_BYPASS, 0), (LANE_REF_STAT_HOLDOVER, 0),
      (refOkFld d, 1)]).emit (.refOut 2)) s

/-- REF_INPUT_LOSS: the cleaner enters holdover (R133). -/
def execRefInputLoss (s : State) : Host.Outcome State Fault Refusal :=
  runIf (fun _ d => d.awake && !d.getb LANE_REF_STAT_HOLDOVER)
    (fun st d => (d.setAll [(refOkFld d, 0), (LANE_REF_STAT_LOCKED, 0), (LANE_REF_STAT_HOLDOVER, 1),
      (LANE_REF_STAT_HOLD_SEEN, 1)]).event st EV_REF_HOLDOVER 0 0 0) s

/-- REF_SELECT_CHANGE: the selection asked for is carried out once the peer there reports REFDEP = 0 (R138 to R140). -/
def execRefSelectChange (s : State) : Host.Outcome State Fault Refusal :=
  runIf (fun st d => isTile st && d.awake && d.wantedRef != d.get LANE_REF_STAT_SRC &&
      !d.getb (LANE_STAT_PEER_REFDEP d.wantedRef))
    (fun st d => (d.set LANE_REF_STAT_SRC d.wantedRef).event st EV_REF_SWITCH 0 0 0) s

/-! The eye monitor and the drift guard (R147, R148). -/

/-- THRESH + HYST. -/
def guardHigh (d : Dev) (x n : Nat) : Nat := d.get (LANEN_GUARD_THRESH x n) + d.get (LANEN_GUARD_HYST x n)

/-- The port's receivers follow a new LIVE of a lane (R128): below THRESH they are not locked; in LS0, which they do not leave
for it, they are again once every condition holds. -/
def Dev.followLive (st : Straps) (x n : Nat) (d : Dev) : Dev :=
  if d.get (LANEN_EYEW_LIVE x n) < d.get (LANEN_GUARD_THRESH x n) then d.set (LANE_STAT_RX_UP x) 0
  else if d.pstate x == P_LS0 && !d.rxUp x && d.lanesLocked x then d.portLocked st x
  else d

/-- EYE_MONITOR_UPDATE: LIVE is updated; a lane whose LIVE falls from THRESH or above to below it restores its saved taps and
freezes (R147, R148). A lane that has saved none keeps the taps in use (log entry 109). The guard restores them while LOS
holds, too: R142 freezes adaptation (log entry 149). -/
def execEyeMonitorUpdate (port : Port) (lane : Lane) (live : BitVec 8) (s : State) :
    Host.Outcome State Fault Refusal :=
  let x : Nat := port
  let n : Nat := lane
  runAwake (fun st d =>
    let v := live.toNat
    let d1 := ((d.set (LANEN_EYEW_LIVE x n) v).followLive st x n).modLane x n fun l =>
      { l with goodSince :=
          if v < guardHigh d x n then none
          else match l.goodSince with
            | some t => some t
            | none => some d.ticks }
    if v < d.get (LANEN_GUARD_THRESH x n) && d.get (LANEN_GUARD_THRESH x n) ≤ d.get (LANEN_EYEW_LIVE x n) &&
        !d.getb (LANEN_STAT_GUARD x n) then
      let d2 := d1.modLane x n fun l =>
        { l with taps := match l.saved with
            | some t => some t
            | none => l.taps }
      (d2.setAll [(LANEN_STAT_GUARD x n, 1), (LANEN_STAT_GUARD_SEEN x n, 1)]).event st EV_LANE_GUARD 0 0 0
    else d1) s

/-- TAP_SAVE: the taps in use are saved every 10 ms while LIVE is at least THRESH + HYST (R148). -/
def execTapSave (port : Port) (lane : Lane) (s : State) : Host.Outcome State Fault Refusal :=
  let x : Nat := port
  let n : Nat := lane
  runIf (fun _ d => d.awake && guardHigh d x n ≤ d.get (LANEN_EYEW_LIVE x n) &&
      ((d.lane x n).saved.isNone || d.passed (d.lane x n).savedAt (ms 10)))
    (fun _ d => d.modLane x n fun l => { l with saved := some (l.taps.getD Config.defaultTaps), savedAt := d.ticks }) s

/-- LIVE has stayed at THRESH + HYST for 10 ms. -/
def goodLong (d : Dev) (x n : Nat) : Bool :=
  match (d.lane x n).goodSince with
  | some t => d.passed t (ms 10)
  | none => false

/-- GUARD_RESUME (R148). -/
def execGuardResume (port : Port) (lane : Lane) (s : State) : Host.Outcome State Fault Refusal :=
  let x : Nat := port
  let n : Nat := lane
  runIf (fun _ d => d.awake && d.getb (LANEN_STAT_GUARD x n) && goodLong d x n)
    (fun _ d => d.set (LANEN_STAT_GUARD x n) 0) s

end Sys2Proof.Machine
end

