-- ==== Sys2Proof/Machine/Transport.lean ====
section
/-! DEFINITION. Receiving codeword pairs, enumeration and the tile's WITNESS (spec/06_chain_transport.md R152, R163, R166,
R172, R173, R184; spec/05_chain_lanes.md R122, R123, R143, R148). -/

namespace Sys2Proof.Machine

/-! Codeword pairs. -/

/-- Consecutive codewords that fail before a lane signals loss of lock (R143). -/
def failLimit : Nat := 8

/-- A codeword that failed to decode: it is counted, and the descrambler holds bits that nobody knows (R122). The eighth in
a row in LS0 or RECOVER is a loss of lock (R143). -/
def Dev.codewordFailed (st : Straps) (x n : Nat) (d : Dev) : Dev :=
  let r := d.draw (2 ^ 58)
  let d1 := (r.2.add (LANEN_CWU_COUNT x n) 1).modLane x n fun l =>
    { l with failRun := l.failRun + 1, discardFirst := false, rxScr := BitVec.ofNat 58 r.1 }
  let d2 := if n = 0 then d1.modPort x PortSt.breakRuns else d1
  if failLimit ≤ (d2.lane x n).failRun && (d.pstate x == P_LS0 || d.pstate x == P_RECOVER) then d2.loseLock st x n else d2

/-- One lane's codeword (R119, R120): its link control field and cells, unless it fails to decode, is the first after a
lock, or its lane is not locked. -/
def Dev.takeCodeword (st : Straps) (x n : Nat) (c : Option RxCodeword) (d : Dev) :
    Option (Nat × List (List Byte)) × Dev :=
  if d.getb (LANEN_STAT_LOL x n) || d.getb (LANEN_STAT_LOS x n) then (none, d)
  else match c with
    | none => (none, d)
    | some w =>
      let l := d.lane x n
      let r := receiveCodeword l (d.getb (LANEN_STAT_POLINV x n)) w
      let d0 := d.modLane x n fun _ => r.2
      match r.1 with
      | none => (none, (d0.codewordFailed st x n).adapt x n)
      | some ((link, cells), corrected) =>
        let d1 := (d0.modLane x n fun l =>
          { l with failRun := 0, discardFirst := false, fullStep := natBits link 8 10 != 0 }).adapt x n
        let d2 := if corrected = 0 then d1
          else (d1.add (LANEN_CWC_COUNT x n) 1).add (LANEN_SYM_COUNT x n) corrected
        if l.discardFirst then (none, d2)
        else (some (link, cells),
          (d2.peerReport x (natBit link 0) (natBits link 1 2) (natBit link 3) (n == 0) true).noteLaneId x n
            (natBit link 4))

/-- The cells of a pair in slot order; `none` for codewords that do not pair (R152). Two with equal LANEID do not, whatever
their PAIRSEQ (log entry 110). -/
def pairCells (a b : Nat × List (List Byte)) : Option (List (List Byte)) :=
  if natBits a.1 5 3 != natBits b.1 5 3 || natBit a.1 4 == natBit b.1 4 then none
  else if natBit a.1 4 then some (b.2 ++ a.2) else some (a.2 ++ b.2)

/-- The cells that the two lanes deliver; a codeword without a partner is counted (R152). -/
def Dev.pairUp (x : Nat) (a b : Option (Nat × List (List Byte))) (d : Dev) : List (List Byte) × Dev :=
  match a, b with
  | some p, some q =>
    match pairCells p q with
    | some cells => (cells, d)
    | none => ([], d.add (XPT_CELLERR_COUNT x) 2)
  | none, none => ([], d)
  | _, _ => ([], d.add (XPT_CELLERR_COUNT x) 1)

/-- The receivers of a port take codewords: not in DOWN, REFWAIT or LS2, nor in LS1, where FEC and cell path are off
(R141). -/
def Dev.takesCodewords (d : Dev) (x : Nat) : Bool :=
  d.pstate x != P_DOWN && d.pstate x != P_LS2 && d.pstate x != P_LS1 && !(d.port x).refwait

/-- CODEWORD_PAIR_RX: the cells of a pair are checked, forwarded, consumed, and the free slots filled (R152, R166). -/
def execCodewordPairRx (port : Port) (lane0 lane1 : Option RxCodeword) (residence : Nat) (s : State) :
    Host.Outcome State Fault Refusal :=
  let x : Nat := port
  runIf (fun st d => d.awake && portExists st x && d.takesCodewords x)
    (fun st d =>
      let a := d.takeCodeword st x 0 lane0
      let b := a.2.takeCodeword st x 1 lane1
      let c := b.2.pairUp x a.1 b.1
      let r := c.2.takeCells st x residence c.1
      let d1 := if isTile st then r.2.relayPair st (otherPort x) (if r.1.isEmpty then List.replicate 20 none else r.1)
        else r.2
      d1.goCheck st x) s

/-- PACKET_REASSEMBLY_TIMEOUT: no cell of an open packet for 100 µs (R184). -/
def execPacketReassemblyTimeout (port : Port) (stream : Nat) (s : State) : Host.Outcome State Fault Refusal :=
  let x : Nat := port
  runIf (fun _ d => d.awake && (d.port x).open_.any fun r => r.stream == stream && d.passed r.lastCell (us 100))
    (fun _ d => (d.dropReasm x stream).add (XPT_PKTERR_COUNT x) 1) s

/-! Enumeration (R172, R173). -/

/-- The first packet that waits, when it satisfies `p`, and the device without it. -/
def Dev.takeRx (p : RxPkt → Bool) (d : Dev) : Option (RxPkt × Dev) :=
  match d.rxq with
  | k :: rest => if p k then some (k, { d with rxq := rest }) else none
  | [] => none

/-- Runs an effect on the first packet that waits when it satisfies `p`; nothing happens otherwise. -/
def Dev.onRx (p : RxPkt → Bool) (f : RxPkt → Dev → Dev) (d : Dev) : Dev :=
  match d.takeRx p with
  | some (k, d1) => f k d1
  | none => d

/-- The wall address that an ENUM offers. -/
def enumAddr (p : List Byte) : Nat := enumChain p % 64 * 64 + enumNext p

/-- A tile without an address sends no answer: those that wait for slots are dropped, begun or not (R157). -/
def Dev.dropAnswers (d : Dev) : Dev :=
  { d with ports := d.ports.map fun p => { p with own := p.own.filter fun e => decide (2 ≤ e.prec) } }

/-- ENUM_RECEIVE_HEAD (R172). The tile has forwarded the ENUM in its slot when it arrived (R166). -/
def execEnumReceiveHead (s : State) : Host.Outcome State Fault Refusal :=
  runTile (fun st d => d.onRx (fun k => k.port == 0 && isEnum k.bytes) fun k d =>
    let n := enumNext k.bytes
    if n ≤ 63 then
      let a := enumAddr k.bytes
      let d1 := if d.addrValid && d.get XPT_ADDR_ADDR != a then
          (d.set XPT_STAT_RENUM 1).event st EV_XPT_RENUM 0 0 0
        else d
      d1.setAll [(XPT_ADDR_ADDR, a), (XPT_ADDR_VALID, 1)]
    else (d.dropAnswers.setAll [(XPT_ADDR_VALID, 0), (XPT_STAT_OVERLONG, 1)]).event st EV_XPT_OVERLONG 0 0 0) s

/-- ENUM_RECEIVE_TAIL (R173). The tile has forwarded the ENUM in its slot when it arrived (R166). -/
def execEnumReceiveTail (s : State) : Host.Outcome State Fault Refusal :=
  runTile (fun _ d => d.onRx (fun k => k.port == 1 && isEnum k.bytes) fun k d =>
    if !d.addrValid && decide (enumNext k.bytes ≤ 63) then
      d.setAll [(XPT_ADDR_ADDR, enumAddr k.bytes), (XPT_ADDR_VALID, 1)]
    else d) s

/-- ENUM_AT_TAIL_SENDER: an ENUM from the head end gives the chain length (R172, R185). -/
def execEnumAtTailSender (s : State) : Host.Outcome State Fault Refusal :=
  runSender (fun _ d => d.onRx (fun k => isEnum k.bytes) fun k d =>
    let n := enumNext k.bytes
    let d1 := if n = 64 then
        { d.set XPT_STAT_OVERLONG 1 with host.enumWait := d.host.enumWait.map fun w => (w.1, w.2.1, w.2.2.1, true) }
      else d
    if pktTail k.bytes then d1 else d1.setAll [(XPT_CHAIN_COUNT k.port, n), (XPT_CHAIN_COUNT_VALID k.port, 1)]) s

/-! The WITNESS (R163). -/

/-- The body of a WITNESS sent on a port. -/
def witnessBody (d : Dev) (x : Nat) : List Byte :=
  let acc := d.acceptedSource
  let flags := match acc with
    | some k => b2n k.pri + 2 * b2n k.tail + 4
    | none => 0
  let links := b2n (d.pstate 0 == P_LS0) + 2 * b2n (d.pstate 1 == P_LS0)
  leBytes (keyEpoch acc) 4 ++ leBytes (flags + 8 * b2n (x == 1)) 1 ++ leBytes d.tile.drive.lastFrame 1 ++
  leBytes links 1 ++ leBytes 0 1 ++ leBytes (d.port x).wseq 2 ++ leBytes 0 2

/-- The WITNESS period less its tolerance. -/
def witnessPeriod : Nat := us 990

/-- WITNESS_SEND (R163). -/
def execWitnessSend (port : Port) (s : State) : Host.Outcome State Fault Refusal :=
  let x : Nat := port
  runIf (fun st d => isTile st && d.awake && decide (x < 2) && d.getb XPT_CTRL_WIT_EN &&
      (d.pstate x == P_LS0 || d.pstate x == P_TXONLY) && d.passed (d.port x).lastWit witnessPeriod)
    (fun st d =>
      let body := witnessBody d x
      (d.modPort x fun p => { p with wseq := (p.wseq + 1) % 65536, lastWit := d.ticks }).sendOwn st x 2
        (tilePkt d PT_WITNESS 0 body)) s

end Sys2Proof.Machine
end

