-- ==== Sys2Proof/Machine/Store.lean ====
section
/-! DEFINITION. A tile's frames from their FLIP-HDR to their compose deadline: the packets taken, the source store, the
compose deadline and the swap point (spec/06_chain_transport.md R182, spec/08_composition.md R221,
spec/02_self_timed_fabric.md R39, R40, spec/07_wall_time.md R207). -/

namespace Sys2Proof.Machine

/-! Instants of a frame (R39, R40). -/

/-- The compose deadline, P − 1.5 ms. -/
def composeDeadline (present : Nat) : Nat := present - 1500000

/-- The swap point, P − 10 µs. -/
def swapPoint (present : Nat) : Nat := present - 10000

/-! The frames at the tile, earliest present time first. -/

/-- The layer records of a FLIP-HDR body (R161). -/
def hdrRecords (h : List Byte) : List (List Byte) := (List.range (byteAt h 1)).map fun i => slice h (32 + 32 * i) 32

/-- The guard entries of a FLIP-HDR body. -/
def hdrGuards (h : List Byte) : List (List Byte) :=
  (List.range (leAt h 2 2 / 16)).map fun i => slice h (32 + 32 * byteAt h 1 + 16 * i) 16

/-- The present time in a FLIP-HDR body. -/
def hdrPresent (h : List Byte) : Nat := natBits (leAt h 8 8) 0 48 * giga + natBits (leAt h 4 4) 0 30

/-- A new frame takes its place by present time. -/
def insertFrame (f : TileFrame) : List TileFrame → List TileFrame
  | [] => [f]
  | g :: rest => if g.present ≤ f.present then g :: insertFrame f rest else f :: g :: rest

/-- The frame of a FRAME number from the accepted source. -/
def Dev.frameOf (d : Dev) (n : Nat) : Option TileFrame := d.tile.frames.find? fun f => f.frame == n && f.past == 0

/-- Whether two records are of one frame. -/
def TileFrame.same (f g : TileFrame) : Bool := f.frame == g.frame && f.past == g.past

/-- Changes a frame's record. -/
def Dev.modFrame (d : Dev) (f : TileFrame) (g : TileFrame → TileFrame) : Dev :=
  { d with tile.frames := d.tile.frames.map fun h => if h.same f then g h else h }

/-- A frame fails a condition of R28; the first one found stands (R369). -/
def TileFrame.failed (c : Nat) (f : TileFrame) : TileFrame :=
  match f.fail with
  | some _ => f
  | none => { f with fail := some c }

/-- A frame is done with: its blocks are freed, and the FRAME of one from the accepted source is kept as one whose FLIP-HDR
was taken. -/
def Dev.dropFrame (d : Dev) (f : TileFrame) : Dev :=
  { d with
    tile.frames := d.tile.frames.filter fun g => !g.same f
    tile.done := if f.past = 0 then f.frame :: d.tile.done.take 63 else d.tile.done }

/-- A frame is held under R29: the event, the counter, and its blocks are freed (R221). -/
def Dev.holdFrame (st : Straps) (f : TileFrame) (c : Nat) (d : Dev) : Dev :=
  let d1 := d.event st EV_FRAME_HELD c (f.present % giga) (f.present / giga)
  { d1 with tile.heldCount := d1.tile.heldCount + 1 }.dropFrame f

/-! The source store (R221). -/

/-- Slots in use. -/
def Dev.storeUsed (d : Dev) : Nat :=
  (d.tile.frames.map fun f => f.blocks.length).sum + (d.tile.held.map fun h => h.blocks.length).sum

/-- PEAK follows the slots in use; `fresh` starts a new frame's entry. -/
def Dev.notePeak (fresh : Bool) (d : Dev) : Dev :=
  let used := d.storeUsed
  let hist := if fresh then used :: d.tile.usedHist.take 63
    else match d.tile.usedHist with
      | [] => [used]
      | h :: rest => max h used :: rest
  { d with tile.usedHist := hist }.set CMP_STORE_PEAK (hist.foldl max 0)

/-- Whether a frame holds every block of a layer that a footprint needs. -/
def hasBlocks (blocks : List StoreBlock) (l : Layer) (needed : List (Nat × Nat)) : Bool :=
  needed.all fun b => blocks.any fun s => s.layer == l.number && s.bx == b.1 && s.by_ == b.2

/-- The layers of a frame, as its header gives them. -/
def TileFrame.layers (f : TileFrame) : List Layer := (hdrRecords f.header).map layerOfRecord

/-- Whether the PRESENT taken marks a layer as held. -/
def TileFrame.heldBit (f : TileFrame) (n : Nat) : Bool :=
  match f.close with
  | some c => natBit c.1 n
  | none => false

/-- Whether a layer of a frame is composed from its held version: marked in HELD, or with a block that failed (R109,
R112). -/
def TileFrame.fromHeld (f : TileFrame) (n : Nat) : Bool := f.heldBit n || f.badLayers.contains n

/-- A frame that will not be presented: a condition of R28 has failed, or its PRESENT has come and a block discarded is one
that it needs (R221). -/
def Dev.doomed (d : Dev) (f : TileFrame) : Bool :=
  f.fail.isSome || f.close.isSome && f.lost.any fun b =>
    !f.fromHeld b.1 && f.layers.any fun l =>
      l.number == b.1 && (blocksNeeded f.mode (d.frameFp f) l).contains b.2

/-- A held version that may be reclaimed: that of a layer whose composing version, in the first frame, is complete and is what
the frame is composed from. Of several, the first in entry order is freed, one layer for each block that finds no slot (log
entry 142). -/
def Dev.reclaimable (d : Dev) : Option Nat :=
  match d.tile.frames with
  | [] => none
  | f :: _ =>
    (f.layers.find? fun l => (d.tile.held.any fun h => h.layer == l.number && !h.blocks.isEmpty) &&
      !f.fromHeld l.number && hasBlocks f.blocks l (blocksNeeded f.mode (d.frameFp f) l)).map Layer.number

/-- The number of slots of the source store. -/
def storeSlots : Nat := 2048

/-- Makes room for one block: first the blocks of frames that will not be presented, then a held version (R221). -/
def Dev.makeRoom (st : Straps) (d : Dev) : Dev :=
  if d.storeUsed < storeSlots then d
  else if d.tile.frames.any fun f => d.doomed f && !f.blocks.isEmpty then
    ({ d with tile.frames := d.tile.frames.map fun (f : TileFrame) => if d.doomed f then { f with blocks := [] } else f }.set
      CMP_STAT_RECLAIM_SEEN 1).event st EV_CMP_RECLAIM 0 0 0
  else match d.reclaimable with
    | some n =>
      ({ d with tile.held := d.tile.held.filter fun h => h.layer != n }.set CMP_STAT_RECLAIM_SEEN 1).event st
        EV_CMP_RECLAIM 0 0 0
    | none => d

/-- What the bytes of a stored block hold. -/
def StoreBlock.item (b : StoreBlock) : SramItem := .block b.frame b.layer b.bx b.by_

/-- A decoded block enters the store, or is discarded for want of a slot (R221). -/
def Dev.storeBlock (st : Straps) (f : TileFrame) (b : StoreBlock) (d : Dev) : Dev :=
  let d1 := d.makeRoom st
  if d1.storeUsed < storeSlots then
    ((d1.modFrame f fun f => { f with blocks := f.blocks ++ [b] }).memWrite 1 0 b.item).notePeak false
  else
    ((d1.modFrame f fun f => { f with lost := (b.layer, b.bx, b.by_) :: f.lost }).set CMP_STAT_FULL_SEEN 1).event st EV_CMP_STORE_FULL 0 0 0

/-! Packets of a frame (R182). -/

/-- Whether the copies of a FLIP-HDR name a frame that has been taken. -/
def Dev.hdrTaken (d : Dev) (p : List Byte) : Bool :=
  (d.tile.frames.any fun f => f.frame == pktFrame p && f.past == 0 && f.present == hdrPresent (pktBody p)) ||
  (pktCopy p && d.tile.lastHdr == some (pktFrame p))

/-- The numbers skipped before a FRAME. -/
def Dev.framesMissed (d : Dev) (n : Nat) : Nat :=
  match d.tile.lastHdr with
  | some l => (n + 511 - l) % 256
  | none => 0

/-- A frame as its FLIP-HDR opens it. -/
def newFrame (n : Nat) (h : List Byte) : TileFrame :=
  { frame := n, past := 0, header := h, present := hdrPresent h, mode := byteAt h 0, close := none, blocks := [], seen := [],
    badLayers := [], lost := [], judged := false, fail := none, sample := TempSample.init, mask := [], corCtrl := 0,
    seam := [], filters := [], foot := (0, 0), slot := 3, coef := none, guardOn := false, safeObj := [], addr := 0,
    checks := [], composed := false, slackUs := 0 }

/-- A FLIP-HDR from the accepted source is taken, by a tile with an address (R157). -/
def Dev.takeHeader (st : Straps) (p : List Byte) (d : Dev) : Dev :=
  if !d.addrValid || !d.fromAccepted p || !d.getb GEN_STAT_READY || d.hdrTaken p then d
  else
    let n := pktFrame p
    let skipped := d.framesMissed n
    let f := newFrame n (pktBody p)
    let d1 := d.eventIf st (skipped != 0) EV_FRAME_MISSING skipped 0 0
    let retune := match d1.tile.drive.mode with
      | some m => if m != f.mode then some (f.mode, f.present) else d1.tile.drive.retune
      | none => d1.tile.drive.retune
    { d1 with
      tile.frames := insertFrame f (d1.tile.frames.filter fun g => !g.same f)
      tile.lastHdr := some n
      tile.drive.retune := retune }.snoopBoundary st 1

/-- FLIP_HDR_RECEIVE (R182, R280, R404). -/
def execFlipHdrReceive (s : State) : Host.Outcome State Fault Refusal :=
  runTile (fun st d => d.onRx (fun k => pktType k.bytes == PT_FLIP_HDR) fun k d =>
    (d.hearSender st k.bytes).takeHeader st k.bytes) s

/-- A BLOCK of an open frame, not a duplicate, in time: it is decoded and stored, or its layer fails condition 5 of R96
(R112). Capture units that tap the layer take its header and payload (R383). -/
def Dev.takeBlock (st : Straps) (f : TileFrame) (body : List Byte) (d : Dev) : Dev :=
  let layer := natBits (byteAt body 8) 0 4
  let bx := leAt body 10 2
  let byy := leAt body 12 2
  let hdr := leAt body 16 8
  let d1 := (d.modFrame f fun g => { g with seen := (layer, bx, byy) :: g.seen }).snoopFeed st 1 layer (body.drop 16)
  match decodeBlock hdr (body.drop 24) with
  | none =>
    (d1.modFrame f fun g => { g with badLayers := layer :: g.badLayers.filter fun n => n != layer }).event st
      EV_LAYER_FORMAT layer (bx + 65536 * byy) f.frame
  | some samples =>
    if f.heldBit layer then d1
    else d1.storeBlock st f
      { frame := f.frame, layer := layer, bx := bx, by_ := byy, samples := samples, invalid := false }

/-- BLOCK_RECEIVE (R39, R182, R221). -/
def execBlockReceive (s : State) : Host.Outcome State Fault Refusal :=
  runTile (fun st d => d.onRx (fun k => pktType k.bytes == PT_BLOCK) fun k d =>
    let n := pktFrame k.bytes
    let body := pktBody k.bytes
    if !d.addrValid || !d.fromAccepted k.bytes then d
    else match d.frameOf n with
      | none => if d.tile.done.contains n then d.add FAB_LATE_CNT_COUNT 1 else d.add (XPT_ORPHAN_COUNT k.port) 1
      | some f =>
        if f.seen.contains (natBits (byteAt body 8) 0 4, leAt body 10 2, leAt body 12 2) then d
        else if composeDeadline f.present < d.now then d.add FAB_LATE_CNT_COUNT 1
        else d.takeBlock st f body) s

/-- The PRESENT closes a frame: the blocks received of the layers that it marks as held are discarded (R111). -/
def TileFrame.closed (held : Nat) (trunc : Bool) (f : TileFrame) : TileFrame :=
  { f with close := some (held, trunc), blocks := f.blocks.filter fun b => !natBit held b.layer }

/-- PRESENT_RECEIVE: the first copy closes its frame, up to the compose deadline (R162, R182). -/
def execPresentReceive (s : State) : Host.Outcome State Fault Refusal :=
  runTile (fun st d => d.onRx (fun k => pktType k.bytes == PT_PRESENT) fun k d =>
    let body := pktBody k.bytes
    match d.frameOf (pktFrame k.bytes) with
    | some f =>
      if d.addrValid && d.fromAccepted k.bytes && f.close.isNone && decide (d.now ≤ composeDeadline f.present) then
        (d.modFrame f (TileFrame.closed (leAt body 12 2) (natBit (byteAt body 14) 0))).endCaptures st 1
      else d
    | none => d) s

/-! The compose deadline (R28, R39, R230, R271, R306). -/

/-- The lamps masked: with MASK_EN those whose LAST is OPEN or SHORT, and the forced ones (R271). -/
def Dev.maskMap (d : Dev) : List Nat :=
  let auto := if d.getb DIAG_CTRL_MASK_EN then
      (d.diag.last.filter fun e => e.2 == 2 || e.2 == 3).map Prod.fst
    else []
  auto ++ d.diag.forced.filter fun n => !auto.contains n

/-- The held version of a layer. -/
def Dev.heldLayer (d : Dev) (n : Nat) : Option HeldLayer := d.tile.held.find? fun h => h.layer == n

/-- The fields that R109 compares: FORMAT, COLOUR, sizes and placement. -/
def sameGeometry (a b : Layer) : Bool :=
  a.format == b.format && a.colour == b.colour && a.srcW == b.srcW && a.srcH == b.srcH && a.dstX == b.dstX &&
  a.dstY == b.dstY && a.dstW == b.dstW && a.dstH == b.dstH

/-- The blocks that a layer of a frame is composed from; `none` when the layer is left out (R109). -/
def Dev.layerBlocks (d : Dev) (f : TileFrame) (l : Layer) : Option (List StoreBlock) :=
  if f.fromHeld l.number then
    match d.heldLayer l.number with
    | some h =>
      if sameGeometry (layerOfRecord h.entry) l &&
          hasBlocks h.blocks l (blocksNeeded f.mode (d.frameFp f) l) then some h.blocks
      else none
    | none => none
  else some (f.blocks.filter fun b => b.layer == l.number)

/-- Whether condition 1 of R28 holds: the PRESENT has come, every needed block of every layer that is composed from this
frame has arrived, and no block that the frame needs is marked invalid (R45). A layer that is held here alone, for a block
that failed its check (R112), is composed from its held version and does not count, as one marked in HELD does not (log entry
143). -/
def Dev.blocksArrived (d : Dev) (f : TileFrame) : Bool :=
  f.close.isSome &&
  f.layers.all fun l =>
    let need := blocksNeeded f.mode (d.frameFp f) l
    (f.fromHeld l.number || hasBlocks f.blocks l need) &&
    match d.layerBlocks f l with
    | some bs => !(bs.any fun b => b.invalid && need.contains (b.bx, b.by_))
    | none => true

/-- The frame whose compose deadline has come and is not judged. -/
def Dev.toJudge (d : Dev) : Option TileFrame :=
  d.tile.frames.find? fun f => !f.judged && decide (composeDeadline f.present ≤ d.now)

/-- P_a of the pauses that hold frames: of one that has begun, and of the one that an armed activation begins which changes the
management image (R357). -/
def Dev.pauses (st : Straps) (d : Dev) : List Nat :=
  (match d.nvm.trusted.switched with
   | some (pa, true) => [pa]
   | _ => []) ++
  match d.nvm.trusted.armed with
  | some a => if d.mgmtSame st (d.slotObject 1 d.otherMfst) then [] else [a.1]
  | none => []

/-- A present time in the pause of an activation (R357). -/
def Dev.inPause (st : Straps) (d : Dev) (present : Nat) : Bool :=
  (d.pauses st).any fun pa => decide (pa ≤ present) && decide (present < pa + 250000000)

/-- The device is in the pause of an activation: what needs management firmware waits (R357). -/
def Dev.paused (d : Dev) : Bool :=
  match d.nvm.trusted.switched with
  | some w => w.2
  | none => false

/-- Management firmware carries out what it is given: it runs, and no pause holds it (R176, R357). -/
def Dev.firmware (d : Dev) : Bool := d.boot.mcRunning && !d.paused

/-- The slot whose set a frame uses: 0, 1, or 3 for the default set (R238). -/
def Dev.slotFor (d : Dev) (present : Nat) : Nat :=
  let act := d.get COR_STAT_ACTIVE
  if d.getb COR_STAT_PEND && decide (d.timeOf COR_AT_NS_NS COR_AT_SL_S COR_AT_SH_S ≤ present) then
    d.tile.staged
  else act

/-- The stored bytes of a coefficient slot; `none` for the default set. -/
def Dev.coefBytes (d : Dev) (slot : Nat) : Option (List Byte) :=
  if slot < 2 then some (nth d.nvm.coef slot NvmSlot.empty).bytes else none

/-- The deadline of one frame: arrival is judged, and the sample, the mask and every input of composition and correction
that a command could still change are latched (R26, R27, R230, R271). -/
def Dev.judge (st : Straps) (f : TileFrame) (d : Dev) : Dev :=
  let s := d.takeSample st
  let arrived := d.blocksArrived f
  let low := d.getb FAB_STAT_VLOW
  s.2.modFrame f fun g =>
    let h := { g with
      judged := true, sample := s.1, mask := d.maskMap, corCtrl := d.rd COR_CTRL, foot := d.footWords f.present
      slot := d.slotFor f.present
      seam := (List.range 4).flatMap fun e => (List.range 4).flatMap fun k => (List.range 3).map fun c =>
        d.get (COR_SEAM_GAIN e k c)
      filters := (List.range 2).flatMap fun e => (List.range 32).flatMap fun p => (List.range 3).map fun k =>
        d.rd (CMP_UF e p k)
      coef := d.coefBytes (d.slotFor f.present), guardOn := d.getb CMP_CTRL_GUARD_EN
      safeObj := d.objectInForce NK_SAFE, addr := d.get XPT_ADDR_ADDR }
    if d.inPause st f.present then h.failed 6 else if !arrived then h.failed 1 else if low then h.failed 2 else h

/-- COMPOSE_DEADLINE: P − 1.5 ms (R39). -/
def execComposeDeadline (s : State) : Host.Outcome State Fault Refusal :=
  runTile (fun st d =>
    match d.toJudge with
    | some f => d.judge st f
    | none => d) s

/-! The swap point (R40, R46). -/

/-- FAB_SLACK after a frame with this slack. -/
def Dev.noteSlack (us : Nat) (d : Dev) : Dev :=
  let hist := us :: d.tile.slackHist.take 63
  { d with tile.slackHist := hist }.setAll [(FAB_SLACK_LAST, us), (FAB_SLACK_MIN, hist.foldl min 65535)]

/-- SWAP_POINT: the remaining work of a frame is abandoned and the frame fails as compose incomplete (R40). -/
def execSwapPoint (s : State) : Host.Outcome State Fault Refusal :=
  runTile (fun _ d =>
    match d.tile.frames with
    | f :: _ =>
      if f.judged && !f.composed && f.fail.isNone && decide (swapPoint f.present ≤ d.now) then
        { (d.modFrame f (TileFrame.failed 4)).noteSlack 0 with tile.worked := true }
      else d
    | [] => d) s

/-! Clock steps (R207). -/

/-- M of a period of a mode: that of the period that runs, or by the SCAN in force there (R243). -/
def Dev.countAt (d : Dev) (mode k : Nat) : Nat :=
  let dr := d.tile.drive
  if dr.mode = some mode ∧ dr.k = k then dr.m
  else refreshCount mode (scanRows ((d.takeLate (gridAt mode k)).effGet GRY_SCAN_SCAN))

/-- The first refresh boundary of a mode at or after a time: grid index, refresh and instant (R201, R207, R257). -/
def Dev.boundaryAfter (d : Dev) (mode t : Nat) : Nat × Nat × Nat :=
  let k := gridIndexFrom mode t
  let m := d.countAt mode (if gridAt mode k = t || k = 0 then k else k - 1)
  let b := boundaryFrom mode m t
  (b.1, b.2, refreshAt mode m b.1 b.2)

/-! The supply (R38). -/

/-- Condition 2 fails for every frame between its compose deadline and its present time. -/
def Dev.failLow (d : Dev) : Dev :=
  { d with tile.frames := d.tile.frames.map fun f =>
      if composeDeadline f.present ≤ d.now then f.failed 2 else f }

end Sys2Proof.Machine
end

