-- ==== Sys2Proof/Machine/Compose.lean ====
section
/-! DEFINITION. Composition and correction of a frame (spec/08_composition.md R210 to R224, spec/09_lamp_correction.md
R227 to R233, R240), and the step that ends them. -/

namespace Sys2Proof.Machine

/-! Composition (R214 to R219). -/

/-- rnd on natural numbers (R12). -/
def rndNat (x n : Nat) : Nat := (x + 2 ^ (n - 1)) / 2 ^ n

/-- mul12 of R214. -/
def mul12 (x y : Nat) : Nat := rndNat (x * y + rndNat (x * y) 12) 12

/-- A source sample: three colour channels and alpha. -/
structure Sample where
  c0 : Nat
  c1 : Nat
  c2 : Nat
  a : Nat
  deriving DecidableEq, Repr

/-- The constants of R216: YOFF, KY, KRV, KGU, KGV, KBU. -/
def yccOf (e : Nat) : Int × Int × Int × Int × Int × Int :=
  match e with
  | 1 => (256, 19077, 29372, 3494, 8731, 34610)
  | 2 => (0, 16384, 25802, 3069, 7670, 30402)
  | 3 => (256, 19077, 27503, 3069, 10657, 35092)
  | _ => (0, 16384, 24160, 2696, 9361, 30825)

/-- A 12-bit channel from an integer. -/
def ch12 (v : Int) : Nat := (sat v 0 4095).toNat

/-- convert of R216. -/
def convert (e c0 c1 c2 : Nat) : Nat × Nat × Nat :=
  if e = 0 then (c0, c1, c2)
  else if e = 5 then
    let f (c : Nat) : Nat := ch12 (rnd (19077 * ((c : Int) - 256)) 14)
    (f c0, f c1, f c2)
  else
    let k := yccOf e
    let y := (c0 : Int) - k.1
    let cb := (c1 : Int) - 2048
    let cr := (c2 : Int) - 2048
    (ch12 (rnd (k.2.1 * y + k.2.2.1 * cr) 14),
     ch12 (rnd (k.2.1 * y - k.2.2.2.1 * cb - k.2.2.2.2.1 * cr) 14),
     ch12 (rnd (k.2.1 * y + k.2.2.2.2.2 * cb) 14))

/-- A layer with the blocks it is composed from. -/
structure CompLayer where
  layer : Layer
  blocks : List StoreBlock
  deriving DecidableEq, Repr

/-- The sample of a block at a place in it; a block that is not there is never asked for. -/
def blockSample (blocks : List StoreBlock) (n i j k : Nat) : Nat :=
  match blocks.find? fun b => b.layer == n && b.bx == i / 32 && b.by_ == j / 8 with
  | some b => nth b.samples (4 * (32 * (j % 8) + i % 32) + k) 0
  | none => 0

/-- src of R215. -/
def srcSample (c : CompLayer) (i j : Int) : Sample :=
  let l := c.layer
  let x := (sat i 0 ((l.srcW : Int) - 1)).toNat
  let y := (sat j 0 ((l.srcH : Int) - 1)).toNat
  let v (k : Nat) : Nat := blockSample c.blocks l.number x y k
  let a := v 3
  let r := convert l.encoding (v 0) (v 1) (v 2)
  let p (ch : Nat) : Nat := if l.premult then min ch a else mul12 ch a
  { c0 := p r.1, c1 := p r.2.1, c2 := p r.2.2, a := a }

/-- The coefficients of a filter set at a phase (R218); `uf` holds the words of the user sets. -/
def filterCoefs (uf : List Word) (f p : Nat) : List Int :=
  let q : Int := p
  match f with
  | 1 => [1024 - 32 * q, 32 * q]
  | 2 =>
    let k0 := rnd (-(q ^ 3) + 64 * q ^ 2 - 1024 * q) 6
    let k2 := rnd (-3 * q ^ 3 + 128 * q ^ 2 + 1024 * q) 6
    let k3 := rnd (q ^ 3 - 32 * q ^ 2) 6
    [k0, 1024 - k0 - k2 - k3, k2, k3]
  | _ =>
    (List.range 3).flatMap fun k =>
      let w := nth uf ((f - 8) * 96 + 3 * p + k) 0
      [toSigned 16 (fieldOf w 0 16), toSigned 16 (fieldOf w 16 16)]

/-- The position, as whole sample index and phase (R217). -/
def tapPos (x dst : Int) (src dw : Nat) : Int × Nat :=
  let u := axisPos x dst src dw
  (shr u 16, ((u % 65536).toNat) / 2048)

/-- The exact sum of R219 for one channel. -/
def tapSum (ch : Sample → Nat) (s : Int → Int → Sample) (cx cy : List Int) : Int :=
  ((List.range cx.length).map fun m => ((List.range cy.length).map fun n =>
    nth cx m 0 * nth cy n 0 * (ch (s m n) : Int)).sum).sum

/-- scaled of R219. -/
def scaledSample (uf : List Word) (c : CompLayer) (x y : Int) : Sample :=
  let l := c.layer
  let f := l.filter
  if f = 0 then
    srcSample c (rnd (axisPos x l.dstX l.srcW l.dstW) 16) (rnd (axisPos y l.dstY l.srcH l.dstH) 16)
  else
    let px := tapPos x l.dstX l.srcW l.dstW
    let py := tapPos y l.dstY l.srcH l.dstH
    let h := (filterTaps f).1
    let cx := filterCoefs uf f px.2
    let cy := filterCoefs uf f py.2
    let s (m n : Int) : Sample := srcSample c (px.1 + h + m) (py.1 + h + n)
    let v (ch : Sample → Nat) : Nat := ch12 (rnd (tapSum ch s cx cy) 20)
    let a := v Sample.a
    { c0 := min (v Sample.c0) a, c1 := min (v Sample.c1) a, c2 := min (v Sample.c2) a, a := a }

/-- A layer's sample at a canvas pixel. -/
def layerSample (uf : List Word) (c : CompLayer) (x y : Int) : Sample :=
  if c.layer.scaled then scaledSample uf c x y else srcSample c (x - c.layer.dstX) (y - c.layer.dstY)

/-- A composed pixel. -/
abbrev Pixel := Nat × Nat × Nat

/-- One channel under a layer (R214). -/
def blendUnder (r c op a : Nat) : Nat := min (mul12 c op + mul12 r (4095 - a)) 4095

/-- A layer over a composed pixel. -/
def layerOver (uf : List Word) (x y : Int) (r : Pixel) (c : CompLayer) : Pixel :=
  if c.layer.rect.has x y then
    let v := layerSample uf c x y
    let op := c.layer.opacity
    let a := mul12 v.a op
    (blendUnder r.1 v.c0 op a, blendUnder r.2.1 v.c1 op a, blendUnder r.2.2 v.c2 op a)
  else r

/-- BG of a FLIP-HDR body: C0, C1, C2, 12 bits each (R97, R161). -/
def hdrBg (h : List Byte) : Pixel :=
  let b := leAt h 16 8
  (natBits b 0 12, natBits b 12 12, natBits b 24 12)

/-- compose of R214, and R212. -/
def composePixel (mode : Nat) (fp : Footprint) (bg : Pixel) (uf : List Word) (ls : List CompLayer) (x y : Nat) : Pixel :=
  if !fp.en || !(canvasRect mode).has x y then (0, 0, 0)
  else ls.foldl (layerOver uf x y) bg

/-- The layers that a frame is composed from, in entry order (R109, R112, R214). -/
def Dev.compLayers (d : Dev) (f : TileFrame) : List CompLayer :=
  f.layers.filterMap fun l => (d.layerBlocks f l).map fun b => { layer := l, blocks := b }

/-- The composed value of a canvas pixel of a frame at this tile. -/
def Dev.composed (d : Dev) (f : TileFrame) (x y : Nat) : Pixel :=
  composePixel f.mode (d.frameFp f) (hdrBg f.header) f.filters (d.compLayers f) x y

/-! Guarded regions (R222 to R225). -/

/-- The entry that counts for a region of this tile: the last one that names it with a size. -/
def TileFrame.guardEntry (f : TileFrame) (n : Nat) : Option (List Byte) :=
  ((hdrGuards f.header).filter fun e => natBits (leAt e 0 2) 0 12 == f.addr && natBits (leAt e 0 2) 12 2 == n &&
    leAt e 6 2 != 0 && leAt e 8 2 != 0).getLast?

/-- The intersection of a region with a footprint. -/
def guardRect (e : List Byte) (fp : Footprint) : Rect :=
  ({ x0 := leAt e 2 2, x1 := leAt e 2 2 + leAt e 6 2, y0 := leAt e 4 2, y1 := leAt e 4 2 + leAt e 8 2 } : Rect).inter fp.rect

/-- The canvas pixels of a rectangle in raster order. -/
def rasterOf (r : Rect) : List (Nat × Nat) :=
  (List.range (r.y1 - r.y0).toNat).flatMap fun j => (List.range (r.x1 - r.x0).toNat).map fun i =>
    (r.x0.toNat + i, r.y0.toNat + j)

/-- Six bytes of a composed pixel (R223). -/
def pixelBytes (p : Pixel) : List Byte := leBytes p.1 2 ++ leBytes p.2.1 2 ++ leBytes p.2.2 2

/-- The composed bytes of a region. -/
def Dev.regionBytes (d : Dev) (f : TileFrame) (e : List Byte) : List Byte :=
  (rasterOf (guardRect e (d.frameFp f))).flatMap fun q => pixelBytes (d.composed f q.1 q.2)

/-- A safe image in the stored object (R225): its region and rectangle, then the pixels without their Reserved bytes, six
bytes each, one image after another, so that 49,152 of them fit the area of R338 (log entry 12). -/
structure SafeImage where
  region : Nat
  x0 : Nat
  y0 : Nat
  w : Nat
  h : Nat
  pixels : List Byte
  deriving DecidableEq, Repr

/-- The safe images in a stored object; the fuel is one more than their number. -/
def safeImages : Nat → List Byte → List SafeImage
  | 0, _ => []
  | n + 1, b =>
    if b.length < 10 then []
    else
      let w := leAt b 6 2
      let h := leAt b 8 2
      { region := natBits (byteAt b 0) 0 2, x0 := leAt b 2 2, y0 := leAt b 4 2, w := w, h := h,
        pixels := (b.drop 10).take (6 * w * h) } :: safeImages n (b.drop (10 + 6 * w * h))

/-- The safe images in force. -/
def Dev.safes (d : Dev) : List SafeImage := safeImages 4 (d.objectInForce NK_SAFE)

/-- The safe images of a frame: those in force at its compose deadline. -/
def TileFrame.safes (f : TileFrame) : List SafeImage := safeImages 4 f.safeObj

/-- The safe image's pixel at a canvas position inside its rectangle. -/
def SafeImage.at (s : SafeImage) (x y : Nat) : Option Pixel :=
  if s.x0 ≤ x ∧ x < s.x0 + s.w ∧ s.y0 ≤ y ∧ y < s.y0 + s.h then
    let k := 6 * ((y - s.y0) * s.w + (x - s.x0))
    some (natBits (leAt s.pixels k 2) 0 12, natBits (leAt s.pixels (k + 2) 2) 0 12, natBits (leAt s.pixels (k + 4) 2) 0 12)
  else none

/-- The checks of a frame: region, SIG, computed signature (`none`: empty intersection), SUBST, substitution made (R223,
R224). -/
def Dev.guardChecks (d : Dev) (f : TileFrame) : List (Nat × Nat × Option Nat × Bool × Bool) :=
  if !f.guardOn then []
  else (List.range 4).filterMap fun n => (f.guardEntry n).map fun e =>
    let sig := leAt e 12 4
    let subst := natBit (leAt e 0 2) 14
    if (guardRect e (d.frameFp f)).nonempty then
      let c := crc32c (d.regionBytes f e)
      (n, sig, some c, subst, c != sig && subst && f.safes.any fun s => s.region == n)
    else (n, sig, none, subst, false)

/-- A composed pixel after the substitutions of a frame (R224). In two failing regions that both have images it takes that of
the higher region number (log entry 152). -/
def Dev.substituted (d : Dev) (f : TileFrame) (checks : List (Nat × Nat × Option Nat × Bool × Bool)) (x y : Nat) : Pixel :=
  checks.foldl (fun p c =>
    if !c.2.2.2.2 then p
    else match f.guardEntry c.1, f.safes.find? fun s => s.region == c.1 with
      | some e, some s => if (guardRect e (d.frameFp f)).has x y then (s.at x y).getD p else p
      | _, _ => p) (d.composed f x y)

/-! Correction (R227 to R233, R240). -/

/-- A coefficient set in use: the stored bytes, or the default set. -/
abbrev CoefSet := Option (List Byte)

/-- The set of a slot. -/
def Dev.coefSet (d : Dev) (slot : Nat) : CoefSet := d.coefBytes slot

/-- The set that a frame uses. -/
def TileFrame.coefSet (f : TileFrame) : CoefSet := f.coef

/-- LIN[c][v]. -/
def CoefSet.lin (s : CoefSet) (c v : Nat) : Nat :=
  match s with
  | some b => leAt b (64 + 16384 * c + 4 * v) 4 % 2 ^ 20
  | none => 256 * v + v / 16

/-- HI_VALID. -/
def CoefSet.hiValid (s : CoefSet) : Bool :=
  match s with
  | some b => natBit (byteAt b 3) 0
  | none => false

/-- KNEE_LOG2. -/
def CoefSet.knee (s : CoefSet) : Nat :=
  match s with
  | some b => byteAt b 6
  | none => 16

/-- A half-word of the record of lamp n, at an offset in the record. -/
def coefRec (b : List Byte) (n off : Nat) : Nat := leAt b (49216 + 20 * n + off) 2

/-- The low and the high matrix weight k of a lamp. -/
def CoefSet.weight (s : CoefSet) (mono : Bool) (cls n k : Nat) : Int × Int :=
  match s with
  | some b => (toSigned 16 (coefRec b n (2 * k)), toSigned 16 (coefRec b n (6 + 2 * k)))
  | none =>
    let v : Int := if mono then nth [3483, 11718, 1183] k 0 else if k = cls then 16384 else 0
    (v, v)

/-- The low and the high gain of a lamp. -/
def CoefSet.gain (s : CoefSet) (n : Nat) : Int × Int :=
  match s with
  | some b => (coefRec b n 12, coefRec b n 14)
  | none => (32768, 32768)

/-- The low-grey offset of a lamp. -/
def CoefSet.ofs (s : CoefSet) (n : Nat) : Int :=
  match s with
  | some b => toSigned 16 (coefRec b n 16)
  | none => 0

/-- w of R232 for a temperature; 0 where the set has no high point. -/
def CoefSet.blendWeight (s : CoefSet) (t : Int) : Nat :=
  match s with
  | some b =>
    if s.hiValid then
      let ta := toSigned 16 (leAt b 8 2)
      let tb := toSigned 16 (leAt b 10 2)
      (sat (Int.fdiv ((t - ta) * 256) (tb - ta)) 0 256).toNat
    else 0
  | none => 0

/-- Physical column, row and colour class of a lamp (R228). -/
def lampPlace (mono : Bool) (n : Nat) : Nat × Nat × Nat :=
  let c := n / 128
  let r := n % 128
  if mono then (c, r, 0) else (8 * (c / 8 / 3) + c % 8, r, c / 8 % 3)

/-- depth of R233. -/
def seamDepth (mono : Bool) (e px py : Nat) : Nat :=
  match e with
  | 0 => px
  | 1 => (if mono then 384 else 128) - 1 - px
  | 2 => py
  | _ => 127 - py

/-- blend of R231. -/
def blendHi (on : Bool) (w : Nat) (p : Int × Int) : Int :=
  if on then rnd (p.1 * (256 - (w : Int)) + p.2 * w) 8 else p.1

/-- correct of R231: the 20-bit value of a lamp. -/
def correctLamp (s : CoefSet) (ctrl : Word) (seam : List Nat) (mono : Bool) (w n : Nat) (p : Pixel) : Nat :=
  let place := lampPlace mono n
  let on := fieldOf ctrl 0 1 == 1 && s.hiValid
  let m (k : Nat) : Int := blendHi on w (s.weight mono place.2.2 n k)
  let g := blendHi on w (s.gain n)
  let y := sat (rnd (m 0 * (s.lin 0 p.1 : Int) + m 1 * (s.lin 1 p.2.1 : Int) + m 2 * (s.lin 2 p.2.2 : Int)) 14) 0 (2 ^ 21 - 1)
  let z0 := sat (rnd (y * g) 15) 0 (2 ^ 22 - 1)
  let z := if fieldOf ctrl 1 1 == 1 then
      (List.range 4).foldl (fun z e =>
        let d := seamDepth mono e place.1 place.2.1
        if d ≤ 3 then sat (rnd (z * (nth seam (12 * e + 3 * d + place.2.2) 32768 : Nat)) 15) 0 (2 ^ 22 - 1) else z) z0
    else z0
  let v := sat z 0 (2 ^ 20 - 1)
  let k := s.knee
  if fieldOf ctrl 2 1 == 1 && decide (0 < v) && decide (v < 2 ^ k) then
    (sat (v + rnd (s.ofs n * (2 ^ k - v)) (k + 4)) 1 (2 ^ 20 - 1)).toNat
  else v.toNat

/-- The number of lamps. -/
def lampCount : Nat := 49152

/-- The lamp values of a frame, in the frame store's form: every lamp that is not 0. -/
def Dev.lampValues (d : Dev) (f : TileFrame) (checks : List (Nat × Nat × Option Nat × Bool × Bool)) (w : Nat) : Cells Nat :=
  let fp := d.frameFp f
  let s := f.coefSet
  (List.range lampCount).filterMap fun n =>
    let place := lampPlace fp.mono n
    let q := fp.canvas place.1 place.2.1
    let v := correctLamp s f.corCtrl f.seam fp.mono w n (d.substituted f checks q.1 q.2)
    if v = 0 then none else some (n, v)

/-! The end of composition and correction (R40, R46). -/

/-- The frame whose work may complete: the next to be presented, judged, not failed, before its swap point, with no
engine being reloaded. -/
def Dev.toCompose (d : Dev) : Option TileFrame :=
  match d.tile.frames with
  | f :: _ =>
    if f.judged && !f.composed && f.fail.isNone && d.enginesReady && decide (d.now < swapPoint f.present) then some f
    else none
  | [] => none

/-- COR_WEIGHT and the fallback of the blend source (R232). -/
def Dev.noteBlend (st : Straps) (f : TileFrame) (d : Dev) : Dev :=
  let sel := fieldOf f.corCtrl 4 3
  let t := f.sample.select sel
  let w := f.coefSet.blendWeight t.1
  let d1 := (d.set COR_WEIGHT_W w).seti COR_WEIGHT_T t.1
  if t.2 then
    let d2 := { d1 with tile.corFallback := true }.set COR_STAT_TFALLBACK_SEEN 1
    if d1.tile.corFallback then d2 else d2.event st EV_COR_TSRC_FALLBACK (sel - 1) 0 0
  else { d1 with tile.corFallback := false }

/-- The capture units that tap the guarded regions (R383, SRC 2). -/
def Dev.tapRegions (st : Straps) (f : TileFrame) (d : Dev) : Dev :=
  let d1 := d.snoopBoundary st 2
  (d1.each (List.range 4) fun d n =>
    match f.guardEntry n with
    | some e => d.snoopFeed st 2 n (d.regionBytes f e)
    | none => d).endCaptures st 2

/-! The memories in composition and correction (R45, R470). -/

/-- The scalers in use for a frame: one for each scaled layer with pixels in the footprint, up to four. -/
def Dev.scalersUsed (d : Dev) (f : TileFrame) : Nat :=
  min 4 ((d.compLayers f).filter fun c =>
    c.layer.scaled && !(blocksNeeded f.mode (d.frameFp f) c.layer).isEmpty).length

/-- The work of a frame writes the engines' memory and the line buffers. -/
def Dev.composeWrites (f : TileFrame) (d : Dev) : Dev := d.enginesWork.memWrites 2 (d.scalersUsed f)

/-- The bytes that the work of a frame finds wrong: in the engines' memory, in the blocks it reads, and in the line buffers
it has written. -/
def Dev.composeFinds (d : Dev) (f : TileFrame) : List BadByte :=
  let used := (d.compLayers f).flatMap fun c =>
    c.blocks.filter fun b => b.layer == c.layer.number &&
      (blocksNeeded f.mode (d.frameFp f) c.layer).contains (b.bx, b.by_)
  d.engineFinds ++ d.badBytes 1 (fun i => used.any fun b => b.item == i) ++ d.badBytes 2 fun _ => true

/-- The block that an item names is marked invalid wherever it stands; a frame that is judged, not composed and needs it
is held (R45). -/
def Dev.spoilBlock (i : SramItem) (d : Dev) : Dev :=
  let spoil (l : List StoreBlock) : List StoreBlock := l.map fun b => if b.item = i then { b with invalid := true } else b
  let d1 := { d with
    tile.frames := d.tile.frames.map fun (f : TileFrame) => { f with blocks := spoil f.blocks }
    tile.held := d.tile.held.map fun (h : HeldLayer) => { h with blocks := spoil h.blocks } }
  { d1 with tile.frames := d1.tile.frames.map fun (f : TileFrame) =>
      if f.judged && !f.composed && !d1.blocksArrived f then f.failed 4 else f }

/-- The back half of the frame store is written: an injection takes the lamp at the lowest address, which the spec does
not name: a free choice. -/
def Dev.writeBack (back : Cells Nat) (d : Dev) : Dev :=
  let d1 := { d with tile.back := back }.memRewrite fun b => match b.item with
    | .lamp _ front => !front
    | _ => false
  if d1.parity.armed == some (3, 0) then
    let r := d1.draw lampCount
    r.2.memInject 3 0 (.lamp r.1 false)
  else d1

/-- What a parity error that the work of a frame finds asks besides: the engine is reloaded, the block is marked invalid
(R45). -/
def Dev.composeAct (d : Dev) (b : BadByte) : Dev :=
  match b.mem with
  | 0 => d.reloadEngine b.unit
  | 1 => d.spoilBlock b.item
  | _ => d

/-- Parity errors end the work of a frame: they are logged, and the frame is held (R45). -/
def Dev.abandonCompose (st : Straps) (f : TileFrame) (l : List BadByte) (d : Dev) : Dev :=
  ((d.logFound st l).each l Dev.composeAct).modFrame f (TileFrame.failed 4)

/-- The work of a frame completes: the back half is written. -/
def Dev.finishCompose (st : Straps) (f : TileFrame) (d : Dev) : Dev :=
  let checks := d.guardChecks f
  let w := f.coefSet.blendWeight (f.sample.select (fieldOf f.corCtrl 4 3)).1
  let slack := (swapPoint f.present - d.now) / 1000
  let back := d.lampValues f checks w
  let d1 := (((d.noteBlend st f).tapRegions st f).modFrame f fun g =>
    { g with composed := true, slackUs := slack, checks := checks }).writeBack back
  d1.noteSlack slack

/-- The work of a frame comes to its end, or to the first parity error that it finds. -/
def Dev.composeEnd (st : Straps) (f : TileFrame) (d : Dev) : Dev :=
  let d1 := d.composeWrites f
  match d1.composeFinds f with
  | [] => d1.finishCompose st f
  | l => d1.abandonCompose st f l

/-- COMPOSE_COMPLETE: the last back-half write, with the regions' signatures computed. What the checks find is recorded
when the frame is presented, for a frame that is held is not checked (R223). -/
def execComposeComplete (s : State) : Host.Outcome State Fault Refusal :=
  runTile (fun st d =>
    match d.toCompose with
    | some f => d.composeEnd st f
    | none => d) s

end Sys2Proof.Machine
end

