-- ==== Sys2Proof/Machine/Diag.lean ====
section
/-! DEFINITION. Lamp diagnosis: the diagnostic slots, judging, ages and status words, the pin test, masks and the
snapshots (spec/11_lamp_diagnosis.md R262 to R276). -/

namespace Sys2Proof.Machine

/-- The number of columns. -/
def colCount : Nat := 384

/-- LAST of a lamp (R268). -/
def Dev.lampLast (d : Dev) (n : Nat) : Nat := Cells.read (fun _ => 0) d.diag.last n

/-- The codes of R268. -/
def L_UNKNOWN : Nat := 0
/-- R268. -/
def L_GOOD : Nat := 1
/-- R268. -/
def L_OPEN : Nat := 2
/-- R268. -/
def L_SHORT : Nat := 3
/-- R268. -/
def L_NBR : Nat := 4

/-- Whether a column's latest pin result is NBR_SHORT (R266). -/
def Dev.pinShort (d : Dev) (c : Nat) : Bool := Cells.read (fun _ => 0) d.diag.pin c == 1

/-- AGE of a lamp (R268). -/
def Dev.lampAge (d : Dev) (n : Nat) : Nat :=
  let t := Cells.read (fun _ => 0) d.diag.tested n
  if t = 0 then 0xFFFF else min 0xFFFF (d.tile.drive.frames + 1 - t)

/-- STATUS of a lamp (R269). -/
def Dev.lampStatus (d : Dev) (n : Nat) : Nat :=
  let age := d.lampAge n
  let fresh := if d.effGet GRY_SCAN_DIAG_EN = 1 then decide (age ≤ d.get DIAG_CFG_AGE_LIM) else age == 0
  if fresh then d.lampLast n else L_UNKNOWN

/-- The status word of a lamp (R268). -/
def Dev.lampWord (d : Dev) (n : Nat) : Nat :=
  d.lampStatus n + 8 * d.lampLast n + 64 * b2n (d.tile.drive.mask.contains n) + 128 * b2n (d.diag.forced.contains n) +
  65536 * d.lampAge n

/-! Slots (R262). -/

/-- Whether diagnostic slot i of frame k carries the pin test. -/
def Dev.pinSlot (d : Dev) (k i : Nat) : Bool :=
  k % 64 == 63 && d.effGet DIAG_CTRL_PIN_EN == 1 && i == k / 64 % d.tile.drive.s

/-- Whether diagnostic slot i of frame k carries the lamp test of row i. -/
def Dev.lampSlot (d : Dev) (k i : Nat) : Bool :=
  !d.pinSlot k i && ((k : Int) - i) % (2 ^ d.effGet DIAG_CTRL_DIV : Nat) == 0

/-- Whether a lamp test may be made: lamps are driven, and no in-service calibration of the sinks runs (R264). -/
def Dev.testsAllowed (d : Dev) : Bool :=
  d.tile.drive.driving &&
  match d.cal.step with
  | some c => !(c.item == 0 && c.inService)
  | none => true

/-! Judging (R265, R267, R274). -/

/-- VS of a bank, in mV, and whether it is valid (R273). -/
def Dev.bankVs (d : Dev) (bank : Nat) : Nat × Bool := (d.get (DIAG_VLED_MV (bank / 12)), d.getb (DIAG_VLED_VALID (bank / 12)))

/-- VSHc in mV. -/
def Dev.shortMargin (d : Dev) (cls : Nat) : Nat :=
  50 * d.effGet (if cls = 0 then DIAG_THR_VSHORT0 else if cls = 1 then DIAG_THR_VSHORT1 else DIAG_THR_VSHORT2)

/-- The result of a column voltage for a lamp (R265). -/
def Dev.judgeVcol (d : Dev) (bank cls mv : Nat) : Nat :=
  if mv < 10 * d.effGet DIAG_THR_VOPEN then L_OPEN
  else if (d.bankVs bank).1 < mv + d.shortMargin cls then L_SHORT
  else L_GOOD

/-- A change of LAST is recorded, up to EVT_MAX in a frame (R274). -/
def Dev.noteLamp (st : Straps) (n old new : Nat) (d : Dev) : Dev :=
  if d.diag.events < d.get DIAG_CFG_EVT_MAX then
    { d with diag.events := d.diag.events + 1 }.event st EV_DIAG_LAMP n old new
  else { d with diag.leftOut := d.diag.leftOut + 1 }

/-- A test of a lamp gives a result: its age is 0, and REPEAT agreeing results set LAST (R267, R268). -/
def Dev.lampResult (st : Straps) (n r : Nat) (d : Dev) : Dev :=
  let a := Cells.read (fun _ => 0) d.diag.agree n
  let count := if a / 16 = r then min 15 (a % 16 + 1) else 1
  let d1 := { d with
    diag.tested := Cells.write (fun _ => 0) d.diag.tested n (d.tile.drive.frames + 1)
    diag.agree := Cells.write (fun _ => 0) d.diag.agree n (16 * r + count) }
  let old := d.lampLast n
  if count < d.effGet DIAG_CTRL_REPEAT || old == r then d1
  else { d1 with diag.last := Cells.write (fun _ => 0) d1.diag.last n r }.noteLamp st n old r

/-- One lamp is tested at a column voltage: VCOL is kept; the result counts unless VS is invalid or the column's pin
result is NBR_SHORT (R265, R267, R273). -/
def Dev.testLamp (st : Straps) (mono : Bool) (n mv : Nat) (d : Dev) : Dev :=
  let c := n / 128
  let d1 := { d with diag.vcol := Cells.write (fun _ => 0) d.diag.vcol n (mv + 1) }
  if !(d.bankVs (c / 8)).2 || d.pinShort c then d1
  else d1.lampResult st n (d.judgeVcol (c / 8) (lampPlace mono n).2.2 mv)

/-- Whether the footprint in force is that of monochrome lamps. -/
def Dev.mono (d : Dev) : Bool := (d.footprintFor d.tile.drive.present).mono

/-- The columns of banks that are not dark in this slot (R37, R45). -/
def Dev.litColumns (d : Dev) : List Nat := (List.range colCount).filter fun c => !d.tile.drive.darkBanks.contains (c / 8)

/-- The columns that a lamp test tests: those of banks whose CODE is not 0 (R263). -/
def Dev.activeColumns (d : Dev) : List Nat := d.litColumns.filter fun c => d.effGet (LDRV_BANK_IFS_CODE (c / 8)) != 0

/-- CODE and RANGE of every bank, which set the test current (R263). -/
def Dev.testCodes (d : Dev) : List (Nat × Nat) :=
  (List.range 48).map fun b => (d.effGet (LDRV_BANK_IFS_CODE b), d.effGet (LDRV_BANK_IFS_RANGE b))

/-- The test of the open diagnostic slot is made: the slot is over (log entry 101). -/
def Dev.closeSlot (d : Dev) : Dev := { d with tile.drive.open_ := false, tile.drive.darkBanks := [] }

/-- The start of a pulse in the active window (R255). -/
def pulseStart (e len c : Nat) : Nat := (e - len) * (c % 8) / 7

/-- The external row switches are held off and the column outputs are high-impedance: VDRV is absent, and no lamp conducts
(R396). -/
def Dev.rowsHeldOff (d : Dev) : Bool := !d.aon.vdrv

/-- The diagnostic slot that is open: its row. Nothing is driven in it while the rows are held off. -/
def Dev.openSlot (d : Dev) : Option Nat :=
  if d.tile.drive.open_ && d.tile.drive.slot != 0 && !d.rowsHeldOff then some (d.tile.drive.slot - 1) else none

/-- LAMP_TEST of row i: test pulses on every column of a bank that is on, each judged; a row whose tested lamps are all
OPEN is recorded (R263, R265). -/
def Dev.opLampTest (st : Straps) (i : Nat) (codes : List Nat) (d : Dev) : Dev :=
  let mono := d.mono
  let tp := d.effGet DIAG_CTRL_TP
  let cols := d.activeColumns
  let mv (c : Nat) : Nat := d.adcMv (c / 8) (nth codes c 0 % 4096)
  let judged := cols.filter fun c => (d.bankVs (c / 8)).2
  let rowOpen := !judged.isEmpty &&
    judged.all fun c => d.judgeVcol (c / 8) (lampPlace mono (128 * c + i)).2.2 (mv c) == L_OPEN
  let d1 := d.closeSlot.emit (.lampTest i (d.get THM_COMP_DADV) (d.geti THM_COMP_RT) tp d.testCodes d.allCells
    (cols.map fun c => (c, pulseStart d.tile.drive.e tp c)))
  let d2 := d1.each cols fun d c => d.testLamp st mono (128 * c + i) (mv c)
  if rowOpen then (d2.set DIAG_STAT_ROW_OPEN_SEEN 1).event st EV_DIAG_ROW_OPEN i 0 0 else d2

/-- LAMP_TEST (R262 to R265). -/
def execLampTest (codes : List Nat) (s : State) : Host.Outcome State Fault Refusal :=
  runTile (fun st d =>
    match d.openSlot with
    | some i => if d.lampSlot d.tile.drive.k i && d.testsAllowed then d.opLampTest st i codes else d
    | none => d) s

/-! The pin test (R266, R267). -/

/-- A column's pin result: its lamps get NBR_SHORT, and a change is recorded (R266, R274). -/
def Dev.pinResult (st : Straps) (c : Nat) (short : Bool) (d : Dev) : Dev :=
  let d1 := if d.pinShort c == short then d
    else { d with diag.pin := Cells.write (fun _ => 0) d.diag.pin c (b2n short) }.event st EV_DIAG_PIN c (b2n short) 0
  if short then d1.each (List.range 128) fun d r => d.lampResult st (128 * c + r) L_NBR else d1

/-- Whether COLc, with c = 32·k + j, is in group G1 (R426). -/
def inG1 (c : Nat) : Bool := (c / 32 + c % 32 + (if 6 ≤ c / 32 then 1 else 0)) % 2 == 1

/-- The two halves of a pin test: the columns pulled up and those that sink, G1 first (R266). A dark bank sinks nothing. -/
def Dev.pinHalves (d : Dev) : List (List Nat × List Nat) :=
  let g0 := (List.range colCount).filter fun c => !inG1 c
  let g1 := (List.range colCount).filter inG1
  let sinks (l : List Nat) : List Nat := l.filter d.litColumns.contains
  [(g0, sinks g1), (g1, sinks g0)]

/-- PIN_TEST: each column that sinks is shorted when its voltage is above VS / 2 at the end of its half. VS is the latest
reading, also where R273 marks it invalid (log entry 153). -/
def Dev.opPinTest (st : Straps) (i : Nat) (codes : List Nat) (d : Dev) : Dev :=
  let d1 := d.closeSlot.emit (.pinTest i d.testCodes d.allCells d.pinHalves)
  d1.each d.litColumns fun d' c =>
    d'.pinResult st c (decide ((d.bankVs (c / 8)).1 < 2 * d.adcMv (c / 8) (nth codes c 0 % 4096)))

/-- PIN_TEST (R262, R266). -/
def execPinTest (codes : List Nat) (s : State) : Host.Outcome State Fault Refusal :=
  runTile (fun st d =>
    match d.openSlot with
    | some i => if d.pinSlot d.tile.drive.k i && d.tile.drive.driving then d.opPinTest st i codes else d
    | none => d) s

/-! The counts and snapshots (R276, R277). -/

/-- The lamps that can have a STATUS other than UNKNOWN. -/
def Dev.statusCount (d : Dev) (code : Nat) : Nat := (d.diag.last.filter fun e => d.lampStatus e.1 == code).length

/-- DIAG_CNTm in the frame being driven; 0 before the first frame. -/
def Dev.diagCount (d : Dev) (m : Nat) : Nat :=
  if !d.tile.drive.any then 0
  else if m < 4 then d.statusCount (m + 1)
  else if m = 4 then lampCount - (d.statusCount 1 + d.statusCount 2 + d.statusCount 3 + d.statusCount 4)
  else d.tile.drive.mask.length

/-- Size of a snapshot object. -/
def snapshotSize (object : Nat) : Nat := if object = OB_LAMP_MAP then 196672 else 98368

/-- The snapshot time of R276: four bytes of nanoseconds and eight of seconds. -/
def Dev.snapshotTime (d : Dev) : List Byte :=
  leBytes (d.tile.drive.present % giga) 4 ++ leBytes (d.tile.drive.present / giga) 8

/-- LAMP_MAP (R276). -/
def Dev.lampMapBytes (d : Dev) : List Byte :=
  let flags := d.effGet GRY_SCAN_DIAG_EN + 2 * d.effGet DIAG_CTRL_LIVE_EN + 4 * d.effGet DIAG_CTRL_MASK_EN
  leBytes 1 2 ++ leBytes flags 1 ++ zeros 1 ++ d.snapshotTime ++
  ((List.range 6).flatMap fun m => leBytes (d.diagCount m) 2) ++ zeros 36 ++
  (List.range lampCount).flatMap fun n => leBytes (d.lampWord n) 4

/-- MEAS (R276). -/
def Dev.measBytes (d : Dev) : List Byte :=
  let vled (n : Nat) : Nat := if d.getb (DIAG_VLED_VALID n) then d.get (DIAG_VLED_MV n) else 0xFFFF
  let vcol (n : Nat) : Nat :=
    let v := Cells.read (fun _ => 0) d.diag.vcol n
    if v = 0 then 0xFFFF else v - 1
  leBytes 1 2 ++ zeros 2 ++ d.snapshotTime ++ ((List.range 4).flatMap fun n => leBytes (vled n) 2) ++
  ((List.range 4).flatMap fun n => leBytes (d.get (DIAG_NTC_CODE n)) 2) ++ zeros 32 ++
  (List.range lampCount).flatMap fun n => leBytes (vcol n) 2

/-- LAMP_MAP and MEAS are served from a snapshot (R276). -/
def snapshotObject (ob : Nat) : Bool := ob == OB_LAMP_MAP || ob == OB_MEAS

/-- The snapshot of an object. -/
def Dev.snapshotBytes (d : Dev) (object : Nat) : List Byte :=
  if object = OB_LAMP_MAP then d.lampMapBytes else d.measBytes

/-- At a frame boundary the snapshots are taken of the transfers opened since the last one (R276). -/
def Dev.takeSnapshots (d : Dev) : Dev :=
  { d with tile.bulks := d.tile.bulks.map fun b =>
      let ob := bObject (cmdDesc b.pkt.bytes)
      if snapshotObject ob && b.boundary.isNone then { b with boundary := some (d.snapshotBytes ob) } else b }

end Sys2Proof.Machine
end

