-- ==== Sys2Proof/Machine/Settings.lean ====
section
/-! DEFINITION. The settings record: its layout, reading a block, and replacing one (spec/15_firmware_trust_update.md R359
to R362). -/

namespace Sys2Proof.Machine

/-- A block of the settings record (R360). -/
structure SetBlock where
  id : Nat
  version : Nat
  crc : Nat
  body : List Byte
  deriving DecidableEq, Repr

/-- The block's CRC matches its body. -/
def SetBlock.ok (b : SetBlock) : Bool := b.crc == crc32c b.body

/-- Reads `n` blocks. -/
def parseBlocks : Nat → List Byte → List SetBlock
  | 0, _ => []
  | n + 1, bs =>
    if bs.length < 16 then []
    else
      let len := leAt bs 4 4
      { id := byteAt bs 0, version := leAt bs 2 2, crc := leAt bs 8 4, body := slice bs 16 (min len (bs.length - 16)) } ::
        parseBlocks n (bs.drop (16 + len))

/-- The blocks of a settings record; none when its header is not that of R360. -/
def settingsBlocks (r : List Byte) : List SetBlock :=
  if leAt r 0 4 == 0x54455353 && leAt r 4 2 == 1 then parseBlocks (min (leAt r 6 2) 16) (r.drop 16) else []

/-- The blocks of the record in force. -/
def Dev.blocks (d : Dev) : List SetBlock := settingsBlocks (d.objectInForce NK_SETTINGS)

/-- A block of the record in force, whatever its CRC. -/
def Dev.rawBlock (d : Dev) (id : Nat) : Option SetBlock := d.blocks.find? fun b => b.id == id

/-- A block of the record in force; one whose CRC fails is absent (R360). -/
def Dev.block (d : Dev) (id : Nat) : Option SetBlock := d.blocks.find? fun b => b.id == id && b.ok

/-- The 16-byte header of a block. -/
def SetBlock.header (b : SetBlock) : List Byte :=
  leBytes b.id 1 ++ zeros 1 ++ leBytes b.version 2 ++ leBytes b.body.length 4 ++ leBytes b.crc 4 ++ zeros 4

/-- Puts a block at its place by ID, over one with the same ID. -/
def insertBlock (b : SetBlock) : List SetBlock → List SetBlock
  | [] => [b]
  | c :: rest =>
    if b.id < c.id then b :: c :: rest else if b.id = c.id then b :: rest else c :: insertBlock b rest

/-- A settings record of these blocks. -/
def settingsRecord (l : List SetBlock) : List Byte :=
  let body := l.flatMap fun b => b.header ++ b.body
  leBytes 0x54455353 4 ++ leBytes 1 2 ++ leBytes l.length 2 ++ leBytes (16 + body.length) 4 ++ zeros 4 ++ body

/-- The record in force with a block replaced or added (R362). -/
def Dev.recordWith (d : Dev) (id version : Nat) (body : List Byte) : List Byte :=
  settingsRecord (insertBlock { id := id, version := version, crc := crc32c body, body := body } d.blocks)

/-- The largest settings record. -/
def settingsMax : Nat := 65536

/-- The device replaces a block that it writes itself; the block keeps its VERSION, 0 when it is new (log entry 14). -/
def Dev.commitBlock (d : Dev) (id : Nat) (body : List Byte) : Dev :=
  let version := match d.rawBlock id with
    | some b => b.version
    | none => 0
  let r := d.recordWith id version body
  if settingsMax < r.length then d else d.commitObject NK_SETTINGS r

/-- The epoch saved in block 8; 0 when there is none (R279, R361). -/
def Dev.savedEpoch (d : Dev) : Nat :=
  match d.block 8 with
  | some b => leAt b.body 0 4
  | none => 0

/-- A new epoch replaces block 8 (R279, R362). -/
def Dev.saveEpoch (d : Dev) (e : Nat) : Dev := d.commitBlock 8 (leBytes e 4 ++ zeros 12)

/-- The forced masks of block 4, lamp indexes in rising order (R361). -/
def Dev.savedMasks (d : Dev) : List Nat :=
  match d.block 4 with
  | some b => (List.range 49152).filter fun n => natBit (byteAt b.body (n / 8)) (n % 8)
  | none => []

/-- The body of block 4 for these forced masks. -/
def maskBody (l : List Nat) : List Byte :=
  (List.range 6144).map fun k =>
    BitVec.ofNat 8 ((l.filter fun n => n / 8 == k).foldl (fun a n => a + 2 ^ (n % 8)) 0)

end Sys2Proof.Machine
end

