-- ==== Sys2Proof/Machine/Mbx.lean ====
section
/-! DEFINITION. The mailboxes and the twin mailbox traffic (spec/16_recorder_crc_mailbox.md R386 to R393). -/

namespace Sys2Proof.Machine

/-- The writer of a mailbox (R386). -/
def mbxWriter (m : Nat) : MbxSide :=
  match m with
  | 0 | 2 => .host
  | 1 | 4 | 6 => .mc
  | 3 | 5 => .trusted
  | _ => .twin

/-- The reader of a mailbox (R386). -/
def mbxReader (m : Nat) : MbxSide :=
  match m with
  | 0 | 5 | 7 => .mc
  | 1 | 3 => .host
  | 2 | 4 => .trusted
  | _ => .twin

/-- Mailboxes 6 and 7 exist in sender role only (R386). -/
def mbxExists (st : Straps) (m : Nat) : Bool := m < 6 || isSender st

/-- FULL of a mailbox. -/
def Dev.mbxFull (d : Dev) (m : Nat) : Bool := natBit (d.get MBX_STAT_FULL) m

/-- Sets or clears FULL; a pair's break in being both full ends its count (R390). -/
def Dev.setFull (d : Dev) (m : Nat) (b : Bool) : Dev :=
  let d1 := d.set MBX_STAT_FULL (natSetBit (d.get MBX_STAT_FULL) m b)
  let k := m / 2
  let both := d1.mbxFull (2 * k) && d1.mbxFull (2 * k + 1)
  let was := d.mbxFull (2 * k) && d.mbxFull (2 * k + 1)
  if both && was then d1
  else { d1 with mbx.bothSince := setAt d1.mbx.bothSince k (if both then some d.ticks else none) }

/-- Interrupts a side about mailbox m: cause MBX at the host of a sender, and otherwise an interrupt line, of the core that
MBX_CTRL.MCSEL names for the MC side (R386, R387). -/
def Dev.mbxIrq (st : Straps) (side : MbxSide) (m : Nat) (d : Dev) : Dev :=
  match side with
  | .host => d.raiseIf st IRQ_MBX
  | .mc => d.emit (.mbxInterrupt m (some (d.get MBX_CTRL_MCSEL)))
  | .trusted => d.emit (.mbxInterrupt m none)
  | _ => d

/-- A twin mailbox message with its CRC (R392). -/
def twinMsg (body : List Byte) : List Byte := body ++ leBytes (crc32c body) 4

/-- A message on the twin link, whose transmitter is idle until firmware runs (R428). -/
def Dev.sendTwin (bytes : List Byte) (d : Dev) : Dev := if d.boot.started then d.emit (.yoyo bytes) else d

/-- DATA of the word in mailbox 6. -/
def Dev.sendTwinData (d : Dev) : Dev :=
  { d.sendTwin (twinMsg (leBytes 2 1 ++ leBytes (d.get (MBX_DATA_WORD 6)) 4 ++ leBytes d.twin.mseq 2)) with
    twin.mbxLast := d.ticks }

/-- ACK or ABORT of a received word. -/
def Dev.sendTwinAnswer (d : Dev) (typ mseq : Nat) : Dev := d.sendTwin (twinMsg (leBytes typ 1 ++ leBytes mseq 2))

/-- AER of the function logs the Completer Abort that a host's configuration write gets (R49, R388). -/
def Dev.logAbort (st : Straps) (writer : MbxSide) (d : Dev) : Dev :=
  if isSender st && writer == .host then { d with host.pcie.caLogged := true } else d

/-- A write to a mailbox (R387, R388). -/
def Dev.opMbxWrite (st : Straps) (writer : MbxSide) (m : Nat) (word : Nat) (d : Dev) : Dev :=
  if !mbxExists st m || writer != mbxWriter m then d
  else if d.mbxFull m then (d.logAbort st writer).emit (.mbxReject m)
  else
    let d1 := ((d.set (MBX_DATA_WORD m) word).setFull m true).mbxIrq st (mbxReader m) m
    if m = 6 then { d1 with twin.mseq := (d1.twin.mseq + 1) % 65536 }.sendTwinData else d1

/-- An ACK of a mailbox (R387, R392). -/
def Dev.opMbxAck (st : Straps) (reader : MbxSide) (m : Nat) (d : Dev) : Dev :=
  if !mbxExists st m || reader != mbxReader m || !d.mbxFull m then d
  else
    let d1 := d.setFull m false
    if m = 7 then
      match d.twin.mseqIn with
      | some q => { d1 with twin.mseqAcked := some q }.sendTwinAnswer 3 q
      | none => d1
    else d1

/-- ABORTED of a mailbox, in MBX_STAT and in the configuration capability (R389, R391). -/
def Dev.mbxAborted (m : Nat) (d : Dev) : Dev :=
  let d1 := d.set MBX_STAT_ABORTED (natSetBit (d.get MBX_STAT_ABORTED) m true)
  if m < 4 then { d1 with mbx.vsecAborted := natSetBit d1.mbx.vsecAborted m true } else d1

/-- Mailbox 6 is emptied with ABORTED set, and its writer interrupted (R389, R392). -/
def Dev.abortTwinOut (st : Straps) (d : Dev) : Dev :=
  if d.mbxFull 6 then ((d.setFull 6 false).mbxAborted 6).mbxIrq st .mc 6 else d

/-- A reset of a mailbox's reader clears it; ABORTED and an interrupt to the writer when it was full (R389, R392). -/
def Dev.clearMbx (st : Straps) (m : Nat) (d : Dev) : Dev :=
  let d1 := (d.set (MBX_DATA_WORD m) 0).setFull m false
  if !d.mbxFull m then d1
  else
    let d2 := d1.mbxAborted m
    if m = 7 then
      match d.twin.mseqIn with
      | some q => d2.sendTwinAnswer 4 q
      | none => d2
    else d2.mbxIrq st (mbxWriter m) m

/-- Several mailboxes are cleared, in order. -/
def Dev.clearMbxs (st : Straps) (ms : List Nat) (d : Dev) : Dev := d.each ms fun d m => d.clearMbx st m

/-- Both mailboxes of the pair have been full for 100 µs. -/
def pairCrossed (d : Dev) (k : Nat) : Bool :=
  match nth d.mbx.bothSince k none with
  | some t => d.passed t (us 100)
  | none => false

/-- MBX_CROSS: CROSS is set, both sides are interrupted and the event is recorded, once for each time (R390). -/
def execMbxCross (pair : Fin 4) (s : State) : Host.Outcome State Fault Refusal :=
  let k : Nat := pair
  runIf (fun _ d => d.awake && pairCrossed d k)
    (fun st d =>
      let d1 := d.set MBX_STAT_CROSS (natSetBit (d.get MBX_STAT_CROSS) k true)
      let d2 := { d1 with
        mbx.bothSince := setAt d1.mbx.bothSince k none
        mbx.vsecCross := if k < 2 then natSetBit d1.mbx.vsecCross k true else d1.mbx.vsecCross }
      ((d2.mbxIrq st (mbxReader (2 * k)) (2 * k)).mbxIrq st (mbxReader (2 * k + 1)) (2 * k + 1)).event st EV_MBX_CROSS k
        0 0) s

/-- A twin message of a type and length whose CRC holds (R392). -/
def twinOk (bytes : List Byte) (typ len : Nat) : Bool :=
  bytes.length == len && byteAt bytes 0 == typ && leAt bytes (len - 4) 4 == crc32c (bytes.take (len - 4))

/-- TWIN_MBX_DATA_RECEIVE (R392). -/
def execTwinMbxDataReceive (bytes : List Byte) (s : State) : Host.Outcome State Fault Refusal :=
  runSender (fun st d =>
    if !twinOk bytes 2 11 then d
    else
      let q := leAt bytes 5 2
      if d.twin.mseqAcked == some q then d.sendTwinAnswer 3 q
      else if d.mbxFull 7 then d
      else (({ d with twin.mseqIn := some q }.set (MBX_DATA_WORD 7) (leAt bytes 1 4)).setFull 7 true).mbxIrq st .mc 7) s

/-- TWIN_MBX_ACK_RECEIVE (R392). -/
def execTwinMbxAckReceive (bytes : List Byte) (s : State) : Host.Outcome State Fault Refusal :=
  runSender (fun _ d =>
    if twinOk bytes 3 7 && d.mbxFull 6 && leAt bytes 1 2 == d.twin.mseq then d.setFull 6 false else d) s

/-- TWIN_MBX_ABORT_RECEIVE (R392). -/
def execTwinMbxAbortReceive (bytes : List Byte) (s : State) : Host.Outcome State Fault Refusal :=
  runSender (fun st d =>
    if twinOk bytes 4 7 && leAt bytes 1 2 == d.twin.mseq then d.abortTwinOut st else d) s

/-- TWIN_MBX_REPEAT (R392). -/
def execTwinMbxRepeat (s : State) : Host.Outcome State Fault Refusal :=
  runIf (fun st d => isSender st && d.awake && d.mbxFull 6 && d.passed d.twin.mbxLast (ms 1))
    (fun _ d => d.sendTwinData) s

end Sys2Proof.Machine
end

