-- ==== Sys2Proof/Machine/Host.lean ====
section
/-! DEFINITION. The host interface of a sender: rings, doorbell and shadow page, descriptors in flight, completions, the
Event Ring, interrupts and the PCIe function (spec/03_host_interface.md R47 to R86). -/

namespace Sys2Proof.Machine

/-! Rings (R52 to R54, R77). -/

/-- Slots of a ring. -/
def Dev.ringSize (d : Dev) (n : Nat) : Nat := 2 ^ d.get (RING_CFG_LOG2SIZE n)

/-- Whether a ring is enabled. -/
def Dev.ringEn (d : Dev) (n : Nat) : Bool := d.getb (RING_CFG_EN n)

/-- Base address of a ring. -/
def Dev.ringBase (d : Dev) (n : Nat) : Nat := d.get (RING_BASE_HI_ADDR n) * 2 ^ 32 + d.get (RING_BASE_LO_ADDR n) * 2 ^ 12

/-- Host address of the slot of an index, for slots of `size` bytes. -/
def Dev.slotAddr (d : Dev) (n index size : Nat) : Nat := d.ringBase n + (index % d.ringSize n) * size

/-- The device's index of a ring. -/
def Dev.ringIdx (d : Dev) (n : Nat) : Nat := d.get (RING_IDX_INDEX n)

/-- The host's index of a ring, as last read good. -/
def Dev.hostIndex (d : Dev) (n : Nat) : Nat := nth d.host.hostIdx n 0

/-- Entries of a ring: (PI − CI) mod 2^32, with the host's index given. -/
def ringCount (n devIdx hostIdx : Nat) : Nat := if n < 3 then dist32 devIdx hostIdx else dist32 hostIdx devIdx

/-- Entries of a ring now. -/
def Dev.ringEntries (d : Dev) (n : Nat) : Nat := ringCount n (d.ringIdx n) (d.hostIndex n)

/-- Flips in flight: those that the rings have not dropped with a layer to retire, and those with a completion that waits
to be posted (R74). -/
def Dev.flipsInFlight (d : Dev) : Nat :=
  (((d.host.queue ++ d.host.flying).filter fun f => !f.dropped && f.layers.any fun l => !l.retired).map Flip.index ++
    (d.host.cpls.filter fun c => c.ring == 0).map Cpl.index).eraseDups.length

/-- Descriptors in flight (R74). -/
def Dev.inFlight (d : Dev) : Nat := d.host.descs.length + d.flipsInFlight

/-- BUSY of a ring: fetched descriptors not yet completed (R77). -/
def Dev.ringBusy (d : Dev) (n : Nat) : Bool :=
  match n with
  | 0 => d.flipsInFlight != 0
  | 1 | 2 => d.host.descs.any fun e => e.ring == n
  | _ => false

/-! Descriptors (R65, R74). -/

/-- The descriptor of a ring with an index. -/
def Dev.findDesc (d : Dev) (ring index : Nat) : Option Desc :=
  d.host.descs.find? fun e => e.ring == ring && e.index == index

/-- Changes that descriptor. -/
def Dev.modDesc (d : Dev) (ring index : Nat) (f : Desc → Desc) : Dev :=
  { d with host.descs := d.host.descs.map fun e => if e.ring = ring ∧ e.index = index then f e else e }

/-- The target of a descriptor that two descriptors share. -/
def sameTarget (a b : Desc) : Bool := dLocal a.bytes == dLocal b.bytes && (dLocal a.bytes || dTarget a.bytes == dTarget b.bytes)

/-- Descriptors of the same ring before this one. -/
def Dev.earlier (d : Dev) (e : Desc) : List Desc := d.host.descs.filter fun o => o.ring == e.ring && precedes o.index e.index

/-- Whether a descriptor may start (R65, R73): it is fetched and not started; with FENCE, every earlier one has
completed; no earlier one that has not started has FENCE or the same target. -/
def Dev.startable (d : Dev) (e : Desc) : Bool :=
  e.phase == Phase.fetched &&
  (d.earlier e).all fun o =>
    (!dFence e.bytes || o.phase == Phase.finished) &&
    (o.phase != Phase.fetched || (!dFence o.bytes && !sameTarget o e))

/-- A descriptor starts. -/
def Dev.startDesc (d : Dev) (ring index : Nat) : Dev := d.modDesc ring index fun e => { e with phase := .started }

/-- A descriptor completes with a status and VALUE; with NO_CPL and OK it posts none and leaves flight (R65). -/
def Dev.postDesc (d : Dev) (e : Desc) (status value : Nat) : Dev :=
  if dNoCpl e.bytes && status == ST_OK then
    { d with host.descs := d.host.descs.filter fun o => !(o.ring == e.ring && o.index == e.index) }
  else
    (d.modDesc e.ring e.index fun e => { e with phase := .finished }).complete
      { tag := dTag e.bytes, status := status, kind := if e.ring == 1 then K_CMD_DONE else K_BULK_DONE, ring := e.ring,
        index := e.index, value := value }

/-- An earlier descriptor of the ring to the same target has not completed (R73). -/
def Dev.behind (d : Dev) (e : Desc) : Bool := (d.earlier e).any fun o => sameTarget o e && o.phase != Phase.finished

/-- A descriptor that has ended completes once none is before it (R73). -/
def Dev.release (d : Dev) (ring index : Nat) : Dev :=
  match d.findDesc ring index with
  | some e =>
    match e.result with
    | some r => if e.phase == Phase.finished || d.behind e then d else d.postDesc e r.1 r.2
    | none => d
  | none => d

/-- A descriptor ends with a status and VALUE; it completes, and with it those that have waited for it, in ring order (R73).
Nothing happens when it is no longer in flight (R51). -/
def Dev.finishDesc (d : Dev) (ring index status value : Nat) : Dev :=
  match d.findDesc ring index with
  | none => d
  | some e =>
    if e.result.isSome then d
    else
      let d1 := { d with host.out := d.host.out.filter fun o =>
        match o.kind with
        | .desc i => !(ring == 1 && i == index)
        | .probe i _ => !(ring == 1 && i == index)
        | .bulkOpen i => !(ring == 2 && i == index)
        | .bulkData i _ => !(ring == 2 && i == index)
        | .bulkPull i _ _ => !(ring == 2 && i == index)
        | .bcast i => !(ring == 2 && i == index)
        | _ => true }
      let d2 := d1.modDesc ring index fun e =>
        { e with result := some (status, value), phase := if e.phase = Phase.fetched then Phase.started else e.phase }
      d2.each ((d2.host.descs.filter fun o => o.ring == ring).map Desc.index) fun d i => d.release ring i

/-- Descriptors fetched and not started complete with ABORTED (R77). -/
def Dev.abortFetched (d : Dev) (ring : Nat) : Dev :=
  d.each (d.host.descs.filter fun e => e.ring == ring && e.phase == Phase.fetched) fun d e =>
    d.finishDesc ring e.index ST_ABORTED 0

/-- Fetching from a ring stops. -/
def Dev.stopRing (d : Dev) (n : Nat) : Dev := (d.set (RING_CFG_EN n) 0).abortFetched n

/-- A ring stops on an error (R50, R59). -/
def Dev.ringError (d : Dev) (n code index : Nat) : Dev :=
  ((d.stopRing n).setAll [(RING_ERR_CODE n, code), (RING_ERR_IDX_INDEX n, index)]).raise IRQ_RING_ERR

/-- RING_Qn_CFG.EN set, where allowed: both indices 0, RING_Qn_ERR cleared; Q0 starts the launch count and the flip counts
(R77, R118, R180). -/
def Dev.opRingEnable (n : Nat) (d : Dev) : Dev :=
  if d.ringEn n || d.ringBusy n || (n < 3 && !d.ringEn 3) then d
  else
    let d0 := d.setAll [(RING_CFG_EN n, 1), (RING_IDX_INDEX n, 0), (RING_ERR_CODE n, 0)]
    let d1 := if n = 0 then d0.setAll [(RING_FLIP_ACC_COUNT, 0), (RING_FLIP_REJ_COUNT, 0), (RING_FLIP_HELD_HELD, 0),
        (RING_FLIP_HELD_DEFER, 0)]
      else d0
    { d1 with
      host.hostIdx := setAt d1.host.hostIdx n 0
      host.launchCount := if n = 0 then 0 else d1.host.launchCount }

/-- RING_Qn_CFG.EN cleared, where allowed (R77). -/
def Dev.opRingDisable (n : Nat) (d : Dev) : Dev :=
  if !d.ringEn n then d
  else if n = 3 && [0, 1, 2].any fun k => d.ringEn k || d.ringBusy k then d
  else d.stopRing n

/-- RING_ENABLE (R77). -/
def execRingEnable (init : Initiator) (ring : Fin 5) (s : State) : Host.Outcome State Fault Refusal :=
  runBy init (fun st _ => isSender st) (fun _ d => d.opRingEnable ring) s

/-- RING_DISABLE (R77). -/
def execRingDisable (init : Initiator) (ring : Fin 5) (s : State) : Host.Outcome State Fault Refusal :=
  runBy init (fun st _ => isSender st) (fun _ d => d.opRingDisable ring) s

/-! Polling (R50, R57 to R61). -/

/-- HIF_CTRL.EN set (R57, R61). -/
def Dev.opPollEnable (d : Dev) : Dev :=
  if d.getb HIF_CTRL_EN then d
  else { d.setAll [(HIF_CTRL_EN, 1), (HIF_STAT_RUN, 1)] with
    host.shadow := none, host.shadowSeq := 1, host.lastShadow := none, host.lastPoll := none }

/-- HIF_CTRL.EN cleared (R61). -/
def Dev.opPollDisable (d : Dev) : Dev := d.setAll [(HIF_CTRL_EN, 0), (HIF_STAT_RUN, 0)]

/-- HIF_POLL_ENABLE (R57). -/
def execHifPollEnable (init : Initiator) (s : State) : Host.Outcome State Fault Refusal :=
  runBy init (fun st _ => isSender st) (fun _ d => d.opPollEnable) s

/-- HIF_POLL_DISABLE (R61). -/
def execHifPollDisable (init : Initiator) (s : State) : Host.Outcome State Fault Refusal :=
  runBy init (fun st _ => isSender st) (fun _ d => d.opPollDisable) s

/-- A poll interval has passed since a tick. -/
def Dev.pollDue (d : Dev) (last : Option Nat) : Bool :=
  d.getb HIF_CTRL_EN &&
  match last with
  | some t => d.passed t (us (d.get HIF_CTRL_POLL_US))
  | none => true

/-- An index read for an enabled ring: kept when it is at most a ring's size from its partner, an error otherwise
(R59). -/
def Dev.takeIndex (d : Dev) (n idx : Nat) : Dev :=
  if !d.ringEn n then d
  else if d.ringSize n < ringCount n (d.ringIdx n) idx then d.ringError n 1 idx
  else { d with host.hostIdx := setAt d.host.hostIdx n idx }

/-- The address of the doorbell page (R56). -/
def Dev.doorbellAddr (d : Dev) : Nat := d.get HIF_DB_HI_ADDR * 2 ^ 32 + d.get HIF_DB_LO_ADDR * 2 ^ 12

/-- The index of a ring in the doorbell page (R56). -/
def doorbellIndex (page : List Byte) (n : Nat) : Nat := leAt page (4 * n) 4

/-- A poll begins: one 64-byte read of the doorbell page (R57). -/
def Dev.startPoll (d : Dev) : Dev := { d with host.lastPoll := some d.ticks }.emit (.hostRead d.doorbellAddr 64)

/-- DOORBELL_POLL: the indices of the enabled rings (R56, R57, R59). -/
def execDoorbellPoll (page : List Byte) (s : State) : Host.Outcome State Fault Refusal :=
  runIf (fun st d => isSender st && d.awake && d.pollDue d.host.lastPoll)
    (fun _ d =>
      { d.startPoll with host.failRun := 0 }.each (List.range 5) fun d n => d.takeIndex n (doorbellIndex page n)) s

/-- DOORBELL_POLL_FAIL (R50). -/
def execDoorbellPollFail (s : State) : Host.Outcome State Fault Refusal :=
  runIf (fun st d => isSender st && d.awake && d.pollDue d.host.lastPoll)
    (fun _ d =>
      let d1 := { d.startPoll.set HIF_STAT_DB_ERR 1 with host.failRun := d.host.failRun + 1 }
      if d1.host.failRun == 16 then d1.raise IRQ_RING_ERR else d1) s

/-- SHADOW_WRITE (R61). -/
def execShadowWrite (s : State) : Host.Outcome State Fault Refusal :=
  runIf (fun st d => isSender st && d.awake && d.shadowStale && d.pollDue d.host.lastShadow)
    (fun _ d => d.shadowWrite) s

/-! Fetching (R50, R63, R74). -/

/-- The number of a descriptor ring. -/
def descRingNo : DescRing → Nat
  | .command => 1
  | .bulk => 2

/-- Whether the device may fetch from a command or bulk ring: enabled, an entry there, and the limits of R74. -/
def Dev.mayFetch (d : Dev) (n : Nat) : Bool :=
  d.ringEn n && d.ringEntries n != 0 && decide (d.inFlight < 1024) && decide (d.host.descs.length < 960)

/-- A slot of a ring is read. -/
def Dev.readSlot (d : Dev) (n index : Nat) : Dev := d.emit (.hostRead (d.slotAddr n index 64) 64)

/-- DESC_FETCH: the descriptor is copied and the consumer index advances; a CRC mismatch completes it (R63). -/
def execDescFetch (ring : DescRing) (slot : List Byte) (s : State) : Host.Outcome State Fault Refusal :=
  let n := descRingNo ring
  runIf (fun st d => isSender st && d.awake && d.mayFetch n)
    (fun _ d =>
      let i := d.ringIdx n
      let bytes := slice slot 0 64
      let e : Desc := { ring := n, index := i, bytes := bytes, phase := Phase.fetched, data := [], sent := 0, opened := false,
                        result := none }
      let d1 := { (d.readSlot n i).set (RING_IDX_INDEX n) (i + 1) with host.descs := d.host.descs ++ [e] }
      if dCrcOk bytes then d1 else d1.postDesc e ST_DESC_CRC 0) s

/-- The number of a ring that the device fetches from. -/
def fetchRingNo : FetchRing → Nat
  | .flip => 0
  | .command => 1
  | .bulk => 2

/-- Whether the device may be reading the slot `ahead` slots past its index: a flip's slots are read from its header on, a
command or bulk descriptor is one slot (R55, R72). -/
def Dev.maySlot (d : Dev) (n ahead : Nat) : Bool :=
  if n = 0 then d.ringEn 0 && decide (ahead < d.ringEntries 0) && decide (ahead ≤ 16) && decide (d.inFlight < 1024)
  else d.mayFetch n && ahead == 0

/-- DESC_FETCH_FAIL: the ring stops with CODE = READ (R50). -/
def execDescFetchFail (ring : FetchRing) (ahead : Nat) (s : State) : Host.Outcome State Fault Refusal :=
  let n := fetchRingNo ring
  runIf (fun st d => isSender st && d.awake && d.maySlot n ahead)
    (fun _ d => (d.readSlot n (d.ringIdx n + ahead)).ringError n 2 ((d.ringIdx n + ahead) % d.ringSize n)) s

/-! Posting (R62, R68, R70, R71, R76). -/

/-- Room in the Completion or Event Ring. -/
def Dev.ringRoom (d : Dev) (n : Nat) : Bool := d.ringEn n && decide (d.ringEntries n < d.ringSize n)

/-- COMPLETION_POST: the oldest waiting completion is written with its PHASE, and its descriptor leaves flight (R68,
R74, R76). -/
def execCompletionPost (s : State) : Host.Outcome State Fault Refusal :=
  runIf (fun st d => isSender st && d.awake && !d.host.cpls.isEmpty && d.ringRoom 3)
    (fun _ d =>
      match d.host.cpls with
      | [] => d
      | c :: rest =>
        let i := d.ringIdx 3
        let phase := i / d.ringSize 3 % 2 == 1
        let d1 := d.emit (.hostWrite (d.slotAddr 3 i 16) (cplBytes c phase))
        let d2 := { d1 with
          host.cpls := rest
          host.descs := d1.host.descs.filter fun e => !(e.ring == c.ring && e.index == c.index) }
        (d2.set (RING_IDX_INDEX 3) (i + 1)).raise IRQ_CPL) s

/-- A record is written to the Event Ring. -/
def Dev.writeEvent (d : Dev) (r : EventRec) : Dev :=
  let i := d.ringIdx 4
  ((d.emit (.hostWrite (d.slotAddr 4 i 32) (eventBytes r))).set (RING_IDX_INDEX 4) (i + 1)).raise IRQ_EVT

/-- A record that has no room is dropped and counted (R71). -/
def Dev.dropEvent (d : Dev) : Dev := { d.add HIF_EVT_DROP_COUNT 1 with host.dropped := d.host.dropped + 1 }

/-- An EVT_RING_OVF does not reach the Event Ring: the drops that it carried are still to be reported (R71). -/
def Dev.ovfFailed (d : Dev) (count : Nat) : Dev :=
  { d with host.dropped := d.host.dropped + count, host.ovfPend := false }

/-- With drops to report and room in the ring, EVT_RING_OVF is recorded, once the recorder can take it; it is written before
anything else (R71). -/
def Dev.startOvf (st : Straps) (d : Dev) : Dev :=
  if recDepth ≤ d.rcd.queue.length then d
  else { d.event st EV_EVT_RING_OVF d.host.dropped 0 0 with host.dropped := 0, host.ovfPend := true }

/-- One record that waits is delivered to the Event Ring, dropped, or filtered out (R70, R71). -/
def Dev.deliverEvent (st : Straps) (d : Dev) : Dev :=
  match d.host.evtPend with
  | [] => if d.host.dropped != 0 && !d.host.ovfPend && d.ringRoom 4 then d.startOvf st else d
  | r :: rest =>
    let d1 := { d with host.evtPend := rest }
    if r.code == EV_EVT_RING_OVF.code then (if d.ringRoom 4 then d1.writeEvent r else d1.dropEvent.ovfFailed r.p0)
    else if r.sev < d.get HIF_EVT_CFG_MIN_SEV then d1
    else if d.host.ovfPend then d
    else if !d.ringRoom 4 then d1.dropEvent
    else if d.host.dropped != 0 then d.startOvf st
    else d1.writeEvent r

/-- EVENT_RING_WRITE (R70, R71). -/
def execEventRingWrite (s : State) : Host.Outcome State Fault Refusal :=
  runSender (fun st d => d.deliverEvent st) s

/-- EVENT_RECEIVE: a tile's record goes to the Event Ring, behind the records that wait (R70, R71). -/
def execEventReceive (s : State) : Host.Outcome State Fault Refusal :=
  runSender (fun st d =>
    match d.rxq with
    | p :: rest =>
      if pktType p.bytes == PT_EVENT then
        let d1 := { d with rxq := rest, host.evtPend := d.host.evtPend ++ [eventOfBytes (pktBody p.bytes)] }
        if d.host.evtPend.isEmpty then d1.deliverEvent st else d1
      else d
    | [] => d) s

/-! Interrupts (R83). -/

/-- INTR_MODERATION_TIMEOUT: TIME µs have passed since a cause's first pending item. -/
def execIntrModerationTimeout (cause : Fin 16) (s : State) : Host.Outcome State Fault Refusal :=
  let c : Nat := cause
  runIf (fun st d => isSender st && d.awake && d.getb (HIF_VEC_EN c) && (nth d.host.items c (0, 0)).1 != 0 &&
      d.passed (nth d.host.items c (0, 0)).2 (us (d.get (HIF_VEC_TIME c))))
    (fun _ d => d.signal c) s

/-- INTR_COUNT_REACHED: a cause's pending items have reached COUNT; 0 acts as 1. -/
def execIntrCountReached (cause : Fin 16) (s : State) : Host.Outcome State Fault Refusal :=
  let c : Nat := cause
  runIf (fun st d => isSender st && d.awake && d.getb (HIF_VEC_EN c) &&
      decide (max 1 (d.get (HIF_VEC_COUNT c)) ≤ (nth d.host.items c (0, 0)).1))
    (fun _ d => d.signal c) s

/-- A vector that is masked no longer: when its Pending Bit is set, its message is sent (R83). -/
def Dev.sendPending (d : Dev) (v : Nat) : Dev :=
  if nth d.host.pba v false && !d.vecMasked v then { d with host.pba := setAt d.host.pba v false }.sendMessage v else d

/-- A vector's own mask bit is cleared. -/
def Dev.unmask (v : Nat) (d : Dev) : Dev := { d with host.vecMask := setAt d.host.vecMask v false }.sendPending v

/-- Message Control of MSI-X is written: Function Mask and Enable; what the Function Mask held back is sent (R83). -/
def Dev.writeMsixCtl (v : Nat) (d : Dev) : Dev :=
  { d with host.pcie.msixCtl := natBits v 30 2 }.each (List.range 64) Dev.sendPending

/-- MSIX_UNMASK: a vector whose Pending Bit is set is sent. -/
def execMsixUnmask (vector : Fin 64) (s : State) : Host.Outcome State Fault Refusal :=
  runSender (fun _ d => d.unmask vector) s

/-! BAR2 (R48). -/

/-- A word of the MSI-X table: message address, its upper half, data, Vector Control with the mask in bit 0. -/
def Dev.tableWord (d : Dev) (off : Nat) : Nat :=
  let v := off / 16
  let e := nth d.host.pcie.table v (0, 0)
  match off % 16 / 4 with
  | 0 => e.1 % 2 ^ 32
  | 1 => e.1 / 2 ^ 32
  | 2 => e.2
  | _ => b2n (nth d.host.vecMask v true)

/-- What BAR2 reads: the MSI-X table at 0x0000, the Pending Bit Array at 0x8000; 0 elsewhere. -/
def Dev.bar2Read (d : Dev) (off : Nat) : Nat :=
  let pending (k : Nat) : Nat := ((List.range 32).map fun b => b2n (nth d.host.pba (32 * k + b) false) * 2 ^ b).sum
  if off < 1024 then d.tableWord off
  else if off / 4 = 0x2000 then pending 0
  else if off / 4 = 0x2001 then pending 1
  else 0

/-- A word written to BAR2: an entry of the MSI-X table takes it, the mask bit masks or unmasks its vector; the Pending Bit
Array is read only. -/
def Dev.bar2Write (off v : Nat) (d : Dev) : Dev :=
  let n := off / 16
  let put (f : Nat × Nat → Nat × Nat) : Dev := { d with host.pcie.table := modAt d.host.pcie.table n f }
  if 1024 ≤ off then d
  else match off % 16 / 4 with
    | 0 => put fun e => (e.1 / 2 ^ 32 * 2 ^ 32 + v / 4 * 4, e.2)
    | 1 => put fun e => (v * 2 ^ 32 + e.1 % 2 ^ 32, e.2)
    | 2 => put fun e => (e.1, v)
    | _ => if natBit v 0 then { d with host.vecMask := setAt d.host.vecMask n true } else d.unmask n

/-! Configuration space (R47, R49, R84, R391). Its header and its standard capabilities are those of every PCI Express
function; at which offsets the capabilities stand is the model's choice (log entry 104): power management at 0x40, MSI-X at
0x50, PCI Express at 0x70, AER at 0x100. -/

/-- STATUS of the mailbox capability (R391). -/
def Dev.vsecStatus (d : Dev) : Nat := d.get MBX_STAT_FULL % 16 + 16 * (d.mbx.vsecAborted % 16) + 256 * (d.mbx.vsecCross % 4)

/-- What a configuration read returns; `none` is Configuration Request Retry Status, until the link is in L0 (R84). -/
def Dev.configRead (d : Dev) (off : Nat) : Option Nat :=
  let p := d.host.pcie
  if !d.host.linkUp then none
  else some (match off with
    | 0x00 => 0x48921F3C
    | 0x04 => 0x00100000 + 2 * b2n p.memEn + 4 * b2n p.busEn
    | 0x08 => 0x04800000 + Config.revision.toNat
    | 0x10 => p.bar0 % 2 ^ 32 + 4
    | 0x14 => p.bar0 / 2 ^ 32
    | 0x18 => p.bar2 % 2 ^ 32 + 4
    | 0x1C => p.bar2 / 2 ^ 32
    | 0x34 => 0x40
    | 0x40 => 0x00035001
    | 0x44 => 3 * b2n p.d3hot
    | 0x50 => 0x003F7011 + 2 ^ 30 * p.msixCtl
    | 0x54 => 0x0002
    | 0x58 => 0x8002
    | 0x70 => 0x00020010
    | 0x74 => 0x10008022
    | 0x78 => p.devCtl
    | 0x7C => 0x0885
    | 0x80 => p.linkCtl + 2 ^ 16 * d.get HIF_STAT_LINK_GEN + 2 ^ 20 * d.get HIF_STAT_LINK_WIDTH
    | 0x94 => 0x30000
    | 0x100 => 0x40020001
    | 0x104 => 2 ^ 15 * b2n p.caLogged
    | 0x118 => 0x00A0 + p.aerCtl
    | 0x400 => 0x0001000B
    | 0x404 => 0x02010001
    | 0x408 => d.get (MBX_DATA_WORD 0)
    | 0x40C => d.get (MBX_DATA_WORD 1)
    | 0x410 => d.get (MBX_DATA_WORD 2)
    | 0x414 => d.get (MBX_DATA_WORD 3)
    | 0x418 => d.vsecStatus
    | _ => 0)

/-! The PCIe function (R47, R51, R84). -/

/-- A waiter that a reset of the function leaves: a tile's CMD, none of the rings (R51). -/
def remoteWaiter : Option Waiter → Option Waiter
  | some (.remote p) => some (.remote p)
  | _ => none

/-- Who waits for an operation that a reset of the function drops is no longer answered (R51). -/
def Dev.forgetWaiters (d : Dev) : Dev :=
  { d with
    host.enumWait := none
    host.probes := d.host.probes.filter fun p => p.index.isNone
    host.out := d.host.out.filter fun o =>
      match o.kind with
      | .survey _ | .pathWrite | .mixedCheck => true
      | _ => false
    time.surveys := d.time.surveys.map fun v => { v with waiter := none }
    twin.swap := d.twin.swap.map fun w => { w with index := none }
    cal.step := d.cal.step.map fun c => { c with waiter := remoteWaiter c.waiter }
    rcd.queue := d.rcd.queue.map fun e => { e with mark := remoteWaiter e.mark }
    sec.domino := none }

/-- What Function Level Reset and D3hot return to Reset (R51): the HIF and RING registers but READY, the link fields and the
flip counters, the indices, the descriptors in flight and the completions that wait. Accepted flips go on; event records that
wait, the count of dropped ones and a pending EVT_RING_OVF stay (log entry 131). -/
def Dev.opFunctionReset (st : Straps) (d : Dev) : Dev :=
  let keep := [HIF_STAT_READY, HIF_STAT_LINK_GEN, HIF_STAT_LINK_WIDTH].map fun f => (f, d.get f)
  let inRings (a : Nat) : Bool :=
    decide (0x010000 ≤ a) && decide (a < 0x030000) &&
    !(a == RING_FLIP_MODE || a == RING_FLIP_ACC || a == RING_FLIP_REJ || a == RING_FLIP_HELD)
  let d1 := { d with regs := d.regs.filter fun e => !inRings e.1 }.setAll keep
  let drop (f : Flip) : Flip := { f with dropped := true }
  let d2 := { d1 with
    host.hostIdx := [0, 0, 0, 0, 0], host.shadow := none, host.shadowSeq := 1, host.lastShadow := none,
    host.lastPoll := none, host.lastFence := none, host.failRun := 0, host.descs := [], host.cpls := [],
    host.items := List.replicate 16 (0, 0), host.queue := d1.host.queue.map drop,
    host.flying := d1.host.flying.map drop }
  d2.forgetWaiters.clearMbxs st [1, 3]

/-- The function's own registers and its MSI-X table return to their reset values, the mailbox capability's ABORTED and
CROSS with them (R389); what AER has logged stays (log entry 104). -/
def Dev.resetFunction (d : Dev) : Dev :=
  { d with
    host.pcie := { PcieSt.init with caLogged := d.host.pcie.caLogged }, host.vecMask := List.replicate 64 true, host.pba := List.replicate 64 false
    mbx.vsecAborted := 0, mbx.vsecCross := 0 }

/-- FUNCTION_LEVEL_RESET (R51). -/
def execFunctionLevelReset (s : State) : Host.Outcome State Fault Refusal :=
  runSender (fun st d => d.resetFunction.opFunctionReset st) s

/-- Entry into D3hot. -/
def Dev.enterD3hot (st : Straps) (d : Dev) : Dev := { d.opFunctionReset st with host.pcie.d3hot := true }

/-- D3HOT_ENTRY (R51). -/
def execD3hotEntry (s : State) : Host.Outcome State Fault Refusal :=
  runSender (fun st d => d.enterD3hot st) s

/-- A base address of a BAR of `size` bytes with one half written. -/
def barHalf (size : Nat) (high : Bool) (old v : Nat) : Nat :=
  if high then v * 2 ^ 32 + old % 2 ^ 32 else old / 2 ^ 32 * 2 ^ 32 + v / size * size

/-- Device Control: bit 15 resets the function; Relaxed Ordering and No Snoop are never set (R47). -/
def Dev.writeDevCtl (st : Straps) (v : Nat) (d : Dev) : Dev :=
  if natBit v 15 then d.resetFunction.opFunctionReset st else { d with host.pcie.devCtl := v % 2 ^ 15 &&& 0x77EF }

/-- A configuration write: the command bits, the BARs, the standard capabilities and that of the mailboxes (R47, R387, R388,
R391); with Retry Status, and elsewhere, it changes nothing. -/
def Dev.configWrite (st : Straps) (off v : Nat) (d : Dev) : Dev :=
  if !d.host.linkUp then d
  else match off with
    | 0x04 => { d with host.pcie.memEn := natBit v 1, host.pcie.busEn := natBit v 2 }
    | 0x10 => { d with host.pcie.bar0 := barHalf (2 ^ 24) false d.host.pcie.bar0 v }
    | 0x14 => { d with host.pcie.bar0 := barHalf (2 ^ 24) true d.host.pcie.bar0 v }
    | 0x18 => { d with host.pcie.bar2 := barHalf (2 ^ 16) false d.host.pcie.bar2 v }
    | 0x1C => { d with host.pcie.bar2 := barHalf (2 ^ 16) true d.host.pcie.bar2 v }
    | 0x44 => if v % 4 = 3 && !d.host.pcie.d3hot then d.enterD3hot st
      else if v % 4 = 0 then { d with host.pcie.d3hot := false } else d
    | 0x50 => d.writeMsixCtl v
    | 0x78 => d.writeDevCtl st v
    | 0x80 => { d with host.pcie.linkCtl := v % 4 }
    | 0x104 => { d with host.pcie.caLogged := d.host.pcie.caLogged && !natBit v 15 }
    | 0x118 => { d with host.pcie.aerCtl := v &&& 0x140 }
    | 0x408 => d.opMbxWrite st .host 0 v
    | 0x410 => d.opMbxWrite st .host 2 v
    | 0x418 => { d with
        mbx.vsecAborted := d.mbx.vsecAborted - (d.mbx.vsecAborted &&& natBits v 4 4)
        mbx.vsecCross := d.mbx.vsecCross - (d.mbx.vsecCross &&& natBits v 8 2) }
    | 0x41C => d.each ([1, 3].filter fun m => natBit v m) fun d m => d.opMbxAck st .host m
    | _ => d

/-- PERST_DEASSERT: the function comes out of its reset, and link training starts (R84). -/
def execPerstDeassert (s : State) : Host.Outcome State Fault Refusal :=
  runSender (fun _ d => { d.resetFunction with host.training := true, host.pcie := PcieSt.init }.emit .linkTraining) s

/-- PCIE_LINK_UP: LINK_GEN and LINK_WIDTH take the negotiated values (R47, R84). -/
def execPcieLinkUp (gen width : Nat) (s : State) : Host.Outcome State Fault Refusal :=
  runIf (fun st d => isSender st && d.awake && decide (1 ≤ gen) && decide (gen ≤ 5) && [1, 2, 4, 8].contains width)
    (fun _ d => { d with host.training := false, host.linkUp := true }.setAll
      [(HIF_STAT_LINK_GEN, gen), (HIF_STAT_LINK_WIDTH, width)]) s

/-- PCIE_LINK_DOWN: LINK_GEN and LINK_WIDTH read 0 (R85). -/
def execPcieLinkDown (s : State) : Host.Outcome State Fault Refusal :=
  runSender (fun _ d => { d with host.linkUp := false }.setAll [(HIF_STAT_LINK_GEN, 0), (HIF_STAT_LINK_WIDTH, 0)]) s

end Sys2Proof.Machine
end

