-- ==== Sys2Proof/Machine/Flip.lean ====
section
/-! DEFINITION. Flips at a sender: the checks of acceptance, present times, fences, launch, layer reads, transport end and
mode changes (spec/04_layers_surfaces_modes.md R97 to R118, spec/06_chain_transport.md R180, R181, spec/07_wall_time.md
R203 to R206). -/

namespace Sys2Proof.Machine

/-! Times (R100, R115, R203). -/

/-- L of R203, in nanoseconds. -/
def Dev.launchLead (d : Dev) (mode : Nat) : Nat :=
  2000000 + min (d.get TIME_LAUNCH_LEAD_US * 1000 - 2000000) (periodFloor mode - 100000)

/-- The launch time of a present time. -/
def Dev.launchAt (d : Dev) (mode present : Nat) : Nat := present - d.launchLead mode

/-- The previous accepted flip (R100): present time and mode. -/
def Dev.prevFlip (d : Dev) : Option (Nat × Nat) :=
  match d.host.queue.getLast? with
  | some f => some (f.present, f.mode)
  | none => d.host.prev

/-- G of R115 for a change to a new mode: T_new alone while no mode is in force. T_old is the period of the flip before, if
there is one, also where that flip itself changes the mode and is not yet presented (log entry 102); otherwise that of the
mode in force. -/
def Dev.modeGap (d : Dev) (before : Option Nat) (mode : Nat) : Nat :=
  let cur := d.get RING_FLIP_MODE_CUR
  if cur = 0xFF then 3 * periodCeil mode else 3 * max (periodCeil (before.getD cur)) (periodCeil mode)

/-- Whether a flip of this mode is a mode-change flip (R115). -/
def Dev.changesMode (d : Dev) (mode : Nat) : Bool :=
  match d.prevFlip with
  | some p => p.2 != mode
  | none => d.get RING_FLIP_MODE_CUR != mode

/-- The present time of a flip with this header (R100). -/
def Dev.presentFor (d : Dev) (h : List Byte) : Nat :=
  let mode := fMode h
  if fNext h then
    let after := if d.host.queue.isEmpty then 0 else
      match d.prevFlip with
      | some p => p.1 + 1
      | none => 0
    let gap := if d.changesMode mode then d.now + d.modeGap (d.prevFlip.map Prod.snd) mode else 0
    gridFrom mode (max (max (d.now + d.launchLead mode) after) gap)
  else gridFrom mode (fPresentS h * giga + fPresentNs h)

/-! The checks (R102, R103, R105). -/

/-- A failed check: its status, and the device and the layer that its VALUE names. -/
structure FlipFault where
  status : Nat
  device : Option Nat
  layer : Option Nat
  deriving DecidableEq, Repr

/-- VALUE of FLIP_REJECT (R105). -/
def FlipFault.value (f : FlipFault) : Nat :=
  (match f.device with
    | some a => a % 4096 + 2 ^ 31
    | none => 0) +
  (match f.layer with
    | some n => n % 16 * 2 ^ 16 + 2 ^ 30
    | none => 0)

/-- The first failure of a list of checks. -/
def firstFault : List (Option FlipFault) → Option FlipFault
  | [] => none
  | some f :: _ => some f
  | none :: rest => firstFault rest

/-- A failure that names nothing, when the condition holds. -/
def faultIf (c : Bool) (status : Nat) : Option FlipFault := if c then some ⟨status, none, none⟩ else none

/-- The header's part of check 2. -/
def headerFaulty (h : List Byte) : Bool :=
  let ga := fGuardAddr h
  let gl := fGuardLen h
  fType h != 1 || decide (16 < fLayers h) || (!fNext h && decide (giga ≤ fPresentNs h)) || decide (8 < fDefer h) ||
  ga % 64 != 0 || (ga != 0 && (decide (gl < 8) || decide (65536 < gl) || gl % 4 != 0)) || (ga == 0 && gl != 0)

/-- An address that must be a nonzero multiple of 64. -/
def surfaceAddrOk (a : Nat) : Bool := a != 0 && a % 64 == 0

/-- One entry's fields of check 2, but for its layer number. -/
def entryFaulty (e : List Byte) : Bool :=
  let size (v m : Nat) : Bool := decide (1 ≤ v) && decide (v ≤ m)
  !formatKnown (eFormat e) || !size (eSrcW e) 16384 || !size (eSrcH e) 16384 || !size (eDstW e) 32767 ||
  !size (eDstH e) 32767 || !surfaceAddrOk (eAddr e) || eFenceAddr e % 8 != 0 ||
  (if isPbs (eFormat e) then !surfaceAddrOk (ePayload e) || !size (ePitch e) 67108864
   else ePitch e % 64 != 0 || decide (ePitch e < rowBytes (eFormat e) (eSrcW e)) || decide (1048576 < ePitch e))

/-- The entries' part of check 2, in entry order; `seen` holds the layer numbers so far. -/
def entriesFault : List Nat → List (List Byte) → Option FlipFault
  | _, [] => none
  | seen, e :: rest =>
    let n := eLayer e
    if 15 < n then some ⟨ST_FLIP_REJECT_DESC, none, none⟩
    else if seen.contains n || entryFaulty e then some ⟨ST_FLIP_REJECT_DESC, none, some n⟩
    else entriesFault (n :: seen) rest

/-- Check 4. -/
def ratioFault (es : List (List Byte)) : Option FlipFault :=
  (es.find? fun e => decide (4 * eDstW e < eSrcW e) || decide (4 * eDstH e < eSrcH e) ||
    decide (32 * eSrcW e < eDstW e) || decide (32 * eSrcH e < eDstH e)).map
    fun e => ⟨ST_FLIP_REJECT_RATIO, none, some (eLayer e)⟩

/-- Check 7: the table was read whole and its CRC matches (R101). -/
def guardOk (h : List Byte) (table : Option (List Byte)) : Bool :=
  fGuardAddr h == 0 ||
  match table with
  | some t =>
    let n := fGuardLen h
    t.length == n && leAt t (n - 4) 4 == crc32c (t.take (n - 4))
  | none => false

/-- The devices of the map in force, by wall address: address and footprint (R103, R212). -/
def Dev.mapDevices (d : Dev) (present : Nat) : List (Nat × Footprint) :=
  ((List.range 4).flatMap fun x => (List.range 64).map fun q =>
    ((4 * d.get XPT_CTRL_PAIR + x) * 64 + q, d.mapFor x q present)).filter fun e => e.2.en

/-- Checks 8a to 8d of one device. -/
def deviceFault (mode addr : Nat) (f : Footprint) (ls : List Layer) : Option FlipFault :=
  let meet := ls.filter fun l => layerMeets mode f l
  let scaled := meet.filter Layer.scaled
  firstFault [
    if 8 < meet.length then some ⟨ST_FLIP_REJECT_LAYERS, some addr, none⟩ else none,
    if 4 < scaled.length then some ⟨ST_FLIP_REJECT_SCALER, some addr, none⟩ else none,
    (scaled.find? fun l => decide (768 < lineSpan mode f l)).map
      fun l => ⟨ST_FLIP_REJECT_LINEBUF, some addr, some l.number⟩,
    if 2048 < (meet.map fun l => 2 * blockCount mode f l).sum then some ⟨ST_FLIP_REJECT_STORE, some addr, none⟩ else none]

/-- Checks 1 to 4, which the slots alone decide. -/
def slotFault (h : List Byte) (es : List (List Byte)) : Option FlipFault :=
  firstFault [
    faultIf (!dCrcOk h || es.any fun e => !dCrcOk e) ST_FLIP_REJECT_CRC,
    faultIf (headerFaulty h) ST_FLIP_REJECT_DESC,
    entriesFault [] es,
    faultIf (!modeAllowed (fMode h)) ST_FLIP_REJECT_MODE,
    ratioFault es]

/-- Checks 5 and 6, of the present time. -/
def Dev.timeFault (d : Dev) (h : List Byte) : Option FlipFault :=
  let mode := fMode h
  let p := d.presentFor h
  firstFault [
    faultIf (decide (p < d.now + d.launchLead mode) || decide (d.now + giga < p) ||
      (d.changesMode mode && decide (p < d.now + d.modeGap (d.prevFlip.map Prod.snd) mode))) ST_FLIP_REJECT_TIME,
    faultIf (!fNext h && match d.prevFlip with
      | some q => decide (p ≤ q.1)
      | none => false) ST_FLIP_REJECT_ORDER]

/-- Checks 1 to 6, which come before the signature table is read. -/
def Dev.earlyFault (d : Dev) (h : List Byte) (es : List (List Byte)) : Option FlipFault :=
  match slotFault h es with
  | some f => some f
  | none => d.timeFault h

/-- The checks of R102 in order. -/
def Dev.flipFault (d : Dev) (h : List Byte) (es : List (List Byte)) (table : Option (List Byte)) : Option FlipFault :=
  match d.earlyFault h es with
  | some f => some f
  | none =>
    firstFault (faultIf (!guardOk h table) ST_FLIP_REJECT_GUARD ::
      (d.mapDevices (d.presentFor h)).map fun e => deviceFault (fMode h) e.1 e.2 (es.map layerOfEntry))

/-! Retiring layers and flushing flips (R68, R113, R116, R206). -/

/-- The LAYER_RETIRE of a layer, unless the function was reset since (R51). -/
def Dev.postRetire (f : Flip) (l : LayerSt) (status : Nat) (d : Dev) : Dev :=
  if l.retired || f.dropped then d
  else d.complete { tag := fTag f.header, status := status, kind := K_LAYER_RETIRE, ring := 0, index := f.index,
                    value := eLayer l.entry }

/-- Flips leave the queue unlaunched: each of their layers retires with LAYER_FLUSHED. -/
def Dev.flushFlips (fs : List Flip) (d : Dev) : Dev :=
  d.each fs fun d f => d.each f.layers fun d l => d.postRetire f l ST_LAYER_FLUSHED

/-- The mode of the last accepted mode-change flip that is not yet presented (R118). -/
def Dev.pendingMode (d : Dev) : Nat :=
  match ((d.host.flying ++ d.host.queue).filter Flip.modeChange).getLast? with
  | some f => f.mode
  | none => 0xFF

/-- RING_FLIP_MODE.NEXT shows the pending mode change. -/
def Dev.showNext (d : Dev) : Dev := d.set RING_FLIP_MODE_NEXT d.pendingMode

/-- A mode-change flip with present time `p` flushes every unlaunched flip at or after P_new − 100 ms (R116), and every one
that changes the mode itself (R117). -/
def Dev.flushForChange (p : Nat) (d : Dev) : Dev :=
  let keeps (f : Flip) : Bool := decide (f.present + 100000000 < p) && !f.modeChange
  let gone := d.host.queue.filter fun f => !keeps f
  { d with host.queue := d.host.queue.filter keeps }.flushFlips gone

/-! Accepting and rejecting (R102, R105, R113). -/

/-- The layer entries of a flip as it is accepted: a layer without a fence is satisfied (R107). -/
def acceptedLayer (e : List Byte) : LayerSt :=
  { entry := e, ready := eFenceAddr e == 0, held := false, retired := false }

/-- A flip is rejected: nothing else changes. -/
def Dev.rejectFlip (index : Nat) (h : List Byte) (f : FlipFault) (d : Dev) : Dev :=
  ((d.addSat RING_FLIP_REJ_COUNT 1).set RING_FLIP_REJ_LAST f.status).complete
    { tag := fTag h, status := f.status, kind := K_FLIP_REJECT, ring := 0, index := index, value := f.value }

/-- A flip is accepted. -/
def Dev.acceptFlip (st : Straps) (index : Nat) (h : List Byte) (es : List (List Byte)) (table : Option (List Byte))
    (d : Dev) : Dev :=
  let mode := fMode h
  let p := d.presentFor h
  let change := d.changesMode mode
  let guards := match table with
    | some t => if fGuardAddr h = 0 then [] else t.take (fGuardLen h - 4)
    | none => []
  let f : Flip := { index := index, header := h, layers := es.map acceptedLayer, guards := guards, mode := mode,
                    present := p, modeChange := change, deferred := 0, launched := none, closed := false,
                    ended := false, ports := [], dropped := false }
  let d1 := if change then d.flushForChange p else d
  let d2 := { d1 with
    host.queue := d1.host.queue ++ [f]
    twin.accepted := (d1.twin.accepted.filter fun (e : Nat × Nat × Nat) => decide (d.now < e.1 + giga)) ++ [(p, fTag h, fLayers h)] }
  let d3 := (if change then d2.showNext else d2).add RING_FLIP_ACC_COUNT 1
  let d4 := d3.complete { tag := fTag h, status := ST_OK, kind := K_FLIP_ACCEPT, ring := 0, index := index,
                          value := p % giga }
  d4.each es fun d e =>
    d.eventIf st (substBits (eColour e) != 0) EV_LAYER_SUBST (eLayer e) (fTag h) (substBits (eColour e))

/-- The slots that a header names: 1 + min(LAYERS, 16) (R55). -/
def flipSlots (h : List Byte) : Nat := 1 + min (fLayers h) 16

/-- The reads that parsing makes: the flip's slots, and the signature table where the header names one and the checks before
it pass (R55, R101, R102). -/
def Dev.readFlip (i n : Nat) (h : List Byte) (es : List (List Byte)) (d : Dev) : Dev :=
  let d1 := d.each (List.range n) fun d k => d.readSlot 0 (i + k)
  if fGuardAddr h = 0 || (d.earlyFault h es).isSome then d1 else d1.emit (.hostRead (fGuardAddr h) (fGuardLen h))

/-- The outcome of the checks. -/
def Dev.judgeFlip (st : Straps) (i : Nat) (h : List Byte) (es : List (List Byte)) (table : Option (List Byte)) (d : Dev) : Dev :=
  match d.flipFault h es table with
  | some f => d.rejectFlip i h f
  | none => d.acceptFlip st i h es table

/-! Fences (R107). -/

/-- The layers of a flip after its fence reads; the answer holds the reads that are left. -/
def readFences : List LayerSt → List (Option (BitVec 64)) → List LayerSt × List (Option (BitVec 64))
  | [], rs => ([], rs)
  | l :: ls, rs =>
    if l.ready || l.retired then
      let t := readFences ls rs
      (l :: t.1, t.2)
    else
      let seen := match rs.headD none with
        | some v => decide (eFenceValue l.entry ≤ v.toNat)
        | none => false
      let t := readFences ls (rs.drop 1)
      ({ l with ready := seen } :: t.1, t.2)

/-- Fences of a flip are read until its launch time. -/
def Dev.fencesOpen (d : Dev) (f : Flip) : Bool := decide (d.now + d.launchLead f.mode ≤ f.present)

/-- The flips of the queue after the fence reads of one poll interval, of those for which `open_` holds. -/
def readFlips (open_ : Flip → Bool) : List Flip → List (Option (BitVec 64)) → List Flip
  | [], _ => []
  | f :: fs, rs =>
    if open_ f then
      let t := readFences f.layers rs
      { f with layers := t.1 } :: readFlips open_ fs t.2
    else f :: readFlips open_ fs rs

/-- A poll interval has passed since the last reading of fences. -/
def Dev.fenceDue (d : Dev) : Bool :=
  match d.host.lastFence with
  | some t => d.passed t (us (d.get HIF_CTRL_POLL_US))
  | none => true

/-- FENCE_POLL: one read of each unsatisfied fence of the flips that wait, in queue order, up to the launch time of each; a
read that fails counts as unsatisfied (R107, R108). -/
def execFencePoll (reads : List (Option (BitVec 64))) (s : State) : Host.Outcome State Fault Refusal :=
  runIf (fun st d => isSender st && d.awake && d.fenceDue)
    (fun _ d =>
      let waiting := (d.host.queue.filter d.fencesOpen).flatMap fun f => f.layers.filter fun l => !(l.ready || l.retired)
      { d with host.queue := readFlips d.fencesOpen d.host.queue reads, host.lastFence := some d.ticks }.each waiting fun d l =>
        d.emit (.hostRead (eFenceAddr l.entry) 8)) s

/-! Frames on the ports (R180, R181, R286, R288). -/

/-- This sender has acknowledged a swap away from it, and the frame is the peer's: its present time is at or after P_s
(R297, step 6). -/
def Dev.handedOver (d : Dev) (present : Nat) : Bool :=
  d.twin.swap.any fun w => w.acked && !w.mine && decide (w.ps ≤ present)

/-- Whether a port sends the frame launched at a wall time: it feeds, it has reached LS0 and still sends cells, and neither
entered FEED nor reached LS0 later (R288, R292); the frame is not one that the peer sends after a swap (R297). -/
def Dev.feeds (d : Dev) (x launch present : Nat) : Bool :=
  d.portMode x == M_FEED && (d.pstate x == P_LS0 || d.pstate x == P_RECOVER) && decide (nth d.twin.feedAt x 0 ≤ launch) &&
  decide (nth d.twin.ls0Wall x 0 ≤ launch) && !d.handedOver present

/-- A frame's packet, twice, the second with COPY (R180). -/
def Dev.sendTwice (st : Straps) (x typ frame : Nat) (body : List Byte) (d : Dev) : Dev :=
  d.each [false, true] fun d copy =>
    d.queueTx st x TQ_FRAME (.bytes (senderPkt st d x typ false copy frame 0 body) none true)

/-- The guard entries of a table that name devices on a chain (R222). -/
def chainGuards (chain : Nat) (table : List Byte) : List Byte :=
  (List.range (table.length / 16)).flatMap fun i =>
    let e := slice table (16 * i) 16
    if natBits (leAt e 0 2) 6 6 == chain then e else []

/-- The body of a flip's FLIP-HDR on a chain (R161). -/
def flipHdrBody (f : Flip) (chain : Nat) : List Byte :=
  let g := chainGuards chain f.guards
  leBytes f.mode 1 ++ leBytes f.layers.length 1 ++ leBytes g.length 2 ++ leBytes (f.present % giga) 4 ++
  leBytes (f.present / giga) 8 ++ slice f.header 24 8 ++ leBytes (fTag f.header) 4 ++ zeros 4 ++
  (f.layers.flatMap fun l => layerRecord l.entry) ++ g

/-- HELD of a flip's PRESENT. -/
def heldMask (f : Flip) : Nat := ((f.layers.filter LayerSt.held).map fun l => 2 ^ eLayer l.entry).sum

/-- The body of a flip's PRESENT (R162). -/
def presentBody (f : Flip) (trunc : Bool) (blocks : Nat) : List Byte :=
  leBytes (f.present % giga) 4 ++ leBytes (f.present / giga) 8 ++ leBytes (heldMask f) 2 ++ leBytes (b2n trunc) 1 ++
  zeros 1 ++ leBytes blocks 4 ++ zeros 4

/-- Changes the flying flip with an index. -/
def Dev.modFlying (d : Dev) (index : Nat) (g : Flip → Flip) : Dev :=
  { d with host.flying := d.host.flying.map fun f => if f.index = index then g f else f }

/-- The transport of a frame is over: its PRESENT copies have been handed to the ports, and a capture of SRC 3 ends (R383). -/
def Dev.closeFlip (st : Straps) (index : Nat) (d : Dev) : Dev :=
  (d.modFlying index fun g => { g with closed := true }).endCaptures st 3

/-- The PRESENT copies follow the last BLOCK when every layer has been read or needs no reading. -/
def Dev.closeIfDone (st : Straps) (index : Nat) (d : Dev) : Dev :=
  match d.host.flying.find? fun f => f.index == index && !f.closed with
  | none => d
  | some f =>
    if f.layers.any fun l => !l.retired then d
    else (d.each f.ports fun d x =>
      d.sendTwice st x PT_PRESENT f.frame (presentBody f false (d.port x).blocks)).closeFlip st index

/-! Launch (R108 to R111, R113, R180). -/

/-- Whether some device of the sender's chains needs a block of a layer. -/
def Dev.layerNeeded (d : Dev) (f : Flip) (l : Layer) : Bool :=
  (d.mapDevices f.present).any fun e => decide (0 < blockCount f.mode e.2 l)

/-- A layer at the launch time: held, unused, or to be read. -/
def Dev.launchLayer (d : Dev) (f : Flip) (l : LayerSt) : LayerSt × Option Nat :=
  if !l.ready then ({ l with held := true, retired := true }, some ST_LAYER_HELD)
  else if !d.layerNeeded f (layerOfEntry l.entry) then ({ l with retired := true }, some ST_LAYER_UNUSED)
  else (l, none)

/-- The present time after one more deferral, where R110 allows one. -/
def deferTo (f : Flip) (rest : List Flip) : Option Nat :=
  let p := gridAfter f.mode f.present
  let room := match rest with
    | g :: _ => decide (p < g.present)
    | [] => true
  if !f.modeChange && (f.layers.any fun l => eDefer l.entry && !l.ready) && decide (f.deferred < fDefer f.header) && room
  then some p else none

/-- The history that R289 compares follows a new present time. -/
def moveAccepted (old new tag : Nat) (l : List (Nat × Nat × Nat)) : List (Nat × Nat × Nat) :=
  l.map fun e => if e.1 = old ∧ e.2.1 = tag then (new, e.2) else e

/-- The first flip of the queue is deferred by one frame period (R110). -/
def Dev.deferFlip (st : Straps) (f : Flip) (rest : List Flip) (p : Nat) (d : Dev) : Dev :=
  let n := f.deferred + 1
  ({ d with
      host.queue := { f with present := p, deferred := n } :: rest
      twin.accepted := moveAccepted f.present p (fTag f.header) d.twin.accepted }.addSat RING_FLIP_HELD_DEFER 1).event
    st EV_FLIP_DEFER (fTag f.header) n 0

/-- The first flip of the queue is launched. -/
def Dev.launchFlip (st : Straps) (f : Flip) (rest : List Flip) (d : Dev) : Dev :=
  let n := d.host.launchCount
  let launch := d.launchAt f.mode f.present
  let outs := f.layers.map fun l => d.launchLayer f l
  let ports := (List.range 4).filter fun x => d.feeds x launch f.present
  let g : Flip := { f with layers := outs.map Prod.fst, launched := some n, ports := ports }
  let d1 := { d with
    host.queue := rest, host.flying := d.host.flying ++ [g], host.launchCount := (n + 1) % 2 ^ 32,
    host.prev := some (f.present, f.mode), host.lastLaunch := some (f.present, fTag f.header) }
  let d2 := d1.each (List.zip f.layers outs) fun d e =>
    match e.2.2 with
    | some status =>
      (d.postRetire f e.1 status).addSat RING_FLIP_HELD_HELD (b2n (status == ST_LAYER_HELD))
    | none => d
  let d3 := d2.each (List.range 4) fun d x =>
    (d.set (XPT_FRAME_CELLS_CELLS x) 0).modPort x fun p =>
      { p with blocks := 0, lastLaunch := if ports.contains x then f.present else p.lastLaunch }
  let d4 := (d3.snoopBoundary st 3).each ports fun d x =>
    d.sendTwice st x PT_FLIP_HDR (n % 256) (flipHdrBody g (4 * d.get XPT_CTRL_PAIR + x))
  d4.closeIfDone st f.index

/-- The canvas mode's launch lead at this sender. -/
def Dev.swapLead (d : Dev) : Nat := d.launchLead (d.get RING_FLIP_MODE_CUR)

/-- The instant of an acknowledged swap has come, and SWAP_INSTANT has not run: it runs before the frame of that instant is
launched (R297, step 6; log entry 112). -/
def Dev.swapDue (d : Dev) : Bool :=
  d.twin.swap.any fun w => w.acked && !w.done && decide (w.ps ≤ d.now + d.swapLead)

/-- Whether a waiting packet is a BLOCK, or a PRESENT, of a frame. -/
def framePkt (typs : List Nat) (frame : Nat) : TxPkt → Bool
  | .bytes p _ true => typs.contains (pktType p) && pktFrame p == frame
  | _ => false

/-- The BLOCKs of a frame that wait at a port. -/
def Dev.waitingAt (d : Dev) (f : Flip) (x : Nat) : Nat :=
  ((nth (d.port x).txq TQ_FRAME []).filter (framePkt [PT_BLOCK] f.frame)).length

/-- A frame launched before is still in transport: its last PRESENT comes before any packet of the next (R180). -/
def Dev.underWay (d : Dev) : Bool :=
  d.host.flying.any fun f => !f.ended && (!f.closed || f.ports.any fun x => d.waitingAt f x != 0)

/-- FRAME_LAUNCH: at the launch time of the first flip of the queue (R110, R180, R204). -/
def execFrameLaunch (s : State) : Host.Outcome State Fault Refusal :=
  runSender (fun st d =>
    match d.host.queue with
    | [] => d
    | f :: rest =>
      if d.now + d.launchLead f.mode < f.present || !d.enginesReady || d.swapDue || d.underWay then d
      else match deferTo f rest with
        | some p => d.deferFlip st f rest p
        | none => d.launchFlip st f rest) s

/-! Layer reads (R111, R113, R180). -/

/-- The flip whose blocks are being sent. -/
def Dev.inTransport (d : Dev) : Option Flip := d.host.flying.find? fun f => !f.closed

/-- POSMASK of a block on a port: every present position whose footprint needs it and whose manifest agrees (R180, R294,
R299, R358). -/
def Dev.posMask (d : Dev) (f : Flip) (x : Nat) (l : Layer) (bx byy : Nat) : Nat :=
  ((d.presentOn x).map fun q =>
    if needsBlock f.mode (d.mapFor x q f.present) l bx byy && !d.sec.mixed.contains (x, q) then 2 ^ q else 0).sum

/-- The blocks of a layer that are sent on a port, by rows: those that some present device needs whose manifest agrees. -/
def Dev.portBlocks (d : Dev) (f : Flip) (x : Nat) (l : Layer) : List (Nat × Nat) :=
  (((d.presentOn x).filter fun q => !d.sec.mixed.contains (x, q)).flatMap fun q =>
    blocksNeeded f.mode (d.mapFor x q f.present) l).eraseDups

/-- The blocks of a layer that are read from host memory: those that some device on the sender's chains needs (R108). -/
def Dev.blocksRead (d : Dev) (f : Flip) (l : Layer) : List (Nat × Nat) :=
  ((d.mapDevices f.present).flatMap fun e => blocksNeeded f.mode e.2 l).eraseDups

/-- The header and payload of a block as it travels: packed from a raw surface, or taken from a PBS one with OFFSET 0
(R92, R95, R160). -/
def layerBlock (e : List Byte) (surface payload : List Byte) (bx byy : Nat) : Nat × List Byte :=
  if isPbs (eFormat e) then
    let b := leAt surface (8 * (byy * blocksWide (eSrcW e) + bx)) 8
    if bhMode b = 1 then (b, [])
    else (b % 2 ^ 32, slice payload (64 * bhOffset b) (64 * bhUnits b))
  else packBlock (rawBlock (eFormat e) (ePitch e) (eSrcW e) (eSrcH e) surface bx byy)

/-- The bytes that are read for a block: its rows of a raw surface, or the header and payload of a PBS one (R89, R90). -/
def blockBytes (e surface payload : List Byte) (bx byy : Nat) : List Byte :=
  if isPbs (eFormat e) then
    let at_ := 8 * (byy * blocksWide (eSrcW e) + bx)
    let b := leAt surface at_ 8
    slice surface at_ 8 ++ (if bhMode b = 1 then [] else slice payload (64 * bhOffset b) (64 * bhUnits b))
  else
    let lo := rowBytes (eFormat e) (32 * bx)
    let hi := rowBytes (eFormat e) (min (32 * bx + 32) (eSrcW e))
    (List.range (min 8 (eSrcH e - 8 * byy))).flatMap fun j => slice surface ((8 * byy + j) * ePitch e + lo) (hi - lo)

/-- The body of a BLOCK (R160). -/
def blockBody (mask layer bx byy hdr : Nat) (payload : List Byte) : List Byte :=
  leBytes mask 8 ++ leBytes layer 1 ++ zeros 1 ++ leBytes bx 2 ++ leBytes byy 2 ++ zeros 2 ++ leBytes hdr 8 ++ payload

/-- The blocks of a layer wait at a port. -/
def Dev.parkBlocks (st : Straps) (f : Flip) (e surface payload : List Byte) (x : Nat) (d : Dev) : Dev :=
  let l := layerOfEntry e
  d.each (d.portBlocks f x l) fun d b =>
    let k := layerBlock e surface payload b.1 b.2
    let pkt := senderPkt st d x PT_BLOCK false false f.frame 0 (blockBody (d.posMask f x l b.1 b.2) l.number b.1 b.2 k.1 k.2)
    (d.modPort x fun p => { p with blocks := p.blocks + 1 }).parkTx x TQ_FRAME (.bytes pkt none true)

/-- The blocks of a layer are sent: they stand in the block buffer before the first of them is launched on any port. -/
def Dev.sendBlocks (st : Straps) (f : Flip) (e surface payload : List Byte) (d : Dev) : Dev :=
  let ports := f.ports.filter fun x => d.portMode x == M_FEED
  (d.each ports fun d x => d.parkBlocks st f e surface payload x).each ports fun d x => d.txNext st x

/-- Whether a header that the sender needs of a PBS layer fails conditions 1 to 4 of R96. -/
def Dev.layerBad (d : Dev) (f : Flip) (e headers : List Byte) : Bool :=
  isPbs (eFormat e) &&
  (d.blocksRead f (layerOfEntry e)).any fun b =>
    headerBad (ePitch e) (leAt headers (8 * (b.2 * blocksWide (eSrcW e) + b.1)) 8)

/-- A layer has been read: it retires, and the frame closes after its last layer. -/
def Dev.layerDone (st : Straps) (f : Flip) (i : Nat) (held : Bool) (d : Dev) : Dev :=
  (d.modFlying f.index fun g =>
    { g with layers := modAt g.layers i fun l => { l with held := held, retired := true } }).closeIfDone st f.index

/-- A layer is abandoned (R111). -/
def Dev.abandonLayer (st : Straps) (f : Flip) (i : Nat) (l : LayerSt) (status : Nat) (d : Dev) : Dev :=
  (((d.postRetire f l status).addSat RING_FLIP_HELD_HELD 1).event st EV_LAYER_ABANDON (eLayer l.entry) (fTag f.header)
    status).layerDone st f i true

/-- Runs an effect on the entry of the flip in transport that is still to be read. -/
def Dev.onRead (i : Nat) (g : Flip → LayerSt → Dev → Dev) (d : Dev) : Dev :=
  match d.inTransport with
  | none => d
  | some f =>
    match f.layers[i]? with
    | some l => if l.retired || transportEnd f.present < d.now || !d.enginesReady then d else g f l d
    | none => d

/-- A frame is cut on a port: BLOCKs that still wait are not sent, and the PRESENT copies leave at once with TRUNC = 1. -/
def Dev.truncPort (st : Straps) (f : Flip) (x : Nat) (d : Dev) : Dev :=
  let d1 := d.modPort x fun p =>
    { p with blocks := p.blocks - d.waitingAt f x
             txq := modAt p.txq TQ_FRAME fun l => l.filter fun k => !framePkt [PT_BLOCK, PT_PRESENT] f.frame k }
  ((d1.sendTwice st x PT_PRESENT f.frame (presentBody f true (d1.port x).blocks)).add (XPT_TRUNC_COUNT x) 1).event st
    EV_XPT_TRUNC 0 0 0

/-- A parity error in an engine's memory at a sender: the engine is reloaded, and the frames in transport are cut on every
port. Which engine cuts which block is not stated: all of them (log entry 19). -/
def Dev.engineCut (st : Straps) (unit : Nat) (d : Dev) : Dev :=
  let d1 := d.reloadEngine unit
  d1.each (d1.host.flying.filter fun f => f.launched.isSome && !f.closed && !f.ended) fun d f =>
    (d.each f.ports fun d x => d.truncPort st f x).closeFlip st f.index

/-- The errors that work of a sender's engines has found (R45). -/
def Dev.engineErrors (st : Straps) (l : List BadByte) (d : Dev) : Dev :=
  (d.logFound st l).each l fun d b => d.engineCut st b.unit

/-! Parsing (R55). -/

/-- FLIP_PARSE (R55, R102). A flip in whose parsing an engine finds a parity error is parsed again once that engine is
reloaded (R45). -/
def execFlipParse (slots : List (List Byte)) (guardTable : Option (List Byte)) (s : State) :
    Host.Outcome State Fault Refusal :=
  let h := slice (slots.headD []) 0 64
  let n := flipSlots h
  runIf (fun st d => isSender st && d.awake && d.ringEn 0 && decide (n ≤ slots.length) && decide (n ≤ d.ringEntries 0) &&
      decide (d.inFlight < 1024) && d.enginesReady)
    (fun st d =>
      let i := d.ringIdx 0
      let es := ((slots.take n).drop 1).map fun e => slice e 0 64
      let d1 := (d.readFlip i n h es).enginesWork
      match d1.engineFinds with
      | [] => (d1.set (RING_IDX_INDEX 0) (i + n)).judgeFlip st i h es guardTable
      | l => d1.engineErrors st l) s

/-! The block buffer and the reads. -/

/-- The blocks of a layer enter the block buffer: an injection armed for it takes the first one (R45, R470). -/
def Dev.fillBuffer (f : Flip) (l : Layer) (d : Dev) : Dev :=
  let d1 := d.memRewrite fun b => b.mem == 7 && match b.item with
    | .block frame n _ _ => frame == f.frame && n == l.number
    | _ => false
  match f.ports.flatMap fun x => d.portBlocks f x l with
  | [] => d1
  | b :: _ => d1.memInject 7 0 (.block f.frame l.number b.1 b.2)

/-- The bytes read of a layer, block by block: in which order the reads complete is not stated (log entry 144). -/
def Dev.bytesRead (d : Dev) (f : Flip) (e surface payload : List Byte) : List Byte :=
  (d.blocksRead f (layerOfEntry e)).flatMap fun b => blockBytes e surface payload b.1 b.2

/-- LAYER_READ_COMPLETE: the layer's blocks are sent on each port of the frame and the layer retires (R113, R180). -/
def execLayerReadComplete (entry : Nat) (surface payload : List Byte) (s : State) : Host.Outcome State Fault Refusal :=
  runSender (fun st d => d.onRead entry (fun f l d =>
    if d.layerBad f l.entry surface then d.abandonLayer st f entry l ST_LAYER_FORMAT
    else
      let d1 := (d.snoopFeed st 3 (eLayer l.entry) (d.bytesRead f l.entry surface payload)).enginesWork
      match d1.engineFinds with
      | [] =>
        let d2 := (d1.fillBuffer f (layerOfEntry l.entry)).sendBlocks st f l.entry surface payload
        (d2.postRetire f l ST_OK).layerDone st f entry false
      | bad => d1.engineErrors st bad)) s

/-- LAYER_READ_FAIL (R50, R111). -/
def execLayerReadFail (entry : Nat) (why : LayerFail) (s : State) : Host.Outcome State Fault Refusal :=
  runSender (fun st d => d.onRead entry (fun f l d =>
    match why with
    | .dma => d.abandonLayer st f entry l ST_DMA_ERR
    | .headers bytes => if d.layerBad f l.entry bytes then d.abandonLayer st f entry l ST_LAYER_FORMAT else d)) s

/-! The transport end (R181). -/

/-- A layer that has not been read has blocks to be sent on a port. -/
def Dev.unreadAt (d : Dev) (f : Flip) (x : Nat) : Bool :=
  f.layers.any fun l => !l.retired && !(d.portBlocks f x (layerOfEntry l.entry)).isEmpty

/-- A port at a frame's transport end: cut when blocks remain unsent on it; otherwise the PRESENT copies follow the last
BLOCK, where they have not yet (R181). -/
def Dev.cutPort (st : Straps) (f : Flip) (x : Nat) (d : Dev) : Dev :=
  if d.waitingAt f x = 0 && (f.closed || !d.unreadAt f x) then
    if f.closed then d else d.sendTwice st x PT_PRESENT f.frame (presentBody f false (d.port x).blocks)
  else d.truncPort st f x

/-- A launched flip that is done with is dropped. -/
def Dev.dropDone (d : Dev) : Dev :=
  { d with host.flying := d.host.flying.filter fun f => !f.ended || f.modeChange }

/-- A flip's transport end: its ports are cut where blocks remain, and its unread layers retire. -/
def Dev.endTransport (st : Straps) (f : Flip) (d : Dev) : Dev :=
  let d1 := d.each f.ports fun d x => d.cutPort st f x
  let d2 := (d1.each f.layers fun d l => d.postRetire f l ST_OK)
  ((if f.closed then d2 else d2.closeFlip st f.index).modFlying f.index fun g =>
    { g with ended := true, layers := g.layers.map fun l => { l with retired := true } }).dropDone

/-- TRANSPORT_END: P − 2.000 ms (R181). -/
def execTransportEnd (s : State) : Host.Outcome State Fault Refusal :=
  runSender (fun st d =>
    match d.host.flying.find? fun f => !f.ended && decide (transportEnd f.present ≤ d.now) with
    | some f => d.endTransport st f
    | none => d) s

/-! Mode changes and clock steps (R116, R118, R205, R206). -/

/-- SENDER_MODE_SWITCH: at P_new, CUR takes the new mode and the event is recorded (R116, step 4). -/
def execSenderModeSwitch (s : State) : Host.Outcome State Fault Refusal :=
  runSender (fun st d =>
    match d.host.flying.find? fun f => f.modeChange && decide (f.present ≤ d.now) with
    | none => d
    | some f =>
      let old := d.get RING_FLIP_MODE_CUR
      let d1 := (d.modFlying f.index fun g => { g with modeChange := false }).dropDone
      ((d1.set RING_FLIP_MODE_CUR f.mode).showNext).event st EV_MODE_CHANGE (f.mode + 256 * old) (f.present % giga)
        (f.present / giga)) s

/-- The queue after a forward step: flips whose launch time has passed move to the earliest grid instant that R205
allows. `before` is the present time and mode of the flip before; the answer counts the flips moved. -/
def Dev.retime (d : Dev) : Option Nat → Option Nat → List Flip → List Flip × Nat
  | _, _, [] => ([], 0)
  | before, mode, f :: fs =>
    if d.now + d.launchLead f.mode ≤ f.present then
      let t := d.retime (some f.present) (some f.mode) fs
      (f :: t.1, t.2)
    else
      let after := match before with
        | some p => p + 1
        | none => 0
      let gap := if f.modeChange then d.now + d.modeGap mode f.mode else 0
      let p := gridFrom f.mode (max (max (d.now + d.launchLead f.mode) after) gap)
      let t := d.retime (some p) (some f.mode) fs
      ({ f with present := p } :: t.1, t.2 + 1)

/-- What a step of a sender's clock does to the queue (R205, R206). -/
def Dev.queueAfterStep (st : Straps) (forward : Bool) (d : Dev) : Dev :=
  if forward then
    let r := d.retime none (d.host.prev.map Prod.snd) d.host.queue
    let moved := List.zip d.host.queue r.1
    let d1 := { d with
      host.queue := r.1
      twin.accepted := moved.foldl (fun a (e : Flip × Flip) => moveAccepted e.1.present e.2.present (fTag e.1.header) a)
        d.twin.accepted }
    d1.eventIf st (r.2 != 0) EV_TIME_RETIME r.2 0 0
  else
    match d.host.queue with
    | f :: _ =>
      if d.now + 2 * giga < f.present then
        ((({ d with host.queue := [] }.flushFlips d.host.queue).set RING_FLIP_MODE_NEXT 0xFF).event st EV_TIME_QFLUSH
          0 0 0)
      else d
    | [] => d

end Sys2Proof.Machine
end

