-- ==== Sys2Proof/Machine/Chain.lean ====
section
/-! DEFINITION. A sender's commands on its chains: presence, CMDs outstanding, enumeration, and the answer to whoever waits
for an operation (spec/06_chain_transport.md R164, R172 to R179), a REC_MARK's record among them (R372, R379). -/

namespace Sys2Proof.Machine

/-! Presence (R175). -/

/-- The present positions of a port as a map. -/
def Dev.presentMap (d : Dev) (x : Nat) : Nat := ((d.presentOn x).map fun q => 2 ^ q).sum

/-- The wall address of a position on a port of this sender (R17). -/
def Dev.wallAddr (d : Dev) (x pos : Nat) : Nat := (4 * d.get XPT_CTRL_PAIR + x) * 64 + pos

/-- Whether a command to this wall address can be sent: a chain of this sender, a port without TXIDLE, a present
position (R176). -/
def Dev.reachable (d : Dev) (addr : Nat) : Bool :=
  inPair d addr && !d.getb (LANE_CTRL_TXIDLE (chainPort addr)) && d.isPresent (chainPort addr) (posOf addr)

/-! CMDs (R164, R176, R178). -/

/-- A BULK_DATA other than the last, which is answered only when it fails, stops counting once it has left. -/
def OutCmd.counts (o : OutCmd) : Bool :=
  match o.kind with
  | .bulkData _ false => o.sentAt.isNone
  | _ => true

/-- CMDs outstanding for a target. -/
def Dev.outstanding (d : Dev) (x pos : Nat) : Nat :=
  (d.host.out.filter fun o => o.port == x && o.position == pos && o.counts).length

/-- The next XID. -/
def Dev.newXid (d : Dev) : Nat × Dev := (d.host.nextXid, { d with host.nextXid := (d.host.nextXid + 1) % 65536 })

/-- Sends a CMD; the body is formed with its XID. -/
def Dev.sendCmd (st : Straps) (x pos : Nat) (kind : OutKind) (body : Nat → List Byte) (d : Dev) : Dev :=
  let (xid, d1) := d.newXid
  let o : OutCmd := { xid := xid, port := x, position := pos, kind := kind, sentAt := none, t1 := 0 }
  let pkt := senderPkt st d x PT_CMD false false 0 (d.wallAddr x pos) (body xid)
  { d1 with host.out := d1.host.out ++ [o] }.queueTx st x TQ_CMD (.bytes pkt (some xid) false)

/-- The 60 descriptor bytes of a command that the sender forms itself (R64). -/
def ownDesc (opcode target count addr data0 : Nat) : List Byte :=
  leBytes opcode 2 ++ zeros 6 ++ leBytes target 2 ++ leBytes count 2 ++ leBytes addr 4 ++ zeros 8 ++ leBytes data0 4 ++
  zeros 32

/-- An outstanding CMD is no longer waited for. -/
def Dev.dropOut (xid : Nat) (d : Dev) : Dev := { d with host.out := d.host.out.filter fun o => o.xid != xid }

/-! Enumeration (R172, R173). -/

/-- Sends an ENUM on a port with a NEXT; surveys follow it (R199). Also one that CHAIN_ENUM asks for starts the 10 ms of R174
and answers the WITNESSes seen (log entry 111). -/
def Dev.sendEnum (st : Straps) (x next : Nat) (d : Dev) : Dev :=
  let (xid, d1) := d.newXid
  let pkt := senderPkt st d x PT_CMD true false 0 0 (enumBody xid (4 * d.get XPT_CTRL_PAIR + x) next)
  let d2 := d1.modPort x fun p => { p with lastEnum := some d.ticks, unasgSeen := none }
  let d3 := if d.getb TIME_CTRL_SURVEY_EN then
      { d2 with time.surveys := modAt d2.time.surveys x fun v => { v with due := some (d.ticks + ms 5) } }
    else d2
  d3.queueTx st x TQ_CMD (.bytes pkt none false)

/-- An automatic enumeration of the port is due: a WITNESS asked for it, the last was 10 ms ago, the port transmits. -/
def Dev.enumDue (d : Dev) (x : Nat) : Bool :=
  (d.port x).unasgSeen.isSome && d.transmitting x &&
  match (d.port x).lastEnum with
  | some t => d.passed t (ms 10)
  | none => true

/-- AUTO_ENUM: under R174 from the head end, under R294 from the tail end of a port in FEED. -/
def execAutoEnum (port : Port) (s : State) : Host.Outcome State Fault Refusal :=
  let x : Nat := port
  runIf (fun st d => isSender st && d.awake && d.enumDue x)
    (fun st d =>
      if !d.getb (XPT_CHAIN_END x) then (if d.getb XPT_CTRL_AUTO_ENUM then d.sendEnum st x 0 else d)
      else if d.portMode x == M_FEED && d.getb (XPT_CHAIN_COUNT_VALID x) && 1 ≤ d.get (XPT_CHAIN_COUNT x) then
        d.sendEnum st x (d.get (XPT_CHAIN_COUNT x) - 1)
      else d) s

/-! Answers (R68, R165, R176). -/

/-- An operation ends: whoever waits for it is answered. -/
def Dev.answer (st : Straps) (w : Waiter) (status value : Nat) (d : Dev) : Dev :=
  match w with
  | .ring i => d.finishDesc 1 i status value
  | .bulk i => d.finishDesc 2 i status value
  | .remote pkt =>
    { d with
      tile.running := d.tile.running.filter fun e => e.1 != pkt
      tile.cmds := d.tile.cmds.filter fun e => e.1 != pkt
      tile.bulks := d.tile.bulks.filter fun b => (b.last.map Prod.fst) != some pkt }.respond st pkt.bytes status value 0 []

/-- An operation that nobody may wait for. -/
def Dev.answerOpt (st : Straps) (w : Option Waiter) (status value : Nat) (d : Dev) : Dev :=
  match w with
  | some k => d.answer st k status value
  | none => d

/-! Records are written (R371, R372, R379). -/

/-- A queued record is written; a REC_MARK that made it completes with its SEQ (R379). -/
def Dev.writeQueued (st : Straps) (d : Dev) (e : EventRec) : Dev :=
  (d.writeRecord st e).answerOpt st e.mark ST_OK d.rcd.next

/-- The queued records, up to 32, are written in turn (R372). -/
def Dev.opRecorderWrite (st : Straps) (d : Dev) : Dev :=
  let batch := d.rcd.queue
  (({ d with rcd.queue := [] }.each batch (Dev.writeQueued st))).reportLost st

/-- RECORDER_WRITE (R371, R372). -/
def execRecorderWrite (s : State) : Host.Outcome State Fault Refusal :=
  runIf (fun _ d => d.awake && !d.rcd.queue.isEmpty) (fun st d => d.opRecorderWrite st) s

end Sys2Proof.Machine
end

