-- ==== Sys2Proof/Machine/Drive.lean ====
section
/-! DEFINITION. Grey synthesis and lamp drive: the scan, brightness and fades, derating, the pulses of a row slot, and the
steps that present or hold a frame and run its refreshes (spec/10_grey_synthesis_drive.md R242 to R259,
spec/01_architecture.md R28, R29, spec/02_self_timed_fabric.md R37). -/

namespace Sys2Proof.Machine

/-! The scan (R23, R242 to R245). -/

/-- Q of R243. -/
def refreshSteps (mode m : Nat) : Nat := 4 * 10 ^ 9 * (framePeriod mode).1 / ((framePeriod mode).2 * m)

/-- E of R243. -/
def windowSteps (q s : Nat) : Nat := q / s - 400

/-- D of R23, with N = M. -/
def greyDepth (e m : Nat) : Nat := min 20 (Nat.log2 (4 * e * m))

/-- N_L of R244. -/
def lightRefreshes (m : Nat) (diag : Bool) : Nat := if diag then m - 1 else m

/-- UMAX of R244. -/
def fullEnergy (e nl : Nat) : Nat := 4 * e * nl

/-! Brightness (R247 to R250). -/

/-- A level at or above which every lamp is dark. -/
def darkLevel : Nat := 98304

/-- EXP2 of R247. -/
def exp2Table : List Nat :=
  [16777216, 16731851, 16686609, 16641490, 16596492, 16551616, 16506861, 16462228] ++
  [16417715, 16373322, 16329050, 16284897, 16240863, 16196949, 16153153, 16109476] ++
  [16065917, 16022476, 15979152, 15935945, 15892855, 15849882, 15807025, 15764283] ++
  [15721658, 15679147, 15636752, 15594471, 15552304, 15510252, 15468313, 15426487] ++
  [15384775, 15343175, 15301688, 15260313, 15219050, 15177899, 15136859, 15095929] ++
  [15055111, 15014403, 14973805, 14933316, 14892937, 14852668, 14812507, 14772455] ++
  [14732511, 14692675, 14652947, 14613326, 14573813, 14534406, 14495106, 14455912] ++
  [14416824, 14377841, 14338964, 14300193, 14261526, 14222963, 14184505, 14146151] ++
  [14107901, 14069754, 14031710, 13993769, 13955931, 13918195, 13880561, 13843028] ++
  [13805598, 13768268, 13731039, 13693911, 13656884, 13619956, 13583129, 13546401] ++
  [13509772, 13473242, 13436812, 13400479, 13364245, 13328109, 13292070, 13256129] ++
  [13220286, 13184539, 13148888, 13113335, 13077877, 13042515, 13007249, 12972078] ++
  [12937002, 12902021, 12867135, 12832343, 12797645, 12763041, 12728530, 12694113] ++
  [12659789, 12625557, 12591419, 12557372, 12523418, 12489555, 12455784, 12422104] ++
  [12388516, 12355018, 12321610, 12288294, 12255067, 12221930, 12188882, 12155924] ++
  [12123055, 12090275, 12057584, 12024981, 11992466, 11960039, 11927700, 11895448] ++
  [11863283, 11831206, 11799215, 11767310, 11735492, 11703760, 11672114, 11640553] ++
  [11609078, 11577687, 11546382, 11515161, 11484025, 11452973, 11422004, 11391120] ++
  [11360319, 11329601, 11298967, 11268415, 11237946, 11207559, 11177254, 11147032] ++
  [11116891, 11086831, 11056853, 11026956, 10997140, 10967404, 10937749, 10908174] ++
  [10878679, 10849263, 10819928, 10790671, 10761494, 10732395, 10703375, 10674434] ++
  [10645571, 10616786, 10588079, 10559449, 10530897, 10502422, 10474024, 10445703] ++
  [10417458, 10389290, 10361198, 10333182, 10305242, 10277377, 10249587, 10221873] ++
  [10194234, 10166669, 10139179, 10111763, 10084422, 10057154, 10029960, 10002839] ++
  [9975792, 9948818, 9921917, 9895089, 9868333, 9841650, 9815039, 9788499] ++
  [9762032, 9735636, 9709311, 9683058, 9656875, 9630764, 9604722, 9578752] ++
  [9552851, 9527021, 9501261, 9475570, 9449948, 9424396, 9398913, 9373499] ++
  [9348154, 9322877, 9297668, 9272528, 9247455, 9222451, 9197514, 9172644] ++
  [9147842, 9123107, 9098438, 9073837, 9049301, 9024833, 9000430, 8976093] ++
  [8951823, 8927617, 8903477, 8879403, 8855394, 8831449, 8807569, 8783754] ++
  [8760003, 8736317, 8712694, 8689136, 8665641, 8642209, 8618841, 8595536] ++
  [8572295, 8549116, 8525999, 8502945, 8479954, 8457025, 8434157, 8411352] ++
  [8388608]

/-- lin of R247. -/
def linOf (l : Nat) : Nat :=
  let t := l % 4096 / 16
  let r := l % 16
  rndNat (nth exp2Table t 0 * (16 - r) + nth exp2Table (t + 1) 0 * r) (4 + l / 4096)

/-- The DAC code c of a bank (R248). -/
def bankCode (code lt lx : Nat) : Nat :=
  if code = 0 || darkLevel ≤ lt then 0 else max 1 ((code * linOf (min lt lx) + 2 ^ 24 - 1) / 2 ^ 24)

/-- The pulse scale q of a bank (R248). -/
def bankScale (code lt lx : Nat) : Nat :=
  if code = 0 || darkLevel ≤ lt then 0 else code * linOf lt / bankCode code lt lx

/-- The level of a fade (L0, L1, AT, DUR ms) at a present time (R249). -/
def fadeLevel (f : Nat × Nat × Nat × Nat) (p : Nat) : Nat :=
  let l0 := f.1
  let l1 := f.2.1
  let at_ := f.2.2.1
  let dur := f.2.2.2 * 1000000
  if p < at_ then l0
  else if dur = 0 then l1
  else ((l0 : Int) + Int.fdiv (((l1 : Int) - l0) * (min (p - at_) dur : Nat)) dur).toNat

/-- AT of the fade registers. -/
def Dev.fadeAt (d : Dev) : Nat := d.timeOf GRY_FADE_AT_NS_NS GRY_FADE_AT_SL_S GRY_FADE_AT_SH_S

/-- Lf of a frame (R249). -/
def Dev.levelFor (d : Dev) (p : Nat) : Nat :=
  let run := match d.tile.fadeRun with
    | some f => fadeLevel f p
    | none => d.effGet GRY_LEVEL_LVL
  match d.tile.fadePend with
  | some f => if f.2.2.1 ≤ p then fadeLevel f p else run
  | none => run

/-- The temperature of derating, and whether its source fell back (R250). -/
def derateTemp (t : TempSample) (tsrc : Nat) : Int × Bool := if tsrc = 5 then (t.highest, false) else t.select tsrc

/-- DL of a frame (R250). -/
def Dev.derateFor (d : Dev) (t : TempSample) : Nat :=
  if d.effGet GRY_DERATE_EN = 0 then 0
  else
    let temp := (derateTemp t (d.effGet GRY_DERATE_TSRC)).1
    (sat (Int.fdiv ((temp - d.effGeti GRY_DERATE_TK) * d.effGet GRY_DERATE_SLOPE) 16) 0 (d.effGet GRY_DMAX_DMAX)).toNat

/-- The fallback of derating is reported once for each run of such frames (R250). -/
def Dev.noteDerate (st : Straps) (t : TempSample) (d : Dev) : Dev :=
  let sel := d.effGet GRY_DERATE_TSRC
  if d.effGet GRY_DERATE_EN = 1 && (derateTemp t sel).2 then
    let d1 := { d with tile.gryFallback := true }.set GRY_STAT_TFALLBACK_SEEN 1
    if d.tile.gryFallback then d1 else d1.event st EV_GRY_TSRC_FALLBACK (sel - 1) 0 0
  else { d with tile.gryFallback := false }

/-! Compensation (R312). -/

/-- DADV of a frame. -/
def Dev.edgeAdvance (d : Dev) (tj : Int) : Nat := (sat (rnd (d.get CAL_TCOMP_DK * (tj - 400)) 10) 0 16).toNat

/-- RT of a frame. -/
def Dev.refTrim (d : Dev) (tj : Int) : Int := sat (rnd (d.geti CAL_IK_IK * (tj - d.geti CAL_TCOMP_TCAL)) 12) (-64) 63

/-! Grey code and spreading (R252 to R255). -/

/-- U of a value under a pulse scale (R252). -/
def greyEnergy (q dpt umax v : Nat) : Nat :=
  let u := rndNat (v * q) 24
  let g := min (if dpt = 20 then u else rndNat u (20 - dpt)) (2 ^ dpt - 1)
  g * umax / (2 ^ dpt - 1)

/-- φ of R253. -/
def spreadPhase (nl c r k : Nat) : Nat := (61 * c + 97 * r + 13 * (k % 1024)) % nl

/-- The pulse of a lamp in a light refresh: steps at full current and steps at quarter current (R253, R254). -/
def pulseOf (nl c r k u j : Nat) : Nat × Nat :=
  let phi := spreadPhase nl c r k
  if u = 0 then (0, 0)
  else if u < 32 then
    if (k + 7 * (128 * c + r)) * u % 32 < u ∧ j = (nl - phi) % nl then (0, 32) else (0, 0)
  else
    let na := if 32 * nl ≤ u then nl else u / 32
    let a := u / na
    let rem := u % na
    let jj := (j + phi) % nl
    let i := jj * na / nl
    if (jj + 1) * na / nl = i then (0, 0)
    else
      let x := a + (i + 1) * rem / na - i * rem / na
      if u < 128 * nl then (0, x) else (x / 4, x % 4)

/-- U of a lamp in the frame being driven: 0 for a masked lamp, one dark after a parity error, or one of a bank that is
off (R45, R252, R271). -/
def Dev.lampEnergy (d : Dev) (n : Nat) : Nat :=
  let dr := d.tile.drive
  let bank := n / 1024
  if dr.mask.contains n || dr.darkLamps.contains n || dr.darkBanks.contains bank || darkLevel ≤ dr.lt then 0
  else greyEnergy (nth dr.scales bank 0) dr.d dr.umax (Cells.read (fun _ => 0) d.tile.front n)

/-- The pulse of column c in a light refresh of row r: its start and its two lengths; zeros for no pulse. -/
def Dev.columnPulse (d : Dev) (j r c : Nat) : Nat × Nat × Nat :=
  let dr := d.tile.drive
  let p := pulseOf dr.nl c r dr.k (d.lampEnergy (128 * c + r)) j
  if p.1 + p.2 = 0 then (0, 0, 0) else (pulseStart dr.e (p.1 + p.2) c, p.1, p.2)

/-- The pre-charge of the row blanking, with PRE_EN: for each column the VPRE code of its colour class under the mapping in
force (R228, R246, R251). -/
def Dev.preCharge (d : Dev) : Option (List Nat) :=
  if d.getb LDRV_CTRL_PRE_EN then
    let codes := [d.effGet LDRV_CTRL_VPRE0, d.effGet LDRV_CTRL_VPRE1, d.effGet LDRV_CTRL_VPRE2]
    let mono := d.mono
    some ((List.range colCount).map fun c => nth codes (lampPlace mono (128 * c)).2.2 0)
  else none

/-- The DAC codes of the banks in the frame being driven, with their RANGE (R248, R258). -/
def Dev.runCodes (d : Dev) : List (Nat × Nat) :=
  (List.range 48).map fun b => (nth d.tile.drive.codes b 0, d.effGet (LDRV_BANK_IFS_RANGE b))

/-- A bank carries no current in the row slot (R37, R45). -/
def Dev.darkenBank (bank : Nat) (d : Dev) : Dev := { d with tile.drive.darkBanks := bank :: d.tile.drive.darkBanks }

/-- The edge-list FIFO of a bank is empty when its row slot is needed: its columns carry no current in this slot (R37). -/
def Dev.starveBank (st : Straps) (d : Dev) (bank : Nat) : Dev :=
  ((d.darkenBank bank).set FAB_STAT_UNDERRUN_SEEN 1).event st EV_FAB_UNDERRUN bank 0 0

/-- The starved banks of a row slot, in ascending order. -/
def Dev.starveBanks (st : Straps) (banks : List Nat) (d : Dev) : Dev :=
  d.each ((List.range 48).filter fun b => banks.contains b) (Dev.starveBank st)

/-- Pinwheel's edge lists of a row slot pass the FIFOs: an injection armed for one of them is written and read, and the
bank carries no current in the slot (R45, R470). -/
def Dev.passEdges (st : Straps) (d : Dev) : Dev :=
  let d1 := d.memWrites 4 48
  let l := d1.badBytes 4 fun _ => true
  (d1.logFound st l).each l fun d b => d.darkenBank b.unit

/-- Pinwheel reads a row of the front half: a lamp whose byte is found wrong is dark until it is written again (R45). -/
def Dev.readFront (st : Straps) (r : Nat) (d : Dev) : Dev :=
  let l := d.parity.bad.filterMap fun b => match b.item with
    | .lamp n true => if n % 128 = r then some (b, n) else none
    | _ => none
  (d.logFound st (l.map Prod.fst)).each l fun d e =>
    { d with tile.drive.darkLamps := e.2 :: d.tile.drive.darkLamps }

/-- A row slot of a light refresh. -/
def Dev.lightSlot (d : Dev) (j r : Nat) : Dev :=
  d.emit (.rowSlot r (d.get THM_COMP_DADV) (d.geti THM_COMP_RT) d.preCharge d.runCodes d.allCells
    ((List.range colCount).map fun c => d.columnPulse j r c))

/-! Testing on picture pulses (R270). -/

/-- Whether a lamp's picture pulses qualify it for a test in refresh j: at least 320 steps in the frame, and its longest
pulse, the earliest of equal ones, in this refresh. -/
def Dev.liveTested (d : Dev) (j r c : Nat) : Bool :=
  let dr := d.tile.drive
  let u := d.lampEnergy (128 * c + r)
  let len (i : Nat) : Nat := (pulseOf dr.nl c r dr.k u i).1 + (pulseOf dr.nl c r dr.k u i).2
  let lens := (List.range dr.nl).map len
  decide (32 ≤ u) && decide (320 ≤ lens.sum) && decide (0 < len j) && (lens.all fun l => decide (l ≤ len j)) &&
    (lens.take j).all fun l => decide (l < len j)

/-- The live tests of a row slot: the columns whose codes were sampled. -/
def Dev.liveTests (st : Straps) (j r : Nat) (columns : List (Nat × Nat)) (d : Dev) : Dev :=
  if d.tile.drive.diag || d.effGet DIAG_CTRL_LIVE_EN = 0 || !d.testsAllowed then d
  else
    let mono := d.mono
    d.each (columns.filter fun e => decide (e.1 < colCount) && d.liveTested j r e.1) fun d e =>
      d.testLamp st mono (128 * e.1 + r) (d.adcMv (e.1 / 8) (e.2 % 4096))

/-! Supply and thermistor samples (R273, R305). -/

/-- VLED_SNS samples, taken in row slot 0 of the frame's last refresh. -/
def Dev.takeVled (codes : List Nat) (d : Dev) : Dev :=
  d.each (List.range (min 4 codes.length)) fun d n =>
    let mv := d.adcMv n (nth codes n 0 % 4096)
    d.setAll [(DIAG_VLED_MV n, mv), (DIAG_VLED_VALID n, b2n (decide (2000 ≤ mv)))]

/-- Thermistor samples, taken in row slot 1; a thermistor that becomes invalid is recorded. -/
def Dev.takeNtc (st : Straps) (codes : List Nat) (d : Dev) : Dev :=
  d.each (List.range (min 4 codes.length)) fun d n =>
    let was := nth d.therm.ntcWas n false
    let d1 := d.setAll [(DIAG_NTC_CODE n, nth codes n 0), (DIAG_NTC_VALID n, 1)]
    let ok := d1.ntcValid n
    let d2 := { d1 with therm.ntcWas := setAt d1.therm.ntcWas n ok }
    if was && !ok then (d2.set THM_STAT_NTC_SEEN 1).event st EV_THM_NTC_INVALID n (d1.get (DIAG_NTC_CODE n)) 0 else d2

/-! A frame period (R247, R248, R256). -/

/-- DIAG_LAMP changes left out of the frame that ends are counted in one event (R274). -/
def Dev.endDiagFrame (st : Straps) (d : Dev) : Dev :=
  let d1 := { d with diag.events := 0, diag.leftOut := 0 }
  if d.diag.leftOut = 0 then d1
  else (d1.set DIAG_STAT_OVF_SEEN 1).event st EV_DIAG_EVT_OVF d.diag.leftOut 0 0

/-- The registers that show the temperature sample of the frame being driven (R306, R313). -/
def Dev.showSample (t : TempSample) (d : Dev) : Dev :=
  let v := (List.range 4).map fun n => (2 ^ n) * b2n (nth t.ntcValid n false)
  ((((((d.seti THM_SAMPLE0_LO t.tjDrv).seti THM_SAMPLE0_HI t.tjLog).seti THM_SAMPLE1_LO (nth t.ntc 0 0)).seti
    THM_SAMPLE1_HI (nth t.ntc 1 0)).seti THM_SAMPLE2_LO (nth t.ntc 2 0)).seti THM_SAMPLE2_HI (nth t.ntc 3 0)).setAll
    [(THM_SAMPLE3_NTC_VALID, v.sum), (THM_SAMPLE3_DRV_FALLBACK, b2n t.drvFallback)]

/-- GRY_NOW shows Lt; a level over its 17 bits is shown as the spec does not say: a free value. -/
def Dev.showLevel (lt : Nat) (d : Dev) : Dev :=
  if lt < 2 ^ 17 then d.set GRY_NOW_LEVEL lt
  else
    let r := d.draw (2 ^ 17)
    r.2.set GRY_NOW_LEVEL r.1

/-- A frame period begins on a mode's grid: the writes that are due come into force, and the scan, the level, the bank
codes and scales and the compensation are formed for its present time and sample (R243 to R251, R312). The period's
first refresh is the given one. -/
def Dev.startPeriod (st : Straps) (mode k j : Nat) (t : TempSample) (mask : List Nat) (d : Dev) : Dev :=
  let p := gridAt mode k
  let d1 := ((d.endDiagFrame st).noteRate.takeLate p).noteDerate st t
  let s := scanRows (d1.effGet GRY_SCAN_SCAN)
  let m := refreshCount mode s
  let q := refreshSteps mode m
  let e := windowSteps q s
  let diag := d1.effGet GRY_SCAN_DIAG_EN == 1
  let nl := lightRefreshes m diag
  let umax := fullEnergy e nl
  let dl := d1.derateFor t
  let lt := d1.levelFor p + dl
  let lx := d1.effGet GRY_XOVER_LX
  let code (b : Nat) : Nat := d1.effGet (LDRV_BANK_IFS_CODE b)
  let codes := (List.range 48).map fun b => bankCode (code b) lt lx
  let d2 := { d1 with
    tile.drive := { d1.tile.drive with
      any := true, k := k, present := p, mode := some mode, m := m, q := q, e := e, d := greyDepth e m, nl := nl,
      umax := umax, s := s, diag := diag, lt := lt, codes := codes,
      scales := (List.range 48).map fun b => bankScale (code b) lt lx, sample := t, mask := mask, j := j, slot := s,
      open_ := false, restart := none, frames := d1.tile.drive.frames + 1 } }
  let d3 := d2.setAll ([(GRY_STAT_M, m), (GRY_STAT_D, greyDepth e m), (GRY_WIN_E, e), (GRY_UMAX_UMAX, umax),
    (GRY_DL_LEVEL, dl), (THM_COMP_DADV, d2.edgeAdvance t.tjDrv), (THM_COMP_RT, ofSigned 8 (d2.refTrim t.tjDrv))] ++
    (List.range 48).map fun b => (LDRV_BANK_RUN_C b, nth codes b 0))
  ((d3.showLevel lt).showSample t).takeSnapshots

/-! PRESENT_FRAME (R28, R29, R221, R223, R224). -/

/-- The frame whose present time has come. -/
def Dev.toPresent (d : Dev) : Option TileFrame :=
  match d.tile.frames with
  | f :: _ => if f.judged && decide (f.present ≤ d.now) then some f else none
  | [] => none

/-- The condition of R28 or R29 that keeps a frame from being presented. -/
def Dev.holdReason (d : Dev) (f : TileFrame) : Option Nat :=
  match f.fail with
  | some c => some c
  | none => if !f.composed || !d.enginesReady then some 4 else none

/-- The check unit of a region shows its signature, as a capture that ends (R383, R384). -/
def Dev.showSignature (n sig bytes : Nat) (d : Dev) : Dev :=
  let u := 4 + n
  let d1 := (d.modCrc u fun c => { c with state := sig ^^^ 0xFFFFFFFF }).setAll
    [(SNP_RESULT_VALUE u, sig), (SNP_COUNT_VALUE u, bytes)]
  if d.getb (SNP_STAT_DONE u) then d1.set (SNP_STAT_OVR u) 1 else d1.set (SNP_STAT_DONE u) 1

/-- What the check of one region found (R223, R224). -/
def Dev.noteCheck (st : Straps) (f : TileFrame) (c : Nat × Nat × Option Nat × Bool × Bool) (d : Dev) : Dev :=
  let n := c.1
  match c.2.2.1 with
  | none => d.set (CMP_GR_STAT_LAST n) 0
  | some sig =>
    let area := match f.guardEntry n with
      | some e =>
        let r := guardRect e (d.frameFp f)
        ((r.x1 - r.x0) * (r.y1 - r.y0)).toNat
      | none => 0
    let d1 := (d.showSignature n sig (6 * area)).set (CMP_GR_SIG_SIG n) sig
    if sig = c.2.1 then d1.set (CMP_GR_STAT_LAST n) 1
    else
      let noImage := c.2.2.2.1 && !(f.safes.any fun s => s.region == n)
      ((d1.set (CMP_GR_STAT_LAST n) (if c.2.2.2.2 then 3 else 2)).addSat (CMP_GR_STAT_FAILS n) 1).eventF st
        EV_GUARD_FAIL (b2n noImage) n c.2.1 sig

/-- The held versions after a frame is presented: a layer received becomes its held version, a layer held keeps its own,
and a layer that the frame does not name has none (R109, R221). -/
def Dev.heldAfter (d : Dev) (f : TileFrame) : List HeldLayer :=
  (hdrRecords f.header).filterMap fun r =>
    let n := (layerOfRecord r).number
    if f.fromHeld n then d.heldLayer n
    else some { layer := n, entry := r, blocks := f.blocks.filter fun b => b.layer == n }

/-- The halves of the frame store change places, and with them the lamps whose bytes stand with inverted parity. -/
def swapItem (b : BadByte) : BadByte :=
  match b.item with
  | .lamp n front => { b with item := .lamp n !front }
  | _ => b

/-- The halves of the frame store are swapped. -/
def Dev.swapFrame (st : Straps) (f : TileFrame) (d : Dev) : Dev :=
  let held := d.heldAfter f
  let d1 := { d with
    tile.front := d.tile.back, tile.back := d.tile.front, tile.held := held, parity.bad := d.parity.bad.map swapItem,
    tile.drive.darkLamps := [], tile.drive.lastFrame := f.frame, tile.drive.lastPresent := some f.present }
  (d1.each f.checks fun d c => d.noteCheck st f c).dropFrame f

/-- The period of a frame, presented or held, begins with its own present time, temperature sample and mask (R256, R260). -/
def Dev.beginFrame (st : Straps) (mode present : Nat) (held : Bool) (t : TempSample) (mask : List Nat) (d : Dev) : Dev :=
  let d1 := (d.startPeriod st mode (gridIndexFrom mode present) 0 t mask).notePeak true
  let d2 := { d1 with tile.drive.retune := match d1.tile.drive.retune with
    | some r => if r.1 = mode then none else some r
    | none => none }
  d2.set GRY_STAT_HELD (b2n held)

/-- A frame reaches its present time: presented, or held with its condition; then its period begins. -/
def Dev.presentFrame (st : Straps) (f : TileFrame) (d : Dev) : Dev :=
  let tooOld := match d.tile.drive.lastPresent with
    | some t => d.tile.changed && decide (f.present ≤ t)
    | none => false
  if tooOld then d.dropFrame f
  else
    let why := d.holdReason f
    let d1 := match why with
      | some c => d.holdFrame st f c
      | none => d.swapFrame st f
    d1.beginFrame st f.mode f.present why.isSome f.sample f.mask

/-- PRESENT_FRAME (R28, R29). -/
def execPresentFrame (s : State) : Host.Outcome State Fault Refusal :=
  runTile (fun st d =>
    match d.toPresent with
    | some f => d.presentFrame st f
    | none => d) s

/-! Clock steps (R207). -/

/-- The period of a frame that a clock step holds begins: with its sample and mask, which are taken now where the step has
skipped its compose deadline (log entry 145). -/
def Dev.beginStepped (st : Straps) (f : TileFrame) (d : Dev) : Dev :=
  let s := if f.judged then (f.sample, d) else d.takeSample st
  s.2.beginFrame st f.mode f.present true s.1 (if f.judged then f.mask else d.maskMap)

/-- After a step of the tile's clock (R207): frames beyond 2 s, and frames whose present time has passed, are held at once,
and the period of the last of these runs; frames whose compose deadline has passed are held when their present time comes. The
refresh in progress ends, and the next one starts at the next boundary. -/
def Dev.tileStepped (st : Straps) (d : Dev) : Dev :=
  let now := d.now
  let out := d.tile.frames.filter fun f => decide (now + 2 * giga < f.present) || decide (f.present ≤ now)
  let d1 := d.each out fun d f => d.holdFrame st f 5
  let d2 := match (out.filter fun f => decide (f.present ≤ now)).getLast? with
    | some f => d1.beginStepped st f
    | none => d1
  { d2 with
    tile.frames := d2.tile.frames.map fun f =>
      if composeDeadline f.present ≤ now then { f with fail := some 5 } else f
    tile.drive.restart := d2.tile.drive.mode.map fun m => d2.boundaryAfter m now
    tile.drive.slot := d2.tile.drive.s
    tile.drive.open_ := false }

/-! Refreshes and row slots (R245, R246, R257, R259). -/

/-- R of a mode change that waits (R257). -/
def Dev.retuneAt (d : Dev) : Option Nat :=
  match d.tile.drive.mode, d.tile.drive.retune with
  | some old, some (new, p) =>
    let endOld := match d.tile.drive.lastPresent with
      | some t => gridAt old (gridIndexFrom old t + 1)
      | none => 0
    some (gridFrom new (max (p - 100000000) endOld))
  | _, _ => none

/-- The boundary of the next refresh: mode, grid index and refresh. -/
def Dev.nextRefresh (d : Dev) : Option (Nat × Nat × Nat) :=
  d.tile.drive.mode.map fun mode =>
    match d.tile.drive.restart with
    | some r => (mode, r.1, r.2.1)
    | none =>
      if d.tile.drive.j < d.tile.drive.m then (mode, d.tile.drive.k, d.tile.drive.j) else (mode, d.tile.drive.k + 1, 0)

/-- The boundary has come, no frame waits to be presented first, and no retune has come before it. -/
def Dev.refreshDue (d : Dev) : Option (Nat × Nat × Nat) :=
  match d.nextRefresh with
  | none => none
  | some b =>
    let t := match d.tile.drive.restart with
      | some r => r.2.2
      | none => refreshAt b.1 d.tile.drive.m b.2.1 b.2.2
    let retuned := match d.retuneAt with
      | some r => decide (r ≤ t)
      | none => false
    if decide (t ≤ d.now) && !retuned && (b.2.1 == d.tile.drive.k || d.toPresent.isNone) then some b else none

/-- A refresh starts: DRIVE_EN is taken (R259); in recovery the drive is off (R342), and so it is while no lamp can conduct
(R396). -/
def Dev.startRefresh (j : Nat) (d : Dev) : Dev :=
  let on := d.getb LDRV_CTRL_DRIVE_EN && !d.getb SEC_STAT_RECOVERY && !d.rowsHeldOff
  let d1 := { d with
    tile.drive := { d.tile.drive with j := j + 1, slot := 0, open_ := false, driving := on, restart := none, darkBanks := [] } }
  let d2 := d1.set LDRV_STAT_DRIVING (b2n on)
  if on == d.tile.drive.driving then d2 else d2.emit (.pinwheel on)

/-- REFRESH_START (R245, R256, R259). A period that no frame starts drives the same values on with its own present time; the
sample, the mask and GRY_STAT.HELD stay those of the frame before (log entry 75). -/
def execRefreshStart (s : State) : Host.Outcome State Fault Refusal :=
  runTile (fun st d =>
    match d.refreshDue with
    | none => d
    | some (mode, k, j) =>
      let d1 := if k = d.tile.drive.k then d
        else d.startPeriod st mode k j d.tile.drive.sample d.tile.drive.mask
      d1.startRefresh j) s

/-- A bank darkened in a diagnostic slot that is over lights again. -/
def Dev.leaveSlot (d : Dev) : Dev := if d.tile.drive.open_ then { d with tile.drive.darkBanks := [] } else d

/-- One row slot of the refresh that runs. A diagnostic slot is open for its test, or for a measurement of an in-service step
(R262, R321), and the banks that are dark in it stay so until it is over. -/
def Dev.rowSlot (st : Straps) (samples : SlotSamples) (d : Dev) : Dev :=
  let dr := d.tile.drive
  let j := dr.j - 1
  let i := dr.slot
  let d0 := d.leaveSlot
  let d1 := if j + 1 = dr.m then
      (if i = 0 then d0.takeVled samples.vled else if i = 1 then d0.takeNtc st samples.ntc else d0)
    else d0
  let d2 := { d1 with tile.drive.slot := i + 1, tile.drive.open_ := false }
  let fed := (d2.passEdges st).starveBanks st samples.starved
  let d3 := if !dr.driving || d.rowsHeldOff then d2
    else if dr.diag && j + 1 = dr.m then { fed with tile.drive.open_ := true }
    else ((fed.readFront st i).lightSlot j i).liveTests st j i samples.columns
  if d3.tile.drive.open_ then d3 else { d3 with tile.drive.darkBanks := [] }

/-- The row slot that comes next has come: slot i starts (i·Q) div S steps after its refresh (R245). -/
def Dev.slotDue (d : Dev) : Bool :=
  let dr := d.tile.drive
  match dr.mode with
  | some mode =>
    decide (dr.slot < dr.s) && decide (0 < dr.j) &&
      decide (4 * refreshAt mode dr.m dr.k (dr.j - 1) + dr.slot * dr.q / dr.s ≤ 4 * d.now)
  | none => false

/-- ROW_SLOT_START (R246). -/
def execRowSlotStart (samples : SlotSamples) (s : State) : Host.Outcome State Fault Refusal :=
  runIf (fun st d => isTile st && d.awake && d.slotDue) (fun st d => d.rowSlot st samples) s

/-- `n` more row slots of the refresh that runs, with nothing sampled. -/
def Dev.rowSlots (st : Straps) : Nat → Dev → Dev
  | 0, d => d
  | n + 1, d => Dev.rowSlots st n (d.rowSlot st { columns := [], vled := [], ntc := [], starved := [] })

/-- The end of the refresh that runs. -/
def Dev.refreshEnd (d : Dev) (mode : Nat) : Nat :=
  let dr := d.tile.drive
  if dr.j < dr.m then refreshAt mode dr.m dr.k dr.j else gridAt mode (dr.k + 1)

/-- PINWHEEL_RETUNE: the old refresh is completed, and refreshes go on at the next boundary of the new grid (R257). -/
def Dev.retunePinwheel (st : Straps) (old new : Nat) (d : Dev) : Dev :=
  let stop := d.refreshEnd old
  let d1 := d.rowSlots st (d.tile.drive.s - d.tile.drive.slot)
  let b := d1.boundaryAfter new (max d.now stop)
  { d1 with tile.drive.retune := none }.startPeriod st new b.1 b.2.1 d.tile.drive.sample d.tile.drive.mask

/-- PINWHEEL_RETUNE (R257). -/
def execPinwheelRetune (s : State) : Host.Outcome State Fault Refusal :=
  runTile (fun st d =>
    match d.retuneAt, d.tile.drive.mode, d.tile.drive.retune with
    | some r, some old, some (new, _) => if r ≤ d.now then d.retunePinwheel st old new else d
    | _, _, _ => d) s

/-! Fades (R249, R469). -/

/-- The margin of an arm: 50 ms (R213, R238, R249). -/
def armMargin : Nat := 50000000

/-- L0 of an arm. -/
def Dev.fadeStart (d : Dev) : Nat :=
  match d.tile.fadeRun with
  | some f => if d.getb GRY_FADE_ARM_RUN then fadeLevel f d.fadeAt else d.get GRY_LEVEL_LVL
  | none => d.get GRY_LEVEL_LVL

/-- Whether TGT and DUR hold no reserved encoding. -/
def fadeValuesOk (tgt dur : Nat) : Bool :=
  decide (tgt ≤ darkLevel) && (dur == 0 || (decide (10 ≤ dur) && decide (dur ≤ 60000)))

/-- GRY_FADE_ARM.ARM (R249). -/
def Dev.opFadeArm (d : Dev) : Dev :=
  if d.fadeAt < d.now + armMargin || !fadeValuesOk (d.get GRY_FADE_TGT) (d.get GRY_FADE_DUR_MS) then
    d.set GRY_FADE_ARM_LATE 1
  else
    { d with tile.fadePend := some (d.fadeStart, d.get GRY_FADE_TGT, d.fadeAt, d.get GRY_FADE_DUR_MS) }.set
      GRY_FADE_ARM_PEND 1

/-- GRY_FADE_ARM.DISARM. -/
def Dev.opFadeDisarm (d : Dev) : Dev := { d with tile.fadePend := none }.set GRY_FADE_ARM_PEND 0

/-- FADE_ARM (R249). -/
def execFadeArm (init : Initiator) (s : State) : Host.Outcome State Fault Refusal :=
  runBy init (fun st _ => isTile st) (fun _ d => d.opFadeArm) s

/-- FADE_DISARM (R249, R469). -/
def execFadeDisarm (init : Initiator) (s : State) : Host.Outcome State Fault Refusal :=
  runBy init (fun st _ => isTile st) (fun _ d => d.opFadeDisarm) s

/-- GRY_LEVEL writes made before a fade began no longer wait: they are in force under it. -/
def Dev.settleLevel (d : Dev) : Dev :=
  let mine := d.tile.late.filter fun w => w.addr == GRY_LEVEL
  { d with tile.late := d.tile.late.filter fun w => w.addr != GRY_LEVEL }.each mine fun d w => d.enforce w.addr w.value

/-- FADE_START (R249). -/
def execFadeStart (s : State) : Host.Outcome State Fault Refusal :=
  runTile (fun _ d =>
    match d.tile.fadePend with
    | some f =>
      if f.2.2.1 ≤ d.now then
        { d.settleLevel with tile.fadePend := none, tile.fadeRun := some f }.setAll
          [(GRY_FADE_ARM_PEND, 0), (GRY_FADE_ARM_RUN, 1)]
      else d
    | none => d) s

/-- FADE_END (R249). -/
def execFadeEnd (s : State) : Host.Outcome State Fault Refusal :=
  runTile (fun st d =>
    match d.tile.fadeRun with
    | some f =>
      if d.getb GRY_FADE_ARM_RUN && decide (f.2.2.1 + f.2.2.2 * 1000000 ≤ d.now) then
        (d.setAll [(GRY_LEVEL_LVL, f.2.1), (GRY_FADE_ARM_RUN, 0)]).event st EV_GRY_FADE_DONE 0 0 0
      else d
    | none => d) s

end Sys2Proof.Machine
end

