-- ==== Sys2Proof/Machine/Time.lean ====
section
/-! DEFINITION. Wall time: the clock, its trim, slews and steps, TIME packets, PTP, PPS, and the survey of path delays
(spec/07_wall_time.md R186 to R199, R205 to R209). -/

namespace Sys2Proof.Machine

/-! The clock (R186 to R188). Corrections are in 2^−32 ns. -/

/-- The clock in 2^−32 ns. -/
def Clock.whole (c : Clock) : Int := ((((c.sec * giga + c.ns) * 65536 + c.frac) * 65536 + c.res : Nat) : Int)

/-- The clock at a time in 2^−32 ns; a time before 0 is 0, and the seconds are 48 bits. -/
def Clock.at_ (c : Clock) (t : Int) : Clock :=
  let v := t.toNat
  { c with
    sec := v / 2 ^ 32 / giga % 2 ^ 48
    ns := v / 2 ^ 32 % giga
    frac := v / 65536 % 65536
    res := v % 65536 }

/-- TRIM as signed. -/
def Dev.trim (d : Dev) : Int := d.geti TIME_TRIM_TRIM

/-- The limit of a sender's effective trim, ±30 ppm (R187). -/
def trimLimit : Int := 515396

/-- A rate in ppm as a trim: 2^−32 ns per 4 ns tick. -/
def ppmTrim (ppm : Nat) : Int := (ppm : Int) * 4 * 2 ^ 32 / 1000000

/-- The limit of corr(o), ±20 ppm (R197). -/
def corrLimit : Int := 343597

/-- corr(o) of an offset in 2^−16 ns (R197). -/
def corrOf (o : Int) : Int := sat (Int.fdiv (o * 65536) 250000) (-corrLimit) corrLimit

/-- What a slew adds to the trim for a correction: SLEW_PPM toward it, or what the limit of R187 leaves (R188). -/
def Dev.slewRate (d : Dev) (delta : Int) : Int :=
  let room := if 0 ≤ delta then trimLimit - d.trim else trimLimit + d.trim
  min (ppmTrim (d.get TIME_CTRL_SLEW_PPM)) room

/-- What this tick's slew adds, with its sign: no more than is left of the correction. -/
def Dev.slewNow (d : Dev) : Int :=
  let rem := d.time.clk.slewRem
  let rate := d.slewRate rem
  if rate < ppmTrim 1 then 0 else if 0 ≤ rem then min rem rate else -(min (-rem) rate)

/-- trim_eff (R186, R197). -/
def Dev.trimEff (st : Straps) (d : Dev) : Int :=
  match st.role with
  | .tile => d.trim + d.time.clk.corr
  | .sender => sat (d.trim + d.slewNow) (-trimLimit) trimLimit

/-- The clock runs while the device is awake; in a thermal shutdown the always-on domain keeps it (R310). -/
def Dev.clockRuns (d : Dev) : Bool :=
  match d.boot.power with
  | .awake | .shutdown => true
  | .off | .brownOut | .dormant => false

/-- One tick of the clock (R186). -/
def Dev.tick (st : Straps) (d : Dev) : Dev :=
  let c := d.time.clk
  let used := if isSender st then d.slewNow else 0
  let c1 := c.at_ (c.whole + 4 * 2 ^ 32 + d.trimEff st)
  { d with time.clk := { c1 with slewRem := c.slewRem - used } }

/-- What the pins show: edges on the reference inputs (R150), WAKE_N (R418), TRST_N (R428), and a PTP link that has come up
(R209). -/
def Dev.notePins (st : Straps) (p : PinLevels) (d : Dev) : Dev :=
  let d1 := { (d.noteEdges st p.refiA p.refiB).setb GEN_STAT_WAKE p.wakeLow with boot.trst := p.trstHigh }
  if isTile st then d1
  else
    let d2 := if p.link0 then d1.set (TIME_PTP_STAT_LINK 0) 1 else d1
    if p.link1 then d2.set (TIME_PTP_STAT_LINK 1) 1 else d2

/-- A grid instant of a canvas mode in force lies between two readings of the clock: a frame period ends there. -/
def periodEnds (mode before after : Nat) : Bool := modeAllowed mode && gridFrom mode before != gridFrom mode after

/-- A sender's frame periods are those of its canvas mode: FAB_RATE shows each that has ended (R46). -/
def Dev.senderPeriod (before : Nat) (d : Dev) : Dev :=
  if periodEnds (d.get RING_FLIP_MODE_CUR) before d.now then d.noteRate else d

/-- The wall clock has gone on, where it runs. -/
def Dev.clockOn (st : Straps) (d : Dev) : Dev :=
  if !d.clockRuns then d else if isSender st && d.awake then (d.tick st).senderPeriod d.now else d.tick st

/-- WALL_CLOCK_TICK: 4 ns pass (R186). The lines of the ports go on (R124, R126), and the levels of the pins show. -/
def execWallClockTick (pins : PinLevels) (s : State) : Host.Outcome State Fault Refusal :=
  runIf (fun _ d => d.boot.power != Power.off)
    (fun st d =>
      let d1 := d.clockOn st
      let d2 := { d1 with time.clk.ticks := d1.time.clk.ticks + 1 }
      if d.awake then (d2.notePins st pins).each allPorts fun d x => d.fillLine st x else d2) s

/-- A step: the clock takes the value at once, the time-epoch advances, a slew ends, TIME_STEP is recorded, and queued
flips or arriving frames follow (R188, R205 to R207). -/
def Dev.stepTo (st : Straps) (t : Int) (d : Dev) : Dev :=
  let c := d.time.clk
  let d1 := { d with time.clk := { c.at_ t with slewRem := 0, corr := 0 }, time.lastPulse := none }
  let d2 := d1.setAll [(TIME_STAT_TEPOCH, d.get TIME_STAT_TEPOCH + 1), (TIME_STAT_STEP_SEEN, 1), (TIME_STAT_SLEWING, 0)]
  let d3 := d2.event st EV_TIME_STEP c.ns c.sec (c.sec / 2 ^ 32 % 65536)
  match st.role with
  | .sender => d3.queueAfterStep st (decide (c.whole ≤ t))
  | .tile => d3.tileStepped st

/-- The clock steps by a correction. -/
def Dev.stepBy (st : Straps) (delta : Int) (d : Dev) : Dev := d.stepTo st (d.time.clk.whole + delta)

/-- 1 ms in 2^−32 ns. -/
def stepLimit : Int := 1000000 * 2 ^ 32

/-- A phase correction of a sender's clock: a slew up to 1 ms where the limit leaves 1 ppm, a step otherwise (R188). -/
def Dev.correct (st : Straps) (delta : Int) (d : Dev) : Dev :=
  if stepLimit < delta || delta < -stepLimit || (delta != 0 && d.slewRate delta < ppmTrim 1) then d.stepBy st delta
  else { d.setb TIME_STAT_SLEWING (delta != 0) with time.clk.slewRem := delta }

/-- CLOCK_SLEW_DONE: the correction is consumed; what the limit no longer leaves 1 ppm for is applied as a step (R188). -/
def execClockSlewDone (s : State) : Host.Outcome State Fault Refusal :=
  runIf (fun st d => isSender st && d.awake && d.getb TIME_STAT_SLEWING &&
      (d.time.clk.slewRem == 0 || d.slewRate d.time.clk.slewRem < ppmTrim 1))
    (fun st d => if d.time.clk.slewRem == 0 then d.set TIME_STAT_SLEWING 0 else d.stepBy st d.time.clk.slewRem) s

/-- The clock's state. -/
def Dev.timeState (d : Dev) : Nat := d.get TIME_STAT_STATE

/-- A signed value limited to 32 bits. -/
def sat32 (v : Int) : Int := sat v (-2147483648) 2147483647

/-! TIME packets (R194, R196, R197). -/

/-- The TIME period less its tolerance. -/
def timePeriod : Nat := us 990

/-- TIME_SEND (R194). -/
def execTimeSend (port : Port) (s : State) : Host.Outcome State Fault Refusal :=
  let x : Nat := port
  runIf (fun st d => isSender st && d.awake && d.transmitting x && d.passed (d.port x).lastTimeSent timePeriod)
    (fun st d => (d.modPort x fun p => { p with lastTimeSent := d.ticks }).queueTx st x TQ_TIME .time) s

/-- Whether the tile takes this TIME: from the accepted source; before one is accepted, on port A (R196). -/
def Dev.takesTime (d : Dev) (k : RxPkt) : Bool :=
  match d.tile.accepted with
  | some _ => d.fromAccepted k.bytes
  | none => k.port == 0

/-- The path delay of the side that a packet's source feeds from, when it is VALID. -/
def Dev.pathOf (d : Dev) (tail : Bool) : Option Nat :=
  if tail then (if d.getb TIME_PATH_B_VALID then some (d.get TIME_PATH_B_DELAY) else none)
  else (if d.getb TIME_PATH_A_VALID then some (d.get TIME_PATH_A_DELAY) else none)

/-- The offset o of R196, in 2^−16 ns. -/
def timeOffset (body : List Byte) (path tRx : Nat) : Int :=
  let origin := (natBits (leAt body 4 8) 0 48 * giga + natBits (leAt body 0 4) 0 30) * 65536
  ((origin + leAt body 16 8 + path * 256 : Nat) : Int) - tRx

/-- The tile's clock follows a TIME whose path is VALID (R197). -/
def Dev.followTime (st : Straps) (o : Int) (d : Dev) : Dev :=
  let big := decide (1000000 * 65536 < o) || decide (o < -(1000000 * 65536))
  let d1 := d.seti TIME_OFFSET_OFFSET (sat32 (shr o 16))
  let d2 := if d.timeState == T_FREE || big then d1.stepBy st (o * 65536)
    else { d1.setb TIME_STAT_SLEWING (corrOf o != 0) with time.clk.corr := corrOf o }
  d2.set TIME_STAT_STATE T_LOCKED

/-- A TIME is taken (R197). -/
def Dev.takeTime (st : Straps) (k : RxPkt) (d : Dev) : Dev :=
  let body := pktBody k.bytes
  let d0 := { d.set TIME_TRIM_TRIM (leAt body 12 4) with time.clk.lastTime := d.ticks }
  match d0.pathOf (pktTail k.bytes) with
  | some p => d0.followTime st (timeOffset body p k.tRx)
  | none =>
    if d.timeState == T_FREE then d0
    else
      let d1 := { d0.set TIME_STAT_SLEWING 0 with time.clk.corr := 0, time.clk.noPathRecorded := true }
      d1.eventIf st (!d.time.clk.noPathRecorded) EV_TIME_NOPATH 0 0 0

/-- TIME_RECEIVE (R196, R197, R280). -/
def execTimeReceive (s : State) : Host.Outcome State Fault Refusal :=
  runTile (fun st d => d.onRx (fun k => pktType k.bytes == PT_TIME) fun k d =>
    let d1 := d.hearSender st k.bytes
    if d1.takesTime k then d1.takeTime st k else d1) s

/-- TIME_HOLDOVER_TIMEOUT: a LOCKED tile clock has taken no TIME for 10 ms (R197). -/
def execTimeHoldoverTimeout (s : State) : Host.Outcome State Fault Refusal :=
  runIf (fun st d => isTile st && d.awake && d.timeState == T_LOCKED && d.passed d.time.clk.lastTime (ms 10))
    (fun st d =>
      ({ d.setAll [(TIME_STAT_STATE, T_HOLDOVER), (TIME_STAT_SLEWING, 0)] with time.clk.corr := 0 }).event st
        EV_TIME_HOLDOVER 0 0 0) s

/-! PTP (R189 to R191). -/

/-- The states of an instance (R209). -/
def PTP_DISABLED : Nat := 0
def PTP_LISTENING : Nat := 1
def PTP_UNCALIBRATED : Nat := 2
def PTP_LOCKED : Nat := 3

/-- TIME_CTRL.SRC. -/
def SRC_PTP : Nat := 0
def SRC_PPS : Nat := 1
def SRC_HOST : Nat := 2

/-- An instance. -/
def Dev.ptp (d : Dev) (n : Nat) : PtpInst := nth d.time.inst n PtpInst.init

/-- Changes an instance. -/
def Dev.modPtp (n : Nat) (f : PtpInst → PtpInst) (d : Dev) : Dev := { d with time.inst := modAt d.time.inst n f }

/-- Its state. -/
def Dev.ptpState (d : Dev) (n : Nat) : Nat := d.get (TIME_PTP_STAT_STATE n)

/-- The preferred instance has been LOCKED for REVERT_S while the other is in use (R191, item 1). -/
def Dev.revertDue (d : Dev) : Bool :=
  let pref := d.get TIME_CTRL_PREF
  d.get TIME_STAT_SEL == 1 - pref && d.ptpState pref == PTP_LOCKED && d.getb TIME_CTRL_REVERT_S &&
  d.passed (d.ptp pref).lockedAt (secs (d.get TIME_CTRL_REVERT_S))

/-- The instance that disciplines the clock; 3 for none (R191). -/
def Dev.chooseInst (d : Dev) : Nat :=
  let cur := d.get TIME_STAT_SEL
  let pref := d.get TIME_CTRL_PREF
  let locked (n : Nat) : Bool := d.ptpState n == PTP_LOCKED
  let uncal (n : Nat) : Bool := d.ptpState n == PTP_UNCALIBRATED
  if cur < 2 && locked cur then (if d.revertDue then pref else cur)
  else if locked pref then pref
  else if locked (1 - pref) then 1 - pref
  else if cur < 2 && uncal cur then cur
  else if uncal d.time.uncalFirst then d.time.uncalFirst
  else 3

/-- Which instance reached UNCALIBRATED first, after instance n has entered a state (R191, item 3). -/
def Dev.noteUncal (n s : Nat) (d : Dev) : Dev :=
  let other := d.ptpState (1 - n) == PTP_UNCALIBRATED
  if s == PTP_UNCALIBRATED then (if other then d else { d with time.uncalFirst := n })
  else if d.time.uncalFirst = n then { d with time.uncalFirst := 1 - n }
  else d

/-- An offset of an instance is applied: TIME_OFFSET shows it (R209). -/
def Dev.showOffset (o : Int) (d : Dev) : Dev := d.seti TIME_OFFSET_OFFSET (sat32 o)

/-- A change of instance takes up the new one's offset, if it has one, once the clock runs on a time (R191). -/
def Dev.takeUp (st : Straps) (n : Nat) (d : Dev) : Dev :=
  match (d.ptp n).offset with
  | some o => if d.timeState == T_FREE then d else (d.showOffset o).correct st (-o * 2 ^ 32)
  | none => d

/-- The choice is made again; a change records TIME_DOMAIN and takes up the new instance's offset; without an instance
the clock enters HOLDOVER (R191). -/
def Dev.reselect (st : Straps) (d : Dev) : Dev :=
  if d.get TIME_CTRL_SRC != SRC_PTP then d
  else
    let old := d.get TIME_STAT_SEL
    let new := d.chooseInst
    let d1 := d.set TIME_STAT_SEL new
    let d2 := if old == new then d1 else (d1.event st EV_TIME_DOMAIN 0 0 0).raise IRQ_TIME
    if new == 3 then
      if d.timeState == T_FREE then d2
      else { d2.setAll [(TIME_STAT_STATE, T_HOLDOVER), (TIME_STAT_SLEWING, 0)] with time.clk.slewRem := 0 }
    else
      let d3 := if d.ptpState new == PTP_LOCKED && d.timeState != T_FREE then d2.set TIME_STAT_STATE T_LOCKED else d2
      if old == new then d3 else d3.takeUp st new

/-- An instance enters a state: TIME_PTP_STATE, cause TIME, and the choice of R191 (R190). -/
def Dev.ptpEnter (st : Straps) (n s : Nat) (d : Dev) : Dev :=
  let d1 := ((d.noteUncal n s).set (TIME_PTP_STAT_STATE n) s).modPtp n fun p =>
    { p with within := 0, outside := 0, lockedAt := if s == PTP_LOCKED then d.ticks else p.lockedAt
             offset := if s == PTP_LISTENING then none else p.offset }
  ((d1.event st EV_TIME_PTP_STATE 0 0 0).raise IRQ_TIME).reselect st

/-- The 802.1Q tag of an instance (R189, R209). -/
def Dev.ptpVlan (d : Dev) (n : Nat) : Option Nat :=
  if d.getb (TIME_PTP_CTRL_VLAN_EN n) then some (d.get (TIME_PTP_CTRL_VLAN_ID n)) else none

/-- An instance takes a message: its transport, its tag and its domain are the instance's (R189). -/
def Dev.ptpTakes (d : Dev) (n : Nat) (w : PtpWire) : Bool :=
  w.udp == d.getb (TIME_PTP_CTRL_UDP n) && w.vlan.map BitVec.toNat == d.ptpVlan n &&
  w.domain == d.get (TIME_PTP_CTRL_DOMAIN n)

/-- What an instance sends, whose transmitter is idle until firmware runs (R428). -/
def Dev.ptpEmit (o : Out) (d : Dev) : Dev := if d.boot.started then d.emit o else d

/-- An instance sends a message of its transport, with its tag and in its domain. -/
def Dev.ptpSend (n kind : Nat) (d : Dev) : Dev :=
  d.ptpEmit (.ptp n kind (d.getb (TIME_PTP_CTRL_UDP n)) (d.ptpVlan n) (d.get (TIME_PTP_CTRL_DOMAIN n)))

/-- The groups are joined or left, by IGMP where the transport is UDP/IPv4. -/
def Dev.ptpGroups (n : Nat) (join : Bool) (d : Dev) : Dev :=
  if d.getb (TIME_PTP_CTRL_UDP n) then d.ptpEmit (.ptpGroups n join (d.ptpVlan n) (d.get (TIME_PTP_IPV4_ADDR n))) else d

/-- TIME_PTPn_CTRL.EN set: LISTENING, and the groups are joined (R190). -/
def Dev.opPtpEnable (st : Straps) (n : Nat) (d : Dev) : Dev :=
  let d1 := d.set (TIME_PTP_CTRL_EN n) 1
  if d.ptpState n != PTP_DISABLED then d1
  else ((d1.modPtp n fun _ => PtpInst.init).ptpGroups n true).ptpEnter st n PTP_LISTENING

/-- TIME_PTPn_CTRL.EN cleared: DISABLED (R190). -/
def Dev.opPtpDisable (st : Straps) (n : Nat) (d : Dev) : Dev :=
  let d1 := d.set (TIME_PTP_CTRL_EN n) 0
  if d.ptpState n == PTP_DISABLED then d1
  else ((d1.modPtp n fun _ => PtpInst.init).ptpGroups n false).ptpEnter st n PTP_DISABLED

/-- PTP_ENABLE (R190). -/
def execPtpEnable (init : Initiator) (inst : Fin 2) (s : State) : Host.Outcome State Fault Refusal :=
  runBy init (fun st _ => isSender st) (fun st d => d.opPtpEnable st inst) s

/-- PTP_DISABLE (R190). -/
def execPtpDisable (init : Initiator) (inst : Fin 2) (s : State) : Host.Outcome State Fault Refusal :=
  runBy init (fun st _ => isSender st) (fun st d => d.opPtpDisable st inst) s

/-- What the default best-master comparison ranks, first to last (log entry 13). -/
def announceRank (a : Announce) : List Nat :=
  [a.priority1, a.clockClass, a.clockAccuracy, a.variance, a.priority2, a.grandmaster.toNat, a.stepsRemoved, a.source]

/-- Lexicographic order. -/
def rankLe : List Nat → List Nat → Bool
  | [], _ => true
  | _, [] => false
  | a :: as, b :: bs => decide (a < b) || (a == b && rankLe as bs)

/-- Ticks of an announce interval. -/
def announceInterval (a : Announce) : Nat :=
  if 0 ≤ a.logInterval then secs (2 ^ a.logInterval.toNat) else secs 1 / 2 ^ (-a.logInterval).toNat

/-- An Announce heard at a tick is still within three intervals. -/
def announceLive (d : Dev) (e : Announce × Nat) : Bool := decide (d.ticks < e.2 + 3 * announceInterval e.1)

/-- The best of the time-transmitters heard. -/
def bestAnnounce : List (Announce × Nat) → Option Announce
  | [] => none
  | e :: rest =>
    match bestAnnounce rest with
    | none => some e.1
    | some b => if rankLe (announceRank e.1) (announceRank b) then some e.1 else some b

/-- The registers that show the selected time-transmitter. -/
def Dev.showMaster (n : Nat) (a : Announce) (d : Dev) : Dev :=
  (d.modPtp n fun p => { p with selected := some a.source }).setAll
    [(TIME_PTP_GMID_LO_ID n, a.grandmaster.toNat), (TIME_PTP_GMID_HI_ID n, a.grandmaster.toNat / 2 ^ 32),
     (TIME_PTP_STAT_UTC_OFFSET n, a.utcOffset.toNat)]

/-- The instance returns to LISTENING: its offsets are discarded, and the interval that the time-transmitter had granted holds
for no other (R189, R190). -/
def Dev.ptpListen (st : Straps) (n : Nat) (d : Dev) : Dev :=
  (d.modPtp n fun p => { p with selected := none, granted := none }).ptpEnter st n PTP_LISTENING

/-- PTP_ANNOUNCE_RECEIVE (R189, R190). -/
def execPtpAnnounceReceive (inst : Fin 2) (msg : Announce) (s : State) : Host.Outcome State Fault Refusal :=
  let n : Nat := inst
  runIf (fun st d => isSender st && d.awake && d.ptpState n != PTP_DISABLED && d.ptpTakes n msg.wire)
    (fun st d =>
      let d1 := (d.set (TIME_PTP_STAT_LINK n) 1).modPtp n fun p =>
        { p with heard := (msg, d.ticks) :: p.heard.filter fun e => e.1.source != msg.source }
      match bestAnnounce ((d1.ptp n).heard.filter (announceLive d1)) with
      | none => d1
      | some b =>
        if d.ptpState n == PTP_LISTENING then (d1.showMaster n b).ptpEnter st n PTP_UNCALIBRATED
        else if (d1.ptp n).selected == some b.source then d1.showMaster n b
        else d1.ptpListen st n) s

/-- The clock follows an offset of the instance in use (R188, R191). The first one in FREE, which steps the clock, leaves it in
HOLDOVER while the instance is not LOCKED (log entry 81). -/
def Dev.followPtp (st : Straps) (n : Nat) (o : Int) (d : Dev) : Dev :=
  let d1 := (d.showOffset o).set TIME_TRIM_TRIM (ofSigned 32 (sat (Config.servoTrim d.trim o) (-trimLimit) trimLimit))
  if d.timeState == T_FREE then (d1.stepBy st (-o * 2 ^ 32)).set TIME_STAT_STATE
    (if d.ptpState n == PTP_LOCKED then T_LOCKED else T_HOLDOVER)
  else d1.correct st (-o * 2 ^ 32)

/-- An offset moves the instance between UNCALIBRATED and LOCKED (R190). -/
def Dev.countOffset (st : Straps) (n : Nat) (o : Int) (d : Dev) : Dev :=
  let p := d.ptp n
  let within := if o ≤ 100 ∧ -100 ≤ o then p.within + 1 else 0
  let outside := if o ≤ 1000 ∧ -1000 ≤ o then 0 else p.outside + 1
  if d.ptpState n == PTP_UNCALIBRATED && 16 ≤ within then d.ptpEnter st n PTP_LOCKED
  else if d.ptpState n == PTP_LOCKED && 4 ≤ outside then d.ptpEnter st n PTP_UNCALIBRATED
  else d.modPtp n fun p => { p with within := within, outside := outside }

/-- PTP_SYNC_RECEIVE (R190, R191). -/
def execPtpSyncReceive (inst : Fin 2) (msg : PtpSync) (s : State) : Host.Outcome State Fault Refusal :=
  let n : Nat := inst
  runIf (fun st d => isSender st && d.awake && 2 ≤ d.ptpState n && d.ptpTakes n msg.wire &&
      (d.ptp n).selected == some msg.source)
    (fun st d =>
      let o := msg.receipt - msg.origin - msg.correction - (d.get (TIME_PTP_MPD_VALUE n) : Int)
      let d1 := (d.setAll [(TIME_PTP_STAT_TWO_STEP n, b2n msg.twoStep), (TIME_PTP_STAT_LINK n, 1),
        (TIME_PTP_OFFSET_VALUE n, ofSigned 32 (sat32 o))]).modPtp n fun p => { p with offset := some o }
      let d2 := if d.get TIME_CTRL_SRC == SRC_PTP && d.get TIME_STAT_SEL == n then d1.followPtp st n o else d1
      d2.countOffset st n o) s

/-- Ticks of an interval given in seconds as a power of two. -/
def intervalTicks (e : Int) : Nat := if 0 ≤ e then secs 1 * 2 ^ e.toNat else secs 1 / 2 ^ (-e).toNat

/-- A Delay_Req or Pdelay_Req is due: the interval granted, or the profile's, has passed since the last (R189). -/
def Dev.delayReqDue (d : Dev) (n : Nat) : Bool :=
  let p2p := d.getb (TIME_PTP_CTRL_P2P n)
  let e := (if p2p then none else (d.ptp n).granted).getD (Config.delayInterval (d.getb (TIME_PTP_CTRL_PROFILE n)) p2p)
  match (d.ptp n).lastReq with
  | some t => d.passed t (intervalTicks e)
  | none => true

/-- PTP_DELAY_REQ_SEND: a Pdelay_Req with P2P, a Delay_Req otherwise (R189). -/
def execPtpDelayReqSend (inst : Fin 2) (s : State) : Host.Outcome State Fault Refusal :=
  let n : Nat := inst
  runIf (fun st d => isSender st && d.awake && 2 ≤ d.ptpState n && d.delayReqDue n)
    (fun _ d => (d.modPtp n fun p => { p with lastReq := some d.ticks }).ptpSend n
      (if d.getb (TIME_PTP_CTRL_P2P n) then 2 else 1)) s

/-- PTP_DELAY_RESP_RECEIVE: the mean path delay takes a new measurement (R189). A Delay_Resp counts from the selected
time-transmitter alone, and grants an interval; a Pdelay response comes from the peer of the link. -/
def execPtpDelayRespReceive (inst : Fin 2) (msg : PtpDelay) (s : State) : Host.Outcome State Fault Refusal :=
  let n : Nat := inst
  runIf (fun st d => isSender st && d.awake && 2 ≤ d.ptpState n && d.ptpTakes n msg.wire &&
      (d.getb (TIME_PTP_CTRL_P2P n) || (d.ptp n).selected == some msg.source))
    (fun _ d0 =>
      let d := if d0.getb (TIME_PTP_CTRL_P2P n) then d0 else d0.modPtp n fun p => { p with granted := some msg.granted }
      let m := Int.fdiv ((msg.t2 - msg.t1) + (msg.t4 - msg.t3) - msg.correction) 2
      d.setAll [(TIME_PTP_STAT_LINK n, 1),
        (TIME_PTP_MPD_VALUE n, Config.delayFilter (d.get (TIME_PTP_MPD_VALUE n)) m)]) s

/-- The selected time-transmitter has sent no Announce for three intervals. -/
def Dev.announceLost (d : Dev) (n : Nat) : Bool :=
  !((d.ptp n).heard.any fun e => (d.ptp n).selected == some e.1.source && announceLive d e)

/-- PTP_ANNOUNCE_TIMEOUT (R190). -/
def execPtpAnnounceTimeout (inst : Fin 2) (s : State) : Host.Outcome State Fault Refusal :=
  let n : Nat := inst
  runIf (fun st d => isSender st && d.awake && 2 ≤ d.ptpState n && d.announceLost n)
    (fun st d => d.ptpListen st n) s

/-- PTP_LINK_DOWN (R190). -/
def execPtpLinkDown (inst : Fin 2) (s : State) : Host.Outcome State Fault Refusal :=
  let n : Nat := inst
  runSender (fun st d =>
    let d1 := (d.set (TIME_PTP_STAT_LINK n) 0).modPtp n fun p => { p with heard := [], selected := none, granted := none }
    if 2 ≤ d.ptpState n then d1.ptpListen st n else d1) s

/-- PTP_ARP_REQUEST: a request for the instance's own address is answered, where its transport is UDP/IPv4 (R189). -/
def execPtpArpRequest (inst : Fin 2) (target : Word) (asker : Nat) (s : State) : Host.Outcome State Fault Refusal :=
  let n : Nat := inst
  runIf (fun st d => isSender st && d.awake && d.getb (TIME_PTP_CTRL_EN n) && d.getb (TIME_PTP_CTRL_UDP n) &&
      target.toNat == d.get (TIME_PTP_IPV4_ADDR n))
    (fun _ d => (d.set (TIME_PTP_STAT_LINK n) 1).ptpEmit (.arpReply n (d.ptpVlan n) target.toNat asker)) s

/-- PTP_REVERT_TIMEOUT (R191). -/
def execPtpRevertTimeout (s : State) : Host.Outcome State Fault Refusal :=
  runIf (fun st d => isSender st && d.awake && d.get TIME_CTRL_SRC == SRC_PTP && d.revertDue)
    (fun st d => d.reselect st) s

/-- TIME_CTRL.SRC has changed: what the new source makes of the clock (R191, R192). -/
def Dev.sourceChanged (st : Straps) (d : Dev) : Dev :=
  let d1 := d.set TIME_STAT_SEL 3
  let d2 := if d.timeState == T_LOCKED then d1.set TIME_STAT_STATE T_HOLDOVER else d1
  d2.reselect st

/-! PPS (R192, R193). -/

/-- A PPS_IN edge has come within the last 2 s. -/
def Dev.ppsAlive (d : Dev) : Bool :=
  match d.time.lastPps with
  | some t => decide (d.ticks < t + secs 2)
  | none => false

/-- PPS_IN_EDGE: the edge is stamped; with SRC = PPS it disciplines phase and trim to the second (R192). -/
def execPpsInEdge (s : State) : Host.Outcome State Fault Refusal :=
  runSender (fun st d =>
    let ns := d.time.clk.ns
    let d1 := { d.setAll [(TIME_PPSIN_NS, ns), (TIME_PPSIN_NEW, 1)] with time.lastPps := some d.ticks }
    if d.get TIME_CTRL_SRC != SRC_PPS then d1
    else
      let o : Int := if ns < giga / 2 then (ns : Int) else (ns : Int) - giga
      let d2 := d1.setAll [(TIME_STAT_SEL, 2),
        (TIME_TRIM_TRIM, ofSigned 32 (sat (Config.servoTrim d.trim o) (-trimLimit) trimLimit))]
      let d3 := if d.timeState == T_FREE then d2.stepBy st (-o * 2 ^ 32) else d2.correct st (-o * 2 ^ 32)
      d3.set TIME_STAT_STATE T_LOCKED) s

/-- PPS_TIMEOUT: 2 s without an edge (R192). A slew that runs goes on to its end (log entry 151). -/
def execPpsTimeout (s : State) : Host.Outcome State Fault Refusal :=
  runIf (fun st d => isSender st && d.awake && d.get TIME_CTRL_SRC == SRC_PPS && d.get TIME_STAT_SEL == 2 && !d.ppsAlive)
    (fun _ d =>
      let d1 := d.set TIME_STAT_SEL 3
      if d.timeState == T_LOCKED then d1.set TIME_STAT_STATE T_HOLDOVER else d1) s

/-- The latest instant at which PPS_OUT should have risen, in nanoseconds (R193). -/
def Dev.ppsInstant (d : Dev) : Option Nat :=
  match d.get TIME_PPS_MODE with
  | 1 => some (d.time.clk.sec * giga)
  | 2 =>
    let m := d.get RING_FLIP_MODE_CUR
    if m == 0xFF then none
    else
      let k := gridIndexFrom m d.now
      some (if gridAt m k = d.now then d.now else gridAt m (k - 1))
  | _ => none

/-- PPS_OUT is to rise now: within 5 ns of an instant that it has not marked (R193). -/
def Dev.ppsDue (d : Dev) : Bool :=
  match d.ppsInstant with
  | some t => decide (d.now ≤ t + 5) && d.time.lastPulse != some t
  | none => false

/-- PPS_OUT_PULSE (R193). -/
def execPpsOutPulse (s : State) : Host.Outcome State Fault Refusal :=
  runIf (fun st d => isSender st && d.awake && d.ppsDue)
    (fun _ d => { d with time.ppsHigh := some d.ticks, time.lastPulse := d.ppsInstant }.emit (.ppsOut true)) s

/-- With MODE 0 PPS_OUT is held low: a pulse that runs ends (R193). -/
def Dev.ppsHeld (d : Dev) : Dev :=
  if d.get TIME_PPS_MODE == 0 && d.time.ppsHigh.isSome then { d with time.ppsHigh := none }.emit (.ppsOut false) else d

/-- PPS_OUT_FALL: WIDTH_US after the rise (R193). -/
def execPpsOutFall (s : State) : Host.Outcome State Fault Refusal :=
  runIf (fun st d => isSender st && d.awake &&
      (match d.time.ppsHigh with
       | some t => d.passed t (us (d.get TIME_PPS_WIDTH_US))
       | none => false))
    (fun _ d => { d with time.ppsHigh := none }.emit (.ppsOut false)) s

/-! Probes and surveys (R198, R199). -/

/-- A port's survey. -/
def Dev.survey (d : Dev) (x : Nat) : Survey := nth d.time.surveys x Survey.init

/-- Changes a port's survey. -/
def Dev.modSurvey (x : Nat) (f : Survey → Survey) (d : Dev) : Dev := { d with time.surveys := modAt d.time.surveys x f }

/-- The survey's CMD is in flight: a probe, or the write of a path. -/
def Dev.surveyBusy (d : Dev) (x : Nat) : Bool :=
  d.host.out.any fun o => o.port == x &&
    match o.kind with
    | .survey _ | .pathWrite => true
    | _ => false

/-- The run of probes that a survey of the port has open. -/
def Dev.surveyRun (d : Dev) (x : Nat) : Option ProbeRun :=
  d.host.probes.find? fun r => r.port == x && r.index.isNone

/-- A survey ends when nothing is left to probe: TIME_SURVEY is answered (R199, R208). -/
def Dev.endSurvey (x : Nat) (d : Dev) : Dev :=
  let v := d.survey x
  if !v.todo.isEmpty || d.surveyBusy x || (d.surveyRun x).isSome then d
  else
    let d1 := d.modSurvey x fun v => { v with complete := v.complete || !v.failed, waiter := none }
    match v.waiter with
    | some i => d1.finishDesc 1 i (if v.range then ST_TIME_RANGE else ST_OK) v.written
    | none => d1

/-- A survey of the port starts over its present positions; one that runs is dropped. -/
def Dev.startSurvey (x : Nat) (waiter : Option Nat) (d : Dev) : Dev :=
  let d1 := { d with
    host.probes := d.host.probes.filter fun r => !(r.port == x && r.index.isNone)
    host.out := d.host.out.filter fun o => !(o.port == x &&
      match o.kind with
      | .survey _ | .pathWrite => true
      | _ => false) }
  (d1.modSurvey x fun v =>
    { v with due := none, last := d.ticks, todo := d.presentOn x, written := 0, failed := false, range := false,
             waiter := waiter }).endSurvey x

/-- SURVEY_START: one is asked for, or the last is 1 s old (R199). -/
def execSurveyStart (port : Port) (s : State) : Host.Outcome State Fault Refusal :=
  let x : Nat := port
  runIf (fun st d => isSender st && d.awake && d.transmitting x && d.getb TIME_CTRL_SURVEY_EN &&
      (d.survey x).todo.isEmpty && (d.surveyRun x).isNone && !d.surveyBusy x &&
      ((d.survey x).due.isSome || d.passed (d.survey x).last (secs 1)))
    (fun _ d => d.startSurvey x none) s

/-- A position of a survey fails: TIME_SURVEY_FAIL (R199). -/
def Dev.surveyFail (st : Straps) (x : Nat) (range : Bool) (d : Dev) : Dev :=
  (((d.modSurvey x fun v => { v with failed := true, range := v.range || range }).event st EV_TIME_SURVEY_FAIL 0 0 0)).endSurvey
    x

/-- Sends probe `n` to a position. -/
def Dev.sendProbe (st : Straps) (x pos : Nat) (kind : OutKind) (d : Dev) : Dev :=
  d.sendCmd st x pos kind fun xid => descBody xid CK_DESC (ownDesc 0x0200 (d.wallAddr x pos) 0 0 0)

/-- SURVEY_PROBE: every 10 µs the next probe of a survey is sent (R198, R199). -/
def execSurveyProbe (port : Port) (s : State) : Host.Outcome State Fault Refusal :=
  let x : Nat := port
  runIf (fun st d => isSender st && d.awake && !d.surveyBusy x && d.passed (d.survey x).lastProbe (us 10))
    (fun st d =>
      let d0 := d.modSurvey x fun v => { v with lastProbe := d.ticks }
      match d.surveyRun x with
      | some r => if d.outstanding x r.position < 4 then d0.sendProbe st x r.position (.survey r.done) else d
      | none =>
        match (d.survey x).todo with
        | [] => d
        | q :: rest =>
          if !d.reachable (d.wallAddr x q) then (d0.modSurvey x fun v => { v with todo := rest }).surveyFail st x false
          else if 4 ≤ d.outstanding x q then d
          else
            let run : ProbeRun := { port := x, position := q, index := none, done := 0, sum := 0 }
            ({ d0 with host.probes := d0.host.probes ++ [run] }.modSurvey x fun v => { v with todo := rest }).sendProbe
              st x q (.survey 0)) s

/-- The path of R198 from the sum over four probes; `none` when it saturates. -/
def pathFrom (sum : Int) : Option Nat :=
  let p : Int := rnd sum 11
  if p < 0 || 2 ^ 24 - 1 < p then none else some p.toNat

/-- t4 − t1 − DOWN_RES − TURN − UP_RES of one probe (R198). -/
def probeSpan (o : OutCmd) (k : RxPkt) : Int :=
  let data := rspData k.bytes
  (k.tRx : Int) - o.t1 - leAt data 0 8 - leAt data 8 8 - leAt data 16 8

/-- The run that an answered probe belongs to. -/
def ProbeRun.hit (o : OutCmd) (r : ProbeRun) : Bool :=
  match o.kind with
  | .probe i _ => r.index == some i
  | .survey _ => r.index.isNone && r.port == o.port
  | _ => false

/-- A probe ends with a status, and the span measured (R198, R199). -/
def Dev.probeEnded (st : Straps) (o : OutCmd) (status : Nat) (span : Int) (d : Dev) : Dev :=
  match d.host.probes.find? (ProbeRun.hit o) with
  | none => d
  | some r =>
    let rest := d.host.probes.filter fun k => !k.hit o
    let closed := { d with host.probes := rest }
    if status != ST_OK then
      match r.index with
      | some i => closed.finishDesc 1 i status 0
      | none => closed.surveyFail st r.port false
    else
      let r1 : ProbeRun := { r with done := r.done + 1, sum := r.sum + span }
      if r1.done < 4 then
        let d1 := { d with host.probes := r1 :: rest }
        match r.index with
        | some i => d1.sendProbe st r.port r.position (.probe i r1.done)
        | none => d1
      else
        match r.index, pathFrom r1.sum with
        | some i, some p => closed.finishDesc 1 i ST_OK p
        | some i, none => closed.finishDesc 1 i ST_TIME_RANGE 0
        | none, none => closed.surveyFail st r.port true
        | none, some p =>
          let reg := if d.getb (XPT_CHAIN_END r.port) then TIME_PATH_B else TIME_PATH_A
          closed.sendCmd st r.port r.position .pathWrite fun xid =>
            descBody xid CK_DESC (ownDesc 2 (d.wallAddr r.port r.position) 1 reg (2 ^ 31 + p))

/-- The write of a surveyed path ends (R199). -/
def Dev.pathWritten (st : Straps) (x status : Nat) (d : Dev) : Dev :=
  if status == ST_OK then (d.modSurvey x fun v => { v with written := v.written + 1 }).endSurvey x
  else d.surveyFail st x false

/-! TIME_SET and TIME_ADJ (R188, R192, R208). -/

/-- The clock is disciplined by PTP or PPS: TIME_SET and TIME_ADJ are refused with TIME_BUSY (R208). -/
def Dev.timeBusy (d : Dev) : Bool :=
  (d.get TIME_CTRL_SRC == SRC_PTP && d.get TIME_STAT_SEL < 2) || (d.get TIME_CTRL_SRC == SRC_PPS && d.ppsAlive)

/-- TIME_SET: status, VALUE and the device after it. -/
def Dev.opTimeSet (st : Straps) (desc : List Byte) (d : Dev) : Nat × Nat × Dev :=
  if d.timeBusy then (ST_TIME_BUSY, 0, d)
  else if giga ≤ dData desc 0 then (ST_TIME_RANGE, 0, d)
  else
    let t : Nat := ((dData desc 2 % 65536) * 2 ^ 32 + dData desc 1) * giga + dData desc 0
    let d1 := d.stepTo st ((t : Int) * 2 ^ 32)
    let d2 := d1.set TIME_STAT_STATE (if d.get TIME_CTRL_SRC == SRC_HOST then T_LOCKED else T_HOLDOVER)
    (ST_OK, d2.get TIME_STAT_TEPOCH, d2)

/-- TIME_ADJ: its Δ is added to what a slew has left. -/
def Dev.opTimeAdj (st : Straps) (desc : List Byte) (d : Dev) : Nat × Nat × Dev :=
  if d.timeBusy then (ST_TIME_BUSY, 0, d)
  else (ST_OK, 0, d.correct st (d.time.clk.slewRem + toSigned 32 (dData desc 0) * 2 ^ 32))

end Sys2Proof.Machine
end

