-- ==== Sys2Proof/Machine/Twin.lean ====
section
/-! DEFINITION. Twin senders: epochs, Yo-yo messages and heartbeats, the twin state table, takeovers, demotion, the planned
swap, WITNESS packets at a sender and the management view; a tile's loss of its source (spec/12_twin_redundancy.md R278 to
R300). -/

namespace Sys2Proof.Machine

/-- TWIN_STAT.STATE. -/
def Dev.twinState (d : Dev) : Nat := d.get TWIN_STAT_STATE

/-! Agreement of the inventory with what either sender hears (R299). -/

/-- INV of a position. -/
def Dev.invBit (d : Dev) (x q : Nat) : Bool :=
  if q < 32 then natBit (d.get (TWIN_INV_LO_MAP x)) q else natBit (d.get (TWIN_INV_HI_MAP x)) (q - 32)

/-- Presence of a position as the peer reports it. -/
def Dev.peerBit (d : Dev) (x q : Nat) : Bool :=
  if q < 32 then natBit (d.get (TWIN_PEER_LO_MAP x)) q else natBit (d.get (TWIN_PEER_HI_MAP x)) (q - 32)

/-- A position is reachable when either sender of the pair hears it. -/
def Dev.reach (d : Dev) (x q : Nat) : Bool := d.isPresent x q || d.peerBit x q

/-- STALE of a position. -/
def Dev.staleBit (d : Dev) (x q : Nat) : Bool :=
  if q < 32 then natBit (d.get (TWIN_STALE_LO_MAP x)) q else natBit (d.get (TWIN_STALE_HI_MAP x)) (q - 32)

/-- The device with STALE of a position set or cleared. -/
def Dev.setStale (x q : Nat) (b : Bool) (d : Dev) : Dev :=
  if q < 32 then d.set (TWIN_STALE_LO_MAP x) (natSetBit (d.get (TWIN_STALE_LO_MAP x)) q b)
  else d.set (TWIN_STALE_HI_MAP x) (natSetBit (d.get (TWIN_STALE_HI_MAP x)) (q - 32) b)

/-- A position's agreement is looked at again: how long it has been out, and STALE clears when it is back. -/
def Dev.noteAgreement (x q : Nat) (d : Dev) : Dev :=
  let hit (e : Nat × Nat × Nat) : Bool := e.1 == x && e.2.1 == q
  if d.invBit x q == d.reach x q then
    { d.setStale x q false with twin.stale := d.twin.stale.filter fun e => !hit e }
  else if d.twin.stale.any hit then d
  else { d with twin.stale := d.twin.stale ++ [(x, q, d.ticks)] }

/-- Every position of every port. -/
def Dev.noteAgreements (d : Dev) : Dev :=
  d.each allPorts fun d x => d.each (List.range 64) fun d q => d.noteAgreement x q

/-- PRESENCE_TIMEOUT: no WITNESS of a position for 3 ms (R175). -/
def execPresenceTimeout (port : Port) (position : Fin 64) (s : State) : Host.Outcome State Fault Refusal :=
  let x : Nat := port
  let q : Nat := position
  runIf (fun st d => isSender st && d.awake && (d.port x).present.any fun e => e.1 == q && decide (e.2 + ms 3 ≤ d.ticks))
    (fun _ d => (d.modPort x fun p => { p with present := p.present.filter fun e => e.1 != q }).noteAgreement x q) s

/-- STALE_TIMEOUT: a position out of agreement for 100 ms (R299). -/
def execStaleTimeout (port : Port) (position : Fin 64) (s : State) : Host.Outcome State Fault Refusal :=
  let x : Nat := port
  let q : Nat := position
  runIf (fun st d => isSender st && d.awake && !d.staleBit x q && d.invBit x q != d.reach x q &&
      d.twin.stale.any fun e => e.1 == x && e.2.1 == q && d.passed e.2.2 (ms 100))
    (fun st d => ((d.setStale x q true).event st EV_TWIN_RECONCILE x q (b2n (d.invBit x q) + 2 * b2n (d.reach x q))).raise
      IRQ_TWIN) s

/-! SYNCED (R289). -/

/-- The peer has present positions on a port. -/
def Dev.peerHas (d : Dev) (x : Nat) : Bool := d.getb (TWIN_PEER_LO_MAP x) || d.getb (TWIN_PEER_HI_MAP x)

/-- Whether the conditions of SYNCED hold. -/
def Dev.syncedNow (d : Dev) : Bool :=
  d.twinState == W_STANDBY && d.getb TWIN_STAT_YOYO_OK && d.twin.steps.all id &&
  allPorts.all fun x => d.portMode x != M_LISTEN || !d.peerHas x || d.rxUp x

/-- SYNCED is looked at again; a change raises cause TWIN, and goes out in a message at once (R283). -/
def Dev.updateSync (d : Dev) : Dev :=
  let new := d.syncedNow
  if d.getb TWIN_STAT_SYNCED == new then d
  else { d.setb TWIN_STAT_SYNCED new with
    twin.syncedSince := if new then some d.ticks else none
    twin.sendNow := true }.raise IRQ_TWIN

/-! States and modes (R287, R290). -/

/-- The sender enters a twin state. -/
def Dev.enterTwin (s : Nat) (d : Dev) : Dev :=
  if d.twinState == s then d
  else
    { d.set TWIN_STAT_STATE s with
      twin.since := d.ticks
      twin.sendNow := true
      twin.peerSinceStandby := false
      twin.steps := []
      twin.lastPeerFrame := none }.raise IRQ_TWIN

/-- A port takes a mode. With EN the twin logic sets its TXIDLE; a port that leaves FEED discards its frame packets (R286).
`t` is the wall time from which it feeds (R287, R288). -/
def Dev.setMode (st : Straps) (x m t : Nat) (d : Dev) : Dev :=
  if d.portMode x == m then d
  else
    let w := d.get TWIN_STAT_MODES
    let d1 := (d.set TWIN_STAT_MODES (w - d.portMode x * 4 ^ x + m * 4 ^ x)).raise IRQ_TWIN
    let d2 := if m == M_FEED then { d1 with twin.sendNow := true, twin.feedAt := setAt d1.twin.feedAt x t }
      else { d1 with twin.sendNow := true }.stopFeeding x
    if !d.twin.en then d2
    else if m == M_LISTEN then d2.opTxidleSet st x
    else if d.portMode x == M_LISTEN then d2.opTxidleClear st x
    else d2

/-- Every port takes a mode. -/
def Dev.setModes (st : Straps) (m t : Nat) (d : Dev) : Dev := d.each allPorts fun d x => d.setMode st x m t

/-- A WITNESS names a source other than this sender: the one that feeds from the other end. -/
def WitRec.names (d : Dev) (w : WitRec) : Bool := w.valid && w.tail != d.getb (XPT_CHAIN_END w.port)

/-- The WITNESSes of the last `n` ticks. -/
def Dev.witsIn (d : Dev) (n : Nat) : List WitRec := d.twin.wits.filter fun w => decide (d.ticks < w.tick + n)

/-- The highest of a list, with a floor. -/
def maxOf (l : List Nat) (floor : Nat) : Nat := l.foldl max floor

/-- Emax (R279). -/
def Dev.epochMax (d : Dev) : Nat :=
  maxOf ((d.witsIn (ms 10)).map WitRec.epoch ++ [d.get TWIN_PEER_EPOCH_EPOCH, d.savedEpoch]) (d.get TWIN_EPOCH_EPOCH)

/-- The sender becomes ACTIVE with a new epoch, and every port feeds from a wall time on (R279, R287). -/
def Dev.becomeActive (st : Straps) (t : Nat) (d : Dev) : Dev :=
  let e := (d.epochMax + 1) % 2 ^ 32
  ((((d.set TWIN_EPOCH_EPOCH e).saveEpoch e).enterTwin W_ACTIVE).setModes st M_FEED t).updateSync

/-- A standby's epoch: the peer's latest minus 1, before any message that of the WITNESSes, else as before (R279). -/
def Dev.standbyEpoch (d : Dev) : Dev :=
  if d.twinState != W_STANDBY then d
  else if d.twin.peerSinceStandby then d.set TWIN_EPOCH_EPOCH (d.get TWIN_PEER_EPOCH_EPOCH - 1)
  else
    match ((d.witsIn (ms 10)).filter fun w => w.names d).map WitRec.epoch with
    | [] => d
    | e :: es => d.set TWIN_EPOCH_EPOCH (maxOf es e - 1)

/-- The sender becomes STANDBY, every port in LISTEN. `heard` says that a Yo-yo message brings it there. -/
def Dev.becomeStandby (st : Straps) (heard : Bool) (d : Dev) : Dev :=
  let d1 := d.enterTwin W_STANDBY
  ((({ d1 with twin.peerSinceStandby := heard }).setModes st M_LISTEN 0).standbyEpoch).updateSync

/-- Entry to INIT: EN is read; without it the sender is ACTIVE at once (R290, R403). With it the twin logic owns TXIDLE, which
is 1 on the ports in LISTEN (R287). -/
def Dev.enterInit (st : Straps) (d : Dev) : Dev :=
  let d1 := { d with twin.en := d.getb TWIN_CTRL_EN, twin.since := d.ticks }
  if d1.twin.en then d1.each (allPorts.filter fun x => d1.portMode x == M_LISTEN) fun d x => d.opTxidleSet st x
  else d1.becomeActive st d.now

/-! Heartbeats (R285). -/

/-- The tick from which the absence of the peer's heartbeat on a port is counted. -/
def Dev.hbFrom (d : Dev) (x : Nat) : Nat :=
  let t := max d.twin.since (nth d.twin.rxUpAt x 0)
  match nth d.twin.lastHb x none with
  | some h => max t h
  | none => t

/-- The peer heartbeat is absent on a port. -/
def Dev.hbAbsent (d : Dev) (x : Nat) : Bool := d.passed (d.hbFrom x) (us 2500)

/-- The period of heartbeats and Yo-yo messages, less its tolerance. -/
def beatPeriod : Nat := us 990

/-- STATE of a Yo-yo message and a HEARTBEAT (R283). -/
def stateByte (st : Straps) (d : Dev) : Nat :=
  d.twinState + 4 * b2n st.twinPri + 8 * d.get TWIN_CTRL_PREFERRED + 16 * d.get TWIN_STAT_SYNCED

/-- The body of a HEARTBEAT. -/
def heartbeatBody (st : Straps) (d : Dev) (x : Nat) : List Byte :=
  let p := d.port x
  leBytes (p.lastLaunch % giga) 4 ++ leBytes (p.lastLaunch / giga) 8 ++ leBytes (stateByte st d) 1 ++
  leBytes (d.portMode x) 1 ++ leBytes p.hseq 2

/-- HEARTBEAT_SEND (R285). -/
def execHeartbeatSend (port : Port) (s : State) : Host.Outcome State Fault Refusal :=
  let x : Nat := port
  runIf (fun st d => isSender st && d.awake && d.portMode x != M_LISTEN && d.passed (d.port x).lastHbSent beatPeriod)
    (fun st d =>
      let pkt := senderPkt st d x PT_HEARTBEAT false false 0 0 (heartbeatBody st d x)
      (d.modPort x fun p => { p with lastHbSent := d.ticks, hseq := (p.hseq + 1) % 65536 }).queueTx st x TQ_HEARTBEAT
        (.bytes pkt none false)) s

/-- HEARTBEAT_RECEIVE (R285, R290). -/
def execHeartbeatReceive (s : State) : Host.Outcome State Fault Refusal :=
  runSender (fun _ d => d.onRx (fun k => pktType k.bytes == PT_HEARTBEAT) fun k d =>
    let x := k.port
    let kept := match nth d.twin.lastHb x none with
      | some t => !d.passed t (us 2500)
      | none => false
    { d with
      twin.lastHb := setAt d.twin.lastHb x (some d.ticks)
      twin.hbSince := if kept then d.twin.hbSince else setAt d.twin.hbSince x (some d.ticks) }) s

/-! Takeovers (R290 to R294). -/

/-- TWIN_LINK_LOST is recorded. -/
def Dev.linkLost (st : Straps) (d : Dev) : Dev := (d.set TWIN_STAT_LINK_LOST_SEEN 1).event st EV_TWIN_LINK_LOST 0 0 0

/-- A standby with Yo-yo lost and no peer heartbeat anywhere takes over (R292). -/
def Dev.takeover (st : Straps) (d : Dev) : Dev :=
  let peer := d.get TWIN_PEER_EPOCH_EPOCH
  let d1 := (d.set TWIN_STAT_TAKEOVER_SEEN 1).becomeActive st d.now
  d1.event st EV_TWIN_TAKEOVER (d1.get TWIN_EPOCH_EPOCH) peer 0

/-- The conditions of a takeover. -/
def Dev.takesOver (d : Dev) : Bool :=
  d.twinState == W_STANDBY && !d.getb TWIN_STAT_YOYO_OK && allPorts.all fun x => d.hbAbsent x

/-- PEER_HEARTBEAT_ABSENT: a takeover, or a partial takeover of the port (R285, R290, R294). -/
def execPeerHeartbeatAbsent (port : Port) (s : State) : Host.Outcome State Fault Refusal :=
  let x : Nat := port
  runIf (fun st d => isSender st && d.awake && d.twinState == W_STANDBY && d.hbAbsent x)
    (fun st d =>
      if d.takesOver then d.takeover st
      else if d.getb TWIN_STAT_YOYO_OK && d.portMode x == M_LISTEN && d.rxUp x then
        ((d.set TWIN_STAT_PARTIAL_SEEN 1).setMode st x M_FEED d.now).event st EV_TWIN_PARTIAL x (d.get TWIN_EPOCH_EPOCH) 0
      else d) s

/-- The peer's heartbeat has come on a port for 100 ms without a gap over 2.5 ms. -/
def Dev.hbSteady (d : Dev) (x : Nat) : Bool :=
  match nth d.twin.lastHb x none, nth d.twin.hbSince x none with
  | some h, some t => !d.passed h (us 2500) && d.passed t (ms 100)
  | _, _ => false

/-- PEER_HEARTBEAT_RESUMED (R290). -/
def execPeerHeartbeatResumed (port : Port) (s : State) : Host.Outcome State Fault Refusal :=
  let x : Nat := port
  runIf (fun st d => isSender st && d.awake && d.twinState == W_STANDBY && d.portMode x == M_FEED && d.hbSteady x)
    (fun st d => ((d.setMode st x M_LISTEN 0).event st EV_TWIN_PARTIAL_END x (d.get TWIN_EPOCH_EPOCH) 0).updateSync) s

/-- 100 ms have passed in INIT since HIF_STAT.READY was set. -/
def Dev.decided (d : Dev) : Bool :=
  match d.twin.readyAt with
  | some t => d.passed (max t d.twin.since) (ms 100)
  | none => false

/-- STATE and PRI of the peer's latest message. -/
def Dev.peerState (d : Dev) : Nat × Bool :=
  match d.twin.peer with
  | some m => (natBits (byteAt m 1) 0 2, natBit (byteAt m 1) 2)
  | none => (W_INIT, false)

/-- What a sender in INIT becomes once it has decided (R290). -/
def Dev.decideInit (st : Straps) (d : Dev) : Dev :=
  if d.getb TWIN_STAT_YOYO_OK then
    let (s, pri) := d.peerState
    if s == W_ACTIVE then d.becomeStandby st false
    else if s == W_STANDBY then d.becomeActive st d.now
    else if st.twinPri == pri then
      let d1 := d.event st EV_TWIN_PRI_CONFLICT 0 0 0
      if allPorts.all fun x => !d.getb (XPT_CHAIN_END x) then d1.becomeActive st d.now else d1.becomeStandby st false
    else if st.twinPri then d.becomeActive st d.now
    else d.becomeStandby st false
  else if (d.witsIn (ms 10)).any fun w => w.names d then (d.linkLost st).becomeStandby st false
  else d.becomeActive st d.now

/-- TWIN_INIT_DECIDED (R290). -/
def execTwinInitDecided (s : State) : Host.Outcome State Fault Refusal :=
  runIf (fun st d => isSender st && d.awake && d.twinState == W_INIT && d.boot.started && (d.decided || !d.twin.en))
    (fun st d => if d.twin.en then d.decideInit st else d.becomeActive st d.now) s

/-- The window of R291, in ticks. -/
def Dev.rejectWindow (d : Dev) : Nat :=
  let m := d.get RING_FLIP_MODE_CUR
  if m == 0xFF then ms 2 else max (ms 2) ((2 * periodCeil m + 3) / 4)

/-- The sender's frames are rejected on a port (R291). -/
def Dev.rejectedOn (d : Dev) (x : Nat) : Bool :=
  let w := d.rejectWindow
  let ws := (d.witsIn w).filter fun k => k.port == x
  d.passed (max d.twin.since (nth d.twin.ls0At x 0)) (ms 2 + w) && !ws.isEmpty && ws.all fun k => k.names d

/-- The sender demotes: its frames are rejected on every port that reported, and on one at least (R291). -/
def Dev.demotes (d : Dev) : Bool :=
  let ports := allPorts.filter fun x => (d.witsIn d.rejectWindow).any fun k => k.port == x
  !ports.isEmpty && ports.all fun x => d.rejectedOn x

/-- FRAMES_REJECTED (R291, R295). -/
def execFramesRejected (s : State) : Host.Outcome State Fault Refusal :=
  runIf (fun st d => isSender st && d.awake && d.twinState == W_ACTIVE && d.demotes)
    (fun st d =>
      let e := maxOf ((d.witsIn d.rejectWindow).map WitRec.epoch) 0
      ((d.set TWIN_STAT_DEMOTE_SEEN 1).event st EV_TWIN_DEMOTE (d.get TWIN_EPOCH_EPOCH) e 0).becomeStandby st false) s

/-! The planned swap (R296 to R298). -/

/-- Step 2 of R297 allows P_s. -/
def Dev.swapAllowed (d : Dev) (ps : Nat) : Bool := decide (d.now + 200000000 + d.swapLead ≤ ps)

/-- The first grid instant at or after a time; any later instant without a canvas mode in force. -/
def Dev.swapGrid (d : Dev) (t : Nat) : Nat × Dev :=
  let m := d.get RING_FLIP_MODE_CUR
  if m == 0xFF then
    let (r, d1) := d.draw giga
    (t + r, d1)
  else (gridFrom m t, d)

/-- The standby asks for a swap (step 1). -/
def Dev.startSwap (ps : Nat) (index : Option Nat) (d : Dev) : Dev :=
  { d.set TWIN_STAT_SWAP_PEND 1 with
    twin.swap := some { ps := ps, mine := true, acked := false, checked := false, done := false, index := index }
    twin.req := 1
    twin.sendNow := true }

/-- A swap ends; TWIN_SWAP is answered. -/
def Dev.endSwap (status value : Nat) (d : Dev) : Dev :=
  match d.twin.swap with
  | none => d
  | some w =>
    let d1 := { d.set TWIN_STAT_SWAP_PEND 0 with twin.swap := none }
    match w.index with
    | some i => d1.finishDesc 1 i status value
    | none => d1

/-- A swap is refused, or Yo-yo is lost before the ACK. -/
def Dev.refuseSwap (d : Dev) : Dev :=
  { d.endSwap ST_TWIN_REFUSED 0 with twin.req := 0, twin.sendNow := true, twin.retryAt := d.ticks }

/-- The TWIN_SWAP command at a sender: it waits for the swap's end, or completes with the status given (R300). -/
def Dev.opTwinSwap (desc : List Byte) (index : Nat) (d : Dev) : Option Nat × Dev :=
  if !d.twin.en || d.twinState != W_STANDBY then (some ST_TWIN_STATE, d)
  else if !d.getb TWIN_STAT_SYNCED then (some ST_TWIN_NOT_SYNCED, d)
  else if d.twin.swap.isSome then (some ST_TWIN_REFUSED, d)
  else
    let t := ((dData desc 2 % 65536) * 2 ^ 32 + dData desc 1) * giga + natBits (dData desc 0) 0 30
    if t != 0 && d.swapAllowed t then (none, d.startSwap t (some index))
    else
      let (ps, d1) := d.swapGrid (d.now + 200000000 + d.swapLead)
      (none, d1.startSwap ps (some index))

/-- SWAP_RECLAIM_START (R296). -/
def execSwapReclaimStart (s : State) : Host.Outcome State Fault Refusal :=
  runIf (fun st d => isSender st && d.awake && d.twin.en && d.twinState == W_STANDBY && d.getb TWIN_CTRL_PREFERRED &&
      d.getb TWIN_STAT_SYNCED && d.twin.swap.isNone &&
      (match d.twin.syncedSince with
       | some t => d.passed (max t d.twin.retryAt) (secs (d.get TWIN_CTRL_HOLD_S))
       | none => false))
    (fun _ d =>
      let (ps, d1) := d.swapGrid (d.now + giga)
      d1.startSwap ps none) s

/-- REQ of the peer's message is acted on (R297, R298). -/
def Dev.takeReq (st : Straps) (req ps : Nat) (d : Dev) : Dev :=
  match req with
  | 1 =>
    if d.twin.req == 2 || d.twin.req == 3 then d
    else if d.twinState == W_ACTIVE && d.swapAllowed ps then
      { d.set TWIN_STAT_SWAP_PEND 1 with
        twin.swap := some { ps := ps, mine := false, acked := true, checked := true, done := false, index := none }
        twin.req := 2
        twin.sendNow := true }
    else { d with twin.req := 3, twin.sendNow := true }
  | 2 =>
    match d.twin.swap with
    | some w =>
      if w.mine && !w.acked then
        let d1 := { d with twin.swap := some { w with acked := true }, twin.req := 0, twin.sendNow := true }
        d1.each (allPorts.filter fun x => d.peerHas x) fun d x => d.setMode st x M_PRIME 0
      else d
    | none => d
  | 3 =>
    match d.twin.swap with
    | some w => if w.mine && !w.acked then d.refuseSwap else d
    | none => d
  | r =>
    let d1 := if d.twin.req == 2 || d.twin.req == 3 then { d with twin.req := 0, twin.sendNow := true } else d
    match d.twin.swap with
    | some w => if r == 4 && !w.mine && !w.done then d1.endSwap ST_OK 0 else d1
    | none => d1

/-- Ports that the check of step 5 finds out of LS0, and not surveyed. -/
def Dev.swapFaults (d : Dev) : Nat × Nat :=
  let primed := allPorts.filter fun x => d.portMode x == M_PRIME
  (((primed.filter fun x => d.pstate x != P_LS0).map fun x => 2 ^ x).sum,
   ((primed.filter fun x => !(d.survey x).complete).map fun x => 2 ^ x).sum)

/-- The check of step 5: the swap stands as checked, or is abandoned (R298). -/
def Dev.checkSwap (st : Straps) (w : Swap) (d : Dev) : Dev :=
  let f := d.swapFaults
  let v := f.1 + 16 * f.2
  if v == 0 then { d with twin.swap := some { w with checked := true } }
  else
    let d1 := d.each (allPorts.filter fun x => d.portMode x == M_PRIME) fun d x => d.setMode st x M_LISTEN 0
    { (d1.event st EV_TWIN_SWAP_FAIL v 0 0).endSwap ST_TWIN_SWAP_FAIL v with
      twin.req := 4, twin.sendNow := true, twin.retryAt := d.ticks }

/-- SWAP_CHECK: step 5 at P_s − L − 50 ms (R297, R298). -/
def execSwapCheck (s : State) : Host.Outcome State Fault Refusal :=
  runSender (fun st d =>
    match d.twin.swap with
    | none => d
    | some w =>
      if !w.mine || !w.acked || w.checked || w.done || d.now + d.swapLead + 50000000 < w.ps then d else d.checkSwap st w) s

/-- Step 6 of an acknowledged swap: the standby becomes ACTIVE, the active STANDBY with its ports in PRIME (R297). -/
def Dev.performSwap (st : Straps) (w : Swap) (d : Dev) : Dev :=
  let d1 := { d with twin.swap := some { w with done := true }, twin.namedSince := [none, none, none, none] }
  if w.mine then (if d.twinState == W_STANDBY then d1.becomeActive st (w.ps - d.swapLead) else d1)
  else if d.twinState == W_ACTIVE then ((d1.enterTwin W_STANDBY).setModes st M_PRIME 0).updateSync
  else d1

/-- SWAP_INSTANT: step 6 at P_s − L, after the check of step 5 (R297, R298). -/
def execSwapInstant (s : State) : Host.Outcome State Fault Refusal :=
  runSender (fun st d =>
    match d.twin.swap with
    | none => d
    | some w =>
      if w.done || d.now + d.swapLead < w.ps then d
      else if !w.acked then d.refuseSwap
      else if w.checked || d.swapFaults == (0, 0) then d.performSwap st { w with checked := true }
      else d.checkSwap st w) s

/-- SWAP_PORT_RELEASE: step 8 (R297). -/
def execSwapPortRelease (port : Port) (s : State) : Host.Outcome State Fault Refusal :=
  let x : Nat := port
  runIf (fun st d => isSender st && d.awake && d.twinState == W_STANDBY && d.portMode x == M_PRIME &&
      !(d.twin.swap.any fun w => w.mine) &&
      (match nth d.twin.namedSince x none with
       | some t => d.passed t (ms 2)
       | none => false))
    (fun st d => (d.setMode st x M_LISTEN 0).updateSync) s

/-- TWIN_SWAP_DONE: step 9 at P_s (R297, R300). -/
def execTwinSwapDone (s : State) : Host.Outcome State Fault Refusal :=
  runIf (fun st d => isSender st && d.awake && d.twin.swap.any fun w => w.done && decide (w.ps ≤ d.now))
    (fun _ d => d.endSwap ST_OK (d.get TWIN_EPOCH_EPOCH)) s

/-! Yo-yo (R283, R284). -/

/-- A Yo-yo message. -/
def yoyoBytes (st : Straps) (d : Dev) : List Byte :=
  let ps := match d.twin.swap with
    | some w => w.ps
    | none => 0
  let (last, tag) := match d.host.lastLaunch with
    | some e => e
    | none => (0, 0)
  let m := leBytes 1 1 ++ leBytes (stateByte st d) 1 ++ leBytes (d.get TWIN_STAT_MODES) 1 ++ leBytes d.twin.req 1 ++
    leBytes (d.get TWIN_EPOCH_EPOCH) 4 ++ leBytes d.twin.yseq 2 ++ leBytes (d.get XPT_CTRL_PAIR) 1 ++ zeros 1 ++
    leBytes (ps % giga) 4 ++ leBytes (ps / giga) 8 ++ leBytes (last % giga) 4 ++ leBytes (last / giga) 8 ++
    leBytes tag 4 ++ allPorts.flatMap fun x => leBytes (d.presentMap x) 8
  twinMsg m

/-- YOYO_SEND: every 1 ms, and at once on a change; an ABORT is sent once (R283). The twin port's transmitter is idle until
firmware runs (R428). -/
def execYoyoSend (s : State) : Host.Outcome State Fault Refusal :=
  runIf (fun st d => isSender st && d.awake && d.boot.started && (d.twin.sendNow || d.passed d.twin.lastSent beatPeriod))
    (fun st d =>
      let again := d.twin.req == 4
      { d.emit (.yoyo (yoyoBytes st d)) with
        twin.yseq := (d.twin.yseq + 1) % 65536, twin.lastSent := d.ticks, twin.sendNow := again,
        twin.req := if again then 0 else d.twin.req }) s

/-- A valid message of the own pair is taken; after 2.5 ms without one Yo-yo is lost, and the run of R284 starts again. -/
def Dev.takeYoyo (st : Straps) (m : List Byte) (d : Dev) : Dev :=
  let d0 := { d with
    twin.peer := some m, twin.lastYoyo := d.ticks, twin.mismatchRecorded := false, twin.peerSinceStandby := true,
    twin.yoyoRun := if d.passed d.twin.lastYoyo (us 2500) then 1 else d.twin.yoyoRun + 1 }
  let d1 := (d0.set TWIN_PEER_EPOCH_EPOCH (leAt m 4 4)).each allPorts fun d x =>
    d.setAll [(TWIN_PEER_LO_MAP x, leAt m (40 + 8 * x) 4), (TWIN_PEER_HI_MAP x, leAt m (44 + 8 * x) 4)]
  let d2 := if d.twinState == W_INIT && natBits (byteAt m 1) 0 2 == W_ACTIVE then d1.becomeStandby st true
    else d1.standbyEpoch
  let ps := natBits (leAt m 16 8) 0 48 * giga + natBits (leAt m 12 4) 0 30
  ((d2.takeReq st (byteAt m 3) ps).noteAgreements).updateSync

/-- YOYO_RECEIVE (R283). -/
def execYoyoReceive (bytes : List Byte) (s : State) : Host.Outcome State Fault Refusal :=
  runIf (fun st d => isSender st && d.awake && d.twin.en && twinOk bytes 1 76)
    (fun st d =>
      let pair := natBits (byteAt bytes 10) 0 4
      if pair != d.get XPT_CTRL_PAIR then
        { d.eventIf st (!d.twin.mismatchRecorded) EV_TWIN_PAIR_MISMATCH pair (d.get XPT_CTRL_PAIR) 0 with
          twin.mismatchRecorded := true }
      else d.takeYoyo st bytes) s

/-- YOYO_LOST: 2.5 ms without a valid message (R284, R290, R300, R392). -/
def execYoyoLost (s : State) : Host.Outcome State Fault Refusal :=
  runIf (fun st d => isSender st && d.awake && d.getb TWIN_STAT_YOYO_OK && d.passed d.twin.lastYoyo (us 2500))
    (fun st d =>
      let d1 := ({ d.set TWIN_STAT_YOYO_OK 0 with twin.yoyoRun := 0 }.raise IRQ_TWIN).abortTwinOut st
      let d2 := if d1.twin.swap.any fun w => w.mine && !w.acked then d1.refuseSwap else d1
      let d3 := if d2.takesOver then d2.takeover st
        else if d2.twinState == W_INIT then d2
        else d2.linkLost st
      d3.updateSync) s

/-- YOYO_REGAINED: three consecutive valid messages (R284). -/
def execYoyoRegained (s : State) : Host.Outcome State Fault Refusal :=
  runIf (fun st d => isSender st && d.awake && !d.getb TWIN_STAT_YOYO_OK && 3 ≤ d.twin.yoyoRun &&
      !d.passed d.twin.lastYoyo (us 2500))
    (fun _ d => (({ d.set TWIN_STAT_YOYO_OK 1 with twin.mismatchRecorded := false }).raise IRQ_TWIN).updateSync) s

/-! The peer's frames (R289). -/

/-- SENDER_FLIP_HDR_RECEIVE: a standby compares the peer's FLIP-HDR with the flips that it accepted, once for each frame
(R289). -/
def execSenderFlipHdrReceive (s : State) : Host.Outcome State Fault Refusal :=
  runSender (fun st d => d.onRx (fun k => pktType k.bytes == PT_FLIP_HDR) fun k d =>
    let h := pktBody k.bytes
    if d.twinState != W_STANDBY || d.twin.lastPeerFrame == some (pktFrame k.bytes) then d
    else
      let p := hdrPresent h
      let ok := d.twin.accepted.contains (p, leAt h 24 4, byteAt h 1)
      let d1 := { d with
        twin.lastPeerFrame := some (pktFrame k.bytes)
        twin.steps := (ok :: d.twin.steps).take 8 }
      let d2 := if ok then d1
        else (d1.addSat TWIN_SYNC_MISMATCH 1).event st EV_TWIN_OUT_OF_STEP (p % giga) (p / giga) 0
      d2.updateSync) s

/-! WITNESS packets at a sender (R175, R358). -/

/-- SEC_MFST of a position is read, when a CMD can be sent (R358). -/
def Dev.askManifest (st : Straps) (x q : Nat) (d : Dev) : Dev :=
  let asked := d.host.out.any fun o => o.port == x && o.position == q && o.kind == OutKind.mixedCheck
  if !d.sec.unread.contains (x, q) || asked || 4 ≤ d.outstanding x q || !d.reachable (d.wallAddr x q) then d
  else
    d.sendCmd st x q .mixedCheck fun xid => descBody xid CK_DESC (ownDesc 1 (d.wallAddr x q) 1 SEC_MFST 0)

/-- The acceptance that a WITNESS reports is kept for R279, R291 and R297. -/
def Dev.noteWitness (k : RxPkt) (d : Dev) : Dev :=
  let b := pktBody k.bytes
  let f := byteAt b 4
  let w : WitRec := { port := k.port, position := posOf (pktSrcAddr k.bytes), unasg := pktUnasg k.bytes, epoch := leAt b 0 4,
                      pri := natBit f 0, tail := natBit f 1, valid := natBit f 2, tick := d.ticks }
  let since := if w.names d then
      match nth d.twin.namedSince k.port none with
      | some t => some t
      | none => some d.ticks
    else none
  { d with
    twin.wits := (d.twin.wits.filter fun v => !d.passed v.tick (ms 100)) ++ [w]
    twin.namedSince := setAt d.twin.namedSince k.port since }

/-- A position's own activation is past, its pause included (R357, R358). -/
def Dev.activated (d : Dev) (x q : Nat) : Bool :=
  d.sec.recheck.any fun e => e.1 == x && e.2.1 == q && decide (e.2.2 + 250000000 ≤ d.now)

/-- A position is heard (R175); one that was not present, or has been activated by itself, has its manifest read (R358). -/
def Dev.notePresent (st : Straps) (x q : Nat) (d : Dev) : Dev :=
  let fresh := !d.isPresent x q || d.activated x q
  let d1 := { d.modPort x fun p => { p with present := (q, d.ticks) :: p.present.filter fun e => e.1 != q } with
    sec.recheck := if d.activated x q then d.sec.recheck.filter fun e => !(e.1 == x && e.2.1 == q) else d.sec.recheck }
  let d2 := if fresh && !d1.sec.unread.contains (x, q) then { d1 with sec.unread := d1.sec.unread ++ [(x, q)] } else d1
  (d2.noteAgreement x q).askManifest st x q

/-- WITNESS_RECEIVE (R174, R175, R279, R294). -/
def execWitnessReceive (s : State) : Host.Outcome State Fault Refusal :=
  runSender (fun st d => d.onRx (fun k => pktType k.bytes == PT_WITNESS) fun k d =>
    let x := k.port
    let viaB := natBit (byteAt (pktBody k.bytes) 4) 3
    let d1 := (d.setAll [(XPT_CHAIN_END x, b2n viaB), (XPT_CHAIN_END_VALID x, 1)]).noteWitness k
    let d2 := d1.standbyEpoch
    if pktUnasg k.bytes then
      if !viaB || d.portMode x == M_FEED then d2.modPort x fun p => { p with unasgSeen := some d.ticks } else d2
    else if pktSrcAddr k.bytes / 64 == 4 * d.get XPT_CTRL_PAIR + x then d2.notePresent st x (posOf (pktSrcAddr k.bytes))
    else d2) s

/-- SOURCE_HEARD_TIMEOUT: a tile's accepted source has not been heard for 3 ms (R280). -/
def execSourceHeardTimeout (s : State) : Host.Outcome State Fault Refusal :=
  runTile (fun st d => d.loseSource st) s

end Sys2Proof.Machine
end

