-- ==== Sys2Proof/Machine/Reset.lean ====
section
/-! DEFINITION. What a reset clears and keeps, the ALERT_N output, and the entry into a warm reset
(spec/17_power_reset_dormant.md R398 to R400, R405, R416; spec/16_recorder_crc_mailbox.md R389; spec/13_thermal.md R310). -/

namespace Sys2Proof.Machine

/-! ALERT_N (R416). -/

/-- This device drives ALERT_N low. -/
def Dev.alertLow (d : Dev) : Bool :=
  (d.getb THM_STAT_WARN && d.getb THM_CTRL_ALERT_EN) || d.getb AON_STAT_OTEMP || d.getb GEN_CTRL_ALERT_FW

/-- An effect, with ALERT_N following it. -/
def Dev.withAlert (f : Dev → Dev) (d : Dev) : Dev :=
  let d1 := f d
  if d1.alertLow == d.alertLow then d1 else d1.emit (.alertN d1.alertLow)

/-! Resets (R398). -/

/-- Whether an address lies in the AON block. -/
def inAon (a : Nat) : Bool := a / 0x10000 == 0x12

/-- What a reset of each kind keeps of the register file (R10, R398). -/
def keepsWarm (a : Nat) (acc : Access) : Bool := inAon a || acc == Access.rws
def keepsCold (a : Nat) (_acc : Access) : Bool := inAon a
def keepsNone (_a : Nat) (_acc : Access) : Bool := false

/-- The reset values that depend on the role, outside the AON block (R150, R185). -/
def Dev.roleResets (st : Straps) (d : Dev) : Dev :=
  match st.role with
  | .tile => d.setAll [(LANE_CTRL_EN 0, 1), (LANE_CTRL_EN 1, 1), (LANE_CTRL_TXONLY_EN 1, 1)]
  | .sender =>
    (d.each allPorts fun d x => d.setAll [(LANE_CTRL_EN x, 1), (LANE_CTRL_TXIDLE x, 1)]).set XPT_CTRL_AUTO_ENUM 1

/-- The reset values that depend on the role in the AON block (R419). -/
def Dev.aonResets (st : Straps) (d : Dev) : Dev :=
  if isSender st then d.setAll [(AON_CTRL_JACK_EN, 0), (AON_CTRL_RPT_EN, 0)] else d

/-- A lane after a reset: the scrambler states are never reset, the precoder's only by training (R122), and the saved taps
stay where the reset keeps them (R148). -/
def LaneSt.afterReset (taps : Bool) (l : LaneSt) : LaneSt :=
  let r := { LaneSt.init with txScr := l.txScr, txPrev := l.txPrev, rxScr := l.rxScr, rxPrev := l.rxPrev }
  if taps then { r with saved := l.saved, savedAt := l.savedAt } else r

/-- The ports after a reset. -/
def Dev.portsAfter (taps : Bool) (d : Dev) : List PortSt :=
  d.ports.map fun p => { PortSt.init with lanes := p.lanes.map (LaneSt.afterReset taps) }

/-- The clock after a reset: FREE, at 0 or kept where the always-on domain keeps it; the tick count goes on. -/
def Clock.afterReset (c : Clock) (kept : Bool) : Clock :=
  if kept then { Clock.init with sec := c.sec, ns := c.ns, frac := c.frac, res := c.res, ticks := c.ticks, lastTime := c.ticks }
  else { Clock.init with ticks := c.ticks, lastTime := c.ticks }

/-- The tick at which DRIVE_EN was last 1. -/
def Dev.lastDriven (d : Dev) : Option Nat := if d.getb LDRV_CTRL_DRIVE_EN then some d.ticks else d.cal.driveOnAt

/-- The device with everything cleared that a reset does not keep. `regs` says what stays of the register file, `taps`
whether the saved taps stay, `clock` whether the clock does. -/
def Dev.cleared (st : Straps) (regs : Nat → Access → Bool) (taps clock : Bool) (d : Dev) : Dev :=
  let cut := d.cutLoader
  let d1 : Dev :=
    { Dev.init with
      regs := resetRegs (fun a acc => !regs a acc) d.regs
      time := { TimeSt.init with clk := d.time.clk.afterReset clock }
      ports := d.portsAfter taps
      nvm := cut.nvm
      cal := { CalSt.init with driveOnAt := d.lastDriven }
      rcd := { RecSt.init with slots := d.rcd.slots, checks := d.rcd.checks, next := d.rcd.next }
      aon := d.aon
      boot := { BootSt.init with
        power := d.boot.power, kickAt := d.ticks, shut := d.boot.shut,
        shutReport := d.boot.shutReport, trst := d.boot.trst }
      out := d.out
      free := cut.free }
  (d1.setAll ([GEN_STAT_BKUP, GEN_STAT_MOTION, GEN_STAT_WAKE, GEN_STAT_PWR_GOOD].map fun f => (f, d.get f))).roleResets st

/-- The outputs that stop at a reset: the lamp drive and NTC_REF, PPS_OUT, REFO and the transmitters (R428). -/
def Dev.outputsOff (st : Straps) (d : Dev) : Dev :=
  let d0 := (if d.time.ppsHigh.isSome then d.emit (.ppsOut false) else d).emit (.refOut 0)
  let d1 := if isTile st then (d0.emit .driveOff).emit (.ntcRef false) else d0
  d1.each ((List.range 4).filter fun x => portExists st x) fun d x => d.emit (.txIdle x)

/-- The device is put into a warm reset (R398 to R400): mailboxes are cleared with ABORTED, RWS fields, saved taps and the
AON block stay, the reset is counted. -/
def Dev.enterWarm (st : Straps) (cause : Nat) (clock : Bool) (d : Dev) : Dev :=
  let full := d.get MBX_STAT_FULL
  let d1 := (d.clearMbxs st [0, 1, 2, 3, 4, 5, 6, 7]).outputsOff st
  let d2 := d1.cleared st keepsWarm true clock
  let d3 := { d2 with mbx := { MbxSt.init with vsecAborted := d1.mbx.vsecAborted, vsecCross := d1.mbx.vsecCross } }
  (d3.setAll [(MBX_STAT_ABORTED, full), (GEN_RST_CAUSE_CAUSE, cause)]).addSat GEN_RST_CAUSE_WARM_CNT 1

/-! Shutdown entry (R310). -/

/-- The vote holds: the drive goes off, the always-on domain latches time, peak and queue, and everything else is held in
warm reset. A calibration step in progress ends without a commit. -/
def Dev.enterShutdown (st : Straps) (tdev : Int) (d : Dev) : Dev :=
  let shut : ShutSt :=
    { entry := d.now, tick := d.ticks, peak := tdev, lost := min 32 (d.rcd.queue.length + d.rcd.fresh.length), coolRun := 0 }
  let d1 := d.enterWarm st RC_SHUTDOWN true
  { d1 with boot.power := .shutdown, boot.shut := some shut }

end Sys2Proof.Machine
end

