-- ==== Sys2Proof/Machine/Cal.lean ====
section
/-! DEFINITION. Self-calibration: the record and its sources, the selection of cells, the steps with their preconditions
(spec/14_calibration.md R314 to R331). -/

namespace Sys2Proof.Machine

/-! The calibration record (R326). -/

/-- Its length. -/
def calSize : Nat := 9536

/-- Replaces the bytes from offset `k`. -/
def putBytes (bs : List Byte) (k : Nat) (new : List Byte) : List Byte := bs.take k ++ new ++ bs.drop (k + new.length)

/-- A record with SEQ and REC_CRC set. -/
def calSeal (seq : Nat) (r : List Byte) : List Byte :=
  let b := putBytes (putBytes r 4 (leBytes seq 4)) 60 (zeros 4)
  putBytes b 60 (leBytes (crc32c b) 4)

/-- VERSION and REC_CRC of a record verify (R328). -/
def calRecOk (r : List Byte) : Bool :=
  decide (r.length = calSize) && leAt r 0 2 == 1 && leAt r 60 4 == crc32c (putBytes r 60 (zeros 4))

/-- 24 bytes of a sink: a map of enabled cells, a map of quarter cells, RESID and OUT. -/
def sinkBytes (en qtr : List Nat) (resid : Nat) (out : Bool) : List Byte :=
  let map (l : List Nat) : Nat := ((List.range 72).filter l.contains |>.map fun i => 2 ^ i).sum
  leBytes (map en) 9 ++ leBytes (map qtr) 9 ++ leBytes resid 2 ++ leBytes (b2n out) 1 ++ zeros 3

/-- The untrimmed defaults, as a record whose ITEMS are clear (R328). -/
def calDefaults : List Byte :=
  leBytes 1 2 ++ zeros 18 ++ leBytes 480 2 ++ zeros 42 ++
  ((List.range 384).flatMap fun _ => sinkBytes (List.range 64) (List.range 16) 0 false) ++
  ((List.range 48).flatMap fun _ => leBytes 48000 4) ++ zeros 64

/-- Whether the record of a slot is committed and verifies (R328). -/
def Dev.calSlotOk (d : Dev) (n : Nat) : Bool := d.slotValid NK_CAL n && calRecOk (d.slotObject NK_CAL n)

/-- CAL_SLOTn_SEQ. -/
def Dev.calSeq (d : Dev) (n : Nat) : Nat := if d.calSlotOk n then d.slotSeq NK_CAL n else 0

/-- The record of a source: 0 slot A, 1 slot B, 2 factory, 3 defaults. -/
def Dev.calRecord (d : Dev) (src : Nat) : List Byte :=
  match src with
  | 0 => d.slotObject NK_CAL 0
  | 1 => d.slotObject NK_CAL 1
  | 2 => d.nvm.factory
  | _ => calDefaults

/-- The factory record holds a calibration part. -/
def Dev.calFactory (d : Dev) : Bool := calRecOk d.nvm.factory

/-- The source that start-up selects (R328). -/
def Dev.calSource (d : Dev) : Nat :=
  if d.calSlotOk 0 && d.calSlotOk 1 then (if d.calSeq 0 < d.calSeq 1 then 1 else 0)
  else if d.calSlotOk 0 then 0
  else if d.calSlotOk 1 then 1
  else if d.calFactory then 2
  else 3

/-- The record that supplies an item: a source whose ITEMS bit is clear leaves it to the next one down (R328). -/
def Dev.calItem (d : Dev) (src item : Nat) : List Byte :=
  let has (k : Nat) : Bool := natBit (leAt (d.calRecord k) 2 2) item
  if src ≤ 2 && has src then d.calRecord src
  else if d.calFactory && has 2 then d.calRecord 2
  else calDefaults

/-! From a record to the values in force (R315, R331). -/

/-- The register words of the SINK item: cell maps, RESID and OUT. -/
def sinkWords (r : List Byte) : List (Nat × Nat) :=
  (List.range 384).flatMap fun s =>
    let o := 64 + 24 * s
    [(CAL_SINK_EN0 s, leAt r o 4), (CAL_SINK_EN1 s, leAt r (o + 4) 4), (CAL_SINK_EN2 s, leAt r (o + 8) 1),
     (CAL_SINK_Q0 s, leAt r (o + 9) 4), (CAL_SINK_Q1 s, leAt r (o + 13) 4), (CAL_SINK_Q2 s, leAt r (o + 17) 1),
     (CAL_SINK_RESID s, leAt r (o + 18) 2 + 65536 * natBits (byteAt r (o + 20)) 0 1)]

/-- TCAL of the record that supplies SINK, DK and IK of the record in force (R312). -/
def compWords (r k : List Byte) : List (Nat × Nat) :=
  [(CAL_TCOMP, leAt r 20 2 + 65536 * byteAt k 22), (CAL_IK, leAt k 24 2)]

/-- The words of the ADC item. -/
def adcWords (r : List Byte) : List (Nat × Nat) := (List.range 48).map fun b => (CAL_ADC b, leAt r (9280 + 4 * b) 4)

/-- The words of the SENS item. -/
def sensWords (r : List Byte) : List (Nat × Nat) := (List.range 12).map fun n => (CAL_SENS n, leAt r (9472 + 2 * n) 2)

/-- The record whose DK and IK a new record takes: the factory record (R314), or, when that does not verify, the record in
force (R319). -/
def Dev.calBase (d : Dev) : List Byte := if d.calFactory then d.nvm.factory else d.calRecord (d.get CAL_STAT_SRC)

/-- New values come into force: in a tile with the first frame at least 1 ms later, when `later` says so (R315). -/
def Dev.putCal (st : Straps) (later : Bool) (ws : List (Nat × Nat)) (d : Dev) : Dev :=
  d.each ws fun d e =>
    if later && isTile st then d.actsLater e.1 (BitVec.ofNat 32 e.2) (d.now + lateMargin)
    else d.wr e.1 (BitVec.ofNat 32 e.2)

/-- The registers' words of the items of a source: in sender role only those of SENS and R312. -/
def Dev.calWords (st : Straps) (src : Nat) (d : Dev) : List (Nat × Nat) :=
  let comp := compWords (d.calItem src 0) (d.calRecord src)
  let sens := sensWords (d.calItem src 2)
  if isTile st then sinkWords (d.calItem src 0) ++ adcWords (d.calItem src 1) ++ sens ++ comp else sens ++ comp

/-- The largest of |v| over numbered values, and the first number that has it. -/
def worstOf (l : List (Nat × Int)) : Nat × Nat :=
  l.foldl (fun b e => if b.1 < e.2.natAbs then (e.2.natAbs, e.1) else b) (0, 0)

/-- The OFS values of the ADC words, and of the SENS words, by bank or sensor. -/
def adcOffsets (r : List Byte) : List (Nat × Int) := (List.range 48).map fun b => (b, toSigned 16 (leAt r (9282 + 4 * b) 2))
def sensOffsets (r : List Byte) : List (Nat × Int) := (List.range 12).map fun n => (n, toSigned 16 (leAt r (9472 + 2 * n) 2))

/-- CAL_Q_ADC of a record. -/
def Dev.setQAdc (r : List Byte) (d : Dev) : Dev :=
  d.setAll [(CAL_Q_ADC_MAX, (worstOf (adcOffsets r)).1), (CAL_Q_ADC_WHICH, (worstOf (adcOffsets r)).2)]

/-- CAL_Q_SENS of a record. -/
def Dev.setQSens (r : List Byte) (d : Dev) : Dev :=
  d.setAll [(CAL_Q_SENS_MAX, (worstOf (sensOffsets r)).1), (CAL_Q_SENS_WHICH, (worstOf (sensOffsets r)).2)]

/-- SRC and the two SEQ registers. -/
def Dev.showSlots (src : Nat) (d : Dev) : Dev :=
  d.setAll [(CAL_STAT_SRC, src), (CAL_SLOT_SEQ_SEQ 0, d.calSeq 0), (CAL_SLOT_SEQ_SEQ 1, d.calSeq 1)]

/-- CAL_Q_ADC, CAL_Q_SENS and CAL_Q_SINK.OUT of a source's items. -/
def Dev.showQuality (st : Straps) (src : Nat) (d : Dev) : Dev :=
  let d1 := d.setQSens (d.calItem src 2)
  if isTile st then
    (d1.setQAdc (d.calItem src 1)).set CAL_Q_SINK_OUT
      ((List.range 384).filter fun s => natBit (byteAt (d.calItem src 0) (64 + 24 * s + 20)) 0).length
  else d1

/-- Start-up's choice of the record (R328). WORST, SPREAD and MOVE, which no record holds, stay at their Reset value. -/
def Dev.loadCal (st : Straps) (d : Dev) : Dev :=
  let src := d.calSource
  let d2 := ((d.putCal st false (d.calWords st src)).showSlots src).showQuality st src
  if src = 2 then d2.event st EV_CAL_FACTORY 0 0 0 else if src = 3 then d2.event st EV_CAL_NO_RECORD 0 0 0 else d2

/-! Committing a record (R319, R327). -/

/-- The slot not in force. -/
def Dev.calSpare (d : Dev) : Nat := if d.get CAL_STAT_SRC = 0 then 1 else 0

/-- SEQ of the next record. -/
def Dev.calNextSeq (d : Dev) : Nat := max (d.calSeq 0) (d.calSeq 1) + 1

/-- A record is committed and is then the one in force. -/
def Dev.commitCal (r : List Byte) (d : Dev) : Dev :=
  let s := d.calSpare
  let q := d.calNextSeq
  ((d.writeSlot NK_CAL s (calSeal q r)).commitSlot NK_CAL s q).showSlots s

/-- The record in force with an item replaced: its bytes at their offsets, its ITEMS bit, the time, DK and IK. -/
def Dev.calWith (item : Nat) (parts : List (Nat × List Byte)) (d : Dev) : List Byte :=
  let base := d.calRecord (d.get CAL_STAT_SRC)
  let items := natSetBit (leAt base 2 2) item true
  let r := parts.foldl (fun b p => putBytes b p.1 p.2) base
  putBytes (putBytes (putBytes (putBytes r 2 (leBytes items 2)) 8 (leBytes d.time.clk.ns 4 ++ leBytes d.time.clk.sec 8))
    22 (slice d.calBase 22 1)) 24 (slice d.calBase 24 2)

/-! Medians and agreement (R318). -/

/-- Puts a value at its place in a rising list. -/
def insertInt (x : Int) : List Int → List Int
  | [] => [x]
  | y :: ys => if x ≤ y then x :: y :: ys else y :: insertInt x ys

/-- The median; of an even number of readings a free value between the two middle ones. -/
def medianOf (l : List Int) : Int :=
  let s := l.foldl (fun acc x => insertInt x acc) []
  let hi := nth s (s.length / 2) 0
  if s.length % 2 = 1 then hi
  else
    let lo := nth s (s.length / 2 - 1) 0
    sat (Config.evenMedian lo hi) lo hi

/-- The readings of one quantity lie within a tolerance. -/
def within (tol : Int) (l : List Int) : Bool := l.all fun a => l.all fun b => decide (a - b ≤ tol)

/-- How a step's attempts end: `none` while it goes on; `some none` when the last repeat disagrees; `some (some a)` with the
first attempt that agrees. Every attempt has RUNS runs. -/
def settle {α : Type} (runs retry : Nat) (agree : List α → Bool) (attempts : List (List α)) : Option (Option (List α)) :=
  if !(attempts.all fun a => a.length == runs) || retry + 1 < attempts.length then none
  else
    match attempts.find? agree with
    | some a => some (some a)
    | none => if attempts.length = retry + 1 then some none else none

/-! SINK (R320). -/

/-- Puts a cell at its place by w; cells that come later go after equal ones. -/
def insertCell (w : Nat → Nat) (i : Nat) : List Nat → List Nat
  | [] => [i]
  | j :: js => if w i < w j then i :: j :: js else j :: insertCell w i js

/-- Cells, given by rising index, ranked by (w, index). -/
def rankCells (w : Nat → Nat) (l : List Nat) : List Nat := l.foldl (fun acc i => insertCell w i acc) []

/-- The cells of a list, by rising index. -/
def byIndex (l : List Nat) : List Nat := (List.range 72).filter l.contains

/-- The sum of w over cells. -/
def sumCells (w : Nat → Nat) (l : List Nat) : Nat := (l.map w).sum

/-- The pair (o, i) that minimises the cost of the sum after the swap; ties to the lowest o, then the lowest i. -/
def bestPair (w : Nat → Nat) (cost : Int → Nat) (cur : Nat) (outs ins : List Nat) : Option (Nat × Nat × Nat) :=
  (outs.flatMap fun o => ins.map fun i => (o, i)).foldl
    (fun b p =>
      let c := cost ((cur : Int) - w p.1 + w p.2)
      match b with
      | some e => if c < e.1 then some (c, p.1, p.2) else b
      | none => some (c, p.1, p.2)) none

/-- Swaps cells of `pool` into the selection while that reduces the cost, at most `n` times. -/
def refine (w : Nat → Nat) (cost : Int → Nat) (pool : List Nat) : Nat → List Nat → List Nat
  | 0, sel => sel
  | n + 1, sel =>
    let cur := sumCells w sel
    match bestPair w cost cur (byIndex sel) (byIndex (pool.filter fun i => !sel.contains i)) with
    | some (c, o, i) => if c < cost cur then refine w cost pool n (i :: sel.filter fun j => j != o) else sel
    | none => sel

/-- Cells with w of at least 16,384, ranked. -/
def liveCells (w : Nat → Nat) : List Nat := rankCells w ((List.range 72).filter fun i => 16384 ≤ w i)

/-- The middle 64 of the live cells. -/
def middle (live : List Nat) : List Nat := (live.drop ((live.length - 64) / 2)).take 64

/-- What the step computes for a sink. -/
structure SinkSel where
  en : List Nat
  qtr : List Nat
  resid : Int
  qres : Int
  out : Bool
  deriving DecidableEq, Repr

/-- A sink with at least 64 live cells, for the target G. -/
def selectSink (w : Nat → Nat) (g : Nat) : SinkSel :=
  let live := liveCells w
  let sel := refine w (fun x => (x - g).natAbs) live 32 (middle live)
  let z := sumCells w sel
  let q := refine w (fun x => (4 * x - z).natAbs) sel 32 ((rankCells w (byIndex sel)).drop 24 |>.take 16)
  let resid := Int.fdiv (((z : Int) - g) * 100000) g
  let qres := Int.fdiv ((4 * (sumCells w q : Int) - z) * 100000) z
  { en := sel, qtr := q, resid := resid, qres := qres, out := 200 < resid.natAbs || 200 < qres.natAbs }

/-- A sink with fewer live cells: the 64 cells of largest w and out = 1. The spec does not say which of equal cells count as
larger, and gives no quarter cells, resid and qres: free values, the quarter cells any 16 of the 64. -/
def selectPoor (w : Nat → Nat) (d : Dev) : SinkSel × Dev :=
  let tie (i : Nat) : Nat := w i * 2 ^ 32 + Config.freeValue (d.free + 74 + i) % 2 ^ 32
  let sel := (rankCells tie (List.range 72)).drop 8
  let key (i : Nat) : Nat := Config.freeValue (d.free + i)
  ({ en := sel, qtr := (rankCells key (byIndex sel)).take 16, resid := toSigned 16 (Config.freeValue (d.free + 72)),
     qres := toSigned 16 (Config.freeValue (d.free + 73)), out := true },
   { d with free := d.free + 146 })

/-- The target G: the lower median of the mids of the sinks that qualify; `none` when none does. -/
def sinkTarget (mids : List Nat) : Option Nat :=
  match rankCells id mids with
  | [] => none
  | l => l[(l.length - 1) / 2]?

/-- The selections of all sinks, in sink order. -/
def Dev.selectAll (w : Nat → Nat → Nat) (g : Nat) (d : Dev) : List SinkSel × Dev :=
  (List.range 384).foldl
    (fun acc s =>
      if 64 ≤ (liveCells (w s)).length then (acc.1 ++ [selectSink (w s) g], acc.2)
      else
        let r := selectPoor (w s) acc.2
        (acc.1 ++ [r.1], r.2))
    ([], d)

/-- A signed result in a field of that width; outside its range the spec gives it no value (log entry 16). -/
def fitSigned (width : Nat) (v : Int) : Nat :=
  if -(2 ^ (width - 1) : Int) ≤ v ∧ v < 2 ^ (width - 1) then ofSigned width v else Config.outOfRange width v % 2 ^ width

/-- The same for a field without sign. -/
def fitNat (width v : Nat) : Nat := if v < 2 ^ width then v else Config.outOfRange width v % 2 ^ width

/-- The readings of a cell in an attempt: sink, cell. -/
def sinkReadings (runs : List (List (List Nat))) (s i : Nat) : List Int := runs.map fun r => ((nth (nth r s []) i 0 : Nat) : Int)

/-- The cell medians of an attempt. -/
def sinkMedian (runs : List (List (List Nat))) (s i : Nat) : Nat :=
  (medianOf (sinkReadings runs s i)).toNat

/-- The runs of an attempt agree within 16. -/
def sinkAgree (runs : List (List (List Nat))) : Bool :=
  (List.range 384).all fun s => (List.range 72).all fun i => within 16 (sinkReadings runs s i)

/-- A run of SINK: TJ_DRV in it, and the cell values of each sink. -/
abbrev SinkRun := Int × List (List Nat)

/-- The runs of an attempt agree; TJ_DRV is no quantity of R318. -/
def runsAgree (runs : List SinkRun) : Bool := sinkAgree (runs.map Prod.snd)

/-- Runs of 72 slots, each slot one cell of each sink, as runs of sinks, with TJ_DRV at the end of each. -/
def runsOfSlots (runs : Nat) (slots : List (List Nat)) (tj : List Int) : List (List SinkRun) :=
  let run (k : Nat) : SinkRun :=
    (nth tj k 0, (List.range 384).map fun s => (List.range 72).map fun i => nth (nth slots (72 * k + i) []) s 0)
  (List.range (slots.length / (72 * runs))).map fun a => (List.range runs).map fun k => run (runs * a + k)

/-! ADC (R322) and SENS (R324). -/

/-- GAIN and OFS from the medians of the two references; `none` outside the limits. -/
def adcResult (lo hi : Int) : Option (Nat × Int) :=
  if hi ≤ lo then none
  else
    let gain := Int.fdiv (2 * 4500 * 2 ^ 15 + (hi - lo)) (2 * (hi - lo))
    let ofs := 500 - rnd (lo * gain) 15
    if 46560 ≤ gain ∧ gain ≤ 49440 ∧ ofs.natAbs ≤ 30 then some (gain.toNat, ofs) else none

/-- The readings of bank b in an attempt: VR_LO, VR_HI. -/
def adcLo (runs : List (List (Nat × Nat))) (b : Nat) : List Int := runs.map fun r => ((nth r b (0, 0)).1 % 4096 : Nat)
def adcHi (runs : List (List (Nat × Nat))) (b : Nat) : List Int := runs.map fun r => ((nth r b (0, 0)).2 % 4096 : Nat)

/-- The runs of an attempt agree within 2 codes. -/
def adcAgree (runs : List (List (Nat × Nat))) : Bool :=
  (List.range 48).all fun b => within 2 (adcLo runs b) && within 2 (adcHi runs b)

/-- All banks' results; `none` when one lies outside the limits. -/
def adcResults (runs : List (List (Nat × Nat))) : Option (List (Nat × Int)) :=
  (List.range 48).mapM fun b => adcResult (medianOf (adcLo runs b)) (medianOf (adcHi runs b))

/-- The 192 bytes of the ADC item. -/
def adcBytes (l : List (Nat × Int)) : List Byte := l.flatMap fun e => leBytes e.1 2 ++ leBytes (ofSigned 16 e.2) 2

/-- The readings of the quantities of SENS in an attempt: TREF0, TREF1 and the sensors of the role. -/
def sensQuantities (st : Straps) (runs : List (Int × Int × List Int)) : List (List Int) :=
  let tj (n : Nat) : List Int := runs.map fun r => nth r.2.2 n 0
  if isTile st then
    (runs.map fun r => r.1) :: (runs.map fun r => r.2.1) :: (List.range 12).map tj
  else (runs.map fun r => r.1) :: (List.range 8).map tj

/-- The runs of an attempt agree within 0.25 °C. -/
def sensAgree (st : Straps) (runs : List (Int × Int × List Int)) : Bool := (sensQuantities st runs).all (within 4)

/-- The offsets: TREF0 serves TJ0 to TJ7, TREF1 serves TJ8 to TJ11, which a sender leaves at 0. -/
def sensResults (st : Straps) (runs : List (Int × Int × List Int)) : List Int :=
  (List.range 12).map fun n =>
    let raw := medianOf (runs.map fun r => nth r.2.2 n 0)
    if n < 8 then medianOf (runs.map fun r => r.1) - raw
    else if isTile st then medianOf (runs.map fun r => r.2.1) - raw
    else 0

/-! Preconditions (R317). -/

/-- DRIVE_EN is 1, or was within the last 2 s. -/
def Dev.drivenLately (d : Dev) : Bool :=
  d.getb LDRV_CTRL_DRIVE_EN ||
  match d.cal.driveOnAt with
  | some t => decide (d.ticks < t + secs 2)
  | none => false

/-- The VLED_SNS reading of some bank is invalid or below 2.8 V (R273, R317). The banks are all measured in parallel. -/
def Dev.vledAbsent (d : Dev) : Bool :=
  (List.range 4).any fun n => !d.getb (DIAG_VLED_VALID n) || decide (d.get (DIAG_VLED_MV n) < 2800)

/-- The reason of the first precondition that fails; 0 when all hold. An offline SINK step with DRIVE_EN set has active
rows (R321, log entry 15). -/
def Dev.calPrecond (c : CalStep) (cond : CalConditions) (d : Dev) : Nat :=
  let s := d.pstate c.port
  match c.item with
  | 0 =>
    if cond.rowActive || (!c.inService && d.getb LDRV_CTRL_DRIVE_EN) then 1
    else if cond.columnCurrent then 2
    else if d.vledAbsent then 3
    else if c.inService && d.effGet GRY_SCAN_DIAG_EN == 0 then 4
    else if cond.driveReset || !d.aon.vdrv then 7
    else 0
  | 1 => if cond.driveReset || !d.aon.vdrv then 7 else 0
  | 2 => if d.drivenLately || cond.notStable then 5 else 0
  | _ =>
    if s == P_LS0 || s == P_RECOVER || s == P_GO || s == P_TXONLY || s == P_LISTEN then 6
    else if s == P_TRAIN || s == P_LS1 then 0
    else 8

/-! Steps (R316 to R319). -/

/-- The results of CAL_STAT. -/
def calStatus (result : Nat) : Nat := if result = 0 then ST_OK else ST_CAL_PRECOND + (if result = 5 then 5 else if result = 4 then 4 else result - 1)

/-- A step ends with a result (0 OK, 1 PRECOND, 2 DISAGREE, 3 RANGE, 4 ABORTED, 5 NVM), and its CAL_RUN is answered. -/
def Dev.endCal (st : Straps) (c : CalStep) (result value : Nat) (d : Dev) : Dev :=
  let d1 := { d with cal.step := none }.setAll [(CAL_STAT_BUSY, 0), (CAL_STAT_ITEM, c.item), (CAL_STAT_RESULT, result)]
  d1.answerOpt st c.waiter (calStatus result) value

/-- A precondition has failed. -/
def Dev.failCal (st : Straps) (c : CalStep) (reason : Nat) (d : Dev) : Dev :=
  ((d.setAll [(CAL_STAT_REASON, reason), (CAL_STAT_PRECOND_SEEN, 1)]).event st EV_CAL_ABORT c.item reason 0).endCal st c 1 reason

/-- A step that goes on where its preconditions hold. -/
def Dev.whenCal (st : Straps) (c : CalStep) (cond : CalConditions) (f : Dev → Dev) (d : Dev) : Dev :=
  if d.calPrecond c cond = 0 then f d else d.failCal st c (d.calPrecond c cond)

/-- Whether the role has the item, on this port (R314, R325). -/
def calItemExists (st : Straps) (item port : Nat) : Bool :=
  match st.role with
  | .tile => item ≠ 3 || decide (port < 2)
  | .sender => 2 ≤ item

/-- CAL_RUN: answers at once with a status, or starts the step and leaves its initiator waiting (R316, R317, R330). -/
def Dev.opCalRun (st : Straps) (w : Waiter) (data0 : Nat) (cond : CalConditions) (d : Dev) : Option (Nat × Nat) × Dev :=
  let c : CalStep :=
    { item := natBits data0 0 2, inService := natBit data0 4, port := natBits data0 8 2, waiter := some w, slots := [],
      tj := [] }
  if !calItemExists st c.item c.port then (some (ST_BAD_PARAM, 0), d)
  else if d.cal.step.isSome then (some (ST_CAL_BUSY, 0), d)
  else
    (none, d.whenCal st c cond fun d =>
      { d with cal.step := some c }.setAll [(CAL_STAT_BUSY, 1), (CAL_STAT_ITEM, c.item)])

/-- CAL_ABORT: the running step ends (R316). -/
def Dev.opCalAbort (st : Straps) (d : Dev) : Dev :=
  match d.cal.step with
  | some c => d.endCal st c 4 0
  | none => d

/-- The firmware that sequences the steps stops: a step in progress ends without a commit. The spec gives neither its RESULT nor
the status of its CAL_RUN: free values. -/
def Dev.stopCal (st : Straps) (d : Dev) : Dev :=
  match d.cal.step with
  | none => d
  | some c =>
    let r := d.draw 6
    let q := r.2.draw 65536
    ({ q.2 with cal.step := none }.setAll [(CAL_STAT_BUSY, 0), (CAL_STAT_ITEM, c.item), (CAL_STAT_RESULT, r.1)]).answerOpt st
      c.waiter q.1 0

/-- A new record that replaces one item: committed, in force from the commit on, CAL_DONE; or CAL_NVM (R319). -/
def Dev.finishCal (st : Straps) (c : CalStep) (commits : Bool) (parts : List (Nat × List Byte))
    (words : List Byte → List (Nat × Nat)) (q : Dev → Dev) (value : Dev → Nat) (d : Dev) : Dev :=
  if !commits then d.endCal st c 5 0
  else
    let r := d.calWith c.item parts
    let d1 := q ((d.commitCal r).putCal st true (words r))
    (d1.event st EV_CAL_DONE 0 0 0).endCal st c 0 (value d1)

/-- The SINK step ends with an attempt that agrees. -/
def Dev.finishSink (st : Straps) (c : CalStep) (commits : Bool) (runs : List SinkRun) (d : Dev) : Dev :=
  let w (s i : Nat) : Nat := sinkMedian (runs.map Prod.snd) s i
  let tcal := medianOf (runs.map Prod.fst)
  let mids := (List.range 384).filterMap fun s =>
    let live := liveCells (w s)
    if 64 ≤ live.length then some (sumCells (w s) (middle live)) else none
  match sinkTarget mids with
  | none => d.endCal st c 3 0
  | some g =>
    let r := d.selectAll w g
    let sel := r.1.zipIdx
    let outs := sel.filter fun e => e.1.out
    let worst := (r.1.map fun e => max e.resid.natAbs e.qres.natAbs).foldl max 0
    let base := d.calItem (d.get CAL_STAT_SRC) 0
    let move := (sel.map fun e => (e.1.resid - toSigned 16 (leAt base (64 + 24 * e.2 + 18) 2)).natAbs).foldl max 0
    let spread := ((mids.foldl max 0) - (mids.foldl min (nth mids 0 0))) * 100000 / g
    let bytes := r.1.flatMap fun e => sinkBytes e.en e.qtr (fitSigned 16 e.resid) e.out
    let d1 := r.2.each (outs.take 16) fun d e =>
      d.event st EV_CAL_SINK_RANGE e.2 (ofSigned 32 e.1.resid) (ofSigned 32 e.1.qres)
    d1.finishCal st c commits [(20, leBytes (ofSigned 16 tcal) 2), (64, bytes)]
      (fun r => sinkWords r ++ compWords r r)
      (fun d => d.setAll [(CAL_Q_SINK_WORST, fitNat 16 worst), (CAL_Q_SINK_OUT, outs.length),
        (CAL_Q_SINK2_SPREAD, fitNat 16 spread), (CAL_Q_SINK2_MOVE, fitNat 16 move)])
      (fun d => (d.rd CAL_Q_SINK).toNat)

/-- The ADC step ends with these results. -/
def Dev.finishAdc (st : Straps) (c : CalStep) (commits : Bool) (l : List (Nat × Int)) (d : Dev) : Dev :=
  d.finishCal st c commits [(9280, adcBytes l)] adcWords (fun e => e.setQAdc (d.calWith 1 [(9280, adcBytes l)]))
    (fun d => (d.rd CAL_Q_ADC).toNat)

/-- The SENS step ends with these offsets. -/
def Dev.finishSens (st : Straps) (c : CalStep) (commits : Bool) (l : List Int) (d : Dev) : Dev :=
  let parts := [(9472, l.flatMap fun v => leBytes (ofSigned 16 v) 2)]
  d.finishCal st c commits parts sensWords (fun e => e.setQSens (d.calWith 2 parts)) (fun d => (d.rd CAL_Q_SENS).toNat)

/-- The LANE step ends with the widths of the two lanes; it has no record (R325). -/
def Dev.finishLane (st : Straps) (c : CalStep) (w0 w1 : Nat) (d : Dev) : Dev :=
  let d1 := d.setAll [(LANEN_EYEW_WIDTH c.port 0, w0), (LANEN_EYEW_VALID c.port 0, 1),
    (LANEN_EYEW_WIDTH c.port 1, w1), (LANEN_EYEW_VALID c.port 1, 1)]
  (d1.event st EV_CAL_DONE 0 0 0).endCal st c 0 (w0 % 256 + 256 * (w1 % 256))

/-- The last repeat disagreed (R318). -/
def Dev.disagreeCal (st : Straps) (c : CalStep) (d : Dev) : Dev :=
  (d.event st EV_CAL_DISAGREE c.item 0 0).endCal st c 2 0

/-- What a step makes of its attempts, once they settle. -/
def Dev.settleCal {α : Type} (st : Straps) (c : CalStep) (agree : List α → Bool) (attempts : List (List α))
    (f : List α → Dev → Dev) (d : Dev) : Dev :=
  match settle (d.get CAL_CTRL_RUNS) (d.get CAL_CTRL_RETRY) agree attempts with
  | some (some a) => f a d
  | some none => d.disagreeCal st c
  | none => d

/-- The widths of a lane in an attempt. -/
def laneWidths (n : Nat) (runs : List (Nat × Nat)) : List Int := runs.map fun r => ((if n = 0 then r.1 else r.2) % 256 : Nat)

/-- TJ_DRV at this instant. -/
def Dev.tjDrvNow (st : Straps) (d : Dev) : Int := (d.takeSample st).1.tjDrv

/-- CAL_STEP_COMPLETE: the readings settle the step that runs (R318, R319). -/
def execCalStepComplete (readings : CalReadings) (cond : CalConditions) (commits : Bool) (s : State) :
    Host.Outcome State Fault Refusal :=
  runAwake (fun st d =>
    match d.cal.step with
    | none => d
    | some c =>
      d.whenCal st c cond fun d =>
        if c.item = 0 && c.inService then
          d.settleCal st c runsAgree (runsOfSlots (d.get CAL_CTRL_RUNS) c.slots c.tj) fun a d => d.finishSink st c commits a
        else
          match c.item, readings with
          | 0, .sink l => d.settleCal st c runsAgree l fun a d => d.finishSink st c commits a
          | 1, .adc l => d.settleCal st c adcAgree l fun a d =>
              match adcResults a with
              | some r => d.finishAdc st c commits r
              | none => d.endCal st c 3 0
          | 2, .sens l => d.settleCal st c (sensAgree st) l fun a d =>
              if (sensResults st a).any fun v => 128 < v.natAbs then d.endCal st c 3 0
              else d.finishSens st c commits (sensResults st a)
          | 3, .lane l => d.settleCal st c (fun a => within 3 (laneWidths 0 a) && within 3 (laneWidths 1 a)) l fun a d =>
              d.finishLane st c (medianOf (laneWidths 0 a)).toNat (medianOf (laneWidths 1 a)).toNat
          | _, _ => d) s

/-- CAL_SLOT_MEASURE: one measurement of one cell of each sink, in a diagnostic slot without the pin test (R321). -/
def execCalSlotMeasure (cells : List Nat) (cond : CalConditions) (s : State) : Host.Outcome State Fault Refusal :=
  runTile (fun st d =>
    match d.cal.step, d.openSlot with
    | some c, some i =>
      if c.item = 0 && c.inService && d.tile.drive.driving && !d.pinSlot d.tile.drive.k i &&
          (settle (d.get CAL_CTRL_RUNS) (d.get CAL_CTRL_RETRY) runsAgree
            (runsOfSlots (d.get CAL_CTRL_RUNS) c.slots c.tj)).isNone then
        d.whenCal st c cond fun d =>
          let e := { c with
            slots := c.slots ++ [cells]
            tj := if (c.slots.length + 1) % 72 = 0 then c.tj ++ [d.tjDrvNow st] else c.tj }
          { d with tile.drive.open_ := false, cal.step := some e }.emit (.calMeasure (c.slots.length % 72))
      else d
    | _, _ => d) s

/-- CAL_REVERT: a record copied from the factory record is committed; the answer is its SEQ (R330). A commit that fails
changes nothing, and is answered as that of a step (R319). -/
def Dev.opCalRevert (st : Straps) (d : Dev) : (Nat × Nat) × Dev :=
  let w := d.writeFails
  if !d.calFactory || w.1 then ((ST_CAL_NVM, 0), w.2)
  else
    let q := w.2.calNextSeq
    let d1 := w.2.commitCal w.2.nvm.factory
    ((ST_OK, q), (d1.putCal st true (d1.calWords st (d1.get CAL_STAT_SRC))).showQuality st (d1.get CAL_STAT_SRC))

/-! The boot step (R323). -/

/-- A boot step that fails by its limits or by its commit records CAL_ABORT and leaves the values of the record (R323); which
reason it carries is not stated, for R317 has none for it: a free value. -/
def Dev.failBoot (st : Straps) (c : CalStep) (result : Nat) (d : Dev) : Dev :=
  let r := d.draw (2 ^ 32)
  (r.2.event st EV_CAL_ABORT c.item r.1 0).endCal st c result 0

/-- A boot step whose result differs from the record beyond the limits of R323. -/
def Dev.bootDiffers (l : List (Nat × Int)) (d : Dev) : Bool :=
  let old := d.calItem (d.get CAL_STAT_SRC) 1
  l.zipIdx.any fun e =>
    8 < ((e.1.1 : Int) - leAt old (9280 + 4 * e.2) 2).natAbs ||
    1 < (e.1.2 - toSigned 16 (leAt old (9282 + 4 * e.2) 2)).natAbs

/-- A boot step's result comes into force for the run; it is committed where it differs enough, and a commit that fails fails
the step (R319, R323). -/
def Dev.applyBoot (st : Straps) (c : CalStep) (l : List (Nat × Int)) (d : Dev) : Dev :=
  let r := d.calWith 1 [(9280, adcBytes l)]
  let w := d.writeFails
  if d.bootDiffers l && w.1 then w.2.failBoot st c 5
  else
    let d1 := if d.bootDiffers l then w.2.commitCal r else d
    (((d1.putCal st false (adcWords r)).setQAdc r).event st EV_CAL_DONE 0 0 0).endCal st c 0 0

/-- The ADC step at start-up (R323). No readings means that the drive die is in reset. -/
def Dev.bootAdc (st : Straps) (adc : List (List (List (Nat × Nat)))) (d : Dev) : Dev :=
  if !(isTile st && d.getb CAL_CTRL_ADC_BOOT) then d
  else
    let c : CalStep := { item := 1, inService := false, port := 0, waiter := none, slots := [], tj := [] }
    if adc.isEmpty || !d.aon.vdrv then d.failCal st c 7
    else
      match settle (d.get CAL_CTRL_RUNS) (d.get CAL_CTRL_RETRY) adcAgree adc with
      | some (some a) =>
        match adcResults a with
        | some l => d.applyBoot st c l
        | none => d.failBoot st c 3
      | _ => d.disagreeCal st c

end Sys2Proof.Machine
end

