-- ==== Sys2Proof/Machine/Hss.lean ====
section
/-! DEFINITION. HSS/LMS signatures with SHA-256 and n = m = 32: what a signature consists of, and whether it verifies
(spec/15_firmware_trust_update.md R333, after RFC 8554; log entry 113). -/

namespace Sys2Proof.Machine

/-- The big-endian number of `n` bytes at offset `k`. -/
def beAt (bs : List Byte) (k n : Nat) : Nat := (List.range n).foldl (fun v j => 256 * v + byteAt bs (k + j)) 0

/-- An LM-OTS type: the width w of a digit, the number p of chains, the shift ls of the checksum. -/
structure OtsType where
  w : Nat
  p : Nat
  ls : Nat
  deriving DecidableEq, Repr

/-- The LM-OTS types that are verified: W1, W2, W4 and W8. -/
def otsType : Nat → Option OtsType
  | 1 => some ⟨1, 265, 7⟩
  | 2 => some ⟨2, 133, 6⟩
  | 3 => some ⟨4, 67, 4⟩
  | 4 => some ⟨8, 34, 0⟩
  | _ => none

/-- The tree heights of the LMS types that are verified: H5, H10, H15, H20 and H25. -/
def lmsHeight : Nat → Option Nat
  | 5 => some 5
  | 6 => some 10
  | 7 => some 15
  | 8 => some 20
  | 9 => some 25
  | _ => none

/-- What a reader of signature bytes finds: too few bytes to tell, bytes that are no signature, or a part of some size. -/
inductive Parsed (α : Type) where
  | short
  | bad
  | found (part : α) (size : Nat)
  deriving DecidableEq, Repr

/-- An LMS signature. -/
structure LmsSig where
  q : Nat
  ots : Nat
  c : List Byte
  y : List (List Byte)
  lms : Nat
  path : List (List Byte)
  deriving DecidableEq, Repr

/-- The 32-byte values in a row. -/
def hashesAt (b : List Byte) (off n : Nat) : List (List Byte) := (List.range n).map fun k => slice b (off + 32 * k) 32

/-- The LMS signature at the start of a byte list. -/
def parseLms (b : List Byte) : Parsed LmsSig :=
  if b.length < 8 then .short
  else
    match otsType (beAt b 4 4) with
    | none => .bad
    | some t =>
      let n := 40 + 32 * t.p
      if b.length < n + 4 then .short
      else
        match lmsHeight (beAt b n 4) with
        | none => .bad
        | some h =>
          if b.length < n + 4 + 32 * h then .short
          else .found
            { q := beAt b 0 4, ots := beAt b 4 4, c := slice b 8 32, y := hashesAt b 40 t.p, lms := beAt b n 4,
              path := hashesAt b (n + 4) h } (n + 4 + 32 * h)

/-- An HSS signature: the signed public keys of the levels below the top, each with its signature, and the signature of the
message. -/
structure HssSig where
  keys : List (LmsSig × List Byte)
  last : LmsSig
  deriving DecidableEq, Repr

/-- `n` signed public keys of 56 bytes and the last signature, after the parts before them. -/
def parseLevels : Nat → List Byte → List (LmsSig × List Byte) → Nat → Parsed HssSig
  | 0, b, keys, size =>
    match parseLms b with
    | .short => .short
    | .bad => .bad
    | .found s n => .found ⟨keys, s⟩ (size + n)
  | k + 1, b, keys, size =>
    match parseLms b with
    | .short => .short
    | .bad => .bad
    | .found s n =>
      if b.length < n + 56 then .short
      else parseLevels k (b.drop (n + 56)) (keys ++ [(s, slice b n 56)]) (size + n + 56)

/-- The HSS signature at the start of a byte list, of one to four levels. -/
def parseHss (b : List Byte) : Parsed HssSig :=
  if b.length < 4 then .short
  else if 3 < beAt b 0 4 then .bad
  else parseLevels (beAt b 0 4) (b.drop 4) [] 4

/-- Digit `i` of width `w` of a byte string. -/
def otsDigit (s : List Byte) (w i : Nat) : Nat := natBits (byteAt s (i * w / 8)) (8 - w - w * (i % (8 / w))) w

/-- The digits of a hash, with those of its checksum behind it. -/
def otsDigits (t : OtsType) (q : List Byte) : List Nat :=
  let sum := ((List.range (256 / t.w)).map fun i => 2 ^ t.w - 1 - otsDigit q t.w i).sum
  (List.range t.p).map (otsDigit (q ++ beBytes (sum * 2 ^ t.ls) 2) t.w)

/-- A chain from digit `a` to its end. -/
def otsChain (prefix_ : List Byte) (t : OtsType) (a : Nat) (y : List Byte) : List Byte :=
  (List.range (2 ^ t.w - 1 - a)).foldl (fun v j => sha256 (prefix_ ++ beBytes (a + j) 1 ++ v)) y

/-- The LM-OTS public key that a signature of a message leads to. -/
def otsCandidate (t : OtsType) (ident msg : List Byte) (s : LmsSig) : List Byte :=
  let head := ident ++ beBytes s.q 4
  let digits := otsDigits t (sha256 (head ++ beBytes 0x8181 2 ++ s.c ++ msg))
  sha256 (head ++ beBytes 0x8080 2 ++
    (List.range t.p).flatMap fun i => otsChain (head ++ beBytes i 2) t (nth digits i 0) (nth s.y i []))

/-- The root that a path leads to from a node. -/
def lmsRoot (ident : List Byte) : List (List Byte) → Nat → List Byte → List Byte
  | [], _, v => v
  | p :: ps, node, v =>
    let head := ident ++ beBytes (node / 2) 4 ++ beBytes 0x8383 2
    lmsRoot ident ps (node / 2) (sha256 (head ++ if node % 2 = 1 then p ++ v else v ++ p))

/-- An LMS signature verifies with a 56-byte public key: the types are the key's, and the root is its T[1]. -/
def lmsVerify (key msg : List Byte) (s : LmsSig) : Bool :=
  match otsType s.ots, lmsHeight s.lms with
  | some t, some h =>
    beAt key 0 4 == s.lms && beAt key 4 4 == s.ots && decide (s.q < 2 ^ h) &&
    (let ident := slice key 8 16
     let leaf := sha256 (ident ++ beBytes (2 ^ h + s.q) 4 ++ beBytes 0x8282 2 ++ otsCandidate t ident msg s)
     lmsRoot ident s.path (2 ^ h + s.q) leaf == slice key 24 32)
  | _, _ => false

/-- The keys of the levels verify one after another; the answer is the key of the last level. -/
def levelsVerify : List (LmsSig × List Byte) → List Byte → Option (List Byte)
  | [], key => some key
  | (s, k) :: rest, key => if lmsVerify key k s then levelsVerify rest k else none

/-- `sig` is an HSS signature, with no byte behind it, and verifies over a message with a 60-byte public key. -/
def hssVerify (key msg sig : List Byte) : Bool :=
  match parseHss sig with
  | .found s n =>
    n == sig.length && beAt key 0 4 == s.keys.length + 1 &&
    match levelsVerify s.keys (key.drop 4) with
    | some k => lmsVerify k msg s.last
    | none => false
  | _ => false

end Sys2Proof.Machine
end

