-- ==== Sys2Proof/Machine/Switch.lean ====
section
/-! DEFINITION. Footprint changes, coefficient sets and their switch (spec/08_composition.md R213,
spec/09_lamp_correction.md R229, R234 to R239). -/

namespace Sys2Proof.Machine

/-! Coefficient sets (R234, R235). -/

/-- The length of a set. -/
def coefLength : Nat := 1032256

/-- Whether SET_CRC matches. -/
def setCrcOk (b : List Byte) : Bool := leAt b 60 4 == crc32c (b.take 60 ++ zeros 4 ++ b.drop 64)

/-- Whether the header's values are allowed (check 3). -/
def setHeaderOk (b : List Byte) : Bool :=
  decide (8 ≤ byteAt b 6) && decide (byteAt b 6 ≤ 18) &&
  (!natBit (byteAt b 3) 0 || decide (toSigned 16 (leAt b 8 2) < toSigned 16 (leAt b 10 2))) &&
  decide (byteAt b 4 ≤ 3) && decide (byteAt b 5 ≤ 2)

/-- The reason for which a set fails the checks of R235, or none. -/
def coefSetReason (b : List Byte) : Option Nat :=
  if !setCrcOk b then some 2
  else if leAt b 0 2 != 1 then some 3
  else if !setHeaderOk b then some 4
  else if [0, 1, 2].any fun c => leAt b (64 + 16384 * c) 4 % 2 ^ 20 != 0 then some 5
  else none

/-- Whether a slot holds a committed set. -/
def Dev.coefHeld (d : Dev) (slot : Nat) : Bool := d.slotValid NK_COEF slot

/-- Staging and activation sequence of a slot; 0 for an empty one. -/
def Dev.coefSeqOf (d : Dev) (slot : Nat) : Nat × Nat := if d.coefHeld slot then nth d.nvm.coefSeq slot (0, 0) else (0, 0)

/-- COR_SLOTn_ID, COR_SLOTn_SEQ and COR_STAT.STAGED show the slots (R241). -/
def Dev.showCoef (d : Dev) : Dev :=
  let act := d.get COR_STAT_ACTIVE
  let d1 := d.each [0, 1] fun d n =>
    let b := (nth d.nvm.coef n NvmSlot.empty).bytes
    d.setAll [(COR_SLOT_ID_SERIAL n, if d.coefHeld n then leAt b 12 4 else 0),
      (COR_SLOT_SEQ_STAGE n, (d.coefSeqOf n).1), (COR_SLOT_SEQ_ACT n, (d.coefSeqOf n).2)]
  d1.setb COR_STAT_STAGED ([0, 1].any fun n => n != act && d1.coefHeld n)

/-- Whether MAP of the set in force now differs from the mapping of the footprint in force now, each with its switch whose
AT has come, carried out or not (R213, R235, R238). -/
def Dev.mapDiffers (d : Dev) : Bool :=
  match d.coefSet (d.slotFor d.now) with
  | some b => byteAt b 2 != b2n (d.footprintFor d.now).mono
  | none => false

/-- A switch of set or footprint: COR_MAP_MISMATCH when it produces the mismatch (R235). Of two switches at one AT only what
both leave counts. -/
def Dev.noteMap (st : Straps) (d : Dev) : Dev :=
  let now := d.mapDiffers
  let d1 := { d with tile.mapBad := now }
  if now && !d.tile.mapBad then (d1.set COR_STAT_MISMATCH_SEEN 1).event st EV_COR_MAP_MISMATCH 0 0 0 else d1

/-- COR_CANVAS_MISMATCH when the active set's TF or PRIM differs from COR_CANVAS (R229). -/
def Dev.noteCanvas (st : Straps) (d : Dev) : Dev :=
  match d.coefSet (d.get COR_STAT_ACTIVE) with
  | some b =>
    if byteAt b 4 != d.get COR_CANVAS_TF || byteAt b 5 != d.get COR_CANVAS_PRIM then
      (d.set COR_STAT_MISMATCH_SEEN 1).event st EV_COR_CANVAS_MISMATCH 0 0 0
    else d
  | none => d

/-! Footprint changes (R213, R469). -/

/-- Whether AT is later than the present time of every accepted flip. -/
def Dev.afterFlips (d : Dev) (t : Nat) : Bool := (d.host.queue ++ d.host.flying).all fun f => decide (f.present < t)

/-- CMP_FP_ARM.ARM. -/
def Dev.opFpArm (st : Straps) (d : Dev) : Dev :=
  if d.fpAt < d.now + armMargin || (isSender st && !d.afterFlips d.fpAt) then d.set CMP_STAT_FP_LATE 1
  else d.set CMP_FP_ARM_PEND 1

/-- CMP_FP_ARM.DISARM. -/
def Dev.opFpDisarm (d : Dev) : Dev := d.set CMP_FP_ARM_PEND 0

/-- FOOTPRINT_ARM (R213). -/
def execFootprintArm (init : Initiator) (s : State) : Host.Outcome State Fault Refusal :=
  runBy init (fun _ _ => true) (fun st d => d.opFpArm st) s

/-- FOOTPRINT_DISARM (R213, R469). -/
def execFootprintDisarm (init : Initiator) (s : State) : Host.Outcome State Fault Refusal :=
  runBy init (fun _ _ => true) (fun _ d => d.opFpDisarm) s

/-- NEXT becomes CUR: the tile's footprint, or every entry of a sender's map. -/
def Dev.copyFootprints (st : Straps) (d : Dev) : Dev :=
  if isTile st then (d.wr CMP_FP_CUR0 (d.rd CMP_FP_NEXT0)).wr CMP_FP_CUR1 (d.rd CMP_FP_NEXT1)
  else d.each (List.range 256) fun d n =>
    let x := n / 64
    let q := n % 64
    (d.wr (CMP_FM_CUR0 x q) (d.rd (CMP_FM_NEXT0 x q))).wr (CMP_FM_CUR1 x q) (d.rd (CMP_FM_NEXT1 x q))

/-- FOOTPRINT_SWITCH (R213). -/
def execFootprintSwitch (s : State) : Host.Outcome State Fault Refusal :=
  runIf (fun _ d => d.awake && d.getb CMP_FP_ARM_PEND && decide (d.fpAt ≤ d.now))
    (fun st d =>
      let d1 := ((d.copyFootprints st).set CMP_FP_ARM_PEND 0).event st EV_CMP_FP_SWITCH 0 0 0
      if isTile st then d1.noteMap st else d1) s

/-! Set switches (R236, R238, R469). -/

/-- AT of a set switch. -/
def Dev.corAt (d : Dev) : Nat := d.timeOf COR_AT_NS_NS COR_AT_SL_S COR_AT_SH_S

/-- COR_ARM.ARM. -/
def Dev.opCorArm (d : Dev) : Dev :=
  if !d.getb COR_STAT_READY || d.corAt < d.now + armMargin then d.set COR_STAT_ARM_LATE 1 else d.set COR_STAT_PEND 1

/-- COR_ARM.DISARM. -/
def Dev.opCorDisarm (d : Dev) : Dev := d.set COR_STAT_PEND 0

/-- COR_ARM (R238). -/
def execCorArm (init : Initiator) (s : State) : Host.Outcome State Fault Refusal :=
  runBy init (fun st _ => isTile st) (fun _ d => d.opCorArm) s

/-- COR_DISARM (R238, R469). -/
def execCorDisarm (init : Initiator) (s : State) : Host.Outcome State Fault Refusal :=
  runBy init (fun st _ => isTile st) (fun _ d => d.opCorDisarm) s

/-- COEF_SET_LOADED: READY is set, and COR_SET_STAGED recorded for a set that was transferred (R236, R239). -/
def execCoefSetLoaded (s : State) : Host.Outcome State Fault Refusal :=
  runTile (fun st d =>
    match d.tile.loading with
    | some moved => ({ d.nvmRead with tile.loading := none }.set COR_STAT_READY 1).eventIf st moved EV_COR_SET_STAGED 0 0 0
    | none => d) s

/-- COEF_SET_SWITCH: the staged slot becomes active (R238). -/
def execCoefSetSwitch (s : State) : Host.Outcome State Fault Refusal :=
  runIf (fun st d => isTile st && d.awake && d.getb COR_STAT_PEND && decide (d.corAt ≤ d.now))
    (fun st d =>
      let d1 := { d with tile.actCommit := some d.ticks }.setAll
        [(COR_STAT_ACTIVE, d.tile.staged), (COR_STAT_PEND, 0), (COR_STAT_READY, 0)]
      (((d1.showCoef).event st EV_COR_SET_SWITCH 0 0 0).noteMap st).noteCanvas st) s

/-- COEF_ACTIVATION_COMMIT: the new slot's activation sequence is one more than the higher of the two (R238). -/
def execCoefActivationCommit (s : State) : Host.Outcome State Fault Refusal :=
  runIf (fun st d => isTile st && d.awake && d.tile.actCommit.isSome)
    (fun _ d =>
      let act := max (d.coefSeqOf 0).2 (d.coefSeqOf 1).2 + 1
      let d1 := { d with
        tile.actCommit := none
        nvm.coefSeq := modAt d.nvm.coefSeq (d.get COR_STAT_ACTIVE) fun q => (q.1, act % 65536) }
      d1.countWrite.showCoef) s

/-- A write of COR_CANVAS: a reserved encoding leaves its field (R8, R229). -/
def Dev.opCorCanvas (st : Straps) (v : Nat) (d : Dev) : Dev :=
  let tf := natBits v 0 4
  let prim := natBits v 4 4
  let d1 := if tf ≤ 3 then d.set COR_CANVAS_TF tf else d
  let d2 := if prim ≤ 2 then d1.set COR_CANVAS_PRIM prim else d1
  d2.noteCanvas st

/-- COR_CANVAS_WRITE (R229). -/
def execCorCanvasWrite (init : Initiator) (value : Word) (s : State) : Host.Outcome State Fault Refusal :=
  runBy init (fun st _ => isTile st) (fun st d => d.opCorCanvas st value.toNat) s

/-! Sets to and from the device (R236, R237). -/

/-- The slot that a transfer writes: the one that is not active, or with none active the one with the lower staging
sequence. -/
def Dev.coefTarget (d : Dev) : Nat :=
  match d.get COR_STAT_ACTIVE with
  | 0 => 1
  | 1 => 0
  | _ => if (d.coefSeqOf 1).1 < (d.coefSeqOf 0).1 then 1 else 0

/-- No staged set is loaded, or being loaded. -/
def Dev.unloadStaged (d : Dev) : Dev := { d.set COR_STAT_READY 0 with tile.loading := none }

/-- A set that is not stored leaves the slot it was written into empty; a staged set in the other slot stays (R235). -/
def Dev.emptyCoefSlot (slot : Nat) (d : Dev) : Dev :=
  let d1 := if slot = d.tile.staged then d.unloadStaged else d
  (d1.setSlots NK_COEF (setAt d1.nvm.coef slot NvmSlot.empty)).countWrite.showCoef

/-- The reason for which a set that has arrived is not stored: the checks of R235, or a failing write (R237). -/
def Dev.coefFails (bytes : List Byte) (d : Dev) : Option Nat × Dev :=
  match coefSetReason bytes with
  | some r => (some r, d)
  | none =>
    let w := d.writeFails
    (if w.1 then some 7 else none, w.2)

/-- A set is written to its slot: committed when it passes the checks, and the slot left empty otherwise. The answer is
the failing reason. -/
def Dev.storeCoefSet (bytes : List Byte) (d : Dev) : Option Nat × Dev :=
  let slot := d.coefTarget
  let seq := max (d.coefSeqOf 0).1 (d.coefSeqOf 1).1 + 1
  let f := d.coefFails bytes
  match f.1 with
  | some r => (some r, f.2.emptyCoefSlot slot)
  | none =>
    let d1 := f.2.unloadStaged
    let q := d1.nextSeq NK_COEF
    let d2 := (d1.writeSlot NK_COEF slot bytes).commitSlot NK_COEF slot q
    (none, ({ d2 with
      nvm.coefSeq := setAt d2.nvm.coefSeq slot (seq % 65536, 0)
      tile.loading := some true, tile.staged := slot }).showCoef)

/-- At start-up, the slot to run with: committed, passing the checks, with the highest nonzero activation sequence
(R239). -/
def Dev.activeAtStart (d : Dev) : Nat :=
  let ok (n : Nat) : Bool := (d.coefSeqOf n).2 != 0 && (coefSetReason (d.slotObject NK_COEF n)).isNone
  if ok 0 && ok 1 then (if (d.coefSeqOf 0).2 < (d.coefSeqOf 1).2 then 1 else 0)
  else if ok 0 then 0
  else if ok 1 then 1
  else 3

/-- The staged set of a start-up: a committed set that was never activated, in a slot that is not active; of two, the one
staged last (R239; log entry 154). -/
def Dev.stagedAtStart (d : Dev) (active : Nat) : Option Nat :=
  let ok (n : Nat) : Bool :=
    n != active && d.coefHeld n && (d.coefSeqOf n).2 == 0 && (coefSetReason (d.slotObject NK_COEF n)).isNone
  if ok 0 && ok 1 then some (if (d.coefSeqOf 0).1 < (d.coefSeqOf 1).1 then 1 else 0)
  else if ok 0 then some 0
  else if ok 1 then some 1
  else none

/-- Start-up makes a set active, and loads the staged one (R239). -/
def Dev.startCoef (st : Straps) (d : Dev) : Dev :=
  let act := d.activeAtStart
  let staged := d.stagedAtStart act
  let d1 := { d.set COR_STAT_ACTIVE act with
    tile.loading := staged.map fun _ => false
    tile.staged := staged.getD 0 }
  let d2 := ((d1.showCoef).eventIf st (act == 3) EV_COR_NO_SET 0 0 0).noteCanvas st
  { d2 with tile.mapBad := d2.mapDiffers }

end Sys2Proof.Machine
end

