-- ==== Sys2Proof/Machine/Sec.lean ====
section
/-! DEFINITION. The trusted part: keys and tokens, manifests, the lease, staging, readiness, activation, attestation, UPDATE
packets, the service-port commands and the monitor calls (spec/15_firmware_trust_update.md R332 to R358, R364, R365). -/

namespace Sys2Proof.Machine

/-! Keys (R333, R334). -/

/-- The device is OWNED while slot 1 holds a key. -/
def Dev.owned (d : Dev) : Bool := d.nvm.trusted.slot1.isSome

/-- The public key of a key slot. -/
def Dev.keyOf (d : Dev) (slot : Nat) : Option (List Byte) := if slot = 0 then some Config.slot0Key else d.nvm.trusted.slot1

/-- `sig` verifies over `msg` with a slot's key. -/
def Dev.verify (d : Dev) (slot : Nat) (msg sig : List Byte) : Bool :=
  match d.keyOf slot with
  | some k => hssVerify k msg sig
  | none => false

/-! Manifests (R348, R349). -/

/-- The limits of an entry. -/
def MEntry.ok (e : MEntry) : Bool :=
  if e.kind == 1 || e.kind == 2 then e.hashes.length == (e.length + 65535) / 65536 && decide (e.length ≤ 786432)
  else if e.kind == 3 then e.hashes.isEmpty && decide (e.length ≤ 262144)
  else e.kind == 4 && e.hashes.isEmpty

/-- The limits of the header's fields. -/
def mfstHeaderOk (m : List Byte) : Bool :=
  leAt m 0 4 == 0x54464D4F && leAt m 4 2 == 1 && decide (mfstKeyslot m ≤ 1) && decide (1 ≤ byteAt m 7) &&
  decide (byteAt m 7 ≤ 4) && decide (mfstFloor m ≤ mfstSvn m) && decide (mfstLength m ≤ 16384)

/-- The header, and the entries' limits and sizes. -/
def mfstShape (m : List Byte) : Bool :=
  mfstHeaderOk m && (mfstEntries m).all MEntry.ok &&
  mfstLength m == 64 + ((mfstEntries m).map MEntry.size).sum && decide (mfstLength m ≤ m.length)

/-- A manifest of at most 16 KiB whose signature verifies. -/
def Dev.mfstSigned (d : Dev) (m : List Byte) : Bool :=
  mfstShape m && decide (m.length ≤ 16384) &&
  d.verify (mfstKeyslot m) (m.take (mfstLength m)) (m.drop (mfstLength m))

/-- A UCODE entry carries a valid endorsement where KEYSLOT = 1 asks for one. -/
def Dev.endorsed (d : Dev) (m : List Byte) : Bool :=
  mfstKeyslot m != 1 ||
  (mfstEntries m).all fun e => e.kind != 3 || d.verify 0 e.signed e.endorsement

/-- The status with which a manifest is accepted or refused (R349). -/
def Dev.mfstStatus (st : Straps) (m : List Byte) (d : Dev) : Nat :=
  let keyOk := if mfstKeyslot m = 0 then !d.owned || d.nvm.trusted.vendorOk else d.owned
  let entriesOk := (mfstEntry m (mgmtKind st)).isSome && (!isTile st || (mfstEntry m 3).isSome)
  if !d.mfstSigned m || !keyOk || !d.endorsed m then ST_SIG_FAIL
  else if mfstSvn m < d.nvm.trusted.svnFloor then ST_SVN_LOW
  else if entriesOk then ST_OK else ST_SIG_FAIL

/-! What stands in eMRAM (R338, R351). -/

/-- The staged manifest, empty when there is none. -/
def Dev.mfstStaged (d : Dev) : List Byte := if d.nvm.trusted.staged then d.slotObject 1 d.otherMfst else []

/-- The active microcode, and the one in the other slot. -/
def Dev.ucodeActive (d : Dev) : List Byte := d.slotObject 3 d.nvm.trusted.ucode
def Dev.ucodeOther (d : Dev) : List Byte := d.slotObject 3 (1 - d.nvm.trusted.ucode)

/-- The bytes of an image are those that an entry names. -/
def imageIs (area : List Byte) (e : MEntry) : Bool := decide (e.length ≤ area.length) && sha256 (area.take e.length) == e.target

/-- The bytes of a management area: 0 the running image, 1 the staging area. -/
def Dev.mgmt (d : Dev) (slot : Nat) : List Byte := (nth d.nvm.mgmt slot NvmSlot.empty).bytes

/-! Load tables (R343). -/

/-- An entry of a management image's load table. -/
structure LoadEntry where
  core : Nat
  /-- The core starts at this segment. -/
  starts : Bool
  sramOff : Nat
  imgOff : Nat
  len : Nat
  deriving DecidableEq, Repr

/-- The sixteen entries at the start of an image. -/
def loadTable (img : List Byte) : List LoadEntry :=
  (List.range 16).map fun k =>
    { core := byteAt img (16 * k), starts := natBit (byteAt img (16 * k + 1)) 0, sramOff := leAt img (16 * k + 4) 4,
      imgOff := leAt img (16 * k + 8) 4, len := leAt img (16 * k + 12) 4 }

/-- The segments of a core. -/
def coreEntries (img : List Byte) (core : Nat) : List LoadEntry := (loadTable img).filter fun e => e.core == core

/-- Each core has exactly one ENTRY segment. -/
def loadTableOk (img : List Byte) : Bool := [0, 1].all fun c => ((coreEntries img c).filter LoadEntry.starts).length == 1

/-- What a core is loaded with. -/
def coreLoad (img : List Byte) (core : Nat) : CoreLoad :=
  { entry := (((coreEntries img core).find? LoadEntry.starts).map LoadEntry.sramOff).getD 0
    segments := (coreEntries img core).map fun e => (e.sramOff, slice img e.imgOff e.len) }

/-- A management area holds the image that an entry names, without an uncorrectable word, and with a load table that starts
each core (R339, R341, R343). -/
def Dev.mgmtIs (d : Dev) (slot : Nat) (e : MEntry) : Bool :=
  !d.areaBad (slotArea NK_MGMT slot) e.length && imageIs (d.mgmt slot) e && loadTableOk (d.mgmt slot)

/-- Microcode chunks done: the built one, or the active one, is the one that the manifest names. -/
def Dev.ucodeReady (m : List Byte) (d : Dev) : Bool :=
  match mfstEntry m 3 with
  | some e => (d.nvm.trusted.built && imageIs d.ucodeOther e) || imageIs d.ucodeActive e
  | none => true

/-- Every chunk of the role's management image is verified, or its entry is the one in force. -/
def Dev.mgmtReady (st : Straps) (m : List Byte) (d : Dev) : Bool :=
  d.mgmtSame st m ||
  match mfstEntry m (mgmtKind st) with
  | some e => d.nvm.trusted.chunks == e.hashes.length
  | none => false

/-- The images that a manifest names are there: the management image in one of the two areas, and the microcode (R341
step 4). -/
def Dev.imagesOk (st : Straps) (m : List Byte) (mgmt : Nat) (ucode : List Byte) (d : Dev) : Bool :=
  (match mfstEntry m (mgmtKind st) with
   | some e => d.mgmtIs mgmt e
   | none => false) &&
  (match mfstEntry m 3 with
   | some e => imageIs ucode e
   | none => !isTile st)

/-- A manifest and the images it names verify (R341, R342). -/
def Dev.verifies (st : Straps) (m : List Byte) (mgmt : Nat) (ucode : List Byte) (d : Dev) : Bool :=
  d.mfstSigned m && d.imagesOk st m mgmt ucode

/-- The device can return to the previous manifest (R355): its images are the staging image, or the running one where both
manifests name it, and likewise the microcode. -/
def Dev.previousVerifies (st : Straps) (d : Dev) : Bool :=
  let m := d.slotObject 1 d.otherMfst
  !d.nvm.trusted.staged &&
  d.verifies st m (if d.mgmtSame st m then 0 else 1)
    (match mfstEntry m 3 with
     | some e => if imageIs d.ucodeActive e then d.ucodeActive else d.ucodeOther
     | none => [])

/-- ROLLBACK_OK. -/
def Dev.rollbackOk (st : Straps) (d : Dev) : Bool :=
  d.previousVerifies st && decide (d.nvm.trusted.svnFloor ≤ mfstSvn (d.slotObject 1 d.otherMfst))

/-- The first bytes of the SHA-256 of a manifest, 0 when there is none. -/
def mfstHash (m : List Byte) : List Byte := if m.isEmpty then zeros 32 else sha256 m

/-! The lease (R350). -/

/-- The sources of update work. -/
def SRC_CHAIN : Nat := 1
def SRC_SVC : Nat := 2

/-- The lease in force. -/
def Dev.leaseOf (d : Dev) : Option (Nat × Nat × Nat) :=
  match d.sec.lease with
  | some l => if d.passed l.2.1 (secs 60) then none else some l
  | none => none

/-- READY was answered, and the lease that it needs still holds (R355). -/
def Dev.ready (d : Dev) : Bool := d.sec.readyFor.isSome && d.leaseOf.isSome

/-! The SEC registers (R365). -/

/-- SEC_UPD.STATE. -/
def Dev.updState (d : Dev) : Nat :=
  match d.nvm.trusted.switched with
  | some (_, true) => 4
  | _ =>
    if d.nvm.trusted.armed.isSome then 3
    else if d.ready then 2
    else if d.nvm.trusted.staged then 1
    else 0

/-- P_a of the armed record, in nanoseconds; 0 when none stands. -/
def Dev.armedAt (d : Dev) : Nat :=
  match d.nvm.trusted.armed with
  | some a => a.1
  | none => 0

/-- What a SEC register shows; `v` is the word held. -/
def Dev.secWord (st : Straps) (a : Nat) (v : Word) (d : Dev) : Word :=
  let t := d.nvm.trusted
  let n (x : Nat) : Word := BitVec.ofNat 32 x
  if a = SEC_DEVID_LO then Config.deviceId.setWidth 32
  else if a = SEC_DEVID_HI then (Config.deviceId >>> 32).setWidth 32
  else if a = SEC_STAT then
    n (b2n d.owned + 2 * b2n t.vendorOk + 4 * b2n t.onair + 8 * d.get SEC_STAT_RECOVERY +
      16 * (match d.leaseOf with | some l => l.1 | none => 0) + 64 * b2n (d.rollbackOk st))
  else if a = SEC_UPD then
    n (d.updState + 8 * b2n t.staged + 16 * t.chunks +
      256 * b2n (t.staged && d.ucodeReady d.mfstStaged) + 512 * d.get SEC_UPD_REASON)
  else if a = SEC_MFST then n (leAt (mfstHash d.mfstInForce) 0 4)
  else if a = SEC_MFST_REL then n (mfstRelease d.mfstInForce)
  else if a = SEC_SVN then n (mfstSvn d.mfstInForce + 65536 * t.svnFloor)
  else if a = SEC_LMS_LEFT then n (2 ^ 20 - t.nextQ)
  else if a = SEC_ACT_NS then n (d.armedAt % giga)
  else if a = SEC_ACT_SL then n (d.armedAt / giga)
  else if a = SEC_ACT_SH then n (d.armedAt / giga / 2 ^ 32 % 65536)
  else v

/-! Operations under the lease (R350). -/

/-- The other source holds the lease. -/
def Dev.leaseOther (d : Dev) (src : Nat) : Bool :=
  match d.leaseOf with
  | some l => l.1 != src
  | none => false

/-- This source holds the lease. -/
def Dev.leaseMine (d : Dev) (src : Nat) : Bool :=
  match d.leaseOf with
  | some l => l.1 == src
  | none => false

/-- The holder's operation renews the lease. -/
def Dev.renewed (d : Dev) (src : Nat) : Dev :=
  match d.leaseOf with
  | some l => if l.1 = src then { d with sec.lease := some (l.1, d.ticks, l.2.2) } else d
  | none => d

/-- An answer: status, VALUE and the device afterwards. -/
abbrev Answer := (Nat × Nat) × Dev

/-- An operation that the other source's lease refuses, and that renews its own. -/
def Dev.leased (src : Nat) (f : Dev → Answer) (d : Dev) : Answer :=
  if d.leaseOther src then ((ST_UPDATE_BUSY, 0), d) else f (d.renewed src)

/-- An operation that needs the lease. -/
def Dev.withLease (src : Nat) (f : Dev → Answer) (d : Dev) : Answer :=
  d.leased src fun d => if d.leaseMine src then f d else ((ST_NO_LEASE, 0), d)

/-- UPD_OPEN. A READY answer given under an earlier lease does not stand under a new one (R355). -/
def Dev.opUpdOpen (src session : Nat) (d : Dev) : Answer :=
  d.leased src fun d => ((ST_OK, 0), { d with
    sec.lease := some (src, d.ticks, session % 65536)
    sec.readyFor := if d.leaseMine src then d.sec.readyFor else none })

/-- UPD_RENEW. -/
def Dev.opUpdRenew (src : Nat) (d : Dev) : Answer := d.withLease src fun d => ((ST_OK, 0), d)

/-- UPD_CLOSE: the device is no longer READY; an armed activation stands. -/
def Dev.opUpdClose (src : Nat) (d : Dev) : Answer :=
  d.leased src fun d => ((ST_OK, 0), { d with sec.lease := none, sec.readyFor := none })

/-- LEASE_EXPIRE: 60 s after the last renewal. -/
def execLeaseExpire (s : State) : Host.Outcome State Fault Refusal :=
  runIf (fun _ d => d.awake && d.leaseOf.isNone) (fun _ d => { d with sec.lease := none, sec.readyFor := none }) s

/-! Tokens and enrolment (R335 to R337). -/

/-- The trusted store holds SVC_PERM and ENROLL as they stand (R337). -/
def Dev.keepPriv (d : Dev) : Dev :=
  ({ d with nvm.trusted.svcPerm := d.get SEC_PRIV_SVC_PERM, nvm.trusted.enroll := d.get SEC_PRIV_ENROLL }).countWrite

/-- The privileged settings return to their secure defaults. -/
def Dev.secureDefaults (d : Dev) : Dev :=
  (d.setAll [(SEC_PRIV_DEBUG, 0), (SEC_PRIV_SVC_PERM, 13), (SEC_PRIV_ENROLL, 0)]).keepPriv

/-- The fields of a token (R336). -/
def tokType (t : List Byte) : Nat := leAt t 0 2
def tokSeq (t : List Byte) : Nat := leAt t 4 4
def tokDevice (t : List Byte) : Nat := leAt t 8 8
def tokAfter (t : List Byte) : Nat := natBits (leAt t 16 8) 0 48
def tokArg (t : List Byte) : Nat := leAt t 24 4

/-- Every check of a token. -/
def Dev.tokenOk (t : List Byte) (d : Dev) : Bool :=
  decide (64 < t.length) && decide (t.length ≤ 8192) && d.verify (if d.owned then 1 else 0) (t.take 64) (t.drop 64) &&
  decide (1 ≤ tokType t) && decide (tokType t ≤ 7) && decide (d.nvm.trusted.tseq < tokSeq t) &&
  (tokDevice t == Config.deviceId.toNat || (tokDevice t == 0 && tokType t != 4)) &&
  (tokAfter t == 0 || decide (d.time.clk.sec ≤ tokAfter t))

/-- A token's TSEQ is committed. -/
def Dev.useToken (t : List Byte) (d : Dev) : Dev := { d with nvm.trusted.tseq := tokSeq t }.countWrite

/-- The effect of a token of each TYPE. -/
def Dev.applyToken (t : List Byte) (d : Dev) : Dev :=
  match tokType t with
  | 2 => { d with nvm.trusted.onair := true }
  | 3 => { d with nvm.trusted.onair := false }
  | 4 => d.set SEC_PRIV_DEBUG 1
  | 5 => (d.set SEC_PRIV_SVC_PERM (tokArg t % 16)).keepPriv
  | 6 => if tokArg t % 4 = 3 then d else (d.set SEC_PRIV_ENROLL (tokArg t % 4)).keepPriv
  | 7 => { d with nvm.trusted.slot1 := none, nvm.trusted.vendorOk := false }
  | _ => d

/-- A token arrives (R336): a CLEAR_REC token is held, any other is used at once. -/
def Dev.opToken (t : List Byte) (d : Dev) : Answer :=
  if !d.tokenOk t then ((ST_TOKEN_BAD, 0), d)
  else if tokType t = 1 then ((ST_OK, 0), { d with sec.clearToken := some t })
  else ((ST_OK, 0), (d.useToken t).applyToken t)

/-- An enrolment request (R335). Bytes that are not the 64 of a request are refused as one (log entry 155). -/
def Dev.opEnroll (st : Straps) (src : Nat) (b : List Byte) (d : Dev) : Answer :=
  let policy := d.get SEC_PRIV_ENROLL
  if b.length != 64 || d.owned || !(policy == 1 || (policy == 0 && src == SRC_SVC)) then ((ST_ENROLL_DENIED, 0), d)
  else
    ((ST_OK, 0), ({ d with
      nvm.trusted.slot1 := some (slice b 4 60)
      nvm.trusted.vendorOk := natBit (byteAt b 0) 0 }.countWrite).event st EV_SEC_ENROLLED 0 0 0)

/-! Staging (R351, R352). -/

/-- Bytes that have come so far of an object sent in pieces: a piece at 0 starts it, a gap stops it. -/
def extendPart (part : List Byte) (off : Nat) (data : List Byte) : Option (List Byte) :=
  if off = 0 then some data
  else if off ≤ part.length then some (part.take off ++ data)
  else none

/-- A manifest that has arrived whole is accepted, and stored, or refused (R349, R351). -/
def Dev.takeManifest (st : Straps) (part : List Byte) (d : Dev) : Answer :=
  let status := d.mfstStatus st part
  if status ≠ ST_OK then ((status, 0), d)
  else
    if d.nvm.trusted.staged && d.mfstStaged == part then ((ST_OK, 0), d)
    else
      let q := d.nextSeq 1
      let d1 := (d.writeSlot 1 d.otherMfst part).commitSlot 1 d.otherMfst q
      ((ST_OK, 0), { d1 with
        nvm.trusted.staged := true, nvm.trusted.chunks := 0, nvm.trusted.built := false, nvm.delta := []
        sec.readyFor := none, sec.stage := [] })

/-- The signature after `n` signed bytes has come whole, or can no longer be one; `limit` is the object's largest size. -/
def sigWhole (limit n : Nat) (part : List Byte) : Bool :=
  match parseHss (part.drop n) with
  | .short => decide (limit ≤ part.length)
  | _ => true

/-- Whether the bytes of a MANIFEST object that comes in pieces are judged: they are whole, or no further piece makes them
so. -/
def objectWhole (content : Nat) (part : List Byte) : Bool :=
  match content with
  | 0 => decide (64 ≤ part.length) &&
      (!mfstHeaderOk part || (decide (mfstLength part ≤ part.length) && (!mfstShape part || sigWhole 16384 (mfstLength part) part)))
  | 1 => decide (64 < part.length) && sigWhole 8192 64 part
  | _ => decide (64 ≤ part.length)

/-- Bytes of a MANIFEST object arrive: CONTENT 0 a manifest, under the lease; 1 a token; 2 an enrolment request. `last` says
that no more follow: the transfer of a bulk object is over (R335, R336, R349). -/
def Dev.opManifest (st : Straps) (src content off : Nat) (data : List Byte) (last : Bool) (d : Dev) : Answer :=
  let old := if d.sec.mfstPart.1 = content then d.sec.mfstPart.2 else []
  let take (d : Dev) : Answer :=
    match extendPart old off data with
    | none => ((ST_STAGE_ORDER, 0), d)
    | some part =>
      if !last && !objectWhole content part then ((ST_OK, 0), { d with sec.mfstPart := (content, part) })
      else
        let d1 := { d with sec.mfstPart := (0, []) }
        match content with
        | 0 => d1.takeManifest st part
        | 1 => d1.opToken part
        | _ => d1.opEnroll st src part
  match content with
  | 0 => d.withLease src take
  | 1 => take d
  | 2 => take d
  | _ => ((ST_BAD_PARAM, 0), d)

/-! Chunks of the management image (R351). -/

/-- The chunks that a piece touches, each with its offset in the chunk and its bytes. -/
def piecesOf (off : Nat) (data : List Byte) : List (Nat × Nat × List Byte) :=
  (List.range ((off % 65536 + data.length + 65535) / 65536)).map fun k =>
    let start := if k = 0 then off % 65536 else 0
    let skip := if k = 0 then 0 else 65536 * k - off % 65536
    (off / 65536 + k, start, (data.drop skip).take (65536 - start))

/-- The length of a chunk of an image. -/
def MEntry.chunkLen (e : MEntry) (c : Nat) : Nat := min 65536 (e.length - 65536 * c)

/-- These bytes begin with a chunk of the image. -/
def MEntry.isChunk (e : MEntry) (c : Nat) (b : List Byte) : Bool :=
  decide (c < e.hashes.length) && decide (e.chunkLen c ≤ b.length) && nth e.hashes c [] == sha256 (b.take (e.chunkLen c))

/-- A verified chunk is written to the staging area; with the last one the image is committed there. -/
def Dev.commitChunk (e : MEntry) (c : Nat) (b : List Byte) (d : Dev) : Dev :=
  let chunk := b.take (e.chunkLen c)
  let d1 := (d.setSlots NK_MGMT (modAt d.nvm.mgmt 1 fun s =>
    { s with bytes := putBytes (padTo (65536 * c) s.bytes) (65536 * c) chunk, written := 65536 * c + chunk.length })).clearBadIn
    (slotArea NK_MGMT 1) (65536 * c) chunk.length
  let d2 := { d1 with nvm.trusted.chunks := c + 1, sec.readyFor := none }.countWrite
  if c + 1 = e.hashes.length then d2.commitSlot NK_MGMT 1 (d2.nextSeq NK_MGMT) else d2

/-- The answer to bytes of a chunk that are not it: before the first unverified chunk they are ignored, after it they are out
of order. -/
def chunkFails (chunks c : Nat) : Nat :=
  if c < chunks then ST_OK else if c = chunks then ST_CHUNK_HASH else ST_STAGE_ORDER

/-- The length of the chunk numbered c of the other role's image, 0 where it has none. -/
def otherLen (other : Option MEntry) (c : Nat) : Nat := (other.map fun o => o.chunkLen c).getD 0

/-- What has come of a chunk is judged: it is the device's own chunk, the other role's, which is ignored, or fails once it is
long enough for either; else it is kept until more comes (log entry 115). -/
def Dev.judgeChunk (e : MEntry) (other : Option MEntry) (c : Nat) (b : List Byte) (d : Dev) : Answer :=
  let chunks := d.nvm.trusted.chunks
  if e.isChunk c b then
    let d1 := { d with sec.stage := d.sec.stage.filter fun p => p.1 != c }
    if c = chunks then ((ST_OK, 0), d1.commitChunk e c b) else ((chunkFails chunks c, 0), d1)
  else if other.any fun o => o.isChunk c b then ((ST_OK, 0), d)
  else if max (e.chunkLen c) (otherLen other c) ≤ b.length then ((chunkFails chunks c, 0), d)
  else ((ST_OK, 0), { d with sec.stage := ((c, b) :: d.sec.stage).take 2 })

/-- A piece of one chunk: it starts the chunk, or goes on where an earlier piece ended. A chunk past the first unverified one
is out of order, unless it can be one of the other role's image (log entry 115). -/
def Dev.stageChunk (e : MEntry) (other : Option MEntry) (c start : Nat) (data : List Byte) (d : Dev) : Answer :=
  let chunks := d.nvm.trusted.chunks
  if chunks < c ∧ otherLen other c = 0 then ((ST_STAGE_ORDER, 0), d)
  else if start = 0 then d.judgeChunk e other c data
  else
    match d.sec.stage.find? fun p => p.1 == c && p.2.length == start with
    | some p => { d with sec.stage := d.sec.stage.filter fun q => q != p }.judgeChunk e other c (p.2 ++ data)
    | none => ((if c < chunks then ST_OK else ST_STAGE_ORDER, 0), d)

/-- Pieces in order, until one fails. -/
def Dev.stageChunks (e : MEntry) (other : Option MEntry) : List (Nat × Nat × List Byte) → Dev → Answer
  | [], d => ((ST_OK, 0), d)
  | p :: rest, d =>
    let r := d.stageChunk e other p.1 p.2.1 p.2.2
    if r.1.1 = ST_OK then r.2.stageChunks e other rest else r

/-- The transfer is over: a chunk of which all came that the device's own image has, and that is not it, has failed; what came of
any other waits for the transfer that goes on with it. -/
def Dev.endStage (e : MEntry) (r : Answer) : Answer :=
  let whole (p : Nat × List Byte) : Bool := p.2.length == e.chunkLen p.1
  match r.2.sec.stage.find? whole with
  | some p =>
    let d1 := { r.2 with sec.stage := r.2.sec.stage.filter fun p => !whole p }
    (if r.1.1 = ST_OK then (chunkFails d1.nvm.trusted.chunks p.1, 0) else r.1, d1)
  | none => r

/-- Bytes of the management image arrive; `last` says that the transfer of a bulk object is over with them. -/
def Dev.opMgmtStage (st : Straps) (src off : Nat) (data : List Byte) (last : Bool) (d : Dev) : Answer :=
  d.withLease src fun d =>
    match mfstEntry d.mfstStaged (mgmtKind st) with
    | none => ((ST_NOT_READY, 1), d)
    | some e =>
      let r := d.stageChunks e (mfstEntry d.mfstStaged (3 - mgmtKind st)) (piecesOf off data)
      if last then Dev.endStage e r else r

/-- What the records of a delta build from the source: `none` while they are not whole, `some none` when they are not
valid. -/
def deltaRecords (src : Option (List Byte)) : Nat → List Byte → List Byte → Option (Option (List Byte))
  | 0, _, _ => none
  | n + 1, b, out =>
    match b with
    | [] => none
    | k :: rest =>
      if k = 0 then some (some out)
      else if k = 1 then
        match src with
        | none => some none
        | some s =>
          if rest.length < 8 then none
          else if s.length < leAt rest 0 4 + leAt rest 4 4 then some none
          else deltaRecords src n (rest.drop 8) (out ++ slice s (leAt rest 0 4) (leAt rest 4 4))
      else if k = 2 then
        if rest.length < 4 then none
        else if rest.length < 4 + leAt rest 0 4 then none
        else deltaRecords src n (rest.drop (4 + leAt rest 0 4)) (out ++ (rest.drop 4).take (leAt rest 0 4))
      else some none

/-- SOURCE_HASH of a delta. -/
def deltaSource (b : List Byte) : List Byte := slice b 4 32

/-- A delta whose header has come: discarded, applied, or still to be completed. One that holds an uncorrectable word fails
(R339). -/
def Dev.judgeDelta (e : MEntry) (d : Dev) : Answer :=
  let b := d.nvm.delta
  let full := deltaSource b == zeros 32
  let drop (status : Nat) : Answer := ((status, 0), { d with nvm.delta := [] })
  if leAt b 0 4 ≠ 0x544C4544 || d.areaBad (some .delta) b.length then drop ST_CHUNK_HASH
  else if !full && deltaSource b != sha256 d.ucodeActive then drop ST_SOURCE_MISMATCH
  else
    match deltaRecords (if full then none else some d.ucodeActive) b.length (b.drop 64) [] with
    | none => if b.length < 262144 then ((ST_OK, 0), d) else drop ST_CHUNK_HASH
    | some none => drop ST_CHUNK_HASH
    | some (some out) =>
      if out.length = leAt b 36 4 ∧ out.length = e.length ∧ sha256 out = e.target then
        let slot := 1 - d.nvm.trusted.ucode
        let d1 := (d.writeSlot 3 slot out).commitSlot 3 slot (d.nextSeq 3)
        ((ST_OK, 0), { d1 with nvm.trusted.built := true, nvm.delta := [], sec.readyFor := none })
      else drop ST_CHUNK_HASH

/-- Bytes of a microcode delta arrive. -/
def Dev.opUcodeDelta (src off : Nat) (data : List Byte) (d : Dev) : Answer :=
  d.withLease src fun d =>
    match mfstEntry d.mfstStaged 3 with
    | none => ((ST_NOT_READY, 1), d)
    | some e =>
      if 262144 < off + data.length then ((ST_CHUNK_HASH, 0), { d with nvm.delta := [] })
      else
        match extendPart d.nvm.delta off data with
        | none => ((ST_STAGE_ORDER, 0), d)
        | some b =>
          let d1 := ({ d with nvm.delta := b }.clearBadIn (some .delta) off data.length).countWrite
          if b.length < 64 then ((ST_OK, 0), d1) else d1.judgeDelta e

/-- A piece of a staging object arrives: 1 MGMT_STAGE, 2 UCODE_DELTA, 3 MANIFEST (R353, R365). -/
def Dev.opStage (st : Straps) (src object content off : Nat) (data : List Byte) (d : Dev) : Answer :=
  match object with
  | 1 => d.opMgmtStage st src off data false
  | 2 => d.opUcodeDelta src off data
  | 3 => d.opManifest st src content off data false
  | _ => ((ST_BAD_PARAM, 0), d)

/-! Readiness and activation (R354 to R356). -/

/-- Why R354 refuses: 1 ONAIR, 2 BKUP_N, 3 MOTION_N; 0 when it does not. -/
def Dev.refuses (d : Dev) : Nat :=
  if d.nvm.trusted.onair then 1 else if d.getb GEN_STAT_BKUP then 2 else if d.getb GEN_STAT_MOTION then 3 else 0

/-- The reason why the device is not READY; 0 when it is (R355). -/
def Dev.notReady (st : Straps) (rollback : Bool) (d : Dev) : Nat :=
  if rollback then
    if !d.previousVerifies st then 6 else if d.rollbackOk st then 0 else 5
  else
    let m := d.mfstStaged
    if m.isEmpty then 1
    else if mfstSvn m < d.nvm.trusted.svnFloor then 5
    else if !d.mgmtReady st m then 2
    else if !d.ucodeReady m then 3
    else 0

/-- The answer of a device that is not READY. -/
def Dev.notReadyFor (reason : Nat) (d : Dev) : Answer :=
  ((ST_NOT_READY, reason), { d with sec.readyFor := none }.set SEC_UPD_REASON reason)

/-- UPD_PREPARE at this device. -/
def Dev.opUpdPrepare (st : Straps) (src : Nat) (rollback : Bool) (d : Dev) : Answer :=
  d.withLease src fun d =>
    if d.refuses ≠ 0 then ((ST_UPDATE_REFUSED, d.refuses), { d with sec.readyFor := none }.set SEC_UPD_REASON 4)
    else
      let r := d.notReady st rollback
      if r = 0 then ((ST_OK, 0), { d with sec.readyFor := some rollback }) else d.notReadyFor r

/-- P_a is refused: not on the frame grid, or not 1 to 60 s after the wall time (R356). With no canvas mode in force there is no
grid to miss (log entry 116). -/
def Dev.tooLate (st : Straps) (pa : Nat) (d : Dev) : Bool :=
  let offGrid :=
    if isSender st then d.get RING_FLIP_MODE_CUR != 0xFF && !onGrid (d.get RING_FLIP_MODE_CUR) pa
    else
      match d.tile.drive.mode with
      | some m => !onGrid m pa
      | none => false
  offGrid || decide (pa < d.now + giga) || decide (d.now + 60 * giga < pa)

/-- The microcode that a manifest names, in one of the two slots. -/
def Dev.ucodeNamed (d : Dev) (m : List Byte) : List Byte :=
  match mfstEntry m 3 with
  | some e => if imageIs d.ucodeActive e then d.ucodeActive else d.ucodeOther
  | none => []

/-- The pixel engines are loaded: the active microcode, and beside it that of an armed activation (R341, R357). -/
def Dev.loadEngines (d : Dev) : Dev :=
  { d with boot.engines := d.ucodeActive ::
      if d.nvm.trusted.armed.isSome then [d.ucodeNamed (d.slotObject 1 d.otherMfst)] else [] }.memWriteAll 0 engineCount
    .code

/-- A READY device commits an armed record (R356). One that could be READY but has answered no PREPARE is not; which of the
reasons it then gives is a free choice (log entry 117). -/
def Dev.arm (st : Straps) (pa : Nat) (d : Dev) : Answer :=
  let r := d.notReady st (d.sec.readyFor == some true)
  if r ≠ 0 then d.notReadyFor r
  else
    match d.sec.readyFor with
    | none =>
      let w := d.draw 6
      w.2.notReadyFor (w.1 + 1)
    | some rollback =>
      ((ST_OK, 0), { d with nvm.trusted.armed := some (pa, rollback), sec.readyFor := none }.countWrite.loadEngines)

/-- UPD_ACTIVATE at this device; `checked` when the sender has checked P_a. -/
def Dev.opUpdActivate (st : Straps) (src pa : Nat) (checked : Bool) (d : Dev) : Answer :=
  d.withLease src fun d =>
    if d.refuses ≠ 0 then ((ST_UPDATE_REFUSED, d.refuses), d.set SEC_UPD_REASON 4)
    else if (if checked then decide (pa ≤ d.now) else d.tooLate st pa) then ((ST_TOO_LATE, 0), d)
    else d.arm st pa

/-- The armed record is taken back, before P_a − 20 ms (R356). -/
def Dev.disarm (d : Dev) : Dev :=
  match d.nvm.trusted.armed with
  | some a => if d.now + 20000000 < a.1 then { d with nvm.trusted.armed := none }.countWrite.loadEngines else d
  | none => d

/-- UPD_ABORT at this device. -/
def Dev.opUpdAbort (src : Nat) (d : Dev) : Answer := d.leased src fun d => ((ST_OK, 0), d.disarm)

/-! UPDATE packets (R353). -/

/-- The body of an UPDATE. -/
def updateBody (session kind object off arg0 arg1 : Nat) (mfst data : List Byte) : List Byte :=
  leBytes session 2 ++ leBytes kind 1 ++ leBytes object 1 ++ leBytes off 4 ++ leBytes arg0 4 ++ leBytes arg1 8 ++
  slice mfst 0 12 ++ data

/-- The ports that feed tiles. -/
def Dev.feedPorts (d : Dev) : List Nat := [0, 1, 2, 3].filter fun x => d.portMode x == M_FEED

/-- A sender broadcasts an UPDATE on every port that feeds tiles. -/
def Dev.broadcast (st : Straps) (body : List Byte) (d : Dev) : Dev :=
  d.each d.feedPorts fun d x =>
    d.queueTx st x TQ_UPDATE (.bytes (senderPkt st d x PT_UPDATE true false 0 0 body) none false)

/-- SESSION of the sender's lease. -/
def Dev.session (d : Dev) : Nat :=
  match d.sec.lease with
  | some l => l.2.2
  | none => 0

/-- A broadcast without data, about a manifest. -/
def Dev.broadcastOp (st : Straps) (session kind flags pa : Nat) (m : List Byte) (d : Dev) : Dev :=
  d.broadcast st (updateBody session kind flags 0 (pa % giga) (pa / giga) (mfstHash m) [])

/-- The manifest that a PREPARE or an ACTIVATE concerns: the staged one, or the previous one. -/
def Dev.mfstConcerned (rollback : Bool) (d : Dev) : List Byte :=
  if rollback then (if d.nvm.trusted.staged then [] else d.slotObject 1 d.otherMfst) else d.mfstStaged

/-- The manifest that an OPEN, an ABORT, a CLOSE or a RENEW concerns: the staged one, or, with none staged, the previous one, to
which a rollback returns (log entry 158). -/
def Dev.mfstOfUpdate (d : Dev) : List Byte := d.mfstConcerned !d.nvm.trusted.staged

/-- The fields of an UPDATE packet. -/
def updObject (p : List Byte) : Nat := byteAt p 19
def updPa (p : List Byte) : Nat := natBits (leAt p 28 8) 0 48 * giga + natBits (leAt p 24 4) 0 30
def updMfst (p : List Byte) : List Byte := slice p 36 12
def updData (p : List Byte) : List Byte := slice p 48 (leAt p 24 4)

/-- The length of a DATA packet's data is one that R353 allows, and LEN is 32 more. -/
def updDataOk (p : List Byte) : Bool :=
  decide (4 ≤ leAt p 24 4) && decide (leAt p 24 4 ≤ 4096) && pktLen p == 32 + leAt p 24 4

/-- A tile obeys the packet: it comes from the accepted source, or none is accepted (R282). -/
def Dev.obeys (d : Dev) (p : List Byte) : Bool := d.fromAccepted p || d.tile.accepted.isNone

/-- The receipt of an UPDATE of a kind; one that the tile does not obey is answered TWIN_REJECT. -/
def onUpdate (kind : Nat) (f : Straps → List Byte → Dev → Dev) (s : State) : Host.Outcome State Fault Refusal :=
  runTile (fun st d => d.onRx (fun k => pktType k.bytes == PT_UPDATE && cmdKind k.bytes == kind) fun k d =>
    if d.obeys k.bytes then f st k.bytes d else d.respond st k.bytes ST_TWIN_REJECT 0 0 []) s

/-- The manifest named by an UPDATE is the one concerned; with none there, no other can be named. -/
def Dev.namesMfst (p : List Byte) (rollback : Bool) (d : Dev) : Bool :=
  (d.mfstConcerned rollback).isEmpty || updMfst p == slice (mfstHash (d.mfstConcerned rollback)) 0 12

/-- What is prepared or armed is a rollback. -/
def Dev.rollingBack (d : Dev) : Bool :=
  d.sec.readyFor == some true ||
  match d.nvm.trusted.armed with
  | some a => a.2
  | none => false

/-- An operation on the manifest that an UPDATE names; one that names another is answered NOT_READY, reason 1 (R353). -/
def Dev.updateNamed (p : List Byte) (rollback : Bool) (f : Dev → Answer) (d : Dev) : Answer :=
  if d.namesMfst p rollback then f d else d.leased SRC_CHAIN fun d => ((ST_NOT_READY, 1), d.set SEC_UPD_REASON 1)

/-- An UPDATE that is answered only when it names another manifest: OPEN, ABORT, CLOSE and RENEW. -/
def Dev.updateQuiet (st : Straps) (p : List Byte) (f : Dev → Answer) (d : Dev) : Dev :=
  if d.namesMfst p d.rollingBack then (f d).2
  else
    let r := d.updateNamed p d.rollingBack f
    r.2.respond st p r.1.1 r.1.2 0 []

/-- UPDATE_OPEN. -/
def execUpdateOpen (s : State) : Host.Outcome State Fault Refusal :=
  onUpdate 0 (fun st p d => d.updateQuiet st p (Dev.opUpdOpen SRC_CHAIN (cmdXid p))) s

/-- The effect of a DATA packet: the manifest concerned by a MANIFEST object is the one that it brings. Data of a length that
R353 does not allow fails (log entry 118). -/
def Dev.updateData (st : Straps) (p : List Byte) (d : Dev) : Answer :=
  if !updDataOk p then d.leased SRC_CHAIN fun d => ((ST_BAD_PARAM, 0), d)
  else
    let stage (d : Dev) : Answer := d.opStage st SRC_CHAIN (updObject p) 0 (leAt p 20 4) (updData p)
    if updObject p = 3 then stage d else d.updateNamed p false stage

/-- UPDATE_DATA: answered only when the data fails. -/
def execUpdateData (s : State) : Host.Outcome State Fault Refusal :=
  onUpdate 1 (fun st p d =>
    let r := d.updateData st p
    if r.1.1 = ST_OK then r.2 else r.2.respond st p r.1.1 r.1.2 0 []) s

/-- UPDATE_PREPARE. -/
def execUpdatePrepare (s : State) : Host.Outcome State Fault Refusal :=
  onUpdate 2 (fun st p d =>
    let rollback := natBit (updObject p) 0
    let r := d.updateNamed p rollback (Dev.opUpdPrepare st SRC_CHAIN rollback)
    r.2.respond st p r.1.1 r.1.2 0 []) s

/-- UPDATE_ACTIVATE. -/
def execUpdateActivate (s : State) : Host.Outcome State Fault Refusal :=
  onUpdate 3 (fun st p d =>
    let r := d.updateNamed p d.rollingBack (Dev.opUpdActivate st SRC_CHAIN (updPa p) true)
    r.2.respond st p r.1.1 r.1.2 0 []) s

/-- UPDATE_ABORT. -/
def execUpdateAbort (s : State) : Host.Outcome State Fault Refusal :=
  onUpdate 4 (fun st p d => d.updateQuiet st p (Dev.opUpdAbort SRC_CHAIN)) s

/-- UPDATE_CLOSE. -/
def execUpdateClose (s : State) : Host.Outcome State Fault Refusal :=
  onUpdate 5 (fun st p d => d.updateQuiet st p (Dev.opUpdClose SRC_CHAIN)) s

/-- UPDATE_RENEW. -/
def execUpdateRenew (s : State) : Host.Outcome State Fault Refusal :=
  onUpdate 6 (fun st p d => d.updateQuiet st p (Dev.opUpdRenew SRC_CHAIN)) s

/-! Wall-wide PREPARE and ACTIVATE at a sender (R356). -/

/-- The wall addresses present on the ports that feed tiles. -/
def Dev.fedTiles (d : Dev) : List Nat := d.feedPorts.flatMap fun x => (d.presentOn x).map fun q => d.wallAddr x q

/-- VALUE of a wall-wide operation: how many devices failed, the first of them, and whether the sender is one. -/
def wallValue (own : Nat) (self : Bool) (failed : List Nat) : Nat :=
  let n := failed.length + b2n (!self)
  let first := match failed with
    | a :: rest => rest.foldl min a
    | [] => if self then 0 else own
  n % 512 + 512 * (first % 4096) + 2 ^ 31 * b2n (!self)

/-- A wall-wide PREPARE ends. -/
def Dev.endPrepare (st : Straps) (m : Domino) (d : Dev) : Dev :=
  let failed := m.asked.filter fun a => !m.good.contains a
  { d with sec.domino := none }.finishDesc 1 m.index (if failed.isEmpty && m.self then ST_OK else ST_NOT_READY)
    (wallValue (ownAddr st d) m.self failed)

/-- It ends when every tile asked has answered. -/
def Dev.checkPrepare (st : Straps) (d : Dev) : Dev :=
  match d.sec.domino with
  | some m =>
    if !m.activate && m.asked.all fun a => m.good.contains a || m.bad.contains a then d.endPrepare st m else d
  | none => d

/-- VALUE of a PREPARE or ACTIVATE that only the sender carries out, or at which it fails at once (R356, R364); a refusal by
R354 carries its own. -/
def Dev.ownValue (st : Straps) (r : Nat × Nat) (d : Dev) : Nat × Nat :=
  if r.1 = ST_UPDATE_REFUSED then r else (r.1, if r.1 = ST_OK then 0 else wallValue (ownAddr st d) false [])

/-- UPD_PREPARE with WALL = 1: the sender's own check, and the broadcast. -/
def Dev.wallPrepare (st : Straps) (index : Nat) (rollback : Bool) (d : Dev) : Option (Nat × Nat) × Dev :=
  let r := d.opUpdPrepare st SRC_CHAIN rollback
  if r.1.1 ≠ ST_OK ∧ r.1.1 ≠ ST_NOT_READY then (some (d.ownValue st r.1), r.2)
  else
    let m : Domino :=
      { index := index, activate := false, session := d.session, asked := d.fedTiles, good := [], bad := [],
        self := r.1.1 == ST_OK, pa := 0, tick := d.ticks }
    let d1 := { r.2 with sec.domino := some m }.broadcastOp st d.session 2 (b2n rollback) 0 (d.mfstConcerned rollback)
    (none, d1.checkPrepare st)

/-- UPD_ACTIVATE with WALL = 1: the sender arms itself and broadcasts; it completes at P_a − 100 ms. -/
def Dev.wallActivate (st : Straps) (index pa : Nat) (d : Dev) : Option (Nat × Nat) × Dev :=
  let rollback := d.sec.readyFor == some true
  let r := d.opUpdActivate st SRC_CHAIN pa false
  if r.1.1 ≠ ST_OK ∧ r.1.1 ≠ ST_NOT_READY then (some (d.ownValue st r.1), r.2)
  else
    let m : Domino :=
      { index := index, activate := true, session := d.session, asked := d.fedTiles, good := [], bad := [],
        self := r.1.1 == ST_OK, pa := pa, tick := d.ticks }
    (none, { r.2 with sec.domino := some m }.broadcastOp st d.session 3 0 pa (d.mfstConcerned rollback))

/-- The RSP of a tile to a broadcast PREPARE or ACTIVATE. -/
def Dev.dominoRsp (st : Straps) (src status : Nat) (d : Dev) : Dev :=
  match d.sec.domino with
  | some m =>
    let e := if status = ST_OK then { m with good := src :: m.good } else { m with bad := src :: m.bad }
    { d with sec.domino := some e }.checkPrepare st
  | none => d

/-- ACTIVATION_CHECK: P_a − 100 ms (R356). -/
def execActivationCheck (s : State) : Host.Outcome State Fault Refusal :=
  runSender (fun st d =>
    match d.sec.domino with
    | some m =>
      if m.activate && decide (m.pa ≤ d.now + 100000000) then
        let failed := d.fedTiles.filter fun a => !m.good.contains a
        let self := m.self && d.nvm.trusted.armed.isSome
        let d1 := { d with sec.domino := none }
        if failed.isEmpty && self then d1.finishDesc 1 m.index ST_OK 0
        else
          ((d1.broadcastOp st m.session 4 0 m.pa d.mfstOfUpdate).disarm).finishDesc 1 m.index ST_NOT_READY
            (wallValue (ownAddr st d) self failed)
      else d
    | none => d) s

/-! The switch (R357). -/

/-- The manifest not in force becomes the one in force, with its microcode; the answer says whether the management image
changes. -/
def Dev.switchOver (st : Straps) (pa : Nat) (d : Dev) : Bool × Dev :=
  let m := d.slotObject 1 d.otherMfst
  let same := d.mgmtSame st m
  let flip := match mfstEntry m 3 with
    | some e => !imageIs d.ucodeActive e
    | none => false
  let d1 : Dev := { d with
    nvm.trusted.manifest := d.otherMfst
    nvm.trusted.ucode := if flip then 1 - d.nvm.trusted.ucode else d.nvm.trusted.ucode
    nvm.trusted.armed := none, nvm.trusted.staged := false, nvm.trusted.chunks := 0, nvm.trusted.built := false
    nvm.trusted.journal := if same then none else some (0, 0)
    nvm.trusted.switched := some (pa, !same), nvm.trusted.migrateDue := true
    nvm.delta := []
    sec.readyFor := none, sec.stage := [] }
  let d2 := { d1 with sec.hashUcode := sha256 d1.ucodeActive }.countWrite.loadEngines
  (!same, if same then d2 else d2.secureDefaults)

/-- A management image as it stands after the swap, with its commit record made out for the other slot. -/
def Dev.movedImage (d : Dev) (src dst : Nat) : NvmSlot :=
  let s := nth d.nvm.mgmt src NvmSlot.empty
  { s with
    commit := match d.slotRecord NK_MGMT src with
      | some r => recordBytes NK_MGMT dst (recordSeq r) (recordLength r) (recordHash r)
      | none => []
    prior := [] }

/-- A management area's counterpart in the swap. -/
def swappedArea : NvmArea → NvmArea
  | .mgmtRunning => .mgmtStaging
  | .mgmtStaging => .mgmtRunning
  | a => a

/-- The running and staging images have changed places, every chunk by its three copies; the previous image stays in staging
and the journal is closed (R357). -/
def Dev.swapImages (d : Dev) : Dev :=
  { d with
    nvm.mgmt := [d.movedImage 1 0, d.movedImage 0 1]
    nvm.bad := d.nvm.bad.map fun (e : NvmArea × Nat) => (swappedArea e.1, e.2)
    nvm.trusted.journal := none }.countWrite

/-- Bytes below `n` of one area, and the others of another. -/
def mixedArea (n : Nat) (new old : List Byte) : List Byte := if n = 0 then old else slice new 0 n ++ old.drop n

/-- What the management areas and the scratch chunk hold while the journal stands at a chunk with some of its copies done:
running to scratch, staging to running, scratch to staging (R357). -/
def Dev.mgmtArea (d : Dev) (slot : Nat) : List Byte :=
  match d.nvm.trusted.journal with
  | none => d.mgmt slot
  | some (c, k) =>
    if slot = 0 then mixedArea (65536 * (if 2 ≤ k then c + 1 else c)) (d.mgmt 1) (d.mgmt 0)
    else mixedArea (65536 * c) (d.mgmt 0) (d.mgmt 1)
def Dev.scratchChunk (d : Dev) : List Byte :=
  match d.nvm.trusted.journal with
  | some (c, k) => if k = 0 then [] else slice (d.mgmt 0) (65536 * c) 65536
  | none => []

/-! The management cores (R341 to R343). -/

/-- Steps 3 and 4 of R341: the manifest in force and its images verify. On the resume path of R413 step 3 is skipped. -/
def Dev.inForceOk (st : Straps) (resume : Bool) (d : Dev) : Bool :=
  let m := d.mfstInForce
  if resume then d.imagesOk st m 0 d.ucodeActive
  else d.verifies st m 0 d.ucodeActive && decide (d.nvm.trusted.svnFloor ≤ mfstSvn m)

/-- The SHA-256 of the running image and of the active microcode are kept. -/
def Dev.keepHashes (st : Straps) (d : Dev) : Dev :=
  let n := match mfstEntry d.mfstInForce (mgmtKind st) with
    | some e => e.length
    | none => (d.mgmt 0).length
  { d with sec.hashMgmt := sha256 ((d.mgmt 0).take n), sec.hashUcode := sha256 d.ucodeActive }

/-- Step 6 of R341: the engines and the cores are loaded, and the cores released. -/
def Dev.releaseCores (st : Straps) (d : Dev) : Dev :=
  let d1 := (d.keepHashes st).loadEngines
  { d1.set SEC_STAT_RECOVERY 0 with
    boot.cores := [coreLoad (d1.mgmt 0) 0, coreLoad (d1.mgmt 0) 1], boot.mcRunning := true }.memWriteAll 5 2 .code

/-- Recovery: cores and engines are held (R342). -/
def Dev.holdCores (st : Straps) (d : Dev) : Dev :=
  { (d.keepHashes st).set SEC_STAT_RECOVERY 1 with boot.cores := [], boot.engines := [], boot.mcRunning := false }

/-- After an activation the cores run again; those of a device in recovery only if what is in force now verifies (log entry
119). -/
def Dev.resumeCores (st : Straps) (d : Dev) : Dev :=
  if d.getb SEC_STAT_RECOVERY && !d.inForceOk st false then d.holdCores st else d.releaseCores st

/-- ACTIVATION_SWITCH: at P_a an armed device switches. When the management image changes, the cores stop, a calibration step
ends, the loader swap begins, and the frames of the pause are held. -/
def execActivationSwitch (s : State) : Host.Outcome State Fault Refusal :=
  runAwake (fun st d =>
    match d.nvm.trusted.armed with
    | some a =>
      if a.1 ≤ d.now then
        let r := d.switchOver st a.1
        if r.1 then
          let d1 := r.2.stopCal st
          { d1 with
            boot.mcRunning := false
            tile.frames := d1.tile.frames.map fun f => if d1.inPause st f.present then f.failed 6 else f }
        else if r.2.getb SEC_STAT_RECOVERY then r.2.resumeCores st
        else r.2
      else d
    | none => d) s

/-- The positions that a sender hears, port by port. -/
def Dev.heardPositions (d : Dev) : List (Nat × Nat) := [0, 1, 2, 3].flatMap fun x => (d.presentOn x).map fun q => (x, q)

/-- UPDATE_PAUSE_END: P_a + 250 ms (R356 step 7). A sender reads SEC_MFST of its positions again, now that its own has changed
(R358, log entry 120). -/
def execUpdatePauseEnd (s : State) : Host.Outcome State Fault Refusal :=
  runAwake (fun st d =>
    match d.nvm.trusted.switched with
    | some w =>
      if w.1 + 250000000 ≤ d.now then
        ({ d with
          nvm.trusted.switched := none, nvm.trusted.svnFloor := mfstFloor d.mfstInForce
          sec.unread := if isSender st then d.heardPositions else d.sec.unread }.countWrite).event st EV_UPD_DONE 0 0 0
      else d
    | none => d) s

/-! Attestation (R346, R347). -/

/-- The certificate, the other part of the factory record, which nothing rewrites: DEVICE_ID, the identity public key and the
production key's signature (R338, R345). CERT_LEN is at most 5,056. -/
def certificate : List Byte :=
  leBytes Config.deviceId.toNat 8 ++ slice Config.identityKey 0 56 ++ Config.productionSignature.take 4992

/-- The identity signature with leaf q: LMS_SHA256_M32_H20 and LMOTS_SHA256_N32_W4, 2,828 bytes (R333). -/
def identitySig (q : Nat) (body : List Byte) : List Byte :=
  let v := Config.lmsSign q body
  beBytes q 4 ++ beBytes 3 4 ++ slice v 0 2176 ++ beBytes 8 4 ++ slice v 2176 640

/-- The report over a nonce with leaf q. -/
def Dev.report (st : Straps) (nonce : List Byte) (q : Nat) (d : Dev) : List Byte :=
  let t := d.nvm.trusted
  let cert := certificate
  let flags := b2n (isTile st) + 2 * b2n d.owned + 4 * b2n t.vendorOk + 8 * b2n t.onair + 16 * d.get SEC_PRIV_DEBUG +
    32 * d.get SEC_STAT_RECOVERY
  let key := match t.slot1 with
    | some k => sha256 k
    | none => zeros 32
  let body := leBytes 1 2 ++ leBytes (256 + cert.length + 2828) 2 ++ leBytes flags 2 ++ zeros 2 ++
    leBytes Config.deviceId.toNat 8 ++ slice nonce 0 16 ++ leBytes d.time.clk.ns 4 ++ leBytes d.time.clk.sec 8 ++ leBytes q 4 ++
    ((List.range 32).map Config.romHash) ++ mfstHash d.mfstInForce ++ slice d.sec.hashMgmt 0 32 ++ slice d.sec.hashUcode 0 32 ++
    key ++ leBytes (mfstSvn d.mfstInForce) 2 ++ leBytes t.svnFloor 2 ++ leBytes cert.length 4 ++ zeros 40 ++ cert
  slice (body ++ identitySig q body) 0 8192

/-- ATTEST: the report, or LMS_EXHAUSTED. -/
def Dev.opAttest (st : Straps) (nonce : List Byte) (d : Dev) : Option (List Byte) × Dev :=
  let q := d.sec.leaf
  if 2 ^ 20 ≤ q then (none, d)
  else
    let d1 := if q = d.nvm.trusted.nextQ then { d with nvm.trusted.nextQ := q + 64 }.countWrite else d
    (some (d1.report st nonce q), { d1 with sec.leaf := q + 1 })

/-! The service port's commands (R365). -/

/-- The window. -/
def Dev.svcWindow (d : Dev) (off n : Nat) : List Byte :=
  leWords ((List.range ((off % 4 + n + 3) / 4)).map fun k => d.rd (SEC_SVC_WIN (off / 4 + k))) |>.drop (off % 4) |>.take n

/-- An operation ends: its status. -/
def Dev.svcDone (r : Answer) : Dev := r.2.setAll [(SEC_SVC_CMD_BUSY, 0), (SEC_SVC_CMD_STATUS, r.1.1)]

/-- P_a in the window. -/
def Dev.svcPa (d : Dev) : Nat := natBits (leAt (d.svcWindow 16 8) 0 8) 0 48 * giga + natBits (leAt (d.svcWindow 8 4) 0 4) 0 30

/-- The data of a DATA operation. -/
def Dev.svcBytes (d : Dev) : List Byte := d.svcWindow 32 (min 4064 (leAt (d.svcWindow 4 4) 0 4))

/-- Whose work an operation is: the service port's, or that of the chain or host, as which every other initiator counts (log
entry 52). -/
def svcSource (init : Initiator) : Nat := if init == .service then SRC_SVC else SRC_CHAIN

/-- A write of SEC_SVC_CMD with an OP (R365). -/
def Dev.opSvc (st : Straps) (src op object content : Nat) (d : Dev) : Dev :=
  match op with
  | 1 => Dev.svcDone (d.opUpdOpen src 0)
  | 2 => Dev.svcDone (d.opUpdRenew src)
  | 3 => Dev.svcDone (d.opUpdClose src)
  | 4 => Dev.svcDone (d.opStage st src object content (leAt (d.svcWindow 0 4) 0 4) d.svcBytes)
  | 6 => Dev.svcDone (d.opUpdPrepare st src (natBit object 0))
  | 7 => Dev.svcDone (d.opUpdActivate st src d.svcPa false)
  | 8 => Dev.svcDone (d.opUpdAbort src)
  | _ => d

/-- What the service port may write to SEC_SVC_CMD: OP 4 for an enrolment needs ENROLL, every other use UPDATE (R448). -/
def Dev.svcOpMay (op object content : Nat) (d : Dev) : Bool :=
  if op == 4 && object == 3 && content == 2 then d.svcMay 2 else d.svcMay 3

/-- A write of SEC_SVC_CMD by an initiator; one that the service port may not make is answered with NACK (R448). -/
def runSvc (init : Initiator) (op object content : Nat) (s : State) : Host.Outcome State Fault Refusal :=
  runIf (fun st d => d.awake && (init == .service || mayWrite st init d)) (fun st d =>
    if init == .service && !d.svcOpMay op object content then d.svcNack
    else d.opSvc st (svcSource init) op object content) s

/-- SVC_OPEN. -/
def execSvcOpen (init : Initiator) (s : State) : Host.Outcome State Fault Refusal :=
  runSvc init 1 0 0 s
/-- SVC_RENEW. -/
def execSvcRenew (init : Initiator) (s : State) : Host.Outcome State Fault Refusal :=
  runSvc init 2 0 0 s
/-- SVC_CLOSE. -/
def execSvcClose (init : Initiator) (s : State) : Host.Outcome State Fault Refusal :=
  runSvc init 3 0 0 s
/-- SVC_DATA. -/
def execSvcData (init : Initiator) (object : Fin 16) (content : Fin 8) (s : State) : Host.Outcome State Fault Refusal :=
  runSvc init 4 object content s
/-- SVC_PREPARE. -/
def execSvcPrepare (init : Initiator) (s : State) : Host.Outcome State Fault Refusal :=
  runSvc init 6 0 0 s
/-- SVC_ACTIVATE. -/
def execSvcActivate (init : Initiator) (s : State) : Host.Outcome State Fault Refusal :=
  runSvc init 7 0 0 s
/-- SVC_ABORT. -/
def execSvcAbort (init : Initiator) (s : State) : Host.Outcome State Fault Refusal :=
  runSvc init 8 0 0 s

/-! The eMRAM's areas (R338, R339). -/

/-- Base address and size of an area, the areas in the table's order from address 0 (log entry 17). -/
def areaAt : NvmArea → Nat × Nat
  | .manifest s => (0x14000 + 0x4000 * s, 0x4000)
  | .mgmtRunning => (0x1C000, 0xC0000)
  | .mgmtStaging => (0xDC000, 0xC0000)
  | .ucode s => (0x19C000 + 0x40000 * s, 0x40000)
  | .delta => (0x21C000, 0x40000)
  | .cal s => (0x25C000 + 0x4000 * s, 0x4000)
  | .coef s => (0x264000 + 0x100000 * s, 0x100000)
  | .settings s => (0x464000 + 0x10000 * s, 0x10000)
  | .safe s => (0x484000 + 0x60000 * s, 0x60000)
  | .recorderSlot n => (0x544000 + 32 * (n % 16384), 32)
  | .recorderCheck n => (0x5C4000 + 4 * (n % 16384), 4)
  | .commit k s => (64 * (2 * k + s), 64)

/-- The bytes of an area. -/
def Dev.areaBytes (d : Dev) : NvmArea → List Byte
  | .manifest s => (nth d.nvm.manifest s NvmSlot.empty).bytes
  | .mgmtRunning => d.mgmtArea 0
  | .mgmtStaging => d.mgmtArea 1
  | .ucode s => (nth d.nvm.ucode s NvmSlot.empty).bytes
  | .delta => d.nvm.delta
  | .cal s => (nth d.nvm.cal s NvmSlot.empty).bytes
  | .coef s => (nth d.nvm.coef s NvmSlot.empty).bytes
  | .settings s => (nth d.nvm.settings s NvmSlot.empty).bytes
  | .safe s => (nth d.nvm.safe s NvmSlot.empty).bytes
  | .recorderSlot n => d.recSlot n
  | .recorderCheck n => leBytes (Cells.read recCheckDflt d.rcd.checks (n % recSlots)) 4
  | .commit k s => (nth (d.slots k) s NvmSlot.empty).commit

/-- The byte addresses of the uncorrectable 64-bit words that a read of `n` bytes of an area meets (R339). -/
def Dev.badIn (d : Dev) (area : NvmArea) (off n : Nat) : List Nat :=
  let from_ := (areaAt area).1 + off
  (d.nvm.bad.map fun e => ((areaAt e.1).1 + e.2) / 8 * 8).filter fun w =>
    decide (0 < n) && decide (from_ < w + 8) && decide (w < from_ + n)

/-- A read meets uncorrectable words: UE_SEEN, and the byte address of the last (R339). -/
def Dev.noteBad (area : NvmArea) (off n : Nat) (d : Dev) : Dev :=
  match d.badIn area off n with
  | [] => d
  | b :: rest => d.setAll [(NVM_STAT_UE_SEEN, 1), (NVM_UE_ADDR_ADDR, rest.foldl max b)]

/-! The monitor calls (R344). -/

/-- The call number and the index of the call window in a call word. -/
def callNumber (word : Nat) : Nat := natBits word 0 8
def callWindow (word : Nat) : Nat := natBits word 8 8

/-- A call that the firmware has made: the word in mailbox 4 names it and its window, whose index the effect is given, and
mailbox 5 takes the answer, a status word whose value the spec does not give: a free value. -/
def monitorCall (n : Nat) (f : Nat → Dev → Dev) (s : State) : Host.Outcome State Fault Refusal :=
  runIf (fun _ d => d.awake && d.mbxFull 4 && callNumber (d.get (MBX_DATA_WORD 4)) == n && !d.mbxFull 5)
    (fun st d =>
      let r := (f (callWindow (d.get (MBX_DATA_WORD 4))) (d.opMbxAck st .trusted 4)).draw (2 ^ 32)
      r.2.opMbxWrite st .trusted 5 r.1) s

/-- The slot that firmware writes an object of a kind to. -/
def Dev.inactive (d : Dev) (kind : Nat) : Nat :=
  if kind = NK_CAL then d.calSpare else if kind = NK_COEF then d.coefTarget else d.spareSlot kind

/-- The size of a slot of a kind. -/
def slotSize (kind : Nat) : Nat :=
  match slotArea kind 0 with
  | some a => (areaAt a).2
  | none => 0

/-- NVM_WRITE: window data to the inactive slot of kinds 4 to 7. -/
def execNvmWrite (call : NvmCall) (s : State) : Host.Outcome State Fault Refusal :=
  monitorCall 1 (fun _ d =>
    let data := call.bytes.take 4096
    if 4 ≤ call.kind && call.kind ≤ 7 && decide (call.offset + data.length ≤ slotSize call.kind) then
      ((d.setSlots call.kind (modAt (d.slots call.kind) (d.inactive call.kind) fun w =>
        { w with
          bytes := putBytes (padTo call.offset w.bytes) call.offset data
          written := max w.written (call.offset + data.length) })).clearBadIn (slotArea call.kind (d.inactive call.kind))
        call.offset data.length).countWrite
    else d) s

/-- NVM_COMMIT: that slot is committed, with the SEQ given and as far as it has been written since its last commit (log entry
121). -/
def execNvmCommit (kind seq : Nat) (s : State) : Host.Outcome State Fault Refusal :=
  monitorCall 2 (fun _ d =>
    if 4 ≤ kind && kind ≤ 7 then
      let d1 := d.commitSlot kind (d.inactive kind) seq
      if kind = NK_CAL then d1.showSlots (d.get CAL_STAT_SRC) else d1
    else d) s

/-- The trusted store is not read (R344). -/
def areaReadable : NvmArea → Bool
  | .commit _ _ => false
  | _ => true

/-- NVM_READ: bytes of an area to the window. -/
def execNvmRead (area : NvmArea) (offset length : Nat) (s : State) : Host.Outcome State Fault Refusal :=
  monitorCall 3 (fun win d =>
    if !areaReadable area then d
    else
      let n := min length 4096
      let d1 := d.nvmRead.noteBad area offset n
      if (d.badIn area offset n).isEmpty then d1.emit (.window win (slice (d.areaBytes area) offset n)) else d1) s

/-- FACTORY_READ: the calibration factory record, as much of it from an offset as the window takes. -/
def execFactoryRead (offset : Nat) (s : State) : Host.Outcome State Fault Refusal :=
  monitorCall 4 (fun win d => d.nvmRead.emit (.window win ((d.nvm.factory.drop offset).take 4096))) s

/-- TOKEN_CHECK: a token of the TYPE given is verified and its TSEQ consumed. -/
def execTokenCheck (type : Nat) (token : List Byte) (s : State) : Host.Outcome State Fault Refusal :=
  monitorCall 5 (fun _ d => if d.tokenOk token && tokType token == type then d.useToken token else d) s

/-- MEASURE: the measurements kept at start-up. -/
def execMeasure (s : State) : Host.Outcome State Fault Refusal :=
  monitorCall 6 (fun win d => d.emit (.window win (d.sec.hashMgmt ++ d.sec.hashUcode))) s

end Sys2Proof.Machine
end

