-- ==== Sys2Proof/Machine/Dormant.lean ====
section
/-! DEFINITION. Dormancy up to its exit: arming, entry, the inputs watched while dormant, the always-on clock, the wake
tone, and the filtered inputs BKUP_N and MOTION_N (spec/17_power_reset_dormant.md R405 to R412, R415; R465). -/

namespace Sys2Proof.Machine

/-- The device is dormant. -/
def Dev.dormant (d : Dev) : Bool := d.boot.power == Power.dormant

/-! Arming (R408, R469). -/

/-- AT of the dormant entry. -/
def Dev.dormAt (d : Dev) : Nat := d.timeOf AON_DORM_AT_NS_NS AON_DORM_AT_SL_S AON_DORM_AT_SH_S

/-- An activation is armed or a lease is held; a calibration step runs; a timed change is armed or a fade runs; nothing
could wake the device: the first of reasons 1, 2, 3 and 5 that holds, or 0. -/
def Dev.dormReason (d : Dev) : Nat :=
  if d.nvm.trusted.armed.isSome || d.leaseOf.isSome then 1
  else if d.cal.step.isSome then 2
  else if d.getb CMP_FP_ARM_PEND || d.getb COR_STAT_PEND || d.getb GRY_FADE_ARM_PEND || d.getb GRY_FADE_ARM_RUN then 3
  else if !d.getb AON_CTRL_WAKEN_EN && !d.getb AON_CTRL_JACK_EN && !d.getb AON_CTRL_ALARM_EN then 5
  else 0

/-- AON_DORM_ARM.ARM: reason 4, less than 50 ms of notice, stands between 3 and 5. -/
def Dev.opDormArm (d : Dev) : Dev :=
  let r := d.dormReason
  let reason := if (r = 0 || r = 5) && d.dormAt < d.now + armMargin then 4 else r
  if reason = 0 then d.set AON_DORM_ARM_PEND 1 else d.set AON_DORM_ARM_REFUSE reason

/-- AON_DORM_ARM.DISARM. -/
def Dev.opDormDisarm (d : Dev) : Dev := d.set AON_DORM_ARM_PEND 0

/-- DORMANT_ARM (R408). -/
def execDormantArm (init : Initiator) (s : State) : Host.Outcome State Fault Refusal :=
  runBy init (fun _ _ => true) (fun _ d => d.opDormArm) s

/-- DORMANT_DISARM (R469). -/
def execDormantDisarm (init : Initiator) (s : State) : Host.Outcome State Fault Refusal :=
  runBy init (fun _ _ => true) (fun _ d => d.opDormDisarm) s

/-! Entry (R405, R406, R409). -/

/-- What the retention store takes of the register file: the RWS fields, the rest at Reset. -/
def keptRws (d : Dev) : Cells Word := resetRegs (fun a acc => inAon a || acc != Access.rws) d.regs

/-- The saved taps of every lane, port by port. -/
def keptTaps (d : Dev) : List (Option Config.Taps) := d.ports.flatMap fun p => p.lanes.map fun l => l.saved

/-- The recorder writes its queue; a REC_LOST that it makes is written too. -/
def Dev.flushRecorder (st : Straps) (d : Dev) : Dev := (d.finish.opRecorderWrite st).opRecorderWrite st

/-- Steps 1 to 4 of entry: the retention store is written and every domain but AON is off. -/
def Dev.enterDormant (st : Straps) (d : Dev) : Dev :=
  let d1 := ((d.set LDRV_CTRL_DRIVE_EN 0).event st EV_AON_DORMANT 0 0 0).flushRecorder st
  let aon : AonSt :=
    { d1.aon with
      s := d1.time.clk.sec, ns := d1.time.clk.ns, ph := 0, keptRegs := keptRws d1, keptTaps := keptTaps d1,
      resume := some (d1.nvm.trusted.writes, d1.nvm.trusted.armed.isSome), enteredAt := d1.time.clk.sec, wake := 0,
      repeating := false }
  let d2 := ({ d1 with aon := aon }.set AON_DORM_ARM_PEND 0).outputsOff st
  let d3 := d2.cleared st keepsCold false false
  { d3 with boot.power := .dormant }

/-- DORMANT_ENTRY: the reasons are checked again at AT (R408, R409). -/
def execDormantEntry (s : State) : Host.Outcome State Fault Refusal :=
  runIf (fun _ d => d.awake && d.getb AON_DORM_ARM_PEND && decide (d.dormAt ≤ d.now))
    (fun st d =>
      let r := d.dormReason
      if r = 0 then d.withAlert fun d => d.enterDormant st
      else (d.setAll [(AON_DORM_ARM_PEND, 0), (AON_DORM_ARM_REFUSE, r)]).event st EV_AON_DORM_REFUSED r 0 0) s

/-! What is watched while dormant (R407, R411). -/

/-- A wake event is latched: bit 0 WAKE_N, 1 Jack, 2 alarm. -/
def Dev.latchWake (bit : Nat) (d : Dev) : Dev := { d with aon.wake := natSetBit d.aon.wake bit true }

/-- WAKE_N_ASSERT (R407). GEN_STAT.WAKE shows the pin (R418). -/
def execWakeNAssert (s : State) : Host.Outcome State Fault Refusal :=
  run (fun _ d =>
    let d1 := d.set GEN_STAT_WAKE 1
    if d.dormant && d.getb AON_CTRL_WAKEN_EN then d1.latchWake 0 else d1) s

/-- The wake tone at a line rate, 0 FULL or 1 HALF: runs at the outer levels +3 and −3 in turn (R411). -/
def toneRuns (rate : Nat) : List (Int × Nat) :=
  let n := if rate = 0 then 5440 else 2720
  [(3, n), (-3, n)]

/-- RATE of port B, as the retention store keeps it (R405). -/
def Dev.keptRate (d : Dev) : Nat :=
  fieldOf (Cells.read regReset d.aon.keptRegs (LANE_CTRL 1)) (LANE_CTRL_RATE 1).lo (LANE_CTRL_RATE 1).width

/-- JACK_TONE_DETECT: a wake event, and the repeater sends the tone on port B (R407, R411). -/
def execJackToneDetect (s : State) : Host.Outcome State Fault Refusal :=
  runIf (fun _ d => d.dormant)
    (fun st d =>
      let d1 := if d.getb AON_CTRL_JACK_EN then d.latchWake 1 else d
      if isTile st && d.getb AON_CTRL_RPT_EN && !d.aon.repeating then
        { d1 with aon.repeating := true }.emit (.tone 1 (toneRuns d.keptRate))
      else d1) s

/-- JACK_TONE_END: the repeater stops (R411). -/
def execJackToneEnd (s : State) : Host.Outcome State Fault Refusal :=
  runIf (fun _ d => d.aon.repeating) (fun _ d => { d with aon.repeating := false }.emit (.tone 1 [])) s

/-- The always-on clock in nanoseconds. -/
def Dev.aonNow (d : Dev) : Nat := d.aon.s * giga + d.aon.ns

/-- The alarm's time. -/
def Dev.alarmAt (d : Dev) : Nat := d.timeOf AON_ALARM_NS_NS AON_ALARM_SL_S AON_ALARM_SH_S

/-- AON_ALARM (R407). -/
def execAonAlarm (s : State) : Host.Outcome State Fault Refusal :=
  runIf (fun _ d => d.dormant && d.getb AON_CTRL_ALARM_EN && decide (d.alarmAt ≤ d.aonNow))
    (fun _ d => (d.latchWake 2).set AON_CTRL_ALARM_EN 0) s

/-- DORMANT_OVERTEMP: it sets with its comparator, which acts while dormant, and clears below 115 °C, also after a reset that
has ended the dormancy; ALERT_N follows (R407, R416). -/
def execDormantOvertemp (hot : Bool) (s : State) : Host.Outcome State Fault Refusal :=
  runIf (fun _ d => d.dormant || (!hot && d.boot.power != Power.off))
    (fun _ d => d.withAlert fun d =>
      if hot then d.setAll [(AON_STAT_OTEMP, 1), (AON_STAT_OTEMP_SEEN, 1)] else d.set AON_STAT_OTEMP 0) s

/-- The loss of a supply while dormant latches its flag. -/
def Dev.latchLoss (f : Fld) (present : Bool) (d : Dev) : Dev := if d.dormant && !present then d.set f 1 else d

/-- AON_SUPPLY_CHANGE: what is present is followed, since it defers a wake and holds the rows off (R396, R407); a loss in
dormancy latches its flag. -/
def execAonSupplyChange (supply : AonSupply) (present : Bool) (s : State) : Host.Outcome State Fault Refusal :=
  runIf (fun _ d => d.boot.power != Power.off)
    (fun st d =>
      match supply with
      | .vcore => { d.latchLoss AON_STAT_VCORE_LOST present with aon.vcore := present }
      | .vdrv => if isTile st then { d.latchLoss AON_STAT_VDRV_LOST present with aon.vdrv := present } else d
      | .vled => { d.latchLoss AON_STAT_VLED_LOST present with aon.vled := present }
      | .pwrGood => { d.setb GEN_STAT_PWR_GOOD present with aon.pwrGood := present }) s

/-- Something defers a wake (R407). -/
def Dev.wakeDeferred (st : Straps) (d : Dev) : Bool :=
  d.getb AON_STAT_OTEMP || !d.aon.vcore || (isTile st && !d.aon.vdrv) || !d.aon.pwrGood

/-- aon_tick of R406. -/
def Dev.aonTick (d : Dev) : Dev :=
  let n := d.aon.ns + 30517
  let p := d.aon.ph + 37
  let n1 := if 64 ≤ p then n + 1 else n
  let p1 := if 64 ≤ p then p - 64 else p
  if giga ≤ n1 then { d with aon.ns := n1 - giga, aon.s := (d.aon.s + 1) % 2 ^ 48, aon.ph := p1 }
  else { d with aon.ns := n1, aon.ph := p1 }

/-- AON_CLOCK_TICK (R406). -/
def execAonClockTick (s : State) : Host.Outcome State Fault Refusal :=
  runIf (fun _ d => d.boot.power != Power.off) (fun _ d => d.aonTick) s

/-- XTAL_OK_CHANGE (R465). -/
def execXtalOkChange (ok : Bool) (s : State) : Host.Outcome State Fault Refusal :=
  runIf (fun _ d => d.boot.power != Power.off) (fun _ d => d.setb AON_STAT_XTAL_OK ok) s

/-! The wake tone of a sender (R411). -/

/-- The tone starts on each named port that is not in LS0 or LS1. -/
def Dev.opTone (ports : Nat) (d : Dev) : Dev :=
  d.each (allPorts.filter fun x => natBit ports x && d.pstate x != P_LS0 && d.pstate x != P_LS1) fun d x =>
    (d.modPort x fun p => { p with toneSince := some d.ticks }).emit (.tone x (toneRuns (d.port x).rate))

/-- The tone has lasted 1 ms on a port. -/
def Dev.toneOver (d : Dev) (x : Nat) : Bool :=
  match (d.port x).toneSince with
  | some t => d.passed t (ms 1)
  | none => false

/-- The tone stops; a port that trained or carried cells trains again. -/
def Dev.endTone (st : Straps) (d : Dev) (x : Nat) : Dev :=
  let d1 := (d.modPort x fun p => { p with toneSince := none }).emit (.tone x [])
  let s := d.pstate x
  if s == P_TRAIN || s == P_GO || s == P_RECOVER || s == P_TXONLY then d1.enterTrain st x else d1

/-- WAKE_TONE_SEND (R411). -/
def execWakeToneSend (init : Initiator) (ports : BitVec 4) (s : State) : Host.Outcome State Fault Refusal :=
  runBy init (fun st _ => isSender st) (fun _ d => d.opTone ports.toNat) s

/-- WAKE_TONE_END (R411). -/
def execWakeToneEnd (s : State) : Host.Outcome State Fault Refusal :=
  runSender (fun st d => d.each (allPorts.filter fun x => d.toneOver x) (Dev.endTone st)) s

/-! BKUP_N and MOTION_N (R415). -/

/-- A filtered edge of a pin: the pin's state follows it whatever the device does, and an awake device shows that it has
changed and records the event. -/
def Dev.pinEdge (st : Straps) (level seen : Fld) (k : EvCode) (low : Bool) (d : Dev) : Dev :=
  let d1 := d.setb level low
  if d.awake then (d1.set seen 1).event st k (b2n (!low)) 0 0 else d1

/-- BKUP_N_EDGE. P0 is the new level of the pin. -/
def execBkupNEdge (low : Bool) (s : State) : Host.Outcome State Fault Refusal :=
  run (fun st d => d.pinEdge st GEN_STAT_BKUP GEN_STAT_BKUP_SEEN EV_GEN_BKUP low) s

/-- MOTION_N_EDGE. -/
def execMotionNEdge (low : Bool) (s : State) : Host.Outcome State Fault Refusal :=
  run (fun st d => d.pinEdge st GEN_STAT_MOTION GEN_STAT_MOTION_SEEN EV_GEN_MOTION low) s

end Sys2Proof.Machine
end

