-- ==== Sys2Proof/Machine/Thermal.lean ====
section
/-! DEFINITION. The junction sensors: rounds, the cross-check, the warning, the throttle and the shutdown vote
(spec/13_thermal.md R302 to R310). -/

namespace Sys2Proof.Machine

/-- The sensors of a die: 0 logic, 1 drive (R302). -/
def dieSensors (die : Nat) : List Nat := if die = 0 then [0, 1, 2, 3, 4, 5, 6, 7] else [8, 9, 10, 11]

/-- The die of a sensor. -/
def dieOf (n : Nat) : Nat := if n < 8 then 0 else 1

/-- A sensor is excluded. -/
def Dev.excluded (d : Dev) (n : Nat) : Bool := natBit (d.get THM_SENS_BAD_MAP) n

/-- A sensor's reading counts: converted, in use, not excluded. -/
def Dev.tjValid (d : Dev) (n : Nat) : Bool := d.getb (THM_TJ_VALID n)

/-- A sensor's latest reading. -/
def Dev.tj (d : Dev) (n : Nat) : Int := d.geti (THM_TJ_T n)

/-- A round's conversions, with the offsets of SENS (R302, R315). -/
def Dev.takeReadings (st : Straps) (raw : List SensorReading) (d : Dev) : Dev :=
  d.each (List.range 12) fun d n =>
    match nth raw n none with
    | some r =>
      if isTile st || n < 8 then
        let v := sat (r + d.geti (CAL_SENS_OFS n)) (-32768) 32767
        (d.seti (THM_TJ_T n) v).setb (THM_TJ_VALID n) (!d.excluded n)
      else d.set (THM_TJ_VALID n) 0
    | none => d.set (THM_TJ_VALID n) 0

/-- The valid sensors of a die. -/
def Dev.validOf (d : Dev) (die : Nat) : List Nat := (dieSensors die).filter fun n => d.tjValid n

/-- The valid neighbours of a sensor in its ring, on either side: the nearest of the other valid sensors (R303). -/
def Dev.ringNeighbours (d : Dev) (n : Nat) : List Nat :=
  let ring := dieSensors (dieOf n)
  let k := ring.length
  let at_ (j : Nat) : Nat := nth ring ((n - ring.headD 0 + j) % k) n
  let up := ((List.range k).map fun j => at_ j).filter fun m => m != n && d.tjValid m
  let down := ((List.range k).map fun j => at_ (k - j)).filter fun m => m != n && d.tjValid m
  up.take 1 ++ down.take 1

/-- The sensor differs from a neighbour by more than a number of 1/16 °C. -/
def Dev.apart (d : Dev) (n m : Nat) (by_ : Int) : Bool := decide (by_ < d.tj n - d.tj m) || decide (by_ < d.tj m - d.tj n)

/-- The cross-check of one sensor against the readings `seen` of this round (R303). `left` is the number of sensors of its die
that are still valid after the exclusions of this round so far. -/
def Dev.crossCheck (st : Straps) (n : Nat) (seen : Dev) (d : Dev) : Dev :=
  let near := seen.ringNeighbours n
  if seen.tjValid n then
    let off := !near.isEmpty && near.all fun m => seen.apart n m 128
    let run := if off then nth d.therm.out_ n 0 + 1 else 0
    let d1 := { d with therm.out_ := setAt d.therm.out_ n run, therm.back_ := setAt d.therm.back_ n 0 }
    let left := ((seen.validOf (dieOf n)).filter fun m => !d.excluded m).length
    if 16 ≤ run && 3 ≤ left then
      ((d1.setAll [(THM_SENS_BAD_MAP, natSetBit (d1.get THM_SENS_BAD_MAP) n true), (THM_STAT_SENS_SEEN, 1)]).event st
        EV_THM_SENSOR_FAULT n (ofSigned 32 (seen.tj n)) 0)
    else d1
  else if seen.excluded n then
    let close := !near.isEmpty && near.all fun m => !seen.apart n m 64
    let run := if close then nth d.therm.back_ n 0 + 1 else 0
    let d1 := { d with therm.back_ := setAt d.therm.back_ n run, therm.out_ := setAt d.therm.out_ n 0 }
    if 256 ≤ run then d1.set THM_SENS_BAD_MAP (natSetBit (d1.get THM_SENS_BAD_MAP) n false) else d1
  else { d with therm.out_ := setAt d.therm.out_ n 0, therm.back_ := setAt d.therm.back_ n 0 }

/-- The valid readings of both dies. -/
def Dev.validReadings (d : Dev) : List Int := ((d.validOf 0) ++ (d.validOf 1)).map fun n => d.tj n

/-- The warning (R307). -/
def Dev.judgeWarning (st : Straps) (tdev : Int) (d : Dev) : Dev :=
  let on := d.getb THM_STAT_WARN
  let t := d.geti THM_WARN_T
  let across := if on then decide (tdev < t - d.get THM_WARN_HYST) else decide (t ≤ tdev)
  let run := if across then d.therm.warnRun + 1 else 0
  if run < 4 then { d with therm.warnRun := run }
  else
    let d1 := { d with therm.warnRun := 0 }
    if on then (d1.set THM_STAT_WARN 0).event st EV_THM_WARN_CLEAR 0 0 0
    else (d1.setAll [(THM_STAT_WARN, 1), (THM_STAT_WARN_SEEN, 1)]).event st EV_THM_WARN 0 0 0

/-- TLEVEL takes a value; leaving 0 or returning to it is recorded (R308). -/
def Dev.setTlevel (st : Straps) (v : Nat) (d : Dev) : Dev :=
  let old := d.get FAB_STAT_TLEVEL
  (d.setAll [(FAB_STAT_TLEVEL, v), (THM_STAT_THROT, b2n (v != 0))]).eventIf st ((old == 0) != (v == 0)) EV_THM_THROTTLE 0 0 0

/-- TLEVEL one step up, never above THR_MAX, or one step down. -/
def Dev.stepTlevel (st : Straps) (region : Nat) (d : Dev) : Dev :=
  let v := d.get FAB_STAT_TLEVEL
  match region with
  | 2 => d.setTlevel st (min (v + 1) (d.get FAB_CTRL_THR_MAX))
  | 0 => d.setTlevel st (v - 1)
  | _ => d

/-- The throttle region (R308). -/
def Dev.judgeRegion (st : Straps) (tdev : Int) (d : Dev) : Dev :=
  let t := d.geti THM_THROT_T
  let r := if t ≤ tdev then 2 else if t - d.get THM_THROT_HYST ≤ tdev then 1 else 0
  if r == d.therm.region then { d with therm.regionRun := 0 }
  else
    let run := if r == d.therm.regionNew then d.therm.regionRun + 1 else 1
    if run < 4 then { d with therm.regionNew := r, therm.regionRun := run }
    else { d with therm.region := r, therm.regionNew := r, therm.regionRun := 0, therm.stepAt := d.ticks }.stepTlevel st r

/-- The shutdown vote (R309). -/
def Dev.voteHolds (d : Dev) : Bool :=
  let t := d.geti THM_SHUT_T
  let hot (die : Nat) (by_ : Int) : Nat := ((d.validOf die).filter fun n => decide (t + by_ ≤ d.tj n)).length
  [0, 1].any fun die => 2 ≤ hot die 0 || 1 ≤ hot die 80

/-- A round while the device is held in shutdown: the peak and the cool rounds (R310). -/
def Dev.shutRound (d : Dev) : Dev :=
  match d.boot.shut with
  | none => d
  | some s =>
    let cool := d.validReadings.all fun v => decide (v < d.geti THM_SHUT_RESTART)
    let peak := match maxInt d.validReadings with
      | some v => max v s.peak
      | none => s.peak
    { d with boot.shut := some { s with peak := peak, coolRun := if cool then s.coolRun + 1 else 0 } }

/-- A round of a running device (R303, R304, R307 to R309). A round without a valid sensor decides nothing. -/
def Dev.liveRound (st : Straps) (d : Dev) : Dev :=
  let d1 := d.each (List.range 12) fun e n => Dev.crossCheck st n d e
  match maxInt d.validReadings with
  | none => d1
  | some tdev =>
    let d2 := (((d1.seti THM_STAT_TMAX tdev).judgeWarning st tdev).judgeRegion st tdev)
    if d.voteHolds then d2.enterShutdown st tdev else d2

/-- THERMAL_ROUND (R302). The vote is taken in a brown-out too; nothing is evaluated while dormant (R309). -/
def execThermalRound (raw : List SensorReading) (s : State) : Host.Outcome State Fault Refusal :=
  run (fun st d =>
    match d.boot.power with
    | .awake => d.withAlert fun d => (d.takeReadings st raw).liveRound st
    | .brownOut =>
      let d1 := d.takeReadings st raw
      match maxInt d1.validReadings with
      | some tdev => if d1.voteHolds then d1.enterShutdown st tdev else d1
      | none => d1
    | .shutdown => (d.takeReadings st raw).shutRound
    | .off | .dormant => d) s

/-- THROTTLE_STEP: STEP_MS in HOT or COOL (R308). -/
def execThrottleStep (s : State) : Host.Outcome State Fault Refusal :=
  runIf (fun _ d => d.awake && d.therm.region != 1 && d.passed d.therm.stepAt (ms (d.get THM_CTRL_STEP_MS)))
    (fun st d => { d with therm.stepAt := d.ticks }.stepTlevel st d.therm.region) s

end Sys2Proof.Machine
end

