-- ==== Sys2Proof/Machine/Fabric.lean ====
section
/-! DEFINITION. The self-timed fabric: the throttle level, the supply comparator, memory parity and its injection
(spec/02_self_timed_fabric.md R38, R42 to R46, R470). -/

namespace Sys2Proof.Machine

/-! The throttle level (R42). -/

/-- The effective level: the higher request, under the cap. -/
def Dev.throttleLevel (d : Dev) : Nat := min (d.get FAB_CTRL_THR_MAX) (max (d.get FAB_STAT_TLEVEL) (d.get FAB_CTRL_SW_LEVEL))

/-- PACING_CYCLE: a change of level takes effect (R42). -/
def execPacingCycle (s : State) : Host.Outcome State Fault Refusal :=
  runAwake (fun _ d => d.set FAB_STAT_LEVEL d.throttleLevel) s

/-! The supply comparator (R38). -/

/-- VLOW_EXCURSION (R38). -/
def execVlowExcursion (s : State) : Host.Outcome State Fault Refusal :=
  runAwake (fun _ d => (d.setAll [(FAB_STAT_VLOW, 1), (FAB_STAT_VLOW_SEEN, 1)]).failLow) s

/-- VLOW_END (R38). -/
def execVlowEnd (s : State) : Host.Outcome State Fault Refusal :=
  runAwake (fun _ d => d.set FAB_STAT_VLOW 0) s

/-! Injection (R470). -/

/-- The memories that their own core writes all the time: the management cores' while firmware runs, and Nutcracker's. -/
def Dev.alwaysWritten (d : Dev) (mem : Nat) : Bool := mem == 6 || (mem == 5 && d.boot.mcRunning)

/-- FAB_PINJ with ARM = 1: one injection is armed at a time. A core's next write to its own memory follows at once (log
entry 99). -/
def Dev.opPinjArm (mem unit : Nat) (d : Dev) : Dev :=
  if d.getb FAB_CTRL_TEST_EN then
    let d1 := { d with parity.armed := some (mem, unit) }
    if d.alwaysWritten mem then d1.memInject mem unit .other else d1
  else d

/-- FAB_PINJ with ARM = 0. -/
def Dev.opPinjCancel (d : Dev) : Dev := { d with parity.armed := none }

/-- FAB_PINJ_ARM (R470). -/
def execFabPinjArm (init : Initiator) (mem : Fin 16) (unit : Fin 256) (s : State) : Host.Outcome State Fault Refusal :=
  runBy init (fun _ _ => true) (fun _ d => d.opPinjArm mem unit) s

/-- FAB_PINJ_CANCEL (R470). -/
def execFabPinjCancel (init : Initiator) (s : State) : Host.Outcome State Fault Refusal :=
  runBy init (fun _ _ => true) (fun _ d => d.opPinjCancel) s

/-! Parity errors (R45). -/

/-- The memories that a role has, and their units (R45, R46). -/
def memExists (st : Straps) (mem unit : Nat) : Bool :=
  match mem with
  | 0 => unit < 192
  | 1 => isTile st && unit == 0
  | 2 => isTile st && unit < 4
  | 3 => isTile st && unit == 0
  | 4 => isTile st && unit < 48
  | 5 => unit < 2
  | 6 => unit == 0
  | 7 => isSender st && unit == 0
  | _ => false

/-- The frame in progress, the earliest that is not composed, is held under R29. -/
def Dev.failProgress (d : Dev) : Dev :=
  match d.tile.frames.find? fun f => !f.composed with
  | some f => d.modFrame f (TileFrame.failed 4)
  | none => d

/-- A parity error in engine SRAM: the engine is reloaded. A tile's frame in progress is held; a sender cuts the frames
in transport. -/
def Dev.engineError (st : Straps) (unit : Nat) (d : Dev) : Dev :=
  match st.role with
  | .tile => (d.reloadEngine unit).failProgress
  | .sender => d.engineCut st unit

/-- A stored block, when a read of the source store finds an error that no block is known to hold: a free choice. -/
def Dev.anyBlock (d : Dev) : SramItem × Dev :=
  let l := (d.tile.frames.flatMap TileFrame.blocks) ++ d.tile.held.flatMap HeldLayer.blocks
  if l.isEmpty then (.other, d)
  else
    let r := d.draw l.length
    (((l[r.1]?).map StoreBlock.item).getD .other, r.2)

/-- A lamp of either half of the frame store, when a read finds an error that no lamp is known to hold: a free choice. -/
def Dev.anyLamp (d : Dev) : SramItem × Dev :=
  let half := d.draw 2
  let lamp := half.2.draw lampCount
  (.lamp lamp.1 (half.1 == 0), lamp.2)

/-- A block that waits in the block buffer of a sender, when a read finds an error that no block is known to hold: a free
choice. -/
def Dev.anyWaiting (d : Dev) : SramItem × Dev :=
  let l := d.waitingBlocks
  if l.isEmpty then (.other, d)
  else
    let r := d.draw l.length
    (nth l r.1 .other, r.2)

/-- What the byte of an error holds a part of: what the byte is known to hold, or a free choice (log entry 99). -/
def Dev.itemAt (mem : Nat) (known : Option BadByte) (d : Dev) : SramItem × Dev :=
  match known with
  | some b => (b.item, d)
  | none =>
    match mem with
    | 1 => d.anyBlock
    | 3 => d.anyLamp
    | 7 => d.anyWaiting
    | _ => (.other, d)

/-- A parity error in the output frame store: a lamp of the front half goes dark, or the frame in the back half is held. -/
def Dev.outputError (i : SramItem) (d : Dev) : Dev :=
  match i, d.tile.frames with
  | .lamp n true, _ => { d with tile.drive.darkLamps := n :: d.tile.drive.darkLamps }
  | .lamp _ false, f :: _ => d.modFrame f (TileFrame.failed 4)
  | _, _ => d

/-- What follows an error of memories 0 to 5 and 7. -/
def Dev.parityAct (st : Straps) (mem unit : Nat) (i : SramItem) (d : Dev) : Dev :=
  match mem with
  | 0 => d.engineError st unit
  | 1 => d.spoilBlock i
  | 2 => d.failProgress
  | 3 => d.outputError i
  | 4 => d.darkenBank unit
  | 5 => d.emit (.dataAbort unit)
  | 7 => d.dropBlock i
  | _ => d

/-- The byte that stands with inverted parity in a unit: the read that finds an error there is a read of it. -/
def Dev.badByte (d : Dev) (mem unit : Nat) : Option BadByte := d.parity.bad.find? fun b => b.mem == mem && b.unit == unit

/-- A read of a unit finds an error: at the byte that stands with inverted parity, or, when the unit has none, at one whose
content an upset has changed, at the offset given (log entry 99). -/
def Dev.parityFound (st : Straps) (mem unit offset : Nat) (d : Dev) : Dev :=
  let known := d.badByte mem unit
  let i := d.itemAt mem known
  (i.2.logParity st mem unit ((known.map BadByte.offset).getD offset)).parityAct st mem unit i.1

/-- An engine's microcode and coefficients have been written again: no byte of its memory stands wrong but one that this
writing has inverted. -/
def Dev.reloaded (engine : Nat) (d : Dev) : Dev :=
  ({ d with tile.reload := d.tile.reload.erase engine }.memRewrite fun b => b.mem == 0 && b.unit == engine).memInject 0
    engine .code

/-- ENGINE_RELOAD_DONE (R45). -/
def execEngineReloadDone (engine : Fin 192) (s : State) : Host.Outcome State Fault Refusal :=
  runIf (fun _ d => d.awake && d.tile.reload.contains (engine : Nat)) (fun _ d => d.reloaded engine) s

end Sys2Proof.Machine
end

