-- ==== Sys2Proof/Machine/Access.lean ====
section
/-! DEFINITION. Register accesses: what a read returns, and what a write does to a register, by the access codes of R9, the
reserved encodings of R8, the acceptance rules of R445 and each register's own behaviour (spec/19_register_map.md). -/

namespace Sys2Proof.Machine

/-! What is unused in a role (R15, R209, R438). -/

/-- A register that no part of the role uses: it reads its Reset value and takes no write. DESIGN CHOICE: the registers of the
powered-down ports C and D of a tile are among them (log entry 141). DESIGN CHOICE: R15 gives the
scalers to the tile alone, but a sender computes the footprint map of R438, so block CMP keeps its registers in a sender, the
user filter coefficients CMP_UF among them, which can be read and written there (log entry 129). -/
def unusedAt (st : Straps) (a : Nat) : Bool :=
  let b := a / 0x10000
  match st.role with
  | .tile =>
    b == 1 || b == 2 ||
    (decide (0x030800 ≤ a) && decide (a < 0x031000)) ||
    (decide (0x040180 ≤ a) && decide (a < 0x040200)) ||
    a == TIME_PPS || a == TIME_PPSIN || a == TIME_LAUNCH ||
    (decide (0x050100 ≤ a) && decide (a < 0x060000)) ||
    (b == 11 && a != TWIN_ACC && a != TWIN_ACC_EPOCH) ||
    (decide (0x061000 ≤ a) && decide (a < 0x070000))
  | .sender =>
    b == 7 || b == 8 || b == 9 || b == 10 ||
    (decide (0x060010 ≤ a) && decide (a < 0x060020)) ||
    a == CAL_Q_SINK || a == CAL_Q_SINK2 || a == CAL_Q_ADC ||
    (decide (0x0D0400 ≤ a) && decide (a < 0x0D0500)) || (decide (0x0D1000 ≤ a) && decide (a < 0x0E0000))

/-! Reading. -/

/-- Puts a field's value into a word read. -/
def showIn (f : Fld) (v : Nat) (w : Word) : Word := withField w f.lo f.width v

/-- The index of an array register from its address. -/
def idxOf (a base stride : Nat) : Nat := (a - base) / stride

/-- Whole seconds of unbroken SYNCED (R289). -/
def Dev.syncedSecs (d : Dev) : Nat :=
  match d.twin.syncedSince with
  | some t => satCount 16 ((d.ticks - t) / secs 1)
  | none => 0

/-- The control and seed fields of a unit that serves a guarded region read the values of R384. With CONT = 1 each capture is
followed at once by the next (R383): RUN reads 1 (log entry 156). -/
def guardedWord (a n : Nat) (w : Word) : Word :=
  if a == CRC_CTRL n then showIn (CRC_CTRL_POLY n) 1 w
  else if a == SNP_CTRL n then
    showIn (SNP_CTRL_EN n) 1 (showIn (SNP_CTRL_CONT n) 1 (showIn (SNP_CTRL_SRC n) 2
      (showIn (SNP_CTRL_POLY n) 1 (showIn (SNP_CTRL_SEL n) (n - 4) w))))
  else if a == SNP_SEED n then 0xFFFFFFFF
  else if a == SNP_STAT n then showIn (SNP_STAT_RUN n) 1 w
  else w

/-- The unit of a CRC register. -/
def crcUnitOf (a : Nat) : Nat := if a < 0x100800 then idxOf a 0x100000 0x40 else idxOf a 0x100800 0x20

/-- The words of the CRC block. -/
def crcWord (st : Straps) (a : Nat) (d : Dev) (w : Word) : Word :=
  let n := crcUnitOf a
  let w1 := if a == CRC_RESULT n then BitVec.ofNat 32 (d.crcResult st n) else w
  if crcGuarded st d n then guardedWord a n w1 else w1

/-- What a register shows that straps and silicon fix, whether or not the role uses its block (R446). -/
def fixedWord (st : Straps) (a : Nat) (w : Word) : Word :=
  if a == GEN_STRAP then BitVec.ofNat 32 (b2n (isSender st) + 2 * b2n st.twinPri + 4 * st.svcAddr.val)
  else if a == HIF_ID then BitVec.ofNat 32 (0x4892 + 65536 * Config.revision.toNat + 2 ^ 24 * b2n (isSender st))
  else if a == TWIN_STAT then showIn TWIN_STAT_PRI (b2n st.twinPri) w
  else w

/-- What a register shows that the device derives from the rest of its state. -/
def shownWord (st : Straps) (a : Nat) (d : Dev) (w : Word) : Word :=
  match a / 0x10000 with
  | 0 =>
    if a == GEN_STAT then showIn GEN_STAT_ALERT (b2n d.alertLow) w
    else w
  | 1 =>
    if a == HIF_STAT then showIn HIF_STAT_INFLIGHT d.inFlight w
    else w
  | 2 =>
    let n := idxOf a 0x020000 0x20
    if a == RING_CFG n then showIn (RING_CFG_BUSY n) (b2n (d.ringBusy n)) w else w
  | 3 =>
    let x := idxOf a 0x030000 0x400
    if a == LANE_STAT x then showIn (LANE_STAT_UP x) (b2n (d.pstate x == P_LS0)) w else w
  | 4 =>
    let x := idxOf a 0x040100 0x40
    if a == XPT_ADDR && isSender st then showIn XPT_ADDR_ADDR 0 w
    else if a == XPT_PRES_LO x then BitVec.ofNat 32 (d.presentMap x)
    else if a == XPT_PRES_HI x then BitVec.ofNat 32 (d.presentMap x / 2 ^ 32)
    else w
  | 5 => if a == TIME_NOW_NS then BitVec.ofNat 32 d.time.clk.ns else w
  | 6 =>
    if a == CMP_STORE then showIn CMP_STORE_USED d.storeUsed w
    else if decide (0x060040 ≤ a) && decide (a < 0x060060) then
      let n := idxOf a 0x060040 8
      if a == CMP_GR_STAT n then showIn (CMP_GR_STAT_SAFE n) (b2n (d.safes.any fun s => s.region == n)) w else w
    else w
  | 7 => if a == COR_ARM then showIn COR_ARM_PEND (d.get COR_STAT_PEND) w else w
  | 10 =>
    if a == DIAG_STAT then showIn DIAG_STAT_PIN_FAULT (b2n (d.diag.pin.any fun e => e.2 == 1)) w
    else if 0x0A0010 ≤ a && a < 0x0A0028 then BitVec.ofNat 32 (d.diagCount (idxOf a 0x0A0010 4))
    else w
  | 11 =>
    if a == TWIN_SYNC then showIn TWIN_SYNC_SECS d.syncedSecs w
    else w
  | 14 => d.secWord st a w
  | 15 =>
    if a == REC_STAT then
      showIn REC_STAT_QUEUE (d.rcd.queue.length + d.rcd.fresh.length) (showIn REC_STAT_LOST_PEND (b2n (d.rcd.lost != 0)) w)
    else w
  | 16 => crcWord st a d w
  | _ => w

/-- The word that a register reads as; 0 where no register stands (R439). -/
def readWord (st : Straps) (a : Nat) (d : Dev) : Word :=
  if (regAt a).isNone then 0
  else fixedWord st a (if unusedAt st a then regReset a else shownWord st a d (d.rd a))

/-- INIT of GEN_ACC_ERR (R450). -/
def initCode : Initiator → Nat
  | .mc0 => 0
  | .mc1 => 1
  | .nutcracker => 2
  | .bar0 => 3
  | .command => 4
  | .service => 5
  | .jtag => 6
  | .bar2 | .config => 3

/-- GEN_ACC_ERR takes an access while it holds none (R439, R442, R450). -/
def Dev.logAccess (init : Initiator) (a : Nat) (write narrow : Bool) (d : Dev) : Dev :=
  if d.getb GEN_ACC_ERR_VALID then d
  else d.setAll [(GEN_ACC_ERR_ADDR, a), (GEN_ACC_ERR_INIT, initCode init), (GEN_ACC_ERR_WRITE, b2n write),
    (GEN_ACC_ERR_NARROW, b2n narrow), (GEN_ACC_ERR_VALID, 1)]

/-- TIME_NOW_SL and TIME_NOW_SH latch the seconds and the fraction (R209). -/
def Dev.latchTime (d : Dev) : Dev :=
  d.setAll [(TIME_NOW_SL_S, d.time.clk.sec), (TIME_NOW_SH_S, d.time.clk.sec / 2 ^ 32), (TIME_NOW_SH_FRAC, d.time.clk.frac)]

/-- A read of a register with its side effects: the value and the device after it. -/
def Dev.readReg (st : Straps) (init : Initiator) (a : Nat) (d : Dev) : Word × Dev :=
  let v := readWord st a d
  if (regAt a).isNone then (v, d.logAccess init a false false)
  else if a == TIME_NOW_NS then (v, d.latchTime)
  else (v, d)

/-- The offset and the number of the bytes of an access that lies within one aligned word; none where it does not (R442). -/
def accessSpan (a : Nat) : AccessWidth → Option (Nat × Nat)
  | .word => if a % 4 == 0 then some (0, 4) else none
  | .three off => if off.val + 3 ≤ 4 then some (off.val, 3) else none
  | .half off => if off.val + 2 ≤ 4 then some (off.val, 2) else none
  | .byte off => some (off.val, 1)
  | .crossing => none

/-- A read that is larger than a word or crosses one: over BAR0 it completes with Completer Abort (R442), which AER logs; no other
initiator has such a read, and nothing happens (log entry 157). -/
def Dev.wideRead (init : Initiator) (d : Dev) : Dev :=
  if init == .bar0 then { d with host.pcie.caLogged := true }.emit .completerAbort else d

/-- A read by an initiator: the bytes asked for of the word, with the side effects of a read of all of it (R442); the service
port without READ gets 0 (R448). -/
def Dev.readBytes (st : Straps) (init : Initiator) (a : Nat) (width : AccessWidth) (d : Dev) : Dev :=
  match accessSpan a width with
  | none => d.wideRead init
  | some (off, n) =>
    if mayRead st init d then
      let r := d.readReg st init a
      r.2.emit (.readValue (slice (leBytes r.1.toNat 4) off n))
    else (d.set GEN_SVC_STAT_DENIED_SEEN 1).emit (.readValue (zeros n))

/-- The zeros that a read of a device held in a reset returns (R446). -/
def Dev.readZeros (init : Initiator) (a : Nat) (width : AccessWidth) (d : Dev) : Dev :=
  match accessSpan a width with
  | none => d.wideRead init
  | some (_, n) => d.emit (.readValue (zeros n))

/-- TIME_NOW_READ (R209), and a read of any other register (R439, R442). -/
def execTimeNowRead (init : Initiator) (addr : Nat) (width : AccessWidth) (s : State) : Host.Outcome State Fault Refusal :=
  runRead (fun st d => init == .service || mayRead st init d) (fun d => d.readZeros init (addr % 2 ^ 24) width)
    (fun st d => d.readBytes st init (addr % 2 ^ 24) width) s

/-! Writing by the access codes (R8, R9). -/

/-- An encoding that is not reserved. -/
def FieldDesc.allows (f : FieldDesc) (v : Nat) : Bool := f.legal.isEmpty || f.legal.any fun r => decide (r.1 ≤ v) && decide (v ≤ r.2)

/-- What a write of `v` leaves in a field of a word `old`. -/
def FieldDesc.after (f : FieldDesc) (trusted : Bool) (old v : Word) : Nat :=
  let o := fieldOf old f.lo f.width
  let n := fieldOf v f.lo f.width
  match f.acc with
  | .rw | .rws => if f.allows n then n else o
  | .rwt => if trusted && f.allows n then n else o
  | .w1c => o - (o &&& n)
  | .ro | .wo => o

/-- A register's word after a write, the fields that begin at the bits of `skip` left alone. -/
def writtenWord (init : Initiator) (skip : List Nat) (fields : List FieldDesc) (old v : Word) : Word :=
  fields.foldl (fun w f => if skip.contains f.lo then w else withField w f.lo f.width (f.after (init == .nutcracker) old v)) old

/-- A write that has no other effect than on its fields. -/
def Dev.writeFields (init : Initiator) (skip : List Nat) (a : Nat) (v : Word) (d : Dev) : Dev :=
  match regAt a with
  | some r => d.wr a (writtenWord init skip r.fields (d.rd a) v)
  | none => d

/-- A plain write. -/
def Dev.plain (init : Initiator) (a : Nat) (v : Word) (d : Dev) : Dev := d.writeFields init [] a v

/-- A plain write whose new value acts from a later frame on (R251, R277). -/
def Dev.plainLate (init : Initiator) (a : Nat) (v : Word) (due : Nat) (d : Dev) : Dev :=
  let d1 := d.plain init a v
  d1.actsLater a (d1.rd a) due

/-- A bit of a written word. -/
def bitOf (v : Word) (k : Nat) : Bool := natBit v.toNat k

/-- An ARM and DISARM pair: DISARM alone counts when both are written (R469). -/
def armOrDisarm (v : Word) (arm disarm : Dev → Dev) (d : Dev) : Dev :=
  if bitOf v 1 then disarm d else if bitOf v 0 then arm d else d

/-! Registers with behaviour of their own, block by block. -/

/-- The watchdog period starts again (R401). -/
def Dev.kick (d : Dev) : Dev := { d with boot.kickAt := d.ticks }

/-- Block GEN. GEN_RST acts outside this write. -/
def Dev.writeGen (init : Initiator) (a : Nat) (v : Word) (d : Dev) : Dev :=
  if a == GEN_CTRL then
    d.withAlert fun d =>
      let d1 := d.plain init a v
      if !d.getb GEN_CTRL_WDOG && d1.getb GEN_CTRL_WDOG then d1.kick else d1
  else if a == GEN_WDOG then d.kick
  else if a == GEN_RST then d
  else d.plain init a v

/-- Block HIF (R57, R61, R85): a cause that is enabled starts from a pending count of 0 (R83). -/
def Dev.writeHif (init : Initiator) (a : Nat) (v : Word) (d : Dev) : Dev :=
  if a == HIF_CTRL then
    let d1 := d.writeFields init [0] a v
    if bitOf v 0 then d1.opPollEnable else d1.opPollDisable
  else if a == HIF_DB_LO || a == HIF_DB_HI || a == HIF_SH_LO || a == HIF_SH_HI then
    if d.getb HIF_CTRL_EN then d else d.plain init a v
  else
    let d1 := d.plain init a v
    let c := idxOf a 0x010040 4
    if 0x010040 ≤ a && a < 0x010080 && !d.getb (HIF_VEC_EN c) && d1.getb (HIF_VEC_EN c) then
      { d1 with host.items := setAt d1.host.items c (0, 0) }
    else d1

/-- Block RING (R77). -/
def Dev.writeRing (init : Initiator) (a : Nat) (v : Word) (d : Dev) : Dev :=
  let n := idxOf a 0x020000 0x20
  if a == RING_CFG n && a < 0x0200A0 then
    if d.ringEn n then (if bitOf v 8 then d else d.opRingDisable n)
    else if d.ringBusy n then d
    else
      let d1 := d.writeFields init [8] a v
      if bitOf v 8 then d1.opRingEnable n else d1
  else if (a == RING_BASE_LO n || a == RING_BASE_HI n) && a < 0x0200A0 then
    if d.ringEn n || d.ringBusy n then d else d.plain init a v
  else d.plain init a v

/-- Block LANE (R141, R145). -/
def Dev.writeLane (st : Straps) (init : Initiator) (a : Nat) (v : Word) (d : Dev) : Dev :=
  let x := idxOf a 0x030000 0x400
  if a == LANE_CTRL x && a < 0x031000 then
    let d1 := d.writeFields init [0, 1, 5] a v
    let idle := bitOf v 5
    let d2 := if !txidleWritable st d || idle == d.getb (LANE_CTRL_TXIDLE x) then d1
      else if idle then d1.opTxidleSet st x else d1.opTxidleClear st x
    let d3 := if bitOf v 0 then d2.opPortEnable st x else d2.opPortDisable st x
    d3.opTarget st x (fieldOf v 1 2)
  else d.plain init a v

/-- Block XPT (R150, R185): a sender has no address. -/
def Dev.writeXpt (st : Straps) (init : Initiator) (a : Nat) (v : Word) (d : Dev) : Dev :=
  if a == XPT_ADDR && isSender st then d.writeFields init [0] a v else d.plain init a v

/-- TIME_TRIM of a sender with SRC = HOST or STATE = FREE, under the limit of R187. -/
def Dev.writeTrim (st : Straps) (v : Word) (d : Dev) : Dev :=
  if isSender st && (d.get TIME_CTRL_SRC == SRC_HOST || d.timeState == 0) then
    d.seti TIME_TRIM_TRIM (sat (toSigned 32 v.toNat) (-trimLimit) trimLimit)
  else d

/-- TIME_PTPn_CTRL and TIME_PTPn_IPV4. -/
def Dev.writePtp (st : Straps) (init : Initiator) (a : Nat) (v : Word) (d : Dev) : Dev :=
  let n := idxOf a 0x050100 0x40
  if a == TIME_PTP_CTRL n then
    if d.getb (TIME_PTP_CTRL_EN n) then (if bitOf v 0 then d else d.opPtpDisable st n)
    else
      let d1 := d.writeFields init [0] a v
      if bitOf v 0 then d1.opPtpEnable st n else d1
  else if a == TIME_PTP_IPV4 n then (if d.getb (TIME_PTP_CTRL_EN n) then d else d.plain init a v)
  else d.plain init a v

/-- Block TIME (R187, R191, R197, R203, R209). -/
def Dev.writeTime (st : Straps) (init : Initiator) (a : Nat) (v : Word) (d : Dev) : Dev :=
  if a == TIME_CTRL then
    if isTile st then d.writeFields init [0, 3, 16] a v
    else
      let d1 := d.plain init a v
      if d.get TIME_CTRL_SRC != d1.get TIME_CTRL_SRC then d1.sourceChanged st
      else if d.get TIME_CTRL_PREF != d1.get TIME_CTRL_PREF then d1.reselect st
      else d1
  else if a == TIME_TRIM then d.writeTrim st v
  else if a == TIME_PPS then (d.plain init a v).ppsHeld
  else if a == TIME_LAUNCH then (if d.ringEn 0 then d else d.plain init a v)
  else if a == TIME_PATH_A || a == TIME_PATH_B then
    let d1 := d.plain init a v
    if isTile st then d1.setb TIME_STAT_PATH_OK d1.pathOk else d1
  else if 0x050100 ≤ a then d.writePtp st init a v
  else d.plain init a v

/-- Block CMP (R213). -/
def Dev.writeCmp (st : Straps) (init : Initiator) (a : Nat) (v : Word) (d : Dev) : Dev :=
  if a == CMP_FP_ARM then armOrDisarm v (Dev.opFpArm st) Dev.opFpDisarm d
  else if (0x060018 ≤ a && a < CMP_FP_ARM) || (0x061000 ≤ a && a < 0x062000) then
    if d.getb CMP_FP_ARM_PEND then d else d.plain init a v
  else d.plain init a v

/-- Block COR (R229, R238). -/
def Dev.writeCor (st : Straps) (init : Initiator) (a : Nat) (v : Word) (d : Dev) : Dev :=
  if a == COR_ARM then armOrDisarm v Dev.opCorArm Dev.opCorDisarm d
  else if a == COR_CANVAS then d.opCorCanvas st v.toNat
  else if a == COR_AT_NS || a == COR_AT_SL || a == COR_AT_SH then
    if d.getb COR_STAT_PEND then d else d.plain init a v
  else d.plain init a v

/-- Block GRY (R249, R251). -/
def Dev.writeGry (init : Initiator) (a : Nat) (v : Word) (d : Dev) : Dev :=
  let due := d.now + lateMargin
  if a == GRY_FADE_ARM then armOrDisarm v Dev.opFadeArm Dev.opFadeDisarm (d.plain init a v)
  else if GRY_FADE ≤ a && a < GRY_FADE_ARM then (if d.getb GRY_FADE_ARM_PEND then d else d.plain init a v)
  else if a == GRY_LEVEL then
    if d.getb GRY_FADE_ARM_PEND || d.getb GRY_FADE_ARM_RUN then d else d.plainLate init a v due
  else if a == GRY_SCAN || a == GRY_XOVER || a == GRY_DERATE || a == GRY_DMAX then d.plainLate init a v due
  else d.plain init a v

/-- A pair of RANGE and CODE that R258 allows. -/
def ifsAllowed (v : Word) : Bool :=
  let code := fieldOf v 0 8
  if bitOf v 8 then decide (code ≤ 250) else code == 0 || decide (13 ≤ code)

/-- Block LDRV (R251, R258, R259). -/
def Dev.writeLdrv (init : Initiator) (a : Nat) (v : Word) (d : Dev) : Dev :=
  let due := d.now + lateMargin
  if a == LDRV_CTRL then
    let d1 := d.plainLate init a v due
    if d.getb LDRV_CTRL_DRIVE_EN then { d1 with cal.driveOnAt := some d.ticks } else d1
  else if 0x090100 ≤ a && a < 0x090200 then (if ifsAllowed v then d.plainLate init a v due else d)
  else d.plain init a v

/-- Block DIAG (R277). -/
def Dev.writeDiag (init : Initiator) (a : Nat) (v : Word) (d : Dev) : Dev :=
  if a == DIAG_CTRL || a == DIAG_THR then d.plainLate init a v 0 else d.plain init a v

/-- Block TWIN (R299); a change of PREFERRED changes STATE of the Yo-yo messages, and one goes out at once (R283). -/
def Dev.writeTwin (init : Initiator) (a : Nat) (v : Word) (d : Dev) : Dev :=
  let d1 := d.plain init a v
  if 0x0B0100 ≤ a then d1.noteAgreements
  else { d1 with twin.sendNow := d1.twin.sendNow || d1.get TWIN_CTRL_PREFERRED != d.get TWIN_CTRL_PREFERRED }

/-- THM_SHUT is checked as one register (R313). -/
def shutAllowed (v : Word) : Bool :=
  let t := toSigned 16 (fieldOf v 0 16)
  decide (2000 ≤ t) && decide (t ≤ 2240) && decide (toSigned 16 (fieldOf v 16 16) ≤ t - 160)

/-- Block THM (R307, R313). -/
def Dev.writeThm (init : Initiator) (a : Nat) (v : Word) (d : Dev) : Dev :=
  if a == THM_CTRL then d.withAlert fun d => d.plain init a v
  else if a == THM_SHUT then (if init == .nutcracker && shutAllowed v then d.wr a v else d)
  else d.plain init a v

/-- Block SEC (R337, R365). -/
def Dev.writeSec (st : Straps) (init : Initiator) (a : Nat) (v : Word) (d : Dev) : Dev :=
  if a == SEC_SVC_CMD then d.opSvc st (svcSource init) (fieldOf v 0 4) (fieldOf v 4 4) (fieldOf v 9 3)
  else d.plain init a v

/-- Block REC (R375). -/
def Dev.writeRec (init : Initiator) (a : Nat) (v : Word) (d : Dev) : Dev :=
  if a == REC_RD_SEQ then d.opRecRdSeq v.toNat else d.plain init a v

/-- Both registers that show a unit's POLY (R385). -/
def Dev.setPoly (n p : Nat) (d : Dev) : Dev := d.setAll [(CRC_CTRL_POLY n, p), (SNP_CTRL_POLY n, p)]

/-- Block CRC (R381 to R385). -/
def Dev.writeCrc (st : Straps) (init : Initiator) (a : Nat) (v : Word) (d : Dev) : Dev :=
  let n := crcUnitOf a
  let guarded := crcGuarded st d n
  if a == CRC_CTRL n then
    if guarded then d.writeFields init [0] a v
    else
      let d1 := (d.plain init a v).setPoly n (fieldOf v 0 2)
      if bitOf v 4 then d1.opCrcStart st n else d1
  else if a == CRC_SEED n then d.opCrcSeed st n v.toNat
  else if a == CRC_DATA n then d.opCrcData st n 0 (leBytes v.toNat 4)
  else if a == CRC_DATA_H n then d.opCrcData st n 1 (leBytes v.toNat 4)
  else if a == CRC_DATA_B n then d.opCrcData st n 2 (leBytes v.toNat 4)
  else if a == SNP_CTRL n then
    if guarded then d
    else
      let d1 := (d.plain init a v).setPoly n (fieldOf v 4 2)
      if bitOf v 2 then d1.opSnoopArm st n else d1
  else if a == SNP_SEED n then (if guarded then d else d.plain init a v)
  else d.plain init a v

/-- The side of the mailboxes that an initiator is (R386, R393, R448). -/
def mbxSideOf (st : Straps) : Initiator → MbxSide
  | .mc0 | .mc1 => .mc
  | .nutcracker => .trusted
  | .service => if isTile st then .host else .other
  | _ => .other

/-- Block MBX (R387). -/
def Dev.writeMbx (st : Straps) (init : Initiator) (a : Nat) (v : Word) (d : Dev) : Dev :=
  let side := mbxSideOf st init
  if a == MBX_ACK then
    d.each ((List.range 8).filter fun m => bitOf v m) fun d m => d.opMbxAck st side m
  else if 0x110020 ≤ a then d.opMbxWrite st side (idxOf a 0x110020 4) v.toNat
  else d.plain init a v

/-- Block AON (R408, R411). -/
def Dev.writeAon (st : Straps) (init : Initiator) (a : Nat) (v : Word) (d : Dev) : Dev :=
  if a == AON_DORM_ARM then armOrDisarm v Dev.opDormArm Dev.opDormDisarm d
  else if a == AON_DORM_AT_NS || a == AON_DORM_AT_SL || a == AON_DORM_AT_SH then
    if d.getb AON_DORM_ARM_PEND then d else d.plain init a v
  else if a == AON_TONE then (if isSender st then d.opTone (fieldOf v 0 4) else d)
  else d.plain init a v

/-- Block FAB (R42, R308, R470): TLEVEL never stands above THR_MAX. -/
def Dev.writeFab (st : Straps) (init : Initiator) (a : Nat) (v : Word) (d : Dev) : Dev :=
  if a == FAB_CTRL then
    let d1 := d.plain init a v
    if d1.get FAB_CTRL_THR_MAX < d1.get FAB_STAT_TLEVEL then d1.setTlevel st (d1.get FAB_CTRL_THR_MAX) else d1
  else if a == FAB_PINJ then
    if bitOf v 31 then d.opPinjArm (fieldOf v 0 4) (fieldOf v 4 8) else d.opPinjCancel
  else d.plain init a v

/-- A write to a register of a used block. -/
def Dev.writeUsed (st : Straps) (init : Initiator) (a : Nat) (v : Word) (d : Dev) : Dev :=
  match a / 0x10000 with
  | 0 => d.writeGen init a v
  | 1 => d.writeHif init a v
  | 2 => d.writeRing init a v
  | 3 => d.writeLane st init a v
  | 4 => d.writeXpt st init a v
  | 5 => d.writeTime st init a v
  | 6 => d.writeCmp st init a v
  | 7 => d.writeCor st init a v
  | 8 => d.writeGry init a v
  | 9 => d.writeLdrv init a v
  | 10 => d.writeDiag init a v
  | 11 => d.writeTwin init a v
  | 12 => d.writeThm init a v
  | 14 => d.writeSec st init a v
  | 15 => d.writeRec init a v
  | 16 => d.writeCrc st init a v
  | 17 => d.writeMbx st init a v
  | 18 => d.writeAon st init a v
  | 19 => d.writeFab st init a v
  | _ => d.plain init a v

/-- A whole-word write, but for the resets of GEN_RST. -/
def Dev.writeCore (st : Straps) (init : Initiator) (a : Nat) (v : Word) (d : Dev) : Dev :=
  if (regAt a).isNone then d.logAccess init a true false
  else if unusedAt st a then d
  else d.writeUsed st init a v

end Sys2Proof.Machine
end

