-- ==== Sys2Proof/Machine/Boot.lean ====
section
/-! DEFINITION. Start-up: the recorder's restart, the lane block, the trusted part's checks, the settings blocks, and the
steps of management firmware (spec/17_power_reset_dormant.md R402, R403; spec/15_firmware_trust_update.md R341, R342, R359
to R363; spec/16_recorder_crc_mailbox.md R373). -/

namespace Sys2Proof.Machine

/-! The recorder (R373). -/

/-- The valid records of the eMRAM. -/
def Dev.validRecords (d : Dev) : List EventRec :=
  (d.rcd.slots.map fun e => eventOfBytes e.2).filter fun r => d.recCheckOk r.seq && (eventOfBytes (d.recSlot r.seq)).seq == r.seq

/-- The newest of a list of sequence numbers, and the oldest. -/
def newestSeq (l : List Nat) : Option Nat :=
  l.foldl (fun acc s => match acc with
    | none => some s
    | some n => some (if precedes n s then s else n)) none
def oldestSeq (l : List Nat) : Option Nat :=
  l.foldl (fun acc s => match acc with
    | none => some s
    | some n => some (if precedes s n then s else n)) none

/-- The valid records that no REC_CLEARED clears. -/
def Dev.liveSeqs (d : Dev) : List Nat :=
  let all := d.validRecords
  let clears := all.filter fun r => r.code == EV_REC_CLEARED.code
  let seqs := all.map EventRec.seq
  match newestSeq (clears.map EventRec.seq) with
  | none => seqs
  | some q =>
    match clears.find? fun r => r.seq == q with
    | some r => seqs.filter fun s => precedes r.p1 s
    | none => seqs

/-- The recorder finds where it stood. -/
def Dev.restartRecorder (d : Dev) : Dev :=
  match newestSeq (d.validRecords.map EventRec.seq) with
  | none => { d with rcd.next := 1 }.setAll [(REC_STAT_EMPTY, 1), (REC_SENT_SEQ, 1)]
  | some n =>
    let next := (n + 1) % 2 ^ 32
    match oldestSeq (d.liveSeqs.filter fun s => decide (dist32 s n ≤ recSlots - 1)) with
    | none => { d with rcd.next := next }.setAll [(REC_STAT_EMPTY, 1), (REC_SENT_SEQ, next), (REC_NEWEST_SEQ, n)]
    | some o =>
      { d with rcd.next := next }.setAll
        [(REC_STAT_EMPTY, 0), (REC_SENT_SEQ, next), (REC_NEWEST_SEQ, n), (REC_OLDEST_SEQ, o)]

/-! Settings blocks (R360, R361). -/

/-- The registers in a block's scope, each array by its first. -/
def scopeOf (id : Nat) : List Nat :=
  match id with
  | 0 => [LANE_CTRL 0, LANEN_GUARD 0 0, LANEN_TXEQ 0 0, LANE_REF_CTRL, XPT_CTRL, XPT_ADDR]
  | 1 => [CMP_CTRL, CMP_FP_CUR0, CMP_FP_CUR1, CMP_FM_CUR0 0 0, CMP_FM_CUR1 0 0, CMP_UF 0 0 0]
  | 2 => [GRY_SCAN, GRY_LEVEL, GRY_XOVER, GRY_DERATE, GRY_DMAX, LDRV_CTRL, LDRV_BANK_IFS 0]
  | 3 => [THM_CTRL, THM_WARN, THM_THROT, THM_NTC_LIM, THM_NTC_LUT 0, FAB_CTRL]
  | 5 => [COR_CTRL, COR_CANVAS, COR_SEAM 0 0 0]
  | 6 => [DIAG_CTRL, DIAG_THR, DIAG_CFG, REC_CTRL, CAL_CTRL, GEN_CTRL, AON_CTRL]
  | 7 => [TIME_CTRL, TIME_PPS, TIME_LAUNCH, TIME_PTP_IPV4 0, TIME_PTP_CTRL 0, TWIN_CTRL]
  | _ => []

/-- The registers whose fields a settings block loads although they are RO. -/
def loadedBases : List Nat := [CMP_FP_CUR0, CMP_FP_CUR1, CMP_FM_CUR0 0 0, CMP_FM_CUR1 0 0]

/-- A write of every field of a register, RO fields included. -/
def loadWord (fields : List FieldDesc) (old v : Word) : Word :=
  fields.foldl (fun w f => withField w f.lo f.width (fieldOf v f.lo f.width)) old

/-- One entry of a register list. -/
def Dev.applyEntry (st : Straps) (id a : Nat) (v : Word) (d : Dev) : Dev :=
  let skip (d : Dev) : Dev := d.event st EV_SET_DEFAULTED id a 0
  match regAt a with
  | none => skip d
  | some r =>
    if !(scopeOf id).contains r.base then skip d
    else if unusedAt st a then d
    else if r.base == LANE_CTRL 0 then d.writeFields .mc0 [0, 1, 5] a v
    else if loadedBases.contains r.base then d.wr a (loadWord r.fields (d.rd a) v)
    else if r.base == LDRV_CTRL then d.writeUsed st .mc0 a (withField v 0 1 (d.get LDRV_CTRL_DRIVE_EN))
    else d.writeUsed st .mc0 a v

/-- The entries of a register list, in order. -/
def Dev.applyList (st : Straps) (id : Nat) (body : List Byte) (d : Dev) : Dev :=
  d.each (List.range (body.length / 8)) fun d k =>
    d.applyEntry st id (natBits (leAt body (8 * k) 4) 0 24) (BitVec.ofNat 32 (leAt body (8 * k + 4) 4))

/-- A block is read: applied, or reported when it is absent or its CRC fails. -/
def Dev.applyBlock (st : Straps) (d : Dev) (id : Nat) : Dev :=
  match d.block id with
  | none => d.event st EV_SET_DEFAULTED id 0 0
  | some b => if id = 4 || id = 8 then d else d.applyList st id b.body

/-- The blocks that management firmware reads in a role. -/
def firmwareBlocks (st : Straps) : List Nat := if isSender st then [1, 2, 3, 4, 5, 6, 7, 8] else [1, 2, 3, 4, 5, 6]

/-! Migration (R359). -/

/-- The schema version that the manifest in force names for a block; 0 when it has no SCHEMA entry. -/
def Dev.schemaOf (d : Dev) (id : Nat) : Nat :=
  match mfstEntry d.mfstInForce 4 with
  | some e => leAt e.target (2 * id) 2
  | none => 0

/-- A block that is to be migrated: its CRC matches, without which it counts as absent (R360), and its VERSION is below the
schema's. -/
def Dev.oldBlock (d : Dev) (b : SetBlock) : Bool := b.ok && decide (b.version < d.schemaOf b.id)

/-- A block with another version and body. -/
def SetBlock.became (b : SetBlock) (version : Nat) (body : List Byte) : SetBlock :=
  { b with version := version, body := body, crc := crc32c body }

/-- Blocks after migration, and the IDs of those that could not be migrated and take the firmware's default. -/
def Dev.migrated (d : Dev) : List SetBlock × List Nat :=
  d.blocks.foldl (fun acc b =>
    let v := d.schemaOf b.id
    if !d.oldBlock b then (acc.1 ++ [b], acc.2)
    else
      match Config.migrate b.id b.version v b.body with
      | some body => (acc.1 ++ [b.became v body], acc.2)
      | none => (acc.1 ++ [b.became v (Config.settingDefault b.id v)], acc.2 ++ [b.id])) ([], [])

/-- The first start after an activation: old blocks are migrated into the other slot; blocks newer than the schema are those
of a version that was rolled back, and the other slot comes back into force (log entry 20). A record that would not fit its
slot is not written (R360, log entry 122). -/
def Dev.migrateSettings (st : Straps) (d : Dev) : Dev :=
  if d.blocks.any d.oldBlock then
    let r := d.migrated
    let m := settingsRecord r.1
    (if settingsMax < m.length then d else d.commitObject NK_SETTINGS m).each r.2 fun d id => d.event st EV_SET_DEFAULTED id 0 0
  else if (d.blocks.any fun b => decide (d.schemaOf b.id < b.version)) && d.slotValid NK_SETTINGS (d.spareSlot NK_SETTINGS) then
    d.commitSlot NK_SETTINGS (d.spareSlot NK_SETTINGS) (d.nextSeq NK_SETTINGS)
  else d

/-- Migration, when an activation has come since the last start. -/
def Dev.migrateIfDue (st : Straps) (d : Dev) : Dev :=
  if d.nvm.trusted.migrateDue then { d.migrateSettings st with nvm.trusted.migrateDue := false } else d

/-! The trusted part (R341, R342, R363, R413). -/

/-- The fall-back to the previous manifest and its images. An activation that it undoes is not reported as done (R363). -/
def Dev.fallBack (st : Straps) (d : Dev) : Dev :=
  let m := d.slotObject 1 d.otherMfst
  let same := d.mgmtSame st m
  let flip := match mfstEntry m 3 with
    | some e => !imageIs d.ucodeActive e
    | none => false
  let d1 : Dev := { d with
    nvm.trusted.manifest := d.otherMfst
    nvm.trusted.ucode := if flip then 1 - d.nvm.trusted.ucode else d.nvm.trusted.ucode
    nvm.trusted.armed := none, nvm.trusted.chunks := 0, nvm.trusted.built := false
    nvm.trusted.switched := none }
  (if same then d1.countWrite else d1.swapImages.secureDefaults).event st EV_SEC_FALLBACK 0 0 0

/-- The areas that the trusted part reads are checked for uncorrectable words (R339). -/
def Dev.noteBadAreas (d : Dev) : Dev :=
  d.each (d.nvm.bad.map Prod.fst).eraseDups fun d a => d.noteBad a 0 (areaAt a).2

/-- An armed activation whose P_a has passed on the always-on clock, or on the clock that it kept through a shutdown, is
applied (step 5). -/
def Dev.applyPassed (st : Straps) (d : Dev) : Dev :=
  match d.nvm.trusted.armed with
  | some a =>
    if a.1 ≤ max d.aonNow d.now then
      let r := d.switchOver st a.1
      if r.1 then r.2.swapImages else r.2
    else d
  | none => d

/-- The privileged settings: the defaults at power-on, else as the trusted store holds them (R337). -/
def Dev.restorePriv (powerOn : Bool) (d : Dev) : Dev :=
  if powerOn then d.secureDefaults
  else d.setAll [(SEC_PRIV_SVC_PERM, d.nvm.trusted.svcPerm), (SEC_PRIV_ENROLL, d.nvm.trusted.enroll)]

/-- The commit records of a slot are checked: one that is torn is dropped (step 1). -/
def Dev.checkRecord (d : Dev) (e : Nat × Nat) : Dev :=
  let r := d.slotRecord e.1 e.2
  if (nth (d.slots e.1) e.2 NvmSlot.empty).commit.isEmpty || r == some (nth (d.slots e.1) e.2 NvmSlot.empty).commit then d
  else
    (d.setSlots e.1 (modAt (d.slots e.1) e.2 fun s => { s with commit := r.getD [], prior := [] })).clearBad
      (some (commitArea e.1 e.2))

/-- Step 1: the trusted store is read, and its commit records are checked. -/
def Dev.readTrusted (d : Dev) : Dev :=
  d.nvmRead.noteBadAreas.each ([1, 2, 3, 4, 5, 6, 7].flatMap fun k => [(k, 0), (k, 1)]) Dev.checkRecord

/-- The trusted start-up: the trusted store is read, an open journal is finished, the manifest in force or the previous one is
found good, a passed activation is applied, and the cores are loaded and released; or the device is in recovery. A resume skips
steps 2 and 3 of R341 (R413). -/
def Dev.trustedStart (st : Straps) (powerOn resume : Bool) (d : Dev) : Dev :=
  let d0 := d.readTrusted.restorePriv powerOn
  let d1 := if d0.nvm.trusted.journal.isSome && !resume then d0.swapImages else d0
  let d2 : Dev := { d1 with
    nvm.delta := d1.nvm.delta.take (d1.nvm.delta.length / 65536 * 65536)
    sec.leaf := d1.nvm.trusted.nextQ }
  let good := d2.inForceOk st resume
  let back := !good && d2.rollbackOk st
  let d3 := if back then d2.fallBack st else d2
  if good || back then (d3.applyPassed st).releaseCores st else d3.holdCores st

/-! Steps 1 to 4 of R402. -/

/-- The boot ROM reads the lane block, and the enabled ports leave DOWN (step 2). -/
def Dev.startPorts (st : Straps) (d : Dev) : Dev :=
  d.each ((List.range 4).filter fun x => portExists st x && d.getb (LANE_CTRL_EN x)) fun d x => d.enterRefwait st x

/-- Start-up as far as the release of the management cores. -/
def Dev.bootUp (st : Straps) (cause : Nat) (powerOn : Bool) (d : Dev) : Dev :=
  let d1 := ({ d with boot.power := .awake, boot.kickAt := d.ticks, aon.pwrGood := true }.setAll
    [(GEN_STAT_PWR_GOOD, 1), (GEN_RST_CAUSE_CAUSE, cause)]).restartRecorder
  let d2 := (d1.event st EV_GEN_RESET cause 0 0).applyBlock st 0
  ((d2.startPorts st).emit (.refOut 1)).trustedStart st powerOn false

/-! Management firmware (steps 5 and 6). -/

/-- THM_SHUTDOWN is recorded and counted (R310 step 5). -/
def Dev.reportShutdown (st : Straps) (d : Dev) : Dev :=
  match d.boot.shutReport with
  | none => d
  | some p => ({ d with boot.shutReport := none }.event st EV_THM_SHUTDOWN p.1 p.2.1 p.2.2).addSat THM_SD_CNT_COUNT 1

/-- Step 5: the settings come into force, with the calibration record, the coefficient set and the ADC boot step, and NTC_REF
comes on (R428); a sender enters twin INIT. -/
def Dev.firmwareStart (st : Straps) (adc : List (List (List (Nat × Nat)))) (d : Dev) : Dev :=
  let d1 := d.nvmRead.reportShutdown st
  let d2 := d1.migrateIfDue st
  let d3 := (firmwareBlocks st).foldl (Dev.applyBlock st) d2
  let d4 := (d3.takeLate (d3.now + lateMargin)).loadCal st
  let d5 := { d4 with diag.forced := d4.savedMasks, boot.started := true, boot.restarted := false }
  match st.role with
  | .tile => ((d5.emit (.ntcRef true)).bootAdc st adc).startCoef st
  | .sender => d5.enterInit st

/-- FIRMWARE_START (R402, R403). After a restart of the cores alone only the settings are migrated. -/
def execFirmwareStart (adc : List (List (List (Nat × Nat)))) (s : State) : Host.Outcome State Fault Refusal :=
  runIf (fun _ d => d.awake && d.boot.mcRunning && (!d.boot.started || d.boot.restarted))
    (fun st d => if d.boot.started then { d.migrateIfDue st with boot.restarted := false } else d.withAlert fun d => d.firmwareStart st adc) s

/-- Step 6 may be taken: a tile waits for LOCKED and a source (R402); a sender does not (R403). -/
def Dev.readyNow (st : Straps) (d : Dev) : Bool :=
  d.boot.started && d.boot.mcRunning && !d.getb GEN_STAT_READY &&
  (isSender st || (d.timeState == T_LOCKED && d.tile.accepted.isSome))

/-- DEVICE_READY (R402, R403). -/
def execDeviceReady (s : State) : Host.Outcome State Fault Refusal :=
  runIf (fun st d => d.awake && d.readyNow st)
    (fun st d =>
      let d1 := (d.set GEN_STAT_READY 1).event st EV_GEN_READY 0 0 0
      match st.role with
      | .tile => d1.set LDRV_CTRL_DRIVE_EN 1
      | .sender => { d1.set HIF_STAT_READY 1 with twin.readyAt := some d.ticks }) s

end Sys2Proof.Machine
end

