-- ==== Sys2Proof/Machine/Restart.lean ====
section
/-! DEFINITION. The resets, the watchdog, the ends of brown-out, shutdown and dormancy, the loader swap, memory parity errors
and the removal of power (spec/17_power_reset_dormant.md R398 to R402, R412 to R414; R45, R310, R339, R357). -/

namespace Sys2Proof.Machine

/-! Power-on and cold reset (R398). -/

/-- The always-on domain loses what it holds, what it has latched of a thermal shutdown included (R310, R405). -/
def Dev.aonLost (d : Dev) : Dev := { d with aon := AonSt.init, boot.shut := none, boot.shutReport := none }

/-- Power-on: every field returns to Reset, the AON block included. -/
def Dev.powerOn (st : Straps) (d : Dev) : Dev :=
  let d1 := (d.aonLost.outputsOff st).cleared st keepsNone false false
  ((d1.setAll ([GEN_STAT_BKUP, GEN_STAT_MOTION, GEN_STAT_WAKE].map fun f => (f, d.get f))).aonResets st).bootUp st RC_POWER_ON true

/-- POWER_ON_RESET: the straps are sampled (R397, R398). -/
def execPowerOnReset (straps : Straps) (s : State) : Host.Outcome State Fault Refusal :=
  .next { s with straps := straps, dev := (s.dev.withAlert fun d => d.powerOn straps).finish }

/-- The cause of a cold reset (R400). -/
def coldCause : ColdPin → Nat
  | .resetN => RC_RESET_N
  | .pwrGood => RC_PWR_GOOD

/-- The parameters of THM_SHUTDOWN at the release (R310, R468). -/
def shutParams (d : Dev) (s : ShutSt) : Nat × Nat × Nat :=
  (s.entry / giga % 2 ^ 32, satCount 32 ((d.ticks - s.tick) / ms 1),
    ofSigned 16 s.peak + 65536 * min s.lost 32 + 2 ^ 22 * (s.entry % giga / 1000000))

/-- The shutdown is over, and what the always-on domain has latched of it waits for management firmware. -/
def Dev.endShutdown (d : Dev) : Dev :=
  match d.boot.shut with
  | none => d
  | some h => { d with boot.shut := none, boot.shutReport := some (shutParams d h) }

/-- A cold reset, with the straps as newly sampled. One during a thermal shutdown ends it (log entry 126). -/
def Dev.coldReset (old new : Straps) (pin : ColdPin) (d : Dev) : Dev :=
  ((d.outputsOff old).cleared new keepsCold false false).endShutdown.bootUp new (coldCause pin) false

/-- COLD_RESET: RESET_N low, or PWR_GOOD low while awake (R398). -/
def execColdReset (pin : ColdPin) (straps : Straps) (s : State) : Host.Outcome State Fault Refusal :=
  if s.dev.boot.power == Power.off || (pin == ColdPin.pwrGood && !s.dev.awake) then .next s
  else .next { s with straps := straps, dev := (s.dev.withAlert fun d => d.coldReset s.straps straps pin).finish }

/-! Warm reset and core restart (R398, R400, R401). -/

/-- A warm reset of a running device, released at once. -/
def Dev.warmReset (st : Straps) (cause : Nat) (d : Dev) : Dev :=
  d.withAlert fun d => (d.enterWarm st cause false).bootUp st cause false

/-- WARM_RESET: GEN_RST.WARM from the trusted part; from another initiator nothing happens (R9). -/
def execWarmReset (init : Initiator) (s : State) : Host.Outcome State Fault Refusal :=
  runBy init (fun _ _ => init == .nutcracker) (fun st d => d.warmReset st RC_SOFTWARE) s

/-- The management cores restart: mailboxes 0, 5 and 7 are cleared, a calibration step in progress ends, everything else stays.
Cores that the trusted part holds, in recovery or during a loader swap, stay held. -/
def Dev.coreRestart (st : Straps) (d : Dev) : Dev :=
  let d1 := (d.clearMbxs st [0, 5, 7]).stopCal st
  ({ d1 with boot.mcRunning := !d1.getb SEC_STAT_RECOVERY && d1.nvm.trusted.journal.isNone, boot.restarted := true }.set GEN_RST_CAUSE_CAUSE
    RC_CORES).event st EV_GEN_RESET RC_CORES 0 0

/-- CORE_RESTART (R398). -/
def execCoreRestart (init : Initiator) (s : State) : Host.Outcome State Fault Refusal :=
  runBy init (fun _ _ => init == .nutcracker) (fun st d => d.coreRestart st) s

/-- WATCHDOG_KICK (R401). -/
def execWatchdogKick (init : Initiator) (s : State) : Host.Outcome State Fault Refusal :=
  runBy init (fun _ _ => true) (fun _ d => d.kick) s

/-- The watchdog period has passed without a kick. -/
def Dev.watchdogDue (d : Dev) : Bool := d.getb GEN_CTRL_WDOG && d.passed d.boot.kickAt (ms (10 * d.get GEN_CTRL_WDOG))

/-- The watchdog fires: a core restart, or a warm reset on the third firing within 60 s; GEN_WATCHDOG is recorded when that
is done. -/
def Dev.watchdogFires (st : Straps) (d : Dev) : Dev :=
  let recent := d.ticks :: d.boot.firings.filter fun t => !d.passed t (secs 60)
  let d1 := if 3 ≤ recent.length then d.warmReset st RC_WATCHDOG
    else { d.coreRestart st with boot.firings := recent, boot.kickAt := d.ticks }
  d1.event st EV_GEN_WATCHDOG 0 0 0

/-- WATCHDOG_EXPIRE (R401). -/
def execWatchdogExpire (s : State) : Host.Outcome State Fault Refusal :=
  runIf (fun _ d => d.awake && d.watchdogDue) (fun st d => d.watchdogFires st) s

/-! Brown-out and shutdown (R38, R310, R399). -/

/-- BROWN_OUT: sinks and row gates go off at once, and the device is held in warm reset (R38, R399). -/
def execBrownOut (s : State) : Host.Outcome State Fault Refusal :=
  runAwake (fun st d => d.withAlert fun d => { d.enterWarm st RC_BROWN_OUT false with boot.power := .brownOut }) s

/-- BROWN_OUT_RELEASE (R399). -/
def execBrownOutRelease (s : State) : Host.Outcome State Fault Refusal :=
  runIf (fun _ d => d.boot.power == Power.brownOut) (fun st d => d.bootUp st RC_BROWN_OUT false) s

/-- SHUTDOWN_RESTART: four cool rounds, and at least 1 s after entry (R310 step 4). -/
def execShutdownRestart (s : State) : Host.Outcome State Fault Refusal :=
  runIf (fun _ d => d.boot.power == Power.shutdown)
    (fun st d =>
      match d.boot.shut with
      | none => d
      | some h =>
        if 4 ≤ h.coolRun && d.passed h.tick (secs 1) then
          d.endShutdown.bootUp st RC_SHUTDOWN false
        else d) s

/-! Dormant exit (R412 to R414). -/

/-- The RWS fields return from the retention store. -/
def Dev.restoreRws (d : Dev) : Dev :=
  d.each d.aon.keptRegs fun d e =>
    match regAt e.1 with
    | some r =>
      d.wr e.1 (r.fields.foldl (fun w f =>
        if f.acc == Access.rws then withField w f.lo f.width (fieldOf e.2 f.lo f.width) else w) (d.rd e.1))
    | none => d

/-- The saved taps return from the retention store. -/
def Dev.restoreTaps (d : Dev) : Dev :=
  d.each (List.range 8) fun d k => d.modLane (k / 2) (k % 2) fun l => { l with saved := nth d.aon.keptTaps k none }

/-- The resume record matches the eMRAM write counter, and no activation was armed at entry. -/
def Dev.resumeOk (d : Dev) : Bool := d.aon.resume == some (d.nvm.trusted.writes, false)

/-- The exit: clock, retained fields and ports, the trusted part's resume path, AON_WAKE and GEN_RESET. -/
def Dev.exitDormant (st : Straps) (d : Dev) : Dev :=
  let d1 : Dev := { d with
    boot.power := .awake, boot.kickAt := d.ticks
    time.clk.sec := d.aon.s, time.clk.ns := d.aon.ns, time.clk.frac := 0, time.clk.res := 0
    aon.wake := 0 }
  let seen := d.get AON_STAT_VLED_LOST * 8 + d.get AON_STAT_VDRV_LOST * 4 + d.get AON_STAT_VCORE_LOST * 2 +
    d.get AON_STAT_OTEMP_SEEN
  let slept := (d.aon.s - d.aon.enteredAt) % 2 ^ 32
  let d2 := ((d1.restoreRws).restoreTaps.setAll
    [(GEN_STAT_PWR_GOOD, 1), (GEN_RST_CAUSE_CAUSE, RC_DORMANT), (AON_STAT_SRC, d.aon.wake), (AON_DUR_SECONDS, slept)]).restartRecorder
  let d3 := (d2.event st EV_GEN_RESET RC_DORMANT 0 0).event st EV_AON_WAKE d.aon.wake slept seen
  ((d3.startPorts st).emit (.refOut 1)).trustedStart st false d3.resumeOk

/-- DORMANT_EXIT: a latched wake that nothing defers (R407, R412). -/
def execDormantExit (s : State) : Host.Outcome State Fault Refusal :=
  runIf (fun st d => d.dormant && d.aon.wake != 0 && !d.wakeDeferred st) (fun st d => d.exitDormant st) s

/-! The loader swap (R357, R389). -/

/-- LOADER_SWAP_DONE: the images have changed places, and the cores are loaded again and restart; what needs them still waits
for the end of the pause. -/
def execLoaderSwapDone (s : State) : Host.Outcome State Fault Refusal :=
  runIf (fun _ d => d.awake && d.nvm.trusted.journal.isSome)
    (fun st d => { (d.swapImages.clearMbxs st [0, 5, 7]).resumeCores st with boot.restarted := true }) s

/-! Parity errors (R45). -/

/-- SRAM_PARITY_ERROR: logged, counted and recorded, then acted on. An error in Nutcracker's memory takes a warm reset, and
is recorded after it. -/
def execSramParityError (mem unit offset : Nat) (s : State) : Host.Outcome State Fault Refusal :=
  runIf (fun st d => d.awake && memExists st mem unit)
    (fun st d =>
      if mem = 6 then
        let at_ := ((d.badByte mem unit).map BadByte.offset).getD offset
        ((d.add FAB_PERR_CNT_COUNT 1).warmReset st RC_PARITY).event st EV_FAB_PARITY mem unit at_
      else d.parityFound st mem unit offset) s

/-! The removal of power (R339). -/

/-- Bytes written into an area of the eMRAM. -/
def Dev.putArea (area : NvmArea) (off : Nat) (bytes : List Byte) (d : Dev) : Dev :=
  let put (l : List Byte) : List Byte := putBytes (padTo off l) off bytes
  let slot (kind : Nat) (s : Fin 2) : Dev :=
    d.setSlots kind (modAt (d.slots kind) s fun w => { w with bytes := put w.bytes })
  match area with
  | .settings s => slot 6 s
  | .coef s => slot 5 s
  | .cal s => slot 4 s
  | .safe s => slot 7 s
  | .manifest s => slot 1 s
  | .ucode s => slot 3 s
  | .mgmtRunning => slot 2 0
  | .mgmtStaging => slot 2 1
  | .commit k s => d.setSlots k (modAt (d.slots k) s fun w => { w with commit := (put w.commit).take 64 })
  | .delta => { d with nvm.delta := put d.nvm.delta }
  | .recorderSlot n =>
    let k := n % recSlots
    { d with rcd.slots := Cells.write recSlotDflt d.rcd.slots k ((put (Cells.read recSlotDflt d.rcd.slots k)).take 32) }
  | .recorderCheck n =>
    let k := n % recSlots
    let v := leAt (put (leBytes (Cells.read recCheckDflt d.rcd.checks k) 4)) 0 4
    { d with rcd.checks := Cells.write recCheckDflt d.rcd.checks k v }

/-- One 64-bit word of a burst that power cut short: old, new or uncorrectable, which of them is free. -/
def Dev.tearWord (b : NvmBurst) (d : Dev) (k : Nat) : Dev :=
  let r := d.draw 3
  let off := b.offset + 8 * k
  match r.1 with
  | 0 => r.2
  | 1 => r.2.putArea b.area off ((b.bytes.drop (8 * k)).take 8)
  | _ => { r.2 with nvm.bad := (b.area, off) :: r.2.nvm.bad }

/-- The commit record that a new one is written over stands as the one before it (R340). -/
def Dev.keepRecord (area : NvmArea) (d : Dev) : Dev :=
  match area with
  | .commit k s => d.setSlots k (modAt (d.slots k) s fun w => { w with prior := w.commit })
  | _ => d

/-- The loader is writing the area: what it leaves torn of a copy is copied again from its source, which stands (R357,
R363). -/
def Dev.loaderWrites (d : Dev) (area : NvmArea) : Bool :=
  d.nvm.trusted.journal.isSome && (area == .mgmtRunning || area == .mgmtStaging)

/-- A burst in progress is left torn. -/
def Dev.tear (burst : Option NvmBurst) (d : Dev) : Dev :=
  match burst with
  | some b =>
    if d.loaderWrites b.area then d
    else (d.keepRecord b.area).each (List.range ((b.bytes.length + 7) / 8)) (Dev.tearWord b)
  | none => d

/-- POWER_REMOVED: everything but the eMRAM is lost. -/
def execPowerRemoved (burst : Option NvmBurst) (s : State) : Host.Outcome State Fault Refusal :=
  runIf (fun _ d => d.boot.power != Power.off)
    (fun st d => d.withAlert fun d =>
      let d1 := ((d.tear burst).outputsOff st).aonLost
      { d1.cleared st keepsNone false false with boot.power := .off }) s

end Sys2Proof.Machine
end

