-- ==== Sys2Proof/Machine/Ports.lean ====
section
/-! DEFINITION. Register writes, the service port and the writes to mailboxes (spec/19_register_map.md R439, R442, R444, R447 to
R449; spec/16_recorder_crc_mailbox.md R386 to R388). -/

namespace Sys2Proof.Machine

/-- A whole-word write: GEN_RST of the trusted part takes a reset, everything else changes the register file (R418). -/
def Dev.writeReg (st : Straps) (init : Initiator) (a : Nat) (v : Word) (d : Dev) : Dev :=
  if a == GEN_RST && init == .nutcracker then
    if bitOf v 0 then d.warmReset st RC_SOFTWARE else if bitOf v 1 then d.coreRestart st else d
  else d.writeCore st init a v

/-- The native feed register at an address: 0 DATA, 1 DATA_H, 2 DATA_B. -/
def feedReg (a : Nat) : Option Nat :=
  match regAt a with
  | some r =>
    if r.base == CRC_DATA 0 then some 0 else if r.base == CRC_DATA_H 0 then some 1
    else if r.base == CRC_DATA_B 0 then some 2 else none
  | none => none

/-- A write of `n` bytes, 1 or 2: taken by the native feed only, logged elsewhere (R442). -/
def Dev.writeNarrow (st : Straps) (init : Initiator) (a n : Nat) (v : Word) (d : Dev) : Dev :=
  match feedReg a with
  | some reg => d.opCrcData st (crcUnitOf a) reg (leBytes v.toNat n)
  | none => d.logAccess init a true true

/-- A write of any width. One of three bytes, which R382 does not feed, has no effect and is logged as a narrow one (R442; log
entry 157). -/
def Dev.writeAny (st : Straps) (init : Initiator) (a : Nat) (width : AccessWidth) (v : Word) (d : Dev) : Dev :=
  match accessSpan a width with
  | some (_, 4) => d.writeReg st init a v
  | some (_, 2) => d.writeNarrow st init a 2 v
  | some (_, 1) => d.writeNarrow st init a 1 v
  | _ => d.logAccess init a true true

/-- A write by the host to BAR2 or to configuration space, which a sender alone has (R47): whole words. -/
def Dev.writeFunction (st : Straps) (init : Initiator) (off : Nat) (width : AccessWidth) (v : Word) (d : Dev) : Dev :=
  if isTile st || width != .word || off % 4 != 0 then d
  else if init == .bar2 then d.bar2Write off v.toNat else d.configWrite st off v.toNat

/-! The service port (R447, R448). -/

/-- Whether the service port may write a word (R448). -/
def svcWriteOk (st : Straps) (a : Nat) (v : Word) (d : Dev) : Bool :=
  if isTile st && (a == MBX_DATA 0 || a == MBX_DATA 2 || a == MBX_ACK) then d.svcMay 0
  else if a == SEC_SVC_CMD then d.svcOpMay (fieldOf v 0 4) (fieldOf v 4 4) (fieldOf v 9 3)
  else if SEC_SVC_WIN 0 ≤ a && a ≤ SEC_SVC_WIN 1023 then d.svcMay 3
  else d.svcMay 1

/-- A write by the host to a mailbox that is full, in tile role. -/
def svcFull (st : Straps) (a : Nat) (d : Dev) : Bool :=
  isTile st && ((a == MBX_DATA 0 && d.mbxFull 0) || (a == MBX_DATA 2 && d.mbxFull 2))

/-- The bytes of a write that ends within a word: the word is discarded, but its first byte is refused as that of a whole
word would be, with the bits not sent taken as 0 (log entry 127). -/
def Dev.svcPart (st : Straps) (part : List Byte) (a : Nat) (d : Dev) : Dev :=
  if part.isEmpty || svcWriteOk st a (BitVec.ofNat 32 (leAt part 0 4)) d then d else d.svcNack

/-- The words of a write from an address on, and the bytes of one that it ends within; a NACK ends the transaction. -/
def Dev.svcWrite (st : Straps) (part : List Byte) : List Word → Nat → Dev → Dev
  | [], a, d => d.svcPart st part a
  | v :: vs, a, d =>
    if !svcWriteOk st a v d then d.svcNack
    else if svcFull st a d then (d.set GEN_SVC_STAT_FULL_SEEN 1).svcNack
    else Dev.svcWrite st part vs ((a + 4) % 2 ^ 24) (d.writeReg st .service a v)

/-- A register write by the service port as a transaction of its own (R447). -/
def Dev.svcStore (st : Straps) (a : Nat) (width : AccessWidth) (v : Word) (d : Dev) : Dev :=
  match accessSpan a width with
  | some (_, 4) => d.svcWrite st [] [v] a
  | some (_, n) => d.svcPart st (leBytes v.toNat n) a
  | none => if a % 4 == 0 then d else d.svcNack

/-- REGISTER_WRITE (R9, R442; R48, R49 for the function's own spaces; R448 for the service port). -/
def execRegisterWrite (init : Initiator) (addr : Nat) (width : AccessWidth) (value : Word) (s : State) :
    Host.Outcome State Fault Refusal :=
  runIf (fun st d => d.awake && (init == .service || hasAccess st init d)) (fun st d =>
    if init == .service then d.svcStore st (addr % 2 ^ 24) width value
    else if outsideRegs init then d.writeFunction st init addr width value
    else d.writeAny st init (addr % 2 ^ 24) width value) s

/-- Whole words of a byte list. -/
def wordsOf (data : List Byte) : List Word := (List.range (data.length / 4)).map fun k => BitVec.ofNat 32 (leAt data (4 * k) 4)

/-- The service port is the target of a transaction: its 7-bit address is 0x58 + SVC_ADDR; it answers no general call and no
10-bit address (R447). -/
def svcTargeted (st : Straps) : I2cTarget → Bool
  | .seven a => a.val == 0x58 + st.svcAddr.val
  | .ten _ => false

/-- SERVICE_PORT_WRITE (R447, R448). -/
def execServicePortWrite (target : I2cTarget) (addr : Nat) (data : List Byte) (s : State) : Host.Outcome State Fault Refusal :=
  runIf (fun st d => d.awake && svcTargeted st target) (fun st d =>
    if addr % 4 != 0 then d.svcNack else Dev.svcWrite st (data.drop (data.length / 4 * 4)) (wordsOf data) (addr % 2 ^ 24) d) s

/-- The bytes of a read of `n` words from an address on. -/
def Dev.svcRead (st : Straps) : Nat → Nat → Dev → List Byte × Dev
  | 0, _, d => ([], d)
  | n + 1, a, d =>
    let one : List Byte × Dev :=
      if d.svcMay 0 then
        let r := d.readReg st .service a
        (leBytes r.1.toNat 4, r.2)
      else (zeros 4, d.set GEN_SVC_STAT_DENIED_SEEN 1)
    let rest := Dev.svcRead st n ((a + 4) % 2 ^ 24) one.2
    (one.1 ++ rest.1, rest.2)

/-- SERVICE_PORT_READ (R447, R448): a word of which the controller takes only the first bytes is read as a whole one. -/
def execServicePortRead (target : I2cTarget) (addr : Nat) (bytes : Nat) (s : State) : Host.Outcome State Fault Refusal :=
  runRead (fun st _ => svcTargeted st target) (fun d => d.emit (.svcRead (zeros bytes))) (fun st d =>
    if addr % 4 != 0 then d.svcNack
    else
      let r := d.svcRead st ((bytes + 3) / 4) (addr % 2 ^ 24)
      r.2.emit (.svcRead (r.1.take bytes))) s

/-! The mailboxes' commands (R386 to R388): the host of a tile is the service port. -/

/-- The host's side of a tile. -/
def svcSide (st : Straps) (side : MbxSide) : Bool := isTile st && side == .host

/-- MBX_WRITE (R387, R388). -/
def execMbxWrite (writer : MbxSide) (m : Fin 8) (word : Word) (s : State) : Host.Outcome State Fault Refusal :=
  runAwake (fun st d =>
    if svcSide st writer then d.svcWrite st [] [word] (MBX_DATA m) else d.opMbxWrite st writer m word.toNat) s

/-- MBX_ACK (R387). -/
def execMbxAck (reader : MbxSide) (m : Fin 8) (s : State) : Host.Outcome State Fault Refusal :=
  runAwake (fun st d =>
    if svcSide st reader then d.svcWrite st [] [BitVec.ofNat 32 (2 ^ m.val)] MBX_ACK else d.opMbxAck st reader m) s

end Sys2Proof.Machine
end

