-- ==== Sys2Proof/Machine/Remote.lean ====
section
/-! DEFINITION. Commands on their way: opcodes and where they run, the dispatch of descriptors to tiles, bulk segments at the
sender, CMDs at a tile, RSPs, progress and timeouts (spec/03_host_interface.md R63 to R79, spec/06_chain_transport.md R176
to R179). -/

namespace Sys2Proof.Machine

/-! Opcodes (R66, R78, R179, R208, R275, R300, R330, R364, R379). -/

/-- Opcodes that the transport hardware executes. -/
def transportOp (op : Nat) : Bool := [0x0001, 0x0002, 0x0003, 0x0101, 0x0200].contains op

/-- Opcodes that the trusted part executes, also in recovery (R342, R364). -/
def trustedOp (op : Nat) : Bool := decide (0x0600 ≤ op) && decide (op ≤ 0x0605)

/-- Opcodes that must have LOCAL set. -/
def localOnly (op : Nat) : Bool := [0x0100, 0x0201, 0x0202, 0x0203, 0x0400].contains op

/-- Opcodes that must not have LOCAL set. -/
def remoteOnly (op : Nat) : Bool := [0x0101, 0x0200, 0x0300, 0x0301].contains op

/-- Opcodes defined somewhere. -/
def definedOp (op : Nat) : Bool :=
  op == 0 || transportOp op || trustedOp op || localOnly op || remoteOnly op ||
  [0x0500, 0x0501, 0x0502, 0x0700, 0x0701].contains op

/-- The opcode can be executed now: management firmware runs, or the opcode does not need it (R176). -/
def Dev.runs (d : Dev) (op : Nat) : Bool := transportOp op || trustedOp op || d.firmware

/-! Register commands (R66, R80). -/

/-- `n` reads from an address up. -/
def Dev.readRun (st : Straps) : Nat → Nat → Dev → List Word × Dev
  | 0, _, d => ([], d)
  | n + 1, a, d =>
    let r := d.readReg st .command a
    let t := Dev.readRun st n (a + 4) r.2
    (r.1 :: t.1, t.2)

/-- REG_READ: COUNT words from ADDR up. -/
def Dev.opRegRead (st : Straps) (desc : List Byte) (d : Dev) : Answer × List Byte :=
  if !regCmdOk 1 (dCount desc) (dAddr desc) (dResult desc) then (((ST_BAD_PARAM, 0), d), [])
  else
    let r := Dev.readRun st (dCount desc) (dAddr desc) d
    (((ST_OK, (nth r.1 0 0).toNat), r.2), leWords r.1)

/-- REG_WRITE: DATA0 and so on to ADDR, in ascending order. -/
def Dev.opRegWrite (st : Straps) (desc : List Byte) (d : Dev) : Answer :=
  if !regCmdOk 2 (dCount desc) (dAddr desc) 0 then ((ST_BAD_PARAM, 0), d)
  else
    ((ST_OK, 0), d.each (List.range (dCount desc)) fun d k =>
      d.writeReg st .command (dAddr desc + 4 * k) (BitVec.ofNat 32 (dData desc k)))

/-- (old AND NOT mask) OR (new AND mask). -/
def mergeWord (old mask new : Word) : Word := (old &&& ~~~mask) ||| (new &&& mask)

/-- REG_RMW in one step: DATA0 is the mask, DATA1 the new bits; VALUE is the old word. -/
def Dev.opRegRmw (st : Straps) (desc : List Byte) (d : Dev) : Answer :=
  if !regCmdOk 3 (dCount desc) (dAddr desc) 0 then ((ST_BAD_PARAM, 0), d)
  else
    let r := d.readReg st .command (dAddr desc)
    let v := mergeWord r.1 (BitVec.ofNat 32 (dData desc 0)) (BitVec.ofNat 32 (dData desc 1))
    ((ST_OK, r.1.toNat), r.2.writeReg st .command (dAddr desc) v)

/-! Bulk transfers: what a target refuses at once (R67, R225, R237, R276, R347, R351, R362, R377). -/

/-- BCAST of the staging objects (R351). -/
def isBcast (desc : List Byte) : Bool :=
  dOpcode desc == 1 && [OB_MGMT_STAGE, OB_UCODE_DELTA, OB_MANIFEST].contains (bObject desc) && natBit (bParam desc 32) 0

/-- Objects that the trusted part serves. -/
def trustedObject (ob : Nat) : Bool := [OB_MGMT_STAGE, OB_UCODE_DELTA, OB_MANIFEST, OB_ATTEST].contains ob

/-- The object can be served now. -/
def Dev.serves (d : Dev) (ob : Nat) : Bool := trustedObject ob || d.firmware

/-- The pixels of a safe image as they are stored, without the two Reserved bytes of each. -/
def packPixels (n : Nat) (data : List Byte) : List Byte := (List.range n).flatMap fun k => slice data (8 * k) 6

/-- The safe image that a SAFE_IMAGE descriptor names; its pixels are those of the data. -/
def safeOf (desc data : List Byte) : SafeImage :=
  { region := natBits (bParam desc 32) 0 2, x0 := leAt desc 34 2, y0 := leAt desc 36 2, w := leAt desc 38 2,
    h := leAt desc 40 2, pixels := packPixels (leAt desc 38 2 * leAt desc 40 2) data }

/-- The transfer removes the region's safe image. -/
def safeRemoves (desc : List Byte) : Bool := leAt desc 38 2 == 0 && leAt desc 40 2 == 0 && bLength desc == 4

/-- The limits of R225. -/
def Dev.safeOk (d : Dev) (desc : List Byte) : Bool :=
  let s := safeOf desc []
  let fp := d.footprintFor d.now
  let others := ((d.safes.filter fun t => t.region != s.region).map fun t => t.w * t.h).sum
  bOffset desc == 0 &&
  (safeRemoves desc ||
    (bLength desc == 8 * s.w * s.h && decide (fp.x ≤ s.x0) && decide (s.x0 + s.w ≤ fp.x + fp.extent.1) &&
      decide (fp.y ≤ s.y0) && decide (s.y0 + s.h ≤ fp.y + fp.extent.2) && decide (others + s.w * s.h ≤ 49152)))

/-- The slot that a FROM_DEVICE COEF_SET names; `none` with no set there. -/
def Dev.coefNamed (d : Dev) (desc : List Byte) : Option Nat :=
  let n := bParam desc 32
  let s := if n = 2 then d.get COR_STAT_ACTIVE else n
  if s < 2 ∧ d.coefHeld s then some s else none

/-- HDR of a SETTINGS transfer. -/
def settingsHdr (desc : List Byte) : Bool := natBit (bParam desc 33) 0

/-- The block that a SETTINGS transfer names. -/
def settingsId (desc : List Byte) : Nat := natBits (bParam desc 32) 0 4

/-- The answer to a BULK_OPEN: OK, or the status and VALUE with which the target refuses the transfer. An armed switch refuses
a COEF_SET that would write a slot; one that reads is served (log entry 150). -/
def Dev.bulkAnswer (st : Straps) (desc : List Byte) (d : Dev) : Nat × Nat :=
  let op := dOpcode desc
  let ob := bObject desc
  let ok (b : Bool) : Nat × Nat := if b then (ST_OK, 0) else (ST_BAD_PARAM, 0)
  if op ≠ 1 ∧ op ≠ 2 then (ST_BAD_OPCODE, 0)
  else if !bulkLimitsOk desc || !bulkDirOk ob op then (ST_BAD_PARAM, 0)
  else if ob = OB_MGMT_STAGE then ok (bOffset desc % 65536 == 0)
  else if ob = OB_MANIFEST then ok (decide (bParam desc 33 ≤ 2))
  else if ob = OB_ATTEST then ok (bOffset desc == 0 && bLength desc == 8192)
  else if ob = OB_COEF_SET then
    if isSender st || bOffset desc ≠ 0 || bLength desc ≠ coefLength then (ST_BAD_PARAM, 0)
    else if op = 1 then (if d.getb COR_STAT_PEND then (ST_REMOTE_FAULT, 1) else (ST_OK, 0))
    else if 2 < bParam desc 32 then (ST_BAD_PARAM, 0)
    else if (d.coefNamed desc).isNone then (ST_REMOTE_FAULT, 6)
    else (ST_OK, 0)
  else if ob = OB_SAFE_IMAGE then ok (isTile st && d.safeOk desc)
  else if ob = OB_LAMP_MAP ∨ ob = OB_MEAS then
    ok (isTile st && decide (bOffset desc + bLength desc ≤ snapshotSize ob))
  else if ob = OB_REC_DUMP then ok (recDumpOk desc)
  else if ob = OB_SETTINGS then
    if bOffset desc ≠ 0 then (ST_BAD_PARAM, 0)
    else if op = 1 then ok (decide (bLength desc ≤ 61440))
    else
      match d.block (settingsId desc) with
      | none => (ST_REMOTE_FAULT, 6)
      | some b => ok (bLength desc == if settingsHdr desc then 16 else b.body.length)
  else (ST_OK, 0)

/-! What a bulk object does with its data, or gives (R67). -/

/-- The management image, a chunk at a time (R351). -/
def Dev.putMgmt (st : Straps) (desc data : List Byte) (d : Dev) : Answer := d.opMgmtStage st SRC_CHAIN (bOffset desc) data true

/-- A microcode delta (R352). -/
def Dev.putDelta (desc data : List Byte) (d : Dev) : Answer := d.opUcodeDelta SRC_CHAIN (bOffset desc) data

/-- A manifest, an owner token or an enrolment request, by CONTENT (R335, R336, R349). -/
def Dev.putManifest (st : Straps) (desc data : List Byte) (d : Dev) : Answer :=
  d.opManifest st SRC_CHAIN (bParam desc 33) (bOffset desc) data true

/-- A coefficient set (R236, R237). -/
def Dev.putCoef (data : List Byte) (d : Dev) : Answer :=
  if d.getb COR_STAT_PEND then ((ST_REMOTE_FAULT, 1), d)
  else
    let r := d.storeCoefSet data
    match r.1 with
    | some reason => ((ST_REMOTE_FAULT, reason), r.2)
    | none => ((ST_OK, 0), r.2)

/-- The stored form of a safe image (log entry 12). -/
def SafeImage.stored (s : SafeImage) : List Byte :=
  leBytes s.region 1 ++ zeros 1 ++ leBytes s.x0 2 ++ leBytes s.y0 2 ++ leBytes s.w 2 ++ leBytes s.h 2 ++
  slice s.pixels 0 (6 * s.w * s.h)

/-- A region's safe image replaced, or removed (R225). -/
def Dev.putSafe (desc data : List Byte) (d : Dev) : Answer :=
  if !d.safeOk desc then ((ST_BAD_PARAM, 0), d)
  else
    let s := safeOf desc data
    let others := d.safes.filter fun t => t.region != s.region
    let l := if safeRemoves desc then others else others ++ [s]
    ((ST_OK, 0), d.commitObject NK_SAFE (l.flatMap SafeImage.stored))

/-- A settings block replaced or added (R362). -/
def Dev.putSettings (desc data : List Byte) (d : Dev) : Answer :=
  let r := d.recordWith (settingsId desc) (leAt desc 34 2) data
  if settingsMax < r.length then ((ST_BAD_PARAM, 0), d)
  else
    let w := d.writeFails
    if w.1 then ((ST_REMOTE_FAULT, 7), w.2) else ((ST_OK, 0), w.2.commitObject NK_SETTINGS r)

/-- TO_DEVICE data that has arrived whole and matches DATA_CRC is acted on. -/
def Dev.putObject (st : Straps) (desc data : List Byte) (d : Dev) : Answer :=
  match bObject desc with
  | 0x0001 => d.putMgmt st desc data
  | 0x0002 => d.putDelta desc data
  | 0x0003 => d.putManifest st desc data
  | 0x0010 => d.putCoef data
  | 0x0011 => d.putSafe desc data
  | 0x0040 => d.putSettings desc data
  | _ => ((ST_BAD_PARAM, 0), d)

/-- An attestation report over the nonce in PARAM (R347). -/
def Dev.getAttest (st : Straps) (desc : List Byte) (d : Dev) : Answer × List Byte :=
  let r := d.opAttest st (slice desc 32 16)
  match r.1 with
  | some b => (((ST_OK, 0), r.2), b)
  | none => (((ST_LMS_EXHAUSTED, 0), r.2), [])

/-- A committed coefficient set as stored (R237). -/
def Dev.getCoef (desc : List Byte) (d : Dev) : Answer × List Byte :=
  match d.coefNamed desc with
  | some s => (((ST_OK, 0), d.nvmRead), d.slotObject NK_COEF s)
  | none => (((ST_REMOTE_FAULT, 6), d), [])

/-- A settings block's header or body (R362). -/
def Dev.getSettings (desc : List Byte) (d : Dev) : Answer × List Byte :=
  match d.block (settingsId desc) with
  | some b => (((ST_OK, 0), d.nvmRead), if settingsHdr desc then b.header else b.body)
  | none => (((ST_REMOTE_FAULT, 6), d), [])

/-- The bytes that a transfer of a snapshot object takes from its snapshot (R276). -/
def BulkIn.boundaryBytes (b : BulkIn) : List Byte :=
  slice (b.boundary.getD []) (bOffset (cmdDesc b.pkt.bytes)) (bLength (cmdDesc b.pkt.bytes))

/-- A snapshot object is served from its snapshot. -/
def BulkIn.getSnapshot (b : BulkIn) (d : Dev) : Answer × List Byte := (((ST_OK, 0), d), b.boundaryBytes)

/-- The header of a recorder dump, from which its bytes are formed as they are served (R377). -/
def Dev.getDump (desc : List Byte) (d : Dev) : Answer × List Byte := (((ST_OK, 0), d.nvmRead), recDumpHeader d desc)

/-- An object that this device does not serve. -/
def Dev.notServed (d : Dev) : Answer × List Byte := (((ST_BAD_PARAM, 0), d), [])

/-- What a FROM_DEVICE transfer is served from; a snapshot object is not served so (R276). -/
def Dev.getObject (st : Straps) (desc : List Byte) (d : Dev) : Answer × List Byte :=
  match bObject desc with
  | 0x0004 => d.getAttest st desc
  | 0x0010 => d.getCoef desc
  | 0x0030 => d.getDump desc
  | 0x0040 => d.getSettings desc
  | _ => d.notServed

/-- `n` bytes of a transfer at an offset. -/
def Dev.served (d : Dev) (desc src : List Byte) (off n : Nat) : List Byte :=
  if bObject desc = OB_REC_DUMP then recDumpBytes d src off n else slice src off n

/-! Bulk transfers at the sender (R178). -/

/-- A CMD that has not left its port is taken back. -/
def Dev.unsend (xid : Nat) (d : Dev) : Dev :=
  { d with ports := d.ports.map fun p => { p with txq := p.txq.map fun q => q.filter fun t =>
      match t with
      | .bytes _ (some k) _ => k != xid
      | _ => true } }

/-- The XIDs of a bulk descriptor's CMDs. -/
def OutKind.ofBulk (i : Nat) : OutKind → Bool
  | .bulkOpen j | .bulkData j _ | .bulkPull j _ _ => j == i
  | _ => false

/-- A bulk descriptor fails: no further segment is sent, and it completes with the status. -/
def Dev.failBulk (i status value : Nat) (d : Dev) : Dev :=
  let waiting := (d.host.out.filter fun o => o.kind.ofBulk i && o.sentAt.isNone).map OutCmd.xid
  (d.each waiting fun d x => d.unsend x).finishDesc 2 i status value

/-- Sends the next segment of a bulk transfer when one may go: the descriptor has started and not failed, there is one left,
its data is there, and fewer than 4 CMDs are outstanding. -/
def Dev.pumpOnce (st : Straps) (i : Nat) (d : Dev) : Dev :=
  match d.findDesc 2 i with
  | none => d
  | some e =>
    let b := e.bytes
    let x := chainPort (dTarget b)
    let pos := posOf (dTarget b)
    let n := min 4096 (bLength b - e.sent)
    if e.phase != Phase.started || e.result.isSome || dLocal b || isBcast b || n = 0 || 4 ≤ d.outstanding x pos then d
    else if dOpcode b = 1 then
      if e.data.isEmpty then d
      else (d.modDesc 2 i fun q => { q with sent := q.sent + n }).sendCmd st x pos (.bulkData i (e.sent + n == bLength b))
        fun xid => bulkDataBody xid e.sent (slice e.data e.sent n)
    else (d.modDesc 2 i fun q => { q with sent := q.sent + n }).sendCmd st x pos (.bulkPull i e.sent n)
      fun xid => bulkPullBody xid e.sent n

/-- Sends what segments may go. -/
def Dev.pump (st : Straps) (i : Nat) (d : Dev) : Dev := d.each (List.range 5) fun d _ => d.pumpOnce st i

/-- Sends what segments may go of every bulk transfer. -/
def Dev.pumpAll (st : Straps) (d : Dev) : Dev :=
  d.each ((d.host.descs.filter fun e => e.ring == 2 && e.phase == Phase.started).map Desc.index) fun d i => d.pump st i

/-! Dispatch (R79, R176). -/

/-- Whether a command's fields are refused before it is sent: an opcode that must be LOCAL, or R66. -/
def remoteBad (b : List Byte) : Bool :=
  localOnly (dOpcode b) ||
  (decide (1 ≤ dOpcode b) && decide (dOpcode b ≤ 3) && !regCmdOk (dOpcode b) (dCount b) (dAddr b) (dResult b))

/-- A command descriptor for a tile: refused, unreachable, waiting behind 4 others, or sent. -/
def Dev.dispatchCmd (st : Straps) (e : Desc) (d : Dev) : Dev :=
  let b := e.bytes
  let x := chainPort (dTarget b)
  let pos := posOf (dTarget b)
  if !definedOp (dOpcode b) then d.finishDesc 1 e.index ST_BAD_OPCODE 0
  else if remoteBad b then d.finishDesc 1 e.index ST_BAD_PARAM 0
  else if !d.reachable (dTarget b) then d.finishDesc 1 e.index ST_UNREACHABLE 0
  else if 4 ≤ d.outstanding x pos then d
  else if dOpcode b = 0x0200 then
    let r : ProbeRun := { port := x, position := pos, index := some e.index, done := 0, sum := 0 }
    let d1 := d.startDesc 1 e.index
    { d1 with host.probes := d1.host.probes ++ [r] }.sendProbe st x pos (.probe e.index 0)
  else (d.startDesc 1 e.index).sendCmd st x pos (.desc e.index) fun xid => descBody xid CK_DESC b

/-- A transfer to the same target still has segments to send: another BULK_OPEN would come between them (R178). -/
def Dev.segmentsLeft (d : Dev) (e : Desc) : Bool :=
  d.host.descs.any fun o => o.ring == 2 && o.index != e.index && o.phase == Phase.started && o.result.isNone && !dLocal o.bytes &&
    !isBcast o.bytes && dTarget o.bytes == dTarget e.bytes && decide (o.sent < bLength o.bytes)

/-- A bulk descriptor: refused, unreachable, waiting, or opened, its segments behind it. -/
def Dev.dispatchBulk (st : Straps) (e : Desc) (d : Dev) : Dev :=
  let b := e.bytes
  let x := chainPort (dTarget b)
  let pos := posOf (dTarget b)
  if dOpcode b ≠ 1 ∧ dOpcode b ≠ 2 then d.finishDesc 2 e.index ST_BAD_OPCODE 0
  else if !bulkLimitsOk b || !bulkDirOk (bObject b) (dOpcode b) then d.finishDesc 2 e.index ST_BAD_PARAM 0
  else if dLocal b || isBcast b then d
  else if !d.reachable (dTarget b) then d.finishDesc 2 e.index ST_UNREACHABLE 0
  else if 4 ≤ d.outstanding x pos || d.segmentsLeft e then d
  else
    ((d.startDesc 2 e.index).sendCmd st x pos (.bulkOpen e.index) fun xid => descBody xid CK_BULK_OPEN b).pump st e.index

/-- CMD_DISPATCH (R176). -/
def execCmdDispatch (ring : DescRing) (index : Nat) (s : State) : Host.Outcome State Fault Refusal :=
  runSender (fun st d =>
    match d.findDesc (descRingNo ring) index with
    | none => d
    | some e =>
      if !d.startable e then d
      else
        match ring with
        | .command => if dLocal e.bytes then d else d.dispatchCmd st e
        | .bulk => d.dispatchBulk st e) s

/-! Data of a TO_DEVICE transfer (R50, R178, R351). -/

/-- The last UPDATE of a broadcast leaves on a port: it is waited for. -/
def Dev.bcastLast (st : Straps) (i : Nat) (body : List Byte) (d : Dev) : Dev :=
  d.each d.feedPorts fun d x =>
    let (xid, d1) := d.newXid
    let o : OutCmd := { xid := xid, port := x, position := 0, kind := .bcast i, sentAt := none, t1 := 0 }
    { d1 with host.out := d1.host.out ++ [o] }.queueTx st x TQ_UPDATE
      (.bytes (senderPkt st d1 x PT_UPDATE true false 0 0 body) (some xid) false)

/-- A staging transfer is broadcast as UPDATE packets of 4,096 bytes (R351, R353). -/
def Dev.bcastData (st : Straps) (e : Desc) (data : List Byte) (d : Dev) : Dev :=
  let b := e.bytes
  let m := if bObject b = OB_MANIFEST then data else d.mfstStaged
  let n := (bLength b + 4095) / 4096
  let body (k : Nat) : List Byte :=
    let part := slice data (4096 * k) (min 4096 (bLength b - 4096 * k))
    updateBody d.session 1 (bObject b) (bOffset b + 4096 * k) part.length 0 (mfstHash m) part
  if d.feedPorts.isEmpty then d.finishDesc 2 e.index ST_OK 0
  else ((d.startDesc 2 e.index).each (List.range (n - 1)) fun d k => d.broadcast st (body k)).bcastLast st e.index (body (n - 1))

/-- The data of a TO_DEVICE transfer has been read: a transfer to a tile goes on; a LOCAL one starts, unless its object
refuses it; a broadcast, which is a staging transfer and needs the sender's lease (R350), is sent. -/
def Dev.dataRead (st : Straps) (e : Desc) (data : List Byte) (d : Dev) : Dev :=
  let b := e.bytes
  if !dLocal b && !isBcast b then
    if e.phase == Phase.started then (d.modDesc 2 e.index fun q => { q with data := data }).pump st e.index else d
  else if !d.startable e then d
  else
    let r := d.bulkAnswer st b
    if r.1 ≠ ST_OK then d.finishDesc 2 e.index r.1 r.2
    else if isBcast b then
      if bObject b = OB_MANIFEST ∧ bParam b 33 ≠ 0 then d.finishDesc 2 e.index ST_BAD_PARAM 0
      else if crc32c data != bDataCrc b then d.finishDesc 2 e.index ST_DATA_CRC 0
      else
        let r := d.withLease SRC_CHAIN fun d => ((ST_OK, 0), d)
        if r.1.1 ≠ ST_OK then r.2.finishDesc 2 e.index r.1.1 r.1.2 else r.2.bcastData st e data
    else (d.startDesc 2 e.index).modDesc 2 e.index fun q => { q with data := data }

/-- BULK_DATA_READ_DONE: the read of host memory gives the data, or fails and the descriptor completes with DMA_ERR
(R50). -/
def execBulkDataReadDone (index : Nat) (data : Option (List Byte)) (s : State) : Host.Outcome State Fault Refusal :=
  runSender (fun st d =>
    match d.findDesc 2 index with
    | none => d
    | some e =>
      if dOpcode e.bytes ≠ 1 || e.phase == Phase.finished || !e.data.isEmpty || !bulkLimitsOk e.bytes then d
      else if e.phase == Phase.fetched && !((dLocal e.bytes || isBcast e.bytes) && d.startable e) then d
      else
        match data with
        | none => d.failBulk index ST_DMA_ERR 0
        | some l => d.dataRead st e (slice l 0 (bLength e.bytes))) s

/-! RSPs at the sender (R165, R176 to R178, R198, R358). -/

/-- P_a of UPD_ACTIVATE, in nanoseconds (R364). -/
def updActivateAt (desc : List Byte) : Nat :=
  ((dData desc 3 % 65536) * 2 ^ 32 + dData desc 2) * giga + natBits (dData desc 1) 0 30

/-- A tile has been armed by an UPD_ACTIVATE of its own: its SEC_MFST is read again once P_a and the pause are past (R358, log
entry 120). -/
def Dev.noteArmed (o : OutCmd) (desc : List Byte) (status : Nat) (d : Dev) : Dev :=
  if status = ST_OK ∧ dOpcode desc = 0x0604 then
    { d with sec.recheck := d.sec.recheck ++ [(o.port, o.position, updActivateAt desc)] }
  else d

/-- A command is answered: REG_READ's words go to RESULT first; CHAIN_PING's VALUE is the round trip. -/
def Dev.cmdAnswered (o : OutCmd) (i : Nat) (k : RxPkt) (d : Dev) : Dev :=
  match d.findDesc 1 i with
  | none => d
  | some e =>
    let b := e.bytes
    let status := rspStatus k.bytes
    let d1 := if status = ST_OK ∧ dOpcode b = 1 ∧ dResult b ≠ 0 then
        d.emit (.hostWrite (dResult b) (slice (rspData k.bytes) 0 (4 * dCount b)))
      else d
    let value := if status = ST_OK ∧ dOpcode b = 0x0101 then (((k.tRx : Int) - o.t1) / 65536).toNat % 2 ^ 32
      else rspValue k.bytes
    (d1.noteArmed o b status).finishDesc 1 i status value

/-- The data of a pull is written to host memory; after the last one the descriptor completes with the CRC of it all. -/
def Dev.pullAnswered (st : Straps) (i off n : Nat) (k : RxPkt) (d : Dev) : Dev :=
  match d.findDesc 2 i with
  | none => d
  | some e =>
    let part := slice (rspData k.bytes) 0 n
    let all := e.data ++ part
    let d1 := (d.emit (.hostWrite (bHostAddr e.bytes + off) part)).modDesc 2 i fun q => { q with data := all }
    if bLength e.bytes ≤ all.length then d1.finishDesc 2 i ST_OK (crc32c all) else d1.pump st i

/-- A tile's SEC_MFST has been read: a position with another one gets no blocks (R358). -/
def Dev.mfstRead (st : Straps) (o : OutCmd) (status value : Nat) (d : Dev) : Dev :=
  let at_ (e : Nat × Nat) : Bool := e == (o.port, o.position)
  if status ≠ ST_OK then d
  else
    let d1 : Dev := { d with
      sec.unread := d.sec.unread.filter fun e => !at_ e
      sec.mixed := d.sec.mixed.filter fun e => !at_ e }
    if value = (readWord st SEC_MFST d).toNat then d1
    else { d1 with sec.mixed := d1.sec.mixed ++ [(o.port, o.position)] }.event st EV_UPD_MIXED 0 0 0

/-- A final RSP for an outstanding CMD, or a tile's answer to a wall-wide UPDATE; any other is discarded. -/
def Dev.takeRsp (st : Straps) (k : RxPkt) (d : Dev) : Dev :=
  let status := rspStatus k.bytes
  let value := rspValue k.bytes
  match d.host.out.find? fun o => o.xid == rspXid k.bytes && o.port == k.port && o.position == posOf (pktSrcAddr k.bytes) with
  | none =>
    match d.sec.domino with
    | some m =>
      if m.session == rspXid k.bytes && m.asked.contains (pktSrcAddr k.bytes) then d.dominoRsp st (pktSrcAddr k.bytes) status
      else d
    | none => d
  | some o =>
    let d1 := d.dropOut o.xid
    match o.kind with
    | .desc i => d1.cmdAnswered o i k
    | .bulkOpen i => if status = ST_OK then (d1.modDesc 2 i fun q => { q with opened := true }).pump st i
        else d1.failBulk i status value
    | .bulkData i last => if status ≠ ST_OK then d1.failBulk i status value
        else if last then d1.finishDesc 2 i ST_OK value else d1.pump st i
    | .bulkPull i off n => if status ≠ ST_OK then d1.failBulk i status value else d1.pullAnswered st i off n k
    | .probe _ _ | .survey _ => d1.probeEnded st o status (probeSpan o k)
    | .pathWrite => d1.pathWritten st o.port status
    | .mixedCheck => d1.mfstRead st o status value
    | .bcast _ => d

/-- RSP_RECEIVE (R165). -/
def execRspReceive (s : State) : Host.Outcome State Fault Refusal :=
  runSender (fun st d => d.onRx (fun k => pktType k.bytes == PT_RSP && rspStatus k.bytes != ST_PENDING) fun k d =>
    d.takeRsp st k) s

/-- PROGRESS_RSP_RECEIVE: HIF_CMD_TMO starts again for its command (R177). -/
def execProgressRspReceive (s : State) : Host.Outcome State Fault Refusal :=
  runSender (fun _ d => d.onRx (fun k => pktType k.bytes == PT_RSP && rspStatus k.bytes == ST_PENDING) fun k d =>
    { d with host.out := d.host.out.map fun o =>
        if o.xid = rspXid k.bytes ∧ o.port = k.port ∧ o.position = posOf (pktSrcAddr k.bytes) ∧ o.sentAt.isSome then
          { o with sentAt := some d.ticks }
        else o }) s

/-- A CMD whose RSP has not come ends with TIMEOUT (R79). -/
def Dev.timedOut (st : Straps) (o : OutCmd) (d : Dev) : Dev :=
  let d1 := d.dropOut o.xid
  match o.kind with
  | .desc i => d1.finishDesc 1 i ST_TIMEOUT 0
  | .bulkOpen i | .bulkData i _ | .bulkPull i _ _ => d1.failBulk i ST_TIMEOUT 0
  | .probe _ _ | .survey _ => d1.probeEnded st o ST_TIMEOUT 0
  | .pathWrite => d1.pathWritten st o.port ST_TIMEOUT
  | .mixedCheck => d1
  | .bcast _ => d

/-- HIF_CMD_TMO has run out for a CMD. -/
def Dev.cmdLate (d : Dev) (o : OutCmd) : Bool :=
  o.counts &&
  match o.kind, o.sentAt with
  | .bcast _, _ => false
  | _, some t => d.passed t (us (d.get HIF_CMD_TMO_US))
  | _, none => false

/-- CMD_TIMEOUT: of an outstanding CMD, or of the 100 ms of a wall-wide PREPARE, whose XID is its SESSION (R79, R356). -/
def execCmdTimeout (xid : Nat) (s : State) : Host.Outcome State Fault Refusal :=
  runSender (fun st d =>
    match d.host.out.find? fun o => o.xid == xid && d.cmdLate o with
    | some o => d.timedOut st o
    | none =>
      match d.sec.domino with
      | some m => if m.session == xid && !m.activate && d.passed m.tick (ms 100) then d.endPrepare st m else d
      | none => d) s

/-- PACKET_SEND_COMPLETE: the port is idle, a broadcast whose last packet has left completes, and the next packet starts
(R171, R351). -/
def execPacketSendComplete (port : Port) (s : State) : Host.Outcome State Fault Refusal :=
  let x : Nat := port
  runSender (fun st d =>
    match (d.port x).cur with
    | none => d
    | some p =>
      let d1 := d.modPort x fun q => { q with cur := none }
      let last : Option (Nat × Nat) := match p with
        | .bytes _ (some xid) _ => (d1.host.out.find? fun o => o.xid == xid).bind fun o =>
            match o.kind with
            | .bcast i => some (xid, i)
            | _ => none
        | _ => none
      let d2 := match last with
        | some (xid, i) =>
          let d3 := d1.dropOut xid
          if d3.host.out.any fun o => o.kind == OutKind.bcast i then d3 else d3.finishDesc 2 i ST_OK 0
        | none => d1
      (d2.txNext st x).pumpAll st) s

/-! CMDs at a tile (R176 to R178, R282). -/

/-- A TIME_PROBE's answer: DOWN_RES, room for TURN, which it takes when it leaves, and UP_RES (R198). -/
def probeRsp (d : Dev) (k : RxPkt) : OwnPkt :=
  rspPkt d k.bytes ST_OK 0 0 (leBytes (leAt (cmdDesc k.bytes) 24 8) 8 ++ zeros 16) (some k.tRx)

/-- A CMD that the transport hardware executes and answers (R78, R179, R198). -/
def Dev.transportCmd (st : Straps) (k : RxPkt) (d : Dev) : Dev :=
  let desc := cmdDesc k.bytes
  match dOpcode desc with
  | 0x0001 =>
    let r := d.opRegRead st desc
    r.1.2.respond st k.bytes r.1.1.1 r.1.1.2 0 r.2
  | 0x0002 =>
    let r := d.opRegWrite st desc
    r.2.respond st k.bytes r.1.1 r.1.2 0 []
  | 0x0003 =>
    let r := d.opRegRmw st desc
    r.2.respond st k.bytes r.1.1 r.1.2 0 []
  | 0x0200 => if d.addrValid then d.queueOwn st (endPort (pktTail k.bytes)) (probeRsp d k) else d
  | _ => d.respond st k.bytes ST_OK 0 0 []

/-- A CMD of a KIND. -/
def isCmd (kind : Nat) (k : RxPkt) : Bool := pktType k.bytes == PT_CMD && cmdKind k.bytes == kind

/-- The transport hardware answers the opcode at once, whatever waits (R179, R198). -/
def immediateOp (op : Nat) : Bool := op == 0x0101 || op == 0x0200

/-- The CMDs that wait to be executed: a later one is not executed before them (R176). -/
def Dev.waiting (d : Dev) : List (RxPkt × Nat × Nat) :=
  d.tile.cmds ++ d.tile.bulks.flatMap fun b =>
    b.opening.toList ++ b.segs ++ b.last.toList ++ if snapshotObject (bObject (cmdDesc b.pkt.bytes)) then [] else b.pulls

/-- None that arrived before this one waits, and the tile has an address to answer from (R157, R176). -/
def Dev.isNext (d : Dev) (e : RxPkt × Nat × Nat) : Bool := d.addrValid && d.waiting.all fun o => decide (e.2.1 ≤ o.2.1)

/-- A CMD with its arrival number and tick. -/
def Dev.arrival (d : Dev) (k : RxPkt) : RxPkt × Nat × Nat := (k, d.tile.arrivals, d.ticks)

/-- The device with that number given. -/
def Dev.numbered (d : Dev) : Dev := { d with tile.arrivals := d.tile.arrivals + 1 }

/-- A CMD of KIND DESC is executed by the transport, refused, or waits for firmware or for those before it. -/
def Dev.takeDesc (st : Straps) (k : RxPkt) (d : Dev) : Dev :=
  let op := dOpcode (cmdDesc k.bytes)
  if immediateOp op || (transportOp op && d.waiting.isEmpty) then d.transportCmd st k
  else if !transportOp op && !d.obeys k.bytes then d.respond st k.bytes ST_TWIN_REJECT 0 0 []
  else { d.numbered with tile.cmds := d.tile.cmds ++ [d.arrival k] }

/-- CMD_DESC_RECEIVE (R176). -/
def execCmdDescReceive (s : State) : Host.Outcome State Fault Refusal :=
  runTile (fun st d => d.onRx (isCmd CK_DESC) fun k d => d.takeDesc st k) s

/-- 10 ms have passed since a CMD's arrival or its last progress RSP. -/
def Dev.progressDue (d : Dev) (e : RxPkt × Nat × Nat) : Bool := d.passed e.2.2 (ms 10)

/-- The last segment of a transfer, while it waits behind other CMDs. Others are not answered (R176). -/
def BulkIn.waitingLast (b : BulkIn) : List (RxPkt × Nat × Nat) :=
  b.segs.filter fun e => decide (bLength (cmdDesc b.pkt.bytes) ≤ cmdOffset e.1.bytes + (cmdData e.1.bytes).length)

/-- Everything at a tile that waits for a final RSP. -/
def Dev.unanswered (d : Dev) : List (RxPkt × Nat × Nat) :=
  d.tile.cmds ++ d.tile.running ++ d.tile.bulks.flatMap fun b =>
    b.opening.toList ++ b.waitingLast ++ b.last.toList ++ b.pulls

/-- The tick of a CMD's last progress RSP becomes now. -/
def Dev.progressed (k : RxPkt) (d : Dev) : Dev :=
  let mark (e : RxPkt × Nat × Nat) : RxPkt × Nat × Nat := if e.1 = k then (e.1, e.2.1, d.ticks) else e
  { d with
    tile.cmds := d.tile.cmds.map mark
    tile.running := d.tile.running.map mark
    tile.bulks := d.tile.bulks.map fun b =>
      { b with opening := b.opening.map mark, segs := b.segs.map mark, last := b.last.map mark, pulls := b.pulls.map mark } }

/-- PROGRESS_RSP_SEND (R177). Without an address a tile sends none (R157). -/
def execProgressRspSend (xid : Nat) (s : State) : Host.Outcome State Fault Refusal :=
  runIf (fun st d => isTile st && d.awake && d.addrValid) (fun st d =>
    match d.unanswered.find? fun e => cmdXid e.1.bytes == xid && d.progressDue e with
    | some e => (d.progressed e.1).respond st e.1.bytes ST_PENDING 0 0 []
    | none => d) s

/-! Bulk transfers at a tile (R178). -/

/-- The sender of a packet, as a bulk transfer belongs to it. -/
def bulkFrom (k : RxPkt) : Nat × Nat := (k.port, pktSrc k.bytes % 2 ^ 14)

/-- The transfer that a sender's segments belong to: that of its latest BULK_OPEN. -/
def Dev.bulkOf (d : Dev) (k : RxPkt) : Option BulkIn :=
  d.tile.bulks.reverse.find? fun b => bulkFrom b.pkt == bulkFrom k && b.last.isNone

/-- Changes a transfer. -/
def Dev.modBulk (b : BulkIn) (f : BulkIn → BulkIn) (d : Dev) : Dev :=
  { d with tile.bulks := d.tile.bulks.map fun o => if o.pkt = b.pkt then f o else o }

/-- A transfer is over. -/
def Dev.endBulk (b : BulkIn) (d : Dev) : Dev := { d with tile.bulks := d.tile.bulks.filter fun o => o.pkt != b.pkt }

/-- A BULK_OPEN is carried out: the transfer is accepted or refused with one RSP. -/
def Dev.judgeOpen (st : Straps) (b : BulkIn) (d : Dev) : Dev :=
  let p := b.pkt.bytes
  let r := if d.obeys p then d.bulkAnswer st (cmdDesc p) else (ST_TWIN_REJECT, 0)
  (d.modBulk b fun o => { o with refused := r.1, refusedValue := r.2, opening := none }).respond st p r.1 r.2 0 []

/-- A transfer has CMDs that wait. -/
def BulkIn.busy (b : BulkIn) : Bool := b.opening.isSome || !b.segs.isEmpty || b.last.isSome || !b.pulls.isEmpty

/-- A BULK_OPEN arrives: it is carried out, or waits for the CMDs before it (R176). A transfer that the sender began before is
over, unless it still has CMDs that wait. -/
def Dev.takeOpen (st : Straps) (k : RxPkt) (d : Dev) : Dev :=
  let free := d.waiting.isEmpty
  let b : BulkIn :=
    { pkt := k, data := [], snapshot := none, refused := ST_OK, refusedValue := 0, boundary := none
      opening := if free then none else some (d.arrival k), segs := [], pulls := [], last := none }
  let kept := d.tile.bulks.filter fun o => bulkFrom o.pkt != bulkFrom k || o.busy
  let d1 := { d with tile.bulks := kept ++ [b] }
  if free then d1.judgeOpen st b else d1.numbered

/-- BULK_OPEN_RECEIVE: the BULK_OPEN that has waited and comes next, or the one that has just arrived (R176, R178). -/
def execBulkOpenReceive (s : State) : Host.Outcome State Fault Refusal :=
  runTile (fun st d =>
    match d.tile.bulks.find? fun b => b.opening.any d.isNext with
    | some b => d.judgeOpen st b
    | none => d.onRx (isCmd CK_BULK_OPEN) fun k d => d.takeOpen st k) s

/-- A segment fails, and with it the transfer. -/
def Dev.failSegment (st : Straps) (k : RxPkt) (b : BulkIn) (status : Nat) (d : Dev) : Dev :=
  (d.modBulk b fun o => { o with refused := status, refusedValue := 0 }).respond st k.bytes status 0 0 []

/-- A segment of a refused or failed transfer is answered with its status. -/
def Dev.refuseSegment (st : Straps) (k : RxPkt) (b : BulkIn) (d : Dev) : Dev :=
  d.respond st k.bytes b.refused b.refusedValue 0 []

/-- A BULK_DATA segment of an accepted transfer: its data is kept, and with the last one the transfer is checked and
carried out, or waits for firmware. -/
def Dev.takeData (st : Straps) (e : RxPkt × Nat × Nat) (b : BulkIn) (d : Dev) : Dev :=
  let k := e.1
  let desc := cmdDesc b.pkt.bytes
  let all := b.data ++ cmdData k.bytes
  if dOpcode desc ≠ 1 then d.failSegment st k b ST_BAD_PARAM
  else if cmdOffset k.bytes ≠ b.data.length then d.failSegment st k b ST_DATA_CRC
  else if bLength desc < all.length then d.failSegment st k b ST_BAD_PARAM
  else if all.length < bLength desc then d.modBulk b fun o => { o with data := all }
  else if crc32c all != bDataCrc desc then d.failSegment st k b ST_DATA_CRC
  else if d.serves (bObject desc) then
    let r := (d.endBulk b).putObject st desc all
    r.2.respond st k.bytes r.1.1 r.1.2 0 []
  else d.modBulk b fun o => { o with data := all, last := some e }

/-- A BULK_DATA segment is carried out. -/
def Dev.takeSegment (st : Straps) (e : RxPkt × Nat × Nat) (b : BulkIn) (d : Dev) : Dev :=
  if b.refused ≠ ST_OK then d.refuseSegment st e.1 b else d.takeData st e b

/-- A BULK_DATA segment arrives: it is carried out, or waits for the CMDs before it (R176). -/
def Dev.arriveSegment (st : Straps) (k : RxPkt) (d : Dev) : Dev :=
  if !d.obeys k.bytes then d.respond st k.bytes ST_TWIN_REJECT 0 0 []
  else match d.bulkOf k with
    | none => d.respond st k.bytes ST_REMOTE_FAULT 0 0 []
    | some b =>
      if d.waiting.isEmpty then d.numbered.takeSegment st (d.arrival k) b
      else d.numbered.modBulk b fun o => { o with segs := o.segs ++ [d.arrival k] }

/-- The segment of a transfer that has waited longest is carried out. -/
def Dev.nextSegment (st : Straps) (b : BulkIn) (d : Dev) : Dev :=
  match b.segs with
  | [] => d
  | e :: rest => (d.modBulk b fun o => { o with segs := rest }).takeSegment st e { b with segs := rest }

/-- BULK_DATA_RECEIVE: the segment that has waited and comes next, or the one that has just arrived (R176, R178). -/
def execBulkDataReceive (s : State) : Host.Outcome State Fault Refusal :=
  runTile (fun st d =>
    match d.tile.bulks.find? fun b => (b.segs.head?).any d.isNext with
    | some b => d.nextSegment st b
    | none => d.onRx (isCmd CK_BULK_DATA) fun k d => d.arriveSegment st k) s

/-- A BULK_PULL of a transfer is answered with its bytes; the last one ends the transfer. -/
def Dev.servePull (st : Straps) (k : RxPkt) (b : BulkIn) (d : Dev) : Dev :=
  let desc := cmdDesc b.pkt.bytes
  let off := cmdOffset k.bytes
  let n := cmdPullCount k.bytes
  if b.refused ≠ ST_OK then d.refuseSegment st k b
  else if dOpcode desc ≠ 2 then d.failSegment st k b ST_BAD_PARAM
  else if bLength desc < off + n then d.respond st k.bytes ST_BAD_PARAM 0 0 []
  else
    let d1 := d.respond st k.bytes ST_OK 0 off (d.served desc (b.snapshot.getD []) off n)
    if off + n = bLength desc then d1.endBulk b else d1

/-- The pulls of a transfer are answered in order, up to one that waits behind another CMD. -/
def Dev.servePulls (st : Straps) (b : BulkIn) : List (RxPkt × Nat × Nat) → Dev → Dev
  | [], d => d
  | e :: es, d =>
    if d.isNext e then
      Dev.servePulls st b es ((d.modBulk b fun o => { o with pulls := o.pulls.filter fun q => q != e }).servePull st e.1 b)
    else d

/-- What a FROM_DEVICE transfer is served from is taken, and the pulls that waited for it are answered. -/
def Dev.fillBulk (st : Straps) (f : Dev → Answer × List Byte) (b : BulkIn) (d : Dev) : Dev :=
  let r := f d
  let b1 := { b with snapshot := some r.2, refused := r.1.1.1, refusedValue := r.1.1.2 }
  Dev.servePulls st b1 b.pulls (r.1.2.modBulk b fun _ => b1)

/-- The transfer can be filled now: its object is served, its first pull does not wait behind another CMD, and a snapshot
object has passed its frame boundary (R276). -/
def Dev.fillable (d : Dev) (b : BulkIn) : Bool :=
  let desc := cmdDesc b.pkt.bytes
  b.refused == ST_OK && b.opening.isNone && b.last.isNone && b.snapshot.isNone && dOpcode desc == 2 &&
  d.serves (bObject desc) && (b.pulls.take 1).all d.isNext && (!snapshotObject (bObject desc) || b.boundary.isSome)

/-- A pull of the transfer can be answered: the transfer is judged, and is refused, goes the other way, or has its data. -/
def BulkIn.answerable (b : BulkIn) : Bool :=
  b.opening.isNone && (b.refused != ST_OK || dOpcode (cmdDesc b.pkt.bytes) != 2 || b.snapshot.isSome)

/-- A BULK_PULL is answered; or it waits, for the CMDs before it or for its data. A snapshot object's data comes after its
frame boundary only. -/
def Dev.takePull (st : Straps) (k : RxPkt) (b : BulkIn) (d : Dev) : Dev :=
  let desc := cmdDesc b.pkt.bytes
  if d.waiting.isEmpty && b.answerable then d.servePull st k b
  else
    let b1 := { b with pulls := b.pulls ++ [d.arrival k] }
    let d1 := d.numbered.modBulk b fun _ => b1
    if snapshotObject (bObject desc) || !d1.fillable b1 then d1 else d1.fillBulk st (Dev.getObject st desc) b1

/-- A BULK_PULL arrives. -/
def Dev.arrivePull (st : Straps) (k : RxPkt) (d : Dev) : Dev :=
  if !d.obeys k.bytes then d.respond st k.bytes ST_TWIN_REJECT 0 0 []
  else match d.bulkOf k with
    | none => d.respond st k.bytes ST_REMOTE_FAULT 0 0 []
    | some b => d.takePull st k b

/-- BULK_PULL_RECEIVE: the pulls that have waited and come next, or the one that has just arrived (R176, R178). -/
def execBulkPullReceive (s : State) : Host.Outcome State Fault Refusal :=
  runTile (fun st d =>
    match d.tile.bulks.find? fun b => b.answerable && (b.pulls.head?).any d.isNext with
    | some b => Dev.servePulls st b b.pulls d
    | none => d.onRx (isCmd CK_BULK_PULL) fun k d => d.arrivePull st k) s

/-- BULK_SNAPSHOT: the snapshots of the transfers that have passed their frame boundary serve them (R276). -/
def execBulkSnapshot (s : State) : Host.Outcome State Fault Refusal :=
  runTile (fun st d =>
    d.each (d.tile.bulks.filter fun b => snapshotObject (bObject (cmdDesc b.pkt.bytes)) && d.fillable b) fun d b =>
      d.fillBulk st b.getSnapshot b) s

/-! Running a command. -/

/-- A command's own effect: the answer, or none while the command waits for its end. -/
abbrev CmdEffect := Straps → Waiter → List Byte → Dev → Option (Nat × Nat) × Dev

/-- A descriptor of the sender's own ring that is this command and may start: a LOCAL one runs here, another is
dispatched (R65, R176). -/
def Dev.runLocal (st : Straps) (i : Nat) (mine : List Byte → Bool) (ready : List Byte → Dev → Bool) (f : CmdEffect)
    (d : Dev) : Dev :=
  match d.findDesc 1 i with
  | none => d
  | some e =>
    if !mine e.bytes || !d.startable e then d
    else if !dLocal e.bytes then d.dispatchCmd st e
    else if remoteOnly (dOpcode e.bytes) then d.finishDesc 1 i ST_BAD_PARAM 0
    else if !d.runs (dOpcode e.bytes) || !ready e.bytes d then d
    else
      let r := f st (.ring i) e.bytes (d.startDesc 1 i)
      match r.1 with
      | some a => r.2.finishDesc 1 i a.1 a.2
      | none => r.2

/-- The CMD that arrived first of those that wait runs, if it is this command and can be executed now (R176). -/
def Dev.runHead (st : Straps) (mine : List Byte → Bool) (f : CmdEffect) (d : Dev) : Dev :=
  match d.tile.cmds.head? with
  | none => d
  | some c =>
    let desc := cmdDesc c.1.bytes
    if !mine desc || !d.runs (dOpcode desc) || !d.isNext c then d
    else
      let d1 := { d with tile.cmds := d.tile.cmds.filter fun o => o.1 != c.1, tile.running := d.tile.running ++ [c] }
      let r := if localOnly (dOpcode desc) then (some (ST_BAD_PARAM, 0), d1) else f st (.remote c.1) desc d1
      match r.1 with
      | some a => r.2.answer st (.remote c.1) a.1 a.2
      | none => r.2

/-- A command that firmware or the trusted part executes. -/
def runCommand (mine : List Byte → Bool) (ready : List Byte → Dev → Bool) (f : CmdEffect) (ref : CmdRef) (s : State) :
    Host.Outcome State Fault Refusal :=
  match ref with
  | .ring i => runSender (fun st d => d.runLocal st i mine ready f) s
  | .remote => runTile (fun st d => d.runHead st mine f) s

/-- Descriptors with an opcode. -/
def hasOp (op : Nat) (desc : List Byte) : Bool := dOpcode desc == op

/-- A command that can always start. -/
def always (_ : List Byte) (_ : Dev) : Bool := true

/-- A CMD that the transport hardware executes: the one that has waited longest, or the one that has just arrived. -/
def Dev.runTransportCmd (st : Straps) (op : Nat) (d : Dev) : Dev :=
  match d.tile.cmds.head? with
  | some c =>
    if hasOp op (cmdDesc c.1.bytes) && d.isNext c then
      { d with tile.cmds := d.tile.cmds.filter fun o => o.1 != c.1 }.transportCmd st c.1
    else d.onRx (fun k => isCmd CK_DESC k && hasOp op (cmdDesc k.bytes)) fun k d => d.takeDesc st k
  | none => d.onRx (fun k => isCmd CK_DESC k && hasOp op (cmdDesc k.bytes)) fun k d => d.takeDesc st k

/-- A command that the transport hardware executes at a tile. -/
def runTransport (op : Nat) (f : CmdEffect) (ref : CmdRef) (s : State) : Host.Outcome State Fault Refusal :=
  match ref with
  | .ring i => runSender (fun st d => d.runLocal st i (hasOp op) always f) s
  | .remote => runTile (fun st d => d.runTransportCmd st op) s

/-! Running a bulk object. -/

/-- Descriptors of a TO_DEVICE or FROM_DEVICE transfer of an object. -/
def isObject (dir ob : Nat) (desc : List Byte) : Bool := dOpcode desc == dir && bObject desc == ob

/-- A TO_DEVICE transfer at the sender itself, its data read; or a descriptor that goes to a tile. -/
def Dev.putLocal (st : Straps) (i : Nat) (mine : List Byte → Bool) (f : Straps → List Byte → List Byte → Dev → Answer)
    (d : Dev) : Dev :=
  match d.findDesc 2 i with
  | none => d
  | some e =>
    let b := e.bytes
    if !mine b then d
    else if e.phase == Phase.fetched then
      if !d.startable e then d
      else if !dLocal b && !isBcast b then d.dispatchBulk st e
      else
        let r := d.bulkAnswer st b
        if r.1 ≠ ST_OK then d.finishDesc 2 i r.1 r.2 else d
    else if e.phase != Phase.started || !dLocal b || isBcast b || e.data.isEmpty || !d.serves (bObject b) then d
    else if crc32c e.data != bDataCrc b then d.finishDesc 2 i ST_DATA_CRC 0
    else
      let r := f st b e.data d
      r.2.finishDesc 2 i r.1.1 r.1.2

/-- A TO_DEVICE transfer at a tile that waited for firmware is carried out. -/
def Dev.putRemote (st : Straps) (mine : List Byte → Bool) (f : Straps → List Byte → List Byte → Dev → Answer) (d : Dev) :
    Dev :=
  match d.tile.bulks.find? fun b => b.last.isSome with
  | none => d
  | some b =>
    let desc := cmdDesc b.pkt.bytes
    match b.last with
    | none => d
    | some l =>
      if !mine desc || !d.serves (bObject desc) || !d.isNext l then d
      else
        let r := f st desc b.data d
        r.2.answer st (.remote l.1) r.1.1 r.1.2

/-- A TO_DEVICE object. -/
def runPut (mine : List Byte → Bool) (f : Straps → List Byte → List Byte → Dev → Answer) (ref : CmdRef) (s : State) :
    Host.Outcome State Fault Refusal :=
  match ref with
  | .ring i => runSender (fun st d => d.putLocal st i mine f) s
  | .remote => runTile (fun st d => d.putRemote st mine f) s

/-- A FROM_DEVICE transfer of the sender itself is served at once; another descriptor goes to its tile. -/
def Dev.getLocal (st : Straps) (i : Nat) (mine : List Byte → Bool) (f : Straps → List Byte → Dev → Answer × List Byte)
    (d : Dev) : Dev :=
  match d.findDesc 2 i with
  | none => d
  | some e =>
    let b := e.bytes
    if !mine b || !d.startable e then d
    else if !dLocal b then d.dispatchBulk st e
    else
      let a := d.bulkAnswer st b
      if a.1 ≠ ST_OK then d.finishDesc 2 i a.1 a.2
      else if !d.serves (bObject b) then d
      else
        let r := f st b (d.startDesc 2 i)
        if r.1.1.1 ≠ ST_OK then r.1.2.finishDesc 2 i r.1.1.1 r.1.1.2
        else
          let bytes := r.1.2.served b r.2 0 (bLength b)
          (r.1.2.emit (.hostWrite (bHostAddr b) bytes)).finishDesc 2 i ST_OK (crc32c bytes)

/-- A FROM_DEVICE transfer at a tile whose data can be taken gets it. -/
def Dev.getRemote (st : Straps) (mine : List Byte → Bool) (f : Straps → List Byte → Dev → Answer × List Byte) (d : Dev) :
    Dev :=
  match d.tile.bulks.find? fun b => mine (cmdDesc b.pkt.bytes) && d.fillable b with
  | none => d
  | some b => d.fillBulk st (if snapshotObject (bObject (cmdDesc b.pkt.bytes)) then b.getSnapshot else f st (cmdDesc b.pkt.bytes)) b

/-- A FROM_DEVICE object. -/
def runGet (mine : List Byte → Bool) (f : Straps → List Byte → Dev → Answer × List Byte) (ref : CmdRef) (s : State) :
    Host.Outcome State Fault Refusal :=
  match ref with
  | .ring i => runSender (fun st d => d.getLocal st i mine f) s
  | .remote => runTile (fun st d => d.getRemote st mine f) s

end Sys2Proof.Machine
end

