-- ==== Sys2Proof/Machine/Commands.lean ====
section
/-! DEFINITION. The commands of the Command Ring and the objects of the Bulk Ring, one meaning each (R66, R67, R179, R208,
R225, R236, R237, R275, R276, R300, R330, R335, R336, R347, R350 to R352, R362, R364, R377 to R379). -/

namespace Sys2Proof.Machine

/-! General commands (R66). -/

/-- NOP. -/
def execNop (ref : CmdRef) (s : State) : Host.Outcome State Fault Refusal :=
  runCommand (hasOp 0) always (fun _ _ _ d => (some (ST_OK, 0), d)) ref s

/-- REG_READ: to VALUE, and to RESULT where that is not 0. -/
def execRegRead (ref : CmdRef) (s : State) : Host.Outcome State Fault Refusal :=
  runTransport 1 (fun st _ desc d =>
    let r := d.opRegRead st desc
    (some r.1.1, if r.1.1.1 = ST_OK ∧ dResult desc ≠ 0 then r.1.2.emit (.hostWrite (dResult desc) r.2) else r.1.2)) ref s

/-- REG_WRITE. -/
def execRegWrite (ref : CmdRef) (s : State) : Host.Outcome State Fault Refusal :=
  runTransport 2 (fun st _ desc d =>
    let r := d.opRegWrite st desc
    (some r.1, r.2)) ref s

/-- REG_RMW. -/
def execRegRmw (ref : CmdRef) (s : State) : Host.Outcome State Fault Refusal :=
  runTransport 3 (fun st _ desc d =>
    let r := d.opRegRmw st desc
    (some r.1, r.2)) ref s

/-- A descriptor of either ring whose opcode is defined nowhere completes with BAD_OPCODE. -/
def Dev.badOpcode (i : Nat) (d : Dev) : Dev :=
  let bad (e : Desc) : Bool := if e.ring = 1 then !definedOp (dOpcode e.bytes) else dOpcode e.bytes != 1 && dOpcode e.bytes != 2
  let try_ (ring : Nat) : Option Desc := (d.findDesc ring i).filter fun e => bad e && d.startable e
  match try_ 1 with
  | some _ => d.finishDesc 1 i ST_BAD_OPCODE 0
  | none =>
    match try_ 2 with
    | some _ => d.finishDesc 2 i ST_BAD_OPCODE 0
    | none => d

/-- UNDEFINED_OPCODE. -/
def execUndefinedOpcode (ref : CmdRef) (s : State) : Host.Outcome State Fault Refusal :=
  match ref with
  | .ring i => runSender (fun _ d => d.badOpcode i) s
  | .remote => runTile (fun st d =>
      d.runHead st (fun desc => !definedOp (dOpcode desc)) fun _ _ _ d => (some (ST_BAD_OPCODE, 0), d)) s

/-! Bulk objects (R67). -/

/-- MGMT_STAGE (R351). -/
def execMgmtStage (ref : CmdRef) (s : State) : Host.Outcome State Fault Refusal :=
  runPut (isObject 1 OB_MGMT_STAGE) (fun st desc data d => d.putMgmt st desc data) ref s

/-- UCODE_DELTA (R352). -/
def execUcodeDelta (ref : CmdRef) (s : State) : Host.Outcome State Fault Refusal :=
  runPut (isObject 1 OB_UCODE_DELTA) (fun _ desc data d => d.putDelta desc data) ref s

/-- A MANIFEST transfer with a CONTENT. -/
def isManifest (content : Nat) (desc : List Byte) : Bool :=
  isObject 1 OB_MANIFEST desc && (bParam desc 33 == content || (content == 0 && decide (2 < bParam desc 33)))

/-- MANIFEST with CONTENT 0, a manifest (R349); also a CONTENT that is not defined. -/
def execManifestStage (ref : CmdRef) (s : State) : Host.Outcome State Fault Refusal :=
  runPut (isManifest 0) (fun st desc data d => d.putManifest st desc data) ref s

/-- MANIFEST with CONTENT 1, an owner token (R336). -/
def execOwnerToken (ref : CmdRef) (s : State) : Host.Outcome State Fault Refusal :=
  runPut (isManifest 1) (fun st desc data d => d.putManifest st desc data) ref s

/-- MANIFEST with CONTENT 2, an enrolment request (R335). -/
def execEnrollRequest (ref : CmdRef) (s : State) : Host.Outcome State Fault Refusal :=
  runPut (isManifest 2) (fun st desc data d => d.putManifest st desc data) ref s

/-- ATTEST (R347). -/
def execAttest (ref : CmdRef) (s : State) : Host.Outcome State Fault Refusal :=
  runGet (isObject 2 OB_ATTEST) (fun st desc d => d.getAttest st desc) ref s

/-- COEF_SET, TO_DEVICE (R236). -/
def execCoefSetToDevice (ref : CmdRef) (s : State) : Host.Outcome State Fault Refusal :=
  runPut (isObject 1 OB_COEF_SET) (fun _ _ data d => d.putCoef data) ref s

/-- COEF_SET, FROM_DEVICE (R237). -/
def execCoefSetFromDevice (ref : CmdRef) (s : State) : Host.Outcome State Fault Refusal :=
  runGet (isObject 2 OB_COEF_SET) (fun _ desc d => d.getCoef desc) ref s

/-- SAFE_IMAGE (R225). -/
def execSafeImage (ref : CmdRef) (s : State) : Host.Outcome State Fault Refusal :=
  runPut (isObject 1 OB_SAFE_IMAGE) (fun _ desc data d => d.putSafe desc data) ref s

/-- LAMP_MAP (R276). -/
def execLampMap (ref : CmdRef) (s : State) : Host.Outcome State Fault Refusal :=
  runGet (isObject 2 OB_LAMP_MAP) (fun _ _ => Dev.notServed) ref s

/-- MEAS (R276). -/
def execMeas (ref : CmdRef) (s : State) : Host.Outcome State Fault Refusal :=
  runGet (isObject 2 OB_MEAS) (fun _ _ => Dev.notServed) ref s

/-- REC_DUMP (R377). -/
def execRecDump (ref : CmdRef) (s : State) : Host.Outcome State Fault Refusal :=
  runGet (isObject 2 OB_REC_DUMP) (fun _ desc d => d.getDump desc) ref s

/-- SETTINGS, TO_DEVICE (R362). -/
def execSettingsToDevice (ref : CmdRef) (s : State) : Host.Outcome State Fault Refusal :=
  runPut (isObject 1 OB_SETTINGS) (fun _ desc data d => d.putSettings desc data) ref s

/-- SETTINGS, FROM_DEVICE (R362). -/
def execSettingsFromDevice (ref : CmdRef) (s : State) : Host.Outcome State Fault Refusal :=
  runGet (isObject 2 OB_SETTINGS) (fun _ desc d => d.getSettings desc) ref s

/-! The chain (R179). -/

/-- CHAIN_ENUM: PORT_IDLE, LINK_DOWN, or an ENUM and a wait of 5 ms. -/
def Dev.opChainEnum (st : Straps) (w : Waiter) (desc : List Byte) (d : Dev) : Option (Nat × Nat) × Dev :=
  let x := natBits (dData desc 0) 0 2
  match w with
  | .ring i =>
    if d.getb (LANE_CTRL_TXIDLE x) then (some (ST_PORT_IDLE, 0), d)
    else if d.pstate x ≠ P_LS0 then (some (ST_LINK_DOWN, 0), d)
    else (none, { d with host.enumWait := some (i, x, d.ticks, false) }.sendEnum st x 0)
  | _ => (some (ST_BAD_PARAM, 0), d)

/-- CHAIN_ENUM (R179). -/
def execChainEnum (ref : CmdRef) (s : State) : Host.Outcome State Fault Refusal :=
  runCommand (hasOp 0x0100) (fun _ d => d.host.enumWait.isNone) (fun st w desc d => d.opChainEnum st w desc) ref s

/-- CHAIN_ENUM_COMPLETE: the number of present positions, and whether OVERLONG was set during the wait (R179). -/
def execChainEnumComplete (s : State) : Host.Outcome State Fault Refusal :=
  runSender (fun _ d =>
    match d.host.enumWait with
    | some w =>
      if d.passed w.2.2.1 (ms 5) then
        { d with host.enumWait := none }.finishDesc 1 w.1 ST_OK ((d.presentOn w.2.1).length + 256 * b2n w.2.2.2)
      else d
    | none => d) s

/-- CHAIN_PING (R179). -/
def execChainPing (ref : CmdRef) (s : State) : Host.Outcome State Fault Refusal :=
  runTransport 0x0101 (fun _ _ _ d => (some (ST_BAD_PARAM, 0), d)) ref s

/-! Wall time (R208). -/

/-- TIME_PROBE (R198). -/
def execTimeProbe (ref : CmdRef) (s : State) : Host.Outcome State Fault Refusal :=
  runTransport 0x0200 (fun _ _ _ d => (some (ST_BAD_PARAM, 0), d)) ref s

/-- TIME_SET (R208). -/
def execTimeSet (ref : CmdRef) (s : State) : Host.Outcome State Fault Refusal :=
  runCommand (hasOp 0x0201) always (fun st _ desc d =>
    let r := d.opTimeSet st desc
    (some (r.1, r.2.1), r.2.2)) ref s

/-- TIME_ADJ (R208). -/
def execTimeAdj (ref : CmdRef) (s : State) : Host.Outcome State Fault Refusal :=
  runCommand (hasOp 0x0202) always (fun st _ desc d =>
    let r := d.opTimeAdj st desc
    (some (r.1, r.2.1), r.2.2)) ref s

/-- TIME_SURVEY: completes when the survey of the port has ended (R199, R208). -/
def execTimeSurvey (ref : CmdRef) (s : State) : Host.Outcome State Fault Refusal :=
  runCommand (hasOp 0x0203) (fun desc d => (d.survey (natBits (dData desc 0) 0 2)).waiter.isNone) (fun _ w desc d =>
    match w with
    | .ring i => (none, d.startSurvey (natBits (dData desc 0) 0 2) (some i))
    | _ => (some (ST_BAD_PARAM, 0), d)) ref s

/-! Diagnosis (R275). -/

/-- The lamp that a diagnosis command names. -/
def diagLampNo (desc : List Byte) : Nat := dData desc 0 % 65536

/-- DIAG_LAMP (R275). -/
def execDiagLamp (ref : CmdRef) (s : State) : Host.Outcome State Fault Refusal :=
  runCommand (hasOp 0x0300) always (fun _ _ desc d =>
    if lampCount ≤ diagLampNo desc then (some (ST_BAD_PARAM, 0), d)
    else (some (ST_OK, d.lampWord (diagLampNo desc)), d)) ref s

/-- A lamp put at its place among rising lamp indexes. -/
def insertLamp (n : Nat) : List Nat → List Nat
  | [] => [n]
  | m :: l => if n < m then n :: m :: l else if n = m then m :: l else m :: insertLamp n l

/-- A forced mask is set or released, and block 4 of the settings record replaced (R272, R275, R362). -/
def Dev.opDiagForce (n : Nat) (on : Bool) (d : Dev) : Dev :=
  let l := if on then insertLamp n d.diag.forced else d.diag.forced.filter fun m => m != n
  { d with diag.forced := l }.commitBlock 4 (maskBody l)

/-- DIAG_FORCE (R275). -/
def execDiagForce (ref : CmdRef) (s : State) : Host.Outcome State Fault Refusal :=
  runCommand (hasOp 0x0301) always (fun _ _ desc d =>
    if lampCount ≤ diagLampNo desc then (some (ST_BAD_PARAM, 0), d)
    else (some (ST_OK, 0), d.opDiagForce (diagLampNo desc) (natBit (dData desc 0) 16))) ref s

/-! Twin senders (R300). -/

/-- TWIN_SWAP (R300). -/
def execTwinSwap (ref : CmdRef) (s : State) : Host.Outcome State Fault Refusal :=
  runCommand (hasOp 0x0400) always (fun _ w desc d =>
    match w with
    | .ring i =>
      let r := d.opTwinSwap desc i
      (r.1.map fun status => (status, 0), r.2)
    | _ => (some (ST_BAD_PARAM, 0), d)) ref s

/-! Calibration (R330). -/

/-- CAL_RUN of an item. -/
def isCalRun (item : Nat) (desc : List Byte) : Bool := hasOp 0x0500 desc && natBits (dData desc 0) 0 2 == item

/-- CAL_RUN with item SINK (R320, R321). -/
def execCalRunSink (ref : CmdRef) (cond : CalConditions) (s : State) : Host.Outcome State Fault Refusal :=
  runCommand (isCalRun 0) always (fun st w desc d => d.opCalRun st w (dData desc 0) cond) ref s

/-- CAL_RUN with item ADC (R322). -/
def execCalRunAdc (ref : CmdRef) (cond : CalConditions) (s : State) : Host.Outcome State Fault Refusal :=
  runCommand (isCalRun 1) always (fun st w desc d => d.opCalRun st w (dData desc 0) cond) ref s

/-- CAL_RUN with item SENS (R324). -/
def execCalRunSens (ref : CmdRef) (cond : CalConditions) (s : State) : Host.Outcome State Fault Refusal :=
  runCommand (isCalRun 2) always (fun st w desc d => d.opCalRun st w (dData desc 0) cond) ref s

/-- CAL_RUN with item LANE (R325). -/
def execCalRunLane (ref : CmdRef) (cond : CalConditions) (s : State) : Host.Outcome State Fault Refusal :=
  runCommand (isCalRun 3) always (fun st w desc d => d.opCalRun st w (dData desc 0) cond) ref s

/-- CAL_ABORT (R316). -/
def execCalAbort (ref : CmdRef) (s : State) : Host.Outcome State Fault Refusal :=
  runCommand (hasOp 0x0501) always (fun st _ _ d => (some (ST_OK, 0), d.opCalAbort st)) ref s

/-- CAL_REVERT (R330). -/
def execCalRevert (ref : CmdRef) (s : State) : Host.Outcome State Fault Refusal :=
  runCommand (hasOp 0x0502) always (fun st _ _ d =>
    let r := d.opCalRevert st
    (some r.1, r.2)) ref s

/-! Update (R350, R355, R356, R364). -/

/-- SESSION of UPD_OPEN. -/
def updSession (desc : List Byte) : Nat := dData desc 0 % 65536

/-- WALL, which acts with LOCAL. -/
def updWall (w : Waiter) (desc : List Byte) : Bool :=
  match w with
  | .ring _ => natBit (dData desc 0) 16
  | _ => false

/-- An operation at this device, which a sender then broadcasts to its tiles with WALL. -/
def Dev.updOp (st : Straps) (w : Waiter) (desc : List Byte) (kind session : Nat) (r : Answer) : Option (Nat × Nat) × Dev :=
  if r.1.1 = ST_OK ∧ updWall w desc then (some r.1, r.2.broadcastOp st session kind 0 0 r.2.mfstOfUpdate) else (some r.1, r.2)

/-- UPD_OPEN (R350). -/
def execUpdOpen (ref : CmdRef) (s : State) : Host.Outcome State Fault Refusal :=
  runCommand (hasOp 0x0600) always (fun st w desc d =>
    Dev.updOp st w desc 0 (updSession desc) (d.opUpdOpen SRC_CHAIN (updSession desc))) ref s

/-- UPD_RENEW (R350). -/
def execUpdRenew (ref : CmdRef) (s : State) : Host.Outcome State Fault Refusal :=
  runCommand (hasOp 0x0601) always (fun st w desc d => Dev.updOp st w desc 6 d.session (d.opUpdRenew SRC_CHAIN)) ref s

/-- UPD_CLOSE (R350). -/
def execUpdClose (ref : CmdRef) (s : State) : Host.Outcome State Fault Refusal :=
  runCommand (hasOp 0x0602) always (fun st w desc d => Dev.updOp st w desc 5 d.session (d.opUpdClose SRC_CHAIN)) ref s

/-- Status and VALUE of an UPD_PREPARE without WALL: those of R356 at a sender, the reason at a tile (R364). -/
def Dev.prepareValue (st : Straps) (w : Waiter) (r : Nat × Nat) (d : Dev) : Nat × Nat :=
  match w with
  | .ring _ => d.ownValue st r
  | _ => r

/-- Status and VALUE of an UPD_ACTIVATE without WALL: the device itself is the only one not armed (R356, R364). -/
def Dev.activateValue (st : Straps) (w : Waiter) (r : Nat × Nat) (d : Dev) : Nat × Nat :=
  match w with
  | .ring _ => d.ownValue st r
  | _ => if r.1 = ST_UPDATE_REFUSED ∨ r.1 = ST_OK then r else (r.1, wallValue 0 true [ownAddr st d])

/-- UPD_PREPARE (R355, R356). -/
def execUpdPrepare (ref : CmdRef) (s : State) : Host.Outcome State Fault Refusal :=
  runCommand (hasOp 0x0603) (fun _ d => d.sec.domino.isNone) (fun st w desc d =>
    let rollback := natBit (dData desc 0) 17
    match w, updWall w desc with
    | .ring i, true => d.wallPrepare st i rollback
    | _, _ =>
      let r := d.opUpdPrepare st SRC_CHAIN rollback
      (some (d.prepareValue st w r.1), r.2)) ref s

/-- UPD_ACTIVATE (R356). -/
def execUpdActivate (ref : CmdRef) (s : State) : Host.Outcome State Fault Refusal :=
  runCommand (hasOp 0x0604) (fun _ d => d.sec.domino.isNone) (fun st w desc d =>
    match w, updWall w desc with
    | .ring i, true => d.wallActivate st i (updActivateAt desc)
    | _, _ =>
      let r := d.opUpdActivate st SRC_CHAIN (updActivateAt desc) false
      (some (d.activateValue st w r.1), r.2)) ref s

/-- UPD_ABORT (R356). -/
def execUpdAbort (ref : CmdRef) (s : State) : Host.Outcome State Fault Refusal :=
  runCommand (hasOp 0x0605) always (fun st w desc d => Dev.updOp st w desc 4 d.session (d.opUpdAbort SRC_CHAIN)) ref s

/-! The recorder (R378, R379). -/

/-- REC_CLEAR against the held token: its TSEQ is consumed, then REC_CLEARED is written ahead of every queued record; when
that write fails, nothing is cleared (R379). Records not sent before the clear count as overwritten ones do, in SKIP_CNT
(log entry 124). -/
def Dev.opRecClear (st : Straps) (d : Dev) : Answer :=
  match d.sec.clearToken with
  | none => ((ST_REC_NO_TOKEN, 0), d)
  | some t =>
    if !d.tokenOk t then ((ST_TOKEN_BAD, 0), d)
    else
      let d1 := { d.useToken t with sec.clearToken := none }
      let w := d1.writeFails
      if w.1 then ((ST_REC_NVM, 0), w.2) else ((ST_OK, w.2.rcd.next), w.2.recClearNow st (tokSeq t))

/-- REC_CLEAR (R378). -/
def execRecClear (ref : CmdRef) (s : State) : Host.Outcome State Fault Refusal :=
  runCommand (hasOp 0x0700) always (fun st _ _ d =>
    let r := d.opRecClear st
    (some r.1, r.2)) ref s

/-- REC_MARK: the event with its parameters, severity and flags. VALUE is its SEQ, which it has when it is written: the command
completes then. One that finds no room in the queue is lost like any event, and its VALUE is a free value (log entry 159). -/
def Dev.opRecMark (st : Straps) (w : Waiter) (desc : List Byte) (d : Dev) : Option (Nat × Nat) × Dev :=
  let sev := natBits (dData desc 3) 0 4
  let r := d.record st (evRecMark sev) (natBits (dData desc 3) 4 6) (dData desc 0) (dData desc 1) (dData desc 2)
  if 5 < sev then (some (ST_BAD_PARAM, 0), d)
  else if d.recRoom then (none, d.note { r with mark := some w })
  else
    let q := (d.note r).draw (2 ^ 32)
    (some (ST_OK, q.1), q.2)

/-- REC_MARK (R379). -/
def execRecMark (ref : CmdRef) (s : State) : Host.Outcome State Fault Refusal :=
  runCommand (hasOp 0x0701) always (fun st w desc d => d.opRecMark st w desc) ref s

end Sys2Proof.Machine
end

