-- ==== Sys2Proof/Machine/Dispatch.lean ====
section
/-! DEFINITION. The meaning of every command: one arm per constructor of Instr, each one direct call. -/

namespace Sys2Proof.Machine

def exec (i : Instr) (s : State) : Host.Outcome State Fault Refusal :=
  match i with
  | .registerWrite init addr width value => Sys2Proof.Machine.execRegisterWrite init addr width value s
  | .timeNowRead init addr width => Sys2Proof.Machine.execTimeNowRead init addr width s
  | .servicePortWrite target addr data => Sys2Proof.Machine.execServicePortWrite target addr data s
  | .servicePortRead target addr bytes => Sys2Proof.Machine.execServicePortRead target addr bytes s
  | .powerOnReset straps => Sys2Proof.Machine.execPowerOnReset straps s
  | .coldReset pin straps => Sys2Proof.Machine.execColdReset pin straps s
  | .warmReset init => Sys2Proof.Machine.execWarmReset init s
  | .coreRestart init => Sys2Proof.Machine.execCoreRestart init s
  | .watchdogKick init => Sys2Proof.Machine.execWatchdogKick init s
  | .watchdogExpire => Sys2Proof.Machine.execWatchdogExpire s
  | .firmwareStart adc => Sys2Proof.Machine.execFirmwareStart adc s
  | .deviceReady => Sys2Proof.Machine.execDeviceReady s
  | .vlowExcursion => Sys2Proof.Machine.execVlowExcursion s
  | .brownOut => Sys2Proof.Machine.execBrownOut s
  | .brownOutRelease => Sys2Proof.Machine.execBrownOutRelease s
  | .perstDeassert => Sys2Proof.Machine.execPerstDeassert s
  | .pcieLinkDown => Sys2Proof.Machine.execPcieLinkDown s
  | .functionLevelReset => Sys2Proof.Machine.execFunctionLevelReset s
  | .d3hotEntry => Sys2Proof.Machine.execD3hotEntry s
  | .hifPollEnable init => Sys2Proof.Machine.execHifPollEnable init s
  | .hifPollDisable init => Sys2Proof.Machine.execHifPollDisable init s
  | .ringEnable init ring => Sys2Proof.Machine.execRingEnable init ring s
  | .ringDisable init ring => Sys2Proof.Machine.execRingDisable init ring s
  | .doorbellPoll page => Sys2Proof.Machine.execDoorbellPoll page s
  | .doorbellPollFail => Sys2Proof.Machine.execDoorbellPollFail s
  | .descFetch ring slot => Sys2Proof.Machine.execDescFetch ring slot s
  | .descFetchFail ring ahead => Sys2Proof.Machine.execDescFetchFail ring ahead s
  | .shadowWrite => Sys2Proof.Machine.execShadowWrite s
  | .completionPost => Sys2Proof.Machine.execCompletionPost s
  | .eventRingWrite => Sys2Proof.Machine.execEventRingWrite s
  | .intrModerationTimeout cause => Sys2Proof.Machine.execIntrModerationTimeout cause s
  | .intrCountReached cause => Sys2Proof.Machine.execIntrCountReached cause s
  | .msixUnmask vector => Sys2Proof.Machine.execMsixUnmask vector s
  | .nop ref => Sys2Proof.Machine.execNop ref s
  | .regRead ref => Sys2Proof.Machine.execRegRead ref s
  | .regWrite ref => Sys2Proof.Machine.execRegWrite ref s
  | .regRmw ref => Sys2Proof.Machine.execRegRmw ref s
  | .undefinedOpcode ref => Sys2Proof.Machine.execUndefinedOpcode ref s
  | .cmdDispatch ring index => Sys2Proof.Machine.execCmdDispatch ring index s
  | .cmdTimeout xid => Sys2Proof.Machine.execCmdTimeout xid s
  | .rspReceive => Sys2Proof.Machine.execRspReceive s
  | .progressRspReceive => Sys2Proof.Machine.execProgressRspReceive s
  | .progressRspSend xid => Sys2Proof.Machine.execProgressRspSend xid s
  | .mgmtStage ref => Sys2Proof.Machine.execMgmtStage ref s
  | .ucodeDelta ref => Sys2Proof.Machine.execUcodeDelta ref s
  | .manifestStage ref => Sys2Proof.Machine.execManifestStage ref s
  | .ownerToken ref => Sys2Proof.Machine.execOwnerToken ref s
  | .enrollRequest ref => Sys2Proof.Machine.execEnrollRequest ref s
  | .attest ref => Sys2Proof.Machine.execAttest ref s
  | .coefSetToDevice ref => Sys2Proof.Machine.execCoefSetToDevice ref s
  | .coefSetFromDevice ref => Sys2Proof.Machine.execCoefSetFromDevice ref s
  | .coefSetLoaded => Sys2Proof.Machine.execCoefSetLoaded s
  | .safeImage ref => Sys2Proof.Machine.execSafeImage ref s
  | .lampMap ref => Sys2Proof.Machine.execLampMap ref s
  | .meas ref => Sys2Proof.Machine.execMeas ref s
  | .bulkSnapshot => Sys2Proof.Machine.execBulkSnapshot s
  | .recDump ref => Sys2Proof.Machine.execRecDump ref s
  | .settingsToDevice ref => Sys2Proof.Machine.execSettingsToDevice ref s
  | .settingsFromDevice ref => Sys2Proof.Machine.execSettingsFromDevice ref s
  | .flipParse slots guardTable => Sys2Proof.Machine.execFlipParse slots guardTable s
  | .fencePoll reads => Sys2Proof.Machine.execFencePoll reads s
  | .frameLaunch => Sys2Proof.Machine.execFrameLaunch s
  | .layerReadComplete entry surface payload => Sys2Proof.Machine.execLayerReadComplete entry surface payload s
  | .layerReadFail entry why => Sys2Proof.Machine.execLayerReadFail entry why s
  | .packetSendComplete port => Sys2Proof.Machine.execPacketSendComplete port s
  | .transportEnd => Sys2Proof.Machine.execTransportEnd s
  | .senderModeSwitch => Sys2Proof.Machine.execSenderModeSwitch s
  | .portEnable init port => Sys2Proof.Machine.execPortEnable init port s
  | .portDisable init port => Sys2Proof.Machine.execPortDisable init port s
  | .laneTargetWrite init port target => Sys2Proof.Machine.execLaneTargetWrite init port target s
  | .txidleSet init port => Sys2Proof.Machine.execTxidleSet init port s
  | .txidleClear init port => Sys2Proof.Machine.execTxidleClear init port s
  | .lanePllLock port => Sys2Proof.Machine.execLanePllLock port s
  | .trainingFrameRx port lane position marker last => Sys2Proof.Machine.execTrainingFrameRx port lane position marker last s
  | .rxLock port lane0 lane1 skewNs => Sys2Proof.Machine.execRxLock port lane0 lane1 skewNs s
  | .peerRxlockSeen port => Sys2Proof.Machine.execPeerRxlockSeen port s
  | .countdownDone port => Sys2Proof.Machine.execCountdownDone port s
  | .goTimeout port => Sys2Proof.Machine.execGoTimeout port s
  | .trainTimeout port => Sys2Proof.Machine.execTrainTimeout port s
  | .txonlyLosTimeout port => Sys2Proof.Machine.execTxonlyLosTimeout port s
  | .codewordPairRx port lane0 lane1 residence => Sys2Proof.Machine.execCodewordPairRx port lane0 lane1 residence s
  | .losAssert port lane => Sys2Proof.Machine.execLosAssert port lane s
  | .losClear port lane => Sys2Proof.Machine.execLosClear port lane s
  | .lossOfLock port lane => Sys2Proof.Machine.execLossOfLock port lane s
  | .recoverTimeout port => Sys2Proof.Machine.execRecoverTimeout port s
  | .peerRxlockLost port => Sys2Proof.Machine.execPeerRxlockLost port s
  | .pmAgreement port => Sys2Proof.Machine.execPmAgreement port s
  | .ls2EnergyDetect port => Sys2Proof.Machine.execLs2EnergyDetect port s
  | .cleanerLock => Sys2Proof.Machine.execCleanerLock s
  | .refInputLoss => Sys2Proof.Machine.execRefInputLoss s
  | .refSelectChange => Sys2Proof.Machine.execRefSelectChange s
  | .eyeMonitorUpdate port lane live => Sys2Proof.Machine.execEyeMonitorUpdate port lane live s
  | .tapSave port lane => Sys2Proof.Machine.execTapSave port lane s
  | .guardResume port lane => Sys2Proof.Machine.execGuardResume port lane s
  | .packetReassemblyTimeout port stream => Sys2Proof.Machine.execPacketReassemblyTimeout port stream s
  | .blockReceive => Sys2Proof.Machine.execBlockReceive s
  | .flipHdrReceive => Sys2Proof.Machine.execFlipHdrReceive s
  | .presentReceive => Sys2Proof.Machine.execPresentReceive s
  | .cmdDescReceive => Sys2Proof.Machine.execCmdDescReceive s
  | .bulkOpenReceive => Sys2Proof.Machine.execBulkOpenReceive s
  | .bulkDataReceive => Sys2Proof.Machine.execBulkDataReceive s
  | .bulkPullReceive => Sys2Proof.Machine.execBulkPullReceive s
  | .enumReceiveHead => Sys2Proof.Machine.execEnumReceiveHead s
  | .enumReceiveTail => Sys2Proof.Machine.execEnumReceiveTail s
  | .enumAtTailSender => Sys2Proof.Machine.execEnumAtTailSender s
  | .witnessSend port => Sys2Proof.Machine.execWitnessSend port s
  | .witnessReceive => Sys2Proof.Machine.execWitnessReceive s
  | .presenceTimeout port position => Sys2Proof.Machine.execPresenceTimeout port position s
  | .autoEnum port => Sys2Proof.Machine.execAutoEnum port s
  | .eventSend => Sys2Proof.Machine.execEventSend s
  | .eventReceive => Sys2Proof.Machine.execEventReceive s
  | .chainEnum ref => Sys2Proof.Machine.execChainEnum ref s
  | .chainEnumComplete => Sys2Proof.Machine.execChainEnumComplete s
  | .chainPing ref => Sys2Proof.Machine.execChainPing ref s
  | .timeSend port => Sys2Proof.Machine.execTimeSend port s
  | .timeReceive => Sys2Proof.Machine.execTimeReceive s
  | .timeHoldoverTimeout => Sys2Proof.Machine.execTimeHoldoverTimeout s
  | .clockSlewDone => Sys2Proof.Machine.execClockSlewDone s
  | .ptpEnable init inst => Sys2Proof.Machine.execPtpEnable init inst s
  | .ptpDisable init inst => Sys2Proof.Machine.execPtpDisable init inst s
  | .ptpAnnounceReceive inst msg => Sys2Proof.Machine.execPtpAnnounceReceive inst msg s
  | .ptpSyncReceive inst msg => Sys2Proof.Machine.execPtpSyncReceive inst msg s
  | .ptpDelayReqSend inst => Sys2Proof.Machine.execPtpDelayReqSend inst s
  | .ptpDelayRespReceive inst msg => Sys2Proof.Machine.execPtpDelayRespReceive inst msg s
  | .ptpAnnounceTimeout inst => Sys2Proof.Machine.execPtpAnnounceTimeout inst s
  | .ptpLinkDown inst => Sys2Proof.Machine.execPtpLinkDown inst s
  | .ptpArpRequest inst target asker => Sys2Proof.Machine.execPtpArpRequest inst target asker s
  | .ptpRevertTimeout => Sys2Proof.Machine.execPtpRevertTimeout s
  | .ppsInEdge => Sys2Proof.Machine.execPpsInEdge s
  | .ppsTimeout => Sys2Proof.Machine.execPpsTimeout s
  | .ppsOutPulse => Sys2Proof.Machine.execPpsOutPulse s
  | .surveyStart port => Sys2Proof.Machine.execSurveyStart port s
  | .surveyProbe port => Sys2Proof.Machine.execSurveyProbe port s
  | .timeProbe ref => Sys2Proof.Machine.execTimeProbe ref s
  | .timeSet ref => Sys2Proof.Machine.execTimeSet ref s
  | .timeAdj ref => Sys2Proof.Machine.execTimeAdj ref s
  | .timeSurvey ref => Sys2Proof.Machine.execTimeSurvey ref s
  | .composeDeadline => Sys2Proof.Machine.execComposeDeadline s
  | .composeComplete => Sys2Proof.Machine.execComposeComplete s
  | .swapPoint => Sys2Proof.Machine.execSwapPoint s
  | .presentFrame => Sys2Proof.Machine.execPresentFrame s
  | .refreshStart => Sys2Proof.Machine.execRefreshStart s
  | .rowSlotStart samples => Sys2Proof.Machine.execRowSlotStart samples s
  | .pinwheelRetune => Sys2Proof.Machine.execPinwheelRetune s
  | .pacingCycle => Sys2Proof.Machine.execPacingCycle s
  | .sramParityError mem unit offset => Sys2Proof.Machine.execSramParityError mem unit offset s
  | .engineReloadDone engine => Sys2Proof.Machine.execEngineReloadDone engine s
  | .fabPinjArm init mem unit => Sys2Proof.Machine.execFabPinjArm init mem unit s
  | .fabPinjCancel init => Sys2Proof.Machine.execFabPinjCancel init s
  | .footprintArm init => Sys2Proof.Machine.execFootprintArm init s
  | .footprintDisarm init => Sys2Proof.Machine.execFootprintDisarm init s
  | .footprintSwitch => Sys2Proof.Machine.execFootprintSwitch s
  | .corArm init => Sys2Proof.Machine.execCorArm init s
  | .corDisarm init => Sys2Proof.Machine.execCorDisarm init s
  | .coefSetSwitch => Sys2Proof.Machine.execCoefSetSwitch s
  | .coefActivationCommit => Sys2Proof.Machine.execCoefActivationCommit s
  | .corCanvasWrite init value => Sys2Proof.Machine.execCorCanvasWrite init value s
  | .fadeArm init => Sys2Proof.Machine.execFadeArm init s
  | .fadeDisarm init => Sys2Proof.Machine.execFadeDisarm init s
  | .fadeStart => Sys2Proof.Machine.execFadeStart s
  | .fadeEnd => Sys2Proof.Machine.execFadeEnd s
  | .lampTest codes => Sys2Proof.Machine.execLampTest codes s
  | .pinTest codes => Sys2Proof.Machine.execPinTest codes s
  | .diagLamp ref => Sys2Proof.Machine.execDiagLamp ref s
  | .diagForce ref => Sys2Proof.Machine.execDiagForce ref s
  | .yoyoSend => Sys2Proof.Machine.execYoyoSend s
  | .yoyoReceive bytes => Sys2Proof.Machine.execYoyoReceive bytes s
  | .yoyoLost => Sys2Proof.Machine.execYoyoLost s
  | .yoyoRegained => Sys2Proof.Machine.execYoyoRegained s
  | .heartbeatSend port => Sys2Proof.Machine.execHeartbeatSend port s
  | .heartbeatReceive => Sys2Proof.Machine.execHeartbeatReceive s
  | .peerHeartbeatAbsent port => Sys2Proof.Machine.execPeerHeartbeatAbsent port s
  | .peerHeartbeatResumed port => Sys2Proof.Machine.execPeerHeartbeatResumed port s
  | .twinInitDecided => Sys2Proof.Machine.execTwinInitDecided s
  | .framesRejected => Sys2Proof.Machine.execFramesRejected s
  | .senderFlipHdrReceive => Sys2Proof.Machine.execSenderFlipHdrReceive s
  | .sourceHeardTimeout => Sys2Proof.Machine.execSourceHeardTimeout s
  | .twinSwap ref => Sys2Proof.Machine.execTwinSwap ref s
  | .swapReclaimStart => Sys2Proof.Machine.execSwapReclaimStart s
  | .swapCheck => Sys2Proof.Machine.execSwapCheck s
  | .swapInstant => Sys2Proof.Machine.execSwapInstant s
  | .swapPortRelease port => Sys2Proof.Machine.execSwapPortRelease port s
  | .staleTimeout port position => Sys2Proof.Machine.execStaleTimeout port position s
  | .thermalRound raw => Sys2Proof.Machine.execThermalRound raw s
  | .throttleStep => Sys2Proof.Machine.execThrottleStep s
  | .shutdownRestart => Sys2Proof.Machine.execShutdownRestart s
  | .calRunSink ref cond => Sys2Proof.Machine.execCalRunSink ref cond s
  | .calRunAdc ref cond => Sys2Proof.Machine.execCalRunAdc ref cond s
  | .calRunSens ref cond => Sys2Proof.Machine.execCalRunSens ref cond s
  | .calRunLane ref cond => Sys2Proof.Machine.execCalRunLane ref cond s
  | .calSlotMeasure cells cond => Sys2Proof.Machine.execCalSlotMeasure cells cond s
  | .calStepComplete readings cond commits => Sys2Proof.Machine.execCalStepComplete readings cond commits s
  | .calAbort ref => Sys2Proof.Machine.execCalAbort ref s
  | .calRevert ref => Sys2Proof.Machine.execCalRevert ref s
  | .updOpen ref => Sys2Proof.Machine.execUpdOpen ref s
  | .updRenew ref => Sys2Proof.Machine.execUpdRenew ref s
  | .updClose ref => Sys2Proof.Machine.execUpdClose ref s
  | .updPrepare ref => Sys2Proof.Machine.execUpdPrepare ref s
  | .updActivate ref => Sys2Proof.Machine.execUpdActivate ref s
  | .updAbort ref => Sys2Proof.Machine.execUpdAbort ref s
  | .updateOpen => Sys2Proof.Machine.execUpdateOpen s
  | .updateData => Sys2Proof.Machine.execUpdateData s
  | .updatePrepare => Sys2Proof.Machine.execUpdatePrepare s
  | .updateActivate => Sys2Proof.Machine.execUpdateActivate s
  | .updateAbort => Sys2Proof.Machine.execUpdateAbort s
  | .updateClose => Sys2Proof.Machine.execUpdateClose s
  | .updateRenew => Sys2Proof.Machine.execUpdateRenew s
  | .leaseExpire => Sys2Proof.Machine.execLeaseExpire s
  | .activationCheck => Sys2Proof.Machine.execActivationCheck s
  | .activationSwitch => Sys2Proof.Machine.execActivationSwitch s
  | .loaderSwapDone => Sys2Proof.Machine.execLoaderSwapDone s
  | .updatePauseEnd => Sys2Proof.Machine.execUpdatePauseEnd s
  | .svcOpen init => Sys2Proof.Machine.execSvcOpen init s
  | .svcRenew init => Sys2Proof.Machine.execSvcRenew init s
  | .svcClose init => Sys2Proof.Machine.execSvcClose init s
  | .svcData init object content => Sys2Proof.Machine.execSvcData init object content s
  | .svcPrepare init => Sys2Proof.Machine.execSvcPrepare init s
  | .svcActivate init => Sys2Proof.Machine.execSvcActivate init s
  | .svcAbort init => Sys2Proof.Machine.execSvcAbort init s
  | .nvmWrite call => Sys2Proof.Machine.execNvmWrite call s
  | .nvmCommit kind seq => Sys2Proof.Machine.execNvmCommit kind seq s
  | .nvmRead area offset length => Sys2Proof.Machine.execNvmRead area offset length s
  | .factoryRead offset => Sys2Proof.Machine.execFactoryRead offset s
  | .tokenCheck type token => Sys2Proof.Machine.execTokenCheck type token s
  | .measure => Sys2Proof.Machine.execMeasure s
  | .recorderWrite => Sys2Proof.Machine.execRecorderWrite s
  | .recClear ref => Sys2Proof.Machine.execRecClear ref s
  | .recMark ref => Sys2Proof.Machine.execRecMark ref s
  | .recRdSeqWrite init seq => Sys2Proof.Machine.execRecRdSeqWrite init seq s
  | .crcStart init n => Sys2Proof.Machine.execCrcStart init n s
  | .crcSeedWrite init n seed => Sys2Proof.Machine.execCrcSeedWrite init n seed s
  | .crcDataWrite init n reg bytes => Sys2Proof.Machine.execCrcDataWrite init n reg bytes s
  | .snoopArm init n => Sys2Proof.Machine.execSnoopArm init n s
  | .snoopCaptureEnd n => Sys2Proof.Machine.execSnoopCaptureEnd n s
  | .mbxWrite writer m word => Sys2Proof.Machine.execMbxWrite writer m word s
  | .mbxAck reader m => Sys2Proof.Machine.execMbxAck reader m s
  | .mbxCross pair => Sys2Proof.Machine.execMbxCross pair s
  | .twinMbxDataReceive bytes => Sys2Proof.Machine.execTwinMbxDataReceive bytes s
  | .twinMbxAckReceive bytes => Sys2Proof.Machine.execTwinMbxAckReceive bytes s
  | .twinMbxAbortReceive bytes => Sys2Proof.Machine.execTwinMbxAbortReceive bytes s
  | .twinMbxRepeat => Sys2Proof.Machine.execTwinMbxRepeat s
  | .dormantArm init => Sys2Proof.Machine.execDormantArm init s
  | .dormantDisarm init => Sys2Proof.Machine.execDormantDisarm init s
  | .dormantEntry => Sys2Proof.Machine.execDormantEntry s
  | .wakeNAssert => Sys2Proof.Machine.execWakeNAssert s
  | .jackToneDetect => Sys2Proof.Machine.execJackToneDetect s
  | .jackToneEnd => Sys2Proof.Machine.execJackToneEnd s
  | .aonAlarm => Sys2Proof.Machine.execAonAlarm s
  | .dormantExit => Sys2Proof.Machine.execDormantExit s
  | .dormantOvertemp hot => Sys2Proof.Machine.execDormantOvertemp hot s
  | .aonSupplyChange supply present => Sys2Proof.Machine.execAonSupplyChange supply present s
  | .wakeToneSend init ports => Sys2Proof.Machine.execWakeToneSend init ports s
  | .wakeToneEnd => Sys2Proof.Machine.execWakeToneEnd s
  | .bkupNEdge low => Sys2Proof.Machine.execBkupNEdge low s
  | .motionNEdge low => Sys2Proof.Machine.execMotionNEdge low s
  | .wallClockTick pins => Sys2Proof.Machine.execWallClockTick pins s
  | .aonClockTick => Sys2Proof.Machine.execAonClockTick s
  | .pcieLinkUp gen width => Sys2Proof.Machine.execPcieLinkUp gen width s
  | .bulkDataReadDone index data => Sys2Proof.Machine.execBulkDataReadDone index data s
  | .twinSwapDone => Sys2Proof.Machine.execTwinSwapDone s
  | .vlowEnd => Sys2Proof.Machine.execVlowEnd s
  | .ppsOutFall => Sys2Proof.Machine.execPpsOutFall s
  | .xtalOkChange ok => Sys2Proof.Machine.execXtalOkChange ok s
  | .powerRemoved burst => Sys2Proof.Machine.execPowerRemoved burst s

end Sys2Proof.Machine
end

