-- ==== Sys2Proof/Safety.lean ====
section
/-! DEFINITION. The words of the statements: an outcome that is a next state, the parts of the state and the bits of the
register file that a command leaves alone, and the events it records. -/

namespace Sys2Proof.Machine

/-- The outcome is a next state. -/
def Answers (o : Host.Outcome State Fault Refusal) : Prop := ∃ t, o = .next t

/-- The outcome is a next state that satisfies `p`. -/
def AnswersWith (o : Host.Outcome State Fault Refusal) (p : State → Prop) : Prop := ∃ t, o = .next t ∧ p t

/-- No event waits outside the recorder's queue: so it is between any two commands (an invariant of every step). -/
abbrev Settled (s : State) : Prop := s.dev.rcd.fresh = []

/-- A device that runs, in either role, between two commands (R398). -/
abbrev deviceOn (s : State) : Prop := s.dev.boot.power = Power.awake ∧ Settled s

/-- A tile that runs (R1). -/
abbrev tileOn (s : State) : Prop := s.straps.role = Role.tile ∧ deviceOn s

/-- A sender that runs (R1). -/
abbrev senderOn (s : State) : Prop := s.straps.role = Role.sender ∧ deviceOn s

/-! Registers. -/

/-- The registers that have behaviour of their own, or that take a write only in some states, as ranges of addresses
(R57, R77, R85, R141, R150, R187, R197, R203, R209, R213, R229, R238, R249, R251, R258, R277, R299, R307, R313, R337,
R365, R375, R381 to R387, R401, R408, R411, R418, R470). Every other register is changed by a write as its access codes
say. -/
def ownBehaviour : List (Nat × Nat) :=
  [(GEN_CTRL, GEN_CTRL), (GEN_WDOG, GEN_RST), (HIF_CTRL, HIF_CTRL), (HIF_DB_LO, HIF_SH_HI), (0x020000, 0x02000B), (0x020020, 0x02002B),
   (0x020040, 0x02004B), (0x020060, 0x02006B), (0x020080, 0x02008B),
   (LANE_CTRL 0, LANE_CTRL 0), (LANE_CTRL 1, LANE_CTRL 1), (LANE_CTRL 2, LANE_CTRL 2), (LANE_CTRL 3, LANE_CTRL 3),
   (XPT_ADDR, XPT_ADDR), (TIME_CTRL, TIME_CTRL), (TIME_TRIM, TIME_TRIM), (TIME_LAUNCH, TIME_LAUNCH), (TIME_PPS, TIME_PPS),
   (TIME_PATH_A, TIME_PATH_B), (0x050100, 0x05FFFF), (0x060018, CMP_FP_ARM), (0x061000, 0x061FFF), (COR_CANVAS, COR_CANVAS),
   (COR_AT_NS, COR_ARM), (GRY_SCAN, GRY_SCAN), (GRY_LEVEL, GRY_DMAX), (LDRV_CTRL, LDRV_CTRL), (0x090100, 0x0901FF),
   (DIAG_CTRL, DIAG_THR), (TWIN_CTRL, TWIN_CTRL), (0x0B0100, 0x0BFFFF), (THM_CTRL, THM_CTRL), (THM_SHUT, THM_SHUT), (SEC_SVC_CMD, SEC_SVC_CMD),
   (0x0E1000, 0x0EFFFF), (REC_RD_SEQ, REC_RD_SEQ), (0x100000, 0x10FFFF), (MBX_ACK, MBX_ACK), (0x110020, 0x11FFFF),
   (AON_DORM_AT_NS, AON_DORM_ARM), (AON_TONE, AON_TONE), (FAB_CTRL, FAB_CTRL), (FAB_PINJ, FAB_PINJ)]

/-- A register of the map that has no behaviour of its own. -/
def ordinary (a : Nat) : Bool := (regAt a).isSome && !ownBehaviour.any fun r => decide (r.1 ≤ a) && decide (a ≤ r.2)

/-- What a write of `n` leaves in a field that held `o`, by its access code (R8, R9). -/
def fieldWritten (acc : Access) (legal trusted : Bool) (o n : Nat) : Nat :=
  match acc with
  | .rw | .rws => if legal then n else o
  | .rwt => if legal && trusted then n else o
  | .w1c => o - (o &&& n)
  | .ro | .wo => o

/-! What a command leaves alone. -/

/-- The parts of the device outside its register file. The clock, the frame store and the recorder's queue are parts of
their own. -/
inductive Part where
  /-- The wall clock; the rest of timekeeping; the ports. -/
  | clock | time | ports
  /-- The host interface; the twin logic. -/
  | host | twin
  /-- The two halves of the frame store; the rest of the tile's frame path. -/
  | frameStore | tile
  | diag | therm | cal | nvm | sec
  /-- The recorder's input queue and pending losses; its slots, check words and next SEQ. -/
  | queue | records
  | crc | mbx | parity | aon | boot | rxq
  /-- What has left the device; the count of free values drawn. -/
  | out | free
  deriving DecidableEq, Repr

/-- The part is the same in both devices. -/
def Part.same : Part → Dev → Dev → Prop
  | .clock, d, e => e.time.clk = d.time.clk
  | .time, d, e => { e.time with clk := d.time.clk } = d.time
  | .ports, d, e => e.ports = d.ports
  | .host, d, e => e.host = d.host
  | .twin, d, e => e.twin = d.twin
  | .frameStore, d, e => e.tile.front = d.tile.front ∧ e.tile.back = d.tile.back
  | .tile, d, e => { e.tile with front := d.tile.front, back := d.tile.back } = d.tile
  | .diag, d, e => e.diag = d.diag
  | .therm, d, e => e.therm = d.therm
  | .cal, d, e => e.cal = d.cal
  | .nvm, d, e => e.nvm = d.nvm
  | .sec, d, e => e.sec = d.sec
  | .queue, d, e =>
    e.rcd.queue = d.rcd.queue ∧ e.rcd.fresh = d.rcd.fresh ∧ e.rcd.lost = d.rcd.lost ∧ e.rcd.lostSecs = d.rcd.lostSecs ∧
    e.rcd.lostNs = d.rcd.lostNs
  | .records, d, e => e.rcd.slots = d.rcd.slots ∧ e.rcd.checks = d.rcd.checks ∧ e.rcd.next = d.rcd.next
  | .crc, d, e => e.crc = d.crc
  | .mbx, d, e => e.mbx = d.mbx
  | .parity, d, e => e.parity = d.parity
  | .aon, d, e => e.aon = d.aon
  | .boot, d, e => e.boot = d.boot
  | .rxq, d, e => e.rxq = d.rxq
  | .out, d, e => e.out = d.out
  | .free, d, e => e.free = d.free

/-- A set of bits of the register file: one field, one register, one block, or all of it. -/
inductive Area where
  | field (f : Fld)
  | word (a : Nat)
  | block (b : Nat)
  | all
  deriving DecidableEq, Repr

/-- Bit `k` of the register at `a` lies in the area. -/
def Area.has : Area → Nat → Nat → Prop
  | .field f, a, k => a = f.addr ∧ f.lo ≤ k ∧ k < f.lo + f.width
  | .word b, a, _ => a = b
  | .block b, a, _ => a / 0x10000 = b
  | .all, _, _ => True

/-- From `d` to `e` only the listed parts and the register bits in the listed areas may differ. -/
def Dev.Only (ps : List Part) (as : List Area) (d e : Dev) : Prop :=
  (∀ p : Part, p ∉ ps → p.same d e) ∧
  ∀ a k : Nat, (∀ x ∈ as, ¬ x.has a k) → (e.rd a).getLsbD k = (d.rd a).getLsbD k

/-- The frame of a command: straps and queue stay, and of the device only the listed parts and areas may differ. -/
def Only (ps : List Part) (as : List Area) (s t : State) : Prop :=
  t.straps = s.straps ∧ t.pending = s.pending ∧ s.dev.Only ps as t.dev

/-- The frame of a command that records events: the recorder's queue and its count of lost events may differ too. -/
def OnlyLogging (ps : List Part) (as : List Area) (s t : State) : Prop :=
  Only (.queue :: ps) (.field REC_LOST_CNT_COUNT :: as) s t

/-! A write turned away (R444, R448, R449). -/

/-- The service port has answered with NACK, which is counted. -/
def Nacked (s t : State) : Prop :=
  Only [.out] [.field GEN_SVC_STAT_NACKS] s t ∧ t.dev.out = s.dev.out ++ [.svcNack] ∧
  t.dev.get GEN_SVC_STAT_NACKS = min (s.dev.get GEN_SVC_STAT_NACKS + 1) 0xFFFF

/-- What becomes of a write that its initiator may not make: the service port gets NACK, and for the others nothing happens. -/
def TurnedAway (init : Initiator) (s : State) (o : Host.Outcome State Fault Refusal) : Prop :=
  (init ≠ .service → o = .next s) ∧ (init = .service → AnswersWith o (Nacked s))

/-! Events. -/

/-- The CODE and parameters of an event. -/
def EventRec.what (e : EventRec) : Nat × Nat × Nat × Nat := (e.code, e.p0, e.p1, e.p2)

/-- The command puts exactly these events behind those that wait, if the queue has room for them (R370). -/
def Logs (l : List (Nat × Nat × Nat × Nat)) (s t : State) : Prop :=
  s.dev.rcd.queue.length + l.length ≤ recDepth →
    t.dev.rcd.queue.map EventRec.what = s.dev.rcd.queue.map EventRec.what ++ l ∧ t.dev.rcd.lost = s.dev.rcd.lost

/-- An event of this CODE with these parameters waits in the recorder's queue. -/
def HasLogged (c : EvCode) (p0 p1 p2 : Nat) (t : State) : Prop :=
  ∃ e ∈ t.dev.rcd.queue, EventRec.what e = (c.code, p0, p1, p2)

/-! Resets. -/

/-- The bytes of the eMRAM's objects, the record by which each slot stands, the factory record and the recorder's slots are
the same in both devices (R398: every reset keeps eMRAM; R341: start-up drops a torn record, by which no slot stands). The
trusted store and the images are apart: start-up may apply an activation to them. -/
def objectsKept (d e : Dev) : Prop :=
  (∀ k ∈ [NK_MFST, NK_CAL, NK_COEF, NK_SETTINGS, NK_SAFE],
    (e.slots k).map NvmSlot.bytes = (d.slots k).map NvmSlot.bytes ∧ ∀ s ∈ [0, 1], e.slotRecord k s = d.slotRecord k s) ∧
  e.nvm.factory = d.nvm.factory ∧ e.rcd.slots = d.rcd.slots ∧ e.rcd.checks = d.rcd.checks

/-- The registers of the AON block are the same in both devices (R398). -/
def aonKept (d e : Dev) : Prop := ∀ a, inAon a = true → e.rd a = d.rd a

/-- Both halves of the frame store hold 0 (R398). -/
def frameStoreDark (d : Dev) : Prop := d.tile.front = [] ∧ d.tile.back = []

/-! Rings (R52, R54, R59). -/

/-- An index of the host fits its ring: (PI − CI) mod 2^32 is at most the ring's size; the host owns PI of Q0 to Q2 and CI
of Q3 and Q4. -/
abbrev indexFits (d : Dev) (n : Nat) (idx : Word) : Prop :=
  (if n < 3 then idx.toNat + 2 ^ 32 - d.get (RING_IDX_INDEX n) else d.get (RING_IDX_INDEX n) + 2 ^ 32 - idx.toNat) % 2 ^ 32 ≤
    2 ^ d.get (RING_CFG_LOG2SIZE n)

/-! Commands (R65, R66, R176). -/

/-- The completion of a descriptor (R68). -/
def cplOf (e : Desc) (status value : Nat) : Cpl :=
  { tag := dTag e.bytes, status := status, kind := if e.ring = 1 then K_CMD_DONE else K_BULK_DONE, ring := e.ring,
    index := e.index, value := value }

/-- A descriptor of the Command Ring, fetched and not started. -/
def fetchedCmd (i : Nat) (desc : List Byte) : Desc :=
  { ring := 1, index := i, bytes := desc, phase := .fetched, data := [], sent := 0, opened := false, result := none }

/-- The host interface of a sender after its one descriptor has completed: the completion waits to be posted. -/
def HostSt.completed (h : HostSt) (e : Desc) (status value : Nat) : HostSt :=
  { h with descs := [{ e with phase := .finished, result := some (status, value) }], cpls := h.cpls ++ [cplOf e status value] }

/-- The ports of a tile with an RSP to a CMD waiting, at its precedence, on the port toward the sender (R159, R165). -/
def rspWaits (d : Dev) (cmd : List Byte) (status value off : Nat) (data : List Byte) : List PortSt :=
  d.ports.modify (endPort (pktTail cmd)) fun p => { p with own := insertOwn (rspPkt d cmd status value off data none) p.own }

/-- A tile can answer a CMD or UPDATE: it has an address (R157), and its own cells leave by the pairs it forwards toward the
end that the packet came from. -/
def canAnswer (d : Dev) (cmd : List Byte) : Bool := d.addrValid && d.relays (endPort (pktTail cmd))

/-- The one descriptor in flight at a running sender is this, with a completion wanted, and no CMD is outstanding. -/
def oneDesc (e : Desc) (s : State) : Bool :=
  decide (senderOn s) && decide (s.dev.host.descs = [e]) && decide (s.dev.host.out = []) &&
  !dNoCpl e.bytes

/-- A command with these 64, or 60, bytes waits alone: LOCAL in the Command Ring of a sender, or as the only CMD
of a tile that forwards the chain's pairs. -/
def Waits (ref : CmdRef) (desc : List Byte) (s : State) : Bool :=
  match ref with
  | .ring i => oneDesc (fetchedCmd i desc) s && dLocal desc
  | .remote =>
    decide (tileOn s) && decide (s.dev.tile.bulks = []) && decide (s.dev.tile.running = []) &&
    match s.dev.tile.cmds with
    | [c] => decide (cmdDesc c.1.bytes = desc) && canAnswer s.dev c.1.bytes
    | _ => false

/-- Where the answer to a command shows. -/
def answerParts : CmdRef → List Part
  | .ring _ => [.host]
  | .remote => [.tile, .ports]

/-- The command has been answered, by a completion or an RSP, and waits no longer. -/
def Answered (ref : CmdRef) (desc : List Byte) (status value : Nat) (s t : State) : Prop :=
  match ref with
  | .ring i =>
    t.dev.host.descs = [{ fetchedCmd i desc with phase := .finished, result := some (status, value) }] ∧
    t.dev.host.cpls = s.dev.host.cpls ++ [cplOf (fetchedCmd i desc) status value]
  | .remote => t.dev.tile.cmds = [] ∧ t.dev.tile.running = [] ∧
    t.dev.ports = rspWaits s.dev ((s.dev.tile.cmds.map fun c => c.1.bytes).headD []) status value 0 []

/-- Of the host interface and the tile's frame path, only the command's own place has changed. -/
def AnsweredOnly (ref : CmdRef) (desc : List Byte) (status value : Nat) (s t : State) : Prop :=
  Answered ref desc status value s t ∧
  match ref with
  | .ring _ => { t.dev.host with descs := s.dev.host.descs, cpls := s.dev.host.cpls } = s.dev.host
  | .remote => { t.dev.tile with cmds := s.dev.tile.cmds } = s.dev.tile

/-! Bulk transfers (R67, R178). -/

/-- A descriptor of the Bulk Ring. -/
def bulkAt (i : Nat) (desc : List Byte) (p : Phase) (data : List Byte) : Desc :=
  { ring := 2, index := i, bytes := desc, phase := p, data := data, sent := 0, opened := false, result := none }

/-- A TO_DEVICE transfer whose data has come whole waits alone to be carried out: LOCAL in the Bulk Ring of a sender, its
DATA_CRC matching, or with its last segment at a tile. -/
def WaitsPut (ref : CmdRef) (desc data : List Byte) (s : State) : Bool :=
  match ref with
  | .ring i =>
    oneDesc (bulkAt i desc .started data) s && dLocal desc && !isBcast desc && !data.isEmpty && crc32c data == bDataCrc desc
  | .remote =>
    decide (tileOn s) && decide (s.dev.tile.cmds = []) && decide (s.dev.tile.running = []) &&
    match s.dev.tile.bulks with
    | [b] =>
      match b.last with
      | some l => cmdDesc b.pkt.bytes == desc && b.data == data && b.opening.isNone && b.segs.isEmpty && b.pulls.isEmpty &&
          canAnswer s.dev l.1.bytes
      | none => false
    | _ => false

/-- The transfer has been answered and is over; nothing else of the host interface or the tile's frame path has changed. -/
def PutDone (ref : CmdRef) (desc data : List Byte) (status value : Nat) (s t : State) : Prop :=
  match ref with
  | .ring i => t.dev.host = s.dev.host.completed (bulkAt i desc .started data) status value
  | .remote => t.dev.tile = { s.dev.tile with bulks := [] } ∧
    t.dev.ports = rspWaits s.dev (s.dev.tile.bulks.flatMap fun b => (b.last.map fun l => l.1.bytes).getD []) status value 0 []

/-- A FROM_DEVICE transfer that passes its checks waits alone: LOCAL in the Bulk Ring of a sender, or accepted at a tile, with
no pull waiting and its data not yet taken. -/
def WaitsGet (ref : CmdRef) (desc : List Byte) (s : State) : Bool :=
  match ref with
  | .ring i =>
    oneDesc (bulkAt i desc .fetched []) s && dLocal desc && (s.dev.bulkAnswer s.straps desc).1 == ST_OK && bObject desc != OB_REC_DUMP
  | .remote =>
    decide (tileOn s) &&
    match s.dev.tile.bulks with
    | [b] => cmdDesc b.pkt.bytes == desc && b.opening.isNone && b.segs.isEmpty && b.pulls.isEmpty && s.dev.fillable b
    | _ => false

/-- The transfer is served from these bytes: a sender writes them to HOST_ADDR and completes with their CRC-32C, a tile holds
them for the pulls. -/
def GetDone (ref : CmdRef) (desc bytes : List Byte) (s t : State) : Prop :=
  match ref with
  | .ring i => t.dev.host = s.dev.host.completed (bulkAt i desc .fetched []) ST_OK (crc32c (slice bytes 0 (bLength desc))) ∧
    t.dev.out = s.dev.out ++ [.hostWrite (bHostAddr desc) (slice bytes 0 (bLength desc))]
  | .remote => t.dev.tile =
    { s.dev.tile with bulks := s.dev.tile.bulks.map fun b => { b with snapshot := some bytes, refused := ST_OK, refusedValue := 0 } }

/-- Where a transfer from the device shows. -/
def getParts : CmdRef → List Part
  | .ring _ => [.host, .out]
  | .remote => [.tile]

/-- Who waits for a command that goes on. -/
def waiterOf (ref : CmdRef) (s : State) : Option Waiter :=
  match ref with
  | .ring i => some (.ring i)
  | .remote => s.dev.tile.cmds.head?.map fun c => .remote c.1

/-- The command has started and goes on: it has no answer yet, and nothing else waits. -/
def Started (ref : CmdRef) (desc : List Byte) (s t : State) : Prop :=
  match ref with
  | .ring i => t.dev.host = { s.dev.host with descs := [{ fetchedCmd i desc with phase := .started }] }
  | .remote => t.dev.tile = { s.dev.tile with cmds := [], running := s.dev.tile.cmds }

/-! Calibration (R316 to R319). -/

/-- CAL_RUN of each item. -/
def calRun (item : Nat) (ref : CmdRef) (cond : CalConditions) : Instr :=
  match item with
  | 0 => .calRunSink ref cond
  | 1 => .calRunAdc ref cond
  | 2 => .calRunSens ref cond
  | _ => .calRunLane ref cond

/-- A calibration step that has measured nothing in service and that nobody waits for. -/
def calIdle : CalStep := { item := 0, inService := false, port := 0, waiter := none, slots := [], tj := [] }

/-- The calibration step has ended with a result. -/
def stepEnded (item result : Nat) (t : State) : Prop :=
  t.dev.cal.step = none ∧ t.dev.get CAL_STAT_BUSY = 0 ∧ t.dev.get CAL_STAT_ITEM = item ∧ t.dev.get CAL_STAT_RESULT = result

/-- The slots of the calibration record after a commit: these bytes in the slot not in force. -/
def recordCommitted (bytes : List Byte) (s t : State) : Prop :=
  t.dev.nvm.cal = setAt s.dev.nvm.cal s.dev.calSpare
    { bytes := bytes, written := 0
      commit := recordBytes NK_CAL s.dev.calSpare (s.dev.calNextSeq % 2 ^ 32) bytes.length (sha256 bytes)
      prior := (nth s.dev.nvm.cal s.dev.calSpare NvmSlot.empty).commit } ∧
  t.dev.nvm.coef = s.dev.nvm.coef ∧ t.dev.nvm.settings = s.dev.nvm.settings ∧ t.dev.nvm.safe = s.dev.nvm.safe ∧
  t.dev.nvm.manifest = s.dev.nvm.manifest ∧ t.dev.nvm.factory = s.dev.nvm.factory ∧
  t.dev.get CAL_STAT_SRC = s.dev.calSpare

/-! The lease (R350). -/

/-- A lease is in force and chain and transport hold it (R350). -/
abbrev chainLease (d : Dev) : Prop := d.leaseMine SRC_CHAIN = true

/-- The two sources of update work: chain or host, and the service port. -/
abbrev svcLease (d : Dev) : Prop := d.leaseMine SRC_SVC = true

/-- The other source than this one holds the lease, renewed less than 60 s ago. -/
abbrev leaseElsewhere (src : Nat) (d : Dev) : Prop :=
  ∃ l ∈ d.sec.lease, l.1 ≠ src ∧ d.time.clk.ticks < l.2.1 + 15000000000

/-- No lease stands, or it has expired, or this source holds it. -/
abbrev leaseFree (src : Nat) (d : Dev) : Prop :=
  ∀ l ∈ d.sec.lease, l.1 = src ∨ l.2.1 + 15000000000 ≤ d.time.clk.ticks

/-- The lease of this source has been renewed now, and the rest of the trusted part's volatile state is the same. -/
def renewedNow (s t : State) : Prop :=
  t.dev.sec = { s.dev.sec with lease := s.dev.sec.lease.map fun l => (l.1, s.dev.time.clk.ticks, l.2.2) }

/-- Why R354 refuses: 1 ONAIR, 2 BKUP_N low, 3 MOTION_N low, 0 when it does not. -/
def refusal (d : Dev) : Nat :=
  if d.nvm.trusted.onair = true then 1 else if d.get GEN_STAT_BKUP = 1 then 2 else if d.get GEN_STAT_MOTION = 1 then 3 else 0

/-- P_a lies on the frame grid, where a mode is in force (R356). -/
abbrev onFrameGrid (s : State) (pa : Nat) : Prop :=
  (s.straps.role = .sender → s.dev.get RING_FLIP_MODE_CUR = 0xFF ∨ onGrid (s.dev.get RING_FLIP_MODE_CUR) pa = true) ∧
  (s.straps.role = .tile → ∀ m ∈ s.dev.tile.drive.mode, onGrid m pa = true)

/-- The UPD command of an opcode. -/
def updCmd (op : Nat) (ref : CmdRef) : Instr :=
  match op with
  | 0x0600 => .updOpen ref
  | 0x0601 => .updRenew ref
  | 0x0602 => .updClose ref
  | 0x0603 => .updPrepare ref
  | 0x0604 => .updActivate ref
  | _ => .updAbort ref

/-- The operation of the service port with an OP code, but for DATA. -/
def svcCmd (op : Nat) (init : Initiator) : Instr :=
  match op with
  | 1 => .svcOpen init
  | 2 => .svcRenew init
  | 3 => .svcClose init
  | 6 => .svcPrepare init
  | 7 => .svcActivate init
  | _ => .svcAbort init

/-- The receipt of an UPDATE of a KIND. -/
def updateOf (kind : Nat) : Instr :=
  match kind with
  | 0 => .updateOpen
  | 1 => .updateData
  | 2 => .updatePrepare
  | 3 => .updateActivate
  | 4 => .updateAbort
  | 5 => .updateClose
  | _ => .updateRenew

/-- A service operation has ended with a status. -/
def svcEnded (status : Nat) (t : State) : Prop :=
  t.dev.get SEC_SVC_CMD_BUSY = 0 ∧ t.dev.get SEC_SVC_CMD_STATUS = status

/-- The first waiting packet of a tile is an UPDATE of this KIND, and its answers go by forwarded pairs. -/
abbrev updateFirst (kind : Nat) (k : RxPkt) (rest : List RxPkt) (s : State) : Prop :=
  tileOn s ∧ s.dev.rxq = k :: rest ∧ pktType k.bytes = PT_UPDATE ∧ cmdKind k.bytes = kind ∧
  canAnswer s.dev k.bytes = true

/-- The firmware's call to the trusted monitor waits, and the answer's mailbox is empty (R344). -/
abbrev callWaits (n : Nat) (s : State) : Prop :=
  deviceOn s ∧ s.dev.mbxFull 4 = true ∧ s.dev.get (MBX_DATA_WORD 4) % 256 = n ∧ s.dev.mbxFull 5 = false

/-- What every monitor call does to the mailboxes: the call is taken, an answer stands in mailbox 5 and its reader is
interrupted. -/
def callAnswered (s t : State) : Prop :=
  t.dev.mbxFull 4 = false ∧ t.dev.mbxFull 5 = true ∧
  (∀ m : Fin 8, (m : Nat) ≠ 4 → (m : Nat) ≠ 5 → t.dev.mbxFull m = s.dev.mbxFull m) ∧
  t.dev.mbx.vsecAborted = s.dev.mbx.vsecAborted

/-! The rows by the device that they belong to (R1, R15, R398). -/

/-- Rows that belong to a tile: its transport of frames and commands, its composition, drive, diagnosis and calibration. -/
def tileRow (c : Instr) : Bool :=
  match c with
  | .progressRspSend .. | .coefSetLoaded .. | .bulkSnapshot .. | .refSelectChange ..
  | .blockReceive .. | .flipHdrReceive .. | .presentReceive .. | .cmdDescReceive ..
  | .bulkOpenReceive .. | .bulkDataReceive .. | .bulkPullReceive .. | .enumReceiveHead ..
  | .enumReceiveTail .. | .witnessSend .. | .eventSend .. | .timeReceive ..
  | .timeHoldoverTimeout .. | .composeDeadline .. | .composeComplete .. | .swapPoint ..
  | .presentFrame .. | .refreshStart .. | .rowSlotStart .. | .pinwheelRetune ..
  | .corArm .. | .corDisarm .. | .coefSetSwitch .. | .coefActivationCommit ..
  | .corCanvasWrite .. | .fadeArm .. | .fadeDisarm .. | .fadeStart ..
  | .fadeEnd .. | .lampTest .. | .pinTest .. | .sourceHeardTimeout ..
  | .calSlotMeasure .. | .updateOpen .. | .updateData .. | .updatePrepare ..
  | .updateActivate .. | .updateAbort .. | .updateClose .. | .updateRenew .. => true
  | _ => false

/-- Rows that belong to a sender: its host interface, launches, chain ends, PTP, twin and wall-wide activation. -/
def senderRow (c : Instr) : Bool :=
  match c with
  | .perstDeassert .. | .pcieLinkDown .. | .functionLevelReset .. | .d3hotEntry ..
  | .hifPollEnable .. | .hifPollDisable .. | .ringEnable .. | .ringDisable ..
  | .doorbellPoll .. | .doorbellPollFail .. | .descFetch .. | .descFetchFail ..
  | .shadowWrite .. | .completionPost .. | .eventRingWrite .. | .intrModerationTimeout ..
  | .intrCountReached .. | .msixUnmask .. | .cmdDispatch .. | .cmdTimeout ..
  | .rspReceive .. | .progressRspReceive .. | .flipParse .. | .fencePoll ..
  | .frameLaunch .. | .layerReadComplete .. | .layerReadFail .. | .packetSendComplete ..
  | .transportEnd .. | .senderModeSwitch .. | .txidleSet .. | .txidleClear ..
  | .enumAtTailSender .. | .witnessReceive .. | .presenceTimeout .. | .autoEnum ..
  | .eventReceive .. | .chainEnumComplete .. | .timeSend .. | .clockSlewDone ..
  | .ptpEnable .. | .ptpDisable .. | .ptpAnnounceReceive .. | .ptpSyncReceive ..
  | .ptpDelayReqSend .. | .ptpDelayRespReceive .. | .ptpAnnounceTimeout .. | .ptpLinkDown ..
  | .ptpArpRequest .. | .ptpRevertTimeout .. | .ppsInEdge .. | .ppsTimeout ..
  | .ppsOutPulse .. | .surveyStart .. | .surveyProbe .. | .yoyoSend ..
  | .yoyoReceive .. | .yoyoLost .. | .yoyoRegained .. | .heartbeatSend ..
  | .heartbeatReceive .. | .peerHeartbeatAbsent .. | .peerHeartbeatResumed .. | .twinInitDecided ..
  | .framesRejected .. | .senderFlipHdrReceive .. | .swapReclaimStart .. | .swapCheck ..
  | .swapInstant .. | .swapPortRelease .. | .staleTimeout .. | .activationCheck ..
  | .twinMbxDataReceive .. | .twinMbxAckReceive .. | .twinMbxAbortReceive .. | .twinMbxRepeat ..
  | .wakeToneSend .. | .wakeToneEnd .. | .pcieLinkUp .. | .bulkDataReadDone ..
  | .twinSwapDone .. | .ppsOutFall .. => true
  | _ => false

/-- Rows of either role that need a running device. -/
def awakeRow (c : Instr) : Bool :=
  match c with
  | .registerWrite .. | .servicePortWrite .. | .warmReset .. | .coreRestart ..
  | .watchdogKick .. | .watchdogExpire .. | .firmwareStart .. | .deviceReady ..
  | .vlowExcursion .. | .brownOut .. | .portEnable .. | .portDisable ..
  | .laneTargetWrite .. | .lanePllLock .. | .trainingFrameRx .. | .rxLock ..
  | .peerRxlockSeen .. | .countdownDone .. | .goTimeout .. | .trainTimeout ..
  | .txonlyLosTimeout .. | .codewordPairRx .. | .losAssert .. | .losClear ..
  | .lossOfLock .. | .recoverTimeout .. | .peerRxlockLost .. | .pmAgreement ..
  | .ls2EnergyDetect .. | .cleanerLock .. | .refInputLoss .. | .eyeMonitorUpdate ..
  | .tapSave .. | .guardResume .. | .packetReassemblyTimeout .. | .pacingCycle ..
  | .sramParityError .. | .engineReloadDone .. | .fabPinjArm .. | .fabPinjCancel ..
  | .footprintArm .. | .footprintDisarm .. | .footprintSwitch .. | .throttleStep ..
  | .calStepComplete .. | .leaseExpire .. | .activationSwitch .. | .loaderSwapDone ..
  | .updatePauseEnd .. | .svcOpen .. | .svcRenew .. | .svcClose ..
  | .svcData .. | .svcPrepare .. | .svcActivate .. | .svcAbort ..
  | .nvmWrite .. | .nvmCommit .. | .nvmRead .. | .factoryRead ..
  | .tokenCheck .. | .measure .. | .recorderWrite .. | .recRdSeqWrite ..
  | .crcStart .. | .crcSeedWrite .. | .crcDataWrite .. | .snoopArm ..
  | .snoopCaptureEnd .. | .mbxWrite .. | .mbxAck .. | .mbxCross ..
  | .dormantArm .. | .dormantDisarm .. | .dormantEntry .. | .vlowEnd .. => true
  | _ => false

/-- Where the command of a row stands, of the rows that carry one out: in a ring of a sender, or at a tile. -/
def cmdRefOf (c : Instr) : Option CmdRef :=
  match c with
  | .nop r | .regRead r | .regWrite r | .regRmw r | .undefinedOpcode r
  | .mgmtStage r | .ucodeDelta r | .manifestStage r | .ownerToken r | .enrollRequest r
  | .attest r | .coefSetToDevice r | .coefSetFromDevice r | .safeImage r | .lampMap r
  | .meas r | .recDump r | .settingsToDevice r | .settingsFromDevice r | .chainEnum r
  | .chainPing r | .timeProbe r | .timeSet r | .timeAdj r | .timeSurvey r
  | .diagLamp r | .diagForce r | .twinSwap r | .calRunSink r _ | .calRunAdc r _
  | .calRunSens r _ | .calRunLane r _ | .calAbort r | .calRevert r | .updOpen r
  | .updRenew r | .updClose r | .updPrepare r | .updActivate r | .updAbort r
  | .recClear r | .recMark r => some r
  | _ => none

/-! The invariants of the whole machine. -/

/-- The lists of like things have their length: four ports of two lanes and five packet queues, four surveys, two PTP
instances, five ring indices of the host, eight check-value units, two eMRAM slots of each kind. -/
def Shaped (d : Dev) : Prop :=
  d.ports.length = 4 ∧ (∀ p ∈ d.ports, p.lanes.length = 2 ∧ p.txq.length = 5) ∧ d.time.surveys.length = 4 ∧ d.time.inst.length = 2 ∧ d.host.hostIdx.length = 5 ∧
  d.crc.length = 8 ∧ d.nvm.mgmt.length = 2 ∧ d.nvm.cal.length = 2 ∧ d.nvm.coef.length = 2 ∧ d.nvm.coefSeq.length = 2 ∧
  d.nvm.settings.length = 2 ∧ d.nvm.safe.length = 2 ∧ d.nvm.manifest.length = 2 ∧ d.nvm.ucode.length = 2

/-- Every sparse store has its canonical form, so that equal contents are equal data: the register file, the values in force,
both halves of the frame store, what the lamp tests have found, the recorder's slots and check words. -/
def Canonical (d : Dev) : Prop :=
  Cells.wf regReset d.regs = true ∧ Cells.wf regReset d.tile.eff = true ∧ Cells.wf (fun _ => 0) d.tile.front = true ∧
  Cells.wf (fun _ => 0) d.tile.back = true ∧ Cells.wf (fun _ => 0) d.diag.last = true ∧
  Cells.wf (fun _ => 0) d.diag.tested = true ∧ Cells.wf (fun _ => 0) d.diag.agree = true ∧
  Cells.wf (fun _ => 0) d.diag.vcol = true ∧ Cells.wf (fun _ => 0) d.diag.pin = true ∧ Cells.wf recSlotDflt d.rcd.slots = true ∧
  Cells.wf recCheckDflt d.rcd.checks = true

end Sys2Proof.Machine
end

