-- ==== Sys2Proof/Certificates/Slice0/Obligations.lean ====
section
/-! DEFINITION. The statements for the provers: one definition for each, every clause with its hypotheses on the state and
the operands and the next state that follows. -/

open Sys2Proof Sys2Proof.Machine

/-- REGISTER_WRITE (R8, R9, R15, R439, R442, R450): a whole-word write to a register that has no behaviour of its own
changes each field as its access code says (a reserved encoding leaves the field, RWT takes the trusted part's
writes only, W1C clears the bits written 1) and leaves every other register and part as it was. A write to a
register that the role does not use changes nothing. A write where no register stands, or one narrower than a word
outside the native feed, changes nothing but GEN_ACC_ERR, which takes the access when it holds none. Nothing
changes, by this row or by any row that is a register write of its own, where the initiator has no access: BAR0 of a
tile, of a function without link, in D3hot or without Memory Space Enable, JTAG without DEBUG (R449); the service
port without WRITE_CFG gets a counted NACK (R448). The model's choice in this: that the rows of their own with
service as initiator go by R448 as a SERVICE_PORT_WRITE does (log entry 140), what D3hot and Memory Space Enable
turn away (log entry 104), and that a write of three bytes is logged as a narrow one (log entry 157). Completion,
with what the next state holds, for: REGISTER_WRITE. -/
def Obligations.OrdinaryRegisterWrites : Prop :=
  (∀ (s : State) (init : Initiator) (a : Nat) (v : Word) (r : RegDesc) (f : FieldDesc),
    deviceOn s →
    mayWrite s.straps init s.dev = true →
    a < 2 ^ 24 →
    a % 4 = 0 →
    ordinary a = true →
    unusedAt s.straps a = false →
    regAt a = some r →
    f ∈ r.fields →
    let n := fieldOf v f.lo f.width
    AnswersWith (exec (.registerWrite init a .word v) s) fun t =>
      Only [] [.word a] s t ∧
      fieldOf (t.dev.rd a) f.lo f.width = fieldWritten f.acc
        (f.legal.isEmpty || f.legal.any fun x => decide (x.1 ≤ n) && decide (n ≤ x.2)) (init == .nutcracker)
        (fieldOf (s.dev.rd a) f.lo f.width) n) ∧
  (∀ (s : State) (init : Initiator) (a : Nat) (v : Word),
    deviceOn s →
    a < 2 ^ 24 →
    a % 4 = 0 →
    unusedAt s.straps a = true →
    (regAt a).isSome = true →
    exec (.registerWrite init a .word v) s = .next s) ∧
  (∀ (s : State) (init : Initiator) (a : Nat) (width : AccessWidth) (v : Word),
    deviceOn s →
    mayWrite s.straps init s.dev = true →
    init ≠ .service →
    a < 2 ^ 24 →
    a % 4 = 0 →
    s.dev.get GEN_ACC_ERR_VALID = 0 →
    if width = .word then regAt a = none else accessSpan a width = none ∨ a / 0x10000 ≠ 0x10 →
    AnswersWith (exec (.registerWrite init a width v) s) fun t =>
      Only [] [.word GEN_ACC_ERR] s t ∧ t.dev.get GEN_ACC_ERR_VALID = 1 ∧ t.dev.get GEN_ACC_ERR_ADDR = a ∧
      t.dev.get GEN_ACC_ERR_WRITE = 1 ∧ t.dev.get GEN_ACC_ERR_INIT = initCode init ∧
      t.dev.get GEN_ACC_ERR_NARROW = (if width = .word then 0 else 1)) ∧
  (∀ (s : State) (init : Initiator) (a : Nat) (x : Port) (g : Fin 4) (k : Fin 8) (u : Fin 256) (p : BitVec 4) (v : Word) (bytes : List Byte),
    mayWrite s.straps init s.dev = false →
    (init = .service → deviceOn s) →
    (ordinary (a % 2 ^ 24) = true → outsideRegs init = false → TurnedAway init s (exec (.registerWrite init a .word v) s)) ∧
      TurnedAway init s (exec (.watchdogKick init) s) ∧
      TurnedAway init s (exec (.hifPollEnable init) s) ∧
      TurnedAway init s (exec (.hifPollDisable init) s) ∧
      TurnedAway init s (exec (.portEnable init x) s) ∧
      TurnedAway init s (exec (.portDisable init x) s) ∧
      TurnedAway init s (exec (.laneTargetWrite init x g) s) ∧
      TurnedAway init s (exec (.txidleSet init x) s) ∧
      TurnedAway init s (exec (.txidleClear init x) s) ∧
      (∀ n, TurnedAway init s (exec (.ringEnable init n) s) ∧ TurnedAway init s (exec (.ringDisable init n) s)) ∧
      (∀ n, TurnedAway init s (exec (.ptpEnable init n) s) ∧ TurnedAway init s (exec (.ptpDisable init n) s)) ∧
      (∀ m, TurnedAway init s (exec (.fabPinjArm init m u) s)) ∧ (∀ r, TurnedAway init s (exec (.crcDataWrite init k r bytes) s)) ∧
      TurnedAway init s (exec (.fabPinjCancel init) s) ∧
      TurnedAway init s (exec (.footprintArm init) s) ∧
      TurnedAway init s (exec (.footprintDisarm init) s) ∧
      TurnedAway init s (exec (.corArm init) s) ∧
      TurnedAway init s (exec (.corDisarm init) s) ∧
      TurnedAway init s (exec (.corCanvasWrite init v) s) ∧
      TurnedAway init s (exec (.fadeArm init) s) ∧
      TurnedAway init s (exec (.fadeDisarm init) s) ∧
      TurnedAway init s (exec (.recRdSeqWrite init v) s) ∧
      TurnedAway init s (exec (.crcStart init k) s) ∧
      TurnedAway init s (exec (.crcSeedWrite init k v) s) ∧
      TurnedAway init s (exec (.snoopArm init k) s) ∧
      TurnedAway init s (exec (.dormantArm init) s) ∧
      TurnedAway init s (exec (.dormantDisarm init) s) ∧
      TurnedAway init s (exec (.wakeToneSend init p) s) ∧
      TurnedAway init s (exec (.warmReset init) s) ∧
      TurnedAway init s (exec (.coreRestart init) s) ∧
      (init ≠ .service → exec (.svcOpen init) s = .next s ∧ exec (.svcRenew init) s = .next s ∧
        exec (.svcClose init) s = .next s ∧ (∀ o c, exec (.svcData init o c) s = .next s) ∧ exec (.svcPrepare init) s = .next s ∧
        exec (.svcActivate init) s = .next s ∧ exec (.svcAbort init) s = .next s))

/-- TIME_NOW_READ and SERVICE_PORT_READ (R209, R439, R442, R447, R448): a read of TIME_NOW_NS, of a word or of 1 or 2
bytes in it, returns those bytes of the nanoseconds and latches the seconds and the fraction of the same instant,
and nothing else; a read of any other register returns the bytes of what it shows and changes nothing; where no
register stands it returns 0 and GEN_ACC_ERR takes the access when it holds none; one that crosses a word completes
over BAR0 with Completer Abort. The service port, with READ, returns the words from an address on, low byte first,
as many bytes as the controller takes; without it, zeros, with DENIED_SEEN set; an address that is not aligned is
NACKed and counted; another device's address, the general call and 10-bit addresses are not answered. An initiator
without access reads nothing (R444, R449). While the device is held in a warm reset, by a brown-out or a thermal
shutdown, reads answer 0 and change nothing (R446). The model's choice in this: that the 0 of a held device includes
the AON block and the row TIME_NOW_READ (log entry 139), and that the row's other addresses and widths stand for the
reads of which the table has no row (log entry 157). Completion, with what the next state holds, for: TIME_NOW_READ,
SERVICE_PORT_READ. -/
def Obligations.RegisterReads : Prop :=
  (∀ (s : State) (init : Initiator) (width : AccessWidth) (off n : Nat),
    deviceOn s →
    mayRead s.straps init s.dev = true →
    accessSpan TIME_NOW_NS width = some (off, n) →
    AnswersWith (exec (.timeNowRead init TIME_NOW_NS width) s) fun t =>
      Only [.out] [.word TIME_NOW_SL, .word TIME_NOW_SH] s t ∧
      t.dev.out = s.dev.out ++ [.readValue (((leBytes s.dev.time.clk.ns 4).drop off).take n)] ∧
      t.dev.get TIME_NOW_SL_S = s.dev.time.clk.sec % 2 ^ 32 ∧ t.dev.get TIME_NOW_SH_S = s.dev.time.clk.sec / 2 ^ 32 % 2 ^ 16 ∧
      t.dev.get TIME_NOW_SH_FRAC = s.dev.time.clk.frac % 2 ^ 16) ∧
  (∀ (s : State) (init : Initiator) (a : Nat) (width : AccessWidth) (off n : Nat),
    deviceOn s →
    mayRead s.straps init s.dev = true →
    a < 2 ^ 24 →
    a ≠ TIME_NOW_NS →
    accessSpan a width = some (off, n) →
    AnswersWith (exec (.timeNowRead init a width) s) fun t =>
      t.dev.out = s.dev.out ++ [.readValue (((leBytes (readWord s.straps a s.dev).toNat 4).drop off).take n)] ∧
      (if (regAt a).isSome then Only [.out] [] s t
       else
        readWord s.straps a s.dev = 0 ∧ Only [.out] [.word GEN_ACC_ERR] s t ∧
        (if s.dev.get GEN_ACC_ERR_VALID = 1 then t.dev.rd GEN_ACC_ERR = s.dev.rd GEN_ACC_ERR
         else t.dev.get GEN_ACC_ERR_VALID = 1 ∧ t.dev.get GEN_ACC_ERR_ADDR = a ∧ t.dev.get GEN_ACC_ERR_WRITE = 0 ∧
          t.dev.get GEN_ACC_ERR_INIT = initCode init ∧ t.dev.get GEN_ACC_ERR_NARROW = 0))) ∧
  (∀ (s : State) (init : Initiator) (a : Nat) (width : AccessWidth),
    deviceOn s →
    mayRead s.straps init s.dev = true →
    accessSpan (a % 2 ^ 24) width = none →
    AnswersWith (exec (.timeNowRead init a width) s) fun t =>
      if init = .bar0 then
        Only [.out, .host] [] s t ∧ t.dev.out = s.dev.out ++ [.completerAbort] ∧
        t.dev.host = { s.dev.host with pcie.caLogged := true }
      else t = s) ∧
  (∀ (s : State) (init : Initiator) (a : Nat) (width : AccessWidth) (off n : Nat),
    deviceOn s →
    mayRead s.straps init s.dev = false →
    accessSpan (a % 2 ^ 24) width = some (off, n) →
    AnswersWith (exec (.timeNowRead init a width) s) fun t =>
      (init ≠ .service → t = s) ∧
      (init = .service → Only [.out] [.field GEN_SVC_STAT_DENIED_SEEN] s t ∧ t.dev.get GEN_SVC_STAT_DENIED_SEEN = 1 ∧
        t.dev.out = s.dev.out ++ [.readValue (zeros n)])) ∧
  (∀ (s : State) (target : I2cTarget) (a b n : Nat),
    s.dev.boot.power = .brownOut ∨ s.dev.boot.power = .shutdown →
    Settled s →
    svcTargeted s.straps target = true →
    AnswersWith (exec (.servicePortRead target a n) s) (fun t => Only [.out] [] s t ∧ t.dev.out = s.dev.out ++ [.svcRead (zeros n)]) ∧
      AnswersWith (exec (.timeNowRead .service b .word) s) fun t =>
        if b % 4 = 0 then Only [.out] [] s t ∧ t.dev.out = s.dev.out ++ [.readValue (zeros 4)] else t = s) ∧
  (∀ (s : State) (init : Initiator) (target : I2cTarget) (a n : Nat) (width : AccessWidth),
    s.dev.boot.power = .off ∨ s.dev.boot.power = .dormant →
    exec (.timeNowRead init a width) s = .next s ∧ exec (.servicePortRead target a n) s = .next s) ∧
  (∀ (s : State) (target : I2cTarget) (a n : Nat) (data : List Byte),
    svcTargeted s.straps target = false →
    exec (.servicePortRead target a n) s = .next s ∧ exec (.servicePortWrite target a data) s = .next s) ∧
  (∀ (s : State) (k : Fin 128),
    svcTargeted s.straps (.seven k) = true ↔ k.val = 0x58 + s.straps.svcAddr.val) ∧
  (∀ (s : State) (target : I2cTarget) (a n : Nat),
    deviceOn s →
    svcTargeted s.straps target = true →
    a % 4 = 0 →
    a + (n + 3) / 4 * 4 ≤ 2 ^ 24 →
    natBit (s.dev.get SEC_PRIV_SVC_PERM) 0 = true →
    (∀ k < (n + 3) / 4, a + 4 * k ≠ TIME_NOW_NS ∧ (regAt (a + 4 * k)).isSome = true) →
    AnswersWith (exec (.servicePortRead target a n) s) fun t =>
      Only [.out] [] s t ∧
      t.dev.out = s.dev.out ++
        [.svcRead (((List.range ((n + 3) / 4)).flatMap fun k => leBytes (readWord s.straps (a + 4 * k) s.dev).toNat 4).take n)]) ∧
  (∀ (s : State) (target : I2cTarget) (a n : Nat),
    deviceOn s →
    svcTargeted s.straps target = true →
    a < 2 ^ 24 →
    a % 4 = 0 →
    n ≠ 0 →
    natBit (s.dev.get SEC_PRIV_SVC_PERM) 0 = false →
    AnswersWith (exec (.servicePortRead target a n) s) fun t =>
      Only [.out] [.field GEN_SVC_STAT_DENIED_SEEN] s t ∧ t.dev.get GEN_SVC_STAT_DENIED_SEEN = 1 ∧
      t.dev.out = s.dev.out ++ [.svcRead (zeros n)]) ∧
  (∀ (s : State) (target : I2cTarget) (a n : Nat),
    deviceOn s →
    svcTargeted s.straps target = true →
    a % 4 ≠ 0 →
    AnswersWith (exec (.servicePortRead target a n) s) (Nacked s))

/-- SERVICE_PORT_WRITE (R447, R448): one word to a register that has no behaviour of its own changes its fields as a
register write of the service port does, if WRITE_CFG is granted; a further word goes to the next address; without
WRITE_CFG the word is NACKed and nothing is written; a tile's write to mailbox 0 while it is full is NACKed with
FULL_SEEN; a word that is not sent whole is discarded, after the NACK of its first byte where it is refused; an
address that is not aligned is NACKed. Completion, with what the next state holds, for: SERVICE_PORT_WRITE. -/
def Obligations.ServicePortWrites : Prop :=
  (∀ (s : State) (target : I2cTarget) (a : Nat) (v : Word),
    deviceOn s →
    svcTargeted s.straps target = true →
    a < 2 ^ 24 →
    a % 4 = 0 →
    ordinary a = true →
    natBit (s.dev.get SEC_PRIV_SVC_PERM) 1 = true →
    exec (.servicePortWrite target a (leBytes v.toNat 4)) s = exec (.registerWrite .service a .word v) s) ∧
  (∀ (s : State) (target : I2cTarget) (a : Nat) (v : Word) (part : List Byte) (r : RegDesc) (f : FieldDesc),
    deviceOn s →
    svcTargeted s.straps target = true →
    a < 2 ^ 24 - 4 →
    a % 4 = 0 →
    ordinary a = true →
    ordinary (a + 4) = true →
    unusedAt s.straps a = false →
    natBit (s.dev.get SEC_PRIV_SVC_PERM) 1 = true →
    part.length < 4 →
    regAt a = some r →
    f ∈ r.fields →
    let n := fieldOf v f.lo f.width
    AnswersWith (exec (.servicePortWrite target a (leBytes v.toNat 4 ++ part)) s) fun t =>
      Only [] [.word a] s t ∧
      fieldOf (t.dev.rd a) f.lo f.width = fieldWritten f.acc
        (f.legal.isEmpty || f.legal.any fun x => decide (x.1 ≤ n) && decide (n ≤ x.2)) false (fieldOf (s.dev.rd a) f.lo f.width) n) ∧
  (∀ (s : State) (target : I2cTarget) (a : Nat) (v w : Word),
    deviceOn s →
    svcTargeted s.straps target = true →
    a < 2 ^ 24 - 4 →
    a % 4 = 0 →
    ordinary a = true →
    ordinary (a + 4) = true →
    natBit (s.dev.get SEC_PRIV_SVC_PERM) 1 = true →
    AnswersWith (exec (.servicePortWrite target a (leBytes v.toNat 4)) s) fun t =>
      exec (.servicePortWrite target a (leBytes v.toNat 4 ++ leBytes w.toNat 4)) s = exec (.registerWrite .service (a + 4) .word w) t) ∧
  (∀ (s : State) (target : I2cTarget) (a : Nat) (v : Word) (rest : List Byte),
    deviceOn s →
    svcTargeted s.straps target = true →
    a < 2 ^ 24 →
    a % 4 = 0 →
    ordinary a = true →
    natBit (s.dev.get SEC_PRIV_SVC_PERM) 1 = false →
    AnswersWith (exec (.servicePortWrite target a (leBytes v.toNat 4 ++ rest)) s) (Nacked s)) ∧
  (∀ (s : State) (target : I2cTarget) (v : Word),
    tileOn s →
    svcTargeted s.straps target = true →
    natBit (s.dev.get SEC_PRIV_SVC_PERM) 0 = true →
    s.dev.mbxFull 0 = true →
    AnswersWith (exec (.servicePortWrite target (MBX_DATA 0) (leBytes v.toNat 4)) s) fun t =>
      Only [.out] [.word GEN_SVC_STAT] s t ∧ t.dev.out = s.dev.out ++ [.svcNack] ∧ t.dev.get GEN_SVC_STAT_FULL_SEEN = 1 ∧
      t.dev.get GEN_SVC_STAT_NACKS = min (s.dev.get GEN_SVC_STAT_NACKS + 1) 0xFFFF) ∧
  (∀ (s : State) (target : I2cTarget) (a : Nat) (data : List Byte),
    deviceOn s →
    svcTargeted s.straps target = true →
    data.length < 4 →
    a < 2 ^ 24 →
    a % 4 = 0 →
    ordinary a = true →
    natBit (s.dev.get SEC_PRIV_SVC_PERM) 1 = true →
    exec (.servicePortWrite target a data) s = .next s) ∧
  (∀ (s : State) (target : I2cTarget) (a : Nat) (data : List Byte),
    deviceOn s →
    svcTargeted s.straps target = true →
    data ≠ [] →
    data.length < 4 →
    a < 2 ^ 24 →
    a % 4 = 0 →
    ordinary a = true →
    natBit (s.dev.get SEC_PRIV_SVC_PERM) 1 = false →
    AnswersWith (exec (.servicePortWrite target a data) s) (Nacked s)) ∧
  (∀ (s : State) (target : I2cTarget) (a : Nat) (data : List Byte),
    deviceOn s →
    svcTargeted s.straps target = true →
    a % 4 ≠ 0 →
    AnswersWith (exec (.servicePortWrite target a data) s) (Nacked s))

/-- POWER_ON_RESET and COLD_RESET (R397, R398, R400, R446) complete in every state whose power allows them: the straps
are those newly sampled, the cause is 0, 1 or 2, the device runs, both halves of the frame store are dark, the
mailboxes are empty, READY, DRIVE_EN and WDOG are 0, the eMRAM's objects and records are kept, GEN_RESET is recorded
with the cause, and a cold reset keeps every register of the AON block and what its domain holds. POWER_REMOVED
(R339) with no burst in progress keeps the eMRAM and leaves the device off and the straps alone. That GEN_RESET is
recorded at these two resets is the model's choice (log entry 61). Completion, with what the next state holds, for:
POWER_ON_RESET, COLD_RESET, POWER_REMOVED. -/
def Obligations.ResetsFromPower : Prop :=
  (∀ (s : State) (straps : Straps),
    AnswersWith (exec (.powerOnReset straps) s) fun t =>
      t.straps = straps ∧ t.pending = s.pending ∧ t.dev.boot.power = .awake ∧ frameStoreDark t.dev ∧
      objectsKept s.dev t.dev ∧ t.dev.get GEN_RST_CAUSE_CAUSE = 0 ∧ t.dev.get GEN_STAT_READY = 0 ∧
      t.dev.get GEN_CTRL_WDOG = 0 ∧ t.dev.get LDRV_CTRL_DRIVE_EN = 0 ∧ t.dev.get MBX_STAT_FULL = 0 ∧
      t.dev.get GEN_RST_CAUSE_WARM_CNT = 0 ∧ t.dev.host.descs = [] ∧ HasLogged EV_GEN_RESET 0 0 0 t) ∧
  (∀ (s : State) (pin : ColdPin) (straps : Straps),
    s.dev.boot.power ≠ .off →
    pin = .resetN ∨ s.dev.boot.power = .awake →
    AnswersWith (exec (.coldReset pin straps) s) fun t =>
      t.straps = straps ∧ t.pending = s.pending ∧ t.dev.boot.power = .awake ∧ frameStoreDark t.dev ∧
      objectsKept s.dev t.dev ∧ t.dev.get GEN_RST_CAUSE_CAUSE = (match pin with | .resetN => 1 | .pwrGood => 2) ∧
      t.dev.get GEN_STAT_READY = 0 ∧ t.dev.get LDRV_CTRL_DRIVE_EN = 0 ∧ t.dev.get MBX_STAT_FULL = 0 ∧
      aonKept s.dev t.dev ∧ t.dev.aon = { s.dev.aon with pwrGood := true } ∧ HasLogged EV_GEN_RESET (match pin with | .resetN => 1 | .pwrGood => 2) 0 0 t) ∧
  (∀ (s : State) (pin : ColdPin) (straps : Straps),
    s.dev.boot.power = .off ∨ (pin = .pwrGood ∧ s.dev.boot.power ≠ .awake) →
    exec (.coldReset pin straps) s = .next s) ∧
  (∀ (s : State),
    s.dev.boot.power ≠ .off →
    AnswersWith (exec (.powerRemoved none) s) fun t =>
      t.straps = s.straps ∧ t.pending = s.pending ∧ t.dev.boot.power = .off ∧
      t.dev.nvm = { s.dev.nvm with trusted := { s.dev.nvm.trusted with journal := t.dev.nvm.trusted.journal } } ∧
      (s.dev.nvm.trusted.journal = none → t.dev.nvm = s.dev.nvm) ∧
      objectsKept s.dev t.dev ∧ frameStoreDark t.dev ∧ t.dev.get MBX_STAT_FULL = 0 ∧ t.dev.get LDRV_CTRL_DRIVE_EN = 0)

/-- WARM_RESET from the trusted part, BROWN_OUT, BROWN_OUT_RELEASE and SHUTDOWN_RESTART (R10, R310, R389, R398 to R400):
straps and eMRAM objects are kept, so are RWS fields and the AON block; the cause is 4, 3, 3 and 5; the warm-reset
count goes up and stops at 0xFFFF; mailboxes are emptied, each that was full setting ABORTED; the frame store is
dark and READY, DRIVE_EN and WDOG are 0. A warm reset from another initiator does nothing (R9). A brown-out holds
the device; its release starts it; a shutdown's release waits for four cool rounds and 1 s. R399 gives the event of
a brown-out alone: GEN_RESET with cause 4 at a software warm reset is the model's choice (log entry 61). Completion,
with what the next state holds, for: WARM_RESET, BROWN_OUT, BROWN_OUT_RELEASE, SHUTDOWN_RESTART. -/
def Obligations.WarmResets : Prop :=
  (∀ (s : State),
    deviceOn s →
    AnswersWith (exec (.warmReset .nutcracker) s) fun t =>
      t.straps = s.straps ∧ t.pending = s.pending ∧ t.dev.boot.power = .awake ∧ frameStoreDark t.dev ∧
      objectsKept s.dev t.dev ∧ t.dev.get GEN_RST_CAUSE_CAUSE = 4 ∧
      t.dev.get GEN_RST_CAUSE_WARM_CNT = min (s.dev.get GEN_RST_CAUSE_WARM_CNT + 1) 0xFFFF ∧
      t.dev.get MBX_STAT_FULL = 0 ∧ t.dev.get MBX_STAT_ABORTED = s.dev.get MBX_STAT_FULL ∧ t.dev.get GEN_STAT_READY = 0 ∧
      t.dev.get LDRV_CTRL_DRIVE_EN = 0 ∧ t.dev.get GEN_CTRL_WDOG = 0 ∧
      t.dev.get TIME_STAT_TEPOCH = s.dev.get TIME_STAT_TEPOCH ∧ aonKept s.dev t.dev ∧
      HasLogged EV_GEN_RESET 4 0 0 t) ∧
  (∀ (s : State) (init : Initiator),
    deviceOn s →
    init ≠ .nutcracker →
    (init = .service → natBit (s.dev.get SEC_PRIV_SVC_PERM) 1 = true) →
    exec (.warmReset init) s = .next s ∧ exec (.coreRestart init) s = .next s) ∧
  (∀ (s : State),
    deviceOn s →
    AnswersWith (exec .brownOut s) fun t =>
      t.straps = s.straps ∧ t.pending = s.pending ∧ t.dev.boot.power = .brownOut ∧ frameStoreDark t.dev ∧
      (s.dev.nvm.trusted.journal = none → t.dev.nvm = s.dev.nvm) ∧ objectsKept s.dev t.dev ∧ t.dev.get GEN_RST_CAUSE_CAUSE = 3 ∧
      t.dev.get GEN_RST_CAUSE_WARM_CNT = min (s.dev.get GEN_RST_CAUSE_WARM_CNT + 1) 0xFFFF ∧
      t.dev.get MBX_STAT_ABORTED = s.dev.get MBX_STAT_FULL ∧ t.dev.get LDRV_CTRL_DRIVE_EN = 0) ∧
  (∀ (s : State),
    s.dev.boot.power = .brownOut →
    Settled s →
    AnswersWith (exec .brownOutRelease s) fun t =>
      t.straps = s.straps ∧ t.pending = s.pending ∧ t.dev.boot.power = .awake ∧ objectsKept s.dev t.dev ∧
      t.dev.get GEN_RST_CAUSE_CAUSE = 3 ∧ t.dev.tile = s.dev.tile ∧
      (s.dev.rcd.queue = [] → HasLogged EV_GEN_RESET 3 0 0 t)) ∧
  (∀ (s : State) (h : ShutSt),
    s.dev.boot.power = .shutdown →
    Settled s →
    s.dev.boot.shut = some h →
    4 ≤ h.coolRun →
    h.tick + 250000000 ≤ s.dev.time.clk.ticks →
    AnswersWith (exec .shutdownRestart s) fun t =>
      t.straps = s.straps ∧ t.pending = s.pending ∧ t.dev.boot.power = .awake ∧ objectsKept s.dev t.dev ∧
      t.dev.get GEN_RST_CAUSE_CAUSE = 5 ∧ t.dev.boot.shut = none ∧
      t.dev.boot.shutReport = some (h.entry / 1000000000 % 2 ^ 32, min ((s.dev.time.clk.ticks - h.tick) / 250000) (2 ^ 32 - 1),
        ofSigned 16 h.peak + 65536 * min h.lost 32 + 2 ^ 22 * (h.entry % 1000000000 / 1000000)))

/-- FIRMWARE_START and DEVICE_READY (R402, R403): firmware that runs and has not started yet starts once, in either
role, and keeps straps, eMRAM calibration, coefficient and safe-image slots, frame store and recorder slots.
DEVICE_READY completes in a tile that has started, is LOCKED and has accepted a source, and sets READY and DRIVE_EN;
in a sender that has started it sets READY and HIF_STAT.READY; GEN_READY is recorded. Firmware that does not run
does not start; after a restart of the cores alone, with no activation since, it changes nothing but the mark of
that restart (the model's choice, log entry 57). CORE_RESTART from the trusted part (R389, R398, R400) clears
mailboxes 0, 5 and 7 with ABORTED for each that was full, sets cause 9, and leaves everything else: frame store,
drive, ports, eMRAM; a calibration step in progress ends without a commit. A kick restarts the watchdog's period and
nothing else. When 10·WDOG ms pass without a kick the cores restart and GEN_WATCHDOG is recorded (R401); a third
firing within 60 s is a warm reset with cause 7. The GEN_RESET record of a core restart is the model's choice (log
entry 61). Completion, with what the next state holds, for: FIRMWARE_START, DEVICE_READY, CORE_RESTART,
WATCHDOG_KICK, WATCHDOG_EXPIRE. -/
def Obligations.StartUpAndWatchdog : Prop :=
  (∀ (s : State) (adc : List (List (List (Nat × Nat)))),
    deviceOn s →
    s.dev.boot.mcRunning = true →
    s.dev.boot.started = false →
    s.dev.nvm.trusted.migrateDue = false →
    AnswersWith (exec (.firmwareStart adc) s) fun t =>
      t.straps = s.straps ∧ t.pending = s.pending ∧ t.dev.boot.started = true ∧ t.dev.boot.power = .awake ∧
      t.dev.tile.front = s.dev.tile.front ∧ t.dev.nvm.coef = s.dev.nvm.coef ∧ t.dev.nvm.safe = s.dev.nvm.safe ∧
      t.dev.rcd.slots = s.dev.rcd.slots ∧
      (s.straps.role = .sender → t.dev.twin.en = t.dev.getb TWIN_CTRL_EN)) ∧
  (∀ (s : State) (adc : List (List (List (Nat × Nat)))),
    deviceOn s →
    s.dev.boot.mcRunning = true →
    s.dev.boot.started = true →
    s.dev.nvm.trusted.migrateDue = false →
    AnswersWith (exec (.firmwareStart adc) s) fun t =>
      Only [.boot] [] s t ∧ t.dev.boot = { s.dev.boot with restarted := false }) ∧
  (∀ (s : State) (adc : List (List (List (Nat × Nat)))),
    deviceOn s →
    s.dev.boot.mcRunning = false →
    exec (.firmwareStart adc) s = .next s) ∧
  (∀ (s : State),
    tileOn s →
    s.dev.boot.started = true →
    s.dev.boot.mcRunning = true →
    s.dev.get GEN_STAT_READY = 0 →
    s.dev.get TIME_STAT_STATE = 1 →
    s.dev.tile.accepted.isSome = true →
    AnswersWith (exec .deviceReady s) fun t =>
      OnlyLogging [] [.field GEN_STAT_READY, .field LDRV_CTRL_DRIVE_EN] s t ∧ t.dev.get GEN_STAT_READY = 1 ∧
      t.dev.get LDRV_CTRL_DRIVE_EN = 1 ∧ Logs [(EV_GEN_READY.code, 0, 0, 0)] s t) ∧
  (∀ (s : State),
    senderOn s →
    s.dev.boot.started = true →
    s.dev.boot.mcRunning = true →
    s.dev.get GEN_STAT_READY = 0 →
    AnswersWith (exec .deviceReady s) fun t =>
      OnlyLogging [.twin] [.field GEN_STAT_READY, .field HIF_STAT_READY] s t ∧ t.dev.get GEN_STAT_READY = 1 ∧
      t.dev.get HIF_STAT_READY = 1 ∧ Logs [(EV_GEN_READY.code, 0, 0, 0)] s t) ∧
  (∀ (s : State) (c : CalStep),
    tileOn s →
    s.dev.get MBX_STAT_FULL = 0 →
    s.dev.cal.step = some c →
    c.waiter = none →
    AnswersWith (exec (.coreRestart .nutcracker) s) fun t =>
      OnlyLogging [.boot, .mbx, .cal, .free] [.field GEN_RST_CAUSE_CAUSE, .field MBX_STAT_FULL, .word (MBX_DATA 0), .word (MBX_DATA 5),
        .word (MBX_DATA 7), .word CAL_STAT] s t ∧
      t.dev.cal = { s.dev.cal with step := none } ∧ t.dev.get CAL_STAT_BUSY = 0) ∧
  (∀ (s : State),
    tileOn s →
    s.dev.cal.step = none →
    s.dev.get MBX_STAT_FULL = 0 →
    AnswersWith (exec (.coreRestart .nutcracker) s) fun t =>
      OnlyLogging [.boot, .mbx] [.field GEN_RST_CAUSE_CAUSE, .field MBX_STAT_FULL, .word (MBX_DATA 0), .word (MBX_DATA 5),
        .word (MBX_DATA 7)] s t ∧
      t.dev.get GEN_RST_CAUSE_CAUSE = 9 ∧ t.dev.get (MBX_DATA_WORD 0) = 0 ∧ t.dev.get (MBX_DATA_WORD 5) = 0 ∧
      t.dev.boot.power = .awake) ∧
  (∀ (s : State),
    tileOn s →
    s.dev.cal.step = none →
    s.dev.get MBX_STAT_FULL = 0x3F →
    AnswersWith (exec (.coreRestart .nutcracker) s) fun t =>
      OnlyLogging [.boot, .mbx, .out] [.field GEN_RST_CAUSE_CAUSE, .field MBX_STAT_FULL, .field MBX_STAT_ABORTED, .word (MBX_DATA 0),
        .word (MBX_DATA 5), .word (MBX_DATA 7)] s t ∧
      t.dev.get MBX_STAT_FULL = 0x1E ∧ natBit (t.dev.get MBX_STAT_ABORTED) 0 = true ∧ natBit (t.dev.get MBX_STAT_ABORTED) 5 = true) ∧
  (∀ (s : State) (init : Initiator),
    deviceOn s →
    mayWrite s.straps init s.dev = true →
    AnswersWith (exec (.watchdogKick init) s) fun t =>
      Only [.boot] [] s t ∧ t.dev.boot = { s.dev.boot with kickAt := s.dev.time.clk.ticks }) ∧
  (∀ (s : State),
    tileOn s →
    s.dev.cal.step = none →
    s.dev.get MBX_STAT_FULL = 0 →
    s.dev.get GEN_CTRL_WDOG ≠ 0 →
    s.dev.boot.kickAt + 2500000 * s.dev.get GEN_CTRL_WDOG ≤ s.dev.time.clk.ticks →
    s.dev.boot.firings = [] →
    AnswersWith (exec .watchdogExpire s) fun t =>
      OnlyLogging [.boot, .mbx] [.field GEN_RST_CAUSE_CAUSE, .field MBX_STAT_FULL, .word (MBX_DATA 0), .word (MBX_DATA 5),
        .word (MBX_DATA 7)] s t ∧
      t.dev.get GEN_RST_CAUSE_CAUSE = 9 ∧ t.dev.boot.firings = [s.dev.time.clk.ticks] ∧
      t.dev.boot.kickAt = s.dev.time.clk.ticks ∧
      Logs [(EV_GEN_RESET.code, 9, 0, 0), (EV_GEN_WATCHDOG.code, 0, 0, 0)] s t) ∧
  (∀ (s : State) (a b : Nat),
    deviceOn s →
    s.dev.get GEN_CTRL_WDOG ≠ 0 →
    s.dev.boot.kickAt + 2500000 * s.dev.get GEN_CTRL_WDOG ≤ s.dev.time.clk.ticks →
    s.dev.boot.firings = [a, b] →
    s.dev.time.clk.ticks < a + 15000000000 →
    s.dev.time.clk.ticks < b + 15000000000 →
    AnswersWith (exec .watchdogExpire s) fun t =>
      t.straps = s.straps ∧ t.pending = s.pending ∧ t.dev.get GEN_RST_CAUSE_CAUSE = 7 ∧ frameStoreDark t.dev ∧
      objectsKept s.dev t.dev ∧ t.dev.boot.firings = []) ∧
  (∀ (s : State),
    deviceOn s →
    s.dev.get GEN_CTRL_WDOG = 0 →
    exec .watchdogExpire s = .next s)

/-- DORMANT_ARM (R408): with a wake source enabled, nothing armed, running or leased, and at least 50 ms of notice, PEND
is set and nothing else; each reason 1, 2, 3 and 5, and 4 for short notice, is set in REFUSE and PEND stays.
DORMANT_ENTRY (R408, R409): at AT the device turns off with PEND clear, DRIVE_EN clear, the AON clock loaded from
the wall clock with phase 0 (R406), eMRAM objects kept and the taps and every RWS field outside the AON block stored
(R405); with a reason at AT it clears PEND, records AON_DORM_REFUSED and stays awake. The model's choices in this:
which of several reasons REFUSE shows (1, 2, 3, then 4, then 5), and that it also shows the reason at AT (log entry
58). Completion, with what the next state holds, for: DORMANT_ARM, DORMANT_ENTRY. -/
def Obligations.DormantArmAndEntry : Prop :=
  (∀ (s : State) (init : Initiator),
    deviceOn s →
    mayWrite s.straps init s.dev = true →
    s.dev.nvm.trusted.armed = none →
    s.dev.sec.lease = none →
    s.dev.cal.step = none →
    s.dev.get CMP_FP_ARM_PEND = 0 →
    s.dev.get COR_STAT_PEND = 0 →
    s.dev.get GRY_FADE_ARM_PEND = 0 →
    s.dev.get GRY_FADE_ARM_RUN = 0 →
    s.dev.get AON_CTRL_WAKEN_EN = 1 ∨ s.dev.get AON_CTRL_JACK_EN = 1 ∨ s.dev.get AON_CTRL_ALARM_EN = 1 →
    s.dev.now + 50000000 ≤ s.dev.dormAt →
    AnswersWith (exec (.dormantArm init) s) fun t => Only [] [.field AON_DORM_ARM_PEND] s t ∧ t.dev.get AON_DORM_ARM_PEND = 1) ∧
  (∀ (s : State) (init : Initiator),
    deviceOn s →
    mayWrite s.straps init s.dev = true →
    s.dev.nvm.trusted.armed.isSome = true ∨ s.dev.leaseOf.isSome = true →
    AnswersWith (exec (.dormantArm init) s) fun t =>
      Only [] [.field AON_DORM_ARM_REFUSE] s t ∧ t.dev.get AON_DORM_ARM_REFUSE = 1) ∧
  (∀ (s : State) (init : Initiator),
    deviceOn s →
    mayWrite s.straps init s.dev = true →
    s.dev.nvm.trusted.armed = none →
    s.dev.leaseOf = none →
    s.dev.cal.step.isSome = true →
    AnswersWith (exec (.dormantArm init) s) fun t =>
      Only [] [.field AON_DORM_ARM_REFUSE] s t ∧ t.dev.get AON_DORM_ARM_REFUSE = 2) ∧
  (∀ (s : State) (init : Initiator),
    deviceOn s →
    mayWrite s.straps init s.dev = true →
    s.dev.nvm.trusted.armed = none →
    s.dev.leaseOf = none →
    s.dev.cal.step = none →
    s.dev.get CMP_FP_ARM_PEND = 1 ∨ s.dev.get COR_STAT_PEND = 1 ∨ s.dev.get GRY_FADE_ARM_PEND = 1 ∨ s.dev.get GRY_FADE_ARM_RUN = 1 →
    AnswersWith (exec (.dormantArm init) s) fun t =>
      Only [] [.field AON_DORM_ARM_REFUSE] s t ∧ t.dev.get AON_DORM_ARM_REFUSE = 3) ∧
  (∀ (s : State) (init : Initiator),
    deviceOn s →
    mayWrite s.straps init s.dev = true →
    s.dev.nvm.trusted.armed = none →
    s.dev.leaseOf = none →
    s.dev.cal.step = none →
    s.dev.get CMP_FP_ARM_PEND = 0 →
    s.dev.get COR_STAT_PEND = 0 →
    s.dev.get GRY_FADE_ARM_PEND = 0 →
    s.dev.get GRY_FADE_ARM_RUN = 0 →
    s.dev.dormAt < s.dev.now + 50000000 →
    AnswersWith (exec (.dormantArm init) s) fun t =>
      Only [] [.field AON_DORM_ARM_REFUSE] s t ∧ t.dev.get AON_DORM_ARM_REFUSE = 4) ∧
  (∀ (s : State) (init : Initiator),
    deviceOn s →
    mayWrite s.straps init s.dev = true →
    s.dev.nvm.trusted.armed = none →
    s.dev.leaseOf = none →
    s.dev.cal.step = none →
    s.dev.get CMP_FP_ARM_PEND = 0 →
    s.dev.get COR_STAT_PEND = 0 →
    s.dev.get GRY_FADE_ARM_PEND = 0 →
    s.dev.get GRY_FADE_ARM_RUN = 0 →
    s.dev.now + 50000000 ≤ s.dev.dormAt →
    s.dev.get AON_CTRL_WAKEN_EN = 0 →
    s.dev.get AON_CTRL_JACK_EN = 0 →
    s.dev.get AON_CTRL_ALARM_EN = 0 →
    AnswersWith (exec (.dormantArm init) s) fun t =>
      Only [] [.field AON_DORM_ARM_REFUSE] s t ∧ t.dev.get AON_DORM_ARM_REFUSE = 5) ∧
  (∀ (s : State),
    deviceOn s →
    s.dev.get AON_DORM_ARM_PEND = 1 →
    s.dev.dormAt ≤ s.dev.now →
    s.dev.dormReason = 0 →
    AnswersWith (exec .dormantEntry s) fun t =>
      t.straps = s.straps ∧ t.pending = s.pending ∧ t.dev.boot.power = .dormant ∧ t.dev.get AON_DORM_ARM_PEND = 0 ∧
      t.dev.get LDRV_CTRL_DRIVE_EN = 0 ∧ frameStoreDark t.dev ∧ t.dev.aon.s = s.dev.time.clk.sec ∧
      t.dev.aon.ns = s.dev.time.clk.ns ∧ t.dev.aon.ph = 0 ∧ t.dev.aon.wake = 0 ∧
      t.dev.aon.keptTaps = keptTaps s.dev ∧ t.dev.nvm.cal = s.dev.nvm.cal ∧ t.dev.nvm.coef = s.dev.nvm.coef ∧
      t.dev.nvm.settings = s.dev.nvm.settings ∧ t.dev.nvm.safe = s.dev.nvm.safe ∧
      t.dev.get AON_ALARM_NS_NS = s.dev.get AON_ALARM_NS_NS) ∧
  (∀ (s : State) (a : Nat) (r : RegDesc) (f : FieldDesc),
    deviceOn s →
    s.dev.get AON_DORM_ARM_PEND = 1 →
    s.dev.dormAt ≤ s.dev.now →
    s.dev.dormReason = 0 →
    regAt a = some r →
    inAon a = false →
    f ∈ r.fields →
    f.acc = .rws →
    AnswersWith (exec .dormantEntry s) fun t =>
      fieldOf (Cells.read regReset t.dev.aon.keptRegs a) f.lo f.width = fieldOf (s.dev.rd a) f.lo f.width) ∧
  (∀ (s : State),
    deviceOn s →
    s.dev.get AON_DORM_ARM_PEND = 1 →
    s.dev.dormAt ≤ s.dev.now →
    s.dev.dormReason ≠ 0 →
    AnswersWith (exec .dormantEntry s) fun t =>
      OnlyLogging [] [.field AON_DORM_ARM_PEND, .field AON_DORM_ARM_REFUSE] s t ∧ t.dev.get AON_DORM_ARM_PEND = 0 ∧
      t.dev.get AON_DORM_ARM_REFUSE = s.dev.dormReason ∧ Logs [(EV_AON_DORM_REFUSED.code, s.dev.dormReason, 0, 0)] s t) ∧
  (∀ (s : State),
    deviceOn s →
    s.dev.get AON_DORM_ARM_PEND = 0 ∨ s.dev.now < s.dev.dormAt →
    exec .dormantEntry s = .next s)

/-- DORMANT_EXIT (R405 to R407, R412, R414): a dormant device with a latched wake, no over-temperature and its supplies
present runs again: the wall clock takes the AON clock's seconds and nanoseconds, SRC is the latched wake, SECONDS
the dormant duration, the reset cause 8, and AON_WAKE and GEN_RESET are recorded. While a condition defers the wake,
or no wake is latched, nothing happens. The order of the bits of AON_WAKE's P2 is the model's choice (log entry
125). Completion, with what the next state holds, for: DORMANT_EXIT. -/
def Obligations.DormantExit : Prop :=
  (∀ (s : State),
    s.dev.boot.power = .dormant →
    Settled s →
    s.dev.rcd.queue = [] →
    s.dev.aon.wake = 1 ∨ s.dev.aon.wake = 2 ∨ s.dev.aon.wake = 4 ∨ s.dev.aon.wake = 6 →
    s.dev.aon.vcore = true →
    s.dev.aon.vdrv = true →
    s.dev.aon.pwrGood = true →
    s.dev.get AON_STAT_OTEMP = 0 →
    s.dev.aon.enteredAt ≤ s.dev.aon.s →
    s.dev.aon.s < 2 ^ 32 →
    let slept := s.dev.aon.s - s.dev.aon.enteredAt
    AnswersWith (exec .dormantExit s) fun t =>
      t.straps = s.straps ∧ t.pending = s.pending ∧ t.dev.boot.power = .awake ∧ t.dev.time.clk.sec = s.dev.aon.s ∧
      t.dev.time.clk.ns = s.dev.aon.ns ∧ t.dev.get GEN_RST_CAUSE_CAUSE = 8 ∧ t.dev.get AON_STAT_SRC = s.dev.aon.wake ∧
      t.dev.get AON_DUR_SECONDS = slept ∧ t.dev.aon.wake = 0 ∧ HasLogged EV_GEN_RESET 8 0 0 t ∧
      HasLogged EV_AON_WAKE s.dev.aon.wake slept
        (s.dev.get AON_STAT_VLED_LOST * 8 + s.dev.get AON_STAT_VDRV_LOST * 4 + s.dev.get AON_STAT_VCORE_LOST * 2 +
          s.dev.get AON_STAT_OTEMP_SEEN) t) ∧
  (∀ (s : State),
    s.dev.boot.power = .dormant →
    s.dev.aon.wake = 0 ∨ s.dev.aon.vcore = false ∨ s.dev.aon.pwrGood = false ∨ s.dev.get AON_STAT_OTEMP = 1 ∨
      (s.straps.role = .tile ∧ s.dev.aon.vdrv = false) →
    exec .dormantExit s = .next s)

/-- R406, R407, R411 and R465, each with its frame: WAKE_N_ASSERT latches wake bit 0 where enabled, JACK_TONE_DETECT bit
1 and starts the repeater's tone on port B, JACK_TONE_END stops it, AON_ALARM latches bit 2 and clears ALARM_EN, the
over-temperature comparator sets and clears OTEMP and leaves OTEMP_SEEN set, the loss of a supply in dormancy
latches its flag and what is present is followed in every power state, AON_CLOCK_TICK adds 30,517 ns and 37/64 ns,
and XTAL_OK_CHANGE shows the crystal. The tone is runs of +3 and −3 of 5,440 symbols at FULL, 2,720 at HALF. That
GEN_STAT.WAKE follows the pin at the row and at each tick is the model's choice (log entries 18 and 134).
WAKE_TONE_SEND (R411): a sender sends the tone on each named port outside LS0 and LS1; after 1 ms WAKE_TONE_END
stops it, and a port that was idle stays as it is. BKUP_N_EDGE and MOTION_N_EDGE (R415): the pin's state shows in
GEN_STAT, its SEEN bit is set and the edge is recorded with the new level in P0; nothing else changes. That P0 is
the level, and that in a device that does not run the pin's state alone follows it without a record, is the model's
choice (log entries 23 and 60). Completion, with what the next state holds, for: WAKE_N_ASSERT, JACK_TONE_DETECT,
JACK_TONE_END, AON_ALARM, DORMANT_OVERTEMP, AON_SUPPLY_CHANGE, AON_CLOCK_TICK, XTAL_OK_CHANGE, WAKE_TONE_SEND,
WAKE_TONE_END, BKUP_N_EDGE, MOTION_N_EDGE. -/
def Obligations.WakeInputsAndPins : Prop :=
  (∀ (s : State),
    s.dev.boot.power = .dormant →
    Settled s →
    s.dev.get AON_CTRL_WAKEN_EN = 1 →
    AnswersWith (exec .wakeNAssert s) fun t =>
      Only [.aon] [.field GEN_STAT_WAKE] s t ∧ natBit t.dev.aon.wake 0 = true ∧
      t.dev.aon = { s.dev.aon with wake := t.dev.aon.wake } ∧ t.dev.get GEN_STAT_WAKE = 1) ∧
  (∀ (s : State),
    s.dev.boot.power ≠ .dormant ∨ s.dev.get AON_CTRL_WAKEN_EN = 0 →
    Settled s →
    AnswersWith (exec .wakeNAssert s) fun t => Only [] [.field GEN_STAT_WAKE] s t ∧ t.dev.get GEN_STAT_WAKE = 1) ∧
  (∀ (s : State),
    s.straps.role = .tile →
    s.dev.boot.power = .dormant →
    Settled s →
    s.dev.get AON_CTRL_JACK_EN = 1 →
    s.dev.get AON_CTRL_RPT_EN = 1 →
    s.dev.aon.repeating = false →
    AnswersWith (exec .jackToneDetect s) fun t =>
      Only [.aon, .out] [] s t ∧ natBit t.dev.aon.wake 1 = true ∧
      t.dev.aon = { s.dev.aon with wake := t.dev.aon.wake, repeating := true } ∧ t.dev.out = s.dev.out ++ [.tone 1 (if s.dev.keptRate = 0 then [(3, 5440), (-3, 5440)] else [(3, 2720), (-3, 2720)])]) ∧
  (∀ (s : State),
    Settled s →
    s.dev.aon.repeating = true →
    AnswersWith (exec .jackToneEnd s) fun t =>
      Only [.aon, .out] [] s t ∧ t.dev.aon = { s.dev.aon with repeating := false } ∧ t.dev.out = s.dev.out ++ [.tone 1 []]) ∧
  (∀ (s : State),
    s.dev.boot.power = .dormant →
    Settled s →
    s.dev.get AON_CTRL_ALARM_EN = 1 →
    s.dev.alarmAt ≤ s.dev.aon.s * 1000000000 + s.dev.aon.ns →
    AnswersWith (exec .aonAlarm s) fun t =>
      Only [.aon] [.field AON_CTRL_ALARM_EN] s t ∧ natBit t.dev.aon.wake 2 = true ∧ t.dev.get AON_CTRL_ALARM_EN = 0 ∧
      t.dev.aon = { s.dev.aon with wake := t.dev.aon.wake }) ∧
  (∀ (s : State) (hot : Bool),
    s.dev.boot.power = .dormant →
    Settled s →
    AnswersWith (exec (.dormantOvertemp hot) s) fun t =>
      Only [.out] [.field AON_STAT_OTEMP, .field AON_STAT_OTEMP_SEEN] s t ∧ t.dev.get AON_STAT_OTEMP = b2n hot ∧
      t.dev.get AON_STAT_OTEMP_SEEN = (if hot = true then 1 else s.dev.get AON_STAT_OTEMP_SEEN)) ∧
  (∀ (s : State),
    s.dev.boot.power ≠ .dormant →
    s.dev.boot.power ≠ .off →
    Settled s →
    AnswersWith (exec (.dormantOvertemp false) s) fun t => Only [.out] [.field AON_STAT_OTEMP] s t ∧ t.dev.get AON_STAT_OTEMP = 0) ∧
  (∀ (s : State) (supply : AonSupply) (present : Bool),
    s.dev.boot.power ≠ .dormant →
    s.dev.boot.power ≠ .off →
    Settled s →
    AnswersWith (exec (.aonSupplyChange supply present) s) fun t =>
      Only [.aon] [.field GEN_STAT_PWR_GOOD] s t ∧
      (supply = .vcore → t.dev.aon = { s.dev.aon with vcore := present }) ∧
      (supply = .vdrv → s.straps.role = .tile → t.dev.aon = { s.dev.aon with vdrv := present }) ∧
      (supply = .vled → t.dev.aon = { s.dev.aon with vled := present }) ∧
      (supply = .pwrGood → t.dev.aon = { s.dev.aon with pwrGood := present } ∧ t.dev.get GEN_STAT_PWR_GOOD = b2n present)) ∧
  (∀ (s : State) (present : Bool),
    s.dev.boot.power = .dormant →
    Settled s →
    AnswersWith (exec (.aonSupplyChange .vcore present) s) fun t =>
      Only [.aon] [.field AON_STAT_VCORE_LOST] s t ∧ t.dev.aon = { s.dev.aon with vcore := present } ∧
      t.dev.get AON_STAT_VCORE_LOST = (if present = true then s.dev.get AON_STAT_VCORE_LOST else 1)) ∧
  (∀ (s : State) (present : Bool),
    s.dev.boot.power = .dormant →
    Settled s →
    AnswersWith (exec (.aonSupplyChange .vled present) s) fun t =>
      Only [.aon] [.field AON_STAT_VLED_LOST] s t ∧ t.dev.aon = { s.dev.aon with vled := present } ∧
      t.dev.get AON_STAT_VLED_LOST = (if present = true then s.dev.get AON_STAT_VLED_LOST else 1)) ∧
  (∀ (s : State) (present : Bool),
    s.dev.boot.power = .dormant →
    Settled s →
    s.straps.role = .tile →
    AnswersWith (exec (.aonSupplyChange .vdrv present) s) fun t =>
      Only [.aon] [.field AON_STAT_VDRV_LOST] s t ∧ t.dev.aon = { s.dev.aon with vdrv := present } ∧
      t.dev.get AON_STAT_VDRV_LOST = (if present = true then s.dev.get AON_STAT_VDRV_LOST else 1)) ∧
  (∀ (s : State),
    s.dev.boot.power ≠ .off →
    Settled s →
    AnswersWith (exec .aonClockTick s) fun t =>
      Only [.aon] [] s t ∧ t.dev.aon = { s.dev.aon with s := t.dev.aon.s, ns := t.dev.aon.ns, ph := t.dev.aon.ph } ∧
      (s.dev.aon.s + 1 < 2 ^ 48 → s.dev.aon.ph < 64 →
        (t.dev.aon.s * 1000000000 + t.dev.aon.ns) * 64 + t.dev.aon.ph =
          (s.dev.aon.s * 1000000000 + s.dev.aon.ns) * 64 + s.dev.aon.ph + 30517 * 64 + 37)) ∧
  (∀ (s : State) (ok : Bool),
    s.dev.boot.power ≠ .off →
    Settled s →
    AnswersWith (exec (.xtalOkChange ok) s) fun t =>
      Only [] [.field AON_STAT_XTAL_OK] s t ∧ t.dev.get AON_STAT_XTAL_OK = b2n ok) ∧
  (∀ (s : State) (init : Initiator) (x : Fin 4),
    senderOn s →
    mayWrite s.straps init s.dev = true →
    s.dev.get (LANE_STAT_STATE x) ≠ P_LS0 →
    s.dev.get (LANE_STAT_STATE x) ≠ P_LS1 →
    let ports := BitVec.ofNat 4 (2 ^ (x : Nat))
    AnswersWith (exec (.wakeToneSend init ports) s) fun t =>
      Only [.ports, .out] [] s t ∧ t.dev.out = s.dev.out ++ [.tone x (if (s.dev.port x).rate = 0 then [(3, 5440), (-3, 5440)] else [(3, 2720), (-3, 2720)])] ∧
      t.dev.ports = s.dev.ports.modify x fun p => { p with toneSince := some s.dev.time.clk.ticks }) ∧
  (∀ (s : State),
    senderOn s →
    s.dev.ports.map PortSt.toneSince = [some 0, none, none, none] →
    250000 ≤ s.dev.time.clk.ticks →
    s.dev.get (LANE_STAT_STATE 0) = P_DOWN →
    AnswersWith (exec .wakeToneEnd s) fun t =>
      Only [.ports, .out] [] s t ∧ t.dev.out = s.dev.out ++ [.tone 0 []] ∧
      t.dev.ports = s.dev.ports.modify 0 fun p => { p with toneSince := none }) ∧
  (∀ (s : State) (low : Bool),
    deviceOn s →
    AnswersWith (exec (.bkupNEdge low) s) fun t =>
      OnlyLogging [] [.field GEN_STAT_BKUP, .field GEN_STAT_BKUP_SEEN] s t ∧ t.dev.get GEN_STAT_BKUP = b2n low ∧
      t.dev.get GEN_STAT_BKUP_SEEN = 1 ∧ Logs [(EV_GEN_BKUP.code, b2n (!low), 0, 0)] s t) ∧
  (∀ (s : State) (low : Bool),
    deviceOn s →
    AnswersWith (exec (.motionNEdge low) s) fun t =>
      OnlyLogging [] [.field GEN_STAT_MOTION, .field GEN_STAT_MOTION_SEEN] s t ∧ t.dev.get GEN_STAT_MOTION = b2n low ∧
      t.dev.get GEN_STAT_MOTION_SEEN = 1 ∧ Logs [(EV_GEN_MOTION.code, b2n (!low), 0, 0)] s t) ∧
  (∀ (s : State) (low : Bool),
    s.dev.boot.power ≠ .awake →
    Settled s →
    AnswersWith (exec (.bkupNEdge low) s) fun t =>
      Only [] [.field GEN_STAT_BKUP] s t ∧ t.dev.get GEN_STAT_BKUP = b2n low) ∧
  (∀ (s : State) (low : Bool),
    s.dev.boot.power ≠ .awake →
    Settled s →
    AnswersWith (exec (.motionNEdge low) s) fun t =>
      Only [] [.field GEN_STAT_MOTION] s t ∧ t.dev.get GEN_STAT_MOTION = b2n low)

/-- PERST_DEASSERT starts link training with the function's registers and MSI-X table at reset; PCIE_LINK_UP shows the
negotiated generation and width, PCIE_LINK_DOWN shows 0 (R84, R85), and neither changes anything else. A write of
the command register, in configuration space, sets Memory Space and Bus Master Enable, one of the AER status clears
a logged Completer Abort (R47, R49); a write through BAR2 fills a vector's table entry (R48). FUNCTION_LEVEL_RESET
and D3HOT_ENTRY (R51, R389): every field of the HIF and RING blocks returns to Reset but for READY, LINK_GEN,
LINK_WIDTH and the flip registers, no descriptor stays in flight and no completion waits, accepted flips stay,
mailboxes 1 and 3 are emptied and the host's own words stay, and the ports, the clock and the eMRAM are untouched; a
Function Level Reset also clears the function's registers, AER's log apart, and its MSI-X table, D3hot shows the
power state. The model's choices in this: the places of the command register, the AER status and the function's
other registers (log entry 104), the vector masks after a reset (log entry 91) and the layout of configuration space
(log entry 90). Completion, with what the next state holds, for: PERST_DEASSERT, REGISTER_WRITE, PCIE_LINK_UP,
PCIE_LINK_DOWN, FUNCTION_LEVEL_RESET, D3HOT_ENTRY. -/
def Obligations.PcieFunction : Prop :=
  (∀ (s : State),
    senderOn s →
    AnswersWith (exec .perstDeassert s) fun t =>
      Only [.host, .mbx, .out] [] s t ∧ t.dev.out = s.dev.out ++ [.linkTraining] ∧
      t.dev.mbx = { s.dev.mbx with vsecAborted := 0, vsecCross := 0 } ∧
      t.dev.host = { s.dev.host with
        training := true, pcie := PcieSt.init, vecMask := List.replicate 64 true, pba := List.replicate 64 false }) ∧
  (∀ (s : State) (v : Word),
    senderOn s →
    s.dev.host.linkUp = true →
    AnswersWith (exec (.registerWrite .config 4 .word v) s) fun t =>
      Only [.host] [] s t ∧ t.dev.host = { s.dev.host with pcie := { s.dev.host.pcie with
        memEn := v.getLsbD 1, busEn := v.getLsbD 2 } }) ∧
  (∀ (s : State) (v : Word),
    senderOn s →
    s.dev.host.linkUp = true →
    AnswersWith (exec (.registerWrite .config 0x104 .word v) s) fun t =>
      Only [.host] [] s t ∧ t.dev.host = { s.dev.host with pcie := { s.dev.host.pcie with
        caLogged := s.dev.host.pcie.caLogged && !v.getLsbD 15 } }) ∧
  (∀ (s : State) (n : Fin 64) (v : Word),
    senderOn s →
    s.dev.host.linkUp = true →
    s.dev.host.pcie.memEn = true →
    s.dev.host.pcie.d3hot = false →
    AnswersWith (exec (.registerWrite .bar2 (16 * n + 8) .word v) s) fun t =>
      Only [.host] [] s t ∧ t.dev.host = { s.dev.host with pcie := { s.dev.host.pcie with
        table := s.dev.host.pcie.table.modify n fun e => (e.1, v.toNat) } }) ∧
  (∀ (s : State) (n : Fin 64) (v : Word),
    senderOn s →
    s.dev.host.linkUp = true →
    s.dev.host.pcie.memEn = true →
    s.dev.host.pcie.d3hot = false →
    v.getLsbD 0 = true →
    AnswersWith (exec (.registerWrite .bar2 (16 * n + 12) .word v) s) fun t =>
      Only [.host] [] s t ∧ t.dev.host = { s.dev.host with vecMask := setAt s.dev.host.vecMask n true }) ∧
  (∀ (s : State) (gen width : Nat),
    senderOn s →
    1 ≤ gen →
    gen ≤ 5 →
    width = 1 ∨ width = 2 ∨ width = 4 ∨ width = 8 →
    AnswersWith (exec (.pcieLinkUp gen width) s) fun t =>
      Only [.host] [.field HIF_STAT_LINK_GEN, .field HIF_STAT_LINK_WIDTH] s t ∧ t.dev.get HIF_STAT_LINK_GEN = gen ∧
      t.dev.get HIF_STAT_LINK_WIDTH = width ∧ t.dev.host = { s.dev.host with training := false, linkUp := true }) ∧
  (∀ (s : State),
    senderOn s →
    AnswersWith (exec .pcieLinkDown s) fun t =>
      Only [.host] [.field HIF_STAT_LINK_GEN, .field HIF_STAT_LINK_WIDTH] s t ∧ t.dev.get HIF_STAT_LINK_GEN = 0 ∧
      t.dev.get HIF_STAT_LINK_WIDTH = 0 ∧ t.dev.host = { s.dev.host with linkUp := false }) ∧
  (∀ (s : State) (n : Fin 5) (m : Fin 8),
    senderOn s →
    AnswersWith (exec .functionLevelReset s) fun t =>
      Only [.host, .mbx, .time, .twin, .cal, .sec, .queue, .out] [.block 0x01, .block 0x02, .word MBX_STAT, .word (MBX_DATA 1), .word (MBX_DATA 3)] s t ∧
      t.dev.host.descs = [] ∧ t.dev.host.cpls = [] ∧ t.dev.host.queue.length = s.dev.host.queue.length ∧
      t.dev.host.flying.length = s.dev.host.flying.length ∧ t.dev.host.linkUp = s.dev.host.linkUp ∧
      t.dev.get (RING_CFG_EN n) = 0 ∧ t.dev.get (RING_IDX_INDEX n) = 0 ∧ t.dev.get HIF_CTRL_EN = 0 ∧
      t.dev.get HIF_STAT_READY = s.dev.get HIF_STAT_READY ∧ t.dev.get HIF_STAT_LINK_GEN = s.dev.get HIF_STAT_LINK_GEN ∧
      t.dev.rd RING_FLIP_ACC = s.dev.rd RING_FLIP_ACC ∧ t.dev.rd RING_FLIP_HELD = s.dev.rd RING_FLIP_HELD ∧
      t.dev.mbxFull m = (s.dev.mbxFull m && decide ((m : Nat) ≠ 1 ∧ (m : Nat) ≠ 3)) ∧
      t.dev.host.pcie = { PcieSt.init with caLogged := s.dev.host.pcie.caLogged } ∧ t.dev.host.vecMask = List.replicate 64 true ∧ t.dev.host.pba = List.replicate 64 false ∧
      t.dev.twin = { s.dev.twin with swap := s.dev.twin.swap.map fun w => { w with index := none } }) ∧
  (∀ (s : State) (a : Nat) (r : RegDesc) (f : FieldDesc),
    senderOn s →
    a / 0x10000 = 1 ∨ a / 0x10000 = 2 →
    a ≠ RING_FLIP_MODE ∧ a ≠ RING_FLIP_ACC ∧ a ≠ RING_FLIP_REJ ∧ a ≠ RING_FLIP_HELD →
    regAt a = some r →
    f ∈ r.fields →
    (⟨a, f.lo, f.width⟩ : Fld) ∉ [HIF_STAT_READY, HIF_STAT_LINK_GEN, HIF_STAT_LINK_WIDTH] →
    AnswersWith (exec .functionLevelReset s) (fun t => fieldOf (t.dev.rd a) f.lo f.width = fieldOf (regReset a) f.lo f.width) ∧
      AnswersWith (exec .d3hotEntry s) fun t => fieldOf (t.dev.rd a) f.lo f.width = fieldOf (regReset a) f.lo f.width) ∧
  (∀ (s : State) (a : Nat),
    senderOn s →
    a = RING_FLIP_MODE ∨ a = RING_FLIP_ACC ∨ a = RING_FLIP_REJ ∨ a = RING_FLIP_HELD →
    AnswersWith (exec .functionLevelReset s) (fun t => t.dev.rd a = s.dev.rd a) ∧
      AnswersWith (exec .d3hotEntry s) fun t => t.dev.rd a = s.dev.rd a) ∧
  (∀ (s : State) (n : Fin 5) (m : Fin 8),
    senderOn s →
    AnswersWith (exec .d3hotEntry s) fun t =>
      Only [.host, .mbx, .time, .twin, .cal, .sec, .queue, .out] [.block 0x01, .block 0x02, .word MBX_STAT, .word (MBX_DATA 1), .word (MBX_DATA 3)] s t ∧
      t.dev.host.descs = [] ∧ t.dev.host.cpls = [] ∧ t.dev.host.queue.length = s.dev.host.queue.length ∧
      t.dev.host.flying.length = s.dev.host.flying.length ∧ t.dev.host.linkUp = s.dev.host.linkUp ∧
      t.dev.get (RING_CFG_EN n) = 0 ∧ t.dev.get (RING_IDX_INDEX n) = 0 ∧ t.dev.get HIF_CTRL_EN = 0 ∧
      t.dev.get HIF_STAT_READY = s.dev.get HIF_STAT_READY ∧ t.dev.get HIF_STAT_LINK_GEN = s.dev.get HIF_STAT_LINK_GEN ∧
      t.dev.rd RING_FLIP_ACC = s.dev.rd RING_FLIP_ACC ∧ t.dev.rd RING_FLIP_HELD = s.dev.rd RING_FLIP_HELD ∧
      t.dev.mbxFull m = (s.dev.mbxFull m && decide ((m : Nat) ≠ 1 ∧ (m : Nat) ≠ 3)) ∧
      t.dev.host.pcie = { s.dev.host.pcie with d3hot := true } ∧ t.dev.host.vecMask = s.dev.host.vecMask ∧
      t.dev.host.pba = s.dev.host.pba ∧
      t.dev.twin = { s.dev.twin with swap := s.dev.twin.swap.map fun w => { w with index := none } })

/-- RING_ENABLE (R77): a ring that is neither enabled nor busy, with the Completion Ring enabled where it needs it, is
enabled with both its indices 0 and RING_Qn_ERR clear, the command and bulk rings and the Event Ring with nothing
else changed (Q0 also starts its counts, R118); otherwise nothing changes. RING_DISABLE with nothing fetched and not
started clears EN alone; a fetched descriptor that has not started completes with ABORTED (R77). The Completion Ring
is not disabled while a ring that needs it is enabled. HIF_POLL_ENABLE starts polling with SEQ 1, HIF_POLL_DISABLE
stops it (R57, R61). Completion, with what the next state holds, for: RING_ENABLE, RING_DISABLE, HIF_POLL_ENABLE,
HIF_POLL_DISABLE. -/
def Obligations.RingControl : Prop :=
  (∀ (s : State) (init : Initiator) (n : Fin 5),
    senderOn s →
    mayWrite s.straps init s.dev = true →
    n ≠ 0 →
    s.dev.get (RING_CFG_EN n) = 0 →
    s.dev.ringBusy n = false →
    (n : Nat) = 3 ∨ (n : Nat) = 4 ∨ s.dev.get (RING_CFG_EN 3) = 1 →
    AnswersWith (exec (.ringEnable init n) s) fun t =>
      Only [.host] [.field (RING_CFG_EN n), .field (RING_IDX_INDEX n), .field (RING_ERR_CODE n)] s t ∧
      t.dev.get (RING_CFG_EN n) = 1 ∧ t.dev.get (RING_IDX_INDEX n) = 0 ∧ t.dev.get (RING_ERR_CODE n) = 0 ∧ t.dev.host = { s.dev.host with hostIdx := s.dev.host.hostIdx.set n 0 }) ∧
  (∀ (s : State) (init : Initiator),
    senderOn s →
    mayWrite s.straps init s.dev = true →
    s.dev.get (RING_CFG_EN 0) = 0 →
    s.dev.ringBusy 0 = false →
    s.dev.get (RING_CFG_EN 3) = 1 →
    AnswersWith (exec (.ringEnable init 0) s) fun t =>
      Only [.host] [.field (RING_CFG_EN 0), .field (RING_IDX_INDEX 0), .field (RING_ERR_CODE 0), .field RING_FLIP_ACC_COUNT,
        .field RING_FLIP_REJ_COUNT, .field RING_FLIP_HELD_HELD, .field RING_FLIP_HELD_DEFER] s t ∧
      t.dev.get (RING_CFG_EN 0) = 1 ∧ t.dev.get (RING_IDX_INDEX 0) = 0 ∧ t.dev.get (RING_ERR_CODE 0) = 0 ∧
      t.dev.get RING_FLIP_ACC_COUNT = 0 ∧ t.dev.get RING_FLIP_REJ_COUNT = 0 ∧ t.dev.get RING_FLIP_HELD_HELD = 0 ∧
      t.dev.get RING_FLIP_HELD_DEFER = 0 ∧
      t.dev.host = { s.dev.host with hostIdx := s.dev.host.hostIdx.set 0 0, launchCount := 0 }) ∧
  (∀ (s : State) (init : Initiator) (n : Fin 5),
    senderOn s →
    s.dev.get (RING_CFG_EN n) = 1 ∨ s.dev.ringBusy n = true ∨ ((n : Nat) < 3 ∧ s.dev.get (RING_CFG_EN 3) = 0) →
    exec (.ringEnable init n) s = .next s) ∧
  (∀ (s : State) (init : Initiator) (n : Fin 5),
    senderOn s →
    mayWrite s.straps init s.dev = true →
    s.dev.get (RING_CFG_EN n) = 1 →
    s.dev.host.descs = [] →
    (n : Nat) ≠ 3 ∨ s.dev.get (RING_CFG_EN 0) = 0 ∧ s.dev.get (RING_CFG_EN 1) = 0 ∧ s.dev.get (RING_CFG_EN 2) = 0 ∧
      s.dev.ringBusy 0 = false →
    AnswersWith (exec (.ringDisable init n) s) fun t => Only [] [.field (RING_CFG_EN n)] s t ∧ t.dev.get (RING_CFG_EN n) = 0) ∧
  (∀ (s : State) (init : Initiator) (e : Desc),
    senderOn s →
    mayWrite s.straps init s.dev = true →
    s.dev.get (RING_CFG_EN 1) = 1 →
    s.dev.host.descs = [e] →
    s.dev.host.out = [] →
    e.ring = 1 →
    e.phase = .fetched →
    e.result = none →
    AnswersWith (exec (.ringDisable init 1) s) fun t =>
      Only [.host] [.field (RING_CFG_EN 1)] s t ∧ t.dev.get (RING_CFG_EN 1) = 0 ∧
      t.dev.host = { s.dev.host with
        descs := [{ e with phase := .finished, result := some (ST_ABORTED, 0) }]
        cpls := s.dev.host.cpls ++ [{ tag := dTag e.bytes, status := ST_ABORTED, kind := K_CMD_DONE, ring := 1, index := e.index,
                                      value := 0 }] }) ∧
  (∀ (s : State) (init : Initiator),
    senderOn s →
    s.dev.get (RING_CFG_EN 0) = 1 ∨ s.dev.get (RING_CFG_EN 1) = 1 ∨ s.dev.get (RING_CFG_EN 2) = 1 →
    exec (.ringDisable init 3) s = .next s) ∧
  (∀ (s : State) (init : Initiator),
    senderOn s →
    mayWrite s.straps init s.dev = true →
    s.dev.get HIF_CTRL_EN = 0 →
    AnswersWith (exec (.hifPollEnable init) s) fun t =>
      Only [.host] [.field HIF_CTRL_EN, .field HIF_STAT_RUN] s t ∧ t.dev.get HIF_CTRL_EN = 1 ∧ t.dev.get HIF_STAT_RUN = 1 ∧
      t.dev.host.shadowSeq = 1 ∧ t.dev.host.shadow = none) ∧
  (∀ (s : State) (init : Initiator),
    senderOn s →
    mayWrite s.straps init s.dev = true →
    AnswersWith (exec (.hifPollDisable init) s) fun t =>
      Only [] [.field HIF_CTRL_EN, .field HIF_STAT_RUN] s t ∧ t.dev.get HIF_CTRL_EN = 0 ∧ t.dev.get HIF_STAT_RUN = 0)

/-- DOORBELL_POLL reads 64 bytes at the doorbell page's address (R56, R57): with every ring enabled and each index, at
offsets 0x000 to 0x010 of the page, at most a ring's size from the device's own, all five are taken and nothing else
changes. A failed poll sets DB_ERR and keeps the indices (R50). SHADOW_WRITE (R60, R61) writes the 32 bytes of the
five indices, SEQ and the time and counts SEQ. While EN is 0 none of the three acts. Completion, with what the next
state holds, for: DOORBELL_POLL, DOORBELL_POLL_FAIL, SHADOW_WRITE. -/
def Obligations.DoorbellAndShadow : Prop :=
  (∀ (s : State) (idx : Fin 5 → Word) (rest : List Byte),
    senderOn s →
    s.dev.pollDue s.dev.host.lastPoll = true →
    s.dev.host.hostIdx.length = 5 →
    (∀ n : Fin 5, s.dev.get (RING_CFG_EN n) = 1) →
    (∀ n : Fin 5, indexFits s.dev n (idx n)) →
    AnswersWith (exec (.doorbellPoll (leBytes (idx 0).toNat 4 ++ leBytes (idx 1).toNat 4 ++ leBytes (idx 2).toNat 4 ++
        leBytes (idx 3).toNat 4 ++ leBytes (idx 4).toNat 4 ++ rest)) s) fun t =>
      Only [.host, .out] [] s t ∧
      t.dev.out = s.dev.out ++ [.hostRead (s.dev.get HIF_DB_HI_ADDR * 2 ^ 32 + s.dev.get HIF_DB_LO_ADDR * 2 ^ 12) 64] ∧
      t.dev.host = { s.dev.host with
        lastPoll := some s.dev.time.clk.ticks, failRun := 0
        hostIdx := [(idx 0).toNat, (idx 1).toNat, (idx 2).toNat, (idx 3).toNat, (idx 4).toNat] }) ∧
  (∀ (s : State),
    senderOn s →
    s.dev.pollDue s.dev.host.lastPoll = true →
    s.dev.host.failRun + 1 ≠ 16 →
    AnswersWith (exec .doorbellPollFail s) fun t =>
      Only [.host, .out] [.field HIF_STAT_DB_ERR] s t ∧ t.dev.get HIF_STAT_DB_ERR = 1 ∧
      t.dev.out = s.dev.out ++ [.hostRead (s.dev.get HIF_DB_HI_ADDR * 2 ^ 32 + s.dev.get HIF_DB_LO_ADDR * 2 ^ 12) 64] ∧
      t.dev.host = { s.dev.host with lastPoll := some s.dev.time.clk.ticks, failRun := s.dev.host.failRun + 1 }) ∧
  (∀ (s : State),
    senderOn s →
    s.dev.pollDue s.dev.host.lastPoll = true →
    s.dev.host.failRun = 15 →
    s.dev.get (HIF_VEC_EN IRQ_RING_ERR) = 1 →
    AnswersWith (exec .doorbellPollFail s) fun t =>
      Only [.host, .out] [.field HIF_STAT_DB_ERR, .field HIF_ISR_CAUSE] s t ∧ t.dev.get HIF_STAT_DB_ERR = 1 ∧
      t.dev.host.hostIdx = s.dev.host.hostIdx ∧ natBit (t.dev.get HIF_ISR_CAUSE) IRQ_RING_ERR = true) ∧
  (∀ (s : State),
    senderOn s →
    s.dev.get HIF_CTRL_EN = 1 →
    s.dev.host.shadow ≠ some s.dev.indices →
    s.dev.pollDue s.dev.host.lastShadow = true →
    AnswersWith (exec .shadowWrite s) fun t =>
      Only [.host, .out] [] s t ∧
      t.dev.out = s.dev.out ++ [.hostWrite (s.dev.get HIF_SH_HI_ADDR * 2 ^ 32 + s.dev.get HIF_SH_LO_ADDR * 2 ^ 12)
        (leBytes (s.dev.get (RING_IDX_INDEX 0)) 4 ++ leBytes (s.dev.get (RING_IDX_INDEX 1)) 4 ++
          leBytes (s.dev.get (RING_IDX_INDEX 2)) 4 ++ leBytes (s.dev.get (RING_IDX_INDEX 3)) 4 ++
          leBytes (s.dev.get (RING_IDX_INDEX 4)) 4 ++ leBytes s.dev.host.shadowSeq 4 ++ leBytes s.dev.time.clk.ns 4 ++
          leBytes s.dev.time.clk.sec 4)] ∧
      t.dev.host.shadowSeq = (s.dev.host.shadowSeq + 1) % 2 ^ 32) ∧
  (∀ (s : State) (page : List Byte),
    senderOn s →
    s.dev.get HIF_CTRL_EN = 0 →
    exec (.doorbellPoll page) s = .next s ∧ exec .doorbellPollFail s = .next s ∧
      exec .shadowWrite s = .next s)

/-- R59: an index read for an enabled ring n with (PI − CI) mod 2^32 above the ring's size disables that ring, sets its
ERR.CODE to IDX (1), stores the index in ERR_IDX and raises cause RING_ERR, whose bit of HIF_ISR is set when the
cause is enabled; the other rings, each of whose indices fits or that is disabled, keep EN and their error
registers, and take their index. Completion, with what the next state holds, for: DOORBELL_POLL. -/
def Obligations.IndexOutOfRange : Prop :=
  (∀ (s : State) (n : Fin 5) (idx : Fin 5 → Word) (rest : List Byte),
    senderOn s →
    s.dev.pollDue s.dev.host.lastPoll = true →
    s.dev.host.hostIdx.length = 5 →
    s.dev.get (RING_CFG_EN n) = 1 →
    ¬ indexFits s.dev n (idx n) →
    (∀ k : Fin 5, k ≠ n → s.dev.get (RING_CFG_EN k) = 0 ∨ indexFits s.dev k (idx k)) →
    AnswersWith (exec (.doorbellPoll (leBytes (idx 0).toNat 4 ++ leBytes (idx 1).toNat 4 ++ leBytes (idx 2).toNat 4 ++
        leBytes (idx 3).toNat 4 ++ leBytes (idx 4).toNat 4 ++ rest)) s) fun t =>
      Only [.host, .out] [.field (RING_CFG_EN n), .field (RING_ERR_CODE n), .field (RING_ERR_IDX_INDEX n), .field HIF_ISR_CAUSE] s t ∧
      t.dev.get (RING_CFG_EN n) = 0 ∧ t.dev.get (RING_ERR_CODE n) = 1 ∧ t.dev.get (RING_ERR_IDX_INDEX n) = (idx n).toNat ∧
      (∀ k : Fin 5, t.dev.host.hostIdx[(k : Nat)]? =
        if k ≠ n ∧ s.dev.get (RING_CFG_EN k) = 1 then some (idx k).toNat else s.dev.host.hostIdx[(k : Nat)]?) ∧
      (s.dev.get (HIF_VEC_EN IRQ_RING_ERR) = 1 → natBit (t.dev.get HIF_ISR_CAUSE) IRQ_RING_ERR = true))

/-- DESC_FETCH (R63, R74): with an entry in an enabled ring and the limits of R74 kept, the slot is read, the
descriptor's bytes are held in flight and the ring's index advances; one whose CRC fails completes with DESC_CRC. A
failed read stops the ring, the Flip Ring with any slot of a flip too, with CODE READ (R50; ERR_IDX holding the slot
is the model's reading). COMPLETION_POST (R68, R76) writes the oldest completion with PHASE at the ring's slot,
advances the index and takes its descriptor out of flight. With no entry, no room or none waiting nothing happens.
Completion, with what the next state holds, for: DESC_FETCH, DESC_FETCH_FAIL, COMPLETION_POST. -/
def Obligations.Descriptors : Prop :=
  (∀ (s : State) (slot : List Byte),
    senderOn s →
    s.dev.mayFetch 1 = true →
    slot.length = 64 →
    leAt slot 60 4 = crc32c (slot.take 60) →
    AnswersWith (exec (.descFetch .command slot) s) fun t =>
      Only [.host, .out] [.field (RING_IDX_INDEX 1)] s t ∧
      t.dev.out = s.dev.out ++ [.hostRead (s.dev.slotAddr 1 (s.dev.get (RING_IDX_INDEX 1)) 64) 64] ∧
      t.dev.get (RING_IDX_INDEX 1) = (s.dev.get (RING_IDX_INDEX 1) + 1) % 2 ^ 32 ∧
      t.dev.host = { s.dev.host with descs := s.dev.host.descs ++
        [{ ring := 1, index := s.dev.get (RING_IDX_INDEX 1), bytes := slot, phase := .fetched, data := [], sent := 0, opened := false,
           result := none }] }) ∧
  (∀ (s : State) (slot : List Byte),
    senderOn s →
    s.dev.mayFetch 2 = true →
    slot.length = 64 →
    leAt slot 60 4 ≠ crc32c (slot.take 60) →
    s.dev.host.descs = [] →
    s.dev.host.out = [] →
    AnswersWith (exec (.descFetch .bulk slot) s) fun t =>
      Only [.host, .out] [.field (RING_IDX_INDEX 2)] s t ∧
      t.dev.get (RING_IDX_INDEX 2) = (s.dev.get (RING_IDX_INDEX 2) + 1) % 2 ^ 32 ∧
      t.dev.host.cpls = s.dev.host.cpls ++ [{
        tag := dTag slot, status := ST_DESC_CRC, kind := K_BULK_DONE, ring := 2
        index := s.dev.get (RING_IDX_INDEX 2), value := 0 }]) ∧
  (∀ (s : State),
    senderOn s →
    s.dev.mayFetch 1 = true →
    s.dev.host.descs = [] →
    AnswersWith (exec (.descFetchFail .command 0) s) fun t =>
      Only [.host, .out] [.field (RING_CFG_EN 1), .field (RING_ERR_CODE 1), .field (RING_ERR_IDX_INDEX 1), .field HIF_ISR_CAUSE] s t ∧
      t.dev.get (RING_CFG_EN 1) = 0 ∧ t.dev.get (RING_ERR_CODE 1) = 2) ∧
  (∀ (s : State) (ahead : Nat),
    senderOn s →
    s.dev.get (RING_CFG_EN 0) = 1 →
    ahead < s.dev.ringEntries 0 →
    ahead ≤ 16 →
    s.dev.inFlight < 1024 →
    s.dev.host.descs = [] →
    s.dev.get (HIF_VEC_EN IRQ_RING_ERR) = 0 →
    AnswersWith (exec (.descFetchFail .flip ahead) s) fun t =>
      Only [.out] [.field (RING_CFG_EN 0), .field (RING_ERR_CODE 0), .field (RING_ERR_IDX_INDEX 0)] s t ∧
      t.dev.get (RING_CFG_EN 0) = 0 ∧ t.dev.get (RING_ERR_CODE 0) = 2 ∧
      t.dev.out = s.dev.out ++ [.hostRead (s.dev.slotAddr 0 (s.dev.get (RING_IDX_INDEX 0) + ahead) 64) 64]) ∧
  (∀ (s : State) (slot : List Byte),
    senderOn s →
    s.dev.mayFetch 1 = false →
    exec (.descFetch .command slot) s = .next s ∧ exec (.descFetchFail .command 0) s = .next s) ∧
  (∀ (s : State) (c : Cpl) (rest : List Cpl),
    senderOn s →
    s.dev.host.cpls = c :: rest →
    s.dev.get (RING_CFG_EN 3) = 1 →
    (s.dev.get (RING_IDX_INDEX 3) + 2 ^ 32 - nth s.dev.host.hostIdx 3 0 % 2 ^ 32) % 2 ^ 32 < s.dev.ringSize 3 →
    s.dev.get (HIF_VEC_EN IRQ_CPL) = 0 →
    let i := s.dev.get (RING_IDX_INDEX 3)
    AnswersWith (exec .completionPost s) fun t =>
      Only [.host, .out] [.field (RING_IDX_INDEX 3)] s t ∧ t.dev.get (RING_IDX_INDEX 3) = (i + 1) % 2 ^ 32 ∧
      t.dev.host = { s.dev.host with
        cpls := rest, descs := s.dev.host.descs.filter fun e => !(e.ring == c.ring && e.index == c.index) } ∧
      t.dev.out = s.dev.out ++ [.hostWrite (s.dev.slotAddr 3 i 16) (leBytes c.tag 4 ++ leBytes c.status 2 ++ leBytes c.kind 1 ++
        leBytes (i / s.dev.ringSize 3 % 2 + 2 * c.ring) 1 ++ leBytes c.index 4 ++ leBytes c.value 4)]) ∧
  (∀ (s : State),
    senderOn s →
    s.dev.host.cpls = [] ∨ s.dev.get (RING_CFG_EN 3) = 0 →
    exec .completionPost s = .next s)

/-- EVENT_RING_WRITE (R70, R71): a record of sufficient severity is written at the ring's slot when there is room, a
filtered one leaves without count, one without room is dropped and HIF_EVT_DROP counts it. EVENT_RECEIVE takes a
tile's record: behind those that wait, and by the same rule where none waits. With drops to report and room again an
EVT_RING_OVF is recorded ahead (R71). INTR_MODERATION_TIMEOUT and INTR_COUNT_REACHED set the cause's bit in HIF_ISR,
send its vector and clear the pending count; a masked vector sets its Pending Bit and is sent on MSIX_UNMASK, unless
the Function Mask holds it, the shadow page brought up to date first (R61, R83); that this shadow write does not
wait for the poll interval is the model's choice (log entry 103). Completion, with what the next state holds, for:
EVENT_RING_WRITE, EVENT_RECEIVE, INTR_MODERATION_TIMEOUT, INTR_COUNT_REACHED, MSIX_UNMASK, REGISTER_WRITE. -/
def Obligations.EventRingAndInterrupts : Prop :=
  (∀ (s : State) (r : EventRec) (rest : List EventRec),
    senderOn s →
    s.dev.host.evtPend = r :: rest →
    r.code ≠ EV_EVT_RING_OVF.code →
    s.dev.get HIF_EVT_CFG_MIN_SEV ≤ r.sev →
    s.dev.host.ovfPend = false →
    s.dev.host.dropped = 0 →
    s.dev.ringRoom 4 = true →
    s.dev.get (HIF_VEC_EN IRQ_EVT) = 0 →
    AnswersWith (exec .eventRingWrite s) fun t =>
      Only [.host, .out] [.field (RING_IDX_INDEX 4)] s t ∧ t.dev.host = { s.dev.host with evtPend := rest } ∧
      t.dev.get (RING_IDX_INDEX 4) = (s.dev.get (RING_IDX_INDEX 4) + 1) % 2 ^ 32 ∧
      t.dev.out = s.dev.out ++ [.hostWrite (s.dev.slotAddr 4 (s.dev.get (RING_IDX_INDEX 4)) 32) (eventBytes r)]) ∧
  (∀ (s : State) (r : EventRec) (rest : List EventRec),
    senderOn s →
    s.dev.host.evtPend = r :: rest →
    r.code ≠ EV_EVT_RING_OVF.code →
    r.sev < s.dev.get HIF_EVT_CFG_MIN_SEV →
    AnswersWith (exec .eventRingWrite s) fun t => Only [.host] [] s t ∧ t.dev.host = { s.dev.host with evtPend := rest }) ∧
  (∀ (s : State) (r : EventRec) (rest : List EventRec),
    senderOn s →
    s.dev.host.evtPend = r :: rest →
    r.code ≠ EV_EVT_RING_OVF.code →
    s.dev.get HIF_EVT_CFG_MIN_SEV ≤ r.sev →
    s.dev.host.ovfPend = false →
    s.dev.ringRoom 4 = false →
    AnswersWith (exec .eventRingWrite s) fun t =>
      Only [.host] [.field HIF_EVT_DROP_COUNT] s t ∧
      t.dev.get HIF_EVT_DROP_COUNT = (s.dev.get HIF_EVT_DROP_COUNT + 1) % 2 ^ 32 ∧
      t.dev.host = { s.dev.host with evtPend := rest, dropped := s.dev.host.dropped + 1 }) ∧
  (∀ (s : State),
    senderOn s →
    s.dev.host.evtPend = [] →
    s.dev.host.dropped ≠ 0 →
    s.dev.host.ovfPend = false →
    s.dev.ringRoom 4 = true →
    s.dev.rcd.queue.length < 32 →
    AnswersWith (exec .eventRingWrite s) fun t =>
      OnlyLogging [.host] [] s t ∧ t.dev.host = { s.dev.host with dropped := 0, ovfPend := true } ∧
      Logs [(EV_EVT_RING_OVF.code, s.dev.host.dropped % 2 ^ 32, 0, 0)] s t) ∧
  (∀ (s : State) (p : RxPkt) (rest : List RxPkt),
    senderOn s →
    s.dev.rxq = p :: rest →
    pktType p.bytes = PT_EVENT →
    s.dev.host.evtPend ≠ [] →
    AnswersWith (exec .eventReceive s) fun t =>
      Only [.host, .rxq] [] s t ∧ t.dev.rxq = rest ∧
      t.dev.host = { s.dev.host with evtPend := s.dev.host.evtPend ++ [eventOfBytes (pktBody p.bytes)] }) ∧
  (∀ (s : State) (p : RxPkt) (rest : List RxPkt) (r : EventRec),
    senderOn s →
    s.dev.rxq = p :: rest →
    pktType p.bytes = PT_EVENT →
    r = eventOfBytes (pktBody p.bytes) →
    r.code ≠ EV_EVT_RING_OVF.code →
    s.dev.host.evtPend = [] →
    r.sev < s.dev.get HIF_EVT_CFG_MIN_SEV →
    AnswersWith (exec .eventReceive s) fun t => Only [.rxq] [] s t ∧ t.dev.rxq = rest) ∧
  (∀ (s : State) (p : RxPkt) (rest : List RxPkt) (r : EventRec),
    senderOn s →
    s.dev.rxq = p :: rest →
    pktType p.bytes = PT_EVENT →
    r = eventOfBytes (pktBody p.bytes) →
    r.code ≠ EV_EVT_RING_OVF.code →
    s.dev.host.evtPend = [] →
    s.dev.get HIF_EVT_CFG_MIN_SEV ≤ r.sev →
    s.dev.host.ovfPend = false →
    s.dev.ringRoom 4 = false →
    AnswersWith (exec .eventReceive s) fun t =>
      Only [.host, .rxq] [.field HIF_EVT_DROP_COUNT] s t ∧ t.dev.rxq = rest ∧
      t.dev.get HIF_EVT_DROP_COUNT = (s.dev.get HIF_EVT_DROP_COUNT + 1) % 2 ^ 32 ∧
      t.dev.host = { s.dev.host with dropped := s.dev.host.dropped + 1 }) ∧
  (∀ (s : State) (p : RxPkt) (rest : List RxPkt) (r : EventRec),
    senderOn s →
    s.dev.rxq = p :: rest →
    pktType p.bytes = PT_EVENT →
    r = eventOfBytes (pktBody p.bytes) →
    r.code ≠ EV_EVT_RING_OVF.code →
    s.dev.host.evtPend = [] →
    s.dev.get HIF_EVT_CFG_MIN_SEV ≤ r.sev →
    s.dev.host.ovfPend = false →
    s.dev.host.dropped = 0 →
    s.dev.ringRoom 4 = true →
    s.dev.get (HIF_VEC_EN IRQ_EVT) = 0 →
    AnswersWith (exec .eventReceive s) fun t =>
      Only [.rxq, .out] [.field (RING_IDX_INDEX 4)] s t ∧ t.dev.rxq = rest ∧
      t.dev.get (RING_IDX_INDEX 4) = (s.dev.get (RING_IDX_INDEX 4) + 1) % 2 ^ 32 ∧
      t.dev.out = s.dev.out ++ [.hostWrite (s.dev.slotAddr 4 (s.dev.get (RING_IDX_INDEX 4)) 32) (eventBytes r)]) ∧
  (∀ (s : State) (c : Fin 16),
    senderOn s →
    s.dev.get (HIF_VEC_EN c) = 1 →
    (nth s.dev.host.items c (0, 0)).1 ≠ 0 →
    (nth s.dev.host.items c (0, 0)).2 + 250 * s.dev.get (HIF_VEC_TIME c) ≤ s.dev.time.clk.ticks →
    s.dev.get HIF_CTRL_EN = 0 →
    AnswersWith (exec (.intrModerationTimeout c) s) fun t =>
      Only [.host, .out] [.field HIF_ISR_CAUSE] s t ∧ natBit (t.dev.get HIF_ISR_CAUSE) c = true ∧
      nth t.dev.host.items c (0, 0) = (0, 0) ∧
      (nth s.dev.host.vecMask (s.dev.get (HIF_VEC_VECTOR c)) true = false → natBit s.dev.host.pcie.msixCtl 0 = false →
        t.dev.out = s.dev.out ++ [s.dev.msixMessage (s.dev.get (HIF_VEC_VECTOR c))])) ∧
  (∀ (s : State) (c : Fin 16),
    senderOn s →
    s.dev.get (HIF_VEC_EN c) = 1 →
    max 1 (s.dev.get (HIF_VEC_COUNT c)) ≤ (nth s.dev.host.items c (0, 0)).1 →
    s.dev.get HIF_CTRL_EN = 0 →
    AnswersWith (exec (.intrCountReached c) s) fun t =>
      Only [.host, .out] [.field HIF_ISR_CAUSE] s t ∧ natBit (t.dev.get HIF_ISR_CAUSE) c = true ∧
      nth t.dev.host.items c (0, 0) = (0, 0) ∧
      (nth s.dev.host.vecMask (s.dev.get (HIF_VEC_VECTOR c)) true = true ∨ natBit s.dev.host.pcie.msixCtl 0 = true → t.dev.out = s.dev.out ∧
        t.dev.host.pba = setAt s.dev.host.pba (s.dev.get (HIF_VEC_VECTOR c)) true)) ∧
  (∀ (s : State) (v : Fin 64),
    senderOn s →
    nth s.dev.host.pba v false = true →
    natBit s.dev.host.pcie.msixCtl 0 = false →
    s.dev.shadowStale = false →
    AnswersWith (exec (.msixUnmask v) s) fun t =>
      Only [.host, .out] [] s t ∧
      t.dev.out = s.dev.out ++ [.msix v (nth s.dev.host.pcie.table v (0, 0)).1 (nth s.dev.host.pcie.table v (0, 0)).2] ∧
      t.dev.host = { s.dev.host with vecMask := setAt s.dev.host.vecMask v false, pba := setAt s.dev.host.pba v false }) ∧
  (∀ (s : State) (v : Fin 64),
    senderOn s →
    nth s.dev.host.pba v false = true →
    natBit s.dev.host.pcie.msixCtl 0 = false →
    s.dev.get HIF_CTRL_EN = 1 →
    s.dev.host.shadow ≠ some s.dev.indices →
    AnswersWith (exec (.msixUnmask v) s) fun t =>
      Only [.host, .out] [] s t ∧
      t.dev.out = s.dev.out ++ [.hostWrite s.dev.shadowAddr s.dev.shadowBytes, s.dev.msixMessage v]) ∧
  (∀ (s : State) (v : Fin 64),
    senderOn s →
    nth s.dev.host.pba v false = false ∨ natBit s.dev.host.pcie.msixCtl 0 = true →
    AnswersWith (exec (.msixUnmask v) s) fun t =>
      Only [.host] [] s t ∧ t.dev.host = { s.dev.host with vecMask := setAt s.dev.host.vecMask v false }) ∧
  (∀ (s : State) (v : Fin 64) (w : Word),
    senderOn s →
    s.dev.host.linkUp = true →
    s.dev.shadowStale = false →
    s.dev.host.pba = (List.replicate 64 false).set v true →
    nth s.dev.host.vecMask v true = false →
    w.getLsbD 30 = false →
    AnswersWith (exec (.registerWrite .config 0x50 .word w) s) fun t =>
      Only [.host, .out] [] s t ∧
      t.dev.out = s.dev.out ++ [.msix v (nth s.dev.host.pcie.table v (0, 0)).1 (nth s.dev.host.pcie.table v (0, 0)).2] ∧
      t.dev.host = { s.dev.host with
        pba := List.replicate 64 false, pcie := { s.dev.host.pcie with msixCtl := w.toNat / 2 ^ 31 * 2 } })

/-- R66, R78, R176. NOP completes with OK and VALUE 0, an opcode defined nowhere with BAD_OPCODE, at a sender as at a
tile; NOP waits while firmware does not run at a tile. REG_READ of one word answers with the word, REG_WRITE and
REG_RMW write it by the register's access codes as an access of the COMMAND initiator, and answer 0 and the old
word; parameters out of range answer BAD_PARAM and access nothing. At a tile a register command is executed when it
is received, unless CMDs that arrived before it wait: then it waits behind them, for a target executes in arrival
order (R176). Completion, with what the next state holds, for: NOP, UNDEFINED_OPCODE, REG_READ, REG_WRITE,
REGISTER_WRITE, REG_RMW, CMD_DESC_RECEIVE. -/
def Obligations.GeneralCommands : Prop :=
  (∀ (s : State) (ref : CmdRef) (desc : List Byte),
    Waits ref desc s = true →
    s.dev.firmware = true →
    dOpcode desc = 0 →
    AnswersWith (exec (.nop ref) s) fun t => Only (answerParts ref) [] s t ∧ AnsweredOnly ref desc ST_OK 0 s t) ∧
  (∀ (s : State) (desc : List Byte),
    Waits .remote desc s = true →
    s.dev.firmware = false →
    dOpcode desc = 0 →
    exec (.nop .remote) s = .next s) ∧
  (∀ (s : State) (ref : CmdRef) (desc : List Byte),
    Waits ref desc s = true →
    s.dev.firmware = true →
    definedOp (dOpcode desc) = false →
    AnswersWith (exec (.undefinedOpcode ref) s) fun t =>
      Only (answerParts ref) [] s t ∧ AnsweredOnly ref desc ST_BAD_OPCODE 0 s t) ∧
  (∀ (s : State) (i : Nat) (desc : List Byte),
    Waits (.ring i) desc s = true →
    dOpcode desc = 1 →
    dCount desc = 1 →
    dResult desc = 0 →
    dAddr desc % 4 = 0 →
    (regAt (dAddr desc)).isSome = true →
    dAddr desc ≠ TIME_NOW_NS →
    let v := readWord s.straps (dAddr desc) { s.dev with host := { s.dev.host with descs := [{ fetchedCmd i desc with phase := .started }] } }
    AnswersWith (exec (.regRead (.ring i)) s) fun t =>
      Only [.host] [] s t ∧ t.dev.host = s.dev.host.completed (fetchedCmd i desc) ST_OK v.toNat) ∧
  (∀ (s : State) (i : Nat) (desc : List Byte),
    Waits (.ring i) desc s = true →
    dOpcode desc = 2 →
    dCount desc = 1 →
    ordinary (dAddr desc) = true →
    dAddr desc % 4 = 0 →
    AnswersWith (exec (.regWrite (.ring i)) s) fun t =>
      t.dev.host = s.dev.host.completed (fetchedCmd i desc) ST_OK 0 ∧ Only [.host] [.word (dAddr desc)] s t ∧
      AnswersWith (exec (.registerWrite .command (dAddr desc) .word (BitVec.ofNat 32 (dData desc 0))) s) fun u =>
        t.dev.rd (dAddr desc) = u.dev.rd (dAddr desc)) ∧
  (∀ (s : State) (i : Nat) (desc : List Byte),
    Waits (.ring i) desc s = true →
    dOpcode desc = 3 →
    dCount desc = 1 →
    ordinary (dAddr desc) = true →
    unusedAt s.straps (dAddr desc) = false →
    dAddr desc % 4 = 0 →
    let old := readWord s.straps (dAddr desc) { s.dev with host := { s.dev.host with descs := [{ fetchedCmd i desc with phase := .started }] } }
    let new := (old &&& ~~~(BitVec.ofNat 32 (dData desc 0))) ||| (BitVec.ofNat 32 (dData desc 1) &&& BitVec.ofNat 32 (dData desc 0))
    AnswersWith (exec (.regRmw (.ring i)) s) fun t =>
      t.dev.host = s.dev.host.completed (fetchedCmd i desc) ST_OK old.toNat ∧ Only [.host] [.word (dAddr desc)] s t ∧
      AnswersWith (exec (.registerWrite .command (dAddr desc) .word new) s) fun u => t.dev.rd (dAddr desc) = u.dev.rd (dAddr desc)) ∧
  (∀ (s : State) (i : Nat) (desc : List Byte),
    Waits (.ring i) desc s = true →
    1 ≤ dOpcode desc ∧ dOpcode desc ≤ 3 →
    dCount desc = 0 ∨ dAddr desc % 4 ≠ 0 ∨ 0x1000000 < dAddr desc + 4 * dCount desc ∨
      (dOpcode desc = 1 ∧ (64 < dCount desc ∨ dResult desc % 4 ≠ 0 ∨ (1 < dCount desc ∧ dResult desc = 0))) ∨
      (dOpcode desc = 2 ∧ 8 < dCount desc) ∨ (dOpcode desc = 3 ∧ dCount desc ≠ 1) →
    AnswersWith (exec (if dOpcode desc = 1 then .regRead (.ring i) else if dOpcode desc = 2 then .regWrite (.ring i) else
        .regRmw (.ring i)) s) fun t =>
      Only [.host] [] s t ∧ t.dev.host = s.dev.host.completed (fetchedCmd i desc) ST_BAD_PARAM 0) ∧
  (∀ (s : State) (k : RxPkt) (rest : List RxPkt),
    tileOn s →
    s.dev.rxq = k :: rest →
    isCmd CK_DESC k = true →
    dOpcode (cmdDesc k.bytes) = 1 →
    dCount (cmdDesc k.bytes) = 1 →
    dResult (cmdDesc k.bytes) = 0 →
    dAddr (cmdDesc k.bytes) % 4 = 0 →
    (regAt (dAddr (cmdDesc k.bytes))).isSome = true →
    dAddr (cmdDesc k.bytes) ≠ TIME_NOW_NS →
    s.dev.waiting = [] →
    canAnswer s.dev k.bytes = true →
    let v := readWord s.straps (dAddr (cmdDesc k.bytes)) { s.dev with rxq := rest }
    exec .cmdDescReceive s = exec (.regRead .remote) s ∧
      AnswersWith (exec (.regRead .remote) s) fun t =>
      Only [.rxq, .ports] [] s t ∧ t.dev.rxq = rest ∧ t.dev.ports = rspWaits s.dev k.bytes ST_OK v.toNat 0 (leWords [v])) ∧
  (∀ (s : State) (k : RxPkt) (rest : List RxPkt),
    tileOn s →
    s.dev.rxq = k :: rest →
    isCmd CK_DESC k = true →
    dOpcode (cmdDesc k.bytes) = 2 →
    dCount (cmdDesc k.bytes) = 1 →
    ordinary (dAddr (cmdDesc k.bytes)) = true →
    dAddr (cmdDesc k.bytes) % 4 = 0 →
    s.dev.waiting = [] →
    canAnswer s.dev k.bytes = true →
    exec .cmdDescReceive s = exec (.regWrite .remote) s ∧
      AnswersWith (exec (.regWrite .remote) s) fun t =>
      Only [.rxq, .ports] [.word (dAddr (cmdDesc k.bytes))] s t ∧ t.dev.rxq = rest ∧
      t.dev.ports = rspWaits s.dev k.bytes ST_OK 0 0 [] ∧
      AnswersWith (exec (.registerWrite .command (dAddr (cmdDesc k.bytes)) .word (BitVec.ofNat 32 (dData (cmdDesc k.bytes) 0))) s)
        fun u => t.dev.rd (dAddr (cmdDesc k.bytes)) = u.dev.rd (dAddr (cmdDesc k.bytes))) ∧
  (∀ (s : State) (k : RxPkt) (rest : List RxPkt),
    tileOn s →
    s.dev.rxq = k :: rest →
    isCmd CK_DESC k = true →
    dOpcode (cmdDesc k.bytes) = 3 →
    dCount (cmdDesc k.bytes) = 1 →
    ordinary (dAddr (cmdDesc k.bytes)) = true →
    unusedAt s.straps (dAddr (cmdDesc k.bytes)) = false →
    dAddr (cmdDesc k.bytes) % 4 = 0 →
    s.dev.waiting = [] →
    canAnswer s.dev k.bytes = true →
    let old := readWord s.straps (dAddr (cmdDesc k.bytes)) { s.dev with rxq := rest }
    let mask := BitVec.ofNat 32 (dData (cmdDesc k.bytes) 0)
    let new := (old &&& ~~~mask) ||| (BitVec.ofNat 32 (dData (cmdDesc k.bytes) 1) &&& mask)
    exec .cmdDescReceive s = exec (.regRmw .remote) s ∧
      AnswersWith (exec (.regRmw .remote) s) fun t =>
      Only [.rxq, .ports] [.word (dAddr (cmdDesc k.bytes))] s t ∧ t.dev.rxq = rest ∧
      t.dev.ports = rspWaits s.dev k.bytes ST_OK old.toNat 0 [] ∧
      AnswersWith (exec (.registerWrite .command (dAddr (cmdDesc k.bytes)) .word new) s)
        fun u => t.dev.rd (dAddr (cmdDesc k.bytes)) = u.dev.rd (dAddr (cmdDesc k.bytes))) ∧
  (∀ (s : State) (k : RxPkt) (rest : List RxPkt),
    tileOn s →
    s.dev.rxq = k :: rest →
    isCmd CK_DESC k = true →
    1 ≤ dOpcode (cmdDesc k.bytes) ∧ dOpcode (cmdDesc k.bytes) ≤ 3 →
    s.dev.waiting ≠ [] →
    AnswersWith (exec .cmdDescReceive s) fun t =>
      Only [.rxq, .tile] [] s t ∧ t.dev.rxq = rest ∧ t.dev.tile = { s.dev.tile with
        cmds := s.dev.tile.cmds ++ [(k, s.dev.tile.arrivals, s.dev.time.clk.ticks)], arrivals := s.dev.tile.arrivals + 1 })

/-- R275, R378, R379. DIAG_LAMP at a tile answers with the status word of the lamp and changes nothing; DIAG_FORCE sets
or releases the forced mask of one lamp and replaces block 4 of the settings record by the masks; a lamp above
49,151, or LOCAL, is BAD_PARAM. REC_MARK records one event with its parameters, severity and FLAGS, and answers its
SEQ when the record is written; a severity above 5 is BAD_PARAM and records nothing. Where the queue is full the
event is lost and the VALUE, which the spec leaves open, is free (log entry 159). REC_CLEAR without a token answers
REC_NO_TOKEN; with a good one it writes REC_CLEARED with TSEQ, the clear floor and the count, answers its SEQ and
leaves no other record. With a bad one it answers TOKEN_BAD and clears nothing; where the eMRAM write fails, which
the spec leaves open (log entry 51), it answers REC_NVM and clears nothing. Completion, with what the next state
holds, for: DIAG_LAMP, DIAG_FORCE, REC_MARK, RECORDER_WRITE, REC_CLEAR. -/
def Obligations.LampAndRecorderCommands : Prop :=
  (∀ (s : State) (desc : List Byte),
    Waits .remote desc s = true →
    s.dev.firmware = true →
    dOpcode desc = 0x0300 →
    dData desc 0 % 65536 < 49152 →
    let n := dData desc 0 % 65536
    AnswersWith (exec (.diagLamp .remote) s) fun t =>
      Only [.tile, .ports] [] s t ∧ AnsweredOnly .remote desc ST_OK
        (s.dev.lampStatus n + 8 * s.dev.lampLast n + 64 * b2n (s.dev.tile.drive.mask.contains n) +
          128 * b2n (s.dev.diag.forced.contains n) + 65536 * s.dev.lampAge n) s t) ∧
  (∀ (s : State) (desc : List Byte),
    Waits .remote desc s = true →
    s.dev.firmware = true →
    dOpcode desc = 0x0301 →
    dData desc 0 % 65536 < 49152 →
    let n := dData desc 0 % 65536
    AnswersWith (exec (.diagForce .remote) s) fun t =>
      Only [.tile, .ports, .diag, .nvm] [] s t ∧ AnsweredOnly .remote desc ST_OK 0 s t ∧
      (n ∈ t.dev.diag.forced ↔ natBit (dData desc 0) 16 = true) ∧
      (t.dev.diag.forced.filter fun m => m != n) = (s.dev.diag.forced.filter fun m => m != n) ∧
      t.dev.nvm = (s.dev.commitBlock 4 (maskBody t.dev.diag.forced)).nvm) ∧
  (∀ (s : State) (desc : List Byte),
    Waits .remote desc s = true →
    s.dev.firmware = true →
    dOpcode desc = 0x0300 ∨ dOpcode desc = 0x0301 →
    49151 < dData desc 0 % 65536 →
    AnswersWith (exec (if dOpcode desc = 0x0300 then .diagLamp .remote else .diagForce .remote) s) fun t =>
      Only [.tile, .ports] [] s t ∧ AnsweredOnly .remote desc ST_BAD_PARAM 0 s t) ∧
  (∀ (s : State) (i : Nat) (desc : List Byte),
    Waits (.ring i) desc s = true →
    dOpcode desc = 0x0300 ∨ dOpcode desc = 0x0301 →
    AnswersWith (exec (if dOpcode desc = 0x0300 then .diagLamp (.ring i) else .diagForce (.ring i)) s) fun t =>
      Only [.host] [] s t ∧ AnsweredOnly (.ring i) desc ST_BAD_PARAM 0 s t) ∧
  (∀ (s : State) (ref : CmdRef) (desc : List Byte),
    Waits ref desc s = true →
    s.dev.firmware = true →
    dOpcode desc = 0x0701 →
    dData desc 3 % 16 ≤ 5 →
    s.dev.rcd.queue.length < 32 →
    AnswersWith (exec (.recMark ref) s) fun t =>
      OnlyLogging (answerParts ref) [] s t ∧ Started ref desc s t ∧ t.dev.ports = s.dev.ports ∧
      Logs [((evRecMark 0).code, dData desc 0 % 2 ^ 32, dData desc 1 % 2 ^ 32, dData desc 2 % 2 ^ 32)] s t ∧
      (t.dev.rcd.queue.map fun e => (e.sev, e.flags % 64, e.mark)) =
        (s.dev.rcd.queue.map fun e => (e.sev, e.flags % 64, e.mark)) ++ [(dData desc 3 % 16, dData desc 3 / 16 % 64, waiterOf ref s)]) ∧
  (∀ (s : State) (ref : CmdRef) (desc : List Byte),
    Waits ref desc s = true →
    s.dev.firmware = true →
    dOpcode desc = 0x0701 →
    dData desc 3 % 16 ≤ 5 →
    32 ≤ s.dev.rcd.queue.length →
    AnswersWith (exec (.recMark ref) s) fun t =>
      OnlyLogging (.free :: answerParts ref) [] s t ∧ t.dev.rcd.queue = s.dev.rcd.queue ∧ t.dev.rcd.lost = s.dev.rcd.lost + 1 ∧
      t.dev.free = s.dev.free + 1 ∧ AnsweredOnly ref desc ST_OK (Config.freeValue s.dev.free % 2 ^ 32) s t) ∧
  (∀ (s : State) (i : Nat) (e : Desc) (r : EventRec),
    senderOn s →
    s.dev.rcd.queue = [r] →
    r.mark = some (.ring i) →
    r.code ≠ EV_EVT_RING_OVF.code →
    s.dev.rcd.lost = 0 →
    s.dev.host.descs = [e] →
    e.ring = 1 →
    e.index = i →
    e.phase = .started →
    e.result = none →
    dNoCpl e.bytes = false →
    s.dev.host.out = [] →
    AnswersWith (exec .recorderWrite s) fun t =>
      t.dev.host.descs = [{ e with phase := .finished, result := some (ST_OK, s.dev.rcd.next) }] ∧
      t.dev.host.cpls = s.dev.host.cpls ++ [cplOf e ST_OK s.dev.rcd.next] ∧
      t.dev.get REC_NEWEST_SEQ = s.dev.rcd.next % 2 ^ 32 ∧ t.dev.rcd.queue = []) ∧
  (∀ (s : State) (ref : CmdRef) (desc : List Byte),
    Waits ref desc s = true →
    s.dev.firmware = true →
    dOpcode desc = 0x0701 →
    6 ≤ dData desc 3 % 16 →
    AnswersWith (exec (.recMark ref) s) fun t => Only (answerParts ref) [] s t ∧ AnsweredOnly ref desc ST_BAD_PARAM 0 s t) ∧
  (∀ (s : State) (ref : CmdRef) (desc : List Byte),
    Waits ref desc s = true →
    s.dev.firmware = true →
    dOpcode desc = 0x0700 →
    s.dev.sec.clearToken = none →
    AnswersWith (exec (.recClear ref) s) fun t => Only (answerParts ref) [] s t ∧ AnsweredOnly ref desc ST_REC_NO_TOKEN 0 s t) ∧
  (∀ (s : State) (ref : CmdRef) (desc tok : List Byte),
    Waits ref desc s = true →
    s.dev.firmware = true →
    dOpcode desc = 0x0700 →
    s.dev.sec.clearToken = some tok →
    s.dev.rcd.next < 2 ^ 32 →
    let floor := (s.dev.rcd.next + 2 ^ 32 - 1) % 2 ^ 32
    AnswersWith (exec (.recClear ref) s) fun t =>
      if s.dev.tokenOk tok = true ∧ Config.freeValue s.dev.free % 2 = 1 then
        Answered ref desc ST_REC_NVM 0 s t ∧ Only ([.sec, .nvm, .free] ++ answerParts ref) [] s t
      else if s.dev.tokenOk tok = true then
        Answered ref desc ST_OK s.dev.rcd.next s t ∧
        Only ([.sec, .nvm, .records, .free] ++ answerParts ref) [.word REC_STAT, .word REC_OLDEST, .word REC_NEWEST, .word REC_SENT] s t ∧
        t.dev.rcd.next = (s.dev.rcd.next + 1) % 2 ^ 32 ∧ t.dev.get REC_NEWEST_SEQ = s.dev.rcd.next ∧
        t.dev.get REC_OLDEST_SEQ = s.dev.rcd.next ∧
        t.dev.rcd.checks.map Prod.fst ⊆ [s.dev.rcd.next % 16384] ∧
        (eventOfBytes (Cells.read recSlotDflt t.dev.rcd.slots (s.dev.rcd.next % 16384))).what =
          (EV_REC_CLEARED.code, tokSeq tok % 2 ^ 32, floor,
            if s.dev.get REC_STAT_EMPTY = 1 then 0 else
              dist32 (s.dev.get REC_OLDEST_SEQ) (s.dev.get REC_NEWEST_SEQ) + 1)
      else Only (answerParts ref) [] s t ∧ AnsweredOnly ref desc ST_TOKEN_BAD 0 s t)

/-- R79, R164, R165, R176, R177 at a sender: a command descriptor for a present position starts and becomes one
outstanding CMD with the next XID, on port p of its chain; a target that is not present completes with UNREACHABLE
and sends nothing; one whose target has 4 CMDs outstanding waits. A final RSP completes the descriptor with its
STATUS and VALUE, a progress RSP restarts the timeout, a CMD unanswered for HIF_CMD_TMO completes with TIMEOUT.
PACKET_SEND_COMPLETE (R171) leaves a port without packets idle, after the cells left over have gone in a pair.
Completion, with what the next state holds, for: CMD_DISPATCH, RSP_RECEIVE, PROGRESS_RSP_RECEIVE, CMD_TIMEOUT,
PACKET_SEND_COMPLETE. -/
def Obligations.CommandsOnTheirWay : Prop :=
  (∀ (s : State) (i : Nat) (desc : List Byte),
    oneDesc (fetchedCmd i desc) s = true →
    dLocal desc = false →
    definedOp (dOpcode desc) = true →
    remoteBad desc = false →
    dOpcode desc ≠ 0x0200 →
    s.dev.reachable (dTarget desc) = true →
    let x := dTarget desc / 64 % 4
    let pkt := senderPkt s.straps s.dev x PT_CMD false false 0 (s.dev.wallAddr x (dTarget desc % 64))
      (descBody s.dev.host.nextXid CK_DESC desc)
    AnswersWith (exec (.cmdDispatch .command i) s) fun t =>
      Only [.host, .ports, .out] [] s t ∧ t.dev.host.descs = [{ fetchedCmd i desc with phase := .started }] ∧
      t.dev.host.nextXid = (s.dev.host.nextXid + 1) % 65536 ∧ t.dev.host.cpls = s.dev.host.cpls ∧
      (t.dev.host.out.map fun o => (o.xid, o.port, o.position, o.kind)) =
        [(s.dev.host.nextXid, x, dTarget desc % 64, OutKind.desc i)] ∧
      ((s.dev.port x).cur.isSome = true → t.dev.ports = s.dev.ports.modify x fun p =>
        { p with txq := modAt p.txq TQ_CMD fun l => l ++ [.bytes pkt (some s.dev.host.nextXid) false] })) ∧
  (∀ (s : State) (i : Nat) (desc : List Byte),
    oneDesc (fetchedCmd i desc) s = true →
    dLocal desc = false →
    definedOp (dOpcode desc) = true →
    remoteBad desc = false →
    s.dev.reachable (dTarget desc) = false →
    AnswersWith (exec (.cmdDispatch .command i) s) fun t =>
      Only [.host] [] s t ∧ t.dev.host = s.dev.host.completed (fetchedCmd i desc) ST_UNREACHABLE 0) ∧
  (∀ (s : State) (i : Nat) (desc : List Byte),
    senderOn s →
    s.dev.host.descs = [fetchedCmd i desc] →
    dLocal desc = false →
    definedOp (dOpcode desc) = true →
    remoteBad desc = false →
    s.dev.reachable (dTarget desc) = true →
    4 ≤ s.dev.outstanding (dTarget desc / 64 % 4) (dTarget desc % 64) →
    exec (.cmdDispatch .command i) s = .next s) ∧
  (∀ (s : State) (e : Desc) (o : OutCmd) (k : RxPkt) (rest : List RxPkt),
    senderOn s →
    s.dev.host.descs = [e] →
    e.ring = 1 →
    e.phase = .started →
    e.result = none →
    dNoCpl e.bytes = false →
    s.dev.host.out = [o] →
    o.kind = .desc e.index →
    dOpcode e.bytes ≠ 1 →
    dOpcode e.bytes ≠ 0x0604 →
    dOpcode e.bytes ≠ 0x0101 →
    s.dev.rxq = k :: rest →
    pktType k.bytes = PT_RSP →
    rspStatus k.bytes ≠ ST_PENDING →
    rspXid k.bytes = o.xid →
    k.port = o.port →
    pktSrcAddr k.bytes % 64 = o.position →
    AnswersWith (exec .rspReceive s) fun t =>
      Only [.host, .rxq] [] s t ∧ t.dev.rxq = rest ∧
      t.dev.host = { s.dev.host.completed e (rspStatus k.bytes) (rspValue k.bytes) with out := [] }) ∧
  (∀ (s : State) (o : OutCmd) (k : RxPkt) (rest : List RxPkt),
    senderOn s →
    s.dev.host.out = [o] →
    o.sentAt.isSome = true →
    s.dev.rxq = k :: rest →
    pktType k.bytes = PT_RSP →
    rspStatus k.bytes = ST_PENDING →
    rspXid k.bytes = o.xid →
    k.port = o.port →
    pktSrcAddr k.bytes % 64 = o.position →
    AnswersWith (exec .progressRspReceive s) fun t =>
      Only [.host, .rxq] [] s t ∧ t.dev.rxq = rest ∧
      t.dev.host = { s.dev.host with out := [{ o with sentAt := some s.dev.time.clk.ticks }] }) ∧
  (∀ (s : State) (e : Desc) (o : OutCmd) (t0 : Nat),
    senderOn s →
    s.dev.host.descs = [e] →
    e.ring = 1 →
    e.phase = .started →
    e.result = none →
    dNoCpl e.bytes = false →
    s.dev.host.out = [o] →
    o.kind = .desc e.index →
    o.sentAt = some t0 →
    t0 + 250 * s.dev.get HIF_CMD_TMO_US ≤ s.dev.time.clk.ticks →
    AnswersWith (exec (.cmdTimeout o.xid) s) fun t =>
      Only [.host] [] s t ∧ t.dev.host = { s.dev.host.completed e ST_TIMEOUT 0 with out := [] }) ∧
  (∀ (s : State) (xid : Nat),
    senderOn s →
    s.dev.host.out = [] →
    s.dev.sec.domino = none →
    exec (.cmdTimeout xid) s = .next s) ∧
  (∀ (s : State) (x : Port) (p : TxPkt),
    senderOn s →
    (s.dev.port x).cur = some p →
    (∀ l ∈ (s.dev.port x).txq, l = []) →
    (s.dev.port x).fwd = [] →
    s.dev.host.out = [] →
    s.dev.host.descs = [] →
    AnswersWith (exec (.packetSendComplete x) s) fun t =>
      Only [.ports] [] s t ∧ t.dev.ports = s.dev.ports.modify x fun q => { q with cur := none }) ∧
  (∀ (s : State) (x : Port) (p : TxPkt) (left : List (List Byte)),
    senderOn s →
    (s.dev.port x).cur = some p →
    (∀ l ∈ (s.dev.port x).txq, l = []) →
    (s.dev.port x).fwd = left.map some →
    left ≠ [] →
    left.length ≤ 19 →
    s.dev.carries x = true →
    s.dev.host.out = [] →
    s.dev.host.descs = [] →
    AnswersWith (exec (.packetSendComplete x) s) fun t =>
      Only [.ports, .out] [] s t ∧ (t.dev.port x).cur = none ∧ (t.dev.port x).fwd = [] ∧
      t.dev.out.length = s.dev.out.length + 1)

/-- R176 to R178, R276, R282 at a tile: a DESC CMD that firmware executes waits behind those before it, and is answered
TWIN_REJECT when it is not from the accepted sender; after 10 ms a CMD that waits is answered PENDING with VALUE 0.
Where no CMD that arrived before it waits, a BULK_OPEN is answered with the status of its parameter checks and opens
the transfer, a BULK_DATA that is not the last is kept without an answer, one out of order or failing DATA_CRC, and
every segment of a refused transfer, is answered with the failing status, and a BULK_PULL of data held is answered
with those bytes; else each of them waits its turn. BULK_SNAPSHOT serves a transfer of LAMP_MAP or MEAS from the
object as it stood at the first frame boundary after its BULK_OPEN, and not before that boundary. The model's
choices in this: that a segment out of order fails with DATA_CRC (log entry 28), and that the checks of a transfer
are made at its BULK_OPEN (log entry 27). Completion, with what the next state holds, for: CMD_DESC_RECEIVE,
PROGRESS_RSP_SEND, BULK_OPEN_RECEIVE, BULK_DATA_RECEIVE, BULK_PULL_RECEIVE, BULK_SNAPSHOT. -/
def Obligations.CommandsAtATile : Prop :=
  (∀ (s : State) (k : RxPkt) (rest : List RxPkt),
    tileOn s →
    s.dev.rxq = k :: rest →
    isCmd CK_DESC k = true →
    transportOp (dOpcode (cmdDesc k.bytes)) = false →
    s.dev.obeys k.bytes = true →
    AnswersWith (exec .cmdDescReceive s) fun t =>
      Only [.rxq, .tile] [] s t ∧ t.dev.rxq = rest ∧
      t.dev.tile = { s.dev.tile with
        cmds := s.dev.tile.cmds ++ [(k, s.dev.tile.arrivals, s.dev.time.clk.ticks)], arrivals := s.dev.tile.arrivals + 1 }) ∧
  (∀ (s : State) (k : RxPkt) (rest : List RxPkt),
    tileOn s →
    s.dev.rxq = k :: rest →
    isCmd CK_DESC k = true →
    transportOp (dOpcode (cmdDesc k.bytes)) = false →
    s.dev.obeys k.bytes = false →
    canAnswer s.dev k.bytes = true →
    AnswersWith (exec .cmdDescReceive s) fun t =>
      Only [.rxq, .ports] [] s t ∧ t.dev.rxq = rest ∧ t.dev.ports = rspWaits s.dev k.bytes ST_TWIN_REJECT 0 0 []) ∧
  (∀ (s : State) (k : RxPkt) (a b : Nat),
    tileOn s →
    s.dev.tile.cmds = [(k, a, b)] →
    b + 2500000 ≤ s.dev.time.clk.ticks →
    canAnswer s.dev k.bytes = true →
    s.dev.tile.bulks = [] →
    s.dev.tile.running = [] →
    AnswersWith (exec (.progressRspSend (cmdXid k.bytes)) s) fun t =>
      Only [.tile, .ports] [] s t ∧ t.dev.ports = rspWaits s.dev k.bytes ST_PENDING 0 0 [] ∧
      t.dev.tile = { s.dev.tile with cmds := [(k, a, s.dev.time.clk.ticks)] }) ∧
  (∀ (s : State) (k : RxPkt) (rest : List RxPkt),
    tileOn s →
    s.dev.rxq = k :: rest →
    isCmd CK_BULK_OPEN k = true →
    s.dev.obeys k.bytes = true →
    canAnswer s.dev k.bytes = true →
    s.dev.tile.bulks = [] →
    s.dev.waiting = [] →
    let a := { s.dev with rxq := rest }.bulkAnswer s.straps (cmdDesc k.bytes)
    AnswersWith (exec .bulkOpenReceive s) fun t =>
      Only [.rxq, .ports, .tile] [] s t ∧ t.dev.rxq = rest ∧ t.dev.ports = rspWaits s.dev k.bytes a.1 a.2 0 [] ∧
      t.dev.tile = { s.dev.tile with bulks := [{ pkt := k, data := [], snapshot := none, refused := a.1,
                                                 refusedValue := a.2, boundary := none, opening := none, segs := [], pulls := [], last := none }] }) ∧
  (∀ (s : State) (k : RxPkt) (rest : List RxPkt),
    tileOn s →
    s.dev.rxq = k :: rest →
    isCmd CK_BULK_OPEN k = true →
    s.dev.tile.bulks = [] →
    s.dev.waiting ≠ [] →
    AnswersWith (exec .bulkOpenReceive s) fun t =>
      Only [.rxq, .tile] [] s t ∧ t.dev.rxq = rest ∧
      t.dev.tile = { s.dev.tile with
        arrivals := s.dev.tile.arrivals + 1
        bulks := [{ pkt := k, data := [], snapshot := none, refused := ST_OK, refusedValue := 0, boundary := none,
                    opening := some (k, s.dev.tile.arrivals, s.dev.time.clk.ticks), segs := [], pulls := [], last := none }] }) ∧
  (∀ (s : State) (k : RxPkt) (rest : List RxPkt) (b : BulkIn),
    tileOn s →
    s.dev.rxq = k :: rest →
    isCmd CK_BULK_DATA k = true →
    s.dev.obeys k.bytes = true →
    s.dev.tile.bulks = [b] →
    bulkFrom b.pkt = bulkFrom k →
    b.last = none →
    b.segs = [] →
    s.dev.waiting ≠ [] →
    AnswersWith (exec .bulkDataReceive s) fun t =>
      Only [.rxq, .tile] [] s t ∧ t.dev.rxq = rest ∧
      t.dev.tile = { s.dev.tile with
        arrivals := s.dev.tile.arrivals + 1, bulks := [{ b with segs := [(k, s.dev.tile.arrivals, s.dev.time.clk.ticks)] }] }) ∧
  (∀ (s : State) (k : RxPkt) (rest : List RxPkt) (b : BulkIn),
    tileOn s →
    s.dev.rxq = k :: rest →
    isCmd CK_BULK_DATA k = true →
    s.dev.obeys k.bytes = true →
    s.dev.tile.bulks = [b] →
    bulkFrom b.pkt = bulkFrom k →
    s.dev.waiting = [] →
    b.refused = ST_OK →
    dOpcode (cmdDesc b.pkt.bytes) = 1 →
    cmdOffset k.bytes = b.data.length →
    b.data.length + (cmdData k.bytes).length < bLength (cmdDesc b.pkt.bytes) →
    AnswersWith (exec .bulkDataReceive s) fun t =>
      Only [.rxq, .tile] [] s t ∧ t.dev.rxq = rest ∧
      t.dev.tile = { s.dev.tile with arrivals := s.dev.tile.arrivals + 1, bulks := [{ b with data := b.data ++ cmdData k.bytes }] }) ∧
  (∀ (s : State) (k : RxPkt) (rest : List RxPkt) (b : BulkIn),
    tileOn s →
    s.dev.rxq = k :: rest →
    isCmd CK_BULK_DATA k = true →
    s.dev.obeys k.bytes = true →
    canAnswer s.dev k.bytes = true →
    s.dev.tile.bulks = [b] →
    bulkFrom b.pkt = bulkFrom k →
    s.dev.waiting = [] →
    b.refused = ST_OK →
    dOpcode (cmdDesc b.pkt.bytes) = 1 →
    cmdOffset k.bytes ≠ b.data.length →
    AnswersWith (exec .bulkDataReceive s) fun t =>
      Only [.rxq, .tile, .ports] [] s t ∧ t.dev.rxq = rest ∧ t.dev.ports = rspWaits s.dev k.bytes ST_DATA_CRC 0 0 [] ∧
      t.dev.tile = { s.dev.tile with
        arrivals := s.dev.tile.arrivals + 1, bulks := [{ b with refused := ST_DATA_CRC, refusedValue := 0 }] }) ∧
  (∀ (s : State) (k : RxPkt) (rest : List RxPkt) (b : BulkIn),
    tileOn s →
    s.dev.rxq = k :: rest →
    isCmd CK_BULK_DATA k = true →
    s.dev.obeys k.bytes = true →
    canAnswer s.dev k.bytes = true →
    s.dev.tile.bulks = [b] →
    bulkFrom b.pkt = bulkFrom k →
    s.dev.waiting = [] →
    b.refused = ST_OK →
    dOpcode (cmdDesc b.pkt.bytes) = 1 →
    cmdOffset k.bytes = b.data.length →
    b.data.length + (cmdData k.bytes).length = bLength (cmdDesc b.pkt.bytes) →
    crc32c (b.data ++ cmdData k.bytes) ≠ bDataCrc (cmdDesc b.pkt.bytes) →
    AnswersWith (exec .bulkDataReceive s) fun t =>
      Only [.rxq, .tile, .ports] [] s t ∧ t.dev.rxq = rest ∧ t.dev.ports = rspWaits s.dev k.bytes ST_DATA_CRC 0 0 [] ∧
      t.dev.tile = { s.dev.tile with arrivals := s.dev.tile.arrivals + 1, bulks := [{ b with refused := ST_DATA_CRC, refusedValue := 0 }] }) ∧
  (∀ (s : State) (k : RxPkt) (rest : List RxPkt) (b : BulkIn),
    tileOn s →
    s.dev.rxq = k :: rest →
    isCmd CK_BULK_DATA k = true →
    s.dev.obeys k.bytes = true →
    canAnswer s.dev k.bytes = true →
    s.dev.tile.bulks = [b] →
    bulkFrom b.pkt = bulkFrom k →
    s.dev.waiting = [] →
    b.refused ≠ ST_OK →
    AnswersWith (exec .bulkDataReceive s) fun t =>
      Only [.rxq, .tile, .ports] [] s t ∧ t.dev.rxq = rest ∧ t.dev.ports = rspWaits s.dev k.bytes b.refused b.refusedValue 0 [] ∧
      t.dev.tile = { s.dev.tile with arrivals := s.dev.tile.arrivals + 1 }) ∧
  (∀ (s : State) (k : RxPkt) (rest : List RxPkt) (b : BulkIn) (src : List Byte),
    tileOn s →
    s.dev.rxq = k :: rest →
    isCmd CK_BULK_PULL k = true →
    s.dev.obeys k.bytes = true →
    canAnswer s.dev k.bytes = true →
    s.dev.tile.bulks = [b] →
    bulkFrom b.pkt = bulkFrom k →
    s.dev.waiting = [] →
    b.refused = ST_OK →
    b.snapshot = some src →
    bObject (cmdDesc b.pkt.bytes) ≠ OB_REC_DUMP →
    cmdOffset k.bytes + cmdPullCount k.bytes ≤ bLength (cmdDesc b.pkt.bytes) →
    AnswersWith (exec .bulkPullReceive s) fun t =>
      Only [.rxq, .tile, .ports] [] s t ∧ t.dev.rxq = rest ∧
      t.dev.ports = rspWaits s.dev k.bytes ST_OK 0 (cmdOffset k.bytes) (slice src (cmdOffset k.bytes) (cmdPullCount k.bytes)) ∧
      t.dev.tile = { s.dev.tile with
        bulks := if cmdOffset k.bytes + cmdPullCount k.bytes = bLength (cmdDesc b.pkt.bytes) then [] else [b] }) ∧
  (∀ (s : State) (k : RxPkt) (rest : List RxPkt) (b : BulkIn),
    tileOn s →
    s.dev.rxq = k :: rest →
    isCmd CK_BULK_PULL k = true →
    s.dev.obeys k.bytes = true →
    s.dev.tile.bulks = [b] →
    bulkFrom b.pkt = bulkFrom k →
    b.last = none →
    b.snapshot.isSome = true →
    b.pulls = [] →
    s.dev.waiting ≠ [] →
    AnswersWith (exec .bulkPullReceive s) fun t =>
      Only [.rxq, .tile] [] s t ∧ t.dev.rxq = rest ∧
      t.dev.tile = { s.dev.tile with
        arrivals := s.dev.tile.arrivals + 1, bulks := [{ b with pulls := [(k, s.dev.tile.arrivals, s.dev.time.clk.ticks)] }] }) ∧
  (∀ (s : State) (b : BulkIn) (m : List Byte),
    tileOn s →
    s.dev.tile.bulks = [b] →
    s.dev.firmware = true →
    dOpcode (cmdDesc b.pkt.bytes) = 2 →
    bObject (cmdDesc b.pkt.bytes) = OB_LAMP_MAP ∨ bObject (cmdDesc b.pkt.bytes) = OB_MEAS →
    b.refused = ST_OK →
    b.opening = none →
    b.last = none →
    b.snapshot = none →
    b.pulls = [] →
    b.boundary = some m →
    let desc := cmdDesc b.pkt.bytes
    AnswersWith (exec .bulkSnapshot s) fun t =>
      Only [.tile] [] s t ∧ t.dev.tile = { s.dev.tile with
        bulks := [{ b with snapshot := some (slice m (bOffset desc) (bLength desc)), refusedValue := 0 }] }) ∧
  (∀ (s : State) (b : BulkIn),
    tileOn s →
    s.dev.tile.bulks = [b] →
    b.boundary = none →
    snapshotObject (bObject (cmdDesc b.pkt.bytes)) = true →
    exec .bulkSnapshot s = .next s) ∧
  (∀ (s : State),
    tileOn s →
    s.dev.tile.bulks = [] →
    exec .bulkSnapshot s = .next s)

/-- R335, R336, R349 to R352, LOCAL at a sender and at a tile. Without the lease MGMT_STAGE, UCODE_DELTA and MANIFEST
answer NO_LEASE. A whole chunk whose SHA-256 is that of the staged manifest's next chunk is stored and counted; one
with another hash answers CHUNK_HASH and is discarded. The first bytes of a delta are kept. A manifest is judged
(R349) when its transfer is over: one that passes becomes the staged one and discards all staging. A token that
passes every check is used or held, any other answers TOKEN_BAD; an enrolment request is granted by policy on a
device not OWNED, and denied otherwise. The model's choices in this: that tokens and enrolment need no lease (log
entry 46), that a request of another length than 64 bytes is denied (log entry 155), and how the other role's chunks
are told apart (log entry 115). Completion, with what the next state holds, for: MGMT_STAGE, UCODE_DELTA,
MANIFEST_STAGE, OWNER_TOKEN, ENROLL_REQUEST. -/
def Obligations.StagingObjects : Prop :=
  (∀ (s : State) (ref : CmdRef) (desc data : List Byte),
    WaitsPut ref desc data s = true →
    dOpcode desc = 1 →
    bObject desc = OB_MGMT_STAGE ∨ bObject desc = OB_UCODE_DELTA ∨ (bObject desc = OB_MANIFEST ∧ bParam desc 33 = 0) →
    s.dev.sec.lease = none →
    AnswersWith (exec (if bObject desc = OB_MGMT_STAGE then .mgmtStage ref else if bObject desc = OB_UCODE_DELTA then .ucodeDelta ref else
        .manifestStage ref) s) fun t => Only (answerParts ref) [] s t ∧ PutDone ref desc data ST_NO_LEASE 0 s t) ∧
  (∀ (s : State) (ref : CmdRef) (desc data : List Byte) (e : MEntry),
    WaitsPut ref desc data s = true →
    isObject 1 OB_MGMT_STAGE desc = true →
    chainLease s.dev →
    mfstEntry s.dev.mfstStaged (mgmtKind s.straps) = some e →
    bOffset desc = 65536 * s.dev.nvm.trusted.chunks →
    data.length = min 65536 (e.length - bOffset desc) →
    data ≠ [] →
    s.dev.nvm.trusted.chunks < e.hashes.length →
    sha256 data = nth e.hashes s.dev.nvm.trusted.chunks [] →
    s.dev.nvm.mgmt.length = 2 →
    AnswersWith (exec (.mgmtStage ref) s) fun t =>
      Only ([.sec, .nvm] ++ answerParts ref) [] s t ∧ PutDone ref desc data ST_OK 0 s t ∧
      t.dev.nvm.trusted.chunks = s.dev.nvm.trusted.chunks + 1 ∧ slice (t.dev.mgmt 1) (bOffset desc) data.length = data ∧
      t.dev.mgmt 0 = s.dev.mgmt 0 ∧ t.dev.nvm.manifest = s.dev.nvm.manifest ∧
      t.dev.sec.lease = s.dev.sec.lease.map fun l => (l.1, s.dev.time.clk.ticks, l.2.2)) ∧
  (∀ (s : State) (ref : CmdRef) (desc data : List Byte) (e : MEntry),
    WaitsPut ref desc data s = true →
    isObject 1 OB_MGMT_STAGE desc = true →
    chainLease s.dev →
    mfstEntry s.dev.mfstStaged (mgmtKind s.straps) = some e →
    (mfstEntry s.dev.mfstStaged (3 - mgmtKind s.straps)).all (fun o => !o.isChunk s.dev.nvm.trusted.chunks data) = true →
    bOffset desc = 65536 * s.dev.nvm.trusted.chunks →
    data.length = min 65536 (e.length - bOffset desc) →
    data ≠ [] →
    sha256 data ≠ nth e.hashes s.dev.nvm.trusted.chunks [] →
    AnswersWith (exec (.mgmtStage ref) s) fun t =>
      Only ([.sec] ++ answerParts ref) [] s t ∧ PutDone ref desc data ST_CHUNK_HASH 0 s t) ∧
  (∀ (s : State) (ref : CmdRef) (desc data : List Byte),
    WaitsPut ref desc data s = true →
    isObject 1 OB_UCODE_DELTA desc = true →
    chainLease s.dev →
    (mfstEntry s.dev.mfstStaged 3).isSome = true →
    bOffset desc = 0 →
    data.length < 64 →
    AnswersWith (exec (.ucodeDelta ref) s) fun t =>
      Only ([.sec, .nvm] ++ answerParts ref) [] s t ∧ PutDone ref desc data ST_OK 0 s t ∧ t.dev.nvm.delta = data ∧
      t.dev.nvm.ucode = s.dev.nvm.ucode) ∧
  (∀ (s : State) (ref : CmdRef) (desc data : List Byte),
    WaitsPut ref desc data s = true →
    isObject 1 OB_MANIFEST desc = true →
    bParam desc 33 = 0 →
    chainLease s.dev →
    bOffset desc = 0 →
    s.dev.nvm.trusted.staged = false →
    s.dev.nvm.trusted.manifest < 2 →
    s.dev.nvm.manifest.length = 2 →
    AnswersWith (exec (.manifestStage ref) s) fun t =>
      Only ([.sec, .nvm] ++ answerParts ref) [] s t ∧ PutDone ref desc data (s.dev.mfstStatus s.straps data) 0 s t ∧
      t.dev.sec.mfstPart = (0, []) ∧ t.dev.nvm.trusted.staged = (s.dev.mfstStatus s.straps data == ST_OK) ∧
      t.dev.nvm.mgmt = s.dev.nvm.mgmt ∧ t.dev.nvm.trusted.slot1 = s.dev.nvm.trusted.slot1 ∧
      (s.dev.mfstStatus s.straps data ≠ ST_OK → t.dev.nvm = s.dev.nvm) ∧
      (s.dev.mfstStatus s.straps data = ST_OK → t.dev.nvm.trusted.chunks = 0 ∧ t.dev.nvm.delta = [] ∧
        (nth t.dev.nvm.manifest s.dev.otherMfst NvmSlot.empty).bytes = data)) ∧
  (∀ (s : State) (ref : CmdRef) (desc tok : List Byte),
    WaitsPut ref desc tok s = true →
    isObject 1 OB_MANIFEST desc = true →
    bParam desc 33 = 1 →
    bOffset desc = 0 →
    AnswersWith (exec (.ownerToken ref) s) fun t =>
      t.straps = s.straps ∧ t.pending = s.pending ∧ t.dev.sec.mfstPart = (0, []) ∧
      (if s.dev.tokenOk tok = true then
        PutDone ref desc tok ST_OK 0 s t ∧
        (if tokType tok = 1 then Only ([.sec] ++ answerParts ref) [] s t ∧ t.dev.sec.clearToken = some tok
         else Only ([.sec, .nvm] ++ answerParts ref) [.word SEC_PRIV] s t ∧ t.dev.nvm.trusted.tseq = tokSeq tok ∧
           (tokType tok = 2 → t.dev.nvm.trusted.onair = true) ∧ (tokType tok = 3 → t.dev.nvm.trusted.onair = false) ∧
           (tokType tok = 4 → t.dev.get SEC_PRIV_DEBUG = 1) ∧ (tokType tok = 7 → t.dev.nvm.trusted.slot1 = none))
       else Only ([.sec] ++ answerParts ref) [] s t ∧ PutDone ref desc tok ST_TOKEN_BAD 0 s t)) ∧
  (∀ (s : State) (ref : CmdRef) (desc data : List Byte),
    WaitsPut ref desc data s = true →
    isObject 1 OB_MANIFEST desc = true →
    bParam desc 33 = 2 →
    bOffset desc = 0 →
    data.length = 64 →
    s.dev.nvm.trusted.slot1 = none →
    s.dev.get SEC_PRIV_ENROLL = 1 →
    AnswersWith (exec (.enrollRequest ref) s) fun t =>
      OnlyLogging ([.sec, .nvm] ++ answerParts ref) [] s t ∧ PutDone ref desc data ST_OK 0 s t ∧
      t.dev.nvm.trusted.slot1 = some (slice data 4 60) ∧ t.dev.nvm.trusted.vendorOk = natBit (byteAt data 0) 0 ∧
      Logs [(EV_SEC_ENROLLED.code, 0, 0, 0)] s t) ∧
  (∀ (s : State) (ref : CmdRef) (desc data : List Byte),
    WaitsPut ref desc data s = true →
    isObject 1 OB_MANIFEST desc = true →
    bParam desc 33 = 2 →
    bOffset desc = 0 →
    data.length ≠ 64 ∨ s.dev.nvm.trusted.slot1 ≠ none ∨ s.dev.get SEC_PRIV_ENROLL ≠ 1 →
    AnswersWith (exec (.enrollRequest ref) s) fun t =>
      Only ([.sec] ++ answerParts ref) [] s t ∧ PutDone ref desc data ST_ENROLL_DENIED 0 s t)

/-- R225, R236, R237, R340, R362. A coefficient set is refused with REMOTE_FAULT 1 while a switch is armed; otherwise
one that passes the checks is committed in the slot that is not active, and one that fails, or whose eMRAM write
fails (which the spec leaves open, log entry 51), leaves that slot empty and answers its reason; the active slot
stays. A safe image within the limits replaces its region's image in the object in force; settings replace one block
of the record in force, or answer reason 7 where the write fails; each becomes the object in force under a new
commit record and changes no other object. The layout in which safe images are stored (SafeImage.stored) is the
model's choice (log entry 12). BULK_DATA_READ_DONE starts a LOCAL transfer with its data, or ends it with DMA_ERR
(R50). Completion, with what the next state holds, for: COEF_SET_TO_DEVICE, SAFE_IMAGE, SETTINGS_TO_DEVICE,
BULK_DATA_READ_DONE. -/
def Obligations.StoredObjects : Prop :=
  (∀ (s : State) (desc data : List Byte),
    WaitsPut .remote desc data s = true →
    isObject 1 OB_COEF_SET desc = true →
    s.dev.firmware = true →
    s.dev.get COR_STAT_PEND = 1 →
    AnswersWith (exec (.coefSetToDevice .remote) s) fun t =>
      Only [.tile, .ports] [] s t ∧ PutDone .remote desc data ST_REMOTE_FAULT 1 s t) ∧
  (∀ (s : State) (desc data : List Byte),
    WaitsPut .remote desc data s = true →
    isObject 1 OB_COEF_SET desc = true →
    s.dev.firmware = true →
    s.dev.get COR_STAT_PEND = 0 →
    s.dev.nvm.coef.length = 2 →
    s.dev.get COR_STAT_ACTIVE < 2 →
    let slot := 1 - s.dev.get COR_STAT_ACTIVE
    let reason := (coefSetReason data).or (if Config.freeValue s.dev.free % 2 = 1 then some 7 else none)
    AnswersWith (exec (.coefSetToDevice .remote) s) fun t =>
      Only [.tile, .ports, .nvm, .free] [.field COR_STAT_READY, .field COR_STAT_STAGED, .word (COR_SLOT_ID 0),
        .word (COR_SLOT_ID 1), .word (COR_SLOT_SEQ 0), .word (COR_SLOT_SEQ 1)] s t ∧ t.dev.tile.bulks = [] ∧
      t.dev.nvm.coef[s.dev.get COR_STAT_ACTIVE]? = s.dev.nvm.coef[s.dev.get COR_STAT_ACTIVE]? ∧
      t.dev.nvm.settings = s.dev.nvm.settings ∧ t.dev.nvm.cal = s.dev.nvm.cal ∧
      (∀ r ∈ reason, t.dev.nvm.coef[slot]? = some NvmSlot.empty ∧
        t.dev.ports = rspWaits s.dev (s.dev.tile.bulks.flatMap fun b => (b.last.map fun l => l.1.bytes).getD []) ST_REMOTE_FAULT r 0 []) ∧
      (reason = none →
        (t.dev.nvm.coef[slot]?.map NvmSlot.bytes) = some data ∧ t.dev.get COR_STAT_READY = 0 ∧ t.dev.tile.loading = some true ∧
        t.dev.tile.staged = slot ∧
        t.dev.ports = rspWaits s.dev (s.dev.tile.bulks.flatMap fun b => (b.last.map fun l => l.1.bytes).getD []) ST_OK 0 0 [])) ∧
  (∀ (s : State) (desc data : List Byte),
    WaitsPut .remote desc data s = true →
    isObject 1 OB_SAFE_IMAGE desc = true →
    s.dev.firmware = true →
    s.dev.safeOk desc = true →
    (s.dev.safes.map fun t => t.w * t.h).sum ≤ 49152 →
    s.dev.nvm.safe.length = 2 →
    s.dev.nextSeq NK_SAFE < 2 ^ 32 →
    let others := s.dev.safes.filter fun t => t.region != bParam desc 32 % 4
    let l := if safeRemoves desc = true then others else others ++ [safeOf desc data]
    AnswersWith (exec (.safeImage .remote) s) fun t =>
      Only [.tile, .ports, .nvm] [] s t ∧ PutDone .remote desc data ST_OK 0 s t ∧
      t.dev.objectInForce NK_SAFE = l.flatMap SafeImage.stored ∧ t.dev.nvm.settings = s.dev.nvm.settings ∧
      t.dev.nvm.coef = s.dev.nvm.coef) ∧
  (∀ (s : State) (desc data : List Byte),
    WaitsPut .remote desc data s = true →
    isObject 1 OB_SAFE_IMAGE desc = true →
    s.dev.firmware = true →
    s.dev.safeOk desc = false →
    AnswersWith (exec (.safeImage .remote) s) fun t =>
      Only [.tile, .ports] [] s t ∧ PutDone .remote desc data ST_BAD_PARAM 0 s t) ∧
  (∀ (s : State) (ref : CmdRef) (desc data : List Byte),
    WaitsPut ref desc data s = true →
    isObject 1 OB_SETTINGS desc = true →
    s.dev.firmware = true →
    s.dev.nvm.settings.length = 2 →
    s.dev.nextSeq NK_SETTINGS < 2 ^ 32 →
    let record := settingsRecord (insertBlock
      { id := bParam desc 32 % 16, version := leAt desc 34 2, crc := crc32c data, body := data } s.dev.blocks)
    AnswersWith (exec (.settingsToDevice ref) s) fun t =>
      Only ([.nvm, .free] ++ answerParts ref) [] s t ∧ t.dev.nvm.coef = s.dev.nvm.coef ∧ t.dev.nvm.cal = s.dev.nvm.cal ∧
      t.dev.nvm.safe = s.dev.nvm.safe ∧
      (if record.length ≤ 65536 then
        if Config.freeValue s.dev.free % 2 = 1 then PutDone ref desc data ST_REMOTE_FAULT 7 s t ∧ t.dev.nvm = s.dev.nvm
        else PutDone ref desc data ST_OK 0 s t ∧ t.dev.objectInForce NK_SETTINGS = record
       else PutDone ref desc data ST_BAD_PARAM 0 s t ∧ t.dev.nvm = s.dev.nvm)) ∧
  (∀ (s : State) (i : Nat) (desc data : List Byte),
    oneDesc (bulkAt i desc .fetched []) s = true →
    dLocal desc = true →
    isBcast desc = false →
    dOpcode desc = 1 →
    (s.dev.bulkAnswer s.straps desc).1 = ST_OK →
    data.length = bLength desc →
    AnswersWith (exec (.bulkDataReadDone i (some data)) s) fun t =>
      Only [.host] [] s t ∧ t.dev.host = { s.dev.host with descs := [bulkAt i desc .started data] }) ∧
  (∀ (s : State) (i : Nat) (desc : List Byte),
    oneDesc (bulkAt i desc .fetched []) s = true →
    dLocal desc = true →
    dOpcode desc = 1 →
    bulkLimitsOk desc = true →
    AnswersWith (exec (.bulkDataReadDone i none) s) fun t =>
      Only [.host] [] s t ∧ t.dev.host = s.dev.host.completed (bulkAt i desc .fetched []) ST_DMA_ERR 0)

/-- R237, R276, R347, R362, R377. Each transfer is served from bytes taken once: the attestation report of the next leaf
over the nonce (the leaf count goes up by one, the committed count by 64 when the leaves run out of it), a committed
coefficient set as stored, the snapshot of LAMP_MAP or MEAS taken at the frame boundary, a settings block's header
or body; a sender writes them to host memory and completes with their CRC. With no leaf left ATTEST answers
LMS_EXHAUSTED. A dump's header holds OLDEST, NEWEST, FIRST, COUNT and the lost count. Completion, with what the next
state holds, for: ATTEST, COEF_SET_FROM_DEVICE, LAMP_MAP, MEAS, REC_DUMP, SETTINGS_FROM_DEVICE. -/
def Obligations.ServedObjects : Prop :=
  (∀ (s : State) (ref : CmdRef) (desc : List Byte),
    WaitsGet ref desc s = true →
    isObject 2 OB_ATTEST desc = true →
    s.dev.sec.leaf < 2 ^ 20 →
    bLength desc = 8192 →
    let q := s.dev.sec.leaf
    AnswersWith (exec (.attest ref) s) fun t =>
      Only ([.sec, .nvm] ++ getParts ref) [] s t ∧ GetDone ref desc (s.dev.report s.straps (slice desc 32 16) q) s t ∧
      t.dev.sec = { s.dev.sec with leaf := q + 1 } ∧
      t.dev.nvm.trusted.nextQ = (if q = s.dev.nvm.trusted.nextQ then q + 64 else s.dev.nvm.trusted.nextQ)) ∧
  (∀ (s : State) (desc : List Byte),
    WaitsGet .remote desc s = true →
    isObject 2 OB_ATTEST desc = true →
    2 ^ 20 ≤ s.dev.sec.leaf →
    AnswersWith (exec (.attest .remote) s) fun t =>
      Only [.tile] [] s t ∧ (t.dev.tile.bulks.map BulkIn.refused) = [ST_LMS_EXHAUSTED]) ∧
  (∀ (s : State) (desc : List Byte) (slot : Nat),
    WaitsGet .remote desc s = true →
    isObject 2 OB_COEF_SET desc = true →
    s.dev.coefNamed desc = some slot →
    AnswersWith (exec (.coefSetFromDevice .remote) s) fun t =>
      Only [.tile, .free] [.field NVM_STAT_CE] s t ∧ GetDone .remote desc (s.dev.slotObject NK_COEF slot) s t) ∧
  (∀ (s : State) (desc m : List Byte),
    WaitsGet .remote desc s = true →
    isObject 2 OB_LAMP_MAP desc = true →
    (s.dev.tile.bulks.map BulkIn.boundary) = [some m] →
    AnswersWith (exec (.lampMap .remote) s) fun t =>
      Only [.tile] [] s t ∧ GetDone .remote desc (slice m (bOffset desc) (bLength desc)) s t) ∧
  (∀ (s : State) (desc m : List Byte),
    WaitsGet .remote desc s = true →
    isObject 2 OB_MEAS desc = true →
    (s.dev.tile.bulks.map BulkIn.boundary) = [some m] →
    AnswersWith (exec (.meas .remote) s) fun t =>
      Only [.tile] [] s t ∧ GetDone .remote desc (slice m (bOffset desc) (bLength desc)) s t) ∧
  (∀ (s : State) (i : Nat) (desc : List Byte),
    oneDesc (bulkAt i desc .fetched []) s = true →
    dLocal desc = true →
    isObject 2 OB_LAMP_MAP desc = true ∨ isObject 2 OB_MEAS desc = true →
    AnswersWith (exec (if bObject desc = OB_LAMP_MAP then .lampMap (.ring i) else .meas (.ring i)) s) fun t =>
      Only [.host] [] s t ∧ t.dev.host = s.dev.host.completed (bulkAt i desc .fetched []) ST_BAD_PARAM 0) ∧
  (∀ (s : State) (desc : List Byte),
    WaitsGet .remote desc s = true →
    isObject 2 OB_REC_DUMP desc = true →
    s.dev.get REC_STAT_EMPTY = 0 →
    bParam desc 36 % 2 = 1 →
    let oldest := s.dev.get REC_OLDEST_SEQ
    let newest := s.dev.get REC_NEWEST_SEQ
    AnswersWith (exec (.recDump .remote) s) fun t =>
      Only [.tile, .free] [.field NVM_STAT_CE] s t ∧ GetDone .remote desc (leBytes oldest 4 ++ leBytes newest 4 ++ leBytes oldest 4 ++
        leBytes (if precedes newest oldest = true then 0 else min (dist32 oldest newest + 1) ((bLength desc - 32) / 32)) 4 ++
        leBytes (s.dev.get REC_LOST_CNT_COUNT) 4 ++ leBytes (s.dev.get TIME_STAT_TEPOCH) 1 ++ zeros 11) s t) ∧
  (∀ (s : State) (i : Nat) (desc : List Byte),
    oneDesc (bulkAt i desc .fetched []) s = true →
    dLocal desc = true →
    isObject 2 OB_REC_DUMP desc = true →
    s.dev.firmware = true →
    bulkLimitsOk desc = true →
    bOffset desc = 0 →
    bLength desc = 64 →
    s.dev.get REC_STAT_EMPTY = 0 →
    bParam desc 36 % 2 = 1 →
    s.dev.get REC_OLDEST_SEQ = s.dev.get REC_NEWEST_SEQ →
    let n := s.dev.get REC_NEWEST_SEQ
    let bytes := leBytes n 4 ++ leBytes n 4 ++ leBytes n 4 ++ leBytes 1 4 ++ leBytes (s.dev.get REC_LOST_CNT_COUNT) 4 ++
      leBytes (s.dev.get TIME_STAT_TEPOCH) 1 ++ zeros 11 ++ slice (recDumpRecord s.dev n) 0 32
    AnswersWith (exec (.recDump (.ring i)) s) fun t =>
      Only [.host, .out, .free] [.field NVM_STAT_CE] s t ∧ t.dev.out = s.dev.out ++ [.hostWrite (bHostAddr desc) bytes] ∧
      t.dev.host = s.dev.host.completed (bulkAt i desc .fetched []) ST_OK (crc32c bytes)) ∧
  (∀ (s : State) (ref : CmdRef) (desc : List Byte) (b : SetBlock),
    WaitsGet ref desc s = true →
    isObject 2 OB_SETTINGS desc = true →
    s.dev.firmware = true →
    s.dev.block (bParam desc 32 % 16) = some b →
    AnswersWith (exec (.settingsFromDevice ref) s) fun t =>
      Only (.free :: getParts ref) [.field NVM_STAT_CE] s t ∧ GetDone ref desc (if natBit (bParam desc 33) 0 = true then b.header else b.body) s t)

/-- R469, for each of CMP_FP_ARM, COR_ARM, GRY_FADE_ARM and AON_DORM_ARM: a register write with bits 0 (ARM) and 1
(DISARM) both set has the outcome of the register's DISARM command, which answers with PEND = 0, nothing armed, and
no other field of the register file changed, so no refusal flag is set. Completion, with what the next state holds,
for: FOOTPRINT_DISARM, COR_DISARM, FADE_DISARM, DORMANT_DISARM. -/
def Obligations.ArmAndDisarmTogether : Prop :=
  (∀ (s : State) (init : Initiator) (v : Word),
    deviceOn s →
    mayWrite s.straps init s.dev = true →
    v.getLsbD 0 = true →
    v.getLsbD 1 = true →
    exec (.registerWrite init CMP_FP_ARM .word v) s = exec (.footprintDisarm init) s ∧
      AnswersWith (exec (.footprintDisarm init) s) fun t =>
        Only [] [.field CMP_FP_ARM_PEND] s t ∧ t.dev.get CMP_FP_ARM_PEND = 0) ∧
  (∀ (s : State) (init : Initiator) (v : Word),
    tileOn s →
    mayWrite s.straps init s.dev = true →
    v.getLsbD 0 = true →
    v.getLsbD 1 = true →
    exec (.registerWrite init COR_ARM .word v) s = exec (.corDisarm init) s ∧
      AnswersWith (exec (.corDisarm init) s) fun t => Only [] [.field COR_STAT_PEND] s t ∧ t.dev.get COR_STAT_PEND = 0) ∧
  (∀ (s : State) (init : Initiator) (v : Word),
    tileOn s →
    mayWrite s.straps init s.dev = true →
    v.getLsbD 0 = true →
    v.getLsbD 1 = true →
    exec (.registerWrite init GRY_FADE_ARM .word v) s = exec (.fadeDisarm init) s ∧
      AnswersWith (exec (.fadeDisarm init) s) fun t =>
        Only [.tile] [.field GRY_FADE_ARM_PEND] s t ∧ t.dev.get GRY_FADE_ARM_PEND = 0 ∧
        t.dev.tile = { s.dev.tile with fadePend := none }) ∧
  (∀ (s : State) (init : Initiator) (v : Word),
    deviceOn s →
    mayWrite s.straps init s.dev = true →
    v.getLsbD 0 = true →
    v.getLsbD 1 = true →
    exec (.registerWrite init AON_DORM_ARM .word v) s = exec (.dormantDisarm init) s ∧
      AnswersWith (exec (.dormantDisarm init) s) fun t =>
        Only [] [.field AON_DORM_ARM_PEND] s t ∧ t.dev.get AON_DORM_ARM_PEND = 0)

/-- PACING_CYCLE (R42): the effective level is the higher request under the cap. VLOW_EXCURSION and VLOW_END (R38): VLOW
and VLOW_SEEN are set and every frame between its compose deadline and its present time that had not failed fails
condition 2; the end clears VLOW alone. FAB_PINJ (R470): an injection is armed only with TEST_EN, replaces the one
armed, and is cancelled; one armed for a memory that its own core writes all the time inverts a byte there at once
(log entry 99). An engine whose reload is done leaves the list of engines that hold frames, and no byte of its
memory stands wrong but one that an injection armed for it has inverted (R45). Nothing else changes. Completion,
with what the next state holds, for: PACING_CYCLE, VLOW_EXCURSION, VLOW_END, FAB_PINJ_ARM, FAB_PINJ_CANCEL,
ENGINE_RELOAD_DONE. -/
def Obligations.FabricSupplyAndPacing : Prop :=
  (∀ (s : State),
    deviceOn s →
    AnswersWith (exec .pacingCycle s) fun t =>
      Only [] [.field FAB_STAT_LEVEL] s t ∧ t.dev.get FAB_STAT_LEVEL =
        min (s.dev.get FAB_CTRL_THR_MAX) (max (s.dev.get FAB_STAT_TLEVEL) (s.dev.get FAB_CTRL_SW_LEVEL))) ∧
  (∀ (s : State),
    deviceOn s →
    AnswersWith (exec .vlowExcursion s) fun t =>
      Only [.tile] [.field FAB_STAT_VLOW, .field FAB_STAT_VLOW_SEEN] s t ∧ t.dev.get FAB_STAT_VLOW = 1 ∧
      t.dev.get FAB_STAT_VLOW_SEEN = 1 ∧
      t.dev.tile.frames = s.dev.tile.frames.map fun f =>
        if f.present - 1500000 ≤ s.dev.now ∧ f.fail = none then { f with fail := some 2 } else f) ∧
  (∀ (s : State),
    deviceOn s →
    AnswersWith (exec .vlowEnd s) fun t => Only [] [.field FAB_STAT_VLOW] s t ∧ t.dev.get FAB_STAT_VLOW = 0) ∧
  (∀ (s : State) (init : Initiator) (mem : Fin 16) (unit : Fin 256),
    deviceOn s →
    mayWrite s.straps init s.dev = true →
    s.dev.get FAB_CTRL_TEST_EN = 1 →
    s.dev.alwaysWritten mem = false →
    AnswersWith (exec (.fabPinjArm init mem unit) s) fun t =>
      Only [.parity] [] s t ∧ t.dev.parity = { s.dev.parity with armed := some ((mem : Nat), (unit : Nat)) }) ∧
  (∀ (s : State) (init : Initiator) (mem : Fin 16) (unit : Fin 256),
    deviceOn s →
    mayWrite s.straps init s.dev = true →
    s.dev.get FAB_CTRL_TEST_EN = 1 →
    s.dev.alwaysWritten mem = true →
    AnswersWith (exec (.fabPinjArm init mem unit) s) fun t =>
      Only [.parity, .free] [] s t ∧ t.dev.parity.armed = none ∧
      (t.dev.parity.bad.map fun b => (b.mem, b.unit)) = ((mem : Nat), (unit : Nat)) :: s.dev.parity.bad.map fun b => (b.mem, b.unit)) ∧
  (∀ (s : State) (init : Initiator) (mem : Fin 16) (unit : Fin 256),
    deviceOn s →
    s.dev.get FAB_CTRL_TEST_EN = 0 →
    exec (.fabPinjArm init mem unit) s = .next s) ∧
  (∀ (s : State) (init : Initiator),
    deviceOn s →
    mayWrite s.straps init s.dev = true →
    AnswersWith (exec (.fabPinjCancel init) s) fun t =>
      Only [.parity] [] s t ∧ t.dev.parity = { s.dev.parity with armed := none }) ∧
  (∀ (s : State) (engine : Fin 192),
    deviceOn s →
    (engine : Nat) ∈ s.dev.tile.reload →
    let other := fun b : BadByte => !(b.mem == 0 && b.unit == engine)
    AnswersWith (exec (.engineReloadDone engine) s) fun t =>
      Only [.tile, .parity, .free] [] s t ∧ t.dev.tile = { s.dev.tile with reload := s.dev.tile.reload.erase engine } ∧
      t.dev.parity.bad.filter other = s.dev.parity.bad.filter other ∧
      (if s.dev.parity.armed = some (0, (engine : Nat)) then t.dev.parity.armed = none
       else t.dev.parity.armed = s.dev.parity.armed ∧ t.dev.parity.bad.all other = true)) ∧
  (∀ (s : State) (engine : Fin 192),
    deviceOn s →
    (engine : Nat) ∉ s.dev.tile.reload →
    exec (.engineReloadDone engine) s = .next s)

/-- SRAM_PARITY_ERROR (R45): a read finds an error, at the byte that stands with inverted parity in the unit, or where
an upset has changed one. It is counted, the first one is kept in FAB_PERR_LOG and FAB_PERR_ADDR, FAB_PARITY is
recorded with memory, unit and offset; an error of memory 4 darkens the bank for the slot, one of engine SRAM of a
tile reloads the engine and holds the frame in progress, one of a management core's memory raises a data abort in
it; one in Nutcracker's memory is a warm reset with cause 6, after which FAB_PARITY and GEN_RESET are recorded. A
memory that the role does not have has no error. The model's choices in this: that COUNT wraps at 2^32 (log entry
100), and that GEN_RESET is recorded at this reset, and FAB_PARITY after it (log entry 61). Completion, with what
the next state holds, for: SRAM_PARITY_ERROR. -/
def Obligations.ParityErrors : Prop :=
  (∀ (s : State) (unit offset : Nat),
    tileOn s →
    unit < 48 →
    ((s.dev.badByte 4 unit).map BadByte.offset).getD offset < 2 ^ 32 →
    s.dev.get FAB_PERR_LOG_VALID = 0 →
    let found := ((s.dev.badByte 4 unit).map BadByte.offset).getD offset
    AnswersWith (exec (.sramParityError 4 unit offset) s) fun t =>
      OnlyLogging [.tile, .parity] [.field FAB_PERR_CNT_COUNT, .field FAB_PERR_LOG_MEM, .field FAB_PERR_LOG_UNIT,
        .field FAB_PERR_LOG_VALID, .field FAB_PERR_ADDR_OFFSET] s t ∧
      t.dev.get FAB_PERR_CNT_COUNT = (s.dev.get FAB_PERR_CNT_COUNT + 1) % 2 ^ 32 ∧ t.dev.get FAB_PERR_LOG_MEM = 4 ∧
      t.dev.get FAB_PERR_LOG_UNIT = unit ∧ t.dev.get FAB_PERR_ADDR_OFFSET = found ∧ t.dev.get FAB_PERR_LOG_VALID = 1 ∧
      t.dev.tile.drive = { s.dev.tile.drive with darkBanks := unit :: s.dev.tile.drive.darkBanks } ∧
      Logs [(EV_FAB_PARITY.code, 4, unit, found)] s t) ∧
  (∀ (s : State) (unit offset : Nat),
    tileOn s →
    unit < 192 →
    ((s.dev.badByte 0 unit).map BadByte.offset).getD offset < 2 ^ 32 →
    s.dev.get FAB_PERR_LOG_VALID = 1 →
    AnswersWith (exec (.sramParityError 0 unit offset) s) fun t =>
      OnlyLogging [.tile, .parity] [.field FAB_PERR_CNT_COUNT] s t ∧ unit ∈ t.dev.tile.reload ∧
      (∀ f ∈ t.dev.tile.frames.head?, ∀ g ∈ s.dev.tile.frames.head?, g.composed = false → f.fail.isSome = true) ∧
      Logs [(EV_FAB_PARITY.code, 0, unit, ((s.dev.badByte 0 unit).map BadByte.offset).getD offset)] s t) ∧
  (∀ (s : State) (unit offset : Nat),
    deviceOn s →
    unit < 2 →
    ((s.dev.badByte 5 unit).map BadByte.offset).getD offset < 2 ^ 32 →
    AnswersWith (exec (.sramParityError 5 unit offset) s) fun t =>
      OnlyLogging [.parity, .out] [.field FAB_PERR_CNT_COUNT, .word FAB_PERR_LOG, .word FAB_PERR_ADDR] s t ∧
      t.dev.out = s.dev.out ++ [.dataAbort unit] ∧
      Logs [(EV_FAB_PARITY.code, 5, unit, ((s.dev.badByte 5 unit).map BadByte.offset).getD offset)] s t) ∧
  (∀ (s : State) (offset : Nat),
    deviceOn s →
    AnswersWith (exec (.sramParityError 6 0 offset) s) fun t =>
      t.straps = s.straps ∧ t.pending = s.pending ∧ t.dev.get GRY_STAT_HELD = 0 ∧ t.dev.get GEN_RST_CAUSE_CAUSE = 6 ∧
      objectsKept s.dev t.dev ∧ frameStoreDark t.dev ∧ t.dev.boot.power = .awake ∧ HasLogged EV_GEN_RESET 6 0 0 t ∧
      HasLogged EV_FAB_PARITY 6 0 (((s.dev.badByte 6 0).map BadByte.offset).getD offset % 2 ^ 32) t) ∧
  (∀ (s : State) (mem unit offset : Nat),
    deviceOn s →
    memExists s.straps mem unit = false →
    exec (.sramParityError mem unit offset) s = .next s)

/-- FADE_ARM, FADE_START and FADE_END (R249): an arm at least 50 ms ahead whose TGT and DUR hold no reserved encoding
sets PEND and takes L0 from GRY_LEVEL when no fade runs; any other arm sets LATE and nothing else. At AT the fade
runs: PEND clears and RUN is set. At AT + DUR it ends: LVL takes the target, RUN clears and GRY_FADE_DONE is
recorded. Completion, with what the next state holds, for: FADE_ARM, FADE_START, FADE_END. -/
def Obligations.Fades : Prop :=
  (∀ (s : State) (init : Initiator),
    tileOn s →
    mayWrite s.straps init s.dev = true →
    s.dev.now + 50000000 ≤ s.dev.fadeAt →
    s.dev.get GRY_FADE_TGT ≤ 98304 →
    s.dev.get GRY_FADE_DUR_MS = 0 ∨ (10 ≤ s.dev.get GRY_FADE_DUR_MS ∧ s.dev.get GRY_FADE_DUR_MS ≤ 60000) →
    s.dev.tile.fadeRun = none →
    AnswersWith (exec (.fadeArm init) s) fun t =>
      Only [.tile] [.field GRY_FADE_ARM_PEND] s t ∧ t.dev.get GRY_FADE_ARM_PEND = 1 ∧ t.dev.tile = { s.dev.tile with
        fadePend := some (s.dev.get GRY_LEVEL_LVL, s.dev.get GRY_FADE_TGT, s.dev.fadeAt, s.dev.get GRY_FADE_DUR_MS) }) ∧
  (∀ (s : State) (init : Initiator),
    tileOn s →
    mayWrite s.straps init s.dev = true →
    s.dev.fadeAt < s.dev.now + 50000000 ∨ 98304 < s.dev.get GRY_FADE_TGT ∨
      (s.dev.get GRY_FADE_DUR_MS ≠ 0 ∧ s.dev.get GRY_FADE_DUR_MS < 10) →
    AnswersWith (exec (.fadeArm init) s) fun t =>
      Only [] [.field GRY_FADE_ARM_LATE] s t ∧ t.dev.get GRY_FADE_ARM_LATE = 1) ∧
  (∀ (s : State) (f : Nat × Nat × Nat × Nat),
    tileOn s →
    s.dev.tile.fadePend = some f →
    f.2.2.1 ≤ s.dev.now →
    AnswersWith (exec .fadeStart s) fun t =>
      Only [.tile] [.field GRY_FADE_ARM_PEND, .field GRY_FADE_ARM_RUN] s t ∧ t.dev.get GRY_FADE_ARM_PEND = 0 ∧
      t.dev.get GRY_FADE_ARM_RUN = 1 ∧ t.dev.tile.fadePend = none ∧ t.dev.tile.fadeRun = some f) ∧
  (∀ (s : State) (f : Nat × Nat × Nat × Nat),
    tileOn s →
    s.dev.tile.fadeRun = some f →
    s.dev.get GRY_FADE_ARM_RUN = 1 →
    f.2.1 ≤ 98304 →
    f.2.2.1 + f.2.2.2 * 1000000 ≤ s.dev.now →
    AnswersWith (exec .fadeEnd s) fun t =>
      OnlyLogging [] [.field GRY_LEVEL_LVL, .field GRY_FADE_ARM_RUN] s t ∧ t.dev.get GRY_LEVEL_LVL = f.2.1 ∧
      t.dev.get GRY_FADE_ARM_RUN = 0 ∧ Logs [(EV_GRY_FADE_DONE.code, 0, 0, 0)] s t) ∧
  (∀ (s : State),
    tileOn s →
    s.dev.tile.fadePend = none →
    s.dev.tile.fadeRun = none →
    exec .fadeStart s = .next s ∧ exec .fadeEnd s = .next s)

/-- FOOTPRINT_ARM and FOOTPRINT_SWITCH (R213): an arm at least 50 ms ahead, in sender role also later than the present
time of every accepted flip, sets PEND; any other sets FP_LATE and leaves PEND. At AT the NEXT registers become CUR
(a tile's footprint, every entry of a sender's map), PEND clears and CMP_FP_SWITCH is recorded; before AT, or with
nothing armed, nothing happens. Completion, with what the next state holds, for: FOOTPRINT_ARM, FOOTPRINT_SWITCH. -/
def Obligations.FootprintChanges : Prop :=
  (∀ (s : State) (init : Initiator),
    deviceOn s →
    mayWrite s.straps init s.dev = true →
    s.dev.now + 50000000 ≤ s.dev.fpAt →
    (s.straps.role = .tile ∨ ∀ f ∈ s.dev.host.queue ++ s.dev.host.flying, f.present < s.dev.fpAt) →
    AnswersWith (exec (.footprintArm init) s) fun t =>
      Only [] [.field CMP_FP_ARM_PEND] s t ∧ t.dev.get CMP_FP_ARM_PEND = 1) ∧
  (∀ (s : State) (init : Initiator),
    deviceOn s →
    mayWrite s.straps init s.dev = true →
    (s.dev.fpAt < s.dev.now + 50000000 ∨ (s.straps.role = .sender ∧ ∃ f ∈ s.dev.host.queue, s.dev.fpAt ≤ f.present)) →
    AnswersWith (exec (.footprintArm init) s) fun t =>
      Only [] [.field CMP_STAT_FP_LATE] s t ∧ t.dev.get CMP_STAT_FP_LATE = 1) ∧
  (∀ (s : State),
    tileOn s →
    s.dev.get CMP_FP_ARM_PEND = 1 →
    s.dev.fpAt ≤ s.dev.now →
    AnswersWith (exec .footprintSwitch s) fun t =>
      OnlyLogging [] [.word CMP_FP_CUR0, .word CMP_FP_CUR1, .field CMP_FP_ARM_PEND, .field COR_STAT_MISMATCH_SEEN] s t ∧
      t.dev.rd CMP_FP_CUR0 = s.dev.rd CMP_FP_NEXT0 ∧ t.dev.rd CMP_FP_CUR1 = s.dev.rd CMP_FP_NEXT1 ∧
      t.dev.get CMP_FP_ARM_PEND = 0 ∧
      (s.dev.rcd.queue.length < 31 → HasLogged EV_CMP_FP_SWITCH 0 0 0 t)) ∧
  (∀ (s : State) (x : Fin 4) (q : Fin 64),
    senderOn s →
    s.dev.get CMP_FP_ARM_PEND = 1 →
    s.dev.fpAt ≤ s.dev.now →
    AnswersWith (exec .footprintSwitch s) fun t =>
      OnlyLogging [] [.block 6] s t ∧ t.dev.rd (CMP_FM_CUR0 x q) = s.dev.rd (CMP_FM_NEXT0 x q) ∧
      t.dev.rd (CMP_FM_CUR1 x q) = s.dev.rd (CMP_FM_NEXT1 x q) ∧ t.dev.get CMP_FP_ARM_PEND = 0 ∧
      Logs [(EV_CMP_FP_SWITCH.code, 0, 0, 0)] s t) ∧
  (∀ (s : State),
    deviceOn s →
    s.dev.get CMP_FP_ARM_PEND = 0 ∨ s.dev.now < s.dev.fpAt →
    exec .footprintSwitch s = .next s)

/-- Coefficient sets of a tile (R229, R236, R238, R239): an arm with READY and AT at least 50 ms ahead sets PEND, any
other sets ARM_LATE; a staged set that is loaded sets READY, and COR_SET_STAGED is recorded for one that was
transferred; at AT the staged slot becomes active, PEND and READY clear; the commit that follows writes to the new
slot an activation sequence one more than the higher of the two, modulo 65,536, which is the model's choice (log
entry 56); COR_CANVAS takes TF up to 3 and PRIM up to 2 and keeps a field whose encoding is reserved. Completion,
with what the next state holds, for: COR_ARM, COEF_SET_LOADED, COEF_SET_SWITCH, COEF_ACTIVATION_COMMIT,
COR_CANVAS_WRITE. -/
def Obligations.CoefficientSets : Prop :=
  (∀ (s : State) (init : Initiator),
    tileOn s →
    mayWrite s.straps init s.dev = true →
    s.dev.get COR_STAT_READY = 1 →
    s.dev.now + 50000000 ≤ s.dev.corAt →
    AnswersWith (exec (.corArm init) s) fun t =>
      Only [] [.field COR_STAT_PEND] s t ∧ t.dev.get COR_STAT_PEND = 1) ∧
  (∀ (s : State) (init : Initiator),
    tileOn s →
    mayWrite s.straps init s.dev = true →
    s.dev.get COR_STAT_READY = 0 ∨ s.dev.corAt < s.dev.now + 50000000 →
    AnswersWith (exec (.corArm init) s) fun t =>
      Only [] [.field COR_STAT_ARM_LATE] s t ∧ t.dev.get COR_STAT_ARM_LATE = 1) ∧
  (∀ (s : State) (moved : Bool),
    tileOn s →
    s.dev.tile.loading = some moved →
    AnswersWith (exec .coefSetLoaded s) fun t =>
      OnlyLogging [.tile, .free] [.field COR_STAT_READY, .field NVM_STAT_CE] s t ∧ t.dev.get COR_STAT_READY = 1 ∧
      t.dev.tile = { s.dev.tile with loading := none } ∧
      Logs (if moved then [(EV_COR_SET_STAGED.code, 0, 0, 0)] else []) s t) ∧
  (∀ (s : State),
    tileOn s →
    s.dev.get COR_STAT_PEND = 1 →
    s.dev.corAt ≤ s.dev.now →
    s.dev.tile.staged < 2 →
    AnswersWith (exec .coefSetSwitch s) fun t =>
      OnlyLogging [.tile] [.block 7] s t ∧ t.dev.get COR_STAT_ACTIVE = s.dev.tile.staged ∧ t.dev.get COR_STAT_PEND = 0 ∧
      t.dev.get COR_STAT_READY = 0 ∧ t.dev.tile = { s.dev.tile with actCommit := some s.dev.time.clk.ticks } ∧
      (s.dev.rcd.queue.length < 30 → HasLogged EV_COR_SET_SWITCH 0 0 0 t)) ∧
  (∀ (s : State) (tick : Nat) (n : Fin 2) (q : Nat × Nat),
    tileOn s →
    s.dev.tile.actCommit = some tick →
    s.dev.get COR_STAT_ACTIVE = n →
    s.dev.nvm.coefSeq[(n : Nat)]? = some q →
    AnswersWith (exec .coefActivationCommit s) fun t =>
      Only [.tile, .nvm] [.block 7] s t ∧ t.dev.tile = { s.dev.tile with actCommit := none } ∧
      t.dev.nvm.coefSeq[(n : Nat)]? = some (q.1, (max (s.dev.coefSeqOf 0).2 (s.dev.coefSeqOf 1).2 + 1) % 65536) ∧
      t.dev.nvm.coef = s.dev.nvm.coef ∧ t.dev.nvm.cal = s.dev.nvm.cal) ∧
  (∀ (s : State) (init : Initiator) (v : Word),
    tileOn s →
    mayWrite s.straps init s.dev = true →
    AnswersWith (exec (.corCanvasWrite init v) s) fun t =>
      OnlyLogging [] [.field COR_CANVAS_TF, .field COR_CANVAS_PRIM, .field COR_STAT_MISMATCH_SEEN] s t ∧
      t.dev.get COR_CANVAS_TF = (if v.toNat % 16 ≤ 3 then v.toNat % 16 else s.dev.get COR_CANVAS_TF) ∧
      t.dev.get COR_CANVAS_PRIM = (if v.toNat / 16 % 16 ≤ 2 then v.toNat / 16 % 16 else s.dev.get COR_CANVAS_PRIM))

/-- PRESENT_FRAME (R28, R29): at its present time a frame that no condition of R28 fails is presented: the back half of
the frame store becomes the front half and the front half the back, with the bytes that stand with inverted parity,
the frame is done with, and GRY_STAT.HELD is 0. A frame that failed leaves the front half as it is, counts as held,
sets HELD and records FRAME_HELD with its condition; one not composed in time, or while an engine is being reloaded,
is held with condition 4. After a change of the source (R281) a frame not later than the last one presented is
dropped without either. At this frame boundary a LAMP_MAP or MEAS transfer opened since the last one gets its
snapshot (R276). Straps, ports, host part, eMRAM, recorder slots and the clock stay. Before the present time nothing
happens. Completion, with what the next state holds, for: PRESENT_FRAME. -/
def Obligations.PresentOrHold : Prop :=
  (∀ (s : State) (f : TileFrame) (rest : List TileFrame),
    tileOn s →
    s.dev.tile.frames = f :: rest →
    f.judged = true →
    f.present ≤ s.dev.now →
    s.dev.tile.changed = false →
    f.fail = none →
    f.composed = true →
    s.dev.enginesReady = true →
    AnswersWith (exec .presentFrame s) fun t =>
      OnlyLogging [.tile, .frameStore, .diag, .crc, .parity, .free] [.block 6, .block 8, .block 9, .block 0xA, .block 0xC, .block 0xD,
        .block 0x10, .block 0x13] s t ∧
      t.dev.tile.front = s.dev.tile.back ∧ t.dev.tile.back = s.dev.tile.front ∧
      t.dev.tile.frames = rest.filter (fun g => !g.same f) ∧ t.dev.tile.drive.lastPresent = some f.present ∧
      t.dev.parity.bad = s.dev.parity.bad.map swapItem ∧ t.dev.parity.armed = s.dev.parity.armed ∧
      t.dev.tile.drive.lastFrame = f.frame ∧ t.dev.get GRY_STAT_HELD = 0 ∧ t.dev.tile.heldCount = s.dev.tile.heldCount) ∧
  (∀ (s : State) (f : TileFrame) (rest : List TileFrame) (c : Nat),
    tileOn s →
    s.dev.tile.frames = f :: rest →
    f.judged = true →
    f.present ≤ s.dev.now →
    s.dev.tile.changed = false →
    (f.fail = some c ∧ c < 16) ∨ (f.fail = none ∧ (f.composed = false ∨ s.dev.enginesReady = false) ∧ c = 4) →
    AnswersWith (exec .presentFrame s) fun t =>
      OnlyLogging [.tile, .diag, .free] [.block 6, .block 8, .block 9, .block 0xA, .block 0xC, .block 0xD, .block 0x13] s t ∧
      t.dev.tile.front = s.dev.tile.front ∧ t.dev.tile.back = s.dev.tile.back ∧
      t.dev.tile.frames = rest.filter (fun g => !g.same f) ∧ t.dev.tile.heldCount = s.dev.tile.heldCount + 1 ∧ t.dev.get GRY_STAT_HELD = 1 ∧
      t.dev.tile.drive.lastPresent = s.dev.tile.drive.lastPresent ∧
      (s.dev.rcd.queue.length < 32 →
        HasLogged EV_FRAME_HELD c (f.present % 1000000000) (f.present / 1000000000 % 2 ^ 32) t)) ∧
  (∀ (s : State) (f : TileFrame) (rest : List TileFrame) (b : BulkIn),
    tileOn s →
    s.dev.tile.frames = f :: rest →
    f.judged = true →
    f.present ≤ s.dev.now →
    s.dev.tile.changed = false →
    s.dev.tile.bulks = [b] →
    bObject (cmdDesc b.pkt.bytes) = 0x0020 ∨ bObject (cmdDesc b.pkt.bytes) = 0x0021 →
    b.boundary = none →
    let ob := bObject (cmdDesc b.pkt.bytes)
    AnswersWith (exec .presentFrame s) fun t =>
      t.dev.tile.bulks = [{ b with boundary := some (if ob = 0x0020 then t.dev.lampMapBytes else t.dev.measBytes) }]) ∧
  (∀ (s : State) (f : TileFrame) (rest : List TileFrame) (p : Nat),
    tileOn s →
    s.dev.tile.frames = f :: rest →
    f.judged = true →
    f.present ≤ s.dev.now →
    s.dev.tile.changed = true →
    s.dev.tile.drive.lastPresent = some p →
    f.present ≤ p →
    AnswersWith (exec .presentFrame s) fun t =>
      Only [.tile] [] s t ∧ t.dev.tile.frames = rest.filter (fun g => !g.same f) ∧
      t.dev.tile.drive = s.dev.tile.drive) ∧
  (∀ (s : State) (f : TileFrame) (rest : List TileFrame),
    tileOn s →
    s.dev.tile.frames = f :: rest →
    s.dev.now < f.present →
    exec .presentFrame s = .next s)

/-- REFRESH_START, ROW_SLOT_START and PINWHEEL_RETUNE (R244 to R246, R257, R259). At the boundary of the next refresh of
the frame DRIVE_EN is taken, without effect in recovery (R342) or while VDRV is absent (R396), and the slots begin
at row 0; at the boundary of a period that no frame starts a new period begins with the same picture. A row slot of
a light refresh drives the next row with the compensation, the pre-charge of each column's class, the bank codes,
the cells of each sink and the pulses of its 384 columns; a bank whose edge-list FIFO is empty carries no current in
that slot, also in a diagnostic one, FAB_STAT.UNDERRUN_SEEN is set and FAB_UNDERRUN is recorded with its number; a
lamp whose byte is found with wrong parity is dark (R45); with DRIVE_EN off, or while VDRV is absent (R396), it
drives nothing; then the next row follows and no frame store, other register or other part changes. A retune that is
due, with the last refresh complete, goes over to the new mode's grid and leaves the picture alone. The model's
choices in this: that a period which no frame starts keeps the last sample and mask (log entry 75), and that a bank
that a starved FIFO or a parity error darkens is dark in the diagnostic slots too (log entry 95). Completion, with
what the next state holds, for: REFRESH_START, ROW_SLOT_START, PINWHEEL_RETUNE. -/
def Obligations.RefreshesAndRowSlots : Prop :=
  (∀ (s : State) (mode j : Nat),
    tileOn s →
    s.dev.refreshDue = some (mode, s.dev.tile.drive.k, j) →
    let on := s.dev.getb LDRV_CTRL_DRIVE_EN && !s.dev.getb SEC_STAT_RECOVERY && s.dev.aon.vdrv
    AnswersWith (exec .refreshStart s) fun t =>
      Only [.tile, .out] [.field LDRV_STAT_DRIVING] s t ∧ t.dev.get LDRV_STAT_DRIVING = b2n on ∧
      t.dev.tile = { s.dev.tile with drive := { s.dev.tile.drive with
        j := j + 1, slot := 0, open_ := false, driving := on, restart := none, darkBanks := [] } } ∧
      t.dev.out = s.dev.out ++ (if on = s.dev.tile.drive.driving then [] else [.pinwheel on])) ∧
  (∀ (s : State) (mode k j : Nat),
    tileOn s →
    s.dev.refreshDue = some (mode, k, j) →
    k ≠ s.dev.tile.drive.k →
    AnswersWith (exec .refreshStart s) fun t =>
      OnlyLogging [.tile, .diag, .out, .free] [.block 8, .block 9, .block 0xA, .block 0xC, .block 0xD, .block 0x13] s t ∧
      t.dev.tile.drive.k = k ∧ t.dev.tile.drive.present = gridAt mode k ∧ t.dev.tile.drive.mode = some mode ∧
      t.dev.tile.drive.j = j + 1 ∧ t.dev.tile.drive.slot = 0 ∧ t.dev.tile.drive.sample = s.dev.tile.drive.sample ∧
      t.dev.tile.drive.mask = s.dev.tile.drive.mask ∧ t.dev.tile.front = s.dev.tile.front ∧ t.dev.tile.back = s.dev.tile.back ∧
      t.dev.tile.frames = s.dev.tile.frames ∧ t.dev.tile.drive.lastPresent = s.dev.tile.drive.lastPresent) ∧
  (∀ (s : State) (samples : SlotSamples) (mode : Nat),
    tileOn s →
    s.dev.tile.drive.mode = some mode →
    s.dev.tile.drive.slot < s.dev.tile.drive.s →
    0 < s.dev.tile.drive.j →
    s.dev.tile.drive.j < s.dev.tile.drive.m →
    4 * refreshAt mode s.dev.tile.drive.m s.dev.tile.drive.k (s.dev.tile.drive.j - 1) +
      s.dev.tile.drive.slot * s.dev.tile.drive.q / s.dev.tile.drive.s ≤ 4 * s.dev.now →
    s.dev.tile.drive.driving = true →
    s.dev.aon.vdrv = true →
    s.dev.tile.drive.open_ = false →
    s.dev.tile.drive.darkBanks = [] →
    s.dev.effGet DIAG_CTRL_LIVE_EN = 0 →
    (∀ a ∈ s.dev.parity.armed, a.1 ≠ 4) →
    s.dev.parity.bad = [] →
    samples.starved = [] →
    AnswersWith (exec (.rowSlotStart samples) s) fun t =>
      Only [.tile, .out] [] s t ∧
      t.dev.tile = { s.dev.tile with drive := { s.dev.tile.drive with slot := s.dev.tile.drive.slot + 1 } } ∧
      t.dev.out = s.dev.out ++ [.rowSlot s.dev.tile.drive.slot (s.dev.get THM_COMP_DADV) (s.dev.geti THM_COMP_RT)
        (if s.dev.getb LDRV_CTRL_PRE_EN = true then some ((List.range 384).map fun c =>
          [s.dev.effGet LDRV_CTRL_VPRE0, s.dev.effGet LDRV_CTRL_VPRE1, s.dev.effGet LDRV_CTRL_VPRE2].getD
            (if s.dev.mono = true then 0 else c / 8 % 3) 0) else none)
        ((List.range 48).map fun b => (s.dev.tile.drive.codes.getD b 0, s.dev.effGet (LDRV_BANK_IFS_RANGE b)))
        ((List.range 384).map s.dev.sinkCells)
        ((List.range 384).map fun c => s.dev.columnPulse (s.dev.tile.drive.j - 1) s.dev.tile.drive.slot c)]) ∧
  (∀ (s : State) (samples : SlotSamples) (mode bank : Nat),
    tileOn s →
    s.dev.tile.drive.mode = some mode →
    s.dev.tile.drive.slot < s.dev.tile.drive.s →
    0 < s.dev.tile.drive.j →
    s.dev.tile.drive.j < s.dev.tile.drive.m →
    4 * refreshAt mode s.dev.tile.drive.m s.dev.tile.drive.k (s.dev.tile.drive.j - 1) +
      s.dev.tile.drive.slot * s.dev.tile.drive.q / s.dev.tile.drive.s ≤ 4 * s.dev.now →
    s.dev.tile.drive.driving = true →
    s.dev.aon.vdrv = true →
    s.dev.tile.drive.open_ = false →
    s.dev.tile.drive.darkBanks = [] →
    s.dev.effGet DIAG_CTRL_LIVE_EN = 0 →
    (∀ a ∈ s.dev.parity.armed, a.1 ≠ 4) →
    s.dev.parity.bad = [] →
    samples.starved = [bank] →
    bank < 48 →
    AnswersWith (exec (.rowSlotStart samples) s) fun t =>
      OnlyLogging [.tile, .out] [.field FAB_STAT_UNDERRUN_SEEN] s t ∧
      t.dev.tile = { s.dev.tile with drive := { s.dev.tile.drive with slot := s.dev.tile.drive.slot + 1 } } ∧
      t.dev.get FAB_STAT_UNDERRUN_SEEN = 1 ∧ Logs [(0x1300, bank, 0, 0)] s t ∧
      t.dev.out = s.dev.out ++ [.rowSlot s.dev.tile.drive.slot (s.dev.get THM_COMP_DADV) (s.dev.geti THM_COMP_RT)
        (if s.dev.getb LDRV_CTRL_PRE_EN = true then some ((List.range 384).map fun c =>
          [s.dev.effGet LDRV_CTRL_VPRE0, s.dev.effGet LDRV_CTRL_VPRE1, s.dev.effGet LDRV_CTRL_VPRE2].getD
            (if s.dev.mono = true then 0 else c / 8 % 3) 0) else none)
        ((List.range 48).map fun b => (s.dev.tile.drive.codes.getD b 0, s.dev.effGet (LDRV_BANK_IFS_RANGE b)))
        ((List.range 384).map s.dev.sinkCells)
        ((List.range 384).map fun c => 
          if c / 8 = bank then (0, 0, 0) else s.dev.columnPulse (s.dev.tile.drive.j - 1) s.dev.tile.drive.slot c)]) ∧
  (∀ (s : State) (samples : SlotSamples) (mode unit offset n : Nat),
    tileOn s →
    s.dev.tile.drive.mode = some mode →
    s.dev.tile.drive.slot < s.dev.tile.drive.s →
    0 < s.dev.tile.drive.j →
    s.dev.tile.drive.j < s.dev.tile.drive.m →
    4 * refreshAt mode s.dev.tile.drive.m s.dev.tile.drive.k (s.dev.tile.drive.j - 1) +
      s.dev.tile.drive.slot * s.dev.tile.drive.q / s.dev.tile.drive.s ≤ 4 * s.dev.now →
    s.dev.tile.drive.driving = true →
    s.dev.aon.vdrv = true →
    s.dev.tile.drive.open_ = false →
    s.dev.tile.drive.darkBanks = [] →
    s.dev.effGet DIAG_CTRL_LIVE_EN = 0 →
    (∀ a ∈ s.dev.parity.armed, a.1 ≠ 4) →
    s.dev.parity.bad = [{ mem := 3, unit := unit, offset := offset, item := .lamp n true }] →
    n % 128 = s.dev.tile.drive.slot →
    samples.starved = [] →
    AnswersWith (exec (.rowSlotStart samples) s) fun t =>
      OnlyLogging [.tile, .out, .parity] [.field FAB_PERR_CNT_COUNT, .word FAB_PERR_LOG, .word FAB_PERR_ADDR] s t ∧
      t.dev.tile = { s.dev.tile with drive := { s.dev.tile.drive with
        slot := s.dev.tile.drive.slot + 1, darkLamps := n :: s.dev.tile.drive.darkLamps } } ∧
      Logs [(0x1301, 3, unit, offset)] s t ∧
      t.dev.out = s.dev.out ++ [.rowSlot s.dev.tile.drive.slot (s.dev.get THM_COMP_DADV) (s.dev.geti THM_COMP_RT)
        (if s.dev.getb LDRV_CTRL_PRE_EN = true then some ((List.range 384).map fun c =>
          [s.dev.effGet LDRV_CTRL_VPRE0, s.dev.effGet LDRV_CTRL_VPRE1, s.dev.effGet LDRV_CTRL_VPRE2].getD
            (if s.dev.mono = true then 0 else c / 8 % 3) 0) else none)
        ((List.range 48).map fun b => (s.dev.tile.drive.codes.getD b 0, s.dev.effGet (LDRV_BANK_IFS_RANGE b)))
        ((List.range 384).map s.dev.sinkCells)
        ((List.range 384).map fun c => 
          if 128 * c + s.dev.tile.drive.slot = n then (0, 0, 0)
          else s.dev.columnPulse (s.dev.tile.drive.j - 1) s.dev.tile.drive.slot c)]) ∧
  (∀ (s : State) (samples : SlotSamples) (mode bank : Nat),
    tileOn s →
    s.dev.tile.drive.mode = some mode →
    s.dev.tile.drive.slot < s.dev.tile.drive.s →
    2 ≤ s.dev.tile.drive.slot →
    0 < s.dev.tile.drive.j →
    s.dev.tile.drive.j = s.dev.tile.drive.m →
    4 * refreshAt mode s.dev.tile.drive.m s.dev.tile.drive.k (s.dev.tile.drive.j - 1) +
      s.dev.tile.drive.slot * s.dev.tile.drive.q / s.dev.tile.drive.s ≤ 4 * s.dev.now →
    s.dev.tile.drive.driving = true →
    s.dev.aon.vdrv = true →
    s.dev.tile.drive.diag = true →
    s.dev.tile.drive.open_ = false →
    s.dev.tile.drive.darkBanks = [] →
    (∀ a ∈ s.dev.parity.armed, a.1 ≠ 4) →
    s.dev.parity.bad = [] →
    samples.starved = [bank] →
    bank < 48 →
    AnswersWith (exec (.rowSlotStart samples) s) fun t =>
      OnlyLogging [.tile] [.field FAB_STAT_UNDERRUN_SEEN] s t ∧
      t.dev.tile = { s.dev.tile with drive := { s.dev.tile.drive with
        slot := s.dev.tile.drive.slot + 1, open_ := true, darkBanks := [bank] } } ∧
      t.dev.get FAB_STAT_UNDERRUN_SEEN = 1 ∧ Logs [(0x1300, bank, 0, 0)] s t) ∧
  (∀ (s : State) (samples : SlotSamples) (mode : Nat),
    tileOn s →
    s.dev.tile.drive.mode = some mode →
    s.dev.tile.drive.slot < s.dev.tile.drive.s →
    0 < s.dev.tile.drive.j →
    s.dev.tile.drive.j < s.dev.tile.drive.m →
    4 * refreshAt mode s.dev.tile.drive.m s.dev.tile.drive.k (s.dev.tile.drive.j - 1) +
      s.dev.tile.drive.slot * s.dev.tile.drive.q / s.dev.tile.drive.s ≤ 4 * s.dev.now →
    s.dev.tile.drive.driving = false ∨ s.dev.aon.vdrv = false →
    AnswersWith (exec (.rowSlotStart samples) s) fun t =>
      Only [.tile] [] s t ∧ t.dev.tile = { s.dev.tile with drive := { s.dev.tile.drive with
        slot := s.dev.tile.drive.slot + 1, open_ := false, darkBanks := [] } }) ∧
  (∀ (s : State) (r p old new : Nat),
    tileOn s →
    s.dev.tile.drive.mode = some old →
    s.dev.tile.drive.retune = some (new, p) →
    s.dev.retuneAt = some r →
    r ≤ s.dev.now →
    s.dev.tile.drive.slot = s.dev.tile.drive.s →
    AnswersWith (exec .pinwheelRetune s) fun t =>
      OnlyLogging [.tile, .diag, .free] [.block 8, .block 9, .block 0xA, .block 0xC, .block 0xD, .block 0x13] s t ∧
      t.dev.tile.drive.mode = some new ∧ t.dev.tile.drive.retune = none ∧ t.dev.tile.front = s.dev.tile.front ∧
      t.dev.tile.back = s.dev.tile.back ∧ t.dev.tile.drive.mask = s.dev.tile.drive.mask ∧
      t.dev.tile.drive.lastPresent = s.dev.tile.drive.lastPresent) ∧
  (∀ (s : State),
    tileOn s →
    s.dev.tile.drive.mode = none →
    exec .refreshStart s = .next s ∧ exec .pinwheelRetune s = .next s ∧
      exec (.rowSlotStart { columns := [], vled := [], ntc := [], starved := [] }) s = .next s)

/-- LAMP_TEST and PIN_TEST in an open diagnostic slot (R262 to R267): the test of row i drives every column of a bank
that is on, keeps the column's voltage, and with a valid supply sample, no pin short and REPEAT = 1 sets LAST of the
lamp to OPEN below the open threshold, to SHORT above the supply less the class's margin and to GOOD between; the
pulses go out with TP, their starts, the compensation, the codes of the banks and the cells of the sinks. A bank
dark in this slot gives no result (the model's choice, log entry 101). The pin test pulls up and sinks the two
groups of R426 in turn, and marks a column shorted when twice its voltage exceeds the supply, also where R273 marks
the supply's sample invalid (the model's choice, log entry 153). Only the diagnosis, the slot, the events and
DIAG_STAT change. With no slot open, or while VDRV is absent (R396), nothing happens. Completion, with what the next
state holds, for: LAMP_TEST, PIN_TEST. -/
def Obligations.LampTests : Prop :=
  (∀ (s : State) (codes : List Nat) (i : Fin 128) (c : Fin 384),
    tileOn s →
    s.dev.openSlot = some (i : Nat) →
    s.dev.lampSlot s.dev.tile.drive.k i = true →
    s.dev.testsAllowed = true →
    s.dev.tile.drive.darkBanks = [] →
    s.dev.effGet (LDRV_BANK_IFS_CODE (c / 8)) ≠ 0 →
    s.dev.getb (DIAG_VLED_VALID ((c : Nat) / 8 / 12)) = true →
    s.dev.pinShort c = false →
    s.dev.effGet DIAG_CTRL_REPEAT ≤ 1 →
    let mv := s.dev.adcMv ((c : Nat) / 8) (codes.getD c 0 % 4096)
    let vs := s.dev.get (DIAG_VLED_MV ((c : Nat) / 8 / 12))
    let cls := (lampPlace s.dev.mono (128 * c + i)).2.2
    let tp := s.dev.effGet DIAG_CTRL_TP
    AnswersWith (exec (.lampTest codes) s) fun t =>
      OnlyLogging [.tile, .diag, .out] [.field DIAG_STAT_ROW_OPEN_SEEN] s t ∧
      t.dev.tile = { s.dev.tile with drive := { s.dev.tile.drive with open_ := false } } ∧
      t.dev.out = s.dev.out ++ [.lampTest i (s.dev.get THM_COMP_DADV) (s.dev.geti THM_COMP_RT) tp
        ((List.range 48).map fun b => (s.dev.effGet (LDRV_BANK_IFS_CODE b), s.dev.effGet (LDRV_BANK_IFS_RANGE b)))
        ((List.range 384).map s.dev.sinkCells)
        (((List.range 384).filter fun c => s.dev.effGet (LDRV_BANK_IFS_CODE (c / 8)) != 0).map fun c =>
          (c, (s.dev.tile.drive.e - tp) * (c % 8) / 7))] ∧
      Cells.read (fun _ => 0) t.dev.diag.vcol (128 * c + i) = mv + 1 ∧
      t.dev.lampLast (128 * c + i) = (if mv < 10 * s.dev.effGet DIAG_THR_VOPEN then 2
        else if vs < mv + s.dev.shortMargin cls then 3 else 1) ∧
      t.dev.diag.forced = s.dev.diag.forced ∧ t.dev.diag.pin = s.dev.diag.pin) ∧
  (∀ (s : State) (codes : List Nat) (i : Fin 128) (c : Fin 384),
    tileOn s →
    s.dev.openSlot = some (i : Nat) →
    s.dev.lampSlot s.dev.tile.drive.k i = true →
    s.dev.testsAllowed = true →
    s.dev.tile.drive.darkBanks = [(c : Nat) / 8] →
    AnswersWith (exec (.lampTest codes) s) fun t =>
      OnlyLogging [.tile, .diag, .out] [.field DIAG_STAT_ROW_OPEN_SEEN] s t ∧
      t.dev.tile = { s.dev.tile with drive := { s.dev.tile.drive with open_ := false, darkBanks := [] } } ∧
      Cells.read (fun _ => 0) t.dev.diag.vcol (128 * c + i) = Cells.read (fun _ => 0) s.dev.diag.vcol (128 * c + i) ∧
      t.dev.lampLast (128 * c + i) = s.dev.lampLast (128 * c + i)) ∧
  (∀ (s : State) (codes : List Nat) (i : Fin 128) (c : Fin 384),
    tileOn s →
    s.dev.openSlot = some (i : Nat) →
    s.dev.pinSlot s.dev.tile.drive.k i = true →
    s.dev.tile.drive.driving = true →
    s.dev.aon.vdrv = true →
    s.dev.tile.drive.darkBanks = [] →
    let mv := s.dev.adcMv ((c : Nat) / 8) (codes.getD c 0 % 4096)
    let group := fun (g : Nat) => (List.range 384).filter fun c => (c / 32 + c % 32 + (if 6 ≤ c / 32 then 1 else 0)) % 2 == g
    AnswersWith (exec (.pinTest codes) s) fun t =>
      OnlyLogging [.tile, .diag, .out] [] s t ∧
      t.dev.tile = { s.dev.tile with drive := { s.dev.tile.drive with open_ := false } } ∧
      t.dev.out = s.dev.out ++ [.pinTest i
        ((List.range 48).map fun b => (s.dev.effGet (LDRV_BANK_IFS_CODE b), s.dev.effGet (LDRV_BANK_IFS_RANGE b)))
        ((List.range 384).map s.dev.sinkCells) [(group 0, group 1), (group 1, group 0)]] ∧
      t.dev.pinShort c = decide (s.dev.get (DIAG_VLED_MV ((c : Nat) / 8 / 12)) < 2 * mv) ∧
      t.dev.diag.vcol = s.dev.diag.vcol ∧ t.dev.diag.forced = s.dev.diag.forced) ∧
  (∀ (s : State) (codes : List Nat),
    tileOn s →
    s.dev.tile.drive.open_ = false ∨ s.dev.aon.vdrv = false →
    exec (.lampTest codes) s = .next s ∧ exec (.pinTest codes) s = .next s)

/-- THERMAL_ROUND and THROTTLE_STEP (R302, R304, R308 to R310): a round of a running tile shows each converted sensor's
reading with its offset, valid unless excluded, and changes only THM registers, TLEVEL, ALERT_N and the thermal
logic while no vote holds; a vote puts the device into thermal shutdown, a warm reset with cause 5 that keeps the
eMRAM (how far an image swap of the loader has come stays open, log entry 123); a round in shutdown follows the cool
rounds. A throttle step in HOT raises TLEVEL by one up to THR_MAX, in COOL lowers it by one, and in BAND does
nothing. Completion, with what the next state holds, for: THERMAL_ROUND, THROTTLE_STEP. -/
def Obligations.ThermalRounds : Prop :=
  (∀ (s : State) (raw : List SensorReading) (n : Fin 12) (r : Int),
    tileOn s →
    raw[(n : Nat)]? = some (some r) →
    (s.dev.takeReadings s.straps raw).voteHolds = false →
    AnswersWith (exec (.thermalRound raw) s) fun t =>
      OnlyLogging [.therm, .out] [.block 0xC, .field FAB_STAT_TLEVEL] s t ∧
      t.dev.geti (THM_TJ_T n) = sat (r + s.dev.geti (CAL_SENS_OFS n)) (-32768) 32767 ∧
      t.dev.getb (THM_TJ_VALID n) = !s.dev.excluded n) ∧
  (∀ (s : State) (raw : List SensorReading),
    tileOn s →
    (s.dev.takeReadings s.straps raw).voteHolds = true →
    AnswersWith (exec (.thermalRound raw) s) fun t =>
      t.straps = s.straps ∧ t.pending = s.pending ∧ t.dev.boot.power = .shutdown ∧ t.dev.get GEN_RST_CAUSE_CAUSE = 5 ∧
      objectsKept s.dev t.dev ∧ (s.dev.nvm.trusted.journal = none → t.dev.nvm = s.dev.nvm) ∧ frameStoreDark t.dev ∧ t.dev.boot.shut.isSome = true ∧
      t.dev.get LDRV_CTRL_DRIVE_EN = 0) ∧
  (∀ (s : State) (raw : List SensorReading) (h : ShutSt),
    s.dev.boot.power = .shutdown →
    Settled s →
    s.dev.boot.shut = some h →
    let d := s.dev.takeReadings s.straps raw
    AnswersWith (exec (.thermalRound raw) s) fun t =>
      Only [.boot] [.block 0xC] s t ∧ t.dev.boot = { s.dev.boot with shut := some { h with
        peak := (match maxInt d.validReadings with | some v => max v h.peak | none => h.peak),
        coolRun := if d.validReadings.all fun v => decide (v < d.geti THM_SHUT_RESTART) then h.coolRun + 1 else 0 } }) ∧
  (∀ (s : State),
    deviceOn s →
    s.dev.therm.region = 2 →
    s.dev.therm.stepAt + 250000 * s.dev.get THM_CTRL_STEP_MS ≤ s.dev.time.clk.ticks →
    AnswersWith (exec .throttleStep s) fun t =>
      OnlyLogging [.therm] [.field FAB_STAT_TLEVEL, .field THM_STAT_THROT] s t ∧
      t.dev.get FAB_STAT_TLEVEL = min (s.dev.get FAB_STAT_TLEVEL + 1) (s.dev.get FAB_CTRL_THR_MAX) ∧
      t.dev.therm = { s.dev.therm with stepAt := s.dev.time.clk.ticks }) ∧
  (∀ (s : State),
    deviceOn s →
    s.dev.therm.region = 0 →
    s.dev.therm.stepAt + 250000 * s.dev.get THM_CTRL_STEP_MS ≤ s.dev.time.clk.ticks →
    s.dev.get FAB_STAT_TLEVEL = 1 →
    AnswersWith (exec .throttleStep s) fun t =>
      OnlyLogging [.therm] [.field FAB_STAT_TLEVEL, .field THM_STAT_THROT] s t ∧ t.dev.get FAB_STAT_TLEVEL = 0 ∧
      t.dev.get THM_STAT_THROT = 0 ∧ Logs [(EV_THM_THROTTLE.code, 0, 0, 0)] s t) ∧
  (∀ (s : State),
    deviceOn s →
    s.dev.therm.region = 1 →
    exec .throttleStep s = .next s)

/-- CRC_START, CRC_SEED_WRITE and CRC_DATA_WRITE (R381, R382, R384, R385): START loads the init value of the unit's
POLY, a SEED write the seed, each with COUNT cleared; a native feed advances the state byte by byte over the bytes
that the register's width feeds and adds their number to COUNT. A unit in snoop mode drops each of the three and
sets FEED_IGN; a unit that serves a guarded region ignores START and SEED. No other unit, register or part changes.
SNOOP_ARM and SNOOP_CAPTURE_END (R383): ARM arms the unit's capture and nothing else, and does nothing outside snoop
mode; at the end of a captured frame RESULT and COUNT are latched and DONE is set, with OVR where DONE stood; with
CONT the next capture starts from the masked seed, without it the unit stops. R63, R381: the check values of the
four CRCs over "123456789". Completion, with what the next state holds, for: CRC_START, CRC_SEED_WRITE,
CRC_DATA_WRITE, SNOOP_ARM, SNOOP_CAPTURE_END. -/
def Obligations.CheckValueUnits : Prop :=
  (∀ (s : State) (init : Initiator) (n : Fin 8),
    deviceOn s →
    mayWrite s.straps init s.dev = true →
    s.dev.get (SNP_CTRL_EN n) = 0 →
    crcGuarded s.straps s.dev n = false →
    AnswersWith (exec (.crcStart init n) s) fun t =>
      Only [.crc] [.field (CRC_COUNT_VALUE n)] s t ∧ t.dev.get (CRC_COUNT_VALUE n) = 0 ∧
      t.dev.crc = s.dev.crc.modify n fun u => { u with state := (crcSpec (s.dev.get (CRC_CTRL_POLY n))).init }) ∧
  (∀ (s : State) (init : Initiator) (n : Fin 8) (seed : Word),
    deviceOn s →
    mayWrite s.straps init s.dev = true →
    s.dev.get (SNP_CTRL_EN n) = 0 →
    crcGuarded s.straps s.dev n = false →
    AnswersWith (exec (.crcSeedWrite init n seed) s) fun t =>
      Only [.crc] [.field (CRC_COUNT_VALUE n)] s t ∧ t.dev.get (CRC_COUNT_VALUE n) = 0 ∧
      t.dev.crc = s.dev.crc.modify n fun u =>
      { u with state := seed.toNat % 2 ^ (crcSpec (s.dev.get (CRC_CTRL_POLY n))).width }) ∧
  (∀ (s : State) (init : Initiator) (n : Fin 8) (reg : Fin 3) (bytes : List Byte),
    deviceOn s →
    mayWrite s.straps init s.dev = true →
    bytes.length = 1 ∨ bytes.length = 2 ∨ bytes.length = 4 →
    s.dev.get (SNP_CTRL_EN n) = 0 →
    crcGuarded s.straps s.dev n = false →
    let fed := match reg with | 0 => bytes | 1 => (bytes ++ [0]).take 2 | 2 => bytes.take 1
    let c := crcSpec (s.dev.get (CRC_CTRL_POLY n))
    AnswersWith (exec (.crcDataWrite init n reg bytes) s) fun t =>
      Only [.crc] [.field (CRC_COUNT_VALUE n)] s t ∧
      t.dev.get (CRC_COUNT_VALUE n) = (s.dev.get (CRC_COUNT_VALUE n) + fed.length) % 2 ^ 32 ∧
      t.dev.crc = s.dev.crc.modify n fun u =>
      { u with state := fed.foldl (fun v b => crcByte c v b.toNat) (u.state % 2 ^ c.width) }) ∧
  (∀ (s : State) (init : Initiator) (n : Fin 8) (reg : Fin 3) (bytes : List Byte),
    deviceOn s →
    mayWrite s.straps init s.dev = true →
    s.dev.get (SNP_CTRL_EN n) ≠ 0 ∨ crcGuarded s.straps s.dev n = true →
    AnswersWith (exec (.crcDataWrite init n reg bytes) s) fun t =>
      Only [] [.field (CRC_CTRL_FEED_IGN n)] s t ∧ t.dev.get (CRC_CTRL_FEED_IGN n) = 1) ∧
  (∀ (s : State) (init : Initiator) (n : Fin 8) (seed : Word),
    deviceOn s →
    mayWrite s.straps init s.dev = true →
    crcGuarded s.straps s.dev n = true →
    exec (.crcStart init n) s = .next s ∧ exec (.crcSeedWrite init n seed) s = .next s) ∧
  (∀ (s : State) (init : Initiator) (n : Fin 8) (seed : Word),
    deviceOn s →
    mayWrite s.straps init s.dev = true →
    s.dev.get (SNP_CTRL_EN n) ≠ 0 →
    crcGuarded s.straps s.dev n = false →
    AnswersWith (exec (.crcStart init n) s) (fun t =>
        Only [] [.field (CRC_CTRL_FEED_IGN n)] s t ∧ t.dev.get (CRC_CTRL_FEED_IGN n) = 1) ∧
      AnswersWith (exec (.crcSeedWrite init n seed) s) fun t =>
        Only [] [.field (CRC_CTRL_FEED_IGN n)] s t ∧ t.dev.get (CRC_CTRL_FEED_IGN n) = 1) ∧
  (∀ (s : State) (init : Initiator) (n : Fin 8),
    deviceOn s →
    mayWrite s.straps init s.dev = true →
    s.dev.get (SNP_CTRL_EN n) ≠ 0 →
    crcGuarded s.straps s.dev n = false →
    AnswersWith (exec (.snoopArm init n) s) fun t =>
      Only [.crc] [] s t ∧ t.dev.crc = s.dev.crc.modify n fun u => { u with armed := true }) ∧
  (∀ (s : State) (init : Initiator) (n : Fin 8),
    deviceOn s →
    mayWrite s.straps init s.dev = true →
    s.dev.get (SNP_CTRL_EN n) = 0 ∨ crcGuarded s.straps s.dev n = true →
    exec (.snoopArm init n) s = .next s) ∧
  (∀ (s : State) (n : Fin 8) (u : CrcUnit),
    deviceOn s →
    s.dev.crc[(n : Nat)]? = some u →
    crcGuarded s.straps s.dev n = false →
    u.running = true →
    u.ended = true →
    u.count < 2 ^ 32 →
    AnswersWith (exec (.snoopCaptureEnd n) s) fun t =>
      Only [.crc] [.field (SNP_RESULT_VALUE n), .field (SNP_COUNT_VALUE n), .field (SNP_STAT_DONE n),
        .field (SNP_STAT_OVR n), .field (SNP_STAT_RUN n)] s t ∧
      t.dev.get (SNP_RESULT_VALUE n) = (u.snoop ^^^ (crcSpec (s.dev.get (CRC_CTRL_POLY n))).xorOut) % 2 ^ 32 ∧
      t.dev.get (SNP_COUNT_VALUE n) = u.count ∧
      t.dev.get (SNP_STAT_DONE n) = 1 ∧
      (s.dev.get (SNP_STAT_DONE n) = 1 → t.dev.get (SNP_STAT_OVR n) = 1) ∧
      (s.dev.get (SNP_STAT_DONE n) = 0 → t.dev.get (SNP_STAT_OVR n) = s.dev.get (SNP_STAT_OVR n)) ∧
      t.dev.get (SNP_STAT_RUN n) = s.dev.get (SNP_CTRL_CONT n) ∧
      t.dev.crc[(n : Nat)]? = some (if s.dev.get (SNP_CTRL_CONT n) = 1 then
        { u with armed := false, running := true, ended := false, count := 0,
                 snoop := s.dev.get (SNP_SEED_VALUE n) % 2 ^ (crcSpec (s.dev.get (CRC_CTRL_POLY n))).width }
        else { u with running := false, ended := false })) ∧
  (∀ (p : Fin 4),
    let digits := [0x31, 0x32, 0x33, 0x34, 0x35, 0x36, 0x37, 0x38, 0x39]
    crcOf (crcSpec p) digits = nth [0xCBF43926, 0xE3069283, 0x29B1, 0xF4] p 0)

/-- RECORDER_WRITE and REC_RD_SEQ_WRITE (R370 to R372, R375). With one record waiting and no loss, a tile's write puts
its 32 bytes with the next SEQ into slot SEQ mod 16,384 and their CRC-32C into the check word, empties the queue,
and leaves every other slot as it was; NEWEST is that SEQ. With nothing waiting nothing happens. A write of
REC_RD_SEQ copies the slot into REC_RD_DATA and reports NOT_YET past NEWEST, GONE before OLDEST, BAD where the check
word does not match, VALID for the record itself, and touches nothing but the read port. Completion, with what the
next state holds, for: RECORDER_WRITE, REC_RD_SEQ_WRITE. -/
def Obligations.RecorderWrites : Prop :=
  (∀ (s : State) (e : EventRec) (k : Nat),
    tileOn s →
    s.dev.rcd.queue = [e] →
    s.dev.rcd.lost = 0 →
    s.dev.rcd.next < 2 ^ 32 →
    let bytes := eventBytes { e with seq := s.dev.rcd.next }
    AnswersWith (exec .recorderWrite s) fun t =>
      Only [.queue, .records, .nvm] [.field REC_OLDEST_SEQ, .field REC_NEWEST_SEQ, .field REC_SENT_SEQ, .field REC_STAT_EMPTY,
        .field REC_STAT_SKIP_CNT] s t ∧
      t.dev.nvm = { s.dev.nvm with bad := t.dev.nvm.bad } ∧ t.dev.rcd.queue = [] ∧ t.dev.rcd.next = (s.dev.rcd.next + 1) % 2 ^ 32 ∧
      t.dev.get REC_NEWEST_SEQ = s.dev.rcd.next ∧ t.dev.get REC_STAT_EMPTY = 0 ∧
      Cells.read recSlotDflt t.dev.rcd.slots k =
        (if k = s.dev.rcd.next % 16384 then bytes else Cells.read recSlotDflt s.dev.rcd.slots k) ∧
      Cells.read recCheckDflt t.dev.rcd.checks k =
        (if k = s.dev.rcd.next % 16384 then crc32c bytes else Cells.read recCheckDflt s.dev.rcd.checks k)) ∧
  (∀ (s : State),
    deviceOn s →
    s.dev.rcd.queue = [] →
    exec .recorderWrite s = .next s) ∧
  (∀ (s : State) (init : Initiator) (seq : Word) (i : Fin 8),
    deviceOn s →
    mayWrite s.straps init s.dev = true →
    AnswersWith (exec (.recRdSeqWrite init seq) s) fun t =>
      Only [] ([.field REC_RD_SEQ_SEQ, .word REC_RD_STAT] ++ (List.range 8).map fun k => .word (REC_RD_DATA k)) s t ∧
      t.dev.get REC_RD_SEQ_SEQ = seq.toNat ∧
      t.dev.get (REC_RD_DATA_WORD i) = leAt (Cells.read recSlotDflt s.dev.rcd.slots (seq.toNat % 16384)) (4 * i) 4 ∧
      (s.dev.get REC_STAT_EMPTY = 0 → precedes (s.dev.get REC_NEWEST_SEQ) seq.toNat = true → t.dev.get REC_RD_STAT_RESULT = 1) ∧
      (s.dev.get REC_STAT_EMPTY = 0 → precedes (s.dev.get REC_NEWEST_SEQ) seq.toNat = false →
        precedes seq.toNat (s.dev.get REC_OLDEST_SEQ) = true → t.dev.get REC_RD_STAT_RESULT = 2) ∧
      (s.dev.get REC_STAT_EMPTY = 0 → precedes (s.dev.get REC_NEWEST_SEQ) seq.toNat = false →
        precedes seq.toNat (s.dev.get REC_OLDEST_SEQ) = false → s.dev.recCheckOk seq.toNat = false →
        t.dev.get REC_RD_STAT_RESULT = 3) ∧
      (s.dev.get REC_STAT_EMPTY = 0 → precedes (s.dev.get REC_NEWEST_SEQ) seq.toNat = false →
        precedes seq.toNat (s.dev.get REC_OLDEST_SEQ) = false → s.dev.recCheckOk seq.toNat = true →
        leAt (Cells.read recSlotDflt s.dev.rcd.slots (seq.toNat % 16384)) 4 4 = seq.toNat → t.dev.get REC_RD_STAT_RESULT = 0))

/-- MBX_WRITE, MBX_ACK and MBX_CROSS (R386 to R388, R390): the writer's word goes into an empty mailbox, which becomes
full and interrupts its reader; a full one rejects the write and keeps its word; a write from any other side changes
nothing. The reader's ACK clears FULL and leaves the word. The host of a tile is the service port (R386): it needs
READ, and gets a counted NACK without it or where the mailbox is full (R448). Two full mailboxes of a pair for 100
µs set CROSS, interrupt both sides and record MBX_CROSS. The twin mailbox of a sender (R392): a write to mailbox 6
sends DATA with MSEQ one more than before; a DATA whose CRC holds is stored in an empty mailbox 7 and interrupts the
MC, and one whose MSEQ was already emptied is answered with ACK and not stored; ACK and ABORT with the MSEQ sent
empty mailbox 6, ABORT with ABORTED set; an unanswered DATA is repeated after 1 ms; a message whose CRC fails
changes nothing. Before firmware runs the twin port sends nothing (R428). Completion, with what the next state
holds, for: MBX_WRITE, MBX_ACK, MBX_CROSS, TWIN_MBX_DATA_RECEIVE, TWIN_MBX_ACK_RECEIVE, TWIN_MBX_ABORT_RECEIVE,
TWIN_MBX_REPEAT. -/
def Obligations.Mailboxes : Prop :=
  (∀ (s : State) (writer : MbxSide) (m : Fin 8) (word : Word),
    deviceOn s →
    (writer, (m : Nat)) ∈ [(.host, 0), (.host, 2), (.mc, 4), (.trusted, 5)] →
    (s.straps.role = .tile → writer = .host → natBit (s.dev.get SEC_PRIV_SVC_PERM) 0 = true) →
    s.dev.mbxFull m = false →
    AnswersWith (exec (.mbxWrite writer m word) s) fun t =>
      Only [.mbx, .out] [.field (MBX_DATA_WORD m), .field MBX_STAT_FULL] s t ∧
      t.dev.get (MBX_DATA_WORD m) = word.toNat ∧ t.dev.get MBX_STAT_FULL = s.dev.get MBX_STAT_FULL + 2 ^ (m : Nat) ∧
      t.dev.out = s.dev.out ++ [.mbxInterrupt m (if (m : Nat) = 0 ∨ (m : Nat) = 5 then some (s.dev.get MBX_CTRL_MCSEL) else none)]) ∧
  (∀ (s : State) (writer : MbxSide) (m : Fin 8) (word : Word),
    deviceOn s →
    (writer, (m : Nat)) ∈ [(.mc, 1), (.trusted, 3)] →
    s.dev.mbxFull m = false →
    AnswersWith (exec (.mbxWrite writer m word) s) fun t =>
      Only [.mbx, .host, .out] [.field (MBX_DATA_WORD m), .field MBX_STAT_FULL, .field HIF_ISR_CAUSE] s t ∧
      t.dev.get (MBX_DATA_WORD m) = word.toNat ∧ t.dev.get MBX_STAT_FULL = s.dev.get MBX_STAT_FULL + 2 ^ (m : Nat) ∧
      (isSender s.straps = true → s.dev.getb (HIF_VEC_EN 2) = true → natBit (t.dev.get HIF_ISR_CAUSE) 2 = true)) ∧
  (∀ (s : State) (writer : MbxSide) (m : Fin 8) (word : Word),
    deviceOn s →
    (writer, (m : Nat)) ∈ [(.host, 0), (.mc, 1), (.host, 2), (.trusted, 3), (.mc, 4), (.trusted, 5)] →
    ¬ (s.straps.role = .tile ∧ writer = .host) →
    s.dev.mbxFull m = true →
    AnswersWith (exec (.mbxWrite writer m word) s) fun t =>
      Only [.host, .out] [] s t ∧ t.dev.out = s.dev.out ++ [.mbxReject m] ∧
      t.dev.host = (if s.straps.role = .sender ∧ writer = .host then { s.dev.host with pcie.caLogged := true } else s.dev.host)) ∧
  (∀ (s : State) (m : Fin 8) (word : Word),
    tileOn s →
    (m : Nat) = 0 ∨ (m : Nat) = 2 →
    (natBit (s.dev.get SEC_PRIV_SVC_PERM) 0 = false → AnswersWith (exec (.mbxWrite .host m word) s) (Nacked s)) ∧
      (natBit (s.dev.get SEC_PRIV_SVC_PERM) 0 = true → s.dev.mbxFull m = true →
        AnswersWith (exec (.mbxWrite .host m word) s) fun t =>
          Only [.out] [.word GEN_SVC_STAT] s t ∧ t.dev.out = s.dev.out ++ [.svcNack] ∧ t.dev.get GEN_SVC_STAT_FULL_SEEN = 1 ∧
          t.dev.get GEN_SVC_STAT_NACKS = min (s.dev.get GEN_SVC_STAT_NACKS + 1) 0xFFFF)) ∧
  (∀ (s : State) (m : Fin 8),
    tileOn s →
    natBit (s.dev.get SEC_PRIV_SVC_PERM) 0 = false →
    AnswersWith (exec (.mbxAck .host m) s) (Nacked s)) ∧
  (∀ (s : State) (writer : MbxSide) (m : Fin 8) (word : Word),
    deviceOn s →
    ¬ (writer, (m : Nat)) ∈ [(.host, 0), (.mc, 1), (.host, 2), (.trusted, 3), (.mc, 4), (.trusted, 5), (.mc, 6), (.twin, 7)] →
    (s.straps.role = .tile → writer = .host → natBit (s.dev.get SEC_PRIV_SVC_PERM) 1 = true) →
    exec (.mbxWrite writer m word) s = .next s) ∧
  (∀ (s : State) (reader : MbxSide) (m : Fin 8),
    deviceOn s →
    (reader, (m : Nat)) ∈ [(.mc, 0), (.host, 1), (.trusted, 2), (.host, 3), (.trusted, 4), (.mc, 5)] →
    (s.straps.role = .tile → reader = .host → natBit (s.dev.get SEC_PRIV_SVC_PERM) 0 = true) →
    s.dev.mbxFull m = true →
    AnswersWith (exec (.mbxAck reader m) s) fun t =>
      Only [.mbx] [.field MBX_STAT_FULL] s t ∧ t.dev.get MBX_STAT_FULL + 2 ^ (m : Nat) = s.dev.get MBX_STAT_FULL) ∧
  (∀ (s : State) (q : Nat),
    senderOn s →
    s.dev.mbxFull 7 = true →
    s.dev.twin.mseqIn = some q →
    let ack := leBytes 3 1 ++ leBytes q 2
    AnswersWith (exec (.mbxAck .mc 7) s) fun t =>
      Only [.mbx, .twin, .out] [.field MBX_STAT_FULL] s t ∧ t.dev.get MBX_STAT_FULL + 128 = s.dev.get MBX_STAT_FULL ∧
      t.dev.twin = { s.dev.twin with mseqAcked := some q } ∧
      t.dev.out = s.dev.out ++ (if s.dev.boot.started = true then [.yoyo (ack ++ leBytes (crc32c ack) 4)] else [])) ∧
  (∀ (s : State) (pair : Fin 2) (tick : Nat),
    tileOn s →
    s.dev.mbx.bothSince[(pair : Nat)]? = some (some tick) →
    tick + 25000 ≤ s.dev.time.clk.ticks →
    AnswersWith (exec (.mbxCross (pair.castLE (by decide))) s) fun t =>
      OnlyLogging [.mbx, .out] [.field MBX_STAT_CROSS] s t ∧ natBit (t.dev.get MBX_STAT_CROSS) pair = true ∧
      natBit t.dev.mbx.vsecCross pair = true ∧
      Logs [(EV_MBX_CROSS.code, pair, 0, 0)] s t) ∧
  (∀ (s : State) (word : Word),
    senderOn s →
    s.dev.mbxFull 6 = false →
    let body := leBytes 2 1 ++ leBytes word.toNat 4 ++ leBytes ((s.dev.twin.mseq + 1) % 65536) 2
    AnswersWith (exec (.mbxWrite .mc 6 word) s) fun t =>
      Only [.mbx, .twin, .out] [.field (MBX_DATA_WORD 6), .field MBX_STAT_FULL] s t ∧
      t.dev.get (MBX_DATA_WORD 6) = word.toNat ∧ t.dev.get MBX_STAT_FULL = s.dev.get MBX_STAT_FULL + 64 ∧
      t.dev.twin.mseq = (s.dev.twin.mseq + 1) % 65536 ∧
      t.dev.out = s.dev.out ++ (if s.dev.boot.started = true then [.yoyo (body ++ leBytes (crc32c body) 4)] else [])) ∧
  (∀ (s : State) (bytes : List Byte),
    senderOn s →
    twinOk bytes 2 11 = true →
    s.dev.twin.mseqAcked ≠ some (leAt bytes 5 2) →
    s.dev.mbxFull 7 = false →
    AnswersWith (exec (.twinMbxDataReceive bytes) s) fun t =>
      Only [.mbx, .twin, .out] [.field (MBX_DATA_WORD 7), .field MBX_STAT_FULL] s t ∧
      t.dev.get (MBX_DATA_WORD 7) = leAt bytes 1 4 % 2 ^ 32 ∧ t.dev.get MBX_STAT_FULL = s.dev.get MBX_STAT_FULL + 128 ∧
      t.dev.twin.mseqIn = some (leAt bytes 5 2) ∧ t.dev.out = s.dev.out ++ [.mbxInterrupt 7 (some (s.dev.get MBX_CTRL_MCSEL))]) ∧
  (∀ (s : State) (bytes : List Byte),
    senderOn s →
    twinOk bytes 2 11 = true →
    s.dev.twin.mseqAcked = some (leAt bytes 5 2) →
    let ack := leBytes 3 1 ++ leBytes (leAt bytes 5 2) 2
    AnswersWith (exec (.twinMbxDataReceive bytes) s) fun t =>
      Only [.out] [] s t ∧ t.dev.out = s.dev.out ++ (if s.dev.boot.started = true then [.yoyo (ack ++ leBytes (crc32c ack) 4)] else [])) ∧
  (∀ (s : State) (bytes : List Byte),
    senderOn s →
    twinOk bytes 2 11 = false →
    exec (.twinMbxDataReceive bytes) s = .next s) ∧
  (∀ (s : State) (bytes : List Byte),
    senderOn s →
    twinOk bytes 3 7 = true →
    s.dev.mbxFull 6 = true →
    leAt bytes 1 2 = s.dev.twin.mseq →
    AnswersWith (exec (.twinMbxAckReceive bytes) s) fun t =>
      Only [.mbx] [.field MBX_STAT_FULL] s t ∧ t.dev.get MBX_STAT_FULL + 64 = s.dev.get MBX_STAT_FULL) ∧
  (∀ (s : State) (bytes : List Byte),
    senderOn s →
    twinOk bytes 4 7 = true →
    s.dev.mbxFull 6 = true →
    leAt bytes 1 2 = s.dev.twin.mseq →
    AnswersWith (exec (.twinMbxAbortReceive bytes) s) fun t =>
      Only [.mbx, .out] [.field MBX_STAT_FULL, .field MBX_STAT_ABORTED] s t ∧
      t.dev.get MBX_STAT_FULL + 64 = s.dev.get MBX_STAT_FULL ∧ natBit (t.dev.get MBX_STAT_ABORTED) 6 = true ∧
      t.dev.out = s.dev.out ++ [.mbxInterrupt 6 (some (s.dev.get MBX_CTRL_MCSEL))]) ∧
  (∀ (s : State),
    senderOn s →
    s.dev.mbxFull 6 = true →
    s.dev.twin.mbxLast + 250000 ≤ s.dev.time.clk.ticks →
    let body := leBytes 2 1 ++ leBytes (s.dev.get (MBX_DATA_WORD 6)) 4 ++ leBytes s.dev.twin.mseq 2
    AnswersWith (exec .twinMbxRepeat s) fun t =>
      Only [.twin, .out] [] s t ∧ t.dev.out = s.dev.out ++ (if s.dev.boot.started = true then [.yoyo (body ++ leBytes (crc32c body) 4)] else []) ∧
      t.dev.twin.mbxLast = s.dev.time.clk.ticks)

/-- R186 to R188: a tick adds 4 ns, TRIM, and at a tile corr(o), at a sender what a slew applies, also while lines send;
with no line sending it changes nothing else but the bits that show the reference inputs and the PTP links (R150,
R209); while dormant the clock stands. A slew ends when its correction is consumed. TIME_SET steps the clock to its
time, advances TEPOCH, sets STEP_SEEN and records TIME_STEP with the time before; TIME_ADJ of at most 1 ms starts a
slew, a larger one steps; both answer TIME_BUSY while PTP disciplines the clock. R192, R193: a PPS_IN edge is
stamped, and with SRC = PPS selects PPS and corrects the phase to the second; 2 s without an edge leave the clock in
HOLDOVER; PPS_OUT rises at the second and falls WIDTH_US later. The model's choices: the trim that PPS sets is a
free function of the clock's trim and offset (the log, 9); each edge makes LOCKED, one outside FREE too (82), and in
FREE steps the clock to the second; the levels of the pins are read at each tick (134); a tick in which a grid
instant passes ends a frame period of a sender, and shows FAB_RATE (R46). Completion, with what the next state
holds, for: WALL_CLOCK_TICK, CLOCK_SLEW_DONE, TIME_SET, TIME_ADJ, PPS_IN_EDGE, PPS_TIMEOUT, PPS_OUT_PULSE,
PPS_OUT_FALL. -/
def Obligations.WallClock : Prop :=
  (∀ (s : State) (pins : PinLevels),
    tileOn s →
    let v := s.dev.time.clk.whole + 4 * 2 ^ 32 + s.dev.trim + s.dev.time.clk.corr
    AnswersWith (exec (.wallClockTick pins) s) fun t =>
      (0 ≤ v ∧ v < 2 ^ 80 * 1000000000 → t.dev.time.clk.whole = v) ∧ t.dev.time.clk.ticks = s.dev.time.clk.ticks + 1 ∧
      t.dev.time.clk.ns < 1000000000 ∧ t.dev.time.clk.frac < 65536 ∧ t.dev.time.clk.res < 65536) ∧
  (∀ (s : State) (pins : PinLevels),
    senderOn s →
    s.dev.time.clk.slewRem = 0 →
    -515396 ≤ s.dev.trim ∧ s.dev.trim ≤ 515396 →
    let v := s.dev.time.clk.whole + 4 * 2 ^ 32 + s.dev.trim
    AnswersWith (exec (.wallClockTick pins) s) fun t =>
      (v < 2 ^ 80 * 1000000000 → t.dev.time.clk.whole = v) ∧ t.dev.time.clk.ticks = s.dev.time.clk.ticks + 1 ∧
      t.dev.time.clk.slewRem = 0) ∧
  (∀ (s : State) (pins : PinLevels),
    senderOn s →
    0 < s.dev.time.clk.slewRem →
    -515396 ≤ s.dev.trim ∧ s.dev.trim ≤ 515396 →
    17179 ≤ min ((s.dev.get TIME_CTRL_SLEW_PPM * 17179869184 / 1000000 : Nat) : Int) (515396 - s.dev.trim) →
    let u := min s.dev.time.clk.slewRem (min ((s.dev.get TIME_CTRL_SLEW_PPM * 17179869184 / 1000000 : Nat) : Int) (515396 - s.dev.trim))
    let v := s.dev.time.clk.whole + 4 * 2 ^ 32 + s.dev.trim + u
    AnswersWith (exec (.wallClockTick pins) s) fun t =>
      (v < 2 ^ 80 * 1000000000 → t.dev.time.clk.whole = v) ∧ t.dev.time.clk.slewRem = s.dev.time.clk.slewRem - u) ∧
  (∀ (s : State) (pins : PinLevels),
    senderOn s →
    s.dev.time.clk.slewRem < 0 →
    -515396 ≤ s.dev.trim ∧ s.dev.trim ≤ 515396 →
    17179 ≤ min ((s.dev.get TIME_CTRL_SLEW_PPM * 17179869184 / 1000000 : Nat) : Int) (515396 + s.dev.trim) →
    let u := min (-s.dev.time.clk.slewRem) (min ((s.dev.get TIME_CTRL_SLEW_PPM * 17179869184 / 1000000 : Nat) : Int) (515396 + s.dev.trim))
    let v := s.dev.time.clk.whole + 4 * 2 ^ 32 + s.dev.trim - u
    AnswersWith (exec (.wallClockTick pins) s) fun t =>
      (v < 2 ^ 80 * 1000000000 → t.dev.time.clk.whole = v) ∧ t.dev.time.clk.slewRem = s.dev.time.clk.slewRem + u) ∧
  (∀ (s : State) (pins : PinLevels),
    senderOn s →
    s.dev.time.clk.slewRem ≠ 0 →
    -515396 ≤ s.dev.trim ∧ s.dev.trim ≤ 515396 →
    s.dev.slewRate s.dev.time.clk.slewRem < 17179 →
    let v := s.dev.time.clk.whole + 4 * 2 ^ 32 + s.dev.trim
    AnswersWith (exec (.wallClockTick pins) s) fun t =>
      (v < 2 ^ 80 * 1000000000 → t.dev.time.clk.whole = v) ∧ t.dev.time.clk.slewRem = s.dev.time.clk.slewRem) ∧
  (∀ (s : State) (pins : PinLevels),
    deviceOn s →
    (∀ x : Fin 4, (s.dev.port x).toneSince.isSome = true ∨ s.dev.get (LANE_STAT_STATE x) ∈ [P_DOWN, P_REFWAIT, P_LS2, P_LISTEN]) →
    s.straps.role = .tile ∨ periodEnds (s.dev.get RING_FLIP_MODE_CUR) s.dev.now (s.dev.clockOn s.straps).now = false →
    AnswersWith (exec (.wallClockTick pins) s) fun t =>
      Only [.clock, .boot] [.field GEN_STAT_WAKE, .field LANE_REF_STAT_REFI_A_OK, .field LANE_REF_STAT_REFI_B_OK, .field (TIME_PTP_STAT_LINK 0),
        .field (TIME_PTP_STAT_LINK 1)] s t ∧
      t.dev.boot = { s.dev.boot with trst := pins.trstHigh } ∧ t.dev.get GEN_STAT_WAKE = b2n pins.wakeLow ∧
      t.dev.get LANE_REF_STAT_REFI_A_OK = b2n pins.refiA ∧
      t.dev.get LANE_REF_STAT_REFI_B_OK = b2n (pins.refiB && decide (s.straps.role = .tile)) ∧
      t.dev.get (TIME_PTP_STAT_LINK 0) =
        (if s.straps.role = .sender ∧ pins.link0 = true then 1 else s.dev.get (TIME_PTP_STAT_LINK 0)) ∧
      t.dev.get (TIME_PTP_STAT_LINK 1) =
        (if s.straps.role = .sender ∧ pins.link1 = true then 1 else s.dev.get (TIME_PTP_STAT_LINK 1))) ∧
  (∀ (s : State) (pins : PinLevels),
    senderOn s →
    (∀ x : Fin 4, s.dev.get (LANE_STAT_STATE x) ∈ [P_DOWN, P_REFWAIT]) →
    periodEnds (s.dev.get RING_FLIP_MODE_CUR) s.dev.now (s.dev.clockOn s.straps).now = true →
    AnswersWith (exec (.wallClockTick pins) s) fun t =>
      t.dev.get FAB_RATE_AVG = (if s.dev.tile.worked = true then (s.dev.draw 65536).1 else 0) ∧
      t.dev.free = s.dev.free + 2 * b2n s.dev.tile.worked ∧
      t.dev.tile = { s.dev.tile with worked := false } ∧
      (s.dev.tile.worked = false → t.dev.get FAB_RATE_SLOW_PE = 0)) ∧
  (∀ (s : State) (pins : PinLevels),
    Settled s →
    s.dev.boot.power = .dormant ∨ s.dev.boot.power = .brownOut →
    AnswersWith (exec (.wallClockTick pins) s) fun t => Only [.clock] [] s t ∧
      t.dev.time.clk = { s.dev.time.clk with ticks := s.dev.time.clk.ticks + 1 }) ∧
  (∀ (s : State),
    senderOn s →
    s.dev.getb TIME_STAT_SLEWING = true →
    s.dev.time.clk.slewRem = 0 →
    AnswersWith (exec .clockSlewDone s) fun t => Only [] [.field TIME_STAT_SLEWING] s t ∧ t.dev.get TIME_STAT_SLEWING = 0) ∧
  (∀ (s : State) (i : Nat) (desc : List Byte),
    Waits (.ring i) desc s = true →
    s.dev.firmware = true →
    dOpcode desc = 0x0201 →
    s.dev.get TIME_CTRL_SRC = SRC_HOST →
    dData desc 0 < 1000000000 →
    s.dev.host.queue = [] →
    AnswersWith (exec (.timeSet (.ring i)) s) fun t =>
      OnlyLogging [.clock, .time, .host] [.field TIME_STAT_STATE, .field TIME_STAT_SLEWING, .field TIME_STAT_STEP_SEEN,
        .field TIME_STAT_TEPOCH] s t ∧
      AnsweredOnly (.ring i) desc ST_OK ((s.dev.get TIME_STAT_TEPOCH + 1) % 256) s t ∧
      t.dev.time.clk.whole = (((dData desc 2 % 65536 * 2 ^ 32 + dData desc 1) * 1000000000 + dData desc 0 : Nat) : Int) * 2 ^ 32 ∧
      t.dev.get TIME_STAT_TEPOCH = (s.dev.get TIME_STAT_TEPOCH + 1) % 256 ∧ t.dev.get TIME_STAT_STEP_SEEN = 1 ∧
      t.dev.get TIME_STAT_SLEWING = 0 ∧ t.dev.time.clk.slewRem = 0 ∧ t.dev.get TIME_STAT_STATE = T_LOCKED ∧
      { t.dev.time with clk := s.dev.time.clk } = { s.dev.time with lastPulse := none } ∧
      Logs [(EV_TIME_STEP.code, s.dev.time.clk.ns % 2 ^ 32, s.dev.time.clk.sec % 2 ^ 32, s.dev.time.clk.sec / 2 ^ 32 % 65536)] s t) ∧
  (∀ (s : State) (i : Nat) (desc : List Byte),
    Waits (.ring i) desc s = true →
    s.dev.firmware = true →
    dOpcode desc = 0x0201 ∨ dOpcode desc = 0x0202 →
    s.dev.get TIME_CTRL_SRC = SRC_PTP →
    s.dev.get TIME_STAT_SEL < 2 →
    AnswersWith (exec (if dOpcode desc = 0x0201 then .timeSet (.ring i) else .timeAdj (.ring i)) s) fun t =>
      Only [.host] [] s t ∧ AnsweredOnly (.ring i) desc ST_TIME_BUSY 0 s t) ∧
  (∀ (s : State) (i : Nat) (desc : List Byte),
    Waits (.ring i) desc s = true →
    s.dev.firmware = true →
    dOpcode desc = 0x0201 →
    s.dev.get TIME_CTRL_SRC = SRC_HOST →
    1000000000 ≤ dData desc 0 →
    AnswersWith (exec (.timeSet (.ring i)) s) fun t =>
      Only [.host] [] s t ∧ AnsweredOnly (.ring i) desc ST_TIME_RANGE 0 s t) ∧
  (∀ (s : State) (i : Nat) (desc : List Byte),
    Waits (.ring i) desc s = true →
    s.dev.firmware = true →
    dOpcode desc = 0x0202 →
    s.dev.get TIME_CTRL_SRC = SRC_HOST →
    s.dev.time.clk.slewRem = 0 →
    toSigned 32 (dData desc 0) ≠ 0 →
    -1000000 ≤ toSigned 32 (dData desc 0) ∧ toSigned 32 (dData desc 0) ≤ 1000000 →
    17179 ≤ s.dev.slewRate (toSigned 32 (dData desc 0) * 2 ^ 32) →
    AnswersWith (exec (.timeAdj (.ring i)) s) fun t =>
      Only [.clock, .host] [.field TIME_STAT_SLEWING] s t ∧ AnsweredOnly (.ring i) desc ST_OK 0 s t ∧
      t.dev.time.clk = { s.dev.time.clk with slewRem := toSigned 32 (dData desc 0) * 2 ^ 32 } ∧ t.dev.get TIME_STAT_SLEWING = 1) ∧
  (∀ (s : State) (i : Nat) (desc : List Byte),
    Waits (.ring i) desc s = true →
    s.dev.firmware = true →
    dOpcode desc = 0x0202 →
    s.dev.get TIME_CTRL_SRC = SRC_HOST →
    s.dev.time.clk.slewRem = 0 →
    1000000 < toSigned 32 (dData desc 0) →
    s.dev.time.clk.whole + toSigned 32 (dData desc 0) * 2 ^ 32 < 2 ^ 80 * 1000000000 →
    s.dev.host.queue = [] →
    AnswersWith (exec (.timeAdj (.ring i)) s) fun t =>
      OnlyLogging [.clock, .time, .host] [.field TIME_STAT_SLEWING, .field TIME_STAT_STEP_SEEN, .field TIME_STAT_TEPOCH] s t ∧
      AnsweredOnly (.ring i) desc ST_OK 0 s t ∧ t.dev.get TIME_STAT_STEP_SEEN = 1 ∧
      { t.dev.time with clk := s.dev.time.clk } = { s.dev.time with lastPulse := none } ∧
      t.dev.time.clk.whole = s.dev.time.clk.whole + toSigned 32 (dData desc 0) * 2 ^ 32) ∧
  (∀ (s : State),
    Waits .remote ((s.dev.tile.cmds.map fun c => cmdDesc c.1.bytes).headD []) s = true →
    s.dev.firmware = true →
    dOpcode ((s.dev.tile.cmds.map fun c => cmdDesc c.1.bytes).headD []) = 0x0201 →
    let desc := (s.dev.tile.cmds.map fun c => cmdDesc c.1.bytes).headD []
    AnswersWith (exec (.timeSet .remote) s) fun t =>
      Only [.tile, .ports] [] s t ∧ AnsweredOnly .remote desc ST_BAD_PARAM 0 s t) ∧
  (∀ (s : State),
    senderOn s →
    s.dev.get TIME_CTRL_SRC ≠ SRC_PPS →
    AnswersWith (exec .ppsInEdge s) fun t =>
      Only [.time] [.field TIME_PPSIN_NS, .field TIME_PPSIN_NEW] s t ∧
      t.dev.get TIME_PPSIN_NS = s.dev.time.clk.ns % 2 ^ 30 ∧ t.dev.get TIME_PPSIN_NEW = 1 ∧
      t.dev.time = { s.dev.time with lastPps := some s.dev.time.clk.ticks }) ∧
  (∀ (s : State),
    senderOn s →
    s.dev.get TIME_CTRL_SRC = SRC_PPS →
    s.dev.get TIME_STAT_STATE ≠ T_FREE →
    s.dev.time.clk.ns < 1000000 →
    let o := (s.dev.time.clk.ns : Int)
    let v := sat (Config.servoTrim s.dev.trim o) (-515396) 515396
    AnswersWith (exec .ppsInEdge s) fun t =>
      OnlyLogging [.time, .clock, .host, .twin] [.word TIME_PPSIN, .word TIME_STAT, .word TIME_TRIM] s t ∧
      t.dev.get TIME_PPSIN_NS = s.dev.time.clk.ns ∧ t.dev.get TIME_STAT_SEL = 2 ∧ t.dev.get TIME_STAT_STATE = T_LOCKED ∧
      t.dev.trim = v ∧
      (17179 ≤ min ((s.dev.get TIME_CTRL_SLEW_PPM * 17179869184 / 1000000 : Nat) : Int) (515396 + v) →
        t.dev.time.clk = { s.dev.time.clk with slewRem := -o * 2 ^ 32 })) ∧
  (∀ (s : State),
    senderOn s →
    s.dev.get TIME_CTRL_SRC = SRC_PPS →
    s.dev.get TIME_STAT_STATE ≠ T_FREE →
    999000000 < s.dev.time.clk.ns ∧ s.dev.time.clk.ns < 1000000000 →
    let o := (s.dev.time.clk.ns : Int) - 1000000000
    let v := sat (Config.servoTrim s.dev.trim o) (-515396) 515396
    AnswersWith (exec .ppsInEdge s) fun t =>
      OnlyLogging [.time, .clock, .host, .twin] [.word TIME_PPSIN, .word TIME_STAT, .word TIME_TRIM] s t ∧
      t.dev.get TIME_PPSIN_NS = s.dev.time.clk.ns ∧ t.dev.get TIME_STAT_SEL = 2 ∧ t.dev.get TIME_STAT_STATE = T_LOCKED ∧
      t.dev.trim = v ∧
      (17179 ≤ min ((s.dev.get TIME_CTRL_SLEW_PPM * 17179869184 / 1000000 : Nat) : Int) (515396 - v) →
        t.dev.time.clk = { s.dev.time.clk with slewRem := -o * 2 ^ 32 })) ∧
  (∀ (s : State),
    senderOn s →
    s.dev.get TIME_CTRL_SRC = SRC_PPS →
    s.dev.get TIME_STAT_STATE = T_FREE →
    s.dev.time.clk.ns < 1000000000 →
    s.dev.host.queue = [] →
    let o : Int := if s.dev.time.clk.ns < 500000000 then (s.dev.time.clk.ns : Int) else (s.dev.time.clk.ns : Int) - 1000000000
    let v := s.dev.time.clk.whole - o * 2 ^ 32
    AnswersWith (exec .ppsInEdge s) fun t =>
      OnlyLogging [.time, .clock, .host, .twin] [.word TIME_PPSIN, .word TIME_STAT, .word TIME_TRIM] s t ∧
      t.dev.get TIME_PPSIN_NS = s.dev.time.clk.ns ∧ t.dev.get TIME_PPSIN_NEW = 1 ∧ t.dev.get TIME_STAT_SEL = 2 ∧
      t.dev.get TIME_STAT_STATE = T_LOCKED ∧ t.dev.get TIME_STAT_STEP_SEEN = 1 ∧
      t.dev.get TIME_STAT_TEPOCH = (s.dev.get TIME_STAT_TEPOCH + 1) % 256 ∧ t.dev.get TIME_STAT_SLEWING = 0 ∧
      t.dev.trim = sat (Config.servoTrim s.dev.trim o) (-515396) 515396 ∧
      (v < 2 ^ 80 * 1000000000 → t.dev.time.clk.whole = v) ∧ t.dev.time.clk.slewRem = 0 ∧
      Logs [(EV_TIME_STEP.code, s.dev.time.clk.ns % 2 ^ 32, s.dev.time.clk.sec % 2 ^ 32, s.dev.time.clk.sec / 2 ^ 32 % 65536)] s t) ∧
  (∀ (s : State),
    senderOn s →
    s.dev.get TIME_CTRL_SRC = SRC_PPS →
    s.dev.get TIME_STAT_SEL = 2 →
    s.dev.get TIME_STAT_STATE = T_LOCKED →
    s.dev.time.lastPps = none ∨ (s.dev.time.lastPps.any fun p => decide (p + 500000000 ≤ s.dev.time.clk.ticks)) = true →
    AnswersWith (exec .ppsTimeout s) fun t => Only [] [.field TIME_STAT_SEL, .field TIME_STAT_STATE] s t ∧
      t.dev.get TIME_STAT_SEL = 3 ∧ t.dev.get TIME_STAT_STATE = T_HOLDOVER) ∧
  (∀ (s : State),
    senderOn s →
    s.dev.get TIME_PPS_MODE = 1 →
    s.dev.time.clk.ns ≤ 5 →
    s.dev.time.lastPulse ≠ some (s.dev.time.clk.sec * 1000000000) →
    AnswersWith (exec .ppsOutPulse s) fun t => Only [.time, .out] [] s t ∧ t.dev.out = s.dev.out ++ [.ppsOut true] ∧
      t.dev.time = { s.dev.time with
        ppsHigh := some s.dev.time.clk.ticks, lastPulse := some (s.dev.time.clk.sec * 1000000000) }) ∧
  (∀ (s : State) (p : Nat),
    senderOn s →
    s.dev.time.ppsHigh = some p →
    p + 250 * s.dev.get TIME_PPS_WIDTH_US ≤ s.dev.time.clk.ticks →
    AnswersWith (exec .ppsOutFall s) fun t => Only [.time, .out] [] s t ∧ t.dev.out = s.dev.out ++ [.ppsOut false] ∧
      t.dev.time = { s.dev.time with ppsHigh := none })

/-- R194 to R199, R208: a sender queues a TIME on a port each millisecond. A tile that takes a TIME from its source
takes over TRIM, shows the offset o, becomes LOCKED and corrects its rate for an offset of up to 1 ms; in FREE, or
for a larger o, it steps by o; without a valid path it only records TIME_NOPATH and stops correcting. 10 ms without
a TIME leave a LOCKED tile in HOLDOVER. TIME_PROBE is answered by a tile at once with DOWN_RES; when its RSP leaves,
TURN is the time since the CMD arrived; it completes with the rounded quarter of the mean of four spans; a survey
starts over the present positions of its port and sends its probes; LOCAL TIME_PROBE is BAD_PARAM. Completion, with
what the next state holds, for: TIME_SEND, TIME_RECEIVE, TIME_HOLDOVER_TIMEOUT, TIME_PROBE, RSP_RECEIVE,
TIME_SURVEY, SURVEY_START, SURVEY_PROBE. -/
def Obligations.TimeOnTheChain : Prop :=
  (∀ (s : State) (x : Port) (p : TxPkt),
    senderOn s →
    sendsCells (s.dev.get (LANE_STAT_STATE x)) = true →
    (s.dev.port x).lastTimeSent + 247500 ≤ s.dev.time.clk.ticks →
    (s.dev.port x).cur = some p →
    AnswersWith (exec (.timeSend x) s) fun t => Only [.ports] [] s t ∧
      t.dev.ports = s.dev.ports.modify x fun q =>
        { q with lastTimeSent := s.dev.time.clk.ticks, txq := modAt q.txq TQ_TIME fun l => l ++ [.time] }) ∧
  (∀ (s : State) (k : RxPkt) (rest : List RxPkt) (c : Source),
    tileOn s →
    s.dev.rxq = k :: rest →
    pktType k.bytes = PT_TIME →
    pktSnd k.bytes = true →
    s.dev.tile.sources = [c] →
    c.tail = pktTail k.bytes ∧ c.epoch = pktEpoch k.bytes ∧ c.pri = pktPri k.bytes →
    s.dev.tile.accepted = some (pktTail k.bytes) →
    s.dev.get TIME_STAT_STATE ≠ T_FREE →
    s.dev.getb (if pktTail k.bytes = true then TIME_PATH_B_VALID else TIME_PATH_A_VALID) = true →
    -(1000000 * 65536) ≤ timeOffset (pktBody k.bytes) (s.dev.get (if pktTail k.bytes = true then TIME_PATH_B_DELAY else TIME_PATH_A_DELAY)) k.tRx →
    timeOffset (pktBody k.bytes) (s.dev.get (if pktTail k.bytes = true then TIME_PATH_B_DELAY else TIME_PATH_A_DELAY)) k.tRx ≤ 1000000 * 65536 →
    let o := timeOffset (pktBody k.bytes) (s.dev.get (if pktTail k.bytes = true then TIME_PATH_B_DELAY else TIME_PATH_A_DELAY)) k.tRx
    AnswersWith (exec .timeReceive s) fun t =>
      Only [.rxq, .tile, .clock] [.word TIME_TRIM, .word TIME_OFFSET, .field TIME_STAT_STATE, .field TIME_STAT_SEL,
        .field TIME_STAT_SLEWING, .field TIME_STAT_PATH_OK, .word TWIN_ACC, .word TWIN_ACC_EPOCH] s t ∧ t.dev.rxq = rest ∧
      t.dev.get TIME_TRIM_TRIM = leAt (pktBody k.bytes) 12 4 ∧ t.dev.get TIME_STAT_STATE = T_LOCKED ∧
      t.dev.geti TIME_OFFSET_OFFSET = Int.fdiv o 65536 ∧
      t.dev.time.clk = { s.dev.time.clk with lastTime := s.dev.time.clk.ticks, corr := corrOf o } ∧
      t.dev.tile = { s.dev.tile with sources := [{ c with lastTime := some s.dev.time.clk.ticks }] }) ∧
  (∀ (s : State) (k : RxPkt) (rest : List RxPkt) (c : Source),
    tileOn s →
    s.dev.rxq = k :: rest →
    pktType k.bytes = PT_TIME →
    pktSnd k.bytes = true →
    s.dev.tile.sources = [c] →
    c.tail = pktTail k.bytes ∧ c.epoch = pktEpoch k.bytes ∧ c.pri = pktPri k.bytes →
    s.dev.tile.accepted = some (pktTail k.bytes) →
    s.dev.get TIME_STAT_STATE = T_FREE →
    s.dev.getb (if pktTail k.bytes = true then TIME_PATH_B_VALID else TIME_PATH_A_VALID) = true →
    s.dev.tile.frames = [] →
    let v := s.dev.time.clk.whole + 65536 *
      timeOffset (pktBody k.bytes) (s.dev.get (if pktTail k.bytes = true then TIME_PATH_B_DELAY else TIME_PATH_A_DELAY)) k.tRx
    AnswersWith (exec .timeReceive s) fun t =>
      OnlyLogging [.rxq, .tile, .clock, .time] [.word TIME_TRIM, .word TIME_OFFSET, .word TIME_STAT, .word TWIN_ACC,
        .word TWIN_ACC_EPOCH] s t ∧ t.dev.rxq = rest ∧ t.dev.get TIME_STAT_STATE = T_LOCKED ∧
      t.dev.get TIME_STAT_TEPOCH = (s.dev.get TIME_STAT_TEPOCH + 1) % 256 ∧ t.dev.get TIME_STAT_STEP_SEEN = 1 ∧
      (0 ≤ v ∧ v < 2 ^ 80 * 1000000000 → t.dev.time.clk.whole = v) ∧ t.dev.tile.frames = [] ∧
      Logs [(EV_TIME_STEP.code, s.dev.time.clk.ns % 2 ^ 32, s.dev.time.clk.sec % 2 ^ 32, s.dev.time.clk.sec / 2 ^ 32 % 65536)] s t) ∧
  (∀ (s : State) (k : RxPkt) (rest : List RxPkt) (c : Source),
    tileOn s →
    s.dev.rxq = k :: rest →
    pktType k.bytes = PT_TIME →
    pktSnd k.bytes = true →
    s.dev.tile.sources = [c] →
    c.tail = pktTail k.bytes ∧ c.epoch = pktEpoch k.bytes ∧ c.pri = pktPri k.bytes →
    s.dev.tile.accepted = some (pktTail k.bytes) →
    s.dev.get TIME_STAT_STATE ≠ T_FREE →
    s.dev.getb (if pktTail k.bytes = true then TIME_PATH_B_VALID else TIME_PATH_A_VALID) = false →
    AnswersWith (exec .timeReceive s) fun t =>
      OnlyLogging [.rxq, .tile, .clock] [.word TIME_TRIM, .field TIME_STAT_SEL, .field TIME_STAT_SLEWING,
        .field TIME_STAT_PATH_OK, .word TWIN_ACC, .word TWIN_ACC_EPOCH] s t ∧ t.dev.rxq = rest ∧
      t.dev.get TIME_TRIM_TRIM = leAt (pktBody k.bytes) 12 4 ∧
      t.dev.time.clk = { s.dev.time.clk with lastTime := s.dev.time.clk.ticks, corr := 0, noPathRecorded := true } ∧
      Logs (if s.dev.time.clk.noPathRecorded = true then [] else [(EV_TIME_NOPATH.code, 0, 0, 0)]) s t) ∧
  (∀ (s : State),
    tileOn s →
    s.dev.get TIME_STAT_STATE = T_LOCKED →
    s.dev.time.clk.lastTime + 2500000 ≤ s.dev.time.clk.ticks →
    AnswersWith (exec .timeHoldoverTimeout s) fun t =>
      OnlyLogging [.clock] [.field TIME_STAT_STATE, .field TIME_STAT_SLEWING] s t ∧
      t.dev.get TIME_STAT_STATE = T_HOLDOVER ∧ t.dev.get TIME_STAT_SLEWING = 0 ∧
      t.dev.time.clk = { s.dev.time.clk with corr := 0 } ∧ Logs [(EV_TIME_HOLDOVER.code, 0, 0, 0)] s t) ∧
  (∀ (s : State) (k : RxPkt) (rest : List RxPkt),
    tileOn s →
    s.dev.rxq = k :: rest →
    isCmd CK_DESC k = true →
    dOpcode (cmdDesc k.bytes) = 0x0200 →
    canAnswer s.dev k.bytes = true →
    AnswersWith (exec (.timeProbe .remote) s) fun t =>
      Only [.rxq, .ports] [] s t ∧ t.dev.rxq = rest ∧
      t.dev.ports = s.dev.ports.modify (endPort (pktTail k.bytes)) fun p =>
        { p with own := insertOwn (rspPkt s.dev k.bytes ST_OK 0 0 (leBytes (leAt (cmdDesc k.bytes) 24 8) 8 ++ zeros 16) (some k.tRx)) p.own }) ∧
  (∀ (d : Dev) (cmd : List Byte) (down tRx now : Nat),
    tRx ≤ now →
    now < 2 ^ 64 →
    (rspPkt d cmd ST_OK 0 0 (leBytes down 8 ++ zeros 16) (some tRx)).leaving now =
      (rspPkt d cmd ST_OK 0 0 (leBytes down 8 ++ leBytes (now - tRx) 8 ++ zeros 8) none).cells) ∧
  (∀ (s : State) (i : Nat) (desc : List Byte),
    Waits (.ring i) desc s = true →
    dOpcode desc = 0x0200 →
    AnswersWith (exec (.timeProbe (.ring i)) s) fun t => Only [.host] [] s t ∧ AnsweredOnly (.ring i) desc ST_BAD_PARAM 0 s t) ∧
  (∀ (s : State) (i : Nat) (desc : List Byte) (o : OutCmd) (r : ProbeRun) (k : RxPkt) (rest : List RxPkt),
    senderOn s →
    s.dev.host.descs = [{ fetchedCmd i desc with phase := .started }] →
    dNoCpl desc = false →
    s.dev.host.out = [o] →
    o.kind = .probe i 3 →
    s.dev.host.probes = [r] →
    r.index = some i →
    r.done = 3 →
    s.dev.rxq = k :: rest →
    pktType k.bytes = PT_RSP →
    rspStatus k.bytes = ST_OK →
    rspXid k.bytes = o.xid →
    k.port = o.port →
    pktSrcAddr k.bytes % 64 = o.position →
    let q := (r.sum + ((k.tRx : Int) - o.t1 - leAt (rspData k.bytes) 0 8 - leAt (rspData k.bytes) 8 8 - leAt (rspData k.bytes) 16 8) + 1024) / 2048
    AnswersWith (exec .rspReceive s) fun t => Only [.host, .rxq] [] s t ∧ t.dev.rxq = rest ∧
      t.dev.host = { s.dev.host.completed { fetchedCmd i desc with phase := .started }
        (if q < 0 ∨ 16777215 < q then ST_TIME_RANGE else ST_OK) (if q < 0 ∨ 16777215 < q then 0 else q.toNat) with
        out := [], probes := [] }) ∧
  (∀ (s : State) (i : Nat) (desc : List Byte),
    Waits (.ring i) desc s = true →
    s.dev.firmware = true →
    dOpcode desc = 0x0203 →
    (s.dev.survey (natBits (dData desc 0) 0 2)).waiter = none →
    s.dev.host.probes = [] →
    s.dev.time.surveys.length = 4 →
    s.dev.presentOn (natBits (dData desc 0) 0 2) ≠ [] →
    let x := natBits (dData desc 0) 0 2
    AnswersWith (exec (.timeSurvey (.ring i)) s) fun t => Only [.host, .time] [] s t ∧
      t.dev.host = { s.dev.host with descs := [{ fetchedCmd i desc with phase := .started }] } ∧
      t.dev.survey x = { s.dev.survey x with due := none, last := s.dev.time.clk.ticks, todo := s.dev.presentOn x, written := 0,
                                             failed := false, range := false, waiter := some i }) ∧
  (∀ (s : State) (x : Port),
    senderOn s →
    sendsCells (s.dev.get (LANE_STAT_STATE x)) = true →
    s.dev.getb TIME_CTRL_SURVEY_EN = true →
    (s.dev.survey x).todo = [] →
    s.dev.host.probes = [] →
    s.dev.host.out = [] →
    s.dev.time.surveys.length = 4 →
    (s.dev.survey x).last + 250000000 ≤ s.dev.time.clk.ticks →
    s.dev.presentOn x ≠ [] →
    AnswersWith (exec (.surveyStart x) s) fun t => Only [.time] [] s t ∧
      t.dev.survey x = { s.dev.survey x with due := none, last := s.dev.time.clk.ticks, todo := s.dev.presentOn x, written := 0,
                                             failed := false, range := false, waiter := none }) ∧
  (∀ (s : State) (x : Port) (q : Nat) (rest : List Nat) (p : TxPkt),
    senderOn s →
    s.dev.host.probes = [] →
    s.dev.host.out = [] →
    s.dev.time.surveys.length = 4 →
    (s.dev.survey x).lastProbe + 2500 ≤ s.dev.time.clk.ticks →
    (s.dev.survey x).todo = q :: rest →
    q < 64 →
    s.dev.getb (LANE_CTRL_TXIDLE x) = false →
    s.dev.isPresent x q = true →
    (s.dev.port x).cur = some p →
    let pkt := senderPkt s.straps s.dev x PT_CMD false false 0 (s.dev.wallAddr x q)
      (descBody s.dev.host.nextXid CK_DESC (ownDesc 0x0200 (s.dev.wallAddr x q) 0 0 0))
    AnswersWith (exec (.surveyProbe x) s) fun t => Only [.time, .host, .ports] [] s t ∧
      t.dev.survey x = { s.dev.survey x with lastProbe := s.dev.time.clk.ticks, todo := rest } ∧
      t.dev.host = { s.dev.host with
        probes := [{ port := x, position := q, index := none, done := 0, sum := 0 }]
        nextXid := (s.dev.host.nextXid + 1) % 65536
        out := [{ xid := s.dev.host.nextXid, port := x, position := q, kind := .survey 0, sentAt := none, t1 := 0 }] } ∧
      t.dev.ports = s.dev.ports.modify x fun p =>
        { p with txq := modAt p.txq TQ_CMD fun l => l ++ [.bytes pkt (some s.dev.host.nextXid) false] })

/-- R189 to R191: enabling an instance joins its groups, where its transport is UDP/IPv4, and enters LISTENING,
disabling leaves them and enters DISABLED; a message of another transport, tag or domain does nothing, nor does a
Sync or Delay_Resp of another source; an Announce selects a time-transmitter and enters UNCALIBRATED; a Sync from
that one sets the offset, which enters LOCKED after 16 offsets in a row within 100 ns and leaves it after 4 outside
1 µs; an offset of more than 1 ms of the instance in use steps the clock; losing the link or the Announces returns
to LISTENING. Every change of state records TIME_PTP_STATE. A preferred instance that has been LOCKED for REVERT_S
takes over, with TIME_DOMAIN and its own offset. A Delay_Req goes out no earlier than the interval granted by the
time-transmitter now selected. Before the firmware runs the lines of the network are idle, and nothing is sent
(R428). The model's choices: the mean path delay is a free function of the old one and the measurement, and so is
the trim (the log, 9); the order of time-transmitters is IEEE 1588's (13), and an Announce is missed after three of
its own intervals (93). Completion, with what the next state holds, for: PTP_ENABLE, PTP_DISABLE,
PTP_ANNOUNCE_RECEIVE, PTP_SYNC_RECEIVE, PTP_DELAY_REQ_SEND, PTP_DELAY_RESP_RECEIVE, PTP_ANNOUNCE_TIMEOUT,
PTP_LINK_DOWN, PTP_ARP_REQUEST, PTP_REVERT_TIMEOUT. -/
def Obligations.PtpInstances : Prop :=
  (∀ (s : State) (init : Initiator) (n : Fin 2),
    senderOn s →
    mayWrite s.straps init s.dev = true →
    s.dev.get (TIME_PTP_STAT_STATE n) = PTP_DISABLED →
    s.dev.get TIME_CTRL_SRC ≠ SRC_PTP →
    AnswersWith (exec (.ptpEnable init n) s) fun t =>
      OnlyLogging [.time, .host, .out] [.field (TIME_PTP_CTRL_EN n), .field (TIME_PTP_STAT_STATE n), .field HIF_ISR_CAUSE] s t ∧
      t.dev.get (TIME_PTP_CTRL_EN n) = 1 ∧ t.dev.get (TIME_PTP_STAT_STATE n) = PTP_LISTENING ∧
      (s.dev.out ++ (if s.dev.getb (TIME_PTP_CTRL_UDP n) = true ∧ s.dev.boot.started = true then [.ptpGroups n true
        (if s.dev.getb (TIME_PTP_CTRL_VLAN_EN n) = true then some (s.dev.get (TIME_PTP_CTRL_VLAN_ID n)) else none)
        (s.dev.get (TIME_PTP_IPV4_ADDR n))] else [])) <+: t.dev.out ∧ t.dev.time.clk = s.dev.time.clk ∧
      (s.dev.getb (HIF_VEC_EN IRQ_TIME) = true → natBit (t.dev.get HIF_ISR_CAUSE) IRQ_TIME = true) ∧
      Logs [(EV_TIME_PTP_STATE.code, 0, 0, 0)] s t) ∧
  (∀ (s : State) (init : Initiator) (n : Fin 2),
    senderOn s →
    mayWrite s.straps init s.dev = true →
    s.dev.get (TIME_PTP_STAT_STATE n) ≠ PTP_DISABLED →
    s.dev.get TIME_CTRL_SRC ≠ SRC_PTP →
    AnswersWith (exec (.ptpDisable init n) s) fun t =>
      OnlyLogging [.time, .host, .out] [.field (TIME_PTP_CTRL_EN n), .field (TIME_PTP_STAT_STATE n), .field HIF_ISR_CAUSE] s t ∧
      t.dev.get (TIME_PTP_CTRL_EN n) = 0 ∧ t.dev.get (TIME_PTP_STAT_STATE n) = PTP_DISABLED ∧
      (s.dev.out ++ (if s.dev.getb (TIME_PTP_CTRL_UDP n) = true ∧ s.dev.boot.started = true then [.ptpGroups n false
        (if s.dev.getb (TIME_PTP_CTRL_VLAN_EN n) = true then some (s.dev.get (TIME_PTP_CTRL_VLAN_ID n)) else none)
        (s.dev.get (TIME_PTP_IPV4_ADDR n))] else [])) <+: t.dev.out ∧ t.dev.time.clk = s.dev.time.clk ∧
      Logs [(EV_TIME_PTP_STATE.code, 0, 0, 0)] s t) ∧
  (∀ (s : State) (n : Fin 2) (msg : Announce),
    senderOn s →
    s.dev.get (TIME_PTP_STAT_STATE n) = PTP_LISTENING →
    msg.wire.udp = s.dev.getb (TIME_PTP_CTRL_UDP n) →
    (msg.wire.vlan.map BitVec.toNat = if s.dev.getb (TIME_PTP_CTRL_VLAN_EN n) = true then some (s.dev.get (TIME_PTP_CTRL_VLAN_ID n)) else none) →
    msg.wire.domain = s.dev.get (TIME_PTP_CTRL_DOMAIN n) →
    (s.dev.ptp n).heard = [] →
    s.dev.time.inst.length = 2 →
    0 < announceInterval msg →
    s.dev.get TIME_CTRL_SRC ≠ SRC_PTP →
    AnswersWith (exec (.ptpAnnounceReceive n msg) s) fun t =>
      OnlyLogging [.time, .host, .out] [.word (TIME_PTP_STAT n), .word (TIME_PTP_GMID_LO n), .word (TIME_PTP_GMID_HI n),
        .field HIF_ISR_CAUSE] s t ∧
      t.dev.get (TIME_PTP_STAT_STATE n) = PTP_UNCALIBRATED ∧ t.dev.get (TIME_PTP_STAT_LINK n) = 1 ∧
      t.dev.get (TIME_PTP_GMID_LO_ID n) = msg.grandmaster.toNat % 2 ^ 32 ∧
      t.dev.get (TIME_PTP_GMID_HI_ID n) = msg.grandmaster.toNat / 2 ^ 32 ∧
      t.dev.get (TIME_PTP_STAT_UTC_OFFSET n) = msg.utcOffset.toNat ∧
      (t.dev.ptp n).selected = some msg.source ∧
      ((s.dev.ptp n).selected ≠ some msg.source → (t.dev.ptp n).granted = none) ∧ (t.dev.ptp n).heard = [(msg, s.dev.time.clk.ticks)] ∧
      t.dev.time.clk = s.dev.time.clk ∧ Logs [(EV_TIME_PTP_STATE.code, 0, 0, 0)] s t) ∧
  (∀ (s : State) (n : Fin 2) (msg : Announce) (old : Nat),
    senderOn s →
    2 ≤ s.dev.get (TIME_PTP_STAT_STATE n) →
    msg.wire.udp = s.dev.getb (TIME_PTP_CTRL_UDP n) →
    (msg.wire.vlan.map BitVec.toNat = if s.dev.getb (TIME_PTP_CTRL_VLAN_EN n) = true then some (s.dev.get (TIME_PTP_CTRL_VLAN_ID n)) else none) →
    msg.wire.domain = s.dev.get (TIME_PTP_CTRL_DOMAIN n) →
    (s.dev.ptp n).selected = some old →
    s.dev.time.inst.length = 2 →
    0 < announceInterval msg →
    msg.source ≠ old →
    (∀ e ∈ (s.dev.ptp n).heard, rankLe (announceRank msg) (announceRank e.1) = true) →
    s.dev.get TIME_CTRL_SRC ≠ SRC_PTP →
    AnswersWith (exec (.ptpAnnounceReceive n msg) s) fun t =>
      OnlyLogging [.time, .host, .out] [.word (TIME_PTP_STAT n), .field HIF_ISR_CAUSE] s t ∧
      t.dev.get (TIME_PTP_STAT_STATE n) = PTP_LISTENING ∧ (t.dev.ptp n).selected = none ∧ (t.dev.ptp n).granted = none ∧
      Logs [(EV_TIME_PTP_STATE.code, 0, 0, 0)] s t) ∧
  (∀ (s : State) (n : Fin 2) (msg : PtpSync),
    senderOn s →
    2 ≤ s.dev.get (TIME_PTP_STAT_STATE n) →
    msg.wire.udp = s.dev.getb (TIME_PTP_CTRL_UDP n) →
    (msg.wire.vlan.map BitVec.toNat = if s.dev.getb (TIME_PTP_CTRL_VLAN_EN n) = true then some (s.dev.get (TIME_PTP_CTRL_VLAN_ID n)) else none) →
    msg.wire.domain = s.dev.get (TIME_PTP_CTRL_DOMAIN n) →
    (s.dev.ptp n).selected = some msg.source →
    s.dev.time.inst.length = 2 →
    s.dev.get TIME_CTRL_SRC ≠ SRC_PTP →
    let o := msg.receipt - msg.origin - msg.correction - (s.dev.get (TIME_PTP_MPD_VALUE n) : Int)
    let near := decide (-100 ≤ o ∧ o ≤ 100)
    let far := decide (o < -1000 ∨ 1000 < o)
    let st := if s.dev.get (TIME_PTP_STAT_STATE n) = PTP_UNCALIBRATED ∧ near = true ∧ 15 ≤ (s.dev.ptp n).within then PTP_LOCKED
      else if s.dev.get (TIME_PTP_STAT_STATE n) = PTP_LOCKED ∧ far = true ∧ 3 ≤ (s.dev.ptp n).outside then PTP_UNCALIBRATED
      else s.dev.get (TIME_PTP_STAT_STATE n)
    AnswersWith (exec (.ptpSyncReceive n msg) s) fun t =>
      OnlyLogging [.time, .host, .out] [.word (TIME_PTP_STAT n), .word (TIME_PTP_OFFSET n), .field HIF_ISR_CAUSE] s t ∧
      t.dev.time.clk = s.dev.time.clk ∧ t.dev.geti (TIME_PTP_OFFSET_VALUE n) = sat o (-2147483648) 2147483647 ∧
      t.dev.get (TIME_PTP_STAT_TWO_STEP n) = b2n msg.twoStep ∧ t.dev.get (TIME_PTP_STAT_STATE n) = st ∧
      (st = s.dev.get (TIME_PTP_STAT_STATE n) → Logs [] s t ∧
        (t.dev.ptp n).within = (if near = true then (s.dev.ptp n).within + 1 else 0) ∧
        (t.dev.ptp n).outside = (if far = true then (s.dev.ptp n).outside + 1 else 0)) ∧
      (st ≠ s.dev.get (TIME_PTP_STAT_STATE n) → Logs [(EV_TIME_PTP_STATE.code, 0, 0, 0)] s t)) ∧
  (∀ (s : State) (n : Fin 2) (msg : PtpSync),
    senderOn s →
    s.dev.get (TIME_PTP_STAT_STATE n) = PTP_LOCKED →
    msg.wire.udp = s.dev.getb (TIME_PTP_CTRL_UDP n) →
    (msg.wire.vlan.map BitVec.toNat = if s.dev.getb (TIME_PTP_CTRL_VLAN_EN n) = true then some (s.dev.get (TIME_PTP_CTRL_VLAN_ID n)) else none) →
    msg.wire.domain = s.dev.get (TIME_PTP_CTRL_DOMAIN n) →
    (s.dev.ptp n).selected = some msg.source →
    s.dev.time.inst.length = 2 →
    s.dev.get TIME_CTRL_SRC = SRC_PTP →
    s.dev.get TIME_STAT_SEL = n →
    s.dev.get TIME_STAT_STATE ≠ T_FREE →
    s.dev.host.queue = [] →
    1000000 < msg.receipt - msg.origin - msg.correction - (s.dev.get (TIME_PTP_MPD_VALUE n) : Int) →
    (s.dev.ptp n).outside < 3 →
    (msg.receipt - msg.origin - msg.correction - (s.dev.get (TIME_PTP_MPD_VALUE n) : Int)) * 2 ^ 32 ≤ s.dev.time.clk.whole →
    let o := msg.receipt - msg.origin - msg.correction - (s.dev.get (TIME_PTP_MPD_VALUE n) : Int)
    AnswersWith (exec (.ptpSyncReceive n msg) s) fun t =>
      OnlyLogging [.clock, .time] [.word (TIME_PTP_STAT n), .word (TIME_PTP_OFFSET n), .word TIME_OFFSET, .word TIME_TRIM,
        .word TIME_STAT] s t ∧
      t.dev.geti TIME_OFFSET_OFFSET = sat o (-2147483648) 2147483647 ∧
      t.dev.trim = sat (Config.servoTrim s.dev.trim o) (-515396) 515396 ∧
      (s.dev.time.clk.whole < 2 ^ 80 * 1000000000 → t.dev.time.clk.whole = s.dev.time.clk.whole - o * 2 ^ 32) ∧
      t.dev.get TIME_STAT_STEP_SEEN = 1 ∧ t.dev.get TIME_STAT_TEPOCH = (s.dev.get TIME_STAT_TEPOCH + 1) % 256 ∧
      Logs [(EV_TIME_STEP.code, s.dev.time.clk.ns % 2 ^ 32, s.dev.time.clk.sec % 2 ^ 32, s.dev.time.clk.sec / 2 ^ 32 % 65536)] s t) ∧
  (∀ (s : State) (n : Fin 2),
    senderOn s →
    2 ≤ s.dev.get (TIME_PTP_STAT_STATE n) →
    s.dev.delayReqDue n = true →
    AnswersWith (exec (.ptpDelayReqSend n) s) fun t => Only [.time, .out] [] s t ∧
      t.dev.out = s.dev.out ++ (if s.dev.boot.started = true then
        [.ptp n (if s.dev.getb (TIME_PTP_CTRL_P2P n) = true then 2 else 1) (s.dev.getb (TIME_PTP_CTRL_UDP n))
          (if s.dev.getb (TIME_PTP_CTRL_VLAN_EN n) = true then some (s.dev.get (TIME_PTP_CTRL_VLAN_ID n)) else none)
          (s.dev.get (TIME_PTP_CTRL_DOMAIN n))] else []) ∧
      t.dev.time = { s.dev.time with inst := s.dev.time.inst.modify n fun p => { p with lastReq := some s.dev.time.clk.ticks } }) ∧
  (∀ (s : State) (n : Fin 2) (last g : Nat),
    senderOn s →
    (s.dev.ptp n).lastReq = some last →
    (s.dev.ptp n).granted = some (g : Int) →
    s.dev.time.clk.ticks < last + 250000000 * 2 ^ g →
    exec (.ptpDelayReqSend n) s = .next s) ∧
  (∀ (s : State) (n : Fin 2) (msg : PtpDelay),
    senderOn s →
    2 ≤ s.dev.get (TIME_PTP_STAT_STATE n) →
    msg.wire.udp = s.dev.getb (TIME_PTP_CTRL_UDP n) →
    (msg.wire.vlan.map BitVec.toNat = if s.dev.getb (TIME_PTP_CTRL_VLAN_EN n) = true then some (s.dev.get (TIME_PTP_CTRL_VLAN_ID n)) else none) →
    msg.wire.domain = s.dev.get (TIME_PTP_CTRL_DOMAIN n) →
    s.dev.getb (TIME_PTP_CTRL_P2P n) = true ∨ (s.dev.ptp n).selected = some msg.source →
    let m := Int.fdiv ((msg.t2 - msg.t1) + (msg.t4 - msg.t3) - msg.correction) 2
    AnswersWith (exec (.ptpDelayRespReceive n msg) s) fun t =>
      Only [.time] [.field (TIME_PTP_STAT_LINK n), .word (TIME_PTP_MPD n)] s t ∧
      t.dev.time = (if s.dev.getb (TIME_PTP_CTRL_P2P n) = true then s.dev.time else
        { s.dev.time with inst := s.dev.time.inst.modify n fun p => { p with granted := some msg.granted } }) ∧ t.dev.get (TIME_PTP_STAT_LINK n) = 1 ∧
      t.dev.get (TIME_PTP_MPD_VALUE n) = Config.delayFilter (s.dev.get (TIME_PTP_MPD_VALUE n)) m % 2 ^ 32) ∧
  (∀ (s : State) (n : Fin 2) (a : Announce) (y : PtpSync) (m : PtpDelay),
    senderOn s →
    s.dev.ptpTakes n a.wire = false ∧ s.dev.ptpTakes n y.wire = false ∧ s.dev.ptpTakes n m.wire = false →
    exec (.ptpAnnounceReceive n a) s = .next s ∧ exec (.ptpSyncReceive n y) s = .next s ∧
      exec (.ptpDelayRespReceive n m) s = .next s) ∧
  (∀ (s : State) (n : Fin 2) (y : PtpSync) (m : PtpDelay),
    senderOn s →
    (s.dev.ptp n).selected ≠ some y.source ∧ (s.dev.ptp n).selected ≠ some m.source →
    s.dev.getb (TIME_PTP_CTRL_P2P n) = false →
    exec (.ptpSyncReceive n y) s = .next s ∧ exec (.ptpDelayRespReceive n m) s = .next s) ∧
  (∀ (s : State) (n : Fin 2),
    senderOn s →
    2 ≤ s.dev.get (TIME_PTP_STAT_STATE n) →
    (∀ e ∈ (s.dev.ptp n).heard, (s.dev.ptp n).selected = some e.1.source → e.2 + 3 * announceInterval e.1 ≤ s.dev.time.clk.ticks) →
    s.dev.time.inst.length = 2 →
    s.dev.get TIME_CTRL_SRC ≠ SRC_PTP →
    AnswersWith (exec (.ptpAnnounceTimeout n) s) fun t =>
      OnlyLogging [.time, .host, .out] [.field (TIME_PTP_STAT_STATE n), .field HIF_ISR_CAUSE] s t ∧
      t.dev.get (TIME_PTP_STAT_STATE n) = PTP_LISTENING ∧ (t.dev.ptp n).selected = none ∧ (t.dev.ptp n).granted = none ∧
      Logs [(EV_TIME_PTP_STATE.code, 0, 0, 0)] s t) ∧
  (∀ (s : State) (n : Fin 2),
    senderOn s →
    s.dev.get (TIME_PTP_STAT_STATE n) = PTP_LOCKED →
    s.dev.time.inst.length = 2 →
    s.dev.get TIME_CTRL_SRC = SRC_PTP →
    s.dev.get TIME_CTRL_PREF = n →
    s.dev.get TIME_STAT_SEL = n →
    s.dev.get (TIME_PTP_STAT_STATE (1 - (n : Nat))) ≤ PTP_LISTENING →
    s.dev.get TIME_STAT_STATE ≠ T_FREE →
    AnswersWith (exec (.ptpLinkDown n) s) fun t =>
      OnlyLogging [.time, .clock, .host, .out] [.field (TIME_PTP_STAT_STATE n), .field (TIME_PTP_STAT_LINK n),
        .field HIF_ISR_CAUSE, .field TIME_STAT_SEL, .field TIME_STAT_STATE, .field TIME_STAT_SLEWING] s t ∧
      t.dev.get (TIME_PTP_STAT_STATE n) = PTP_LISTENING ∧ t.dev.get (TIME_PTP_STAT_LINK n) = 0 ∧
      (t.dev.ptp n).selected = none ∧ (t.dev.ptp n).granted = none ∧ (t.dev.ptp n).heard = [] ∧ t.dev.get TIME_STAT_SEL = 3 ∧
      t.dev.get TIME_STAT_STATE = T_HOLDOVER ∧ t.dev.time.clk = { s.dev.time.clk with slewRem := 0 } ∧
      Logs [(EV_TIME_PTP_STATE.code, 0, 0, 0), (EV_TIME_DOMAIN.code, 0, 0, 0)] s t) ∧
  (∀ (s : State) (n : Fin 2) (target : Word) (asker : Nat),
    senderOn s →
    s.dev.getb (TIME_PTP_CTRL_EN n) = true →
    s.dev.getb (TIME_PTP_CTRL_UDP n) = true →
    target.toNat = s.dev.get (TIME_PTP_IPV4_ADDR n) →
    AnswersWith (exec (.ptpArpRequest n target asker) s) fun t => Only [.out] [.field (TIME_PTP_STAT_LINK n)] s t ∧
      t.dev.out = s.dev.out ++ (if s.dev.boot.started = true then [.arpReply n
        (if s.dev.getb (TIME_PTP_CTRL_VLAN_EN n) = true then some (s.dev.get (TIME_PTP_CTRL_VLAN_ID n)) else none)
        (s.dev.get (TIME_PTP_IPV4_ADDR n)) asker] else []) ∧ t.dev.get (TIME_PTP_STAT_LINK n) = 1) ∧
  (∀ (s : State) (n : Fin 2) (o : Int),
    senderOn s →
    s.dev.get TIME_CTRL_SRC = SRC_PTP →
    s.dev.get TIME_CTRL_PREF = n →
    s.dev.get TIME_STAT_SEL = 1 - (n : Nat) →
    s.dev.get (TIME_PTP_STAT_STATE n) = PTP_LOCKED →
    s.dev.get (TIME_PTP_STAT_STATE (1 - (n : Nat))) = PTP_LOCKED →
    0 < s.dev.get TIME_CTRL_REVERT_S →
    (s.dev.ptp n).lockedAt + 250000000 * s.dev.get TIME_CTRL_REVERT_S ≤ s.dev.time.clk.ticks →
    s.dev.get TIME_STAT_STATE ≠ T_FREE →
    (s.dev.ptp n).offset = some o →
    17179 ≤ s.dev.slewRate (-o * 2 ^ 32) →
    -1000000 ≤ o ∧ o ≤ 1000000 →
    AnswersWith (exec .ptpRevertTimeout s) fun t =>
      OnlyLogging [.clock, .host, .out] [.field TIME_STAT_SEL, .field TIME_STAT_STATE, 
        .field TIME_STAT_SLEWING, .word TIME_OFFSET, .field HIF_ISR_CAUSE] s t ∧
      t.dev.get TIME_STAT_SEL = n ∧ t.dev.get TIME_STAT_STATE = T_LOCKED ∧
      t.dev.geti TIME_OFFSET_OFFSET = o ∧ t.dev.time.clk = { s.dev.time.clk with slewRem := -o * 2 ^ 32 } ∧
      Logs [(EV_TIME_DOMAIN.code, 0, 0, 0)] s t)

/-- R124, R125, R128 to R130, R136, R141, R145, one clause for each command: enable takes DOWN to REFWAIT (LISTEN with
TXIDLE) with the rate of RATE; disable takes any state to DOWN with idle transmitters; TARGET wakes LS1 and LS2 or
sends TXONLY to LS2, its reserved value 3 is not written (R8); the PLL lock starts TRAIN, where one training frame
follows another; a valid marker's INFO word shows in STAT and counts in the run at its position and polarity, an
invalid one ends the run, and the lane adapts unless it is frozen; a lane locks after 8 such markers, or where the
hunt finds the codewords, with LIVE at THRESH; both receivers are up unless the skew of 40 ns forbids it; the peer's
RXLOCK starts GO; the end of the own countdown with the peer's CD = 0 gives LS0, with LANE_UP; 1 ms in GO returns to
TRAIN; TMO in TRAIN records LANE_NOLOCK once; 20 ms at LOS start the TXONLY path. TXIDLE is the twin logic's where
that is enabled (R287). The model's choices: a tick fills the slots of the line that its time has reached, one
training frame or codeword pair for each (the log, 105); a port whose TXIDLE is set in LS2 goes to LISTEN and its
PLLs lock again (107); the taps adapt once a frame by a free function (108); the latest report of the peer's RXLOCK
counts (146); what LOS, LOL and RX_UP show after a disable (147). Completion, with what the next state holds, for:
PORT_ENABLE, PORT_DISABLE, LANE_TARGET_WRITE, TXIDLE_SET, TXIDLE_CLEAR, LANE_PLL_LOCK, TRAINING_FRAME_RX,
WALL_CLOCK_TICK, RX_LOCK, PEER_RXLOCK_SEEN, COUNTDOWN_DONE, GO_TIMEOUT, TRAIN_TIMEOUT, TXONLY_LOS_TIMEOUT. -/
def Obligations.LinkBringUp : Prop :=
  (∀ (s : State) (init : Initiator) (x : Port),
    deviceOn s →
    mayWrite s.straps init s.dev = true →
    s.straps.role = .sender ∨ x.val < 2 →
    s.dev.get (LANE_STAT_STATE x) = P_DOWN →
    let idle := s.straps.role = .sender ∧ s.dev.getb (LANE_CTRL_TXIDLE x) = true
    AnswersWith (exec (.portEnable init x) s) fun t =>
      Only [.ports] [.field (LANE_CTRL_EN x), .word (LANE_STAT x), .field (LANEN_STAT_LOL x 0), .field (LANEN_STAT_LOL x 1),
        .field LANE_REF_STAT_SSC] s t ∧
      t.dev.get (LANE_CTRL_EN x) = 1 ∧ t.dev.get (LANE_STAT_STATE x) = (if idle then P_LISTEN else P_REFWAIT) ∧
      t.dev.get (LANE_STAT_RX_UP x) = 0 ∧
      t.dev.ports = s.dev.ports.modify x fun p => { p with
        rate := s.dev.get (LANE_CTRL_RATE x), since := s.dev.time.clk.ticks, noLockRecorded := false, refwait := true,
        fwd := [], own := [] }) ∧
  (∀ (s : State) (init : Initiator) (x : Port),
    deviceOn s →
    mayWrite s.straps init s.dev = true →
    s.straps.role = .sender ∨ x.val < 2 →
    s.dev.getb (LANE_CTRL_EN x) = true →
    AnswersWith (exec (.portDisable init x) s) fun t =>
      Only [.ports, .out] [.field (LANE_CTRL_EN x), .word (LANE_STAT x), .word (LANEN_STAT x 0), .word (LANEN_STAT x 1),
        .field TIME_PATH_A_VALID, .field TIME_PATH_B_VALID, .field TIME_STAT_PATH_OK] s t ∧
      t.dev.get (LANE_CTRL_EN x) = 0 ∧ t.dev.get (LANE_STAT_STATE x) = P_DOWN ∧ t.dev.get (LANE_STAT_RX_UP x) = 0 ∧
      t.dev.get (LANEN_STAT_LOS x 0) = 1 ∧ t.dev.get (LANEN_STAT_LOL x 1) = 1 ∧ t.dev.out = s.dev.out ++ [.txIdle x] ∧
      t.dev.ports = s.dev.ports.modify x (fun p =>
        { p with since := s.dev.time.clk.ticks, noLockRecorded := false, refwait := false, fwd := [], own := [],
                 losSince := some (p.losSince.getD s.dev.time.clk.ticks) }) ∧
      (s.straps.role = .tile ∧ s.dev.get (LANE_STAT_STATE x) = P_LS0 →
        t.dev.get (if x.val = 0 then TIME_PATH_A_VALID else TIME_PATH_B_VALID) = 0)) ∧
  (∀ (s : State) (init : Initiator) (x : Port),
    deviceOn s →
    exec (.laneTargetWrite init x 3) s = .next s) ∧
  (∀ (s : State) (init : Initiator) (x : Port) (v : Fin 4),
    deviceOn s →
    mayWrite s.straps init s.dev = true →
    v.val ≤ 2 →
    s.dev.get (LANE_STAT_STATE x) ≠ P_LS1 ∧ s.dev.get (LANE_STAT_STATE x) ≠ P_LS2 ∧ s.dev.get (LANE_STAT_STATE x) ≠ P_TXONLY →
    AnswersWith (exec (.laneTargetWrite init x v) s) fun t =>
      Only [] [.field (LANE_CTRL_TARGET x)] s t ∧ t.dev.get (LANE_CTRL_TARGET x) = v) ∧
  (∀ (s : State) (init : Initiator) (x : Port),
    deviceOn s →
    mayWrite s.straps init s.dev = true →
    s.dev.get (LANE_STAT_STATE x) = P_LS1 →
    AnswersWith (exec (.laneTargetWrite init x 0) s) fun t =>
      Only [.ports, .out] [.field (LANE_CTRL_TARGET x), .field (LANE_STAT_STATE x)] s t ∧
      t.dev.get (LANE_CTRL_TARGET x) = 0 ∧ t.dev.get (LANE_STAT_STATE x) = P_GO) ∧
  (∀ (s : State) (init : Initiator) (x : Port),
    deviceOn s →
    mayWrite s.straps init s.dev = true →
    s.dev.get (LANE_STAT_STATE x) = P_LS2 →
    s.straps.role = .tile ∨ s.dev.getb (LANE_CTRL_TXIDLE x) = false →
    AnswersWith (exec (.laneTargetWrite init x 1) s) fun t =>
      Only [.ports] [.field (LANE_CTRL_TARGET x), .word (LANE_STAT x), .field (LANEN_STAT_LOL x 0), .field (LANEN_STAT_LOL x 1),
        .field LANE_REF_STAT_SSC] s t ∧
      t.dev.get (LANE_CTRL_TARGET x) = 1 ∧ t.dev.get (LANE_STAT_STATE x) = P_REFWAIT) ∧
  (∀ (s : State) (init : Initiator) (x : Port),
    deviceOn s →
    mayWrite s.straps init s.dev = true →
    s.dev.get (LANE_STAT_STATE x) = P_TXONLY →
    AnswersWith (exec (.laneTargetWrite init x 2) s) fun t =>
      Only [.ports, .out] [.field (LANE_CTRL_TARGET x), .word (LANE_STAT x), .field (LANEN_STAT_LOL x 0),
        .field (LANEN_STAT_LOL x 1)] s t ∧
      t.dev.get (LANE_CTRL_TARGET x) = 2 ∧ t.dev.get (LANE_STAT_STATE x) = P_LS2 ∧ t.dev.out = s.dev.out ++ [.txIdle x]) ∧
  (∀ (s : State) (init : Initiator) (x : Port),
    senderOn s →
    mayWrite s.straps init s.dev = true →
    s.dev.twin.en = false →
    s.dev.get (LANE_STAT_STATE x) ≠ P_DOWN ∧ s.dev.get (LANE_STAT_STATE x) ≠ P_LISTEN →
    let r := (s.dev.port x).refwait || decide (s.dev.get (LANE_STAT_STATE x) = P_LS2)
    AnswersWith (exec (.txidleSet init x) s) fun t =>
      Only [.ports, .out] [.field (LANE_CTRL_TXIDLE x), .field (LANE_STAT_STATE x)] s t ∧
      t.dev.get (LANE_CTRL_TXIDLE x) = 1 ∧ t.dev.get (LANE_STAT_STATE x) = P_LISTEN ∧ t.dev.out = s.dev.out ++ [.txIdle x] ∧
      t.dev.ports = s.dev.ports.modify x fun p =>
        { p with since := s.dev.time.clk.ticks, noLockRecorded := false, refwait := r, fwd := [], own := [] }) ∧
  (∀ (s : State) (init : Initiator) (x : Port),
    senderOn s →
    mayWrite s.straps init s.dev = true →
    s.dev.twin.en = false →
    s.dev.get (LANE_STAT_STATE x) = P_LISTEN →
    s.dev.get (LANE_CTRL_TARGET x) ≠ 2 ∨ s.dev.getb (LANE_STAT_RX_UP x) = false →
    AnswersWith (exec (.txidleClear init x) s) fun t =>
      Only [.ports, .time, .out] [.field (LANE_CTRL_TXIDLE x), .field (LANE_STAT_STATE x)] s t ∧
      t.dev.get (LANE_CTRL_TXIDLE x) = 0 ∧
      t.dev.get (LANE_STAT_STATE x) = (if s.dev.getb (LANE_STAT_RX_UP x) = true then P_TXONLY else P_TRAIN)) ∧
  (∀ (s : State) (init : Initiator) (x : Port),
    senderOn s →
    mayWrite s.straps init s.dev = true →
    s.dev.twin.en = false →
    s.dev.get (LANE_STAT_STATE x) = P_LISTEN →
    s.dev.get (LANE_CTRL_TARGET x) = 2 ∧ s.dev.getb (LANE_STAT_RX_UP x) = true →
    AnswersWith (exec (.txidleClear init x) s) fun t =>
      Only [.ports, .time, .out] [.field (LANE_CTRL_TXIDLE x), .word (LANE_STAT x), .field (LANEN_STAT_LOL x 0),
        .field (LANEN_STAT_LOL x 1)] s t ∧
      t.dev.get (LANE_CTRL_TXIDLE x) = 0 ∧ t.dev.get (LANE_STAT_STATE x) = P_LS2 ∧ t.dev.out = s.dev.out ++ [.txIdle x]) ∧
  (∀ (s : State) (init : Initiator) (x : Port),
    senderOn s →
    s.dev.twin.en = true →
    exec (.txidleSet init x) s = .next s ∧ exec (.txidleClear init x) s = .next s) ∧
  (∀ (s : State) (x : Port),
    deviceOn s →
    (s.dev.port x).refwait = true →
    s.dev.getb LANE_REF_STAT_LOCKED = true →
    s.dev.get (LANE_STAT_STATE x) = P_REFWAIT →
    AnswersWith (exec (.lanePllLock x) s) fun t =>
      Only [.ports, .out] [.field (LANE_STAT_STATE x)] s t ∧ t.dev.get (LANE_STAT_STATE x) = P_TRAIN ∧
      ((s.dev.port x).toneSince = none → t.dev.out.length = s.dev.out.length + 1)) ∧
  (∀ (s : State) (x : Port) (n : Lane) (position : Fin 2720) (marker : BitVec 64) (last : Fin 4) (info : Nat) (inv : Bool),
    deviceOn s →
    s.dev.get (LANE_STAT_STATE x) = P_TRAIN →
    (s.dev.port x).refwait = false →
    s.dev.ports.length = 4 ∧ (s.dev.port x).lanes.length = 2 →
    markerInfo marker = some (info, inv) →
    let l := s.dev.lane x n
    AnswersWith (exec (.trainingFrameRx x n position marker last) s) fun t =>
      Only [.ports, .free] [.field (LANE_STAT_TX_UP x), .field (LANE_STAT_PEER_PM x), .field (LANE_STAT_PEER_REFDEP x),
        .field (LANE_STAT_SWAP x), .field LANE_REF_STAT_SSC] s t ∧
      t.dev.get (LANE_STAT_TX_UP x) = info % 2 ∧ t.dev.get (LANE_STAT_PEER_PM x) = info / 4 % 4 ∧
      t.dev.get (LANE_STAT_PEER_REFDEP x) = info / 16 % 2 ∧
      t.dev.get (LANE_STAT_SWAP x) = (if n.val = 0 then info / 2 % 2 else s.dev.get (LANE_STAT_SWAP x)) ∧
      t.dev.get LANE_REF_STAT_SSC =
        (if s.straps.role = .tile ∧ s.dev.get LANE_REF_STAT_SRC = x ∧ (s.dev.port x).sscTaken = false then info / 32 % 2
         else s.dev.get LANE_REF_STAT_SSC) ∧
      t.dev.lane x n = { l with
        markRun := if l.markRun ≠ 0 ∧ l.markPos = position ∧ l.markInv = inv then l.markRun + 1 else 1
        markPos := position, markInv := inv, rxPrev := if inv = true then 3 - (last : Nat) else last
        taps := if s.dev.getb (LANEN_STAT_LOS x n) = true ∨ s.dev.getb (LANEN_STAT_GUARD x n) = true then l.taps
          else some (Config.lms l.fullStep (l.taps.getD Config.defaultTaps) s.dev.free) } ∧
      (n.val = 0 → (t.dev.port x).peerPmRun =
        (if (s.dev.port x).peerPm = info / 4 % 4 then (s.dev.port x).peerPmRun + 1 else 1) ∧
        (t.dev.port x).peerPm = info / 4 % 4) ∧
      (n.val = 1 → (t.dev.port x).peerPmRun = (s.dev.port x).peerPmRun ∧ (t.dev.port x).peerPm = (s.dev.port x).peerPm)) ∧
  (∀ (s : State) (x : Port) (n : Lane) (position : Fin 2720) (marker : BitVec 64) (last : Fin 4),
    deviceOn s →
    s.dev.get (LANE_STAT_STATE x) = P_TRAIN →
    (s.dev.port x).refwait = false →
    s.dev.ports.length = 4 ∧ (s.dev.port x).lanes.length = 2 →
    markerInfo marker = none →
    AnswersWith (exec (.trainingFrameRx x n position marker last) s) fun t =>
      Only [.ports, .free] [] s t ∧ (t.dev.lane x n).markRun = 0 ∧
      (t.dev.lane x n).rxPrev = (if s.dev.getb (LANEN_STAT_POLINV x n) = true then 3 - (last : Nat) else last) ∧ (n.val = 0 → (t.dev.port x).peerPmRun = 0 ∧ (t.dev.port x).peerLockRun = 0)) ∧
  (∀ (s : State) (x : Port) (pins : PinLevels),
    deviceOn s →
    (∀ y : Fin 4, y ≠ x → ((s.dev.port y).toneSince.isSome = true ∨ s.dev.get (LANE_STAT_STATE y) ∈ [P_DOWN, P_REFWAIT, P_LS2, P_LISTEN])) →
    (s.dev.port x).toneSince = none →
    s.dev.get (LANE_STAT_STATE x) = P_TRAIN →
    (s.dev.port x).lineEnd + (if (s.dev.port x).rate = 0 then 128 else 256) ≤ 5 * (s.dev.time.clk.ticks + 1) →
    let info := fun n => infoWord (s.dev.rxUp x && !s.dev.laneStep x) n (s.dev.get (LANE_CTRL_TARGET x))
      (decide (s.straps.role = .tile) && s.dev.get LANE_REF_STAT_SRC == x.val) (s.dev.getb LANE_REF_STAT_SSC) false 0
    AnswersWith (exec (.wallClockTick pins) s) fun t =>
      t.dev.out = s.dev.out ++ [.training x (info 0) (info 1) (sendTraining (s.dev.lane x 0) (info 0)).1
        (sendTraining (s.dev.lane x 1) (info 1)).1] ∧
      (t.dev.port x).pairSeq = (s.dev.port x).pairSeq ∧ t.dev.get (LANE_STAT_STATE x) = P_TRAIN) ∧
  (∀ (s : State) (x : Port) (h0 h1 : LaneLock) (i0 i1 : Bool) (p0 p1 k : Nat),
    deviceOn s →
    s.dev.get (LANE_STAT_STATE x) = P_TRAIN →
    (s.dev.port x).refwait = false →
    s.dev.ports.length = 4 ∧ (s.dev.port x).lanes.length = 2 →
    laneReady s.dev x 0 = true ∧ laneReady s.dev x 1 = true →
    (s.dev.lane x 0).found h0 = some (i0, p0) ∧ (s.dev.lane x 1).found h1 = some (i1, p1) →
    k ≤ 40 →
    AnswersWith (exec (.rxLock x (some h0) (some h1) k) s) fun t =>
      Only [.ports, .out, .twin] [.field (LANE_STAT_RX_UP x), .field (LANE_STAT_SKEW x), .word (LANEN_STAT x 0),
        .word (LANEN_STAT x 1)] s t ∧
      t.dev.get (LANE_STAT_RX_UP x) = 1 ∧ t.dev.get (LANE_STAT_SKEW x) = 0 ∧
      t.dev.get (LANEN_STAT_LOL x 0) = 0 ∧ t.dev.get (LANEN_STAT_LOL x 1) = 0 ∧ t.dev.get (LANEN_STAT_POLINV x 0) = b2n i0 ∧
      t.dev.get (LANEN_STAT_POLINV x 1) = b2n i1 ∧ t.dev.get (LANE_STAT_STATE x) = P_TRAIN ∧
      (t.dev.lane x 0).rxPrev = p0 ∧ (t.dev.lane x 1).rxPrev = p1 ∧ (t.dev.lane x 0).discardFirst = true ∧
      ((s.dev.port x).toneSince = none → t.dev.out.length = s.dev.out.length + 1)) ∧
  (∀ (s : State) (x : Port) (h0 h1 : LaneLock) (i0 i1 : Bool) (p0 p1 k : Nat),
    deviceOn s →
    s.dev.get (LANE_STAT_STATE x) = P_TRAIN →
    (s.dev.port x).refwait = false →
    laneReady s.dev x 0 = true ∧ laneReady s.dev x 1 = true →
    (s.dev.lane x 0).found h0 = some (i0, p0) ∧ (s.dev.lane x 1).found h1 = some (i1, p1) →
    40 < k →
    AnswersWith (exec (.rxLock x (some h0) (some h1) k) s) fun t =>
      Only [.ports] [.field (LANE_STAT_SKEW x), .field (LANEN_STAT_LOL x 0), .field (LANEN_STAT_LOL x 1),
        .field (LANEN_STAT_POLINV x 0), .field (LANEN_STAT_POLINV x 1)] s t ∧ t.dev.get (LANE_STAT_SKEW x) = 1 ∧
      t.dev.get (LANEN_STAT_LOL x 0) = 0 ∧ t.dev.get (LANEN_STAT_LOL x 1) = 0) ∧
  (∀ (s : State) (x : Port) (k : Nat),
    deviceOn s →
    s.dev.get (LANE_STAT_STATE x) = P_TRAIN →
    s.dev.getb (LANEN_STAT_LOL x 0) = true ∧ s.dev.getb (LANEN_STAT_LOL x 1) = true →
    (s.dev.lane x 0).markRun < 8 ∧ (s.dev.lane x 1).markRun < 8 →
    exec (.rxLock x (some .markers) (some .markers) k) s = .next s) ∧
  (∀ (s : State) (x : Port),
    deviceOn s →
    s.dev.getb (LANE_STAT_RX_UP x) = true →
    s.dev.getb (LANE_STAT_TX_UP x) = true →
    s.dev.get (LANE_STAT_STATE x) = P_TRAIN →
    AnswersWith (exec (.peerRxlockSeen x) s) fun t =>
      Only [.ports, .out] [.field (LANE_STAT_STATE x)] s t ∧ t.dev.get (LANE_STAT_STATE x) = P_GO ∧
      ((s.dev.port x).toneSince = none → t.dev.out.length = s.dev.out.length + 16)) ∧
  (∀ (s : State) (x : Port),
    deviceOn s →
    s.dev.getb (LANE_STAT_RX_UP x) = true →
    s.dev.getb (LANE_STAT_TX_UP x) = true →
    s.dev.get (LANE_STAT_STATE x) = P_TXONLY →
    AnswersWith (exec (.peerRxlockSeen x) s) fun t =>
      OnlyLogging [.ports, .twin, .time] [.field (LANE_STAT_STATE x)] s t ∧ t.dev.get (LANE_STAT_STATE x) = P_LS0 ∧
      Logs [(EV_LANE_UP.code, 0, 0, 0)] s t) ∧
  (∀ (s : State) (x : Port),
    deviceOn s →
    s.dev.get (LANE_STAT_STATE x) = P_GO →
    (s.dev.port x).countdownSent = false →
    (s.dev.port x).peerCd0 = true →
    AnswersWith (exec (.countdownDone x) s) fun t =>
      OnlyLogging [.ports, .twin, .time] [.field (LANE_STAT_STATE x)] s t ∧ t.dev.get (LANE_STAT_STATE x) = P_LS0 ∧
      Logs [(EV_LANE_UP.code, 0, 0, 0)] s t ∧
      t.dev.ports = s.dev.ports.modify x fun p =>
        { p with countdownSent := true, since := s.dev.time.clk.ticks, noLockRecorded := false, refwait := false }) ∧
  (∀ (s : State) (x : Port),
    deviceOn s →
    s.dev.get (LANE_STAT_STATE x) = P_GO →
    (s.dev.port x).countdownSent = true →
    (s.dev.port x).since + 250000 ≤ s.dev.time.clk.ticks →
    AnswersWith (exec (.goTimeout x) s) fun t =>
      Only [.ports, .out] [.field (LANE_STAT_STATE x)] s t ∧ t.dev.get (LANE_STAT_STATE x) = P_TRAIN) ∧
  (∀ (s : State) (x : Port),
    deviceOn s →
    s.dev.get (LANE_STAT_STATE x) = P_TRAIN →
    (s.dev.port x).since + 250000 * s.dev.get (LANE_CTRL_TMO x) ≤ s.dev.time.clk.ticks →
    AnswersWith (exec (.trainTimeout x) s) fun t =>
      OnlyLogging [.ports] [.field (LANE_STAT_TMO_SEEN x)] s t ∧ t.dev.get (LANE_STAT_TMO_SEEN x) = 1 ∧
      t.dev.ports = s.dev.ports.modify x (fun p => { p with noLockRecorded := true }) ∧
      Logs (if (s.dev.port x).noLockRecorded = true then [] else [(EV_LANE_NOLOCK.code, 0, 0, 0)]) s t) ∧
  (∀ (s : State) (x : Port) (l : Nat),
    deviceOn s →
    s.dev.get (LANE_STAT_STATE x) = P_TRAIN →
    s.dev.getb (LANE_CTRL_TXONLY_EN x) = true →
    (s.dev.port x).losSince = some l →
    l + 5000000 ≤ s.dev.time.clk.ticks →
    (s.dev.port x).since + 5000000 ≤ s.dev.time.clk.ticks →
    AnswersWith (exec (.txonlyLosTimeout x) s) fun t =>
      Only [.ports, .out] [.field (LANE_STAT_STATE x)] s t ∧ t.dev.get (LANE_STAT_STATE x) = P_GO)

/-- R141 to R144: LOS and loss of lock set their bits and take LS0 to RECOVER, RX_LOCK returns it, 1 ms in RECOVER or of
the peer's RXLOCK = 0 falls back to TRAIN with LANE_DOWN; a tile's port that leaves LS0 loses its path's VALID;
agreement on LS1 or LS2 enters it, energy leaves LS2. R132, R133, R138 to R140: a lock of the cleaner ends bypass
and holdover, an input loss enters holdover, a selection is carried out once the peer's REFDEP is 0. R147, R148:
LIVE is updated; when it falls below THRESH the lane freezes with its saved taps and records LANE_GUARD; taps are
saved each 10 ms while the eye is good; 10 ms at THRESH + HYST end the freeze. A lane whose LIVE is below THRESH is
not locked, and RX_UP shows it (R128). The model's choices: the samples of the adaptation are free (the log, 108); a
lane that has saved no taps keeps those in use (109), and the guard restores them under LOS too (149). Completion,
with what the next state holds, for: LOS_ASSERT, LOS_CLEAR, LOSS_OF_LOCK, RX_LOCK, RECOVER_TIMEOUT,
PEER_RXLOCK_LOST, PM_AGREEMENT, LS2_ENERGY_DETECT, CLEANER_LOCK, REF_INPUT_LOSS, REF_SELECT_CHANGE,
EYE_MONITOR_UPDATE, TAP_SAVE, GUARD_RESUME. -/
def Obligations.LinkLossAndReference : Prop :=
  (∀ (s : State) (x : Port) (n : Lane),
    deviceOn s →
    s.dev.get (LANE_STAT_STATE x) = P_LS0 →
    AnswersWith (exec (.losAssert x n) s) fun t =>
      Only [.ports] [.word (LANE_STAT x), .word (LANEN_STAT x n), .field TIME_PATH_A_VALID, .field TIME_PATH_B_VALID,
        .field TIME_STAT_PATH_OK] s t ∧
      t.dev.get (LANEN_STAT_LOS x n) = 1 ∧ t.dev.get (LANEN_STAT_LOS_SEEN x n) = 1 ∧ t.dev.get (LANE_STAT_RX_UP x) = 0 ∧
      t.dev.get (LANE_STAT_STATE x) = P_RECOVER ∧
      (s.straps.role = .tile → t.dev.get (if x.val = 0 then TIME_PATH_A_VALID else TIME_PATH_B_VALID) = 0)) ∧
  (∀ (s : State) (x : Port) (n : Lane),
    deviceOn s →
    s.dev.get (LANE_STAT_STATE x) ≠ P_DOWN →
    AnswersWith (exec (.losClear x n) s) fun t => Only [.ports] [.field (LANEN_STAT_LOS x n)] s t ∧
      t.dev.get (LANEN_STAT_LOS x n) = 0 ∧ t.dev.ports = s.dev.ports.modify x fun p => { p with losSince := none }) ∧
  (∀ (s : State) (x : Port) (n : Lane),
    deviceOn s →
    s.dev.get (LANE_STAT_STATE x) = P_LS0 →
    AnswersWith (exec (.lossOfLock x n) s) fun t =>
      Only [.ports] [.word (LANE_STAT x), .word (LANEN_STAT x n), .field TIME_PATH_A_VALID, .field TIME_PATH_B_VALID,
        .field TIME_STAT_PATH_OK] s t ∧
      t.dev.get (LANEN_STAT_LOL x n) = 1 ∧ t.dev.get (LANEN_STAT_LOL_SEEN x n) = 1 ∧ t.dev.get (LANE_STAT_RX_UP x) = 0 ∧
      t.dev.get (LANE_STAT_STATE x) = P_RECOVER) ∧
  (∀ (s : State) (x : Port) (h0 h1 : LaneLock) (i0 i1 : Bool) (p0 p1 k : Nat),
    deviceOn s →
    s.dev.get (LANE_STAT_STATE x) = P_RECOVER →
    (s.dev.port x).refwait = false →
    laneReady s.dev x 0 = true ∧ laneReady s.dev x 1 = true →
    (s.dev.lane x 0).found h0 = some (i0, p0) ∧ (s.dev.lane x 1).found h1 = some (i1, p1) →
    k ≤ 40 →
    AnswersWith (exec (.rxLock x (some h0) (some h1) k) s) fun t =>
      Only [.ports, .twin, .time] [.word (LANE_STAT x), .word (LANEN_STAT x 0), .word (LANEN_STAT x 1)] s t ∧
      t.dev.get (LANE_STAT_RX_UP x) = 1 ∧ t.dev.get (LANE_STAT_STATE x) = P_LS0) ∧
  (∀ (s : State) (x : Port),
    deviceOn s →
    s.dev.get (LANE_STAT_STATE x) = P_RECOVER →
    (s.dev.port x).since + 250000 ≤ s.dev.time.clk.ticks →
    AnswersWith (exec (.recoverTimeout x) s) fun t =>
      OnlyLogging [.ports, .out] [.field (LANE_STAT_STATE x), .field (LANE_STAT_DOWN_SEEN x)] s t ∧
      t.dev.get (LANE_STAT_STATE x) = P_TRAIN ∧ t.dev.get (LANE_STAT_DOWN_SEEN x) = 1 ∧ Logs [(EV_LANE_DOWN.code, 0, 0, 0)] s t) ∧
  (∀ (s : State) (x : Port) (l : Nat),
    deviceOn s →
    s.dev.get (LANE_STAT_STATE x) = P_LS0 →
    (s.dev.port x).peerUnlockSince = some l →
    l + 250000 ≤ s.dev.time.clk.ticks →
    AnswersWith (exec (.peerRxlockLost x) s) fun t =>
      OnlyLogging [.ports, .out] [.field (LANE_STAT_STATE x), .field (LANE_STAT_DOWN_SEEN x), .field TIME_PATH_A_VALID,
        .field TIME_PATH_B_VALID, .field TIME_STAT_PATH_OK] s t ∧
      t.dev.get (LANE_STAT_STATE x) = P_TRAIN ∧ t.dev.get (LANE_STAT_DOWN_SEEN x) = 1 ∧ Logs [(EV_LANE_DOWN.code, 0, 0, 0)] s t) ∧
  (∀ (s : State) (x : Port),
    deviceOn s →
    s.dev.get (LANE_STAT_STATE x) = P_LS0 →
    4 ≤ (s.dev.port x).peerPmRun →
    1 ≤ min (s.dev.get (LANE_CTRL_TARGET x)) (s.dev.port x).peerPm →
    let k := min (s.dev.get (LANE_CTRL_TARGET x)) (s.dev.port x).peerPm
    AnswersWith (exec (.pmAgreement x) s) fun t =>
      Only [.ports, .out] [.word (LANE_STAT x), .field (LANEN_STAT_LOL x 0), .field (LANEN_STAT_LOL x 1),
        .field TIME_PATH_A_VALID, .field TIME_PATH_B_VALID, .field TIME_STAT_PATH_OK] s t ∧
      t.dev.get (LANE_STAT_STATE x) = (if k = 1 then P_LS1 else P_LS2) ∧
      (2 ≤ k → t.dev.get (LANE_STAT_RX_UP x) = 0 ∧ t.dev.out = s.dev.out ++ [.txIdle x])) ∧
  (∀ (s : State) (x : Port),
    deviceOn s →
    (s.dev.port x).peerPmRun < 4 →
    exec (.pmAgreement x) s = .next s) ∧
  (∀ (s : State) (x : Port),
    deviceOn s →
    s.dev.get (LANE_STAT_STATE x) = P_LS2 →
    s.straps.role = .tile ∨ s.dev.getb (LANE_CTRL_TXIDLE x) = false →
    AnswersWith (exec (.ls2EnergyDetect x) s) fun t =>
      Only [.ports] [.word (LANE_STAT x), .field (LANEN_STAT_LOL x 0), .field (LANEN_STAT_LOL x 1), .field LANE_REF_STAT_SSC] s t ∧
      t.dev.get (LANE_STAT_STATE x) = P_REFWAIT ∧
      t.dev.ports = s.dev.ports.modify x fun p => { p with
        rate := s.dev.get (LANE_CTRL_RATE x), since := s.dev.time.clk.ticks, noLockRecorded := false, refwait := true,
        fwd := [], own := [] }) ∧
  (∀ (s : State),
    deviceOn s →
    AnswersWith (exec .cleanerLock s) fun t =>
      Only [.out] [.field LANE_REF_STAT_LOCKED, .field LANE_REF_STAT_BYPASS, .field LANE_REF_STAT_HOLDOVER,
        .field (if s.dev.get LANE_REF_STAT_SRC = 0 then LANE_REF_STAT_REFI_A_OK else LANE_REF_STAT_REFI_B_OK)] s t ∧
      t.dev.get LANE_REF_STAT_LOCKED = 1 ∧ t.dev.get LANE_REF_STAT_BYPASS = 0 ∧ t.dev.get LANE_REF_STAT_HOLDOVER = 0 ∧
      t.dev.out = s.dev.out ++ [.refOut 2]) ∧
  (∀ (s : State),
    deviceOn s →
    s.dev.get LANE_REF_STAT_HOLDOVER = 0 →
    AnswersWith (exec .refInputLoss s) fun t =>
      OnlyLogging [] [.field LANE_REF_STAT_LOCKED, .field LANE_REF_STAT_HOLDOVER, .field LANE_REF_STAT_HOLD_SEEN,
        .field (if s.dev.get LANE_REF_STAT_SRC = 0 then LANE_REF_STAT_REFI_A_OK else LANE_REF_STAT_REFI_B_OK)] s t ∧
      t.dev.get LANE_REF_STAT_LOCKED = 0 ∧ t.dev.get LANE_REF_STAT_HOLDOVER = 1 ∧ t.dev.get LANE_REF_STAT_HOLD_SEEN = 1 ∧
      t.dev.get (if s.dev.get LANE_REF_STAT_SRC = 0 then LANE_REF_STAT_REFI_A_OK else LANE_REF_STAT_REFI_B_OK) = 0 ∧
      Logs [(EV_REF_HOLDOVER.code, 0, 0, 0)] s t) ∧
  (∀ (s : State),
    tileOn s →
    s.dev.get LANE_REF_CTRL_SEL = 1 ∨ s.dev.get LANE_REF_CTRL_SEL = 2 →
    s.dev.get LANE_REF_STAT_SRC ≠ (if s.dev.get LANE_REF_CTRL_SEL = 1 then 0 else 1) →
    s.dev.get (LANE_STAT_PEER_REFDEP (if s.dev.get LANE_REF_CTRL_SEL = 1 then 0 else 1)) = 0 →
    let w := if s.dev.get LANE_REF_CTRL_SEL = 1 then 0 else 1
    AnswersWith (exec .refSelectChange s) fun t =>
      OnlyLogging [] [.field LANE_REF_STAT_SRC] s t ∧ t.dev.get LANE_REF_STAT_SRC = w ∧ Logs [(EV_REF_SWITCH.code, 0, 0, 0)] s t) ∧
  (∀ (s : State) (x : Port) (n : Lane) (v : BitVec 8),
    deviceOn s →
    s.dev.get (LANEN_GUARD_THRESH x n) ≤ v.toNat →
    s.dev.get (LANE_STAT_STATE x) ≠ P_LS0 ∨ s.dev.getb (LANE_STAT_RX_UP x) = true →
    AnswersWith (exec (.eyeMonitorUpdate x n v) s) fun t =>
      Only [.ports] [.field (LANEN_EYEW_LIVE x n)] s t ∧ t.dev.get (LANEN_EYEW_LIVE x n) = v.toNat) ∧
  (∀ (s : State) (x : Port) (n : Lane) (v : BitVec 8),
    deviceOn s →
    (∀ m : Fin 2, s.dev.getb (LANEN_STAT_LOL x m) = false ∧ s.dev.getb (LANEN_STAT_LOS x m) = false ∧ s.dev.get (LANEN_GUARD_THRESH x m) ≤ (if m = n then v.toNat else s.dev.get (LANEN_EYEW_LIVE x m))) →
    s.dev.get (LANE_STAT_STATE x) = P_LS0 →
    AnswersWith (exec (.eyeMonitorUpdate x n v) s) fun t =>
      t.dev.get (LANEN_EYEW_LIVE x n) = v.toNat ∧ t.dev.get (LANE_STAT_RX_UP x) = 1 ∧ t.dev.get (LANE_STAT_STATE x) = P_LS0) ∧
  (∀ (s : State) (x : Port) (n : Lane) (v : BitVec 8),
    deviceOn s →
    v.toNat < s.dev.get (LANEN_GUARD_THRESH x n) →
    s.dev.get (LANEN_STAT_GUARD x n) = 0 →
    s.dev.get (LANEN_GUARD_THRESH x n) ≤ s.dev.get (LANEN_EYEW_LIVE x n) →
    AnswersWith (exec (.eyeMonitorUpdate x n v) s) fun t =>
      OnlyLogging [.ports] [.field (LANEN_EYEW_LIVE x n), .field (LANEN_STAT_GUARD x n), .field (LANEN_STAT_GUARD_SEEN x n),
        .field (LANE_STAT_RX_UP x)] s t ∧
      t.dev.get (LANEN_EYEW_LIVE x n) = v.toNat ∧ t.dev.get (LANE_STAT_RX_UP x) = 0 ∧ t.dev.get (LANEN_STAT_GUARD x n) = 1 ∧
      t.dev.get (LANEN_STAT_GUARD_SEEN x n) = 1 ∧ Logs [(EV_LANE_GUARD.code, 0, 0, 0)] s t ∧
      ((s.dev.lane x n).saved.isSome = true → (t.dev.lane x n).taps = (s.dev.lane x n).saved)) ∧
  (∀ (s : State) (x : Port) (n : Lane) (v : BitVec 8),
    deviceOn s →
    v.toNat < s.dev.get (LANEN_GUARD_THRESH x n) →
    s.dev.get (LANEN_STAT_GUARD x n) = 1 ∨ s.dev.get (LANEN_EYEW_LIVE x n) < s.dev.get (LANEN_GUARD_THRESH x n) →
    AnswersWith (exec (.eyeMonitorUpdate x n v) s) fun t =>
      Only [.ports] [.field (LANEN_EYEW_LIVE x n), .field (LANE_STAT_RX_UP x)] s t ∧
      t.dev.get (LANEN_EYEW_LIVE x n) = v.toNat ∧ t.dev.get (LANE_STAT_RX_UP x) = 0 ∧
      t.dev.ports = s.dev.ports.modify x fun p => { p with lanes := p.lanes.modify n fun l => { l with goodSince := none } }) ∧
  (∀ (s : State) (x : Port) (n : Lane),
    deviceOn s →
    s.dev.get (LANEN_GUARD_THRESH x n) + s.dev.get (LANEN_GUARD_HYST x n) ≤ s.dev.get (LANEN_EYEW_LIVE x n) →
    (s.dev.lane x n).saved = none ∨ (s.dev.lane x n).savedAt + 2500000 ≤ s.dev.time.clk.ticks →
    AnswersWith (exec (.tapSave x n) s) fun t => Only [.ports] [] s t ∧
      t.dev.ports = s.dev.ports.modify x fun p => { p with lanes := p.lanes.modify n fun l =>
        { l with saved := some (l.taps.getD Config.defaultTaps), savedAt := s.dev.time.clk.ticks } }) ∧
  (∀ (s : State) (x : Port) (n : Lane) (g : Nat),
    deviceOn s →
    s.dev.get (LANEN_STAT_GUARD x n) = 1 →
    (s.dev.lane x n).goodSince = some g →
    g + 2500000 ≤ s.dev.time.clk.ticks →
    AnswersWith (exec (.guardResume x n) s) fun t =>
      Only [] [.field (LANEN_STAT_GUARD x n)] s t ∧ t.dev.get (LANEN_STAT_GUARD x n) = 0)

/-- R172, R173: a tile that receives an ENUM on port A takes the address that it offers, a changed address records
XPT_RENUM, and NEXT = 64 leaves it without an address, and its waiting answers are dropped (R157); one on port B
gives an address only to a tile without one. The cell of an ENUM goes on in its slot with NEXT + 1 from port A, NEXT
− 1 from port B, unchanged at 64, and ends at 0; at the sender at the other end it gives the chain's length. R179:
CHAIN_ENUM answers PORT_IDLE or LINK_DOWN, or sends an ENUM and completes 5 ms later with the present positions;
CHAIN_PING is answered OK, and LOCAL is BAD_PARAM. R174, R294: an unassigned WITNESS starts an enumeration. R175: a
WITNESS makes its position present, 3 ms without one end that. The model's choice: CHAIN_ENUM's own ENUM is one of
those that R174 counts: it sets the time of the last one, and a WITNESS without an address asks anew (the log, 111).
Completion, with what the next state holds, for: ENUM_RECEIVE_HEAD, ENUM_RECEIVE_TAIL, ENUM_AT_TAIL_SENDER,
CHAIN_ENUM, CHAIN_ENUM_COMPLETE, CHAIN_PING, AUTO_ENUM, WITNESS_RECEIVE, PRESENCE_TIMEOUT. -/
def Obligations.EnumerationAndPresence : Prop :=
  (∀ (s : State) (k : RxPkt) (rest : List RxPkt),
    tileOn s →
    s.dev.rxq = k :: rest →
    k.port = 0 →
    isEnum k.bytes = true →
    enumNext k.bytes ≤ 63 →
    let a := enumChain k.bytes % 64 * 64 + enumNext k.bytes
    let moved := s.dev.getb XPT_ADDR_VALID && decide (s.dev.get XPT_ADDR_ADDR ≠ a)
    AnswersWith (exec .enumReceiveHead s) fun t =>
      OnlyLogging [.rxq] [.field XPT_ADDR_ADDR, .field XPT_ADDR_VALID, .field XPT_STAT_RENUM] s t ∧ t.dev.rxq = rest ∧
      t.dev.get XPT_ADDR_ADDR = a ∧ t.dev.get XPT_ADDR_VALID = 1 ∧
      t.dev.get XPT_STAT_RENUM = (if moved = true then 1 else s.dev.get XPT_STAT_RENUM) ∧
      Logs (if moved = true then [(EV_XPT_RENUM.code, 0, 0, 0)] else []) s t) ∧
  (∀ (s : State) (k : RxPkt) (rest : List RxPkt),
    tileOn s →
    s.dev.rxq = k :: rest →
    k.port = 0 →
    isEnum k.bytes = true →
    64 ≤ enumNext k.bytes →
    AnswersWith (exec .enumReceiveHead s) fun t =>
      OnlyLogging [.rxq, .ports] [.field XPT_ADDR_VALID, .field XPT_STAT_OVERLONG] s t ∧ t.dev.rxq = rest ∧
      t.dev.ports = s.dev.ports.map (fun p => { p with own := p.own.filter fun e => decide (2 ≤ e.prec) }) ∧
      t.dev.get XPT_ADDR_VALID = 0 ∧ t.dev.get XPT_STAT_OVERLONG = 1 ∧ Logs [(EV_XPT_OVERLONG.code, 0, 0, 0)] s t) ∧
  (∀ (s : State) (k : RxPkt) (rest : List RxPkt),
    tileOn s →
    s.dev.rxq = k :: rest →
    k.port = 1 →
    isEnum k.bytes = true →
    let n := enumNext k.bytes
    let takes := decide (s.dev.get XPT_ADDR_VALID = 0 ∧ enumNext k.bytes ≤ 63)
    AnswersWith (exec .enumReceiveTail s) fun t =>
      Only [.rxq] [.field XPT_ADDR_ADDR, .field XPT_ADDR_VALID] s t ∧ t.dev.rxq = rest ∧
      t.dev.get XPT_ADDR_ADDR = (if takes = true then enumChain k.bytes % 64 * 64 + n else s.dev.get XPT_ADDR_ADDR) ∧
      t.dev.get XPT_ADDR_VALID = (if takes = true then 1 else s.dev.get XPT_ADDR_VALID)) ∧
  (∀ (s : State) (x : Fin 2) (r : Nat) (cell : List Byte),
    tileOn s →
    cellOk cell = true ∧ cellValid cell = true ∧ cellSop cell = true →
    isEnum (cellData cell) = true →
    pktBcast (cellData cell) = true →
    let p := cellData cell
    let n := enumNext p
    let other := fun (m : Nat) => mkCell (leAt cell 0 4) (p.take 21 ++ leBytes m 1 ++ p.drop 22)
    (s.dev.takeCell s.straps x r cell).1 =
      if x.val = 0 then (if n ≤ 63 then some (other (n + 1)) else some cell)
      else if n = 0 then none else some (other (n - 1))) ∧
  (∀ (s : State) (k : RxPkt) (rest : List RxPkt),
    senderOn s →
    s.dev.rxq = k :: rest →
    isEnum k.bytes = true →
    pktTail k.bytes = false →
    k.port < 4 →
    enumNext k.bytes ≤ 64 →
    s.dev.host.enumWait = none →
    AnswersWith (exec .enumAtTailSender s) fun t =>
      Only [.rxq] [.field (XPT_CHAIN_COUNT k.port), .field (XPT_CHAIN_COUNT_VALID k.port), .field XPT_STAT_OVERLONG] s t ∧
      t.dev.rxq = rest ∧ t.dev.get (XPT_CHAIN_COUNT k.port) = enumNext k.bytes ∧ t.dev.get (XPT_CHAIN_COUNT_VALID k.port) = 1 ∧
      t.dev.get XPT_STAT_OVERLONG = (if enumNext k.bytes = 64 then 1 else s.dev.get XPT_STAT_OVERLONG)) ∧
  (∀ (s : State) (i : Nat) (desc : List Byte) (p : TxPkt),
    Waits (.ring i) desc s = true →
    s.dev.firmware = true →
    dOpcode desc = 0x0100 →
    s.dev.host.enumWait = none →
    s.dev.get (LANE_CTRL_TXIDLE (natBits (dData desc 0) 0 2)) = 0 →
    s.dev.get (LANE_STAT_STATE (natBits (dData desc 0) 0 2)) = P_LS0 →
    (s.dev.port (natBits (dData desc 0) 0 2)).cur = some p →
    let x := natBits (dData desc 0) 0 2
    let now := s.dev.time.clk.ticks
    let pkt := senderPkt s.straps s.dev x PT_CMD true false 0 0 (enumBody s.dev.host.nextXid (4 * s.dev.get XPT_CTRL_PAIR + x) 0)
    AnswersWith (exec (.chainEnum (.ring i)) s) fun t => Only [.host, .ports, .time] [] s t ∧
      t.dev.host = { s.dev.host with
        descs := [{ fetchedCmd i desc with phase := .started }], nextXid := (s.dev.host.nextXid + 1) % 65536,
        enumWait := some (i, x, s.dev.time.clk.ticks, false) } ∧ t.dev.time.clk = s.dev.time.clk ∧
      t.dev.ports = s.dev.ports.modify x fun q =>
        { q with lastEnum := some now, unasgSeen := none, txq := modAt q.txq TQ_CMD fun l => l ++ [.bytes pkt none false] }) ∧
  (∀ (s : State) (i : Nat) (desc : List Byte),
    Waits (.ring i) desc s = true →
    s.dev.firmware = true →
    dOpcode desc = 0x0100 →
    s.dev.host.enumWait = none →
    s.dev.get (LANE_CTRL_TXIDLE (natBits (dData desc 0) 0 2)) = 1 ∨ s.dev.get (LANE_STAT_STATE (natBits (dData desc 0) 0 2)) ≠ P_LS0 →
    let x := natBits (dData desc 0) 0 2
    AnswersWith (exec (.chainEnum (.ring i)) s) fun t => Only [.host] [] s t ∧
      AnsweredOnly (.ring i) desc (if s.dev.get (LANE_CTRL_TXIDLE x) = 1 then ST_PORT_IDLE else ST_LINK_DOWN) 0 s t) ∧
  (∀ (s : State) (i x t0 : Nat) (long : Bool) (desc : List Byte),
    senderOn s →
    s.dev.host.descs = [{ fetchedCmd i desc with phase := .started }] →
    dNoCpl desc = false →
    s.dev.host.out = [] →
    s.dev.host.enumWait = some (i, x, t0, long) →
    t0 + 1250000 ≤ s.dev.time.clk.ticks →
    AnswersWith (exec .chainEnumComplete s) fun t => Only [.host] [] s t ∧
      t.dev.host = { s.dev.host.completed { fetchedCmd i desc with phase := .started } ST_OK
        ((s.dev.presentOn x).length + 256 * b2n long) with enumWait := none }) ∧
  (∀ (s : State) (k : RxPkt) (rest : List RxPkt),
    tileOn s →
    s.dev.rxq = k :: rest →
    isCmd CK_DESC k = true →
    dOpcode (cmdDesc k.bytes) = 0x0101 →
    canAnswer s.dev k.bytes = true →
    AnswersWith (exec (.chainPing .remote) s) fun t => Only [.rxq, .ports] [] s t ∧ t.dev.rxq = rest ∧
      t.dev.ports = rspWaits s.dev k.bytes ST_OK 0 0 []) ∧
  (∀ (s : State) (i : Nat) (desc : List Byte),
    Waits (.ring i) desc s = true →
    dOpcode desc = 0x0101 →
    AnswersWith (exec (.chainPing (.ring i)) s) fun t => Only [.host] [] s t ∧ AnsweredOnly (.ring i) desc ST_BAD_PARAM 0 s t) ∧
  (∀ (s : State) (x : Port) (u : Nat) (p : TxPkt),
    senderOn s →
    (s.dev.port x).unasgSeen = some u →
    (s.dev.port x).lastEnum = none →
    sendsCells (s.dev.get (LANE_STAT_STATE x)) = true →
    (s.dev.port x).cur = some p →
    if s.dev.getb (XPT_CHAIN_END x) = true then s.dev.portMode x = M_FEED ∧ s.dev.get (XPT_CHAIN_COUNT_VALID x) = 1 ∧ 1 ≤ s.dev.get (XPT_CHAIN_COUNT x) else s.dev.get XPT_CTRL_AUTO_ENUM = 1 →
    let next := if s.dev.getb (XPT_CHAIN_END x) = true then s.dev.get (XPT_CHAIN_COUNT x) - 1 else 0
    let now := s.dev.time.clk.ticks
    let pkt := senderPkt s.straps s.dev x PT_CMD true false 0 0 (enumBody s.dev.host.nextXid (4 * s.dev.get XPT_CTRL_PAIR + x) next)
    AnswersWith (exec (.autoEnum x) s) fun t => Only [.host, .ports, .time] [] s t ∧
      t.dev.host = { s.dev.host with nextXid := (s.dev.host.nextXid + 1) % 65536 } ∧ t.dev.time.clk = s.dev.time.clk ∧
      t.dev.ports = s.dev.ports.modify x fun q =>
        { q with lastEnum := some now, unasgSeen := none, txq := modAt q.txq TQ_CMD fun l => l ++ [.bytes pkt none false] }) ∧
  (∀ (s : State) (k : RxPkt) (rest : List RxPkt),
    senderOn s →
    s.dev.rxq = k :: rest →
    pktType k.bytes = PT_WITNESS →
    pktUnasg k.bytes = true →
    k.port < 4 →
    s.dev.get TWIN_STAT_STATE ≠ W_STANDBY →
    natBit (byteAt (pktBody k.bytes) 4) 3 = false →
    AnswersWith (exec .witnessReceive s) fun t =>
      Only [.rxq, .ports, .twin] [.field (XPT_CHAIN_END k.port), .field (XPT_CHAIN_END_VALID k.port)] s t ∧ t.dev.rxq = rest ∧
      t.dev.get (XPT_CHAIN_END k.port) = 0 ∧ t.dev.get (XPT_CHAIN_END_VALID k.port) = 1 ∧
      t.dev.ports = s.dev.ports.modify k.port fun p => { p with unasgSeen := some s.dev.time.clk.ticks }) ∧
  (∀ (s : State) (k : RxPkt) (rest : List RxPkt),
    senderOn s →
    s.dev.rxq = k :: rest →
    pktType k.bytes = PT_WITNESS →
    pktUnasg k.bytes = false →
    k.port < 4 →
    pktSrcAddr k.bytes / 64 = 4 * s.dev.get XPT_CTRL_PAIR + k.port →
    s.dev.get TWIN_STAT_STATE ≠ W_STANDBY →
    s.dev.isPresent k.port (pktSrcAddr k.bytes % 64) = true →
    s.dev.sec.unread = [] →
    s.dev.sec.recheck = [] →
    let q := pktSrcAddr k.bytes % 64
    let a := byteAt (pktBody k.bytes) 4
    let w := { port := k.port, position := pktSrcAddr k.bytes % 64, unasg := false, epoch := leAt (pktBody k.bytes) 0 4, pri := natBit (byteAt (pktBody k.bytes) 4) 0, tail := natBit (byteAt (pktBody k.bytes) 4) 1, valid := natBit (byteAt (pktBody k.bytes) 4) 2, tick := s.dev.time.clk.ticks : WitRec }
    AnswersWith (exec .witnessReceive s) fun t =>
      Only [.rxq, .ports, .twin] [.field (XPT_CHAIN_END k.port), .field (XPT_CHAIN_END_VALID k.port),
        .word (if pktSrcAddr k.bytes % 64 < 32 then TWIN_STALE_LO k.port else TWIN_STALE_HI k.port)] s t ∧
      t.dev.rxq = rest ∧ t.dev.get (XPT_CHAIN_END k.port) = b2n (natBit a 3) ∧ w ∈ t.dev.twin.wits ∧
      t.dev.ports = s.dev.ports.modify k.port fun p =>
        { p with present := (q, s.dev.time.clk.ticks) :: p.present.filter fun e => e.1 != q }) ∧
  (∀ (s : State) (x : Port) (q : Fin 64) (t0 : Nat),
    senderOn s →
    (q.val, t0) ∈ (s.dev.port x).present →
    t0 + 750000 ≤ s.dev.time.clk.ticks →
    AnswersWith (exec (.presenceTimeout x q) s) fun t =>
      Only [.ports, .twin] [.word (if q.val < 32 then TWIN_STALE_LO x else TWIN_STALE_HI x)] s t ∧
      t.dev.ports = s.dev.ports.modify x fun p => { p with present := p.present.filter fun e => e.1 != q.val })

/-- R119, R120, R122, R123, R143, R152: two codewords that fail to decode count in CWU of their lanes and deliver no
cell, and the eighth in a row on a lane is a loss of lock; a pair of idle cells shows the peer's RXLOCK, PMREQ and
REFDEP, counts the symbols corrected and delivers nothing, and a pair with the one cell of an RSP gives a sender
that packet, stamped with its clock (R158, R196). R166, R169: a tile sends a pair of its own on its other port for
each that it receives while that line is free, and keeps the slots, of idle ones no more than 12, while it is not.
R163: a tile sends a WITNESS each millisecond. R374: the record at REC_SENT waits as an EVENT when its severity is
at least SEND_SEV, and REC_SENT moves on when its cells leave (R170). R184: 100 µs without a cell end a packet's
reassembly and count in PKTERR. The model's choices: what the descrambler holds after a failed codeword is free (the
log, 3); a pair goes out for each that comes in, timed by the line (105); an own packet leaves at once in the slots
that are free (96). Completion, with what the next state holds, for: CODEWORD_PAIR_RX, WITNESS_SEND, EVENT_SEND,
PACKET_REASSEMBLY_TIMEOUT. -/
def Obligations.CellsAndPackets : Prop :=
  (∀ (s : State) (x : Port) (r : Nat) (b0 b1 : RxCodeword),
    senderOn s →
    s.dev.get (LANE_STAT_STATE x) = P_LS0 →
    (s.dev.port x).refwait = false →
    s.dev.get (LANEN_STAT_LOL x 0) = 0 ∧ s.dev.get (LANEN_STAT_LOS x 0) = 0 →
    s.dev.get (LANEN_STAT_LOL x 1) = 0 ∧ s.dev.get (LANEN_STAT_LOS x 1) = 0 →
    s.dev.ports.length = 4 ∧ (s.dev.port x).lanes.length = 2 →
    (receiveCodeword (s.dev.lane x 0) (s.dev.getb (LANEN_STAT_POLINV x 0)) b0).1 = none →
    (receiveCodeword (s.dev.lane x 1) (s.dev.getb (LANEN_STAT_POLINV x 1)) b1).1 = none →
    (s.dev.lane x 0).failRun < 7 ∧ (s.dev.lane x 1).failRun < 7 →
    AnswersWith (exec (.codewordPairRx x (some b0) (some b1) r) s) fun t =>
      Only [.ports, .free] [.word (LANEN_CWU x 0), .word (LANEN_CWU x 1)] s t ∧
      t.dev.get (LANEN_CWU_COUNT x 0) = (s.dev.get (LANEN_CWU_COUNT x 0) + 1) % 2 ^ 32 ∧
      t.dev.get (LANEN_CWU_COUNT x 1) = (s.dev.get (LANEN_CWU_COUNT x 1) + 1) % 2 ^ 32 ∧
      (t.dev.lane x 0).failRun = (s.dev.lane x 0).failRun + 1 ∧ (t.dev.lane x 1).failRun = (s.dev.lane x 1).failRun + 1 ∧
      (t.dev.port x).peerLockRun = 0 ∧ (t.dev.port x).peerUnlockSince = none) ∧
  (∀ (s : State) (x : Port) (r : Nat) (b0 : RxCodeword),
    senderOn s →
    s.dev.get (LANE_STAT_STATE x) = P_LS0 ∨ s.dev.get (LANE_STAT_STATE x) = P_RECOVER →
    (s.dev.port x).refwait = false →
    s.dev.get (LANEN_STAT_LOL x 0) = 0 ∧ s.dev.get (LANEN_STAT_LOS x 0) = 0 →
    s.dev.ports.length = 4 ∧ (s.dev.port x).lanes.length = 2 →
    (receiveCodeword (s.dev.lane x 0) (s.dev.getb (LANEN_STAT_POLINV x 0)) b0).1 = none →
    (s.dev.lane x 0).failRun = 7 →
    AnswersWith (exec (.codewordPairRx x (some b0) none r) s) fun t =>
      Only [.ports, .free] [.word (LANEN_CWU x 0), .word (LANEN_STAT x 0), .field (LANE_STAT_STATE x), .field (LANE_STAT_RX_UP x)] s t ∧
      t.dev.get (LANEN_STAT_LOL x 0) = 1 ∧ t.dev.get (LANEN_STAT_LOL_SEEN x 0) = 1 ∧ t.dev.get (LANE_STAT_RX_UP x) = 0 ∧
      t.dev.get (LANE_STAT_STATE x) = P_RECOVER) ∧
  (∀ (s : State) (x : Port) (r : Nat) (b0 b1 : RxCodeword) (l0 l1 k0 k1 : Nat) (c0 c1 cells : List (List Byte)),
    senderOn s →
    s.dev.get (LANE_STAT_STATE x) = P_LS0 →
    (s.dev.port x).refwait = false →
    s.dev.get (LANEN_STAT_LOL x 0) = 0 ∧ s.dev.get (LANEN_STAT_LOS x 0) = 0 →
    s.dev.get (LANEN_STAT_LOL x 1) = 0 ∧ s.dev.get (LANEN_STAT_LOS x 1) = 0 →
    s.dev.ports.length = 4 ∧ (s.dev.port x).lanes.length = 2 →
    (s.dev.lane x 0).discardFirst = false ∧ (s.dev.lane x 1).discardFirst = false →
    (receiveCodeword (s.dev.lane x 0) (s.dev.getb (LANEN_STAT_POLINV x 0)) b0).1 = some ((l0, c0), k0) →
    (receiveCodeword (s.dev.lane x 1) (s.dev.getb (LANEN_STAT_POLINV x 1)) b1).1 = some ((l1, c1), k1) →
    pairCells (l0, c0) (l1, c1) = some cells →
    (∀ c ∈ cells, cellOk c = true ∧ cellValid c = false) →
    AnswersWith (exec (.codewordPairRx x (some b0) (some b1) r) s) fun t =>
      Only [.ports, .free] [.field (LANE_STAT_TX_UP x), .field (LANE_STAT_PEER_PM x), .field (LANE_STAT_PEER_REFDEP x),
        .field (LANE_STAT_SWAP x), .word (LANEN_CWC x 0), .word (LANEN_CWC x 1), .word (LANEN_SYM x 0), .word (LANEN_SYM x 1)] s t ∧
      t.dev.get (LANE_STAT_TX_UP x) = l1 % 2 ∧ t.dev.get (LANE_STAT_PEER_PM x) = l1 / 2 % 4 ∧
      t.dev.get (LANE_STAT_PEER_REFDEP x) = l1 / 8 % 2 ∧ t.dev.get (LANE_STAT_SWAP x) = l0 / 16 % 2 ∧
      t.dev.get (LANEN_CWC_COUNT x 0) = (s.dev.get (LANEN_CWC_COUNT x 0) + (if k0 = 0 then 0 else 1)) % 2 ^ 32 ∧
      t.dev.get (LANEN_SYM_COUNT x 0) = (s.dev.get (LANEN_SYM_COUNT x 0) + k0) % 2 ^ 32) ∧
  (∀ (s : State) (x : Port) (r : Nat) (b0 b1 : RxCodeword) (l0 l1 k0 k1 : Nat) (c0 c1 : List (List Byte)) (c : List Byte) (cells : List (List Byte)),
    senderOn s →
    s.dev.get (LANE_STAT_STATE x) = P_LS0 →
    (s.dev.port x).refwait = false →
    s.dev.get (LANEN_STAT_LOL x 0) = 0 ∧ s.dev.get (LANEN_STAT_LOS x 0) = 0 →
    s.dev.get (LANEN_STAT_LOL x 1) = 0 ∧ s.dev.get (LANEN_STAT_LOS x 1) = 0 →
    s.dev.ports.length = 4 ∧ (s.dev.port x).lanes.length = 2 →
    (s.dev.lane x 0).discardFirst = false ∧ (s.dev.lane x 1).discardFirst = false →
    (receiveCodeword (s.dev.lane x 0) (s.dev.getb (LANEN_STAT_POLINV x 0)) b0).1 = some ((l0, c0), k0) →
    (receiveCodeword (s.dev.lane x 1) (s.dev.getb (LANEN_STAT_POLINV x 1)) b1).1 = some ((l1, c1), k1) →
    pairCells (l0, c0) (l1, c1) = some (c :: cells) →
    (∀ c ∈ cells, cellOk c = true ∧ cellValid c = false) →
    cellOk c = true ∧ cellValid c = true ∧ cellSop c = true ∧ cellEop c = true ∧ cellCidx c = 0 →
    pktType (cellData c) = PT_RSP →
    pktLen (cellData c) ≤ 40 →
    (s.dev.port x).open_ = [] →
    let pkt := (cellData c).take (16 + pktLen (cellData c))
    let stamp := (s.dev.time.clk.sec * 1000000000 + s.dev.time.clk.ns) * 65536 + s.dev.time.clk.frac
    AnswersWith (exec (.codewordPairRx x (some b0) (some b1) r) s) fun t =>
      Only [.ports, .rxq, .free] [.field (LANE_STAT_TX_UP x), .field (LANE_STAT_PEER_PM x), .field (LANE_STAT_PEER_REFDEP x),
        .field (LANE_STAT_SWAP x), .word (LANEN_CWC x 0), .word (LANEN_CWC x 1), .word (LANEN_SYM x 0), .word (LANEN_SYM x 1)] s t ∧
      t.dev.rxq = s.dev.rxq ++ [{ port := x, bytes := pkt, tRx := stamp }]) ∧
  (∀ (s : State) (x : Port) (r : Nat),
    tileOn s →
    x.val < 2 →
    s.dev.get (LANE_STAT_STATE x) = P_LS0 →
    s.dev.get (LANE_STAT_STATE (1 - x.val)) = P_LS0 →
    (s.dev.port x).refwait = false →
    s.dev.get (LANEN_STAT_LOL x 0) = 1 ∧ s.dev.get (LANEN_STAT_LOL x 1) = 1 →
    (s.dev.port (1 - x.val)).toneSince = none →
    (s.dev.port (1 - x.val)).fwd = [] →
    (s.dev.port (1 - x.val)).own = [] →
    (s.dev.port (1 - x.val)).lineEnd ≤ 5 * s.dev.time.clk.ticks + 5 →
    AnswersWith (exec (.codewordPairRx x none none r) s) fun t => Only [.ports, .out] [] s t ∧
      (t.dev.out.drop s.dev.out.length).map (fun o => match o with
        | .pair p cells _ _ => some (p, cells)
        | _ => none) = [some (1 - x.val, List.replicate 20 idleCell)]) ∧
  (∀ (s : State) (x : Port) (r : Nat),
    tileOn s →
    x.val < 2 →
    s.dev.get (LANE_STAT_STATE x) = P_LS0 →
    s.dev.get (LANE_STAT_STATE (1 - x.val)) = P_LS0 →
    (s.dev.port x).refwait = false →
    s.dev.get (LANEN_STAT_LOL x 0) = 1 ∧ s.dev.get (LANEN_STAT_LOL x 1) = 1 →
    (s.dev.port (1 - x.val)).toneSince = none →
    (s.dev.port (1 - x.val)).fwd = [] →
    5 * s.dev.time.clk.ticks + 5 < (s.dev.port (1 - x.val)).lineEnd →
    AnswersWith (exec (.codewordPairRx x none none r) s) fun t => Only [.ports] [] s t ∧
      t.dev.ports = s.dev.ports.modify (1 - x.val) fun p => { p with fwd := List.replicate 12 none }) ∧
  (∀ (s : State) (r q : Nat) (e : OwnPkt),
    tileOn s →
    s.dev.get (LANE_STAT_STATE 0) = P_LS0 ∧ s.dev.get (LANE_STAT_STATE 1) = P_LS0 →
    (s.dev.port 1).refwait = false →
    s.dev.get (LANEN_STAT_LOL 1 0) = 1 ∧ s.dev.get (LANEN_STAT_LOL 1 1) = 1 →
    (s.dev.port 0).toneSince = none →
    (s.dev.port 0).fwd = [] →
    (s.dev.port 0).own = [e] →
    e.record = some q ∧ e.turn = none ∧ e.cells.length ≤ 20 →
    s.dev.get REC_SENT_SEQ = q →
    (s.dev.port 0).lineEnd ≤ 5 * s.dev.time.clk.ticks + 5 →
    AnswersWith (exec (.codewordPairRx 1 none none r) s) fun t => Only [.ports, .out] [.word REC_SENT] s t ∧
      t.dev.get REC_SENT_SEQ = (q + 1) % 2 ^ 32 ∧ (t.dev.port 0).own = [] ∧
      (t.dev.out.drop s.dev.out.length).map (fun o => match o with
        | .pair p cells _ _ => some (p, cells)
        | _ => none) = [some (0, e.cells ++ List.replicate (20 - e.cells.length) idleCell)]) ∧
  (∀ (s : State) (x : Port),
    tileOn s →
    x.val < 2 →
    s.dev.get XPT_CTRL_WIT_EN = 1 →
    s.dev.get (LANE_STAT_STATE x) = P_LS0 →
    s.dev.get (LANE_STAT_STATE (1 - x.val)) = P_LS0 →
    (s.dev.port x).lastWit + 247500 ≤ s.dev.time.clk.ticks →
    let cells := packetCells (tilePkt s.dev PT_WITNESS 0 (witnessBody s.dev x))
    AnswersWith (exec (.witnessSend x) s) fun t => Only [.ports] [] s t ∧
      t.dev.ports = s.dev.ports.modify x fun p =>
        { p with wseq := (p.wseq + 1) % 65536, lastWit := s.dev.time.clk.ticks, own := insertOwn { prec := 2, cells := cells, turn := none, record := none } p.own }) ∧
  (∀ (s : State) (q : Nat),
    tileOn s →
    s.dev.get REC_STAT_EMPTY = 0 →
    s.dev.get REC_SENT_SEQ = q →
    s.dev.rcd.next ≠ q →
    precedes q (s.dev.get REC_OLDEST_SEQ) = false →
    s.dev.recCheckOk q = true →
    s.dev.get REC_CTRL_SEND_SEV ≤ (eventOfBytes (s.dev.recSlot q)).sev →
    s.dev.tile.accepted = none →
    s.dev.get (LANE_STAT_STATE 0) = P_LS0 →
    s.dev.get (LANE_STAT_STATE 1) = P_LS0 →
    (∀ p ∈ s.dev.ports, p.own = []) →
    (s.dev.port 0).toneSince = none →
    let rec32 := s.dev.recSlot q
    AnswersWith (exec .eventSend s) fun t => Only [.ports] [] s t ∧
      t.dev.ports = s.dev.ports.modify 0 fun p =>
        { p with own := [{ prec := 3, cells := packetCells (tilePkt s.dev PT_EVENT 0 rec32), turn := none, record := some q }] }) ∧
  (∀ (s : State) (x : Port) (r : Reasm),
    deviceOn s →
    (s.dev.port x).open_ = [r] →
    r.lastCell + 25000 ≤ s.dev.time.clk.ticks →
    AnswersWith (exec (.packetReassemblyTimeout x r.stream) s) fun t =>
      Only [.ports] [.word (XPT_PKTERR x)] s t ∧
      t.dev.get (XPT_PKTERR_COUNT x) = (s.dev.get (XPT_PKTERR_COUNT x) + 1) % 2 ^ 32 ∧
      t.dev.ports = s.dev.ports.modify x fun p => { p with open_ := [] })

/-- R55, R102, R105: FLIP_PARSE consumes the slots of a flip; a flip without layers is rejected by its CRC, its header,
its mode, its time, its order or its table of signatures, in that order, with the count and status in RING_FLIP_REJ
and a FLIP_REJECT completion; the slot and the table of signatures are read from the host; otherwise it waits in the
queue at its present time (R100), with FLIP_ACCEPT and one more in RING_FLIP_ACC. The first flip with no mode in
force changes the mode and lies at least 3 periods ahead (R115, R118). R103: check 8a comes before 8b, and each
names the device; the table of signatures is read only when the checks before it pass. A flip in whose parsing an
engine's memory shows a parity error stays unparsed, and that engine is reloaded (R45). R107: until the launch time
of its flip, a fence word that has reached its value makes its layer ready. R110: a flip with an unready DEFER layer
moves by one frame period. R116: at P_new the mode is taken and MODE_CHANGE recorded. Completion, with what the next
state holds, for: FLIP_PARSE, FENCE_POLL, FRAME_LAUNCH, SENDER_MODE_SWITCH. -/
def Obligations.FlipsAccepted : Prop :=
  (∀ (s : State) (slot : List Byte) (table : Option (List Byte)),
    senderOn s →
    s.dev.getb (RING_CFG_EN 0) = true →
    1 ≤ s.dev.ringEntries 0 →
    s.dev.inFlight < 1024 →
    s.dev.enginesReady = true →
    s.dev.enginesWork.engineFinds = [] →
    slot.length = 64 →
    fLayers slot = 0 →
    fNext slot = false →
    s.dev.host.queue = [] →
    s.dev.host.prev = none →
    s.dev.get RING_FLIP_MODE_CUR = fMode slot →
    let p := gridFrom (fMode slot) (fPresentS slot * 1000000000 + fPresentNs slot)
    let status := if dCrcOk slot = false then ST_FLIP_REJECT_CRC else if headerFaulty slot = true then ST_FLIP_REJECT_DESC else if modeAllowed (fMode slot) = false then ST_FLIP_REJECT_MODE else if p < s.dev.now + s.dev.launchLead (fMode slot) ∨ s.dev.now + 1000000000 < p then ST_FLIP_REJECT_TIME else if guardOk slot table = false then ST_FLIP_REJECT_GUARD else ST_OK
    let i := s.dev.get (RING_IDX_INDEX 0)
    let cpl := { tag := fTag slot, status := status, kind := K_FLIP_REJECT, ring := 0, index := i, value := 0 : Cpl }
    let judged := status = ST_OK ∨ status = ST_FLIP_REJECT_GUARD
    let reads := Out.hostRead (s.dev.slotAddr 0 i 64) 64 :: (if fGuardAddr slot = 0 ∨ ¬judged then [] else [.hostRead (fGuardAddr slot) (fGuardLen slot)])
    let acc := { tag := fTag slot, status := ST_OK, kind := K_FLIP_ACCEPT, ring := 0, index := i, value := p % 1000000000 : Cpl }
    AnswersWith (exec (.flipParse [slot] table) s) fun t =>
      Only [.host, .twin, .out, .parity, .free, .tile] [.word (RING_IDX 0), .word RING_FLIP_REJ, .word RING_FLIP_ACC] s t ∧
      t.dev.tile = { s.dev.tile with worked := true } ∧
      t.dev.out = s.dev.out ++ reads ∧ (s.dev.parity.armed = none ∧ s.dev.parity.bad = [] → t.dev.parity = s.dev.parity ∧ t.dev.free = s.dev.free) ∧
      t.dev.get (RING_IDX_INDEX 0) = (i + 1) % 2 ^ 32 ∧
      (status ≠ ST_OK → t.dev.host = { s.dev.host with cpls := s.dev.host.cpls ++ [cpl] } ∧ t.dev.twin = s.dev.twin ∧
        t.dev.get RING_FLIP_REJ_LAST = status ∧ t.dev.rd RING_FLIP_ACC = s.dev.rd RING_FLIP_ACC ∧
        t.dev.get RING_FLIP_REJ_COUNT = min 65535 (s.dev.get RING_FLIP_REJ_COUNT + 1)) ∧
      (status = ST_OK → t.dev.host.cpls = s.dev.host.cpls ++ [acc] ∧
        (t.dev.host.queue.map fun f => (f.index, f.present, f.mode, f.modeChange)) = [(i, p, fMode slot, false)] ∧
        t.dev.get RING_FLIP_ACC_COUNT = (s.dev.get RING_FLIP_ACC_COUNT + 1) % 2 ^ 32 ∧
        t.dev.rd RING_FLIP_REJ = s.dev.rd RING_FLIP_REJ)) ∧
  (∀ (s : State) (slot : List Byte) (table : Option (List Byte)) (g : Flip),
    senderOn s →
    s.dev.getb (RING_CFG_EN 0) = true →
    1 ≤ s.dev.ringEntries 0 →
    s.dev.inFlight < 1024 →
    s.dev.enginesReady = true →
    s.dev.enginesWork.engineFinds = [] →
    slot.length = 64 →
    fLayers slot = 0 →
    fNext slot = false →
    dCrcOk slot = true ∧ headerFaulty slot = false ∧ modeAllowed (fMode slot) = true →
    s.dev.host.queue = [g] →
    g.mode = fMode slot →
    gridFrom (fMode slot) (fPresentS slot * 1000000000 + fPresentNs slot) ≤ g.present →
    s.dev.now + s.dev.launchLead (fMode slot) ≤ gridFrom (fMode slot) (fPresentS slot * 1000000000 + fPresentNs slot) →
    gridFrom (fMode slot) (fPresentS slot * 1000000000 + fPresentNs slot) ≤ s.dev.now + 1000000000 →
    let i := s.dev.get (RING_IDX_INDEX 0)
    let cpl := { tag := fTag slot, status := ST_FLIP_REJECT_ORDER, kind := K_FLIP_REJECT, ring := 0, index := i, value := 0 : Cpl }
    AnswersWith (exec (.flipParse [slot] table) s) fun t =>
      Only [.host, .out, .parity, .free, .tile] [.word (RING_IDX 0), .word RING_FLIP_REJ] s t ∧
      t.dev.out = s.dev.out ++ [.hostRead (s.dev.slotAddr 0 i 64) 64] ∧
      t.dev.host = { s.dev.host with cpls := s.dev.host.cpls ++ [cpl] } ∧ t.dev.get RING_FLIP_REJ_LAST = ST_FLIP_REJECT_ORDER) ∧
  (∀ (s : State) (slot : List Byte) (table : Option (List Byte)),
    senderOn s →
    s.dev.getb (RING_CFG_EN 0) = true →
    1 ≤ s.dev.ringEntries 0 →
    s.dev.inFlight < 1024 →
    s.dev.enginesReady = true →
    s.dev.enginesWork.engineFinds = [] →
    slot.length = 64 →
    fLayers slot = 0 →
    fNext slot = false →
    dCrcOk slot = true ∧ headerFaulty slot = false ∧ modeAllowed (fMode slot) = true ∧ guardOk slot table = true →
    s.dev.host.queue = [] →
    s.dev.host.flying = [] →
    s.dev.host.prev = none →
    s.dev.get RING_FLIP_MODE_CUR = 0xFF →
    s.dev.now + s.dev.launchLead (fMode slot) ≤ gridFrom (fMode slot) (fPresentS slot * 1000000000 + fPresentNs slot) →
    gridFrom (fMode slot) (fPresentS slot * 1000000000 + fPresentNs slot) ≤ s.dev.now + 1000000000 →
    let p := gridFrom (fMode slot) (fPresentS slot * 1000000000 + fPresentNs slot)
    let late := decide (p < s.dev.now + 3 * periodCeil (fMode slot))
    AnswersWith (exec (.flipParse [slot] table) s) fun t =>
      Only [.host, .twin, .out, .parity, .free, .tile] [.word (RING_IDX 0), .word RING_FLIP_REJ, .word RING_FLIP_ACC,
        .word RING_FLIP_MODE] s t ∧
      (late = true → t.dev.host.queue = [] ∧ t.dev.get RING_FLIP_REJ_LAST = ST_FLIP_REJECT_TIME ∧
        t.dev.get RING_FLIP_MODE_NEXT = s.dev.get RING_FLIP_MODE_NEXT) ∧
      (late = false → (t.dev.host.queue.map fun f => (f.present, f.mode, f.modeChange)) = [(p, fMode slot, true)] ∧
        t.dev.get RING_FLIP_MODE_NEXT = fMode slot ∧ t.dev.get RING_FLIP_MODE_CUR = 0xFF)) ∧
  (∀ (s : State) (slot : List Byte) (table : Option (List Byte)) (u o : Nat),
    senderOn s →
    s.dev.getb (RING_CFG_EN 0) = true →
    1 ≤ s.dev.ringEntries 0 →
    s.dev.inFlight < 1024 →
    s.dev.enginesReady = true →
    slot.length = 64 →
    fLayers slot = 0 →
    s.dev.host.flying = [] →
    s.dev.parity = { armed := none, bad := [⟨0, u, o, .code⟩] } →
    let new := s.dev.getb FAB_PERR_LOG_VALID = false
    AnswersWith (exec (.flipParse [slot] table) s) fun t =>
      OnlyLogging [.tile, .parity, .out] [.word FAB_PERR_CNT, .word FAB_PERR_LOG, .word FAB_PERR_ADDR] s t ∧
      t.dev.tile = { s.dev.tile with worked := true, reload := u :: s.dev.tile.reload.erase u } ∧ t.dev.parity.bad = [] ∧
      t.dev.get FAB_PERR_CNT_COUNT = (s.dev.get FAB_PERR_CNT_COUNT + 1) % 2 ^ 32 ∧
      (new → t.dev.get FAB_PERR_LOG_VALID = 1 ∧ t.dev.get FAB_PERR_LOG_MEM = 0 ∧ t.dev.get FAB_PERR_LOG_UNIT = u % 256 ∧
        t.dev.get FAB_PERR_ADDR_OFFSET = o % 2 ^ 32) ∧
      (¬new → t.dev.rd FAB_PERR_LOG = s.dev.rd FAB_PERR_LOG ∧ t.dev.rd FAB_PERR_ADDR = s.dev.rd FAB_PERR_ADDR) ∧
      Logs [(EV_FAB_PARITY.code, 0, u % 2 ^ 32, o % 2 ^ 32)] s t) ∧
  (∀ (mode addr : Nat) (f : Footprint) (ls : List Layer),
    let meet := ls.filter fun l => layerMeets mode f l
    (8 < meet.length → deviceFault mode addr f ls = some ⟨ST_FLIP_REJECT_LAYERS, some addr, none⟩) ∧
      (meet.length ≤ 8 ∧ 4 < (meet.filter Layer.scaled).length →
        deviceFault mode addr f ls = some ⟨ST_FLIP_REJECT_SCALER, some addr, none⟩) ∧
      (meet = [] → deviceFault mode addr f ls = none)) ∧
  (∀ (s : State) (f : Flip) (l : LayerSt) (v : BitVec 64),
    senderOn s →
    s.dev.host.queue = [f] →
    f.layers = [l] →
    l.ready = false →
    l.retired = false →
    s.dev.host.lastFence = none →
    s.dev.now + s.dev.launchLead f.mode ≤ f.present →
    let g := { f with layers := [{ l with ready := decide (eFenceValue l.entry ≤ v.toNat) }] }
    AnswersWith (exec (.fencePoll [some v]) s) fun t => Only [.host, .out] [] s t ∧
      t.dev.out = s.dev.out ++ [.hostRead (eFenceAddr l.entry) 8] ∧
      t.dev.host = { s.dev.host with queue := [g], lastFence := some s.dev.time.clk.ticks }) ∧
  (∀ (s : State) (f : Flip) (v : BitVec 64),
    senderOn s →
    s.dev.host.queue = [f] →
    s.dev.host.lastFence = none →
    f.present < s.dev.now + s.dev.launchLead f.mode →
    AnswersWith (exec (.fencePoll [some v]) s) fun t => Only [.host] [] s t ∧
      t.dev.host = { s.dev.host with lastFence := some s.dev.time.clk.ticks }) ∧
  (∀ (s : State) (f : Flip) (l : LayerSt),
    senderOn s →
    s.dev.host.queue = [f] →
    f.layers = [l] →
    s.dev.underWay = false →
    l.ready = false →
    eDefer l.entry = true →
    f.modeChange = false →
    f.deferred < fDefer f.header →
    f.present ≤ s.dev.now + s.dev.launchLead f.mode →
    s.dev.enginesReady = true →
    s.dev.swapDue = false →
    let g := { f with present := gridAfter f.mode f.present, deferred := f.deferred + 1 }
    AnswersWith (exec .frameLaunch s) fun t => OnlyLogging [.host, .twin] [.field RING_FLIP_HELD_DEFER] s t ∧
      t.dev.host = { s.dev.host with queue := [g] } ∧
      t.dev.get RING_FLIP_HELD_DEFER = min 65535 (s.dev.get RING_FLIP_HELD_DEFER + 1) ∧
      Logs [(EV_FLIP_DEFER.code, fTag f.header % 2 ^ 32, (f.deferred + 1) % 2 ^ 32, 0)] s t) ∧
  (∀ (s : State) (f : Flip),
    senderOn s →
    s.dev.host.flying = [f] →
    s.dev.host.queue = [] →
    f.modeChange = true →
    f.present ≤ s.dev.now →
    f.mode < 256 →
    AnswersWith (exec .senderModeSwitch s) fun t => OnlyLogging [.host] [.word RING_FLIP_MODE] s t ∧
      t.dev.get RING_FLIP_MODE_CUR = f.mode ∧ t.dev.get RING_FLIP_MODE_NEXT = 0xFF ∧
      t.dev.host = { s.dev.host with flying := if f.ended = true then [] else [{ f with modeChange := false }] } ∧
      Logs [(EV_MODE_CHANGE.code, f.mode + 256 * s.dev.get RING_FLIP_MODE_CUR, f.present % 1000000000,
        f.present / 1000000000 % 2 ^ 32)] s t)

/-- R180: at the launch time the first flip leaves the queue as the next launch count, each port that feeds queues its
FLIP-HDR twice, and without layers the PRESENT twice; a layer that is not ready is held and one that no device needs
is unused, and both retire (R109, R113). A layer read sends its blocks on each port of the frame, each with the mask
of the positions that need it, retires the layer with OK, and after the last layer the PRESENT follows. R111: a read
that fails abandons the layer with DMA_ERR, a count and LAYER_ABANDON. R181: at P − 2 ms the unread layers retire;
on a port with blocks that remain, read or not, those are not sent, its PRESENT leaves with TRUNC = 1 and is
counted; on another the PRESENT follows with TRUNC = 0. A frame launches only once the one before has left, and on
the ports that have reached LS0 (R180, R288, R292). The model's choices: FRAME and the launch count carry the count
before this launch (the log, 67); a layer still unread at P − 2 ms retires with OK, and a port's cut counts once a
frame (68); an unready layer retires with LAYER_HELD even where no device needs it (69). Completion, with what the
next state holds, for: FRAME_LAUNCH, LAYER_READ_COMPLETE, LAYER_READ_FAIL, TRANSPORT_END. -/
def Obligations.FlipsInTransport : Prop :=
  (∀ (s : State) (f : Flip) (rest : List Flip) (x : Nat) (c : TxPkt),
    senderOn s →
    s.dev.host.queue = f :: rest →
    s.dev.host.flying = [] →
    f.layers = [] →
    f.closed = false →
    f.present ≤ s.dev.now + s.dev.launchLead f.mode →
    s.dev.enginesReady = true →
    s.dev.swapDue = false →
    ((List.range 4).filter fun y => s.dev.feeds y (s.dev.launchAt f.mode f.present) f.present) = [x] →
    (s.dev.port x).cur = some c →
    x < s.dev.ports.length →
    TQ_FRAME < (s.dev.port x).txq.length →
    let n := s.dev.host.launchCount
    let hdr (copy : Bool) := senderPkt s.straps s.dev x PT_FLIP_HDR false copy (n % 256) 0 (flipHdrBody f (4 * s.dev.get XPT_CTRL_PAIR + x))
    let pre (copy : Bool) := senderPkt s.straps s.dev x PT_PRESENT false copy (n % 256) 0 (presentBody f false 0)
    let g := { f with launched := some n, ports := [x], closed := true }
    let frame := [false, true].map (fun b => TxPkt.bytes (hdr b) none true) ++ [false, true].map fun b => .bytes (pre b) none true
    AnswersWith (exec .frameLaunch s) fun t =>
      Only [.host, .ports, .crc] [.word (XPT_FRAME_CELLS 0), .word (XPT_FRAME_CELLS 1), .word (XPT_FRAME_CELLS 2),
        .word (XPT_FRAME_CELLS 3), .block 0x10] s t ∧
      t.dev.host = { s.dev.host with
        queue := rest, flying := [g], launchCount := (n + 1) % 2 ^ 32, prev := some (f.present, f.mode),
        lastLaunch := some (f.present, fTag f.header) } ∧
      nth (t.dev.port x).txq TQ_FRAME [] = nth (s.dev.port x).txq TQ_FRAME [] ++ frame ∧
      (t.dev.port x).lastLaunch = f.present ∧ (t.dev.port x).blocks = 0) ∧
  (∀ (s : State) (f : Flip) (rest : List Flip) (l : LayerSt),
    senderOn s →
    s.dev.host.queue = f :: rest →
    s.dev.host.flying = [] →
    f.layers = [l] →
    l.retired = false →
    f.closed = false →
    f.dropped = false →
    l.ready = true ∨ eDefer l.entry = false ∨ fDefer f.header ≤ f.deferred →
    (l.ready = true → s.dev.layerNeeded f (layerOfEntry l.entry) = false) →
    f.present ≤ s.dev.now + s.dev.launchLead f.mode →
    s.dev.enginesReady = true →
    s.dev.swapDue = false →
    ((List.range 4).filter fun y => s.dev.feeds y (s.dev.launchAt f.mode f.present) f.present) = [] →
    let unready := decide (l.ready = false)
    let cpl := { tag := fTag f.header, status := if l.ready = false then ST_LAYER_HELD else ST_LAYER_UNUSED, kind := K_LAYER_RETIRE, ring := 0, index := f.index, value := eLayer l.entry : Cpl }
    AnswersWith (exec .frameLaunch s) fun t =>
      Only [.host, .ports, .crc] [.word (XPT_FRAME_CELLS 0), .word (XPT_FRAME_CELLS 1), .word (XPT_FRAME_CELLS 2),
        .word (XPT_FRAME_CELLS 3), .block 0x10, .field RING_FLIP_HELD_HELD] s t ∧
      t.dev.host.cpls = s.dev.host.cpls ++ [cpl] ∧ t.dev.host.queue = rest ∧
      t.dev.get RING_FLIP_HELD_HELD = min 65535 (s.dev.get RING_FLIP_HELD_HELD + b2n unready) ∧
      (t.dev.host.flying.map fun g => (g.index, g.launched, g.layers, g.closed)) =
        [(f.index, some s.dev.host.launchCount, [{ l with held := unready, retired := true }], true)]) ∧
  (∀ (s : State) (f : Flip) (l : LayerSt) (x : Nat) (c : TxPkt) (surface : List Byte),
    senderOn s →
    s.dev.host.flying = [f] →
    f.closed = false →
    f.dropped = false →
    s.dev.enginesWork.engineFinds = [] →
    f.layers = [l] →
    l.retired = false →
    l.held = false →
    isPbs (eFormat l.entry) = false →
    f.ports = [x] →
    s.dev.portMode x = M_FEED →
    x < s.dev.ports.length →
    TQ_FRAME < (s.dev.port x).txq.length →
    (s.dev.port x).cur = some c →
    s.dev.now ≤ f.present - 2000000 →
    s.dev.enginesReady = true →
    let lay := layerOfEntry l.entry
    let bs := (s.dev.portBlocks f x lay).filter fun b => s.dev.posMask f x lay b.1 b.2 != 0
    let blk (b : Nat × Nat) := (layerBlock l.entry surface [] b.1 b.2)
    let pkt (b : Nat × Nat) := TxPkt.bytes (senderPkt s.straps s.dev x PT_BLOCK false false f.frame 0 (blockBody (s.dev.posMask f x lay b.1 b.2) lay.number b.1 b.2 (blk b).1 (blk b).2)) none true
    let done := { f with layers := [{ l with held := false, retired := true }], closed := true }
    let pre (copy : Bool) := TxPkt.bytes (senderPkt s.straps s.dev x PT_PRESENT false copy f.frame 0 (presentBody done false ((s.dev.port x).blocks + bs.length))) none true
    let cpl := { tag := fTag f.header, status := ST_OK, kind := K_LAYER_RETIRE, ring := 0, index := f.index, value := eLayer l.entry : Cpl }
    AnswersWith (exec (.layerReadComplete 0 surface []) s) fun t =>
      Only [.host, .ports, .crc, .parity, .free, .tile] [.block 0x10] s t ∧ t.dev.tile = { s.dev.tile with worked := true } ∧
      (s.dev.parity.armed = none ∧ s.dev.parity.bad = [] → t.dev.parity = s.dev.parity ∧ t.dev.free = s.dev.free) ∧
      t.dev.host = { s.dev.host with cpls := s.dev.host.cpls ++ [cpl], flying := [done] } ∧
      nth (t.dev.port x).txq TQ_FRAME [] = nth (s.dev.port x).txq TQ_FRAME [] ++ bs.map pkt ++ [pre false, pre true] ∧
      (t.dev.port x).blocks = (s.dev.port x).blocks + bs.length) ∧
  (∀ (s : State) (f : Flip) (l : LayerSt),
    senderOn s →
    s.dev.host.flying = [f] →
    f.closed = false →
    f.dropped = false →
    f.layers = [l] →
    l.retired = false →
    f.ports = [] →
    s.dev.now ≤ f.present - 2000000 →
    s.dev.enginesReady = true →
    let cpl := { tag := fTag f.header, status := ST_DMA_ERR, kind := K_LAYER_RETIRE, ring := 0, index := f.index, value := eLayer l.entry : Cpl }
    let g := { f with layers := [{ l with held := true, retired := true }], closed := true }
    AnswersWith (exec (.layerReadFail 0 .dma) s) fun t =>
      OnlyLogging [.host, .crc] [.field RING_FLIP_HELD_HELD, .block 0x10] s t ∧
      t.dev.host = { s.dev.host with cpls := s.dev.host.cpls ++ [cpl], flying := [g] } ∧
      t.dev.get RING_FLIP_HELD_HELD = min 65535 (s.dev.get RING_FLIP_HELD_HELD + 1) ∧
      Logs [(EV_LAYER_ABANDON.code, eLayer l.entry % 2 ^ 32, fTag f.header % 2 ^ 32, ST_DMA_ERR)] s t) ∧
  (∀ (s : State) (f : Flip) (l : LayerSt) (x : Nat) (c : TxPkt),
    senderOn s →
    s.dev.host.flying = [f] →
    f.closed = false →
    f.ended = false →
    f.dropped = false →
    f.modeChange = false →
    f.layers = [l] →
    l.retired = false →
    f.ports = [x] →
    s.dev.portMode x = M_FEED →
    x < s.dev.ports.length →
    nth (s.dev.port x).txq TQ_FRAME [] = [] →
    TQ_FRAME < (s.dev.port x).txq.length →
    (s.dev.port x).cur = some c →
    f.present - 2000000 ≤ s.dev.now →
    let cut := s.dev.unreadAt f x
    let cpl := { tag := fTag f.header, status := ST_OK, kind := K_LAYER_RETIRE, ring := 0, index := f.index, value := eLayer l.entry : Cpl }
    let pre (copy : Bool) := TxPkt.bytes (senderPkt s.straps s.dev x PT_PRESENT false copy f.frame 0 (presentBody f (s.dev.unreadAt f x) (s.dev.port x).blocks)) none true
    AnswersWith (exec .transportEnd s) fun t => OnlyLogging [.host, .ports] [.word (XPT_TRUNC x)] s t ∧
      t.dev.host = { s.dev.host with cpls := s.dev.host.cpls ++ [cpl], flying := [] } ∧
      t.dev.get (XPT_TRUNC_COUNT x) = (s.dev.get (XPT_TRUNC_COUNT x) + b2n cut) % 2 ^ 32 ∧
      nth (t.dev.port x).txq TQ_FRAME [] = [pre false, pre true] ∧
      Logs (if cut = true then [(EV_XPT_TRUNC.code, 0, 0, 0)] else []) s t) ∧
  (∀ (s : State) (f : Flip) (x : Nat) (c : TxPkt),
    senderOn s →
    s.dev.host.flying = [f] →
    f.closed = true →
    f.ended = false →
    f.modeChange = false →
    f.layers = [] →
    f.ports = [x] →
    s.dev.portMode x = M_FEED →
    x < s.dev.ports.length →
    0 < s.dev.waitingAt f x →
    (s.dev.port x).cur = some c →
    f.present - 2000000 ≤ s.dev.now →
    let q := (s.dev.port x).blocks - s.dev.waitingAt f x
    let pre (copy : Bool) := TxPkt.bytes (senderPkt s.straps s.dev x PT_PRESENT false copy f.frame 0 (presentBody f true q)) none true
    AnswersWith (exec .transportEnd s) fun t => OnlyLogging [.host, .ports] [.word (XPT_TRUNC x)] s t ∧
      t.dev.host = { s.dev.host with flying := [] } ∧
      t.dev.get (XPT_TRUNC_COUNT x) = (s.dev.get (XPT_TRUNC_COUNT x) + 1) % 2 ^ 32 ∧ (t.dev.port x).blocks = q ∧
      nth (t.dev.port x).txq TQ_FRAME [] =
        (nth (s.dev.port x).txq TQ_FRAME []).filter (fun k => !framePkt [PT_BLOCK, PT_PRESENT] f.frame k) ++ [pre false, pre true] ∧
      Logs [(EV_XPT_TRUNC.code, 0, 0, 0)] s t) ∧
  (∀ (s : State) (f g : Flip) (rest : List Flip),
    senderOn s →
    s.dev.host.queue = g :: rest →
    s.dev.host.flying = [f] →
    f.ended = false →
    (f.closed = false ∨ ∃ x ∈ f.ports, s.dev.waitingAt f x ≠ 0) →
    exec .frameLaunch s = .next s) ∧
  (∀ (s : State) (x launch present : Nat),
    s.dev.get (LANE_STAT_STATE x) ≠ P_LS0 ∧ s.dev.get (LANE_STAT_STATE x) ≠ P_RECOVER ∨ launch < nth s.dev.twin.ls0Wall x 0 →
    s.dev.feeds x launch present = false)

/-- R182: the first FLIP-HDR of a frame from the accepted source opens it and a gap in FRAME records FRAME_MISSING; a
BLOCK of an open frame is decoded and stored once, an injection armed for the store falling on it (R470), one after
the compose deadline counts as late (R39), one of an unknown frame as orphan, one that does not decode records
LAYER_FORMAT; the first PRESENT closes the frame, and the blocks of the layers that it marks as held are discarded
(R111); a tile without an address keeps none of them (R157). R39, R28: at the compose deadline a frame in an
activation's pause fails condition 6 (R357), one whose PRESENT has not come fails condition 1; what its values
depend on is fixed there (R26, R230). R40: composition ends with the back half written and the slack noted; with no
layers, the default coefficients and no correction every lamp of class c holds 256 b + b / 16 of the background's
channel c (R214, R227, R231); at the swap point an unfinished frame fails condition 4. The model's choices: of two
conditions the first counts (the log, 87); what composition and correction depend on is latched at the deadline
(73); the slack is the time left when composition ends (88). Completion, with what the next state holds, for:
FLIP_HDR_RECEIVE, BLOCK_RECEIVE, PRESENT_RECEIVE, COMPOSE_DEADLINE, COMPOSE_COMPLETE, SWAP_POINT. -/
def Obligations.FramesAtTheTile : Prop :=
  (∀ (s : State) (k : RxPkt) (rest : List RxPkt) (c : Source),
    tileOn s →
    s.dev.rxq = k :: rest →
    pktType k.bytes = PT_FLIP_HDR →
    pktSnd k.bytes = true →
    s.dev.get XPT_ADDR_VALID = 1 →
    s.dev.tile.sources = [c] →
    c.tail = pktTail k.bytes ∧ c.epoch = pktEpoch k.bytes ∧ c.pri = pktPri k.bytes →
    s.dev.tile.accepted = some (pktTail k.bytes) →
    s.dev.get GEN_STAT_READY = 1 →
    s.dev.tile.frames = [] →
    pktCopy k.bytes = false →
    let n := pktFrame k.bytes
    let missed := match s.dev.tile.lastHdr with | some l => (n + 511 - l) % 256 | none => 0
    AnswersWith (exec .flipHdrReceive s) fun t =>
      OnlyLogging [.rxq, .tile, .crc] [.field TIME_STAT_SEL, .field TIME_STAT_PATH_OK, .word TWIN_ACC, .word TWIN_ACC_EPOCH,
        .block 0x10] s t ∧ t.dev.rxq = rest ∧
      t.dev.tile.frames = [newFrame n (pktBody k.bytes)] ∧ t.dev.tile.lastHdr = some n ∧
      t.dev.tile.front = s.dev.tile.front ∧ Logs (if missed = 0 then [] else [(EV_FRAME_MISSING.code, missed, 0, 0)]) s t) ∧
  (∀ (s : State) (k : RxPkt) (rest : List RxPkt) (f : TileFrame) (samples : List Nat),
    tileOn s →
    s.dev.rxq = k :: rest →
    pktType k.bytes = PT_BLOCK →
    pktSnd k.bytes = true →
    s.dev.get XPT_ADDR_VALID = 1 →
    s.dev.tile.accepted = some (pktTail k.bytes) →
    s.dev.tile.frames = [f] →
    f.frame = pktFrame k.bytes ∧ f.past = 0 →
    (byteAt (pktBody k.bytes) 8 % 16, leAt (pktBody k.bytes) 10 2, leAt (pktBody k.bytes) 12 2) ∉ f.seen →
    s.dev.now ≤ f.present - 1500000 →
    decodeBlock (leAt (pktBody k.bytes) 16 8) ((pktBody k.bytes).drop 24) = some samples →
    s.dev.storeUsed < 2048 →
    f.heldBit (byteAt (pktBody k.bytes) 8 % 16) = false →
    let layer := byteAt (pktBody k.bytes) 8 % 16
    let bx := leAt (pktBody k.bytes) 10 2
    let by_ := leAt (pktBody k.bytes) 12 2
    let b := { frame := f.frame, layer := layer, bx := bx, by_ := by_, samples := samples, invalid := false : StoreBlock }
    let g := { f with seen := (layer, bx, by_) :: f.seen, blocks := f.blocks ++ [b] }
    AnswersWith (exec .blockReceive s) fun t =>
      Only [.rxq, .tile, .crc, .parity, .free] [.field CMP_STORE_PEAK, .block 0x10] s t ∧ t.dev.rxq = rest ∧
      t.dev.tile.frames = [g] ∧ t.dev.tile.front = s.dev.tile.front ∧
      (if s.dev.parity.armed = some (1, 0) then t.dev.parity.armed = none ∧
          (t.dev.parity.bad.map fun e => (e.mem, e.unit, e.item)).head? = some (1, 0, .block f.frame layer bx by_)
        else t.dev.parity.armed = s.dev.parity.armed ∧ t.dev.free = s.dev.free ∧
          t.dev.parity.bad = s.dev.parity.bad.filter fun e => !(e.mem == 1 && e.unit == 0 && e.item == .block f.frame layer bx by_))) ∧
  (∀ (s : State) (k : RxPkt) (rest : List RxPkt),
    tileOn s →
    s.dev.rxq = k :: rest →
    pktType k.bytes = PT_BLOCK →
    pktSnd k.bytes = true →
    s.dev.get XPT_ADDR_VALID = 1 →
    s.dev.tile.accepted = some (pktTail k.bytes) →
    (match s.dev.frameOf (pktFrame k.bytes) with | none => true | some f => decide (f.present - 1500000 < s.dev.now) && f.seen.isEmpty) = true →
    let f := s.dev.frameOf (pktFrame k.bytes)
    let late := f.isSome || s.dev.tile.done.contains (pktFrame k.bytes)
    AnswersWith (exec .blockReceive s) fun t =>
      Only [.rxq] [.word FAB_LATE_CNT, .word (XPT_ORPHAN k.port)] s t ∧ t.dev.rxq = rest ∧
      t.dev.get FAB_LATE_CNT_COUNT = (s.dev.get FAB_LATE_CNT_COUNT + b2n late) % 2 ^ 32 ∧
      t.dev.get (XPT_ORPHAN_COUNT k.port) = (s.dev.get (XPT_ORPHAN_COUNT k.port) + b2n (!late)) % 2 ^ 32) ∧
  (∀ (s : State) (k : RxPkt) (rest : List RxPkt) (f : TileFrame),
    tileOn s →
    s.dev.rxq = k :: rest →
    pktType k.bytes = PT_BLOCK →
    pktSnd k.bytes = true →
    s.dev.get XPT_ADDR_VALID = 1 →
    s.dev.tile.accepted = some (pktTail k.bytes) →
    s.dev.tile.frames = [f] →
    f.frame = pktFrame k.bytes ∧ f.past = 0 →
    (byteAt (pktBody k.bytes) 8 % 16, leAt (pktBody k.bytes) 10 2, leAt (pktBody k.bytes) 12 2) ∉ f.seen →
    s.dev.now ≤ f.present - 1500000 →
    decodeBlock (leAt (pktBody k.bytes) 16 8) ((pktBody k.bytes).drop 24) = none →
    let layer := byteAt (pktBody k.bytes) 8 % 16
    let bx := leAt (pktBody k.bytes) 10 2
    let by_ := leAt (pktBody k.bytes) 12 2
    let g := { f with seen := (layer, bx, by_) :: f.seen, badLayers := layer :: f.badLayers.filter fun n => n != layer }
    AnswersWith (exec .blockReceive s) fun t =>
      OnlyLogging [.rxq, .tile, .crc] [.block 0x10] s t ∧ t.dev.rxq = rest ∧ t.dev.tile.frames = [g] ∧
      Logs [(EV_LAYER_FORMAT.code, layer, bx + 65536 * by_, f.frame % 2 ^ 32)] s t) ∧
  (∀ (s : State) (k : RxPkt) (rest : List RxPkt) (f : TileFrame),
    tileOn s →
    s.dev.rxq = k :: rest →
    pktType k.bytes = PT_PRESENT →
    pktSnd k.bytes = true →
    s.dev.get XPT_ADDR_VALID = 1 →
    s.dev.tile.accepted = some (pktTail k.bytes) →
    s.dev.tile.frames = [f] →
    f.frame = pktFrame k.bytes ∧ f.past = 0 →
    f.close = none →
    s.dev.now ≤ f.present - 1500000 →
    let held := leAt (pktBody k.bytes) 12 2
    let kept := f.blocks.filter fun b => !natBit held b.layer
    let g := { f with close := some (held, natBit (byteAt (pktBody k.bytes) 14) 0), blocks := kept }
    AnswersWith (exec .presentReceive s) fun t => Only [.rxq, .tile, .crc] [.block 0x10] s t ∧ t.dev.rxq = rest ∧
      t.dev.tile = { s.dev.tile with frames := [g] }) ∧
  (∀ (s : State) (k : RxPkt) (rest : List RxPkt),
    tileOn s →
    s.dev.rxq = k :: rest →
    pktType k.bytes = PT_BLOCK ∨ pktType k.bytes = PT_PRESENT →
    s.dev.get XPT_ADDR_VALID = 0 →
    AnswersWith (exec (if pktType k.bytes = PT_BLOCK then .blockReceive else .presentReceive) s) fun t =>
      Only [.rxq] [] s t ∧ t.dev.rxq = rest) ∧
  (∀ (s : State) (f : TileFrame),
    tileOn s →
    s.dev.tile.frames = [f] →
    f.judged = false →
    f.fail = none →
    byteAt f.header 1 = 0 →
    f.present - 1500000 ≤ s.dev.now →
    let cond := if s.dev.inPause s.straps f.present = true then some 6 else if f.close.isNone = true then some 1 else if s.dev.get FAB_STAT_VLOW = 1 then some 2 else none
    AnswersWith (exec .composeDeadline s) fun t => Only [.tile, .free] [] s t ∧
      (t.dev.tile.frames.map fun g => (g.frame, g.present, g.judged, g.fail, g.mask, g.corCtrl, g.slot, g.foot)) =
        [(f.frame, f.present, true, cond, s.dev.maskMap, s.dev.rd COR_CTRL, s.dev.slotFor f.present,
          if s.dev.get CMP_FP_ARM_PEND = 1 ∧ s.dev.fpAt ≤ f.present then (s.dev.rd CMP_FP_NEXT0, s.dev.rd CMP_FP_NEXT1)
          else (s.dev.rd CMP_FP_CUR0, s.dev.rd CMP_FP_CUR1))] ∧
      (t.dev.tile.frames.map fun g => (g.coef, g.guardOn, g.safeObj, g.addr)) =
        [(s.dev.coefBytes (s.dev.slotFor f.present), s.dev.getb CMP_CTRL_GUARD_EN, s.dev.objectInForce NK_SAFE, s.dev.get XPT_ADDR_ADDR)] ∧
      { t.dev.tile with frames := [] } = { s.dev.tile with frames := [] }) ∧
  (∀ (s : State) (f : TileFrame) (n : Nat),
    tileOn s →
    s.dev.tile.frames = [f] →
    f.judged = true →
    f.composed = false →
    f.fail = none →
    byteAt f.header 1 = 0 →
    s.dev.enginesReady = true →
    s.dev.now < f.present - 10000 →
    f.guardOn = false →
    f.coef = none →
    f.corCtrl = 0 →
    (footprintOf f.foot.1 f.foot.2).mono = false →
    (s.dev.parity.armed = none ∧ ∀ e ∈ s.dev.parity.bad, e.mem = 3) →
    n < 49152 →
    let slack := (f.present - 10000 - s.dev.now) / 1000
    let fp := footprintOf f.foot.1 f.foot.2
    let q := fp.canvas (8 * (n / 3072) + n / 128 % 8) (n % 128)
    let bg := if fp.en = true ∧ (canvasRect f.mode).has q.1 q.2 = true then natBits (leAt f.header 16 8) (12 * (n / 1024 % 3)) 12 else 0
    AnswersWith (exec .composeComplete s) fun t =>
      OnlyLogging [.tile, .frameStore, .crc, .parity] [.word COR_WEIGHT, .word FAB_SLACK, .block 0x10] s t ∧
      t.dev.parity = { s.dev.parity with bad := s.dev.parity.bad.filter fun e => match e.item with | .lamp _ front => front | _ => true } ∧
      (t.dev.tile.frames.map fun g => (g.frame, g.composed, g.slackUs, g.fail)) = [(f.frame, true, slack, none)] ∧
      t.dev.tile.front = s.dev.tile.front ∧ Cells.read (fun _ => 0) t.dev.tile.back n = 256 * bg + bg / 16 ∧
      t.dev.get FAB_SLACK_LAST = slack % 65536) ∧
  (∀ (s : State) (f : TileFrame) (rest : List TileFrame),
    tileOn s →
    s.dev.tile.frames = f :: rest →
    (∀ g ∈ rest, g.same f = false) →
    f.judged = true →
    f.composed = false →
    f.fail = none →
    f.present - 10000 ≤ s.dev.now →
    let g := { f with fail := some 4 }
    AnswersWith (exec .swapPoint s) fun t => Only [.tile] [.word FAB_SLACK] s t ∧
      t.dev.tile = { s.dev.tile with frames := g :: rest, worked := true, slackHist := 0 :: s.dev.tile.slackHist.take 63 } ∧
      t.dev.get FAB_SLACK_LAST = 0 ∧ t.dev.get FAB_SLACK_MIN = 0)

/-- R283 to R285: a message and a HEARTBEAT are sent each millisecond; a valid message of the pair shows the peer's
epoch and presence, one of another pair records TWIN_PAIR_MISMATCH; 2.5 ms without one lose the link, three in a row
regain it. R290 to R294: a sender alone, or with EN = 0, decides for ACTIVE with an epoch above every one it knows
(R279), beside an ACTIVE peer for STANDBY; a standby that hears neither link nor heartbeats takes over, one that
misses heartbeats on one port feeds that port; an active sender whose frames every port rejects demotes itself.
R289: a standby compares each frame of the peer with the flips it accepted. R280: a tile drops a source not heard
for 3 ms. The twin port's transmitter is idle until firmware runs (R428). The model's choices: the run of valid
messages begins again at 1 after a gap of 2.5 ms (the log, 79), and a WITNESS names another source where its
ACC_TAIL differs from this sender's end (77). Completion, with what the next state holds, for: YOYO_SEND,
YOYO_RECEIVE, YOYO_LOST, YOYO_REGAINED, HEARTBEAT_SEND, HEARTBEAT_RECEIVE, PEER_HEARTBEAT_ABSENT,
PEER_HEARTBEAT_RESUMED, TWIN_INIT_DECIDED, FRAMES_REJECTED, SENDER_FLIP_HDR_RECEIVE, SOURCE_HEARD_TIMEOUT. -/
def Obligations.TwinLink : Prop :=
  (∀ (s : State),
    senderOn s →
    s.dev.boot.started = false →
    exec .yoyoSend s = .next s) ∧
  (∀ (s : State),
    senderOn s →
    s.dev.boot.started = true →
    s.dev.twin.lastSent + 247500 ≤ s.dev.time.clk.ticks →
    s.dev.twin.req ≠ 4 →
    AnswersWith (exec .yoyoSend s) fun t => Only [.twin, .out] [] s t ∧
      t.dev.out = s.dev.out ++ [.yoyo (yoyoBytes s.straps s.dev)] ∧
      t.dev.twin = { s.dev.twin with yseq := (s.dev.twin.yseq + 1) % 65536, lastSent := s.dev.time.clk.ticks, sendNow := false }) ∧
  (∀ (s : State) (m : List Byte),
    senderOn s →
    s.dev.twin.en = true →
    twinOk m 1 76 = true →
    byteAt m 10 % 16 ≠ s.dev.get XPT_CTRL_PAIR →
    let pair := byteAt m 10 % 16
    AnswersWith (exec (.yoyoReceive m) s) fun t => OnlyLogging [.twin] [] s t ∧
      t.dev.twin = { s.dev.twin with mismatchRecorded := true } ∧
      Logs (if s.dev.twin.mismatchRecorded = true then [] else
        [(EV_TWIN_PAIR_MISMATCH.code, pair, s.dev.get XPT_CTRL_PAIR, 0)]) s t) ∧
  (∀ (s : State) (m : List Byte),
    senderOn s →
    s.dev.twin.en = true →
    twinOk m 1 76 = true →
    byteAt m 10 % 16 = s.dev.get XPT_CTRL_PAIR →
    s.dev.get TWIN_STAT_STATE = W_ACTIVE →
    s.dev.get TWIN_STAT_SYNCED = 0 →
    byteAt m 3 = 0 →
    s.dev.twin.req = 0 →
    s.dev.twin.swap = none →
    AnswersWith (exec (.yoyoReceive m) s) fun t => Only [.twin] [.block 0x0B] s t ∧
      t.dev.get TWIN_PEER_EPOCH_EPOCH = leAt m 4 4 ∧ t.dev.rd TWIN_STAT = s.dev.rd TWIN_STAT ∧
      t.dev.rd TWIN_EPOCH = s.dev.rd TWIN_EPOCH ∧
      (∀ x : Port, t.dev.get (TWIN_PEER_LO_MAP x) = leAt m (40 + 8 * x) 4 ∧
        t.dev.get (TWIN_PEER_HI_MAP x) = leAt m (44 + 8 * x) 4) ∧
      t.dev.twin.peer = some m ∧ t.dev.twin.yoyoRun = (if s.dev.twin.lastYoyo + 625000 ≤ s.dev.time.clk.ticks then 1 else s.dev.twin.yoyoRun + 1) ∧ t.dev.twin.lastYoyo = s.dev.time.clk.ticks) ∧
  (∀ (s : State),
    senderOn s →
    s.dev.get TWIN_STAT_YOYO_OK = 1 →
    s.dev.twin.lastYoyo + 625000 ≤ s.dev.time.clk.ticks →
    s.dev.get TWIN_STAT_STATE = W_ACTIVE →
    s.dev.get TWIN_STAT_SYNCED = 0 →
    s.dev.twin.swap = none →
    s.dev.mbxFull 6 = false →
    AnswersWith (exec .yoyoLost s) fun t =>
      OnlyLogging [.twin, .host, .out] [.field TWIN_STAT_YOYO_OK, .field TWIN_STAT_LINK_LOST_SEEN, .field HIF_ISR_CAUSE] s t ∧
      t.dev.get TWIN_STAT_YOYO_OK = 0 ∧ t.dev.get TWIN_STAT_LINK_LOST_SEEN = 1 ∧
      t.dev.twin = { s.dev.twin with yoyoRun := 0 } ∧ Logs [(EV_TWIN_LINK_LOST.code, 0, 0, 0)] s t) ∧
  (∀ (s : State),
    senderOn s →
    s.dev.get TWIN_STAT_YOYO_OK = 0 →
    3 ≤ s.dev.twin.yoyoRun →
    s.dev.time.clk.ticks < s.dev.twin.lastYoyo + 625000 →
    s.dev.get TWIN_STAT_STATE = W_ACTIVE →
    s.dev.get TWIN_STAT_SYNCED = 0 →
    AnswersWith (exec .yoyoRegained s) fun t =>
      Only [.twin, .host, .out] [.field TWIN_STAT_YOYO_OK, .field HIF_ISR_CAUSE] s t ∧ t.dev.get TWIN_STAT_YOYO_OK = 1 ∧
      t.dev.twin = { s.dev.twin with mismatchRecorded := false }) ∧
  (∀ (s : State) (x : Port) (c : TxPkt),
    senderOn s →
    s.dev.portMode x ≠ M_LISTEN →
    (s.dev.port x).lastHbSent + 247500 ≤ s.dev.time.clk.ticks →
    (s.dev.port x).cur = some c →
    let pkt := senderPkt s.straps s.dev x PT_HEARTBEAT false false 0 0 (heartbeatBody s.straps s.dev x)
    let now := s.dev.time.clk.ticks
    AnswersWith (exec (.heartbeatSend x) s) fun t => Only [.ports] [] s t ∧
      t.dev.ports = s.dev.ports.modify x fun p => { p with lastHbSent := now, hseq := (p.hseq + 1) % 65536, txq := modAt p.txq TQ_HEARTBEAT fun l => l ++ [.bytes pkt none false] }) ∧
  (∀ (s : State) (k : RxPkt) (rest : List RxPkt),
    senderOn s →
    s.dev.rxq = k :: rest →
    pktType k.bytes = PT_HEARTBEAT →
    let now := s.dev.time.clk.ticks
    let kept := match nth s.dev.twin.lastHb k.port none with | some h => decide (now < h + 625000) | none => false
    AnswersWith (exec .heartbeatReceive s) fun t => Only [.rxq, .twin] [] s t ∧ t.dev.rxq = rest ∧
      t.dev.twin = { s.dev.twin with
        lastHb := s.dev.twin.lastHb.set k.port (some now)
        hbSince := if kept = true then s.dev.twin.hbSince else s.dev.twin.hbSince.set k.port (some now) }) ∧
  (∀ (s : State) (x : Port),
    senderOn s →
    s.dev.twin.en = true →
    s.dev.get TWIN_STAT_STATE = W_STANDBY →
    s.dev.get TWIN_STAT_YOYO_OK = 0 →
    s.dev.get TWIN_STAT_SYNCED = 0 →
    (∀ y : Port, s.dev.hbAbsent y = true ∧ s.dev.get (LANE_STAT_STATE y) = P_DOWN) →
    s.dev.epochMax < 2 ^ 32 - 1 →
    AnswersWith (exec (.peerHeartbeatAbsent x) s) fun t =>
      OnlyLogging [.twin, .host, .out, .nvm] [.block 0x0B, .field HIF_ISR_CAUSE, .field (LANE_CTRL_TXIDLE 0),
        .field (LANE_CTRL_TXIDLE 1), .field (LANE_CTRL_TXIDLE 2), .field (LANE_CTRL_TXIDLE 3)] s t ∧
      t.dev.get TWIN_STAT_STATE = W_ACTIVE ∧ t.dev.get TWIN_STAT_TAKEOVER_SEEN = 1 ∧ (∀ y : Port, t.dev.portMode y = M_FEED) ∧
      t.dev.get TWIN_EPOCH_EPOCH = s.dev.epochMax + 1 ∧
      Logs [(EV_TWIN_TAKEOVER.code, s.dev.epochMax + 1, s.dev.get TWIN_PEER_EPOCH_EPOCH, 0)] s t) ∧
  (∀ (s : State) (x : Port),
    senderOn s →
    s.dev.twin.en = true →
    s.dev.get TWIN_STAT_STATE = W_STANDBY →
    s.dev.get TWIN_STAT_YOYO_OK = 1 →
    s.dev.hbAbsent x = true →
    s.dev.portMode x = M_LISTEN →
    s.dev.get (LANE_STAT_RX_UP x) = 1 →
    s.dev.get (LANE_STAT_STATE x) = P_LISTEN →
    AnswersWith (exec (.peerHeartbeatAbsent x) s) fun t =>
      OnlyLogging [.twin, .host, .out, .ports, .time] [.word TWIN_STAT, .field HIF_ISR_CAUSE, .field (LANE_CTRL_TXIDLE x),
        .field (LANE_STAT_STATE x)] s t ∧
      t.dev.get TWIN_STAT_STATE = W_STANDBY ∧ t.dev.get TWIN_STAT_PARTIAL_SEEN = 1 ∧ t.dev.portMode x = M_FEED ∧
      t.dev.get (LANE_CTRL_TXIDLE x) = 0 ∧ t.dev.get (LANE_STAT_STATE x) = P_TXONLY ∧
      Logs [(EV_TWIN_PARTIAL.code, x, s.dev.get TWIN_EPOCH_EPOCH, 0)] s t) ∧
  (∀ (s : State) (x : Port) (h a : Nat),
    senderOn s →
    s.dev.get TWIN_STAT_STATE = W_STANDBY →
    s.dev.portMode x = M_FEED →
    nth s.dev.twin.lastHb x none = some h →
    nth s.dev.twin.hbSince x none = some a →
    s.dev.time.clk.ticks < h + 625000 →
    a + 25000000 ≤ s.dev.time.clk.ticks →
    AnswersWith (exec (.peerHeartbeatResumed x) s) fun t =>
      OnlyLogging [.twin, .host, .out, .ports] [.word TWIN_STAT, .field HIF_ISR_CAUSE, .field (LANE_CTRL_TXIDLE x),
        .field (LANE_STAT_STATE x)] s t ∧
      t.dev.portMode x = M_LISTEN ∧ (s.dev.twin.en = true → t.dev.get (LANE_CTRL_TXIDLE x) = 1) ∧
      Logs [(EV_TWIN_PARTIAL_END.code, x, s.dev.get TWIN_EPOCH_EPOCH, 0)] s t) ∧
  (∀ (s : State) (r : Nat),
    senderOn s →
    s.dev.twin.en = true →
    s.dev.boot.started = true →
    s.dev.get TWIN_STAT_STATE = W_INIT →
    s.dev.get TWIN_STAT_SYNCED = 0 →
    s.dev.twin.readyAt = some r →
    max r s.dev.twin.since + 25000000 ≤ s.dev.time.clk.ticks →
    s.dev.get TWIN_STAT_YOYO_OK = 0 →
    s.dev.twin.wits = [] →
    s.dev.epochMax < 2 ^ 32 - 1 →
    (∀ y : Port, s.dev.portMode y = M_FEED) →
    AnswersWith (exec .twinInitDecided s) fun t =>
      Only [.twin, .host, .out, .nvm] [.word TWIN_STAT, .word TWIN_EPOCH, .field HIF_ISR_CAUSE] s t ∧
      t.dev.get TWIN_STAT_STATE = W_ACTIVE ∧ t.dev.get TWIN_EPOCH_EPOCH = s.dev.epochMax + 1) ∧
  (∀ (s : State) (r : Nat) (m : List Byte),
    senderOn s →
    s.dev.twin.en = true →
    s.dev.boot.started = true →
    s.dev.get TWIN_STAT_STATE = W_INIT →
    s.dev.get TWIN_STAT_SYNCED = 0 →
    s.dev.twin.readyAt = some r →
    max r s.dev.twin.since + 25000000 ≤ s.dev.time.clk.ticks →
    s.dev.get TWIN_STAT_YOYO_OK = 1 →
    s.dev.twin.peer = some m →
    byteAt m 1 % 4 = W_ACTIVE →
    s.dev.twin.wits = [] →
    (∀ y : Port, s.dev.portMode y = M_LISTEN) →
    AnswersWith (exec .twinInitDecided s) fun t =>
      Only [.twin, .host, .out] [.word TWIN_STAT, .field HIF_ISR_CAUSE] s t ∧ t.dev.get TWIN_STAT_STATE = W_STANDBY) ∧
  (∀ (s : State),
    senderOn s →
    s.dev.twin.en = false →
    s.dev.boot.started = true →
    s.dev.get TWIN_STAT_STATE = W_INIT →
    s.dev.get TWIN_STAT_SYNCED = 0 →
    s.dev.epochMax < 2 ^ 32 - 1 →
    AnswersWith (exec .twinInitDecided s) fun t =>
      Only [.twin, .host, .out, .nvm] [.word TWIN_STAT, .word TWIN_EPOCH, .field HIF_ISR_CAUSE] s t ∧
      t.dev.get TWIN_STAT_STATE = W_ACTIVE ∧ t.dev.get TWIN_EPOCH_EPOCH = s.dev.epochMax + 1 ∧
      ∀ y : Port, t.dev.portMode y = M_FEED) ∧
  (∀ (s : State),
    senderOn s →
    s.dev.get TWIN_STAT_STATE = W_ACTIVE →
    s.dev.get TWIN_STAT_SYNCED = 0 →
    s.dev.demotes = true →
    AnswersWith (exec .framesRejected s) fun t =>
      OnlyLogging [.twin, .host, .out, .ports, .time] [.block 0x0B, .block 0x03, .field HIF_ISR_CAUSE] s t ∧
      t.dev.get TWIN_STAT_STATE = W_STANDBY ∧ t.dev.get TWIN_STAT_DEMOTE_SEEN = 1 ∧ (∀ y : Port, t.dev.portMode y = M_LISTEN) ∧
      (s.dev.twin.en = true → ∀ y : Port, s.dev.portMode y ≠ M_LISTEN → t.dev.get (LANE_CTRL_TXIDLE y) = 1) ∧
      Logs [(EV_TWIN_DEMOTE.code, s.dev.get TWIN_EPOCH_EPOCH, maxOf ((s.dev.witsIn s.dev.rejectWindow).map WitRec.epoch) 0 % 2 ^ 32, 0)] s t) ∧
  (∀ (s : State) (k : RxPkt) (rest : List RxPkt),
    senderOn s →
    s.dev.rxq = k :: rest →
    pktType k.bytes = PT_FLIP_HDR →
    s.dev.get TWIN_STAT_STATE = W_STANDBY →
    s.dev.get TWIN_STAT_YOYO_OK = 0 →
    s.dev.get TWIN_STAT_SYNCED = 0 →
    s.dev.twin.lastPeerFrame ≠ some (pktFrame k.bytes) →
    let p := hdrPresent (pktBody k.bytes)
    let ok := s.dev.twin.accepted.contains (p, leAt (pktBody k.bytes) 24 4, byteAt (pktBody k.bytes) 1)
    AnswersWith (exec .senderFlipHdrReceive s) fun t => OnlyLogging [.rxq, .twin] [.field TWIN_SYNC_MISMATCH] s t ∧
      t.dev.rxq = rest ∧
      t.dev.twin = { s.dev.twin with lastPeerFrame := some (pktFrame k.bytes), steps := (ok :: s.dev.twin.steps).take 8 } ∧
      t.dev.get TWIN_SYNC_MISMATCH = min 65535 (s.dev.get TWIN_SYNC_MISMATCH + b2n (!ok)) ∧
      Logs (if ok = true then [] else [(EV_TWIN_OUT_OF_STEP.code, p % 1000000000, p / 1000000000 % 2 ^ 32, 0)]) s t) ∧
  (∀ (s : State) (c : Source) (h : Nat),
    tileOn s →
    s.dev.tile.accepted = some c.tail →
    s.dev.tile.sources = [c] →
    c.lastTime = some h →
    h + 750000 ≤ s.dev.time.clk.ticks →
    AnswersWith (exec .sourceHeardTimeout s) fun t =>
      OnlyLogging [.tile, .clock] [.word TWIN_ACC, .word TWIN_ACC_EPOCH, .field TIME_STAT_SEL, .field TIME_STAT_PATH_OK] s t ∧
      t.dev.tile.accepted = none ∧ t.dev.get TWIN_ACC_VALID = 0 ∧ t.dev.get TIME_STAT_SEL = 3 ∧
      Logs [(EV_TWIN_SRC_CHANGE.code, c.epoch % 2 ^ 32, 0, b2n c.pri + 2 * b2n (!c.tail) + 4)] s t)

/-- R300: TWIN_SWAP answers TWIN_STATE at a sender that is no standby and TWIN_NOT_SYNCED at one out of step, BAD_PARAM
at a tile; a standby in step starts a swap at the time asked for, or at the next grid instant it can reach. R296: a
preferred standby in step for HOLD_S starts one itself. R297: at P_s − L − 50 ms every primed port must be in LS0
and surveyed, or the swap fails with TWIN_SWAP_FAIL; at P_s − L the standby, its check passed then or before,
becomes ACTIVE and the other primes its ports, which are released once their WITNESSes name the new source; at P_s
TWIN_SWAP completes with the epoch. R299: a position out of agreement for 100 ms is STALE. A swap asked for while
one pends is refused with TWIN_REFUSED: the model's choice (the log, 80). Completion, with what the next state
holds, for: TWIN_SWAP, SWAP_RECLAIM_START, SWAP_CHECK, SWAP_INSTANT, SWAP_PORT_RELEASE, TWIN_SWAP_DONE,
STALE_TIMEOUT. -/
def Obligations.TwinSwapAndPresence : Prop :=
  (∀ (s : State) (i : Nat) (desc : List Byte),
    Waits (.ring i) desc s = true →
    s.dev.firmware = true →
    dOpcode desc = 0x0400 →
    s.dev.twin.en = false ∨ s.dev.get TWIN_STAT_STATE ≠ W_STANDBY ∨ s.dev.get TWIN_STAT_SYNCED = 0 →
    let status := if s.dev.twin.en = false ∨ s.dev.get TWIN_STAT_STATE ≠ W_STANDBY then ST_TWIN_STATE else ST_TWIN_NOT_SYNCED
    AnswersWith (exec (.twinSwap (.ring i)) s) fun t => Only [.host] [] s t ∧ AnsweredOnly (.ring i) desc status 0 s t) ∧
  (∀ (s : State) (i : Nat) (desc : List Byte),
    Waits (.ring i) desc s = true →
    s.dev.firmware = true →
    dOpcode desc = 0x0400 →
    s.dev.twin.en = true →
    s.dev.get TWIN_STAT_STATE = W_STANDBY →
    s.dev.get TWIN_STAT_SYNCED = 1 →
    s.dev.twin.swap = none →
    0 < (dData desc 2 % 65536 * 2 ^ 32 + dData desc 1) * 1000000000 + dData desc 0 % 2 ^ 30 →
    s.dev.now + 200000000 + s.dev.swapLead ≤ (dData desc 2 % 65536 * 2 ^ 32 + dData desc 1) * 1000000000 + dData desc 0 % 2 ^ 30 →
    let p := (dData desc 2 % 65536 * 2 ^ 32 + dData desc 1) * 1000000000 + dData desc 0 % 2 ^ 30
    let w := { ps := p, mine := true, acked := false, checked := false, done := false, index := some i : Swap }
    AnswersWith (exec (.twinSwap (.ring i)) s) fun t => Only [.host, .twin] [.field TWIN_STAT_SWAP_PEND] s t ∧
      t.dev.host = { s.dev.host with descs := [{ fetchedCmd i desc with phase := .started }] } ∧
      t.dev.twin = { s.dev.twin with swap := some w, req := 1, sendNow := true } ∧ t.dev.get TWIN_STAT_SWAP_PEND = 1) ∧
  (∀ (s : State) (i : Nat) (desc : List Byte),
    Waits (.ring i) desc s = true →
    s.dev.firmware = true →
    dOpcode desc = 0x0400 →
    s.dev.twin.en = true →
    s.dev.get TWIN_STAT_STATE = W_STANDBY →
    s.dev.get TWIN_STAT_SYNCED = 1 →
    s.dev.twin.swap = none →
    s.dev.get RING_FLIP_MODE_CUR ≠ 0xFF →
    (dData desc 2 % 65536 * 2 ^ 32 + dData desc 1) * 1000000000 + dData desc 0 % 2 ^ 30 < s.dev.now + 200000000 + s.dev.swapLead →
    let w := { ps := gridFrom (s.dev.get RING_FLIP_MODE_CUR) (s.dev.now + 200000000 + s.dev.swapLead), mine := true, acked := false, checked := false, done := false, index := some i : Swap }
    AnswersWith (exec (.twinSwap (.ring i)) s) fun t => Only [.host, .twin] [.field TWIN_STAT_SWAP_PEND] s t ∧
      t.dev.host = { s.dev.host with descs := [{ fetchedCmd i desc with phase := .started }] } ∧
      t.dev.twin = { s.dev.twin with swap := some w, req := 1, sendNow := true } ∧ t.dev.get TWIN_STAT_SWAP_PEND = 1) ∧
  (∀ (s : State) (i : Nat) (desc : List Byte),
    Waits (.ring i) desc s = true →
    s.dev.firmware = true →
    dOpcode desc = 0x0400 →
    s.dev.twin.en = true →
    s.dev.get TWIN_STAT_STATE = W_STANDBY →
    s.dev.get TWIN_STAT_SYNCED = 1 →
    s.dev.twin.swap.isSome = true →
    AnswersWith (exec (.twinSwap (.ring i)) s) fun t => Only [.host] [] s t ∧
      AnsweredOnly (.ring i) desc ST_TWIN_REFUSED 0 s t) ∧
  (∀ (s : State) (desc : List Byte),
    Waits .remote desc s = true →
    s.dev.firmware = true →
    dOpcode desc = 0x0400 →
    AnswersWith (exec (.twinSwap .remote) s) fun t => Only [.tile, .ports] [] s t ∧
      AnsweredOnly .remote desc ST_BAD_PARAM 0 s t) ∧
  (∀ (s : State) (a : Nat),
    senderOn s →
    s.dev.twin.en = true →
    s.dev.get TWIN_STAT_STATE = W_STANDBY →
    s.dev.get TWIN_CTRL_PREFERRED = 1 →
    s.dev.get TWIN_STAT_SYNCED = 1 →
    s.dev.twin.swap = none →
    s.dev.twin.syncedSince = some a →
    max a s.dev.twin.retryAt + 250000000 * s.dev.get TWIN_CTRL_HOLD_S ≤ s.dev.time.clk.ticks →
    s.dev.get RING_FLIP_MODE_CUR ≠ 0xFF →
    let w := { ps := gridFrom (s.dev.get RING_FLIP_MODE_CUR) (s.dev.now + 1000000000), mine := true, acked := false, checked := false, done := false, index := none : Swap }
    AnswersWith (exec .swapReclaimStart s) fun t => Only [.twin] [.field TWIN_STAT_SWAP_PEND] s t ∧
      t.dev.twin = { s.dev.twin with swap := some w, req := 1, sendNow := true } ∧ t.dev.get TWIN_STAT_SWAP_PEND = 1) ∧
  (∀ (s : State) (w : Swap),
    senderOn s →
    s.dev.twin.swap = some w →
    w.mine = true ∧ w.acked = true ∧ w.checked = false ∧ w.done = false →
    w.ps ≤ s.dev.now + s.dev.swapLead + 50000000 →
    (∀ x : Port, s.dev.portMode x = M_PRIME → s.dev.get (LANE_STAT_STATE x) = P_LS0 ∧ (s.dev.survey x).complete = true) →
    let v := { w with checked := true }
    AnswersWith (exec .swapCheck s) fun t => Only [.twin] [] s t ∧ t.dev.twin = { s.dev.twin with swap := some v }) ∧
  (∀ (s : State) (w : Swap) (x : Port),
    senderOn s →
    s.dev.twin.swap = some w →
    w.mine = true ∧ w.acked = true ∧ w.checked = false ∧ w.done = false →
    w.index = none →
    w.ps ≤ s.dev.now + s.dev.swapLead + 50000000 →
    (∀ y : Port, s.dev.portMode y = M_PRIME ↔ y = x) →
    s.dev.get (LANE_STAT_STATE x) ≠ P_LS0 →
    (s.dev.survey x).complete = true →
    AnswersWith (exec .swapCheck s) fun t =>
      OnlyLogging [.twin, .host, .out, .ports] [.word TWIN_STAT, .field HIF_ISR_CAUSE, .field (LANE_CTRL_TXIDLE x),
        .field (LANE_STAT_STATE x)] s t ∧
      t.dev.twin.swap = none ∧ t.dev.get TWIN_STAT_SWAP_PEND = 0 ∧ t.dev.twin.req = 4 ∧ t.dev.portMode x = M_LISTEN ∧
      Logs [(EV_TWIN_SWAP_FAIL.code, 2 ^ x.val, 0, 0)] s t) ∧
  (∀ (s : State) (w : Swap),
    senderOn s →
    s.dev.twin.swap = some w →
    w.done = false →
    w.acked = true →
    w.mine = true →
    w.checked = true ∨ s.dev.swapFaults = (0, 0) →
    w.ps ≤ s.dev.now + s.dev.swapLead →
    s.dev.get TWIN_STAT_STATE = W_STANDBY →
    s.dev.epochMax < 2 ^ 32 - 1 →
    AnswersWith (exec .swapInstant s) fun t =>
      Only [.twin, .host, .out, .ports, .time, .nvm] [.word TWIN_STAT, .word TWIN_EPOCH, .block 0x03, .field HIF_ISR_CAUSE] s t ∧
      t.dev.get TWIN_STAT_STATE = W_ACTIVE ∧ t.dev.get TWIN_EPOCH_EPOCH = s.dev.epochMax + 1 ∧
      (∀ y : Port, t.dev.portMode y = M_FEED) ∧ t.dev.twin.swap = some { w with done := true, checked := true }) ∧
  (∀ (s : State) (w : Swap),
    senderOn s →
    s.dev.twin.swap = some w →
    w.done = false →
    w.acked = true →
    w.mine = false →
    w.checked = true ∨ s.dev.swapFaults = (0, 0) →
    w.ps ≤ s.dev.now + s.dev.swapLead →
    s.dev.get TWIN_STAT_STATE = W_ACTIVE →
    AnswersWith (exec .swapInstant s) fun t =>
      Only [.twin, .host, .out, .ports, .time] [.word TWIN_STAT, .block 0x03, .field HIF_ISR_CAUSE] s t ∧
      t.dev.get TWIN_STAT_STATE = W_STANDBY ∧ (∀ y : Port, t.dev.portMode y = M_PRIME) ∧
      t.dev.rd TWIN_EPOCH = s.dev.rd TWIN_EPOCH) ∧
  (∀ (s : State) (w : Swap),
    senderOn s →
    s.dev.twin.swap = some w →
    w.done = false →
    w.acked = true →
    w.index = none →
    w.checked = false →
    s.dev.swapFaults ≠ (0, 0) →
    w.ps ≤ s.dev.now + s.dev.swapLead →
    AnswersWith (exec .swapInstant s) fun t =>
      OnlyLogging [.twin, .host, .out, .ports, .time] [.word TWIN_STAT, .block 0x03, .field HIF_ISR_CAUSE] s t ∧
      t.dev.twin.swap = none ∧ t.dev.get TWIN_STAT_SWAP_PEND = 0 ∧
      t.dev.get TWIN_STAT_STATE = s.dev.get TWIN_STAT_STATE ∧ t.dev.rd TWIN_EPOCH = s.dev.rd TWIN_EPOCH ∧
      (∀ y : Port, s.dev.portMode y = M_PRIME → t.dev.portMode y = M_LISTEN) ∧
      Logs [(EV_TWIN_SWAP_FAIL.code, s.dev.swapFaults.1 + 16 * s.dev.swapFaults.2, 0, 0)] s t) ∧
  (∀ (s : State) (x : Port) (a : Nat),
    senderOn s →
    s.dev.get TWIN_STAT_STATE = W_STANDBY →
    s.dev.portMode x = M_PRIME →
    s.dev.twin.swap = none →
    nth s.dev.twin.namedSince x none = some a →
    a + 500000 ≤ s.dev.time.clk.ticks →
    AnswersWith (exec (.swapPortRelease x) s) fun t =>
      Only [.twin, .host, .out, .ports] [.word TWIN_STAT, .field HIF_ISR_CAUSE, .field (LANE_CTRL_TXIDLE x),
        .field (LANE_STAT_STATE x)] s t ∧
      t.dev.portMode x = M_LISTEN ∧ (s.dev.twin.en = true → t.dev.get (LANE_CTRL_TXIDLE x) = 1)) ∧
  (∀ (s : State) (w : Swap) (i : Nat) (desc : List Byte),
    senderOn s →
    s.dev.twin.swap = some w →
    w.done = true →
    w.ps ≤ s.dev.now →
    w.index = some i →
    s.dev.host.descs = [{ fetchedCmd i desc with phase := .started }] →
    dNoCpl desc = false →
    s.dev.host.out = [] →
    AnswersWith (exec .twinSwapDone s) fun t => Only [.twin, .host] [.field TWIN_STAT_SWAP_PEND] s t ∧
      t.dev.host = s.dev.host.completed { fetchedCmd i desc with phase := .started } ST_OK (s.dev.get TWIN_EPOCH_EPOCH) ∧
      t.dev.twin = { s.dev.twin with swap := none } ∧ t.dev.get TWIN_STAT_SWAP_PEND = 0) ∧
  (∀ (s : State) (x : Port) (q : Fin 64) (a : Nat),
    senderOn s →
    s.dev.staleBit x q = false →
    s.dev.invBit x q ≠ s.dev.reach x q →
    (x.val, q.val, a) ∈ s.dev.twin.stale →
    a + 25000000 ≤ s.dev.time.clk.ticks →
    AnswersWith (exec (.staleTimeout x q) s) fun t =>
      OnlyLogging [.host, .out] [.word (if q.val < 32 then TWIN_STALE_LO x else TWIN_STALE_HI x), .field HIF_ISR_CAUSE] s t ∧
      t.dev.staleBit x q = true ∧
      Logs [(EV_TWIN_RECONCILE.code, x, q, b2n (s.dev.invBit x q) + 2 * b2n (s.dev.reach x q))] s t)

/-- R316, R317, R330: CAL_RUN of an item that the role lacks, or of LANE on a port it lacks, is BAD_PARAM, while a step
runs CAL_BUSY; one whose precondition fails ends at once with CAL_PRECOND and the reason, CAL_ABORT recorded and
PRECOND_SEEN set; else the step runs, its initiator waiting. When several preconditions fail the model names the
lowest, and takes BAD_PARAM before CAL_BUSY (its choices, in the log; reason 1 for an offline SINK while the drive
is enabled, 15). CAL_ABORT ends the running step with CAL_ABORTED. CAL_REVERT commits a copy of the factory record
to the slot not in force with the next SEQ (R327), or answers CAL_NVM when there is none, or when the write fails
(the model's choice; whether it fails is free). R321: an open diagnostic slot without the pin test takes one
measurement of one cell of each sink. Completion, with what the next state holds, for: CAL_RUN_SINK, CAL_RUN_ADC,
CAL_RUN_SENS, CAL_RUN_LANE, CAL_ABORT, CAL_REVERT, CAL_SLOT_MEASURE. -/
def Obligations.CalibrationStartsAndStops : Prop :=
  (∀ (s : State) (ref : CmdRef) (desc : List Byte) (cond : CalConditions),
    Waits ref desc s = true →
    s.dev.firmware = true →
    dOpcode desc = 0x0500 →
    let item := dData desc 0 % 4
    let inService := natBit (dData desc 0) 4
    let port := dData desc 0 / 256 % 4
    let absent := (s.straps.role = .sender ∧ item < 2) ∨ (s.straps.role = .tile ∧ item = 3 ∧ 2 ≤ port)
    let p := s.dev.pstate port
    let on := s.dev.get LDRV_CTRL_DRIVE_EN = 1
    let why := (if item = 0 then
      if cond.rowActive = true ∨ (inService = false ∧ on) then 1 else if cond.columnCurrent = true then 2
      else if s.dev.vledAbsent = true then 3 else if inService = true ∧ s.dev.effGet GRY_SCAN_DIAG_EN = 0 then 4
      else if cond.driveReset = true ∨ s.dev.aon.vdrv = false then 7 else 0
      else if item = 1 then (if cond.driveReset = true ∨ s.dev.aon.vdrv = false then 7 else 0)
      else if item = 2 then
      if on ∨ (∃ t ∈ s.dev.cal.driveOnAt, s.dev.time.clk.ticks < t + 500000000) ∨ cond.notStable = true then 5 else 0
      else if p ∈ [P_LS0, P_RECOVER, P_GO, P_TXONLY, P_LISTEN] then 6 else if p ∈ [P_TRAIN, P_LS1] then 0 else 8)
    AnswersWith (exec (calRun item ref cond) s) fun t =>
      (absent → Only (answerParts ref) [] s t ∧ AnsweredOnly ref desc ST_BAD_PARAM 0 s t) ∧
      (¬ absent → s.dev.cal.step ≠ none → Only (answerParts ref) [] s t ∧ AnsweredOnly ref desc ST_CAL_BUSY 0 s t) ∧
      (¬ absent → s.dev.cal.step = none → why ≠ 0 →
        OnlyLogging (answerParts ref) [.word CAL_STAT] s t ∧ AnsweredOnly ref desc ST_CAL_PRECOND why s t ∧ stepEnded item 1 t ∧
        t.dev.get CAL_STAT_REASON = why ∧ t.dev.get CAL_STAT_PRECOND_SEEN = 1 ∧
        t.dev.get CAL_STAT_SRC = s.dev.get CAL_STAT_SRC ∧ Logs [(EV_CAL_ABORT.code, item, why, 0)] s t) ∧
      (¬ absent → s.dev.cal.step = none → why = 0 →
        Only (.cal :: answerParts ref) [.field CAL_STAT_BUSY, .field CAL_STAT_ITEM] s t ∧ Started ref desc s t ∧
        t.dev.cal.step = some { item := item, inService := inService, port := port, waiter := waiterOf ref s, slots := [], tj := [] } ∧
        t.dev.cal.driveOnAt = s.dev.cal.driveOnAt ∧ t.dev.get CAL_STAT_BUSY = 1 ∧ t.dev.get CAL_STAT_ITEM = item)) ∧
  (∀ (s : State) (ref : CmdRef) (desc : List Byte) (cond : CalConditions),
    Waits ref desc s = true →
    s.dev.firmware = true →
    dOpcode desc = 0x0500 →
    dData desc 0 % 4 = 0 →
    s.straps.role = .tile →
    s.dev.cal.step = none →
    cond.rowActive = false ∧ cond.columnCurrent = false ∧ cond.driveReset = false →
    s.dev.vledAbsent = false ∧ s.dev.aon.vdrv = true →
    if natBit (dData desc 0) 4 = true then s.dev.effGet GRY_SCAN_DIAG_EN = 1 else s.dev.get LDRV_CTRL_DRIVE_EN = 0 →
    let c := { item := 0, inService := natBit (dData desc 0) 4, port := dData desc 0 / 256 % 4, waiter := waiterOf ref s, slots := [], tj := [] : CalStep }
    AnswersWith (exec (.calRunSink ref cond) s) fun t =>
      Only (.cal :: answerParts ref) [.field CAL_STAT_BUSY, .field CAL_STAT_ITEM] s t ∧ Started ref desc s t ∧
      t.dev.cal = { s.dev.cal with step := some c } ∧ t.dev.get CAL_STAT_BUSY = 1 ∧ t.dev.get CAL_STAT_ITEM = 0) ∧
  (∀ (s : State) (ref : CmdRef) (desc : List Byte) (cond : CalConditions),
    Waits ref desc s = true →
    s.dev.firmware = true →
    dOpcode desc = 0x0500 →
    dData desc 0 % 4 = 1 →
    s.straps.role = .tile →
    s.dev.cal.step = none →
    cond.driveReset = false ∧ s.dev.aon.vdrv = true →
    let c := { item := 1, inService := natBit (dData desc 0) 4, port := dData desc 0 / 256 % 4, waiter := waiterOf ref s, slots := [], tj := [] : CalStep }
    AnswersWith (exec (.calRunAdc ref cond) s) fun t =>
      Only (.cal :: answerParts ref) [.field CAL_STAT_BUSY, .field CAL_STAT_ITEM] s t ∧ Started ref desc s t ∧
      t.dev.cal = { s.dev.cal with step := some c } ∧ t.dev.get CAL_STAT_BUSY = 1 ∧ t.dev.get CAL_STAT_ITEM = 1) ∧
  (∀ (s : State) (ref : CmdRef) (desc : List Byte) (cond : CalConditions),
    Waits ref desc s = true →
    s.dev.firmware = true →
    dOpcode desc = 0x0500 →
    dData desc 0 % 4 = 2 →
    s.dev.cal.step = none →
    s.dev.drivenLately = false ∧ cond.notStable = false →
    let c := { item := 2, inService := natBit (dData desc 0) 4, port := dData desc 0 / 256 % 4, waiter := waiterOf ref s, slots := [], tj := [] : CalStep }
    AnswersWith (exec (.calRunSens ref cond) s) fun t =>
      Only (.cal :: answerParts ref) [.field CAL_STAT_BUSY, .field CAL_STAT_ITEM] s t ∧ Started ref desc s t ∧
      t.dev.cal = { s.dev.cal with step := some c } ∧ t.dev.get CAL_STAT_BUSY = 1 ∧ t.dev.get CAL_STAT_ITEM = 2) ∧
  (∀ (s : State) (ref : CmdRef) (desc : List Byte) (cond : CalConditions),
    Waits ref desc s = true →
    s.dev.firmware = true →
    dOpcode desc = 0x0500 →
    dData desc 0 % 4 = 3 →
    s.dev.cal.step = none →
    (s.straps.role = .tile → dData desc 0 / 256 % 4 < 2) →
    s.dev.pstate (dData desc 0 / 256 % 4) = P_TRAIN ∨ s.dev.pstate (dData desc 0 / 256 % 4) = P_LS1 →
    let c := { item := 3, inService := natBit (dData desc 0) 4, port := dData desc 0 / 256 % 4, waiter := waiterOf ref s, slots := [], tj := [] : CalStep }
    AnswersWith (exec (.calRunLane ref cond) s) fun t =>
      Only (.cal :: answerParts ref) [.field CAL_STAT_BUSY, .field CAL_STAT_ITEM] s t ∧ Started ref desc s t ∧
      t.dev.cal = { s.dev.cal with step := some c } ∧ t.dev.get CAL_STAT_BUSY = 1 ∧ t.dev.get CAL_STAT_ITEM = 3) ∧
  (∀ (s : State) (ref : CmdRef) (desc : List Byte),
    Waits ref desc s = true →
    s.dev.firmware = true →
    dOpcode desc = 0x0501 →
    s.dev.cal.step = none →
    AnswersWith (exec (.calAbort ref) s) fun t => Only (answerParts ref) [] s t ∧ AnsweredOnly ref desc ST_OK 0 s t) ∧
  (∀ (s : State) (ref : CmdRef) (desc : List Byte),
    Waits ref desc s = true →
    s.dev.firmware = true →
    dOpcode desc = 0x0502 →
    s.dev.nvm.cal.length = 2 →
    AnswersWith (exec (.calRevert ref) s) fun t =>
      (s.dev.calFactory = false ∨ s.dev.writeFails.1 = true →
        Only (.free :: answerParts ref) [] s t ∧ AnsweredOnly ref desc ST_CAL_NVM 0 s t) ∧
      (s.dev.calFactory = true → s.dev.writeFails.1 = false → Only (.nvm :: .tile :: .free :: answerParts ref) [.block 0x0D] s t ∧
        Answered ref desc ST_OK (s.dev.calNextSeq) s t ∧ recordCommitted (calSeal s.dev.calNextSeq s.dev.nvm.factory) s t ∧
        (s.straps.role = .sender → ∀ n : Fin 12, natBit (leAt s.dev.nvm.factory 2 2) 2 = true →
          t.dev.get (CAL_SENS_OFS n) = leAt s.dev.nvm.factory (9472 + 2 * n) 2))) ∧
  (∀ (s : State) (cells : List Nat) (cond : CalConditions) (c : CalStep) (i : Nat),
    tileOn s →
    s.dev.cal.step = some c →
    c.item = 0 ∧ c.inService = true →
    c.slots.length < 72 * s.dev.get CAL_CTRL_RUNS →
    s.dev.tile.drive.open_ = true ∧ s.dev.tile.drive.slot = i + 1 ∧ s.dev.tile.drive.driving = true →
    s.dev.pinSlot s.dev.tile.drive.k i = false →
    cond.rowActive = false ∧ cond.columnCurrent = false ∧ cond.driveReset = false ∧ s.dev.vledAbsent = false ∧ s.dev.aon.vdrv = true →
    s.dev.effGet GRY_SCAN_DIAG_EN = 1 →
    let n := c.slots.length
    AnswersWith (exec (.calSlotMeasure cells cond) s) fun t => Only [.tile, .cal, .out] [] s t ∧
      t.dev.tile = { s.dev.tile with drive := { s.dev.tile.drive with open_ := false } } ∧
      t.dev.out = s.dev.out ++ [.calMeasure (n % 72)] ∧ t.dev.cal.driveOnAt = s.dev.cal.driveOnAt ∧
      t.dev.cal.step = some { c with
        slots := c.slots ++ [cells], tj := if (n + 1) % 72 = 0 then c.tj ++ [s.dev.tjDrvNow s.straps] else c.tj })

/-- R316: only one calibration step runs at a time. A CAL_RUN of any item that the role has, arriving while a step runs,
completes with CAL_BUSY and changes neither the step nor anything else. CAL_ABORT ends the running step: its
initiator is answered CAL_ABORTED, nothing is committed (the eMRAM is unchanged), and CAL_ABORT itself completes
with OK, at a sender and at a tile. Completion, with what the next state holds, for: CAL_ABORT. -/
def Obligations.OneStepAtATime : Prop :=
  (∀ (s : State) (ref : CmdRef) (desc : List Byte) (cond : CalConditions) (c : CalStep),
    Waits ref desc s = true →
    s.dev.firmware = true →
    dOpcode desc = 0x0500 →
    if s.straps.role = .tile then dData desc 0 % 4 ≠ 3 ∨ dData desc 0 / 256 % 4 < 2 else 2 ≤ dData desc 0 % 4 →
    s.dev.cal.step = some c →
    AnswersWith (exec (match dData desc 0 % 4 with
        | 0 => .calRunSink ref cond
        | 1 => .calRunAdc ref cond
        | 2 => .calRunSens ref cond
        | _ => .calRunLane ref cond) s) fun t =>
      Only (answerParts ref) [] s t ∧ AnsweredOnly ref desc ST_CAL_BUSY 0 s t) ∧
  (∀ (s : State) (i j : Nat) (desc run : List Byte) (c : CalStep),
    senderOn s →
    s.dev.firmware = true →
    s.dev.host.descs = [{ fetchedCmd j run with phase := .started }, fetchedCmd i desc] →
    s.dev.host.out = [] →
    dOpcode desc = 0x0501 ∧ dLocal desc = true ∧ dNoCpl desc = false ∧ dFence desc = false →
    dNoCpl run = false →
    i ≠ j →
    s.dev.cal.step = some c →
    c.waiter = some (.ring j) →
    c.item < 4 →
    let e := { fetchedCmd j run with phase := .started }
    AnswersWith (exec (.calAbort (.ring i)) s) fun t =>
      Only [.host, .cal] [.field CAL_STAT_BUSY, .field CAL_STAT_ITEM, .field CAL_STAT_RESULT] s t ∧ stepEnded c.item 4 t ∧
      t.dev.host.descs = [{ e with phase := .finished, result := some (ST_CAL_ABORTED, 0) },
        { fetchedCmd i desc with phase := .finished, result := some (ST_OK, 0) }] ∧
      t.dev.host.cpls = s.dev.host.cpls ++ [cplOf e ST_CAL_ABORTED 0, cplOf (fetchedCmd i desc) ST_OK 0]) ∧
  (∀ (s : State) (k r : RxPkt × Nat × Nat) (c : CalStep),
    tileOn s →
    s.dev.firmware = true →
    s.dev.tile.cmds = [k] →
    s.dev.tile.running = [r] →
    s.dev.tile.bulks = [] →
    k.1 ≠ r.1 →
    dOpcode (cmdDesc k.1.bytes) = 0x0501 →
    s.dev.cal.step = some c →
    c.waiter = some (.remote r.1) →
    c.item < 4 →
    canAnswer s.dev r.1.bytes = true →
    canAnswer s.dev k.1.bytes = true →
    AnswersWith (exec (.calAbort .remote) s) fun t =>
      Only [.tile, .ports, .cal] [.field CAL_STAT_BUSY, .field CAL_STAT_ITEM, .field CAL_STAT_RESULT] s t ∧ stepEnded c.item 4 t ∧
      t.dev.tile = { s.dev.tile with cmds := [], running := [] } ∧
      t.dev.ports = rspWaits { s.dev with ports := rspWaits s.dev r.1.bytes ST_CAL_ABORTED 0 0 [] } k.1.bytes ST_OK 0 0 [])

/-- R318, R319: the first attempt whose runs agree settles a step, with the medians of its runs. R322: ADC commits a
record with GAIN and OFS of each bank, or ends with CAL_RANGE. R324: SENS commits the offset of each sensor, or ends
with CAL_RANGE. R325: LANE writes the two widths and commits nothing. R320: SINK without a sink that qualifies ends
with CAL_RANGE; otherwise TCAL is the median of TJ_DRV over the runs. Runs that disagree in RETRY + 1 attempts end
with CAL_DISAGREE, a failed precondition (R317) with CAL_PRECOND, a failed commit with CAL_NVM; each leaves the
record. That LANE records CAL_DONE without a commit is the model's choice (the log, 42). R315: a tile's results act
from the frame at least 1 ms later; a sender's at once (R315 names frames only, the model's choice). The medians and
the agreement are the model's own functions; of an even number of runs the median is a free value between the two
middle ones. R320: for a sink with at least 64 live cells the selection has 64 distinct cells, all live (w ≥ 16,384)
and below 72; its 16 quarter cells are among them; the swaps never move the sum further from the target G than the
middle 64 of the ranking, nor four times the quarter cells' sum further from the sum than ranks 24 to 39; resid,
qres and out are those of the sums. Stated of the model's selection of one sink, which the SINK step applies to each
sink that qualifies. Completion, with what the next state holds, for: CAL_STEP_COMPLETE. -/
def Obligations.CalibrationEnds : Prop :=
  (∀ (s : State) (readings : CalReadings) (cond : CalConditions) (commits : Bool),
    deviceOn s →
    s.dev.cal.step = none →
    exec (.calStepComplete readings cond commits) s = .next s) ∧
  (∀ (s : State) (a : List (List (Nat × Nat))) (cond : CalConditions) (commits : Bool),
    tileOn s →
    s.dev.cal.step = some { calIdle with item := 1 } →
    cond.driveReset = false ∧ s.dev.aon.vdrv = true →
    a.length = s.dev.get CAL_CTRL_RUNS →
    s.dev.nvm.cal.length = 2 →
    adcAgree a = true →
    let lo := fun b : Nat => medianOf (adcLo a b)
    let hi := fun b : Nat => medianOf (adcHi a b)
    let gain := fun b : Nat => Int.fdiv (2 * 4500 * 2 ^ 15 + (hi b - lo b)) (2 * (hi b - lo b))
    let ofs := fun b : Nat => 500 - rnd (lo b * gain b) 15
    let ok := ∀ b : Fin 48, lo b < hi b ∧ 46560 ≤ gain b ∧ gain b ≤ 49440 ∧ (ofs b).natAbs ≤ 30
    let bytes := (List.range 48).flatMap fun b => leBytes (gain b).toNat 2 ++ leBytes (ofSigned 16 (ofs b)) 2
    AnswersWith (exec (.calStepComplete (.adc [a]) cond commits) s) fun t =>
      (¬ ok → Only [.cal] [.word CAL_STAT] s t ∧ stepEnded 1 3 t) ∧
      (ok → commits = false → Only [.cal] [.word CAL_STAT] s t ∧ stepEnded 1 5 t) ∧
      (ok → commits = true →
        OnlyLogging [.cal, .nvm, .tile] [.word CAL_STAT, .word (CAL_SLOT_SEQ 0), .word (CAL_SLOT_SEQ 1), .word CAL_Q_ADC] s t ∧
        stepEnded 1 0 t ∧ recordCommitted (calSeal s.dev.calNextSeq (s.dev.calWith 1 [(9280, bytes)])) s t ∧
        { t.dev.tile with late := s.dev.tile.late } = s.dev.tile ∧
        t.dev.tile.late = s.dev.tile.late ++ (List.range 48).map (fun b => { addr := CAL_ADC b, value := BitVec.ofNat 32 (leAt (s.dev.calWith 1 [(9280, bytes)]) (9280 + 4 * b) 4), due := s.dev.now + 1000000 }) ∧
        Logs [(EV_CAL_DONE.code, 0, 0, 0)] s t)) ∧
  (∀ (s : State) (l : List (List (List (Nat × Nat)))) (cond : CalConditions) (commits : Bool),
    tileOn s →
    s.dev.cal.step = some { calIdle with item := 1 } →
    cond.driveReset = false ∧ s.dev.aon.vdrv = true →
    l.length = s.dev.get CAL_CTRL_RETRY + 1 →
    l.all (fun a => a.length == s.dev.get CAL_CTRL_RUNS) = true →
    l.any adcAgree = false →
    AnswersWith (exec (.calStepComplete (.adc l) cond commits) s) fun t =>
      OnlyLogging [.cal] [.word CAL_STAT] s t ∧ stepEnded 1 2 t ∧ t.dev.get CAL_STAT_SRC = s.dev.get CAL_STAT_SRC ∧
      Logs [(EV_CAL_DISAGREE.code, 1, 0, 0)] s t) ∧
  (∀ (s : State) (readings : CalReadings) (cond : CalConditions) (commits : Bool),
    tileOn s →
    s.dev.cal.step = some { calIdle with item := 1 } →
    cond.driveReset = true ∨ s.dev.aon.vdrv = false →
    AnswersWith (exec (.calStepComplete readings cond commits) s) fun t =>
      OnlyLogging [.cal] [.word CAL_STAT] s t ∧ stepEnded 1 1 t ∧ t.dev.get CAL_STAT_REASON = 7 ∧
      t.dev.get CAL_STAT_PRECOND_SEEN = 1 ∧ t.dev.get CAL_STAT_SRC = s.dev.get CAL_STAT_SRC ∧
      Logs [(EV_CAL_ABORT.code, 1, 7, 0)] s t) ∧
  (∀ (s : State) (a : List (Int × Int × List Int)) (cond : CalConditions),
    senderOn s →
    s.dev.cal.step = some { calIdle with item := 2 } →
    s.dev.drivenLately = false ∧ cond.notStable = false →
    a.length = s.dev.get CAL_CTRL_RUNS →
    s.dev.nvm.cal.length = 2 →
    sensAgree s.straps a = true →
    let ofs := fun n : Nat => if n < 8 then medianOf (a.map fun r => r.1) - medianOf (a.map fun r => nth r.2.2 n 0) else 0
    let ok := ∀ n : Fin 12, (ofs n).natAbs ≤ 128
    let r := s.dev.calWith 2 [(9472, (List.range 12).flatMap fun n => leBytes (ofSigned 16 (ofs n)) 2)]
    AnswersWith (exec (.calStepComplete (.sens [a]) cond true) s) fun t =>
      (¬ ok → Only [.cal] [.word CAL_STAT] s t ∧ stepEnded 2 3 t) ∧
      (ok → OnlyLogging [.cal, .nvm] [.block 0x0D] s t ∧ stepEnded 2 0 t ∧
        recordCommitted (calSeal s.dev.calNextSeq r) s t ∧
        (∀ n : Fin 12, t.dev.rd (CAL_SENS n) = BitVec.ofNat 32 (leAt r (9472 + 2 * n) 2)) ∧
        Logs [(EV_CAL_DONE.code, 0, 0, 0)] s t)) ∧
  (∀ (s : State) (port : Port) (a : List (Nat × Nat)) (cond : CalConditions) (commits : Bool),
    deviceOn s →
    s.dev.cal.step = some { calIdle with item := 3, port := port } →
    s.dev.pstate port = P_TRAIN ∨ s.dev.pstate port = P_LS1 →
    a.length = s.dev.get CAL_CTRL_RUNS →
    within 3 (laneWidths 0 a) = true ∧ within 3 (laneWidths 1 a) = true →
    let w := fun n : Nat => (medianOf (laneWidths n a)).toNat
    AnswersWith (exec (.calStepComplete (.lane [a]) cond commits) s) fun t =>
      OnlyLogging [.cal] [.word CAL_STAT, .word (LANEN_EYEW port 0), .word (LANEN_EYEW port 1)] s t ∧ stepEnded 3 0 t ∧
      (∀ n : Fin 2, t.dev.get (LANEN_EYEW_WIDTH port n) = w n % 256 ∧ t.dev.get (LANEN_EYEW_VALID port n) = 1) ∧
      t.dev.get CAL_STAT_SRC = s.dev.get CAL_STAT_SRC ∧ Logs [(EV_CAL_DONE.code, 0, 0, 0)] s t) ∧
  (∀ (s : State) (a : List (Int × List (List Nat))) (cond : CalConditions) (commits : Bool),
    tileOn s →
    s.dev.cal.step = some { calIdle with item := 0 } →
    cond.rowActive = false ∧ cond.columnCurrent = false ∧ cond.driveReset = false ∧ s.dev.vledAbsent = false ∧ s.dev.aon.vdrv = true →
    s.dev.get LDRV_CTRL_DRIVE_EN = 0 →
    a.length = s.dev.get CAL_CTRL_RUNS →
    AnswersWith (exec (.calStepComplete (.sink [a]) cond commits) s) fun t =>
      (runsAgree a = false → 1 ≤ s.dev.get CAL_CTRL_RETRY → t = s) ∧
      (runsAgree a = true → (∀ k : Fin 384, (liveCells (sinkMedian (a.map Prod.snd) k)).length < 64) →
        Only [.cal] [.word CAL_STAT] s t ∧ stepEnded 0 3 t ∧ t.dev.get CAL_STAT_SRC = s.dev.get CAL_STAT_SRC)) ∧
  (∀ (s : State) (a : List (Int × List (List Nat))) (cond : CalConditions),
    tileOn s →
    s.dev.cal.step = some { calIdle with item := 0 } →
    cond.rowActive = false ∧ cond.columnCurrent = false ∧ cond.driveReset = false ∧ s.dev.vledAbsent = false ∧ s.dev.aon.vdrv = true →
    s.dev.get LDRV_CTRL_DRIVE_EN = 0 →
    a.length = s.dev.get CAL_CTRL_RUNS →
    s.dev.nvm.cal.length = 2 →
    AnswersWith (exec (.calStepComplete (.sink [a]) cond true) s) fun t =>
      (runsAgree a = false → 1 ≤ s.dev.get CAL_CTRL_RETRY → t = s) ∧
      (runsAgree a = true → (∃ k : Fin 384, 64 ≤ (liveCells (sinkMedian (a.map Prod.snd) k)).length) →
      OnlyLogging [.cal, .nvm, .tile, .free] [.word CAL_STAT, .word (CAL_SLOT_SEQ 0), .word (CAL_SLOT_SEQ 1), .word CAL_Q_SINK, .word CAL_Q_SINK2] s t ∧
      stepEnded 0 0 t ∧ t.dev.get CAL_STAT_SRC = s.dev.calSpare ∧ t.dev.nvm.coef = s.dev.nvm.coef ∧
      { t.dev.tile with late := s.dev.tile.late } = s.dev.tile ∧
      t.dev.tile.late.length = s.dev.tile.late.length + 7 * 384 + 2 ∧
      (∀ e ∈ t.dev.tile.late.drop s.dev.tile.late.length, e.due = s.dev.now + 1000000) ∧
      (∃ e ∈ t.dev.tile.late.drop s.dev.tile.late.length, e.addr = CAL_TCOMP ∧
        e.value.toNat % 65536 = ofSigned 16 (medianOf (a.map Prod.fst))))) ∧
  (∀ (w : Nat → Nat) (g : Nat),
    64 ≤ (liveCells w).length →
    let r := selectSink w g
    let z := sumCells w r.en
    let q := sumCells w r.qtr
    let q0 := sumCells w ((rankCells w (byIndex r.en)).drop 24 |>.take 16)
    r.en.length = 64 ∧ r.en.Nodup ∧ (∀ i ∈ r.en, i < 72 ∧ 16384 ≤ w i) ∧
      r.qtr.length = 16 ∧ r.qtr.Nodup ∧ (∀ i ∈ r.qtr, i ∈ r.en) ∧
      ((z : Int) - g).natAbs ≤ ((sumCells w (middle (liveCells w)) : Int) - g).natAbs ∧
      (4 * (q : Int) - z).natAbs ≤ (4 * (q0 : Int) - z).natAbs ∧
      r.resid = Int.fdiv (((z : Int) - g) * 100000) g ∧ r.qres = Int.fdiv ((4 * (q : Int) - z) * 100000) z ∧
      (r.out = true ↔ 200 < r.resid.natAbs ∨ 200 < r.qres.natAbs))

/-- R350: UPD_OPEN grants the lease when none stands, it has expired or the chain holds it; while the service port holds
it every UPD command answers UPDATE_BUSY; RENEW, PREPARE and ACTIVATE without a lease answer NO_LEASE (R350 names
PREPARE; for RENEW and ACTIVATE that is the model's choice, in the log); CLOSE releases it; LEASE_EXPIRE takes it
after 60 s; with the lease goes READY. R354, R355: PREPARE answers UPDATE_REFUSED, or NOT_READY with the reason, or
OK. R356: ACTIVATE with a P_a on the frame grid, 1 to 60 s ahead, of a READY device commits the armed record and
loads its microcode beside the active one, another P_a is TOO_LATE, a device not READY answers the reason (which,
when only PREPARE is missing, is free: the log); VALUE counts the device itself; ABORT before P_a − 20 ms takes the
record back, a later one leaves it. Trusted commands run without management firmware (R342). With WALL a sender
broadcasts to its feeding ports and waits for its tiles; OPEN, RENEW, CLOSE and ABORT name the staged manifest or,
with none staged, the previous one (the log, 158). The model's choices: one that the sender itself refuses completes
at once without a broadcast (54); P_a is not held to the grid without a mode (116). Completion, with what the next
state holds, for: UPD_OPEN, UPD_RENEW, UPD_CLOSE, UPD_PREPARE, UPD_ACTIVATE, UPD_ABORT, LEASE_EXPIRE. -/
def Obligations.LeaseAndCommands : Prop :=
  (∀ (s : State) (ref : CmdRef) (desc : List Byte),
    Waits ref desc s = true →
    dOpcode desc = 0x0600 →
    natBit (dData desc 0) 16 = false →
    leaseFree SRC_CHAIN s.dev →
    AnswersWith (exec (.updOpen ref) s) fun t => Only (.sec :: answerParts ref) [] s t ∧ AnsweredOnly ref desc ST_OK 0 s t ∧
      t.dev.sec = { s.dev.sec with
        lease := some (SRC_CHAIN, s.dev.time.clk.ticks, dData desc 0 % 65536)
        readyFor := if s.dev.leaseMine SRC_CHAIN = true then s.dev.sec.readyFor else none }) ∧
  (∀ (s : State) (ref : CmdRef) (desc : List Byte),
    Waits ref desc s = true →
    0x0600 ≤ dOpcode desc ∧ dOpcode desc ≤ 0x0605 →
    leaseElsewhere SRC_CHAIN s.dev →
    s.dev.sec.domino = none →
    let own := 1 + 512 * (ownAddr s.straps s.dev % 4096)
    let value := match ref with
      | .ring _ => if dOpcode desc = 0x0603 ∨ dOpcode desc = 0x0604 then own + 2 ^ 31 else 0
      | .remote => if dOpcode desc = 0x0604 then own else 0
    AnswersWith (exec (updCmd (dOpcode desc) ref) s) fun t =>
      Only (answerParts ref) [] s t ∧ AnsweredOnly ref desc ST_UPDATE_BUSY value s t) ∧
  (∀ (s : State) (ref : CmdRef) (desc : List Byte),
    Waits ref desc s = true →
    dOpcode desc = 0x0601 ∨ dOpcode desc = 0x0603 ∨ dOpcode desc = 0x0604 →
    s.dev.sec.lease = none →
    s.dev.sec.domino = none →
    let own := 1 + 512 * (ownAddr s.straps s.dev % 4096)
    let value := match ref with
      | .ring _ => if dOpcode desc = 0x0603 ∨ dOpcode desc = 0x0604 then own + 2 ^ 31 else 0
      | .remote => if dOpcode desc = 0x0604 then own else 0
    AnswersWith (exec (updCmd (dOpcode desc) ref) s) fun t =>
      Only (answerParts ref) [] s t ∧ AnsweredOnly ref desc ST_NO_LEASE value s t) ∧
  (∀ (s : State) (ref : CmdRef) (desc : List Byte),
    Waits ref desc s = true →
    dOpcode desc = 0x0601 →
    natBit (dData desc 0) 16 = false →
    chainLease s.dev →
    AnswersWith (exec (.updRenew ref) s) fun t => Only (.sec :: answerParts ref) [] s t ∧ AnsweredOnly ref desc ST_OK 0 s t ∧
      renewedNow s t) ∧
  (∀ (s : State) (ref : CmdRef) (desc : List Byte),
    Waits ref desc s = true →
    dOpcode desc = 0x0602 →
    natBit (dData desc 0) 16 = false →
    leaseFree SRC_CHAIN s.dev →
    AnswersWith (exec (.updClose ref) s) fun t => Only (.sec :: answerParts ref) [] s t ∧ AnsweredOnly ref desc ST_OK 0 s t ∧
      t.dev.sec = { s.dev.sec with lease := none, readyFor := none }) ∧
  (∀ (s : State) (ref : CmdRef) (desc : List Byte),
    Waits ref desc s = true →
    dOpcode desc = 0x0603 →
    natBit (dData desc 0) 16 = false ∨ s.straps.role = .tile →
    chainLease s.dev →
    s.dev.sec.domino = none →
    let rollback := natBit (dData desc 0) 17
    let why := s.dev.notReady s.straps rollback
    let value := match ref with
      | .ring _ => 1 + 512 * (ownAddr s.straps s.dev % 4096) + 2 ^ 31
      | .remote => why
    let lease := s.dev.sec.lease.map fun l => (l.1, s.dev.time.clk.ticks, l.2.2)
    AnswersWith (exec (.updPrepare ref) s) fun t => Only (.sec :: answerParts ref) [.field SEC_UPD_REASON] s t ∧
      (refusal s.dev ≠ 0 → AnsweredOnly ref desc ST_UPDATE_REFUSED (refusal s.dev) s t ∧
        t.dev.sec = { s.dev.sec with lease := lease, readyFor := none } ∧ t.dev.get SEC_UPD_REASON = 4) ∧
      (refusal s.dev = 0 → why ≠ 0 → AnsweredOnly ref desc ST_NOT_READY value s t ∧
        t.dev.sec = { s.dev.sec with lease := lease, readyFor := none } ∧ t.dev.get SEC_UPD_REASON = why) ∧
      (refusal s.dev = 0 → why = 0 → AnsweredOnly ref desc ST_OK 0 s t ∧
        t.dev.sec = { s.dev.sec with lease := lease, readyFor := some rollback } ∧
        t.dev.rd SEC_UPD = s.dev.rd SEC_UPD) ∧
      (rollback = false → s.dev.nvm.trusted.staged = false → why = 1) ∧
      (rollback = true → s.dev.nvm.trusted.staged = true → why = 6)) ∧
  (∀ (s : State) (ref : CmdRef) (desc : List Byte),
    Waits ref desc s = true →
    dOpcode desc = 0x0604 →
    natBit (dData desc 0) 16 = false ∨ s.straps.role = .tile →
    chainLease s.dev →
    s.dev.sec.domino = none →
    refusal s.dev = 0 →
    let pa := ((dData desc 3 % 65536) * 2 ^ 32 + dData desc 2) * 1000000000 + dData desc 1 % 2 ^ 30
    let late := ¬ onFrameGrid s pa ∨ pa < s.dev.now + 1000000000 ∨ s.dev.now + 60000000000 < pa
    let why := s.dev.notReady s.straps (decide (s.dev.sec.readyFor = some true))
    let value := match ref with
      | .ring _ => 1 + 512 * (ownAddr s.straps s.dev % 4096) + 2 ^ 31
      | .remote => 1 + 512 * (ownAddr s.straps s.dev % 4096)
    let lease := s.dev.sec.lease.map fun l => (l.1, s.dev.time.clk.ticks, l.2.2)
    AnswersWith (exec (.updActivate ref) s) fun t =>
      Only ([.sec, .nvm, .boot, .free, .parity] ++ answerParts ref) [.field SEC_UPD_REASON] s t ∧
      (s.dev.parity = { armed := none, bad := [] } → t.dev.parity = s.dev.parity) ∧
      (late → AnsweredOnly ref desc ST_TOO_LATE value s t ∧ renewedNow s t ∧ t.dev.nvm = s.dev.nvm ∧ t.dev.boot = s.dev.boot ∧
        t.dev.get SEC_UPD_REASON = s.dev.get SEC_UPD_REASON) ∧
      (¬ late → why = 0 → ∀ rb : Bool, s.dev.sec.readyFor = some rb →
        AnsweredOnly ref desc ST_OK 0 s t ∧ t.dev.sec = { s.dev.sec with lease := lease, readyFor := none } ∧
        t.dev.nvm.trusted.armed = some (pa, rb) ∧ t.dev.nvm.manifest = s.dev.nvm.manifest ∧
        t.dev.nvm.trusted.manifest = s.dev.nvm.trusted.manifest ∧ t.dev.nvm.mgmt = s.dev.nvm.mgmt ∧
        t.dev.boot = { s.dev.boot with engines := [s.dev.ucodeActive, s.dev.ucodeNamed (s.dev.slotObject 1 s.dev.otherMfst)] }) ∧
      (¬ late → why ≠ 0 ∨ s.dev.sec.readyFor = none → AnsweredOnly ref desc ST_NOT_READY value s t ∧
        t.dev.sec = { s.dev.sec with lease := lease, readyFor := none } ∧ t.dev.nvm = s.dev.nvm ∧ t.dev.boot = s.dev.boot ∧
        (if why ≠ 0 then t.dev.get SEC_UPD_REASON = why else 1 ≤ t.dev.get SEC_UPD_REASON ∧ t.dev.get SEC_UPD_REASON ≤ 6))) ∧
  (∀ (s : State) (ref : CmdRef) (desc : List Byte),
    Waits ref desc s = true →
    dOpcode desc = 0x0605 →
    natBit (dData desc 0) 16 = false ∨ s.straps.role = .tile →
    leaseFree SRC_CHAIN s.dev →
    AnswersWith (exec (.updAbort ref) s) fun t =>
      Only ([.sec, .nvm, .boot, .free, .parity] ++ answerParts ref) [] s t ∧ AnsweredOnly ref desc ST_OK 0 s t ∧
      (s.dev.parity = { armed := none, bad := [] } → t.dev.parity = s.dev.parity ∧ t.dev.free = s.dev.free) ∧
      t.dev.sec.readyFor = s.dev.sec.readyFor ∧ t.dev.nvm.manifest = s.dev.nvm.manifest ∧
      t.dev.boot = (if (∃ a ∈ s.dev.nvm.trusted.armed, s.dev.now + 20000000 < a.1) then { s.dev.boot with engines := [s.dev.ucodeActive] } else
        s.dev.boot) ∧
      t.dev.nvm.trusted.armed =
        (if (∃ a ∈ s.dev.nvm.trusted.armed, s.dev.now + 20000000 < a.1) then none else s.dev.nvm.trusted.armed)) ∧
  (∀ (s : State),
    deviceOn s →
    AnswersWith (exec .leaseExpire s) fun t => Only [.sec] [] s t ∧
      t.dev.sec = (if (∀ l ∈ s.dev.sec.lease, l.2.1 + 15000000000 ≤ s.dev.time.clk.ticks) then { s.dev.sec with lease := none, readyFor := none } else
        s.dev.sec)) ∧
  (∀ (s : State) (i : Nat) (desc : List Byte),
    Waits (.ring i) desc s = true →
    dOpcode desc = 0x0603 ∨ dOpcode desc = 0x0604 →
    natBit (dData desc 0) 16 = true →
    chainLease s.dev →
    s.dev.sec.domino = none →
    refusal s.dev = 0 →
    s.dev.sec.readyFor = none →
    s.dev.get RING_FLIP_MODE_CUR = 0xFF →
    s.dev.fedTiles ≠ [] →
    s.dev.ports.length = 4 →
    (∀ x : Port, s.dev.portMode x = M_FEED → (s.dev.port x).cur ≠ none) →
    let prepare := dOpcode desc = 0x0603
    let rollback := natBit (dData desc 0) 17
    let pa := ((dData desc 3 % 65536) * 2 ^ 32 + dData desc 2) * 1000000000 + dData desc 1 % 2 ^ 30
    (prepare ∨ (s.dev.now + 1000000000 ≤ pa ∧ pa ≤ s.dev.now + 60000000000)) →
      AnswersWith (exec (updCmd (dOpcode desc) (.ring i)) s) fun t =>
      Only [.host, .sec, .ports, .free] [.field SEC_UPD_REASON] s t ∧ Started (.ring i) desc s t ∧
      (∃ m ∈ t.dev.sec.domino, m.index = i ∧ m.activate = decide (¬ prepare) ∧ m.asked = s.dev.fedTiles ∧ m.good = [] ∧ m.bad = [] ∧
        m.self = (decide prepare && s.dev.notReady s.straps rollback == 0) ∧ m.tick = s.dev.time.clk.ticks) ∧
      ∀ x : Port, s.dev.portMode x ≠ M_FEED → t.dev.port x = s.dev.port x) ∧
  (∀ (s : State) (i : Nat) (desc : List Byte),
    Waits (.ring i) desc s = true →
    dOpcode desc = 0x0600 ∨ dOpcode desc = 0x0601 ∨ dOpcode desc = 0x0602 ∨ dOpcode desc = 0x0605 →
    natBit (dData desc 0) 16 = true →
    chainLease s.dev →
    s.dev.ports.length = 4 →
    (∀ x : Port, s.dev.portMode x = M_FEED → (s.dev.port x).cur ≠ none) →
    let op := dOpcode desc
    let session := if op = 0x0600 then dData desc 0 % 65536 else s.dev.session
    let kind := if op = 0x0600 then 0 else if op = 0x0601 then 6 else if op = 0x0602 then 5 else 4
    let mfst := if s.dev.nvm.trusted.staged = true then s.dev.mfstStaged else s.dev.slotObject 1 s.dev.otherMfst
    let body := updateBody session kind 0 0 0 0 (mfstHash mfst) []
    AnswersWith (exec (updCmd op (.ring i)) s) fun t =>
      Only [.host, .sec, .nvm, .ports, .boot, .free, .parity] [] s t ∧
      (s.dev.parity = { armed := none, bad := [] } → t.dev.parity = s.dev.parity ∧ t.dev.free = s.dev.free) ∧ AnsweredOnly (.ring i) desc ST_OK 0 s t ∧
      ∀ x : Port, t.dev.port x = if s.dev.portMode x = M_FEED then { s.dev.port x with
        txq := modAt (s.dev.port x).txq TQ_UPDATE fun l =>
          l ++ [.bytes (senderPkt s.straps s.dev x PT_UPDATE true false 0 0 body) none false] } else s.dev.port x)

/-- R353: OPEN, CLOSE, RENEW and ABORT act and are not answered; DATA is answered only when it fails; PREPARE and
ACTIVATE get one RSP; MFST that is not the manifest concerned is NOT_READY, reason 1; DATA of a length that R353
does not allow is BAD_PARAM (the model's choice, log 118). R350: the lease of the chain is granted, renewed and
released, and without it DATA, PREPARE and ACTIVATE answer NO_LEASE. R282: a packet of a source that the tile does
not accept is answered TWIN_REJECT and does nothing. R356: a READY device that is not refused commits the armed
record with the packet's P_a, which the sender has checked: the tile refuses only one that has passed, a choice of
the model (log). Completion, with what the next state holds, for: UPDATE_OPEN, UPDATE_ABORT, UPDATE_CLOSE,
UPDATE_RENEW, UPDATE_DATA, UPDATE_PREPARE, UPDATE_ACTIVATE. -/
def Obligations.UpdatePackets : Prop :=
  (∀ (s : State) (k : RxPkt) (rest : List RxPkt),
    updateFirst (cmdKind k.bytes) k rest s →
    cmdKind k.bytes ≤ 6 →
    s.dev.obeys k.bytes = false →
    AnswersWith (exec (updateOf (cmdKind k.bytes)) s) fun t => Only [.rxq, .ports] [] s t ∧ t.dev.rxq = rest ∧
      t.dev.ports = rspWaits s.dev k.bytes ST_TWIN_REJECT 0 0 []) ∧
  (∀ (s : State) (k : RxPkt) (rest : List RxPkt),
    updateFirst 0 k rest s →
    s.dev.obeys k.bytes = true →
    s.dev.namesMfst k.bytes s.dev.rollingBack = true →
    leaseFree SRC_CHAIN s.dev →
    AnswersWith (exec .updateOpen s) fun t => Only [.rxq, .sec] [] s t ∧ t.dev.rxq = rest ∧
      t.dev.sec = { s.dev.sec with
        lease := some (SRC_CHAIN, s.dev.time.clk.ticks, cmdXid k.bytes)
        readyFor := if s.dev.leaseMine SRC_CHAIN = true then s.dev.sec.readyFor else none }) ∧
  (∀ (s : State) (k : RxPkt) (rest : List RxPkt),
    updateFirst 4 k rest s →
    s.dev.obeys k.bytes = true →
    s.dev.namesMfst k.bytes s.dev.rollingBack = true →
    leaseFree SRC_CHAIN s.dev →
    AnswersWith (exec .updateAbort s) fun t => Only [.rxq, .sec, .nvm, .boot, .free, .parity] [] s t ∧ t.dev.rxq = rest ∧
      (s.dev.parity = { armed := none, bad := [] } → t.dev.parity = s.dev.parity ∧ t.dev.free = s.dev.free) ∧
      (chainLease s.dev → renewedNow s t) ∧ (¬ chainLease s.dev → t.dev.sec = s.dev.sec) ∧
      (if (∃ a ∈ s.dev.nvm.trusted.armed, s.dev.now + 20000000 < a.1)
        then t.dev.nvm.trusted.armed = none ∧ t.dev.boot = { s.dev.boot with engines := [s.dev.ucodeActive] }
        else t.dev.nvm = s.dev.nvm ∧ t.dev.boot = s.dev.boot) ∧
      t.dev.nvm.manifest = s.dev.nvm.manifest ∧ t.dev.nvm.mgmt = s.dev.nvm.mgmt) ∧
  (∀ (s : State) (k : RxPkt) (rest : List RxPkt),
    updateFirst 5 k rest s →
    s.dev.obeys k.bytes = true →
    s.dev.namesMfst k.bytes s.dev.rollingBack = true →
    leaseFree SRC_CHAIN s.dev →
    AnswersWith (exec .updateClose s) fun t => Only [.rxq, .sec] [] s t ∧ t.dev.rxq = rest ∧
      t.dev.sec = { s.dev.sec with lease := none, readyFor := none }) ∧
  (∀ (s : State) (k : RxPkt) (rest : List RxPkt),
    updateFirst 6 k rest s →
    s.dev.obeys k.bytes = true →
    s.dev.namesMfst k.bytes s.dev.rollingBack = true →
    chainLease s.dev →
    AnswersWith (exec .updateRenew s) fun t => Only [.rxq, .sec] [] s t ∧ t.dev.rxq = rest ∧
      renewedNow s t) ∧
  (∀ (s : State) (k : RxPkt) (rest : List RxPkt),
    updateFirst (cmdKind k.bytes) k rest s →
    s.dev.obeys k.bytes = true →
    cmdKind k.bytes = 0 ∨ cmdKind k.bytes = 4 ∨ cmdKind k.bytes = 5 ∨ cmdKind k.bytes = 6 →
    s.dev.namesMfst k.bytes s.dev.rollingBack = true →
    leaseElsewhere SRC_CHAIN s.dev →
    AnswersWith (exec (updateOf (cmdKind k.bytes)) s) fun t => Only [.rxq] [] s t ∧ t.dev.rxq = rest) ∧
  (∀ (s : State) (k : RxPkt) (rest : List RxPkt),
    updateFirst (cmdKind k.bytes) k rest s →
    s.dev.obeys k.bytes = true →
    cmdKind k.bytes = 1 ∨ cmdKind k.bytes = 2 ∨ cmdKind k.bytes = 3 →
    (cmdKind k.bytes = 1 → updDataOk k.bytes = true ∧ (updObject k.bytes = 1 ∨ updObject k.bytes = 2)) →
    (s.dev.namesMfst k.bytes (if cmdKind k.bytes = 1 then false else if cmdKind k.bytes = 2 then natBit (updObject k.bytes) 0 else s.dev.rollingBack) = true) →
    s.dev.sec.lease = none →
    AnswersWith (exec (updateOf (cmdKind k.bytes)) s) fun t => Only [.rxq, .ports] [] s t ∧ t.dev.rxq = rest ∧
      t.dev.ports = rspWaits s.dev k.bytes ST_NO_LEASE 0 0 []) ∧
  (∀ (s : State) (k : RxPkt) (rest : List RxPkt),
    updateFirst 1 k rest s →
    s.dev.obeys k.bytes = true →
    chainLease s.dev →
    updDataOk k.bytes = true →
    updObject k.bytes = 3 ∨ s.dev.namesMfst k.bytes false = true →
    let off := leAt k.bytes 20 4
    let d := { s.dev with rxq := rest }
    let r := d.opStage s.straps SRC_CHAIN (updObject k.bytes) 0 off (updData k.bytes)
    AnswersWith (exec .updateData s) fun t => OnlyLogging [.rxq, .sec, .nvm, .ports] [] s t ∧ t.dev.rxq = rest ∧
      t.dev.sec = r.2.sec ∧ t.dev.nvm = r.2.nvm ∧ (1 ≤ updObject k.bytes → updObject k.bytes ≤ 2 →
        t.dev.sec.lease = s.dev.sec.lease.map fun l => (l.1, s.dev.time.clk.ticks, l.2.2)) ∧
      (r.1.1 = ST_OK → t.dev.ports = s.dev.ports) ∧
      (r.1.1 ≠ ST_OK → t.dev.ports = rspWaits s.dev k.bytes r.1.1 r.1.2 0 [])) ∧
  (∀ (s : State) (k : RxPkt) (rest : List RxPkt),
    updateFirst (cmdKind k.bytes) k rest s →
    s.dev.obeys k.bytes = true →
    cmdKind k.bytes ≤ 6 →
    (cmdKind k.bytes = 1 → updDataOk k.bytes = true ∧ updObject k.bytes ≠ 3) →
    chainLease s.dev →
    (s.dev.namesMfst k.bytes (if cmdKind k.bytes = 1 then false else if cmdKind k.bytes = 2 then natBit (updObject k.bytes) 0 else s.dev.rollingBack) = false) →
    AnswersWith (exec (updateOf (cmdKind k.bytes)) s) fun t => Only [.rxq, .sec, .ports] [.field SEC_UPD_REASON] s t ∧
      t.dev.rxq = rest ∧ renewedNow s t ∧ t.dev.get SEC_UPD_REASON = 1 ∧ t.dev.ports = rspWaits s.dev k.bytes ST_NOT_READY 1 0 []) ∧
  (∀ (s : State) (k : RxPkt) (rest : List RxPkt),
    updateFirst 1 k rest s →
    s.dev.obeys k.bytes = true →
    chainLease s.dev →
    updDataOk k.bytes = false →
    AnswersWith (exec .updateData s) fun t => Only [.rxq, .sec, .ports] [] s t ∧
      t.dev.rxq = rest ∧ renewedNow s t ∧ t.dev.ports = rspWaits s.dev k.bytes ST_BAD_PARAM 0 0 []) ∧
  (∀ (s : State) (k : RxPkt) (rest : List RxPkt),
    updateFirst 2 k rest s →
    s.dev.obeys k.bytes = true →
    chainLease s.dev →
    s.dev.namesMfst k.bytes (natBit (updObject k.bytes) 0) = true →
    let rollback := natBit (updObject k.bytes) 0
    let why := s.dev.notReady s.straps rollback
    let lease := s.dev.sec.lease.map fun l => (l.1, s.dev.time.clk.ticks, l.2.2)
    AnswersWith (exec .updatePrepare s) fun t => Only [.rxq, .sec, .ports] [.field SEC_UPD_REASON] s t ∧ t.dev.rxq = rest ∧
      t.dev.sec = { s.dev.sec with
        lease := lease, readyFor := if refusal s.dev = 0 ∧ why = 0 then some rollback else none } ∧
      t.dev.ports = (if refusal s.dev ≠ 0 then rspWaits s.dev k.bytes ST_UPDATE_REFUSED (refusal s.dev) 0 [] else
        if why ≠ 0 then rspWaits s.dev k.bytes ST_NOT_READY why 0 [] else rspWaits s.dev k.bytes ST_OK 0 0 []) ∧
      t.dev.get SEC_UPD_REASON = (if refusal s.dev ≠ 0 then 4 else if why ≠ 0 then why else s.dev.get SEC_UPD_REASON)) ∧
  (∀ (s : State) (k : RxPkt) (rest : List RxPkt) (rb : Bool),
    updateFirst 3 k rest s →
    s.dev.obeys k.bytes = true →
    chainLease s.dev →
    s.dev.sec.readyFor = some rb →
    refusal s.dev = 0 →
    s.dev.namesMfst k.bytes s.dev.rollingBack = true →
    s.dev.notReady s.straps rb = 0 →
    s.dev.now < leAt k.bytes 28 8 % 2 ^ 48 * 1000000000 + leAt k.bytes 24 4 % 2 ^ 30 →
    let pa := leAt k.bytes 28 8 % 2 ^ 48 * 1000000000 + leAt k.bytes 24 4 % 2 ^ 30
    let lease := s.dev.sec.lease.map fun l => (l.1, s.dev.time.clk.ticks, l.2.2)
    AnswersWith (exec .updateActivate s) fun t =>
      Only [.rxq, .sec, .nvm, .ports, .boot, .free, .parity] [] s t ∧ t.dev.rxq = rest ∧
      (s.dev.parity = { armed := none, bad := [] } → t.dev.parity = s.dev.parity ∧ t.dev.free = s.dev.free) ∧
      t.dev.nvm.trusted.armed = some (pa, rb) ∧ t.dev.nvm.manifest = s.dev.nvm.manifest ∧
      t.dev.nvm.trusted.manifest = s.dev.nvm.trusted.manifest ∧
      t.dev.boot = { s.dev.boot with engines := [s.dev.ucodeActive, s.dev.ucodeNamed (s.dev.slotObject 1 s.dev.otherMfst)] } ∧
      t.dev.sec = { s.dev.sec with lease := lease, readyFor := none } ∧ t.dev.ports = rspWaits s.dev k.bytes ST_OK 0 0 []) ∧
  (∀ (s : State) (k : RxPkt) (rest : List RxPkt),
    updateFirst 3 k rest s →
    s.dev.obeys k.bytes = true →
    chainLease s.dev →
    s.dev.namesMfst k.bytes s.dev.rollingBack = true →
    refusal s.dev ≠ 0 ∨ leAt k.bytes 28 8 % 2 ^ 48 * 1000000000 + leAt k.bytes 24 4 % 2 ^ 30 ≤ s.dev.now →
    AnswersWith (exec .updateActivate s) fun t => Only [.rxq, .sec, .ports] [.field SEC_UPD_REASON] s t ∧ t.dev.rxq = rest ∧
      renewedNow s t ∧ t.dev.get SEC_UPD_REASON = (if refusal s.dev ≠ 0 then 4 else s.dev.get SEC_UPD_REASON) ∧
      t.dev.ports = rspWaits s.dev k.bytes (if refusal s.dev ≠ 0 then ST_UPDATE_REFUSED else ST_TOO_LATE) (refusal s.dev) 0 [])

/-- R356 step 4: at P_a − 100 ms a sender whose tiles and self are all armed completes UPD_ACTIVATE with OK, another
broadcasts ABORT, disarms itself and completes with NOT_READY and how many failed, the first of them and whether it
is among them. R357: at P_a an armed device takes the manifest not in force, with its microcode; when the management
image changes the cores stop, the journal opens, the frames of the pause are held, a calibration step in progress
ends and the privileged settings return to their defaults (R337). The loader's end leaves the two images exchanged
and the cores loaded by the new image's table and running; a device in recovery stays there when they do not verify
(the model's choice, log 119). R343: an image that verifies has one ENTRY segment for each core. R356 step 7: at P_a
+ 250 ms the SVN floor takes SVN_FLOOR of the manifest in force, after a rollback too (the model's choice, log 53),
and UPD_DONE is recorded; a sender reads its positions' SEC_MFST again (log 120). Completion, with what the next
state holds, for: ACTIVATION_CHECK, ACTIVATION_SWITCH, LOADER_SWAP_DONE, UPDATE_PAUSE_END. -/
def Obligations.ActivationAndSwitch : Prop :=
  (∀ (s : State) (i : Nat) (desc : List Byte) (m : Domino),
    senderOn s →
    s.dev.host.descs = [{ fetchedCmd i desc with phase := .started }] →
    s.dev.host.out = [] →
    dNoCpl desc = false →
    s.dev.sec.domino = some m →
    m.activate = true ∧ m.index = i ∧ m.pa ≤ s.dev.now + 100000000 →
    (∀ x : Port, s.dev.portMode x = M_FEED → (s.dev.port x).cur ≠ none) →
    s.dev.ports.length = 4 →
    let e := { fetchedCmd i desc with phase := .started }
    let failed := s.dev.fedTiles.filter fun a => !m.good.contains a
    let self := m.self && s.dev.nvm.trusted.armed.isSome
    let value := wallValue (ownAddr s.straps s.dev) self failed
    AnswersWith (exec .activationCheck s) fun t =>
      Only [.host, .sec, .nvm, .ports, .boot, .free, .parity] [] s t ∧
      (s.dev.parity = { armed := none, bad := [] } → t.dev.parity = s.dev.parity ∧ t.dev.free = s.dev.free) ∧
      t.dev.sec = { s.dev.sec with domino := none } ∧
      (failed = [] → self = true → t.dev.host = s.dev.host.completed e ST_OK 0 ∧
        t.dev.nvm = s.dev.nvm ∧ t.dev.boot = s.dev.boot ∧ t.dev.ports = s.dev.ports) ∧
      (failed ≠ [] ∨ self = false →
        t.dev.host = s.dev.host.completed e ST_NOT_READY value ∧
        (s.dev.now + 20000000 < (s.dev.nvm.trusted.armed.map Prod.fst).getD 0 → t.dev.nvm.trusted.armed = none) ∧
        t.dev.nvm.manifest = s.dev.nvm.manifest)) ∧
  (∀ (s : State) (pa : Nat) (rb : Bool),
    deviceOn s →
    s.dev.nvm.trusted.armed = some (pa, rb) →
    pa ≤ s.dev.now →
    s.dev.cal.step = none →
    s.dev.get SEC_STAT_RECOVERY = 0 →
    let changed := !s.dev.mgmtSame s.straps (s.dev.slotObject 1 s.dev.otherMfst)
    let a := s.dev.nvm.trusted
    AnswersWith (exec .activationSwitch s) fun t =>
      Only [.nvm, .sec, .tile, .boot, .free, .parity] [.word SEC_PRIV] s t ∧
      (s.dev.parity = { armed := none, bad := [] } → t.dev.parity = s.dev.parity ∧ t.dev.free = s.dev.free) ∧ t.dev.nvm.manifest = s.dev.nvm.manifest ∧
      t.dev.nvm.mgmt = s.dev.nvm.mgmt ∧
      t.dev.nvm.trusted.manifest = 1 - a.manifest ∧ t.dev.nvm.trusted.armed = none ∧ t.dev.nvm.trusted.staged = false ∧
      t.dev.nvm.trusted.journal = (if changed = true then some (0, 0) else none) ∧ t.dev.nvm.trusted.switched = some (pa, changed) ∧
      t.dev.nvm.trusted.migrateDue = true ∧
      t.dev.nvm.trusted.svnFloor = a.svnFloor ∧ t.dev.nvm.trusted.slot1 = a.slot1 ∧ t.dev.nvm.trusted.onair = a.onair ∧
      t.dev.sec.readyFor = none ∧ t.dev.sec.lease = s.dev.sec.lease ∧ t.dev.sec.hashUcode = sha256 t.dev.ucodeActive ∧
      (changed = false → t.dev.boot = { s.dev.boot with engines := [t.dev.ucodeActive] } ∧ t.dev.tile = s.dev.tile ∧ t.dev.rd SEC_PRIV = s.dev.rd SEC_PRIV) ∧
      (changed = true → t.dev.boot = { s.dev.boot with mcRunning := false, engines := [t.dev.ucodeActive] } ∧ t.dev.get SEC_PRIV_DEBUG = 0 ∧
        t.dev.get SEC_PRIV_SVC_PERM = 13 ∧ t.dev.get SEC_PRIV_ENROLL = 0 ∧
        { t.dev.tile with frames := s.dev.tile.frames } = s.dev.tile ∧
        t.dev.tile.frames = s.dev.tile.frames.map fun f =>
          if pa ≤ f.present ∧ f.present < pa + 250000000 then f.failed 6 else f)) ∧
  (∀ (s : State) (pa : Nat) (rb : Bool) (c : CalStep),
    deviceOn s →
    s.dev.nvm.trusted.armed = some (pa, rb) →
    pa ≤ s.dev.now →
    s.dev.cal.step = some c →
    c.waiter = none →
    s.dev.mgmtSame s.straps (s.dev.slotObject 1 s.dev.otherMfst) = false →
    AnswersWith (exec .activationSwitch s) fun t =>
      Only [.nvm, .sec, .tile, .boot, .cal, .free, .parity] [.word SEC_PRIV, .word CAL_STAT] s t ∧
      (s.dev.parity = { armed := none, bad := [] } → t.dev.parity = s.dev.parity) ∧
      t.dev.cal = { s.dev.cal with step := none } ∧ t.dev.get CAL_STAT_BUSY = 0 ∧ t.dev.nvm.cal = s.dev.nvm.cal ∧
      t.dev.nvm.trusted.manifest = 1 - s.dev.nvm.trusted.manifest) ∧
  (∀ (s : State) (j : Nat × Nat),
    deviceOn s →
    s.dev.nvm.trusted.journal = some j →
    s.dev.mbxFull 0 = false ∧ s.dev.mbxFull 5 = false ∧ s.dev.mbxFull 7 = false →
    let runs := s.dev.get SEC_STAT_RECOVERY = 0 ∨ s.dev.swapImages.inForceOk s.straps false = true
    let next := if s.dev.nvm.trusted.armed.isSome = true then [s.dev.ucodeNamed (s.dev.slotObject 1 s.dev.otherMfst)] else []
    AnswersWith (exec .loaderSwapDone s) fun t =>
      Only [.nvm, .sec, .boot, .mbx, .free, .parity] [.word (MBX_DATA 0), .word (MBX_DATA 5), .word (MBX_DATA 7), .word MBX_STAT,
        .field SEC_STAT_RECOVERY] s t ∧
      (s.dev.parity = { armed := none, bad := [] } → t.dev.parity = s.dev.parity ∧ t.dev.free = s.dev.free) ∧
      t.dev.mgmt 0 = s.dev.mgmt 1 ∧ t.dev.mgmt 1 = s.dev.mgmt 0 ∧
      t.dev.nvm.trusted.journal = none ∧ t.dev.nvm.trusted.switched = s.dev.nvm.trusted.switched ∧
      t.dev.nvm.manifest = s.dev.nvm.manifest ∧ t.dev.rd MBX_STAT = s.dev.rd MBX_STAT ∧
      (runs → t.dev.get SEC_STAT_RECOVERY = 0 ∧ t.dev.boot = { s.dev.boot with
        mcRunning := true, restarted := true, engines := s.dev.ucodeActive :: next,
        cores := [coreLoad (s.dev.mgmt 1) 0, coreLoad (s.dev.mgmt 1) 1] }) ∧
      (¬ runs → t.dev.get SEC_STAT_RECOVERY = 1 ∧
        t.dev.boot = { s.dev.boot with mcRunning := false, restarted := true, engines := [], cores := [] })) ∧
  (∀ (d : Dev) (slot : Nat) (e : MEntry),
    d.mgmtIs slot e = true →
    sha256 ((d.mgmt slot).take e.length) = e.target ∧
      (∀ c : Fin 2, ((List.range 16).filter fun k => decide (byteAt (d.mgmt slot) (16 * k) = c) && natBit (byteAt (d.mgmt slot) (16 * k + 1)) 0).length = 1) ∧
      ∀ c : Fin 2, (coreLoad (d.mgmt slot) c).segments =
        ((List.range 16).filter fun k => decide (byteAt (d.mgmt slot) (16 * k) = c)).map fun k =>
          (leAt (d.mgmt slot) (16 * k + 4) 4, slice (d.mgmt slot) (leAt (d.mgmt slot) (16 * k + 8) 4) (leAt (d.mgmt slot) (16 * k + 12) 4))) ∧
  (∀ (s : State),
    deviceOn s →
    s.dev.nvm.trusted.journal = none →
    exec .loaderSwapDone s = .next s) ∧
  (∀ (s : State) (pa : Nat) (paused : Bool),
    deviceOn s →
    s.dev.nvm.trusted.switched = some (pa, paused) →
    AnswersWith (exec .updatePauseEnd s) fun t =>
      (s.dev.now < pa + 250000000 → t = s) ∧
      (pa + 250000000 ≤ s.dev.now → OnlyLogging [.nvm, .sec] [] s t ∧ t.dev.nvm.trusted.switched = none ∧
        t.dev.sec = { s.dev.sec with unread := if s.straps.role = .sender then s.dev.heardPositions else s.dev.sec.unread } ∧
        t.dev.nvm.trusted.svnFloor = mfstFloor s.dev.mfstInForce ∧ t.dev.nvm.trusted.manifest = s.dev.nvm.trusted.manifest ∧
        t.dev.nvm.manifest = s.dev.nvm.manifest ∧ Logs [(EV_UPD_DONE.code, 0, 0, 0)] s t))

/-- R365, R350: with UPDATE in SVC_PERM an operation of the service port acts as its UPD command does, its status in
SEC_SVC_CMD, and the lease belongs to the service port; while the chain holds it every operation ends with
UPDATE_BUSY; without UPDATE the write is answered with NACK; DATA of an enrolment needs ENROLL instead (R448). Any
other initiator that may write registers acts with the lease of the chain: the model's choice (the log, 52). R344:
each monitor call is taken from mailbox 4 and answered in mailbox 5 with a status word that the spec leaves open (a
free value, in the log); NVM_WRITE writes into the slot not in force of kinds 4 to 7 and nothing else, NVM_COMMIT
commits it with the SEQ given, NVM_READ, FACTORY_READ and MEASURE fill the window that the call word names, NVM_READ
of the trusted store does not, a read counts the words corrected (a free number) and one that meets an uncorrectable
word sets UE_SEEN (R339), TOKEN_CHECK consumes the TSEQ of a good token and only of one. The model's choices: a call
for another kind is answered without effect (50); a commit covers what has been written (121), by a record of the
model's layout (114). Completion, with what the next state holds, for: SVC_OPEN, SVC_CLOSE, SVC_ABORT, SVC_RENEW,
SVC_PREPARE, SVC_ACTIVATE, SVC_DATA, NVM_WRITE, NVM_COMMIT, NVM_READ, FACTORY_READ, TOKEN_CHECK, MEASURE. -/
def Obligations.ServicePortAndMonitor : Prop :=
  (∀ (s : State) (init : Initiator) (op : Nat),
    deviceOn s →
    op = 1 ∨ op = 2 ∨ op = 3 ∨ op = 6 ∨ op = 7 ∨ op = 8 →
    if init = .service then natBit (s.dev.get SEC_PRIV_SVC_PERM) 3 = false else mayWrite s.straps init s.dev = false →
    TurnedAway init s (exec (svcCmd op init) s)) ∧
  (∀ (s : State) (init : Initiator) (op : Nat),
    deviceOn s →
    op = 1 ∨ op = 2 ∨ op = 3 ∨ op = 6 ∨ op = 7 ∨ op = 8 →
    if init = .service then natBit (s.dev.get SEC_PRIV_SVC_PERM) 3 = true else mayWrite s.straps init s.dev = true →
    leaseElsewhere (svcSource init) s.dev →
    AnswersWith (exec (svcCmd op init) s) fun t =>
      Only [] [.field SEC_SVC_CMD_BUSY, .field SEC_SVC_CMD_STATUS] s t ∧ svcEnded ST_UPDATE_BUSY t) ∧
  (∀ (s : State) (init : Initiator),
    deviceOn s →
    if init = .service then natBit (s.dev.get SEC_PRIV_SVC_PERM) 3 = true else mayWrite s.straps init s.dev = true →
    leaseFree (svcSource init) s.dev →
    (AnswersWith (exec (.svcOpen init) s) fun t =>
        Only [.sec] [.field SEC_SVC_CMD_BUSY, .field SEC_SVC_CMD_STATUS] s t ∧ svcEnded ST_OK t ∧
        t.dev.sec = { s.dev.sec with lease := some (svcSource init, s.dev.time.clk.ticks, 0), readyFor := if s.dev.leaseMine (svcSource init) = true then s.dev.sec.readyFor else none }) ∧
      (AnswersWith (exec (.svcClose init) s) fun t =>
        Only [.sec] [.field SEC_SVC_CMD_BUSY, .field SEC_SVC_CMD_STATUS] s t ∧ svcEnded ST_OK t ∧
        t.dev.sec = { s.dev.sec with lease := none, readyFor := none }) ∧
      (AnswersWith (exec (.svcAbort init) s) fun t =>
        Only [.sec, .nvm, .boot, .free, .parity] [.field SEC_SVC_CMD_BUSY, .field SEC_SVC_CMD_STATUS] s t ∧ svcEnded ST_OK t ∧
        (s.dev.parity = { armed := none, bad := [] } → t.dev.parity = s.dev.parity ∧ t.dev.free = s.dev.free) ∧
        t.dev.nvm.trusted.armed = (if (∃ a ∈ s.dev.nvm.trusted.armed, s.dev.now + 20000000 < a.1) then none else
          s.dev.nvm.trusted.armed))) ∧
  (∀ (s : State) (init : Initiator),
    deviceOn s →
    if init = .service then natBit (s.dev.get SEC_PRIV_SVC_PERM) 3 = true else mayWrite s.straps init s.dev = true →
    if init = .service then svcLease s.dev else chainLease s.dev →
    refusal s.dev = 0 →
    let why := s.dev.notReady s.straps false
    let pa := s.dev.svcPa
    let lease := s.dev.sec.lease.map fun l => (l.1, s.dev.time.clk.ticks, l.2.2)
    (AnswersWith (exec (.svcRenew init) s) fun t =>
        Only [.sec] [.field SEC_SVC_CMD_BUSY, .field SEC_SVC_CMD_STATUS] s t ∧ svcEnded ST_OK t ∧ renewedNow s t) ∧
      (AnswersWith (exec (.svcPrepare init) s) fun t =>
        Only [.sec] [.field SEC_SVC_CMD_BUSY, .field SEC_SVC_CMD_STATUS, .field SEC_UPD_REASON] s t ∧
        svcEnded (if why = 0 then ST_OK else ST_NOT_READY) t ∧
        t.dev.sec = { s.dev.sec with lease := lease, readyFor := if why = 0 then some false else none }) ∧
      (AnswersWith (exec (.svcActivate init) s) fun t =>
        Only [.sec, .nvm, .boot, .free, .parity] [.field SEC_SVC_CMD_BUSY, .field SEC_SVC_CMD_STATUS, .field SEC_UPD_REASON] s t ∧
        (¬ onFrameGrid s pa ∨ pa < s.dev.now + 1000000000 ∨ s.dev.now + 60000000000 < pa → svcEnded ST_TOO_LATE t ∧
          t.dev.nvm = s.dev.nvm) ∧
        (onFrameGrid s pa → s.dev.now + 1000000000 ≤ pa → pa ≤ s.dev.now + 60000000000 → s.dev.sec.readyFor = some false → why = 0 →
          svcEnded ST_OK t ∧ t.dev.nvm.trusted.armed = some (pa, false)))) ∧
  (∀ (s : State) (init : Initiator) (object : Fin 16) (content : Fin 8),
    deviceOn s →
    (object : Nat) ≠ 3 ∨ (content : Nat) ≠ 2 →
    if init = .service then natBit (s.dev.get SEC_PRIV_SVC_PERM) 3 = true else mayWrite s.straps init s.dev = true →
    s.dev.sec.lease = none →
    AnswersWith (exec (.svcData init object content) s) fun t =>
      ((object : Nat) = 1 ∨ (object : Nat) = 2 ∨ ((object : Nat) = 3 ∧ (content : Nat) = 0) →
        Only [] [.field SEC_SVC_CMD_BUSY, .field SEC_SVC_CMD_STATUS] s t ∧ svcEnded ST_NO_LEASE t) ∧
      ((object : Nat) = 0 ∨ 4 ≤ (object : Nat) ∨ ((object : Nat) = 3 ∧ 3 ≤ (content : Nat)) →
        Only [] [.field SEC_SVC_CMD_BUSY, .field SEC_SVC_CMD_STATUS] s t ∧ svcEnded ST_BAD_PARAM t)) ∧
  (∀ (s : State) (init : Initiator) (content : Fin 8),
    deviceOn s →
    (content : Nat) ≤ 2 →
    if init = .service then natBit (s.dev.get SEC_PRIV_SVC_PERM) (if (content : Nat) = 2 then 2 else 3) = true else mayWrite s.straps init s.dev = true →
    ((content : Nat) = 0 → if init = .service then svcLease s.dev else chainLease s.dev) →
    leAt (s.dev.svcWindow 0 4) 0 4 = 0 →
    leAt (s.dev.svcWindow 4 4) 0 4 < 64 →
    AnswersWith (exec (.svcData init 3 content) s) fun t =>
      Only [.sec] [.field SEC_SVC_CMD_BUSY, .field SEC_SVC_CMD_STATUS] s t ∧ svcEnded ST_OK t ∧
      t.dev.sec.mfstPart = ((content : Nat), s.dev.svcWindow 32 (leAt (s.dev.svcWindow 4 4) 0 4))) ∧
  (∀ (s : State) (call : NvmCall),
    callWaits 1 s →
    4 ≤ call.kind ∧ call.kind ≤ 7 →
    call.bytes.length ≤ 4096 →
    call.offset + call.bytes.length ≤ slotSize call.kind →
    (s.dev.slots call.kind).length = 2 →
    s.dev.inactive call.kind < 2 →
    let w := nth (s.dev.slots call.kind) (s.dev.inactive call.kind) NvmSlot.empty
    AnswersWith (exec (.nvmWrite call) s) fun t =>
      Only [.nvm, .mbx, .out, .free] [.field MBX_STAT_FULL, .word (MBX_DATA 5)] s t ∧ callAnswered s t ∧
      slice (nth (t.dev.slots call.kind) (s.dev.inactive call.kind) NvmSlot.empty).bytes call.offset call.bytes.length = call.bytes ∧
      (nth (t.dev.slots call.kind) (s.dev.inactive call.kind) NvmSlot.empty).commit = w.commit ∧
      nth (t.dev.slots call.kind) (1 - s.dev.inactive call.kind) NvmSlot.empty =
        nth (s.dev.slots call.kind) (1 - s.dev.inactive call.kind) NvmSlot.empty ∧
      t.dev.nvm.manifest = s.dev.nvm.manifest ∧ t.dev.nvm.factory = s.dev.nvm.factory ∧ t.dev.nvm.ucode = s.dev.nvm.ucode ∧
      t.dev.nvm.mgmt = s.dev.nvm.mgmt) ∧
  (∀ (s : State) (kind seq : Nat),
    callWaits 2 s →
    5 ≤ kind ∧ kind ≤ 7 →
    (s.dev.slots kind).length = 2 →
    s.dev.inactive kind < 2 →
    let w := nth (s.dev.slots kind) (s.dev.inactive kind) NvmSlot.empty
    AnswersWith (exec (.nvmCommit kind seq) s) fun t =>
      Only [.nvm, .mbx, .out, .free] [.field MBX_STAT_FULL, .word (MBX_DATA 5)] s t ∧ callAnswered s t ∧
      t.dev.slots kind = setAt (s.dev.slots kind) (s.dev.inactive kind) { w with
        written := 0, commit := recordBytes kind (s.dev.inactive kind) (seq % 2 ^ 32) w.object.length (sha256 w.object), prior := w.commit }) ∧
  (∀ (s : State) (seq : Nat),
    callWaits 2 s →
    s.dev.nvm.cal.length = 2 →
    let w := nth s.dev.nvm.cal s.dev.calSpare NvmSlot.empty
    AnswersWith (exec (.nvmCommit 4 seq) s) fun t =>
      Only [.nvm, .mbx, .out, .free] [.field MBX_STAT_FULL, .word (MBX_DATA 5), .word (CAL_SLOT_SEQ 0), .word (CAL_SLOT_SEQ 1),
        .field CAL_STAT_SRC] s t ∧ callAnswered s t ∧ t.dev.get CAL_STAT_SRC = s.dev.get CAL_STAT_SRC ∧
      t.dev.nvm.cal = setAt s.dev.nvm.cal s.dev.calSpare { w with
        written := 0, commit := recordBytes 4 s.dev.calSpare (seq % 2 ^ 32) w.object.length (sha256 w.object), prior := w.commit }) ∧
  (∀ (s : State) (call : NvmCall),
    callWaits 1 s →
    call.kind < 4 ∨ 7 < call.kind →
    AnswersWith (exec (.nvmWrite call) s) fun t =>
      Only [.mbx, .out, .free] [.field MBX_STAT_FULL, .word (MBX_DATA 5)] s t ∧ callAnswered s t) ∧
  (∀ (s : State) (kind seq : Nat),
    callWaits 2 s →
    kind < 4 ∨ 7 < kind →
    AnswersWith (exec (.nvmCommit kind seq) s) fun t =>
      Only [.mbx, .out, .free] [.field MBX_STAT_FULL, .word (MBX_DATA 5)] s t ∧ callAnswered s t) ∧
  (∀ (s : State) (area : NvmArea) (offset length : Nat),
    callWaits 3 s →
    areaReadable area = true →
    let n := min length 4096
    AnswersWith (exec (.nvmRead area offset length) s) fun t =>
      Only [.mbx, .out, .free] [.field MBX_STAT_FULL, .word (MBX_DATA 5), .word NVM_STAT, .word NVM_UE_ADDR] s t ∧
      callAnswered s t ∧
      t.dev.get NVM_STAT_CE = min 65535 (s.dev.get NVM_STAT_CE + Config.freeValue s.dev.free % 65536) ∧
      (s.dev.badIn area offset n = [] → t.dev.out = s.dev.out ++
        [.window (s.dev.get (MBX_DATA_WORD 4) / 256 % 256) (slice (s.dev.areaBytes area) offset n), .mbxInterrupt 5 (some (s.dev.get MBX_CTRL_MCSEL))] ∧ t.dev.get NVM_STAT_UE_SEEN = s.dev.get NVM_STAT_UE_SEEN) ∧
      (s.dev.badIn area offset n ≠ [] → t.dev.get NVM_STAT_UE_SEEN = 1 ∧ t.dev.out = s.dev.out ++ [.mbxInterrupt 5 (some (s.dev.get MBX_CTRL_MCSEL))])) ∧
  (∀ (s : State) (area : NvmArea) (offset length : Nat),
    callWaits 3 s →
    areaReadable area = false →
    AnswersWith (exec (.nvmRead area offset length) s) fun t =>
      Only [.mbx, .out, .free] [.field MBX_STAT_FULL, .word (MBX_DATA 5)] s t ∧ callAnswered s t ∧
      t.dev.out = s.dev.out ++ [.mbxInterrupt 5 (some (s.dev.get MBX_CTRL_MCSEL))]) ∧
  (∀ (s : State) (offset : Nat),
    callWaits 4 s →
    AnswersWith (exec (.factoryRead offset) s) fun t =>
      Only [.mbx, .out, .free] [.field MBX_STAT_FULL, .word (MBX_DATA 5), .field NVM_STAT_CE] s t ∧ callAnswered s t ∧
      t.dev.out = s.dev.out ++ [.window (s.dev.get (MBX_DATA_WORD 4) / 256 % 256) ((s.dev.nvm.factory.drop offset).take 4096), .mbxInterrupt 5 (some (s.dev.get MBX_CTRL_MCSEL))]) ∧
  (∀ (s : State) (type : Nat) (token : List Byte),
    callWaits 5 s →
    AnswersWith (exec (.tokenCheck type token) s) fun t =>
      Only [.nvm, .mbx, .out, .free] [.field MBX_STAT_FULL, .word (MBX_DATA 5)] s t ∧ callAnswered s t ∧
      (s.dev.tokenOk token = true → tokType token = type → t.dev.nvm.trusted.tseq = tokSeq token) ∧
      (s.dev.tokenOk token = false ∨ tokType token ≠ type → t.dev.nvm = s.dev.nvm)) ∧
  (∀ (s : State),
    callWaits 6 s →
    AnswersWith (exec .measure s) fun t =>
      Only [.mbx, .out, .free] [.field MBX_STAT_FULL, .word (MBX_DATA 5)] s t ∧ callAnswered s t ∧
      t.dev.out = s.dev.out ++ [.window (s.dev.get (MBX_DATA_WORD 4) / 256 % 256) (s.dev.sec.hashMgmt ++ s.dev.sec.hashUcode), .mbxInterrupt 5 (some (s.dev.get MBX_CTRL_MCSEL))]) ∧
  (∀ (s : State) (call : NvmCall) (kind seq : Nat) (area : NvmArea) (offset length type : Nat) (token : List Byte),
    deviceOn s →
    s.dev.mbxFull 4 = false ∨ s.dev.mbxFull 5 = true →
    exec (.nvmWrite call) s = .next s ∧ exec (.nvmCommit kind seq) s = .next s ∧ exec (.nvmRead area offset length) s = .next s ∧
      exec (.factoryRead offset) s = .next s ∧ exec (.tokenCheck type token) s = .next s ∧ exec .measure s = .next s)

/-- For every command and state: a step of a state with that command at the front of its queue is exec of it on the
state with the queue's rest, and a step with nothing waiting leaves the state as it is. The queue is the model's
frame for a block that takes commands from outside; idling is a DESIGN CHOICE (log entry 11). -/
def Obligations.StepRunsTheCommand : Prop :=
  (∀ (s : State) (c : Instr) (rest : List Instr),
    s.pending = c :: rest →
    step s = exec c { s with pending := rest }) ∧
  (∀ (s : State),
    s.pending = [] →
    step s = .next s)

/-- R446, R398: after power-on every register but the two whose Reset value depends on the port (LANE_A_CTRL,
LANE_B_CTRL) reads the Reset value of its description, both halves of the frame store are dark, nothing is recorded,
the mailboxes are empty, and no command waits. The invariants that every step keeps hold. The straps, and the values
of registers whose Reset is "—", are the model's choice (log entries 1 and 4). -/
def Obligations.ResetState : Prop :=
  (∀ (a : Nat),
    a ≠ LANE_CTRL 0 →
    a ≠ LANE_CTRL 1 →
    State.reset.dev.rd a = regReset a) ∧
  (State.reset.pending = [] ∧ tileOn State.reset ∧ frameStoreDark State.reset.dev ∧
      Shaped State.reset.dev ∧ Canonical State.reset.dev ∧
      State.reset.dev.rcd.queue = [] ∧ State.reset.dev.rcd.next = 1 ∧ State.reset.dev.rcd.slots = [] ∧
      (∀ m : Fin 8, State.reset.dev.mbxFull m = false) ∧
      State.reset.dev.get CAL_CTRL_RUNS = 3 ∧ State.reset.dev.get CAL_CTRL_RETRY = 2 ∧
      State.reset.dev.get SEC_PRIV_SVC_PERM = 13 ∧ State.reset.dev.get CAL_STAT_SRC = 3)

/-- For every state, reachable or not: a step answers a next state, never a fault or a refusal; the queue of commands
loses its front and nothing else; the straps change only when POWER_ON_RESET or COLD_RESET is carried out (R397);
and when no event waits outside the recorder's queue before the step, none does after it (R370: every event enters
the queue or is counted as lost at the instant it occurs). -/
def Obligations.EveryStepAnswers : Prop :=
  (∀ (s : State),
    AnswersWith (step s) fun t =>
      t.pending = s.pending.tail ∧ (Settled s → Settled t) ∧
      ((match s.pending with
        | .powerOnReset .. :: _ => false
        | .coldReset .. :: _ => false
        | _ => true) = true → t.straps = s.straps))

/-- R1, R15: a row that belongs to a tile changes nothing in a sender, one that belongs to a sender nothing in a tile.
R398, R399, R409: those rows, the rows of either role that need a running device, and the rows of the commands of a
ring or of the chain change nothing in one that is without power, dormant or held in reset. A row that carries out a
command of a ring changes nothing in a tile, one from the chain nothing in a sender. That such a row then has no
effect, and is no error, is the model's choice (the log, 23). R448: the service port without WRITE_CFG is answered
with NACK whatever it writes, which counts. -/
def Obligations.RolesApart : Prop :=
  (∀ (s : State) (c : Instr),
    tileRow c = true →
    s.straps.role = .sender →
    natBit (s.dev.get SEC_PRIV_SVC_PERM) 1 = true →
    exec c s = .next s) ∧
  (∀ (s : State) (c : Instr),
    senderRow c = true →
    s.straps.role = .tile →
    natBit (s.dev.get SEC_PRIV_SVC_PERM) 1 = true →
    exec c s = .next s) ∧
  (∀ (s : State) (c : Instr),
    tileRow c = true ∧ s.straps.role = .sender ∨ senderRow c = true ∧ s.straps.role = .tile →
    exec c s = .next s ∨ AnswersWith (exec c s) (Nacked s)) ∧
  (∀ (s : State) (c : Instr) (ref : CmdRef),
    cmdRefOf c = some ref →
    s.straps.role = (if ref = .remote then .sender else .tile) →
    exec c s = .next s) ∧
  (∀ (s : State) (c : Instr),
    tileRow c = true ∨ senderRow c = true ∨ awakeRow c = true ∨ (cmdRefOf c).isSome = true →
    s.dev.boot.power ≠ .awake →
    exec c s = .next s)

/-- For every state, reachable or not: if the device has four ports and surveys, two PTP instances, five host indices,
eight check-value units and two eMRAM slots of each kind before a step, it has them after it. Other statements take
these lengths as premises. That State.reset has them is part of ResetState. -/
def Obligations.ShapeKept : Prop :=
  (∀ (s t : State),
    Shaped s.dev →
    step s = .next t →
    Shaped t.dev)

/-- For every state, reachable or not: if the register file, the values in force, both halves of the frame store, what
the lamp tests have found, the recorder's slots and its check words are in canonical form (addresses strictly rise,
no entry equals what an unlisted address reads as) before a step, they are after it, so that equal contents are
equal data. -/
def Obligations.StoresStayCanonical : Prop :=
  (∀ (s t : State),
    Canonical s.dev →
    step s = .next t →
    Canonical t.dev)
end

