-- ==== Sys2Proof/Laws/Cells.lean ====
section
/-! SUPPORT. The laws of a sparse store: a read after a write, and the canonical form. -/

namespace Sys2Proof.Machine

variable {α : Type}

theorem Cells.read_erase_same (dflt : Nat → α) (c : Cells α) (a : Nat) :
    Cells.read dflt (Cells.erase c a) a = dflt a := by
  induction c with
  | nil => rfl
  | cons e rest ih =>
    by_cases h : e.1 = a
    · have : Cells.erase (e :: rest) a = Cells.erase rest a := by simp [Cells.erase, h]
      rw [this, ih]
    · have : Cells.erase (e :: rest) a = e :: Cells.erase rest a := by simp [Cells.erase, h]
      rw [this]
      obtain ⟨b, v⟩ := e
      simpa [Cells.read, show b ≠ a from h] using ih

theorem Cells.read_erase_ne (dflt : Nat → α) (c : Cells α) {a b : Nat} (hb : b ≠ a) :
    Cells.read dflt (Cells.erase c a) b = Cells.read dflt c b := by
  induction c with
  | nil => rfl
  | cons e rest ih =>
    obtain ⟨x, v⟩ := e
    by_cases h : x = a
    · have : Cells.erase ((x, v) :: rest) a = Cells.erase rest a := by simp [Cells.erase, h]
      rw [this, ih]; subst h; simp [Cells.read, hb.symm]
    · have : Cells.erase ((x, v) :: rest) a = (x, v) :: Cells.erase rest a := by simp [Cells.erase, h]
      rw [this]; simp [Cells.read, ih]

theorem Cells.read_insert (dflt : Nat → α) (c : Cells α) (a b : Nat) (v : α) :
    Cells.read dflt (Cells.insert c a v) b = if b = a then v else Cells.read dflt c b := by
  induction c with
  | nil => simp [Cells.insert, Cells.read, eq_comm]
  | cons e rest ih =>
    obtain ⟨x, w⟩ := e
    simp only [Cells.insert]
    split
    · simp [Cells.read, eq_comm]
    · split
      · subst_vars; by_cases h : b = x <;> simp [Cells.read, h, eq_comm]
      · rename_i h1 h2
        by_cases h : x = b
        · subst h; simp [Cells.read, Ne.symm h2]
        · simp [Cells.read, h, ih]

/-- A read after a write: the value at the address written, and what stood before everywhere else. -/
theorem Cells.read_write [DecidableEq α] (dflt : Nat → α) (c : Cells α) (a b : Nat) (v : α) :
    Cells.read dflt (Cells.write dflt c a v) b = if b = a then v else Cells.read dflt c b := by
  unfold Cells.write
  split
  · by_cases h : b = a
    · subst h; simp_all [Cells.read_erase_same]
    · simp [h, Cells.read_erase_ne dflt c h]
  · exact Cells.read_insert dflt c a b v

@[simp] theorem Cells.read_write_same [DecidableEq α] (dflt : Nat → α) (c : Cells α) (a : Nat) (v : α) :
    Cells.read dflt (Cells.write dflt c a v) a = v := by simp [Cells.read_write]

theorem Cells.wfFrom_weaken [DecidableEq α] (dflt : Nat → α) (c : Cells α) {l m : Nat} (h : l ≤ m)
    (hc : Cells.wfFrom dflt (some m) c = true) : Cells.wfFrom dflt (some l) c = true := by
  cases c with
  | nil => rfl
  | cons e rest => obtain ⟨b, v⟩ := e; simp [Cells.wfFrom] at hc ⊢; exact ⟨⟨by omega, hc.1.2⟩, hc.2⟩

theorem Cells.wfFrom_none [DecidableEq α] (dflt : Nat → α) (c : Cells α) {l : Nat}
    (hc : Cells.wfFrom dflt (some l) c = true) : Cells.wfFrom dflt none c = true := by
  cases c with
  | nil => rfl
  | cons e rest => obtain ⟨b, v⟩ := e; simp [Cells.wfFrom] at hc ⊢; exact ⟨hc.1.2, hc.2⟩

theorem Cells.wfFrom_erase [DecidableEq α] (dflt : Nat → α) (c : Cells α) (a : Nat) (lo : Option Nat)
    (hc : Cells.wfFrom dflt lo c = true) : Cells.wfFrom dflt lo (Cells.erase c a) = true := by
  induction c generalizing lo with
  | nil => rfl
  | cons e rest ih =>
    obtain ⟨b, v⟩ := e
    by_cases h : b = a
    · have e1 : Cells.erase ((b, v) :: rest) a = Cells.erase rest a := by simp [Cells.erase, h]
      rw [e1]; apply ih
      simp only [Cells.wfFrom, Bool.and_eq_true] at hc
      cases lo with
      | none => exact Cells.wfFrom_none dflt rest hc.2
      | some l => exact Cells.wfFrom_weaken dflt rest (by have := hc.1.1; simp at this; omega) hc.2
    · have e1 : Cells.erase ((b, v) :: rest) a = (b, v) :: Cells.erase rest a := by simp [Cells.erase, h]
      rw [e1]
      simp only [Cells.wfFrom, Bool.and_eq_true] at hc ⊢
      exact ⟨hc.1, ih _ hc.2⟩

theorem Cells.wfFrom_insert [DecidableEq α] (dflt : Nat → α) (c : Cells α) (a : Nat) (v : α) (hv : v ≠ dflt a)
    (lo : Option Nat) (hlo : ∀ l ∈ lo, l < a) (hc : Cells.wfFrom dflt lo c = true) :
    Cells.wfFrom dflt lo (Cells.insert c a v) = true := by
  induction c generalizing lo with
  | nil => cases lo <;> simp_all [Cells.insert, Cells.wfFrom]
  | cons e rest ih =>
    obtain ⟨b, w⟩ := e
    simp only [Cells.wfFrom, Bool.and_eq_true] at hc
    simp only [Cells.insert]
    split
    · rename_i hab
      simp only [Cells.wfFrom, Bool.and_eq_true]
      refine ⟨⟨?_, by simpa using hv⟩, ⟨by simpa using hab, hc.1.2⟩, hc.2⟩
      cases lo with
      | none => rfl
      | some l => simpa using hlo l rfl
    · split
      · rename_i _ hab
        subst hab
        simp only [Cells.wfFrom, Bool.and_eq_true]
        exact ⟨⟨hc.1.1, by simpa using hv⟩, hc.2⟩
      · rename_i h1 h2
        simp only [Cells.wfFrom, Bool.and_eq_true]
        refine ⟨hc.1, ih _ ?_ hc.2⟩
        intro l hl
        simp at hl
        omega

/-- A write keeps the canonical form. -/
theorem Cells.wf_write [DecidableEq α] (dflt : Nat → α) (c : Cells α) (a : Nat) (v : α)
    (hc : Cells.wf dflt c = true) : Cells.wf dflt (Cells.write dflt c a v) = true := by
  unfold Cells.write
  split
  · exact Cells.wfFrom_erase dflt c a none hc
  · exact Cells.wfFrom_insert dflt c a v ‹_› none (by simp) hc

theorem Cells.wf_writeList [DecidableEq α] (dflt : Nat → α) (vs : List α) (c : Cells α) (a : Nat)
    (hc : Cells.wf dflt c = true) : Cells.wf dflt (Cells.writeList dflt c a vs) = true := by
  induction vs generalizing c a with
  | nil => exact hc
  | cons v vs ih => exact ih _ _ (Cells.wf_write dflt c a v hc)

end Sys2Proof.Machine
end

