-- ==== Sys2Proof/Laws/Regs.lean ====
section
/-! SUPPORT. The laws of the register file: what a word and a field read as after a write of another one. -/

namespace Sys2Proof.Machine

theorem getLsbD_mask (lo width k : Nat) (hk : k < 32) :
    (BitVec.ofNat 32 ((2 ^ width - 1) <<< lo)).getLsbD k = (decide (lo ≤ k) && decide (k < lo + width)) := by
  rw [BitVec.getLsbD_ofNat, Nat.testBit_shiftLeft]
  by_cases h : lo ≤ k
  · simp [hk, h, Nat.testBit_two_pow_sub_one]; omega
  · simp [h]

theorem getLsbD_shifted (lo width x k : Nat) (hk : k < 32) :
    (BitVec.ofNat 32 ((x % 2 ^ width) <<< lo)).getLsbD k =
      (decide (lo ≤ k) && decide (k < lo + width) && x.testBit (k - lo)) := by
  rw [BitVec.getLsbD_ofNat, Nat.testBit_shiftLeft, Nat.testBit_mod_two_pow]
  by_cases h : lo ≤ k
  · have e : decide (k - lo < width) = decide (k < lo + width) := by
      by_cases hc : k < lo + width
      · simp [hc]; omega
      · simp [hc]; omega
    simp [hk, h, e]
  · simp [h]

/-- One bit of a word after a field was set. -/
theorem getLsbD_withField (v : Word) (lo width x k : Nat) (hk : k < 32) :
    (withField v lo width x).getLsbD k =
      if lo ≤ k ∧ k < lo + width then x.testBit (k - lo) else v.getLsbD k := by
  unfold withField
  rw [BitVec.getLsbD_or, BitVec.getLsbD_and, BitVec.getLsbD_not, getLsbD_mask _ _ _ hk, getLsbD_shifted _ _ _ _ hk]
  by_cases h1 : lo ≤ k <;> by_cases h2 : k < lo + width <;> simp [h1, h2, hk]

theorem testBit_fieldOf (v : Word) (lo width j : Nat) :
    (fieldOf v lo width).testBit j = (decide (j < width) && v.getLsbD (lo + j)) := by
  unfold fieldOf
  rw [Nat.testBit_mod_two_pow, Nat.testBit_shiftRight]
  rfl

/-- The field that was set reads the value written, cut to its width. -/
theorem fieldOf_withField_same (v : Word) (lo width x : Nat) (h : lo + width ≤ 32) :
    fieldOf (withField v lo width x) lo width = x % 2 ^ width := by
  apply Nat.eq_of_testBit_eq
  intro j
  rw [testBit_fieldOf, Nat.testBit_mod_two_pow]
  by_cases hj : j < width
  · rw [getLsbD_withField _ _ _ _ _ (by omega)]; simp [hj]
  · simp [hj]

/-- A field that shares no bit with the one set reads as before. -/
theorem fieldOf_withField_ne (v : Word) (lo width x lo' width' : Nat)
    (h : lo + width ≤ lo' ∨ lo' + width' ≤ lo) :
    fieldOf (withField v lo width x) lo' width' = fieldOf v lo' width' := by
  apply Nat.eq_of_testBit_eq
  intro j
  rw [testBit_fieldOf, testBit_fieldOf]
  by_cases hj : j < width'
  · by_cases h32 : lo' + j < 32
    · rw [getLsbD_withField _ _ _ _ _ h32, if_neg (by omega)]
    · rw [BitVec.getLsbD_of_ge _ _ (by omega), BitVec.getLsbD_of_ge _ _ (by omega)]
  · simp [hj]

theorem Dev.rd_wr (d : Dev) (a b : Nat) (v : Word) : (d.wr a v).rd b = if b = a then v else d.rd b :=
  Cells.read_write _ _ _ _ _

@[simp] theorem Dev.rd_wr_same (d : Dev) (a : Nat) (v : Word) : (d.wr a v).rd a = v := by simp [Dev.rd_wr]

theorem Dev.rd_wr_ne (d : Dev) {a b : Nat} (v : Word) (h : b ≠ a) : (d.wr a v).rd b = d.rd b := by
  simp [Dev.rd_wr, h]

theorem Dev.rd_set_ne (d : Dev) (f : Fld) (v : Nat) {b : Nat} (h : b ≠ f.addr) : (d.set f v).rd b = d.rd b :=
  Dev.rd_wr_ne d _ h

/-- Two fields share no bit of the register file. -/
def Fld.apart (f g : Fld) : Prop := f.addr ≠ g.addr ∨ f.lo + f.width ≤ g.lo ∨ g.lo + g.width ≤ f.lo

theorem Dev.get_set_same (d : Dev) (f : Fld) (v : Nat) (h : f.lo + f.width ≤ 32) :
    (d.set f v).get f = v % 2 ^ f.width := by
  unfold Dev.get Dev.set
  rw [Dev.rd_wr_same]
  exact fieldOf_withField_same _ _ _ _ h

theorem Dev.get_set_ne (d : Dev) (f g : Fld) (v : Nat) (h : f.apart g) : (d.set f v).get g = d.get g := by
  unfold Dev.get Dev.set
  rw [Dev.rd_wr]
  by_cases e : g.addr = f.addr
  · rw [if_pos e, ← e]
    rcases h with h | h
    · exact absurd e.symm h
    · exact fieldOf_withField_ne _ _ _ _ _ _ h
  · rw [if_neg e]

theorem Dev.get_wr_ne (d : Dev) (a : Nat) (v : Word) (g : Fld) (h : g.addr ≠ a) : (d.wr a v).get g = d.get g := by
  unfold Dev.get
  rw [Dev.rd_wr_ne d v h]

theorem Dev.get_wr_same (d : Dev) (v : Word) (g : Fld) : (d.wr g.addr v).get g = fieldOf v g.lo g.width := by
  unfold Dev.get
  rw [Dev.rd_wr_same]

theorem Dev.getb_setb (d : Dev) (f : Fld) (b : Bool) (h : f.lo + f.width ≤ 32) (hw : 0 < f.width) :
    (d.setb f b).getb f = b := by
  unfold Dev.getb Dev.setb
  rw [Dev.get_set_same d f _ h]
  have : 1 % 2 ^ f.width = 1 := Nat.mod_eq_of_lt (Nat.one_lt_two_pow (by omega))
  cases b <;> simp [b2n, this]

/-- Bits of the register file that lie outside a field are kept when it is set. -/
theorem Dev.bit_set (d : Dev) (f : Fld) (v a k : Nat) (h : ¬ (Area.field f).has a k) :
    ((d.set f v).rd a).getLsbD k = (d.rd a).getLsbD k := by
  unfold Dev.set
  rw [Dev.rd_wr]
  by_cases e : a = f.addr
  · subst e
    rw [if_pos rfl]
    by_cases hk : k < 32
    · rw [getLsbD_withField _ _ _ _ _ hk, if_neg]
      intro hc
      exact h ⟨rfl, hc.1, hc.2⟩
    · rw [BitVec.getLsbD_of_ge _ _ (by omega), BitVec.getLsbD_of_ge _ _ (by omega)]
  · rw [if_neg e]

end Sys2Proof.Machine
end

