-- ==== Sys2Proof/Laws/Frame.lean ====
section
/-! SUPPORT. The laws of frames: what a chain of updates leaves alone, one lemma for each shared update. -/

namespace Sys2Proof.Machine

variable {ps qs : List Part} {as bs : List Area} {d e f : Dev}

theorem Dev.Only.refl (ps : List Part) (as : List Area) (d : Dev) : d.Only ps as d := by
  refine ⟨fun p _ => ?_, fun _ _ _ => rfl⟩
  cases p <;> simp [Part.same]

theorem Part.same_trans {p : Part} (h1 : p.same d e) (h2 : p.same e f) : p.same d f := by
  cases p <;> simp only [Part.same] at h1 h2 ⊢
  case time =>
    have h3 : { f.time with clk := d.time.clk } = { ({ f.time with clk := e.time.clk } : TimeSt) with clk := d.time.clk } := rfl
    rw [h3, h2, h1]
  case tile =>
    have h3 : { f.tile with front := d.tile.front, back := d.tile.back } =
      { ({ f.tile with front := e.tile.front, back := e.tile.back } : TileSt) with
        front := d.tile.front, back := d.tile.back } := rfl
    rw [h3, h2, h1]
  all_goals simp_all

theorem Dev.Only.trans (h1 : d.Only ps as e) (h2 : e.Only ps as f) : d.Only ps as f :=
  ⟨fun p hp => Part.same_trans (h1.1 p hp) (h2.1 p hp), fun a k h => (h2.2 a k h).trans (h1.2 a k h)⟩

theorem Dev.Only.mono (hp : ∀ p ∈ ps, p ∈ qs) (ha : ∀ x ∈ as, x ∈ bs) (h : d.Only ps as e) : d.Only qs bs e :=
  ⟨fun p hq => h.1 p fun c => hq (hp p c), fun a k hb => h.2 a k fun x hx => hb x (ha x hx)⟩

/-- An update that leaves the register file alone. -/
theorem Dev.Only.parts (hr : e.regs = d.regs) (h : ∀ p : Part, p ∉ ps → p.same d e) : d.Only ps as e :=
  ⟨h, fun a k _ => by simp [Dev.rd, hr]⟩

theorem Dev.Only.wr (a : Nat) (v : Word) (h : d.Only ps (.word a :: as) e) : d.Only ps (.word a :: as) (e.wr a v) := by
  refine h.trans ⟨fun p _ => by cases p <;> simp [Part.same, Dev.wr], fun b k hb => ?_⟩
  have : b ≠ a := hb _ (List.mem_cons_self ..)
  rw [Dev.rd_wr_ne _ _ this]

theorem Dev.Only.set (g : Fld) (v : Nat) (hg : Area.field g ∈ as ∨ Area.word g.addr ∈ as ∨ Area.all ∈ as)
    (h : d.Only ps as e) : d.Only ps as (e.set g v) := by
  refine h.trans ⟨fun p _ => by cases p <;> simp [Part.same, Dev.set, Dev.wr], fun a k ha => ?_⟩
  rcases hg with hg | hg | hg
  · exact Dev.bit_set _ _ _ _ _ (ha _ hg)
  · apply Dev.bit_set
    rintro ⟨h1, -⟩
    exact ha _ hg h1
  · exact absurd trivial (ha _ hg)

theorem Dev.Only.setb (g : Fld) (b : Bool) (hg : Area.field g ∈ as ∨ Area.word g.addr ∈ as ∨ Area.all ∈ as)
    (h : d.Only ps as e) : d.Only ps as (e.setb g b) := h.set g _ hg

theorem Dev.Only.seti (g : Fld) (v : Int) (hg : Area.field g ∈ as ∨ Area.word g.addr ∈ as ∨ Area.all ∈ as)
    (h : d.Only ps as e) : d.Only ps as (e.seti g v) := h.set g _ hg

theorem Dev.Only.add (g : Fld) (n : Nat) (hg : Area.field g ∈ as ∨ Area.word g.addr ∈ as ∨ Area.all ∈ as)
    (h : d.Only ps as e) : d.Only ps as (e.add g n) := h.set g _ hg

theorem Dev.Only.addSat (g : Fld) (n : Nat) (hg : Area.field g ∈ as ∨ Area.word g.addr ∈ as ∨ Area.all ∈ as)
    (h : d.Only ps as e) : d.Only ps as (e.addSat g n) := h.set g _ hg

theorem Dev.Only.setAll (l : List (Fld × Nat))
    (hl : ∀ x ∈ l, Area.field x.1 ∈ as ∨ Area.word x.1.addr ∈ as ∨ Area.all ∈ as)
    (h : d.Only ps as e) : d.Only ps as (e.setAll l) := by
  induction l generalizing e with
  | nil => exact h
  | cons x l ih =>
    obtain ⟨g, v⟩ := x
    exact ih (fun y hy => hl y (List.mem_cons_of_mem _ hy)) (h.set g v (hl _ (List.mem_cons_self ..)))

theorem Dev.Only.each {α : Type} (l : List α) (g : Dev → α → Dev) (hg : ∀ (c : Dev) (x : α), c.Only ps as (g c x))
    (h : d.Only ps as e) : d.Only ps as (e.each l g) := by
  unfold Dev.each
  induction l generalizing e with
  | nil => exact h
  | cons x l ih => exact ih (h.trans (hg e x))

theorem Dev.Only.emit (o : Out) (ho : Part.out ∈ ps) (h : d.Only ps as e) : d.Only ps as (e.emit o) := by
  refine h.trans (.parts rfl fun p hp => ?_)
  cases p <;> first | exact absurd ho hp | simp [Part.same, Dev.emit]

theorem Dev.Only.modPort (x : Nat) (g : PortSt → PortSt) (ho : Part.ports ∈ ps) (h : d.Only ps as e) :
    d.Only ps as (e.modPort x g) := by
  refine h.trans (.parts rfl fun p hp => ?_)
  cases p <;> first | exact absurd ho hp | simp [Part.same, Dev.modPort]

theorem Dev.Only.modLane (x n : Nat) (g : LaneSt → LaneSt) (ho : Part.ports ∈ ps) (h : d.Only ps as e) :
    d.Only ps as (e.modLane x n g) := h.modPort x _ ho

theorem Dev.Only.svcNack (ho : Part.out ∈ ps) (ha : Area.field GEN_SVC_STAT_NACKS ∈ as ∨
    Area.word GEN_SVC_STAT_NACKS.addr ∈ as ∨ Area.all ∈ as) (h : d.Only ps as e) : d.Only ps as e.svcNack :=
  (h.addSat _ 1 ha).emit _ ho

theorem Dev.Only.complete (c : Cpl) (ho : Part.host ∈ ps) (h : d.Only ps as e) : d.Only ps as (e.complete c) := by
  refine h.trans (.parts rfl fun p hp => ?_)
  cases p <;> first | exact absurd ho hp | simp [Part.same, Dev.complete]

theorem Dev.Only.note (r : EventRec) (ho : Part.queue ∈ ps) (h : d.Only ps as e) : d.Only ps as (e.note r) := by
  refine h.trans (.parts rfl fun p hp => ?_)
  cases p <;> first | exact absurd ho hp | simp [Part.same, Dev.note]

theorem Dev.Only.eventF (st : Straps) (c : EvCode) (fl p0 p1 p2 : Nat) (ho : Part.queue ∈ ps) (h : d.Only ps as e) :
    d.Only ps as (e.eventF st c fl p0 p1 p2) := h.note _ ho

theorem Dev.Only.event (st : Straps) (c : EvCode) (p0 p1 p2 : Nat) (ho : Part.queue ∈ ps) (h : d.Only ps as e) :
    d.Only ps as (e.event st c p0 p1 p2) := h.eventF st c 0 p0 p1 p2 ho

theorem Dev.Only.ite {c : Prop} [Decidable c] {x y : Dev} (hx : d.Only ps as x) (hy : d.Only ps as y) :
    d.Only ps as (if c then x else y) := by split <;> assumption

theorem Dev.Only.eventIf (st : Straps) (b : Bool) (c : EvCode) (p0 p1 p2 : Nat) (ho : Part.queue ∈ ps)
    (h : d.Only ps as e) : d.Only ps as (e.eventIf st b c p0 p1 p2) := .ite (h.event st c p0 p1 p2 ho) h

theorem Dev.Only.draw (n : Nat) (ho : Part.free ∈ ps) (h : d.Only ps as e) : d.Only ps as (e.draw n).2 := by
  refine h.trans (.parts rfl fun p hp => ?_)
  cases p <;> first | exact absurd ho hp | simp [Part.same, Dev.draw]

theorem Dev.Only.enqueue (r : EventRec) (ho : Part.queue ∈ ps) (ha : Area.field REC_LOST_CNT_COUNT ∈ as ∨
    Area.word REC_LOST_CNT_COUNT.addr ∈ as ∨ Area.all ∈ as) (h : d.Only ps as e) : d.Only ps as (e.enqueue r) := by
  unfold Dev.enqueue
  split
  · refine h.trans (.parts rfl fun p hp => ?_)
    cases p <;> first | exact absurd ho hp | simp [Part.same]
  · refine Dev.Only.add _ _ ha (h.trans (.parts rfl fun p hp => ?_))
    cases p <;> first | exact absurd ho hp | (simp only [Part.same]; split <;> simp) | simp [Part.same]

theorem Dev.Only.finish (ho : Part.queue ∈ ps) (ha : Area.field REC_LOST_CNT_COUNT ∈ as ∨
    Area.word REC_LOST_CNT_COUNT.addr ∈ as ∨ Area.all ∈ as) (h : d.Only ps as e) : d.Only ps as e.finish := by
  unfold Dev.finish
  split
  · exact h
  · refine Dev.Only.each _ _ (fun c x => Dev.Only.enqueue x ho ha (Dev.Only.refl ..)) (h.trans (.parts rfl fun p hp => ?_))
    cases p <;> first | exact absurd ho hp | simp [Part.same]

/-- With nothing recorded, the end of a command changes nothing. -/
theorem Dev.finish_of_settled (d : Dev) (h : d.rcd.fresh = []) : d.finish = d := by
  unfold Dev.finish; rw [h]

end Sys2Proof.Machine
end

