-- ==== Sys2Proof/Laws/Run.lean ====
section
/-! SUPPORT. The laws of `run` and its guarded forms: the outcome of an effect, its frame, and the events it records. -/

namespace Sys2Proof.Machine

variable {ps : List Part} {as : List Area} {s : State} {f : Straps → Dev → Dev} {c : Straps → Dev → Bool}

theorem runIf_pos (h : c s.straps s.dev = true) : runIf c f s = run f s := by simp [runIf, h]

theorem runIf_neg (h : c s.straps s.dev = false) : runIf c f s = .next s := by simp [runIf, h]

theorem awake_of_on (h : deviceOn s) : s.dev.awake = true := by simp [Dev.awake, h.1]

theorem runAwake_pos (h : deviceOn s) : runAwake f s = run f s := runIf_pos (awake_of_on h)

/-- An initiator that reaches the registers is not NACKed. -/
theorem nacked_of_mayWrite {i : Initiator} (h : mayWrite s.straps i s.dev = true) :
    (i == .service && !s.dev.svcMay 1) = false := by
  cases i <;> simp_all [mayWrite, hasAccess, outsideRegs]

theorem runBy_pos {i : Initiator} (h : deviceOn s) (ha : mayWrite s.straps i s.dev = true) (hc : c s.straps s.dev = true) :
    runBy i c f s = run f s := by
  simp [runBy, runIf, run, nacked_of_mayWrite ha, awake_of_on h, ha, hc]

/-- A write that does not reach the registers does nothing, but for the service port, which answers it with NACK. -/
theorem runBy_neg {i : Initiator} (h : mayWrite s.straps i s.dev = false) (hi : i ≠ .service) : runBy i c f s = .next s := by
  have : (i == .service) = false := by simpa using hi
  simp [runBy, runIf, h, this]

theorem runBy_nack (h : deviceOn s) (hp : s.dev.svcMay 1 = false) :
    runBy .service c f s = run (fun _ d => d.svcNack) s := by
  simp [runBy, runIf, run, awake_of_on h, hp]

theorem runRead_pos {z : Dev → Dev} (h : deviceOn s) (hc : c s.straps s.dev = true) : runRead c z f s = run f s := by
  simp [runRead, runIf, run, awake_of_on h, hc, Dev.held, h.1]

theorem runRead_held {z : Dev → Dev} (h : s.dev.held = true) (hc : c s.straps s.dev = true) :
    runRead c z f s = run (fun _ d => z d) s := by simp [runRead, runIf, run, h, hc]

theorem isTile_of_on (h : tileOn s) : isTile s.straps = true := by simp [isTile, h.1]

theorem isSender_of_on (h : senderOn s) : isSender s.straps = true := by simp [isSender, h.1]

theorem isSender_of_tile (h : tileOn s) : isSender s.straps = false := by simp [isSender, h.1]

theorem isTile_of_sender (h : senderOn s) : isTile s.straps = false := by simp [isTile, h.1]

theorem runTile_pos (h : tileOn s) : runTile f s = run f s :=
  runIf_pos (by simp [isTile_of_on h, awake_of_on h.2])

theorem runSender_pos (h : senderOn s) : runSender f s = run f s :=
  runIf_pos (by simp [isSender_of_on h, awake_of_on h.2])

theorem fresh_of_only (h : s.dev.rcd.fresh = []) {e : Dev} (hf : s.dev.Only ps as e) (hq : Part.queue ∉ ps) :
    e.rcd.fresh = [] := (hf.1 .queue hq).2.1.trans h

/-- The outcome of an effect that records nothing. -/
theorem run_quiet (h : Settled s) (hf : s.dev.Only ps as (f s.straps s.dev)) (hq : Part.queue ∉ ps) :
    run f s = .next { s with dev := f s.straps s.dev } := by
  simp only [run, Dev.finish_of_settled _ (fresh_of_only h hf hq)]

/-- An effect that records nothing answers, keeps its frame, and what its device satisfies. -/
theorem run_quiet_with {p : State → Prop} (h : Settled s) (hf : s.dev.Only ps as (f s.straps s.dev))
    (hq : Part.queue ∉ ps) (hp : p { s with dev := f s.straps s.dev }) :
    AnswersWith (run f s) fun t => Only ps as s t ∧ p t :=
  ⟨_, run_quiet h hf hq, ⟨rfl, rfl, hf⟩, hp⟩

/-- Any effect answers and keeps its frame. -/
theorem run_frame (hf : s.dev.Only (.queue :: ps) (.field REC_LOST_CNT_COUNT :: as) (f s.straps s.dev)) :
    OnlyLogging ps as s { s with dev := (f s.straps s.dev).finish } :=
  ⟨rfl, rfl, hf.finish (by simp) (.inl (by simp))⟩

/-- With room in the queue, the events of the command enter it, and nothing else of the device changes at its end. -/
theorem enqueue_room (d : Dev) (e : EventRec) (h : d.rcd.queue.length < recDepth) :
    d.enqueue e = { d with rcd.queue := d.rcd.queue ++ [e] } := by simp [Dev.enqueue, h]

theorem each_enqueue_room (es : List EventRec) (d : Dev) (h : d.rcd.queue.length + es.length ≤ recDepth) :
    d.each es Dev.enqueue = { d with rcd.queue := d.rcd.queue ++ es } := by
  unfold Dev.each
  induction es generalizing d with
  | nil => simp
  | cons e es ih =>
    simp only [List.length_cons] at h
    rw [List.foldl_cons, enqueue_room d e (by omega), ih]
    · simp
    · simp; omega

theorem insertByCode_length (e : EventRec) (l : List EventRec) : (insertByCode e l).length = l.length + 1 := by
  induction l with
  | nil => rfl
  | cons x xs ih => simp only [insertByCode]; split <;> simp [ih]

theorem sortByCode_length (l : List EventRec) : (sortByCode l).length = l.length := by
  have : ∀ acc : List EventRec, (l.foldl (fun acc e => insertByCode e acc) acc).length = acc.length + l.length := by
    induction l with
    | nil => simp
    | cons x xs ih => intro acc; rw [List.foldl_cons, ih, insertByCode_length]; simp; omega
  simpa [sortByCode] using this []

theorem finish_room (d : Dev) (h : d.rcd.queue.length + d.rcd.fresh.length ≤ recDepth) :
    d.finish = { d with rcd.queue := d.rcd.queue ++ sortByCode d.rcd.fresh, rcd.fresh := [] } := by
  unfold Dev.finish
  split
  · rename_i h0; obtain ⟨regs, time, ports, host, twin, tile, diag, therm, cal, nvm, sec, rcd, _⟩ := d
    cases rcd; simp_all [sortByCode]
  · rename_i es _
    rw [each_enqueue_room]
    · simp [sortByCode_length]; exact h

theorem settled_finish (d : Dev) : d.finish.rcd.fresh = [] := by
  have key : ∀ (es : List EventRec) (d : Dev), (d.each es Dev.enqueue).rcd.fresh = d.rcd.fresh := by
    intro es
    unfold Dev.each
    induction es with
    | nil => intro d; rfl
    | cons e es ih =>
      intro d
      rw [List.foldl_cons, ih]
      unfold Dev.enqueue Dev.add Dev.set Dev.wr
      split
      · rfl
      · simp only; split <;> rfl
  unfold Dev.finish
  split
  · assumption
  · rw [key]

end Sys2Proof.Machine
end

