-- ==== Sys2Proof/Laws/Answer.lean ====
section
/-! SUPPORT. The laws of answers: the completion of the one descriptor in flight, the RSP of a tile that forwards the chain's
pairs, and a packet taken from the front of the received ones. -/

namespace Sys2Proof.Machine

variable {d : Dev} {st : Straps}

/-- No sequence number precedes itself. -/
theorem precedes_irrefl (a : Nat) : precedes a a = false := by
  have h : dist32 a a = 0 := by unfold dist32; omega
  simp [precedes, h]

/-- The one descriptor in flight completes: its phase, its result and its completion are all that changes. -/
theorem finishDesc_one (e : Desc) (status value : Nat) (h : d.host.descs = [e]) (ho : d.host.out = [])
    (hp : e.phase ≠ .finished) (hr : e.result = none) (hn : dNoCpl e.bytes = false) :
    d.finishDesc e.ring e.index status value = { d with host := d.host.completed e status value } := by
  obtain ⟨regs, time, ports, host, _⟩ := d
  cases host
  simp only at h ho
  subst h; subst ho
  have hb : ¬ (if e.phase = Phase.fetched then Phase.started else e.phase) = Phase.finished := by
    split <;> simp_all
  simp [Dev.finishDesc, Dev.findDesc, hr, Dev.modDesc, Dev.each, Dev.release, Dev.postDesc, Dev.behind, Dev.earlier,
    precedes_irrefl, hb, hn, Dev.complete, HostSt.completed, cplOf]

/-- A tile that can answer does so by its own cells, which wait at their precedence; nothing else changes. -/
theorem respond_relays (cmd : List Byte) (status value off : Nat) (data : List Byte)
    (h : canAnswer d cmd = true) :
    d.respond st cmd status value off data = { d with ports := rspWaits d cmd status value off data } := by
  simp only [canAnswer, Bool.and_eq_true] at h
  have hr : ∀ g : PortSt → PortSt, (d.modPort (endPort (pktTail cmd)) g).relays (endPort (pktTail cmd)) = true := fun g => h.2
  simp only [Dev.respond, Dev.queueOwn, hr, h.1]
  rfl

/-- The first received packet is taken when the effect is for it. -/
theorem onRx_cons (p : RxPkt → Bool) (f : RxPkt → Dev → Dev) (k : RxPkt) (rest : List RxPkt) (h : d.rxq = k :: rest)
    (hp : p k = true) : d.onRx p f = f k { d with rxq := rest } := by
  simp [Dev.onRx, Dev.takeRx, h, hp]

/-- A packet of another kind stays. -/
theorem onRx_skip (p : RxPkt → Bool) (f : RxPkt → Dev → Dev) (h : ∀ k ∈ d.rxq.head?, p k = false) : d.onRx p f = d := by
  unfold Dev.onRx Dev.takeRx
  split <;> rename_i heq
  · split at heq
    · rename_i k rest hq
      simp [h k (by simp [hq])] at heq
    · simp at heq
  · rfl

/-- The one descriptor in flight, fetched, may start. -/
theorem startable_one (e : Desc) (h : d.host.descs = [e]) (hp : e.phase = .fetched) : d.startable e = true := by
  simp [Dev.startable, Dev.earlier, h, hp, precedes_irrefl]

end Sys2Proof.Machine
end

