-- ==== Sys2Proof/Laws/LineCode.lean ====
section
/-! SUPPORT. What a codeword off the line leaves (spec/05_chain_lanes.md R119). -/

namespace Sys2Proof.Machine

/-- Levels that fail to decode yield no payload, at any state of the descrambler. -/
theorem receiveCodeword_undecoded (l : LaneSt) (inverted : Bool) (w : RxCodeword)
    (h : (decodeLevels l.rxPrev ((lineLevels w).map (atPolarity inverted))).1 = none) :
    (receiveCodeword l inverted w).1 = none := by
  unfold receiveCodeword
  dsimp only
  split
  · rfl
  · rename_i c hc; rw [h] at hc; cases hc

/-- A codeword off the line changes the receiver's un-precoder and descrambler and nothing else of the lane. -/
theorem receiveCodeword_lane (l : LaneSt) (inverted : Bool) (w : RxCodeword) :
    (receiveCodeword l inverted w).2 =
      { l with rxScr := (receiveCodeword l inverted w).2.rxScr, rxPrev := (receiveCodeword l inverted w).2.rxPrev } := by
  unfold receiveCodeword
  dsimp only
  generalize decodeLevels l.rxPrev ((lineLevels w).map (atPolarity inverted)) = r
  obtain ⟨_ | c, p⟩ := r
  · rfl
  · generalize throughBits descrambleBit l.rxScr (c.1.flatMap fun m => natToBits m 10) = q
    rfl

end Sys2Proof.Machine
end

