-- ==== Sys2Proof/Laws/State.lean ====
section
/-! SUPPORT. What each small update of the device leaves alone, one lemma for each field, and what it makes of its own. -/

namespace Sys2Proof.Machine

variable (d : Dev)

/-! `Dev.wr`. -/

@[simp] theorem Dev.wr_time (a : Nat) (v : Word) : (d.wr a v).time = d.time := rfl
@[simp] theorem Dev.wr_ports (a : Nat) (v : Word) : (d.wr a v).ports = d.ports := rfl
@[simp] theorem Dev.wr_host (a : Nat) (v : Word) : (d.wr a v).host = d.host := rfl
@[simp] theorem Dev.wr_twin (a : Nat) (v : Word) : (d.wr a v).twin = d.twin := rfl
@[simp] theorem Dev.wr_tile (a : Nat) (v : Word) : (d.wr a v).tile = d.tile := rfl
@[simp] theorem Dev.wr_diag (a : Nat) (v : Word) : (d.wr a v).diag = d.diag := rfl
@[simp] theorem Dev.wr_therm (a : Nat) (v : Word) : (d.wr a v).therm = d.therm := rfl
@[simp] theorem Dev.wr_cal (a : Nat) (v : Word) : (d.wr a v).cal = d.cal := rfl
@[simp] theorem Dev.wr_nvm (a : Nat) (v : Word) : (d.wr a v).nvm = d.nvm := rfl
@[simp] theorem Dev.wr_sec (a : Nat) (v : Word) : (d.wr a v).sec = d.sec := rfl
@[simp] theorem Dev.wr_rcd (a : Nat) (v : Word) : (d.wr a v).rcd = d.rcd := rfl
@[simp] theorem Dev.wr_crc (a : Nat) (v : Word) : (d.wr a v).crc = d.crc := rfl
@[simp] theorem Dev.wr_mbx (a : Nat) (v : Word) : (d.wr a v).mbx = d.mbx := rfl
@[simp] theorem Dev.wr_parity (a : Nat) (v : Word) : (d.wr a v).parity = d.parity := rfl
@[simp] theorem Dev.wr_aon (a : Nat) (v : Word) : (d.wr a v).aon = d.aon := rfl
@[simp] theorem Dev.wr_boot (a : Nat) (v : Word) : (d.wr a v).boot = d.boot := rfl
@[simp] theorem Dev.wr_rxq (a : Nat) (v : Word) : (d.wr a v).rxq = d.rxq := rfl
@[simp] theorem Dev.wr_out (a : Nat) (v : Word) : (d.wr a v).out = d.out := rfl
@[simp] theorem Dev.wr_free (a : Nat) (v : Word) : (d.wr a v).free = d.free := rfl

/-! `Dev.set`. -/

@[simp] theorem Dev.set_time (f : Fld) (v : Nat) : (d.set f v).time = d.time := rfl
@[simp] theorem Dev.set_ports (f : Fld) (v : Nat) : (d.set f v).ports = d.ports := rfl
@[simp] theorem Dev.set_host (f : Fld) (v : Nat) : (d.set f v).host = d.host := rfl
@[simp] theorem Dev.set_twin (f : Fld) (v : Nat) : (d.set f v).twin = d.twin := rfl
@[simp] theorem Dev.set_tile (f : Fld) (v : Nat) : (d.set f v).tile = d.tile := rfl
@[simp] theorem Dev.set_diag (f : Fld) (v : Nat) : (d.set f v).diag = d.diag := rfl
@[simp] theorem Dev.set_therm (f : Fld) (v : Nat) : (d.set f v).therm = d.therm := rfl
@[simp] theorem Dev.set_cal (f : Fld) (v : Nat) : (d.set f v).cal = d.cal := rfl
@[simp] theorem Dev.set_nvm (f : Fld) (v : Nat) : (d.set f v).nvm = d.nvm := rfl
@[simp] theorem Dev.set_sec (f : Fld) (v : Nat) : (d.set f v).sec = d.sec := rfl
@[simp] theorem Dev.set_rcd (f : Fld) (v : Nat) : (d.set f v).rcd = d.rcd := rfl
@[simp] theorem Dev.set_crc (f : Fld) (v : Nat) : (d.set f v).crc = d.crc := rfl
@[simp] theorem Dev.set_mbx (f : Fld) (v : Nat) : (d.set f v).mbx = d.mbx := rfl
@[simp] theorem Dev.set_parity (f : Fld) (v : Nat) : (d.set f v).parity = d.parity := rfl
@[simp] theorem Dev.set_aon (f : Fld) (v : Nat) : (d.set f v).aon = d.aon := rfl
@[simp] theorem Dev.set_boot (f : Fld) (v : Nat) : (d.set f v).boot = d.boot := rfl
@[simp] theorem Dev.set_rxq (f : Fld) (v : Nat) : (d.set f v).rxq = d.rxq := rfl
@[simp] theorem Dev.set_out (f : Fld) (v : Nat) : (d.set f v).out = d.out := rfl
@[simp] theorem Dev.set_free (f : Fld) (v : Nat) : (d.set f v).free = d.free := rfl

/-! `Dev.setb`. -/

@[simp] theorem Dev.setb_time (f : Fld) (b : Bool) : (d.setb f b).time = d.time := rfl
@[simp] theorem Dev.setb_ports (f : Fld) (b : Bool) : (d.setb f b).ports = d.ports := rfl
@[simp] theorem Dev.setb_host (f : Fld) (b : Bool) : (d.setb f b).host = d.host := rfl
@[simp] theorem Dev.setb_twin (f : Fld) (b : Bool) : (d.setb f b).twin = d.twin := rfl
@[simp] theorem Dev.setb_tile (f : Fld) (b : Bool) : (d.setb f b).tile = d.tile := rfl
@[simp] theorem Dev.setb_diag (f : Fld) (b : Bool) : (d.setb f b).diag = d.diag := rfl
@[simp] theorem Dev.setb_therm (f : Fld) (b : Bool) : (d.setb f b).therm = d.therm := rfl
@[simp] theorem Dev.setb_cal (f : Fld) (b : Bool) : (d.setb f b).cal = d.cal := rfl
@[simp] theorem Dev.setb_nvm (f : Fld) (b : Bool) : (d.setb f b).nvm = d.nvm := rfl
@[simp] theorem Dev.setb_sec (f : Fld) (b : Bool) : (d.setb f b).sec = d.sec := rfl
@[simp] theorem Dev.setb_rcd (f : Fld) (b : Bool) : (d.setb f b).rcd = d.rcd := rfl
@[simp] theorem Dev.setb_crc (f : Fld) (b : Bool) : (d.setb f b).crc = d.crc := rfl
@[simp] theorem Dev.setb_mbx (f : Fld) (b : Bool) : (d.setb f b).mbx = d.mbx := rfl
@[simp] theorem Dev.setb_parity (f : Fld) (b : Bool) : (d.setb f b).parity = d.parity := rfl
@[simp] theorem Dev.setb_aon (f : Fld) (b : Bool) : (d.setb f b).aon = d.aon := rfl
@[simp] theorem Dev.setb_boot (f : Fld) (b : Bool) : (d.setb f b).boot = d.boot := rfl
@[simp] theorem Dev.setb_rxq (f : Fld) (b : Bool) : (d.setb f b).rxq = d.rxq := rfl
@[simp] theorem Dev.setb_out (f : Fld) (b : Bool) : (d.setb f b).out = d.out := rfl
@[simp] theorem Dev.setb_free (f : Fld) (b : Bool) : (d.setb f b).free = d.free := rfl

/-! `Dev.seti`. -/

@[simp] theorem Dev.seti_time (f : Fld) (v : Int) : (d.seti f v).time = d.time := rfl
@[simp] theorem Dev.seti_ports (f : Fld) (v : Int) : (d.seti f v).ports = d.ports := rfl
@[simp] theorem Dev.seti_host (f : Fld) (v : Int) : (d.seti f v).host = d.host := rfl
@[simp] theorem Dev.seti_twin (f : Fld) (v : Int) : (d.seti f v).twin = d.twin := rfl
@[simp] theorem Dev.seti_tile (f : Fld) (v : Int) : (d.seti f v).tile = d.tile := rfl
@[simp] theorem Dev.seti_diag (f : Fld) (v : Int) : (d.seti f v).diag = d.diag := rfl
@[simp] theorem Dev.seti_therm (f : Fld) (v : Int) : (d.seti f v).therm = d.therm := rfl
@[simp] theorem Dev.seti_cal (f : Fld) (v : Int) : (d.seti f v).cal = d.cal := rfl
@[simp] theorem Dev.seti_nvm (f : Fld) (v : Int) : (d.seti f v).nvm = d.nvm := rfl
@[simp] theorem Dev.seti_sec (f : Fld) (v : Int) : (d.seti f v).sec = d.sec := rfl
@[simp] theorem Dev.seti_rcd (f : Fld) (v : Int) : (d.seti f v).rcd = d.rcd := rfl
@[simp] theorem Dev.seti_crc (f : Fld) (v : Int) : (d.seti f v).crc = d.crc := rfl
@[simp] theorem Dev.seti_mbx (f : Fld) (v : Int) : (d.seti f v).mbx = d.mbx := rfl
@[simp] theorem Dev.seti_parity (f : Fld) (v : Int) : (d.seti f v).parity = d.parity := rfl
@[simp] theorem Dev.seti_aon (f : Fld) (v : Int) : (d.seti f v).aon = d.aon := rfl
@[simp] theorem Dev.seti_boot (f : Fld) (v : Int) : (d.seti f v).boot = d.boot := rfl
@[simp] theorem Dev.seti_rxq (f : Fld) (v : Int) : (d.seti f v).rxq = d.rxq := rfl
@[simp] theorem Dev.seti_out (f : Fld) (v : Int) : (d.seti f v).out = d.out := rfl
@[simp] theorem Dev.seti_free (f : Fld) (v : Int) : (d.seti f v).free = d.free := rfl

/-! `Dev.add`. -/

@[simp] theorem Dev.add_time (f : Fld) (n : Nat) : (d.add f n).time = d.time := rfl
@[simp] theorem Dev.add_ports (f : Fld) (n : Nat) : (d.add f n).ports = d.ports := rfl
@[simp] theorem Dev.add_host (f : Fld) (n : Nat) : (d.add f n).host = d.host := rfl
@[simp] theorem Dev.add_twin (f : Fld) (n : Nat) : (d.add f n).twin = d.twin := rfl
@[simp] theorem Dev.add_tile (f : Fld) (n : Nat) : (d.add f n).tile = d.tile := rfl
@[simp] theorem Dev.add_diag (f : Fld) (n : Nat) : (d.add f n).diag = d.diag := rfl
@[simp] theorem Dev.add_therm (f : Fld) (n : Nat) : (d.add f n).therm = d.therm := rfl
@[simp] theorem Dev.add_cal (f : Fld) (n : Nat) : (d.add f n).cal = d.cal := rfl
@[simp] theorem Dev.add_nvm (f : Fld) (n : Nat) : (d.add f n).nvm = d.nvm := rfl
@[simp] theorem Dev.add_sec (f : Fld) (n : Nat) : (d.add f n).sec = d.sec := rfl
@[simp] theorem Dev.add_rcd (f : Fld) (n : Nat) : (d.add f n).rcd = d.rcd := rfl
@[simp] theorem Dev.add_crc (f : Fld) (n : Nat) : (d.add f n).crc = d.crc := rfl
@[simp] theorem Dev.add_mbx (f : Fld) (n : Nat) : (d.add f n).mbx = d.mbx := rfl
@[simp] theorem Dev.add_parity (f : Fld) (n : Nat) : (d.add f n).parity = d.parity := rfl
@[simp] theorem Dev.add_aon (f : Fld) (n : Nat) : (d.add f n).aon = d.aon := rfl
@[simp] theorem Dev.add_boot (f : Fld) (n : Nat) : (d.add f n).boot = d.boot := rfl
@[simp] theorem Dev.add_rxq (f : Fld) (n : Nat) : (d.add f n).rxq = d.rxq := rfl
@[simp] theorem Dev.add_out (f : Fld) (n : Nat) : (d.add f n).out = d.out := rfl
@[simp] theorem Dev.add_free (f : Fld) (n : Nat) : (d.add f n).free = d.free := rfl

/-! `Dev.addSat`. -/

@[simp] theorem Dev.addSat_time (f : Fld) (n : Nat) : (d.addSat f n).time = d.time := rfl
@[simp] theorem Dev.addSat_ports (f : Fld) (n : Nat) : (d.addSat f n).ports = d.ports := rfl
@[simp] theorem Dev.addSat_host (f : Fld) (n : Nat) : (d.addSat f n).host = d.host := rfl
@[simp] theorem Dev.addSat_twin (f : Fld) (n : Nat) : (d.addSat f n).twin = d.twin := rfl
@[simp] theorem Dev.addSat_tile (f : Fld) (n : Nat) : (d.addSat f n).tile = d.tile := rfl
@[simp] theorem Dev.addSat_diag (f : Fld) (n : Nat) : (d.addSat f n).diag = d.diag := rfl
@[simp] theorem Dev.addSat_therm (f : Fld) (n : Nat) : (d.addSat f n).therm = d.therm := rfl
@[simp] theorem Dev.addSat_cal (f : Fld) (n : Nat) : (d.addSat f n).cal = d.cal := rfl
@[simp] theorem Dev.addSat_nvm (f : Fld) (n : Nat) : (d.addSat f n).nvm = d.nvm := rfl
@[simp] theorem Dev.addSat_sec (f : Fld) (n : Nat) : (d.addSat f n).sec = d.sec := rfl
@[simp] theorem Dev.addSat_rcd (f : Fld) (n : Nat) : (d.addSat f n).rcd = d.rcd := rfl
@[simp] theorem Dev.addSat_crc (f : Fld) (n : Nat) : (d.addSat f n).crc = d.crc := rfl
@[simp] theorem Dev.addSat_mbx (f : Fld) (n : Nat) : (d.addSat f n).mbx = d.mbx := rfl
@[simp] theorem Dev.addSat_parity (f : Fld) (n : Nat) : (d.addSat f n).parity = d.parity := rfl
@[simp] theorem Dev.addSat_aon (f : Fld) (n : Nat) : (d.addSat f n).aon = d.aon := rfl
@[simp] theorem Dev.addSat_boot (f : Fld) (n : Nat) : (d.addSat f n).boot = d.boot := rfl
@[simp] theorem Dev.addSat_rxq (f : Fld) (n : Nat) : (d.addSat f n).rxq = d.rxq := rfl
@[simp] theorem Dev.addSat_out (f : Fld) (n : Nat) : (d.addSat f n).out = d.out := rfl
@[simp] theorem Dev.addSat_free (f : Fld) (n : Nat) : (d.addSat f n).free = d.free := rfl

/-! `Dev.emit`. -/

@[simp] theorem Dev.emit_regs (o : Out) : (d.emit o).regs = d.regs := rfl
@[simp] theorem Dev.emit_time (o : Out) : (d.emit o).time = d.time := rfl
@[simp] theorem Dev.emit_ports (o : Out) : (d.emit o).ports = d.ports := rfl
@[simp] theorem Dev.emit_host (o : Out) : (d.emit o).host = d.host := rfl
@[simp] theorem Dev.emit_twin (o : Out) : (d.emit o).twin = d.twin := rfl
@[simp] theorem Dev.emit_tile (o : Out) : (d.emit o).tile = d.tile := rfl
@[simp] theorem Dev.emit_diag (o : Out) : (d.emit o).diag = d.diag := rfl
@[simp] theorem Dev.emit_therm (o : Out) : (d.emit o).therm = d.therm := rfl
@[simp] theorem Dev.emit_cal (o : Out) : (d.emit o).cal = d.cal := rfl
@[simp] theorem Dev.emit_nvm (o : Out) : (d.emit o).nvm = d.nvm := rfl
@[simp] theorem Dev.emit_sec (o : Out) : (d.emit o).sec = d.sec := rfl
@[simp] theorem Dev.emit_rcd (o : Out) : (d.emit o).rcd = d.rcd := rfl
@[simp] theorem Dev.emit_crc (o : Out) : (d.emit o).crc = d.crc := rfl
@[simp] theorem Dev.emit_mbx (o : Out) : (d.emit o).mbx = d.mbx := rfl
@[simp] theorem Dev.emit_parity (o : Out) : (d.emit o).parity = d.parity := rfl
@[simp] theorem Dev.emit_aon (o : Out) : (d.emit o).aon = d.aon := rfl
@[simp] theorem Dev.emit_boot (o : Out) : (d.emit o).boot = d.boot := rfl
@[simp] theorem Dev.emit_rxq (o : Out) : (d.emit o).rxq = d.rxq := rfl
@[simp] theorem Dev.emit_free (o : Out) : (d.emit o).free = d.free := rfl

/-! `Dev.modPort`. -/

@[simp] theorem Dev.modPort_regs (x : Nat) (g : PortSt → PortSt) : (d.modPort x g).regs = d.regs := rfl
@[simp] theorem Dev.modPort_time (x : Nat) (g : PortSt → PortSt) : (d.modPort x g).time = d.time := rfl
@[simp] theorem Dev.modPort_host (x : Nat) (g : PortSt → PortSt) : (d.modPort x g).host = d.host := rfl
@[simp] theorem Dev.modPort_twin (x : Nat) (g : PortSt → PortSt) : (d.modPort x g).twin = d.twin := rfl
@[simp] theorem Dev.modPort_tile (x : Nat) (g : PortSt → PortSt) : (d.modPort x g).tile = d.tile := rfl
@[simp] theorem Dev.modPort_diag (x : Nat) (g : PortSt → PortSt) : (d.modPort x g).diag = d.diag := rfl
@[simp] theorem Dev.modPort_therm (x : Nat) (g : PortSt → PortSt) : (d.modPort x g).therm = d.therm := rfl
@[simp] theorem Dev.modPort_cal (x : Nat) (g : PortSt → PortSt) : (d.modPort x g).cal = d.cal := rfl
@[simp] theorem Dev.modPort_nvm (x : Nat) (g : PortSt → PortSt) : (d.modPort x g).nvm = d.nvm := rfl
@[simp] theorem Dev.modPort_sec (x : Nat) (g : PortSt → PortSt) : (d.modPort x g).sec = d.sec := rfl
@[simp] theorem Dev.modPort_rcd (x : Nat) (g : PortSt → PortSt) : (d.modPort x g).rcd = d.rcd := rfl
@[simp] theorem Dev.modPort_crc (x : Nat) (g : PortSt → PortSt) : (d.modPort x g).crc = d.crc := rfl
@[simp] theorem Dev.modPort_mbx (x : Nat) (g : PortSt → PortSt) : (d.modPort x g).mbx = d.mbx := rfl
@[simp] theorem Dev.modPort_parity (x : Nat) (g : PortSt → PortSt) : (d.modPort x g).parity = d.parity := rfl
@[simp] theorem Dev.modPort_aon (x : Nat) (g : PortSt → PortSt) : (d.modPort x g).aon = d.aon := rfl
@[simp] theorem Dev.modPort_boot (x : Nat) (g : PortSt → PortSt) : (d.modPort x g).boot = d.boot := rfl
@[simp] theorem Dev.modPort_rxq (x : Nat) (g : PortSt → PortSt) : (d.modPort x g).rxq = d.rxq := rfl
@[simp] theorem Dev.modPort_out (x : Nat) (g : PortSt → PortSt) : (d.modPort x g).out = d.out := rfl
@[simp] theorem Dev.modPort_free (x : Nat) (g : PortSt → PortSt) : (d.modPort x g).free = d.free := rfl

/-! `Dev.modLane`. -/

@[simp] theorem Dev.modLane_regs (x n : Nat) (g : LaneSt → LaneSt) : (d.modLane x n g).regs = d.regs := rfl
@[simp] theorem Dev.modLane_time (x n : Nat) (g : LaneSt → LaneSt) : (d.modLane x n g).time = d.time := rfl
@[simp] theorem Dev.modLane_host (x n : Nat) (g : LaneSt → LaneSt) : (d.modLane x n g).host = d.host := rfl
@[simp] theorem Dev.modLane_twin (x n : Nat) (g : LaneSt → LaneSt) : (d.modLane x n g).twin = d.twin := rfl
@[simp] theorem Dev.modLane_tile (x n : Nat) (g : LaneSt → LaneSt) : (d.modLane x n g).tile = d.tile := rfl
@[simp] theorem Dev.modLane_diag (x n : Nat) (g : LaneSt → LaneSt) : (d.modLane x n g).diag = d.diag := rfl
@[simp] theorem Dev.modLane_therm (x n : Nat) (g : LaneSt → LaneSt) : (d.modLane x n g).therm = d.therm := rfl
@[simp] theorem Dev.modLane_cal (x n : Nat) (g : LaneSt → LaneSt) : (d.modLane x n g).cal = d.cal := rfl
@[simp] theorem Dev.modLane_nvm (x n : Nat) (g : LaneSt → LaneSt) : (d.modLane x n g).nvm = d.nvm := rfl
@[simp] theorem Dev.modLane_sec (x n : Nat) (g : LaneSt → LaneSt) : (d.modLane x n g).sec = d.sec := rfl
@[simp] theorem Dev.modLane_rcd (x n : Nat) (g : LaneSt → LaneSt) : (d.modLane x n g).rcd = d.rcd := rfl
@[simp] theorem Dev.modLane_crc (x n : Nat) (g : LaneSt → LaneSt) : (d.modLane x n g).crc = d.crc := rfl
@[simp] theorem Dev.modLane_mbx (x n : Nat) (g : LaneSt → LaneSt) : (d.modLane x n g).mbx = d.mbx := rfl
@[simp] theorem Dev.modLane_parity (x n : Nat) (g : LaneSt → LaneSt) : (d.modLane x n g).parity = d.parity := rfl
@[simp] theorem Dev.modLane_aon (x n : Nat) (g : LaneSt → LaneSt) : (d.modLane x n g).aon = d.aon := rfl
@[simp] theorem Dev.modLane_boot (x n : Nat) (g : LaneSt → LaneSt) : (d.modLane x n g).boot = d.boot := rfl
@[simp] theorem Dev.modLane_rxq (x n : Nat) (g : LaneSt → LaneSt) : (d.modLane x n g).rxq = d.rxq := rfl
@[simp] theorem Dev.modLane_out (x n : Nat) (g : LaneSt → LaneSt) : (d.modLane x n g).out = d.out := rfl
@[simp] theorem Dev.modLane_free (x n : Nat) (g : LaneSt → LaneSt) : (d.modLane x n g).free = d.free := rfl

/-! `Dev.complete`. -/

@[simp] theorem Dev.complete_regs (c : Cpl) : (d.complete c).regs = d.regs := rfl
@[simp] theorem Dev.complete_time (c : Cpl) : (d.complete c).time = d.time := rfl
@[simp] theorem Dev.complete_ports (c : Cpl) : (d.complete c).ports = d.ports := rfl
@[simp] theorem Dev.complete_twin (c : Cpl) : (d.complete c).twin = d.twin := rfl
@[simp] theorem Dev.complete_tile (c : Cpl) : (d.complete c).tile = d.tile := rfl
@[simp] theorem Dev.complete_diag (c : Cpl) : (d.complete c).diag = d.diag := rfl
@[simp] theorem Dev.complete_therm (c : Cpl) : (d.complete c).therm = d.therm := rfl
@[simp] theorem Dev.complete_cal (c : Cpl) : (d.complete c).cal = d.cal := rfl
@[simp] theorem Dev.complete_nvm (c : Cpl) : (d.complete c).nvm = d.nvm := rfl
@[simp] theorem Dev.complete_sec (c : Cpl) : (d.complete c).sec = d.sec := rfl
@[simp] theorem Dev.complete_rcd (c : Cpl) : (d.complete c).rcd = d.rcd := rfl
@[simp] theorem Dev.complete_crc (c : Cpl) : (d.complete c).crc = d.crc := rfl
@[simp] theorem Dev.complete_mbx (c : Cpl) : (d.complete c).mbx = d.mbx := rfl
@[simp] theorem Dev.complete_parity (c : Cpl) : (d.complete c).parity = d.parity := rfl
@[simp] theorem Dev.complete_aon (c : Cpl) : (d.complete c).aon = d.aon := rfl
@[simp] theorem Dev.complete_boot (c : Cpl) : (d.complete c).boot = d.boot := rfl
@[simp] theorem Dev.complete_rxq (c : Cpl) : (d.complete c).rxq = d.rxq := rfl
@[simp] theorem Dev.complete_out (c : Cpl) : (d.complete c).out = d.out := rfl
@[simp] theorem Dev.complete_free (c : Cpl) : (d.complete c).free = d.free := rfl

/-! `Dev.countWrite`. -/

@[simp] theorem Dev.countWrite_regs : d.countWrite.regs = d.regs := rfl
@[simp] theorem Dev.countWrite_time : d.countWrite.time = d.time := rfl
@[simp] theorem Dev.countWrite_ports : d.countWrite.ports = d.ports := rfl
@[simp] theorem Dev.countWrite_host : d.countWrite.host = d.host := rfl
@[simp] theorem Dev.countWrite_twin : d.countWrite.twin = d.twin := rfl
@[simp] theorem Dev.countWrite_tile : d.countWrite.tile = d.tile := rfl
@[simp] theorem Dev.countWrite_diag : d.countWrite.diag = d.diag := rfl
@[simp] theorem Dev.countWrite_therm : d.countWrite.therm = d.therm := rfl
@[simp] theorem Dev.countWrite_cal : d.countWrite.cal = d.cal := rfl
@[simp] theorem Dev.countWrite_sec : d.countWrite.sec = d.sec := rfl
@[simp] theorem Dev.countWrite_rcd : d.countWrite.rcd = d.rcd := rfl
@[simp] theorem Dev.countWrite_crc : d.countWrite.crc = d.crc := rfl
@[simp] theorem Dev.countWrite_mbx : d.countWrite.mbx = d.mbx := rfl
@[simp] theorem Dev.countWrite_parity : d.countWrite.parity = d.parity := rfl
@[simp] theorem Dev.countWrite_aon : d.countWrite.aon = d.aon := rfl
@[simp] theorem Dev.countWrite_boot : d.countWrite.boot = d.boot := rfl
@[simp] theorem Dev.countWrite_rxq : d.countWrite.rxq = d.rxq := rfl
@[simp] theorem Dev.countWrite_out : d.countWrite.out = d.out := rfl
@[simp] theorem Dev.countWrite_free : d.countWrite.free = d.free := rfl

/-! `Dev.note`. -/

@[simp] theorem Dev.note_regs (r : EventRec) : (d.note r).regs = d.regs := rfl
@[simp] theorem Dev.note_time (r : EventRec) : (d.note r).time = d.time := rfl
@[simp] theorem Dev.note_ports (r : EventRec) : (d.note r).ports = d.ports := rfl
@[simp] theorem Dev.note_host (r : EventRec) : (d.note r).host = d.host := rfl
@[simp] theorem Dev.note_twin (r : EventRec) : (d.note r).twin = d.twin := rfl
@[simp] theorem Dev.note_tile (r : EventRec) : (d.note r).tile = d.tile := rfl
@[simp] theorem Dev.note_diag (r : EventRec) : (d.note r).diag = d.diag := rfl
@[simp] theorem Dev.note_therm (r : EventRec) : (d.note r).therm = d.therm := rfl
@[simp] theorem Dev.note_cal (r : EventRec) : (d.note r).cal = d.cal := rfl
@[simp] theorem Dev.note_nvm (r : EventRec) : (d.note r).nvm = d.nvm := rfl
@[simp] theorem Dev.note_sec (r : EventRec) : (d.note r).sec = d.sec := rfl
@[simp] theorem Dev.note_crc (r : EventRec) : (d.note r).crc = d.crc := rfl
@[simp] theorem Dev.note_mbx (r : EventRec) : (d.note r).mbx = d.mbx := rfl
@[simp] theorem Dev.note_parity (r : EventRec) : (d.note r).parity = d.parity := rfl
@[simp] theorem Dev.note_aon (r : EventRec) : (d.note r).aon = d.aon := rfl
@[simp] theorem Dev.note_boot (r : EventRec) : (d.note r).boot = d.boot := rfl
@[simp] theorem Dev.note_rxq (r : EventRec) : (d.note r).rxq = d.rxq := rfl
@[simp] theorem Dev.note_out (r : EventRec) : (d.note r).out = d.out := rfl
@[simp] theorem Dev.note_free (r : EventRec) : (d.note r).free = d.free := rfl

/-! `Dev.eventF`. -/

@[simp] theorem Dev.eventF_regs (st : Straps) (e : EvCode) (fl p0 p1 p2 : Nat) : (d.eventF st e fl p0 p1 p2).regs = d.regs := rfl
@[simp] theorem Dev.eventF_time (st : Straps) (e : EvCode) (fl p0 p1 p2 : Nat) : (d.eventF st e fl p0 p1 p2).time = d.time := rfl
@[simp] theorem Dev.eventF_ports (st : Straps) (e : EvCode) (fl p0 p1 p2 : Nat) : (d.eventF st e fl p0 p1 p2).ports = d.ports := rfl
@[simp] theorem Dev.eventF_host (st : Straps) (e : EvCode) (fl p0 p1 p2 : Nat) : (d.eventF st e fl p0 p1 p2).host = d.host := rfl
@[simp] theorem Dev.eventF_twin (st : Straps) (e : EvCode) (fl p0 p1 p2 : Nat) : (d.eventF st e fl p0 p1 p2).twin = d.twin := rfl
@[simp] theorem Dev.eventF_tile (st : Straps) (e : EvCode) (fl p0 p1 p2 : Nat) : (d.eventF st e fl p0 p1 p2).tile = d.tile := rfl
@[simp] theorem Dev.eventF_diag (st : Straps) (e : EvCode) (fl p0 p1 p2 : Nat) : (d.eventF st e fl p0 p1 p2).diag = d.diag := rfl
@[simp] theorem Dev.eventF_therm (st : Straps) (e : EvCode) (fl p0 p1 p2 : Nat) : (d.eventF st e fl p0 p1 p2).therm = d.therm := rfl
@[simp] theorem Dev.eventF_cal (st : Straps) (e : EvCode) (fl p0 p1 p2 : Nat) : (d.eventF st e fl p0 p1 p2).cal = d.cal := rfl
@[simp] theorem Dev.eventF_nvm (st : Straps) (e : EvCode) (fl p0 p1 p2 : Nat) : (d.eventF st e fl p0 p1 p2).nvm = d.nvm := rfl
@[simp] theorem Dev.eventF_sec (st : Straps) (e : EvCode) (fl p0 p1 p2 : Nat) : (d.eventF st e fl p0 p1 p2).sec = d.sec := rfl
@[simp] theorem Dev.eventF_crc (st : Straps) (e : EvCode) (fl p0 p1 p2 : Nat) : (d.eventF st e fl p0 p1 p2).crc = d.crc := rfl
@[simp] theorem Dev.eventF_mbx (st : Straps) (e : EvCode) (fl p0 p1 p2 : Nat) : (d.eventF st e fl p0 p1 p2).mbx = d.mbx := rfl
@[simp] theorem Dev.eventF_parity (st : Straps) (e : EvCode) (fl p0 p1 p2 : Nat) : (d.eventF st e fl p0 p1 p2).parity = d.parity := rfl
@[simp] theorem Dev.eventF_aon (st : Straps) (e : EvCode) (fl p0 p1 p2 : Nat) : (d.eventF st e fl p0 p1 p2).aon = d.aon := rfl
@[simp] theorem Dev.eventF_boot (st : Straps) (e : EvCode) (fl p0 p1 p2 : Nat) : (d.eventF st e fl p0 p1 p2).boot = d.boot := rfl
@[simp] theorem Dev.eventF_rxq (st : Straps) (e : EvCode) (fl p0 p1 p2 : Nat) : (d.eventF st e fl p0 p1 p2).rxq = d.rxq := rfl
@[simp] theorem Dev.eventF_out (st : Straps) (e : EvCode) (fl p0 p1 p2 : Nat) : (d.eventF st e fl p0 p1 p2).out = d.out := rfl
@[simp] theorem Dev.eventF_free (st : Straps) (e : EvCode) (fl p0 p1 p2 : Nat) : (d.eventF st e fl p0 p1 p2).free = d.free := rfl

/-! `Dev.event`. -/

@[simp] theorem Dev.event_regs (st : Straps) (e : EvCode) (p0 p1 p2 : Nat) : (d.event st e p0 p1 p2).regs = d.regs := rfl
@[simp] theorem Dev.event_time (st : Straps) (e : EvCode) (p0 p1 p2 : Nat) : (d.event st e p0 p1 p2).time = d.time := rfl
@[simp] theorem Dev.event_ports (st : Straps) (e : EvCode) (p0 p1 p2 : Nat) : (d.event st e p0 p1 p2).ports = d.ports := rfl
@[simp] theorem Dev.event_host (st : Straps) (e : EvCode) (p0 p1 p2 : Nat) : (d.event st e p0 p1 p2).host = d.host := rfl
@[simp] theorem Dev.event_twin (st : Straps) (e : EvCode) (p0 p1 p2 : Nat) : (d.event st e p0 p1 p2).twin = d.twin := rfl
@[simp] theorem Dev.event_tile (st : Straps) (e : EvCode) (p0 p1 p2 : Nat) : (d.event st e p0 p1 p2).tile = d.tile := rfl
@[simp] theorem Dev.event_diag (st : Straps) (e : EvCode) (p0 p1 p2 : Nat) : (d.event st e p0 p1 p2).diag = d.diag := rfl
@[simp] theorem Dev.event_therm (st : Straps) (e : EvCode) (p0 p1 p2 : Nat) : (d.event st e p0 p1 p2).therm = d.therm := rfl
@[simp] theorem Dev.event_cal (st : Straps) (e : EvCode) (p0 p1 p2 : Nat) : (d.event st e p0 p1 p2).cal = d.cal := rfl
@[simp] theorem Dev.event_nvm (st : Straps) (e : EvCode) (p0 p1 p2 : Nat) : (d.event st e p0 p1 p2).nvm = d.nvm := rfl
@[simp] theorem Dev.event_sec (st : Straps) (e : EvCode) (p0 p1 p2 : Nat) : (d.event st e p0 p1 p2).sec = d.sec := rfl
@[simp] theorem Dev.event_crc (st : Straps) (e : EvCode) (p0 p1 p2 : Nat) : (d.event st e p0 p1 p2).crc = d.crc := rfl
@[simp] theorem Dev.event_mbx (st : Straps) (e : EvCode) (p0 p1 p2 : Nat) : (d.event st e p0 p1 p2).mbx = d.mbx := rfl
@[simp] theorem Dev.event_parity (st : Straps) (e : EvCode) (p0 p1 p2 : Nat) : (d.event st e p0 p1 p2).parity = d.parity := rfl
@[simp] theorem Dev.event_aon (st : Straps) (e : EvCode) (p0 p1 p2 : Nat) : (d.event st e p0 p1 p2).aon = d.aon := rfl
@[simp] theorem Dev.event_boot (st : Straps) (e : EvCode) (p0 p1 p2 : Nat) : (d.event st e p0 p1 p2).boot = d.boot := rfl
@[simp] theorem Dev.event_rxq (st : Straps) (e : EvCode) (p0 p1 p2 : Nat) : (d.event st e p0 p1 p2).rxq = d.rxq := rfl
@[simp] theorem Dev.event_out (st : Straps) (e : EvCode) (p0 p1 p2 : Nat) : (d.event st e p0 p1 p2).out = d.out := rfl
@[simp] theorem Dev.event_free (st : Straps) (e : EvCode) (p0 p1 p2 : Nat) : (d.event st e p0 p1 p2).free = d.free := rfl

/-! `Dev.draw`. -/

@[simp] theorem Dev.draw_regs (n : Nat) : (d.draw n).2.regs = d.regs := rfl
@[simp] theorem Dev.draw_time (n : Nat) : (d.draw n).2.time = d.time := rfl
@[simp] theorem Dev.draw_ports (n : Nat) : (d.draw n).2.ports = d.ports := rfl
@[simp] theorem Dev.draw_host (n : Nat) : (d.draw n).2.host = d.host := rfl
@[simp] theorem Dev.draw_twin (n : Nat) : (d.draw n).2.twin = d.twin := rfl
@[simp] theorem Dev.draw_tile (n : Nat) : (d.draw n).2.tile = d.tile := rfl
@[simp] theorem Dev.draw_diag (n : Nat) : (d.draw n).2.diag = d.diag := rfl
@[simp] theorem Dev.draw_therm (n : Nat) : (d.draw n).2.therm = d.therm := rfl
@[simp] theorem Dev.draw_cal (n : Nat) : (d.draw n).2.cal = d.cal := rfl
@[simp] theorem Dev.draw_nvm (n : Nat) : (d.draw n).2.nvm = d.nvm := rfl
@[simp] theorem Dev.draw_sec (n : Nat) : (d.draw n).2.sec = d.sec := rfl
@[simp] theorem Dev.draw_rcd (n : Nat) : (d.draw n).2.rcd = d.rcd := rfl
@[simp] theorem Dev.draw_crc (n : Nat) : (d.draw n).2.crc = d.crc := rfl
@[simp] theorem Dev.draw_mbx (n : Nat) : (d.draw n).2.mbx = d.mbx := rfl
@[simp] theorem Dev.draw_parity (n : Nat) : (d.draw n).2.parity = d.parity := rfl
@[simp] theorem Dev.draw_aon (n : Nat) : (d.draw n).2.aon = d.aon := rfl
@[simp] theorem Dev.draw_boot (n : Nat) : (d.draw n).2.boot = d.boot := rfl
@[simp] theorem Dev.draw_rxq (n : Nat) : (d.draw n).2.rxq = d.rxq := rfl
@[simp] theorem Dev.draw_out (n : Nat) : (d.draw n).2.out = d.out := rfl

/-! Their own fields. -/

@[simp] theorem Dev.wr_regs_eq (a : Nat) (v : Word) : (d.wr a v).regs = Cells.write regReset d.regs a v := rfl
@[simp] theorem Dev.emit_out_eq (o : Out) : (d.emit o).out = d.out ++ [o] := rfl
@[simp] theorem Dev.modPort_ports_eq (x : Nat) (g : PortSt → PortSt) : (d.modPort x g).ports = d.ports.modify x g := rfl
@[simp] theorem Dev.complete_cpls_eq (c : Cpl) : (d.complete c).host.cpls = d.host.cpls ++ [c] := rfl
@[simp] theorem Dev.draw_free_eq (n : Nat) : (d.draw n).2.free = d.free + 1 := rfl
@[simp] theorem Dev.eventF_queue (st : Straps) (e : EvCode) (fl p0 p1 p2 : Nat) :
    (d.eventF st e fl p0 p1 p2).rcd.queue = d.rcd.queue := rfl

/-! `Dev.setAll`. -/

@[simp] theorem Dev.setAll_time (l : List (Fld × Nat)) : (d.setAll l).time = d.time := by
  induction l generalizing d with
  | nil => rfl
  | cons p rest ih => obtain ⟨g, v⟩ := p; simp [Dev.setAll, ih]
@[simp] theorem Dev.setAll_ports (l : List (Fld × Nat)) : (d.setAll l).ports = d.ports := by
  induction l generalizing d with
  | nil => rfl
  | cons p rest ih => obtain ⟨g, v⟩ := p; simp [Dev.setAll, ih]
@[simp] theorem Dev.setAll_host (l : List (Fld × Nat)) : (d.setAll l).host = d.host := by
  induction l generalizing d with
  | nil => rfl
  | cons p rest ih => obtain ⟨g, v⟩ := p; simp [Dev.setAll, ih]
@[simp] theorem Dev.setAll_twin (l : List (Fld × Nat)) : (d.setAll l).twin = d.twin := by
  induction l generalizing d with
  | nil => rfl
  | cons p rest ih => obtain ⟨g, v⟩ := p; simp [Dev.setAll, ih]
@[simp] theorem Dev.setAll_tile (l : List (Fld × Nat)) : (d.setAll l).tile = d.tile := by
  induction l generalizing d with
  | nil => rfl
  | cons p rest ih => obtain ⟨g, v⟩ := p; simp [Dev.setAll, ih]
@[simp] theorem Dev.setAll_diag (l : List (Fld × Nat)) : (d.setAll l).diag = d.diag := by
  induction l generalizing d with
  | nil => rfl
  | cons p rest ih => obtain ⟨g, v⟩ := p; simp [Dev.setAll, ih]
@[simp] theorem Dev.setAll_therm (l : List (Fld × Nat)) : (d.setAll l).therm = d.therm := by
  induction l generalizing d with
  | nil => rfl
  | cons p rest ih => obtain ⟨g, v⟩ := p; simp [Dev.setAll, ih]
@[simp] theorem Dev.setAll_cal (l : List (Fld × Nat)) : (d.setAll l).cal = d.cal := by
  induction l generalizing d with
  | nil => rfl
  | cons p rest ih => obtain ⟨g, v⟩ := p; simp [Dev.setAll, ih]
@[simp] theorem Dev.setAll_nvm (l : List (Fld × Nat)) : (d.setAll l).nvm = d.nvm := by
  induction l generalizing d with
  | nil => rfl
  | cons p rest ih => obtain ⟨g, v⟩ := p; simp [Dev.setAll, ih]
@[simp] theorem Dev.setAll_sec (l : List (Fld × Nat)) : (d.setAll l).sec = d.sec := by
  induction l generalizing d with
  | nil => rfl
  | cons p rest ih => obtain ⟨g, v⟩ := p; simp [Dev.setAll, ih]
@[simp] theorem Dev.setAll_rcd (l : List (Fld × Nat)) : (d.setAll l).rcd = d.rcd := by
  induction l generalizing d with
  | nil => rfl
  | cons p rest ih => obtain ⟨g, v⟩ := p; simp [Dev.setAll, ih]
@[simp] theorem Dev.setAll_crc (l : List (Fld × Nat)) : (d.setAll l).crc = d.crc := by
  induction l generalizing d with
  | nil => rfl
  | cons p rest ih => obtain ⟨g, v⟩ := p; simp [Dev.setAll, ih]
@[simp] theorem Dev.setAll_mbx (l : List (Fld × Nat)) : (d.setAll l).mbx = d.mbx := by
  induction l generalizing d with
  | nil => rfl
  | cons p rest ih => obtain ⟨g, v⟩ := p; simp [Dev.setAll, ih]
@[simp] theorem Dev.setAll_parity (l : List (Fld × Nat)) : (d.setAll l).parity = d.parity := by
  induction l generalizing d with
  | nil => rfl
  | cons p rest ih => obtain ⟨g, v⟩ := p; simp [Dev.setAll, ih]
@[simp] theorem Dev.setAll_aon (l : List (Fld × Nat)) : (d.setAll l).aon = d.aon := by
  induction l generalizing d with
  | nil => rfl
  | cons p rest ih => obtain ⟨g, v⟩ := p; simp [Dev.setAll, ih]
@[simp] theorem Dev.setAll_boot (l : List (Fld × Nat)) : (d.setAll l).boot = d.boot := by
  induction l generalizing d with
  | nil => rfl
  | cons p rest ih => obtain ⟨g, v⟩ := p; simp [Dev.setAll, ih]
@[simp] theorem Dev.setAll_rxq (l : List (Fld × Nat)) : (d.setAll l).rxq = d.rxq := by
  induction l generalizing d with
  | nil => rfl
  | cons p rest ih => obtain ⟨g, v⟩ := p; simp [Dev.setAll, ih]
@[simp] theorem Dev.setAll_out (l : List (Fld × Nat)) : (d.setAll l).out = d.out := by
  induction l generalizing d with
  | nil => rfl
  | cons p rest ih => obtain ⟨g, v⟩ := p; simp [Dev.setAll, ih]
@[simp] theorem Dev.setAll_free (l : List (Fld × Nat)) : (d.setAll l).free = d.free := by
  induction l generalizing d with
  | nil => rfl
  | cons p rest ih => obtain ⟨g, v⟩ := p; simp [Dev.setAll, ih]

end Sys2Proof.Machine
end

