-- ==== Sys2Proof/WellFormed.lean ====
section
/-! DEFINITION. Which commands are well formed: the widths and lengths that the spec gives the operands that come from
outside (a register address of 24 bits, a slot of 64 bytes, a line rate). A command that is not well formed can reach no
device; its meaning is defined all the same. -/

namespace Sys2Proof

/-- A register address: 24 bits (R438). -/
def addrOk (a : Nat) : Bool := decide (a < 0x1000000)

/-- Lists of lists, all of one length. -/
def allLen {α : Type} (n : Nat) (l : List (List α)) : Bool := l.all fun x => x.length == n

/-- The code of a 12-bit converter (R273). -/
def adcOk (l : List Nat) : Bool := l.all fun c => decide (c < 4096)

/-- The operands that a command can carry. -/
def Instr.wellFormed : Instr → Bool
  | .registerWrite _ addr _ _ => addrOk addr
  | .timeNowRead _ addr _ => addrOk addr
  | .servicePortWrite _ addr _ => addrOk addr
  | .servicePortRead _ addr bytes => addrOk addr && decide (1 ≤ bytes)
  | .descFetch _ slot => slot.length == 64
  | .flipParse slots _ => allLen 64 slots && decide (1 ≤ slots.length)
  | .layerReadComplete entry _ _ => decide (entry < 16)
  | .layerReadFail entry _ => decide (entry < 16)
  | .pcieLinkUp gen width => decide (1 ≤ gen) && decide (gen ≤ 5) && [1, 2, 4, 8].contains width
  | .ptpArpRequest _ _ asker => decide (asker < 2 ^ 48)
  | .thermalRound raw => raw.length == 12
  | .calSlotMeasure cells _ => cells.length == 384
  | .lampTest codes => adcOk codes
  | .pinTest codes => adcOk codes
  | .rowSlotStart s => adcOk (s.columns.map Prod.snd) && adcOk s.vled && adcOk s.ntc
  | .yoyoReceive bytes => decide (1 ≤ bytes.length)
  | .powerRemoved (some b) => decide (b.bytes.length ≤ 1024)
  | .nvmCommit kind _ => decide (kind < 256)
  | _ => true

end Sys2Proof
end

