-- ==== Sys2Proof/Tests/Slice0.lean ====
section
/-! SUPPORT. Tests: the checks of WellFormed, worked examples of the spec, and for every statement a state and operands that
meet its hypotheses. -/

namespace Sys2Proof.Machine

set_option maxRecDepth 20000
set_option linter.unusedVariables false
set_option Elab.async false

/-! Small states and operands. -/

/-- A tile just after reset, with its device changed. -/
def tileAt (f : Dev → Dev) : State := { State.reset with dev := f State.reset.dev }

/-- A sender just after reset, with its device changed. -/
def senderAt (f : Dev → Dev) : State :=
  { State.reset with straps := { State.reset.straps with role := .sender }, dev := f State.reset.dev }

/-- A state with its device changed. -/
def withDev (s : State) (f : Dev → Dev) : State := { s with dev := f s.dev }

/-- An event record. -/
def evA : EventRec :=
  { code := 0x0201, sev := 5, source := 64, seq := 0, secs := 7, ns := 8, tepoch := 0, flags := 64, p0 := 1, p1 := 2, p2 := 3 }

/-- The description of a register, and one of its fields. -/
def regOf (a : Nat) : RegDesc := (regAt a).getD ⟨0, [], []⟩
def fieldNo (a k : Nat) : FieldDesc := (regOf a).fields.getD k ⟨0, 0, .ro, 0, []⟩

/-- A frame of mode 0 without layers, past its deadline and composed. -/
def frameA : TileFrame :=
  { newFrame 9 (zeros 32) with present := gridAt 0 1, judged := true, composed := true }

/-- A tile at the present time of that frame. -/
def tilePresenting (f : TileFrame) : State :=
  tileAt fun d => { d with tile.frames := [f], tile.back := [(5, 7)], tile.front := [(1, 1)], time.clk.ns := gridAt 0 1 }

/-- A tile whose refreshes run: frame 1 of the grid, refresh `j` of four of one row slot each. -/
def tileDriving (j slot : Nat) : State :=
  tileAt fun d => { d with
    time.clk.ns := gridAt 0 1 + 20000000
    tile.drive := { d.tile.drive with
      any := true, k := 1, present := gridAt 0 1, mode := some 0, m := 4, q := 32000, e := 600, d := 12, nl := 4, s := 32,
      umax := 9600, j := j, slot := slot, driving := true, codes := List.replicate 48 0, scales := List.replicate 48 0 } }

/-- A tile whose diagnostic slot of row i is open in frame k, with every bank on and every supply sample valid. -/
def tileTesting (k i : Nat) : State :=
  tileAt fun d => { d with
    tile.eff := (List.range 48).map (fun b => (LDRV_BANK_IFS b, (100 : Word))) ++
      [(DIAG_CTRL, withField (regReset DIAG_CTRL) DIAG_CTRL_REPEAT.lo DIAG_CTRL_REPEAT.width 1)]
    tile.drive := { d.tile.drive with
      any := true, k := k, mode := some 0, m := 4, q := 32000, e := 600, d := 12, nl := 3, s := 32, umax := 9600, j := 4,
      slot := i + 1, open_ := true, driving := true } }.setAll
    ((List.range 4).flatMap fun n => [(DIAG_VLED_MV n, 4000), (DIAG_VLED_VALID n, 1)])

/-- A descriptor of 64 bytes with its CRC. -/
def sealedDesc (l : List Byte) : List Byte :=
  let b := (l ++ zeros 60).take 60
  b ++ leBytes (crc32c b) 4

/-- A descriptor: opcode, flags, tag, target, and what stands from offset 10 on. -/
def descOf (op flags tag target : Nat) (rest : List Byte) : List Byte :=
  sealedDesc (leBytes op 2 ++ leBytes flags 2 ++ leBytes tag 4 ++ leBytes target 2 ++ rest)

/-- A packet received on a port. -/
def rxOf (port typ src dst : Nat) (body : List Byte) : RxPkt :=
  { port := port, bytes := mkPkt typ false false 0 src dst false 0 body, tRx := 0 }

/-- A sender whose firmware runs, with one command descriptor, its device changed first. -/
def cmdAtSender (i : Nat) (desc : List Byte) (f : Dev → Dev) : State :=
  senderAt fun d => { f d with boot.mcRunning := true, host.descs := [fetchedCmd i desc] }

/-- A CMD with a descriptor, as a tile receives it on port A. -/
def cmdPkt (desc : List Byte) : RxPkt := rxOf 0 PT_CMD 4096 77 (descBody 9 CK_DESC desc)

/-- A tile in a chain: it has an address, and port B is in LS0. -/
def chained : List (Fld × Nat) := [(LANE_STAT_STATE 1, P_LS0), (XPT_ADDR_VALID, 1)]

/-- A tile in a chain, whose firmware runs, with one CMD that waits, its device changed first. -/
def cmdAtTile (desc : List Byte) (f : Dev → Dev) : State :=
  tileAt fun d => { (f d).setAll chained with boot.mcRunning := true, tile.cmds := [(cmdPkt desc, 0, 0)] }

/-- A CLEAR_REC token of 68 bytes behind a signature's place: TYPE 1, TSEQ 9, any device. -/
def tokA : List Byte := leBytes 1 2 ++ zeros 2 ++ leBytes 9 4 ++ zeros 60

/-- A sender's state with a position of a port present. -/
def presentAt (x pos : Nat) (s : State) : State :=
  withDev s fun d => (d.modPort x fun p => { p with present := [(pos, d.ticks)] }).setAll
    [(LANE_CTRL_TXIDLE x, 0), (LANE_STAT_STATE x, P_LS0)]

/-- A bulk descriptor: opcode, object, OFFSET, LENGTH, DATA_CRC and PARAM, for target 77. -/
def bulkDesc (op ob off len crc : Nat) (param : List Byte) : List Byte :=
  descOf op 0 7 77 (leBytes ob 2 ++ leBytes off 4 ++ leBytes 0x1000 8 ++ leBytes len 4 ++ leBytes crc 4 ++ param)

/-- BULK_OPEN, BULK_DATA and BULK_PULL as a tile receives them on port A. -/
def openPkt (desc : List Byte) : RxPkt := rxOf 0 PT_CMD 4096 77 (descBody 9 CK_BULK_OPEN desc)
def dataPkt (off : Nat) (data : List Byte) : RxPkt := rxOf 0 PT_CMD 4096 77 (bulkDataBody 9 off data)
def pullPkt (off n : Nat) : RxPkt := rxOf 0 PT_CMD 4096 77 (bulkPullBody 9 off n)

/-- An accepted transfer at a tile. -/
def bulkInOf (desc data : List Byte) : BulkIn :=
  { pkt := openPkt desc, data := data, snapshot := none, refused := 0, refusedValue := 0, boundary := none, opening := none,
    segs := [], pulls := [], last := none }

/-- A LOCAL TO_DEVICE descriptor for data, and a LOCAL FROM_DEVICE one. -/
def bulkLocal (op ob off : Nat) (data param : List Byte) : List Byte :=
  descOf op 2 7 77 (leBytes ob 2 ++ leBytes off 4 ++ leBytes 0x1000 8 ++ leBytes data.length 4 ++ leBytes (crc32c data) 4 ++
    param)
def bulkGet (ob len : Nat) (param : List Byte) : List Byte :=
  descOf 2 2 7 77 (leBytes ob 2 ++ leBytes 0 4 ++ leBytes 0x1000 8 ++ leBytes len 4 ++ leBytes 0 4 ++ param)

/-- A sender, or a tile in a chain, with one TO_DEVICE transfer to carry out, its device changed first. -/
def putAtSender (i : Nat) (desc data : List Byte) (f : Dev → Dev) : State :=
  senderAt fun d => { f d with boot.mcRunning := true, host.descs := [bulkAt i desc .started data] }
def putAtTile (desc data : List Byte) (f : Dev → Dev) : State :=
  tileAt fun d => { (f d).setAll chained with
    boot.mcRunning := true, tile.bulks := [{ bulkInOf desc data with last := some (dataPkt 0 data, 0, 0) }] }

/-- The same for a FROM_DEVICE transfer. -/
def getAtSender (i : Nat) (desc : List Byte) (f : Dev → Dev) : State :=
  senderAt fun d => { f d with boot.mcRunning := true, host.descs := [bulkAt i desc .fetched []] }
def getAtTile (desc : List Byte) (f : Dev → Dev) : State :=
  tileAt fun d => { (f d).setAll chained with boot.mcRunning := true, tile.bulks := [bulkInOf desc []] }

/-- A committed eMRAM slot. -/
def committed (kind slot seq : Nat) (bytes : List Byte) : NvmSlot :=
  { bytes := bytes, written := 0, commit := recordBytes kind slot seq bytes.length (sha256 bytes), prior := [] }

/-- A manifest entry for a management image of one chunk, and a manifest with it and a microcode entry. -/
def mgmtEntryOf (image : List Byte) : List Byte :=
  leBytes 1 1 ++ leBytes 1 1 ++ zeros 2 ++ leBytes 1 4 ++ leBytes image.length 4 ++ zeros 4 ++ sha256 image ++ zeros 16 ++
    sha256 image
def mfstA : List Byte :=
  leBytes 0x54464D4F 4 ++ leBytes 1 2 ++ [0, 2] ++ leBytes 1 4 ++ leBytes 3 2 ++ leBytes 2 2 ++ leBytes 224 4 ++ zeros 44 ++
  mgmtEntryOf [1, 2, 3, 4] ++ (leBytes 3 1 ++ zeros 7 ++ leBytes 4 4 ++ zeros 4 ++ sha256 [9, 9, 9, 9] ++ zeros 16)

/-- A device with that manifest staged and the lease held by the chain. -/
def stagingDev (d : Dev) : Dev :=
  { d with
    nvm.manifest := [NvmSlot.empty, committed 1 1 5 mfstA], nvm.trusted.manifest := 0, nvm.trusted.staged := true
    sec.lease := some (SRC_CHAIN, 0, 77) }

/-- A device whose settings record holds one block 3. -/
def withBlock3 (d : Dev) : Dev :=
  { d with nvm.settings := [committed 6 0 1 (settingsRecord [⟨3, 7, crc32c [1, 2, 3, 4], [1, 2, 3, 4]⟩]), NvmSlot.empty] }


/-- The bits of a list as a number, the first one least significant. -/
def bitsValue : List Bool → Nat
  | [] => 0
  | b :: bs => b2n b + 2 * bitsValue bs

/-- Line levels as the level indices of a codeword off the line. -/
def levelsWord (l : List Int) : RxCodeword := BitVec.ofNat 5440 ((l.zipIdx.map fun e => ((e.1 + 3) / 2).toNat * 4 ^ e.2).sum)

/-- The codeword with a link control field and cells, as a lane with this state receives it. -/
def codewordOf (l : LaneSt) (link : Nat) (cells : List (List Byte)) : RxCodeword :=
  levelsWord (sendCodeword { l with txScr := l.rxScr, txPrev := l.rxPrev } (payloadBits link cells)).1

/-- Ten cells of which the first is that of a one-cell packet. -/
def cellsWith (pkt : List Byte) : List (List Byte) := packetCells pkt ++ List.replicate 9 idleCell

/-- An ENUM on a port of a tile or a sender. -/
def enumRx (port src chain next : Nat) : RxPkt :=
  { port := port, bytes := mkPkt PT_CMD true false 0 src 0 false 0 (enumBody 9 chain next), tRx := 0 }

/-- A device with both lanes of a port locked. -/
def lockedPort (x : Nat) (d : Dev) : Dev :=
  (d.setAll [(LANE_STAT_STATE x, P_LS0), (LANEN_STAT_LOL x 0, 0), (LANEN_STAT_LOL x 1, 0), (LANEN_STAT_LOS x 0, 0),
    (LANEN_STAT_LOS x 1, 0)]).modPort x fun p => { p with refwait := false, lanes := [LaneSt.init, LaneSt.init].map fun l =>
      { l with discardFirst := false } }

/-- A WITNESS body: EPOCH, flags. -/
def witBody (epoch flags : Nat) : List Byte := leBytes epoch 4 ++ leBytes flags 1 ++ zeros 7

/-- A flip header: layers, mode, tag, flags, defer limit, present time, with its CRC. -/
def flipHdr (layers mode tag flags defer ns sec : Nat) : List Byte :=
  sealedDesc (leBytes 1 2 ++ leBytes layers 1 ++ leBytes mode 1 ++ leBytes tag 4 ++ leBytes flags 2 ++ leBytes defer 1 ++
    zeros 1 ++ leBytes ns 4 ++ leBytes sec 8)

/-- A layer entry: number, format, flags, 8 by 8 source samples at 0x1000 shown 1:1 at the origin. -/
def layerEntry (number format flags fence : Nat) : List Byte :=
  sealedDesc (leBytes number 1 ++ leBytes format 1 ++ leBytes flags 1 ++ zeros 1 ++ leBytes 8 2 ++ leBytes 8 2 ++
    leBytes 0x1000 8 ++ leBytes 0 8 ++ leBytes 64 4 ++ zeros 8 ++ leBytes 8 2 ++ leBytes 8 2 ++ leBytes 0xFFF 2 ++ zeros 2 ++
    leBytes fence 8 ++ leBytes 5 8)

/-- A flip of mode 0 with these layer states, present at grid instant 3. -/
def flipA (layers : List LayerSt) : Flip :=
  { index := 7, header := flipHdr layers.length 0 99 0 0 0 0, layers := layers, guards := [], mode := 0, present := gridAt 0 3,
    modeChange := false, deferred := 0, launched := none, closed := false, ended := false, ports := [], dropped := false }

/-- A layer not yet read. -/
def layerA (format flags : Nat) (ready : Bool) : LayerSt :=
  { entry := layerEntry 2 format flags 0x2000, ready := ready, held := false, retired := false }

/-- A sender whose Flip Ring is enabled and holds eight slots, its wall time 0, a mode in force. -/
def flipSender (cur : Nat) (f : Dev → Dev) : State :=
  senderAt fun d => { f d with host.hostIdx := [8, 0, 0, 0, 0] }.setAll
    [(RING_CFG_EN 0, 1), (RING_CFG_LOG2SIZE 0, 8), (RING_FLIP_MODE_CUR, cur), (TIME_LAUNCH_LEAD_US, 5000)]

/-- A sender's port 1 feeds position 5, whose footprint stands at the origin. -/
def feeding (d : Dev) : Dev :=
  (d.setAll [(TWIN_STAT_MODES, 4 * M_FEED), (LANE_STAT_STATE 1, P_LS0), (CMP_FP_ARM_PEND, 0)]).wr (CMP_FM_CUR1 1 5) 1
    |>.modPort 1
    fun p => { p with cur := some .time }

/-- A tile with an address, its device changed. -/
def addressed (f : Dev → Dev) : State := tileAt fun d => f (d.set XPT_ADDR_VALID 1)

/-- A sender whose twin logic runs, in a state, every port in a mode; the peer's heartbeats have been absent for long. -/
def twinSender (st mode : Nat) (f : Dev → Dev) : State :=
  senderAt fun d => { f (d.setAll [(TWIN_STAT_STATE, st), (TWIN_STAT_MODES, mode * 85), (TWIN_CTRL_EN, 1)]) with
    twin.en := true, time.clk.ticks := 1000000000 }

/-- A Yo-yo message: STATE byte, REQ, epoch, pair. -/
def yoyoA (st req epoch pair : Nat) : List Byte :=
  twinMsg (leBytes 1 1 ++ leBytes st 1 ++ zeros 1 ++ leBytes req 1 ++ leBytes epoch 4 ++ zeros 2 ++ leBytes pair 1 ++ zeros 61)

/-- A WITNESS kept by a sender: port, epoch, TAIL. -/
def witA (port epoch : Nat) (tail : Bool) (tick : Nat) : WitRec :=
  { port := port, position := 3, unasg := false, epoch := epoch, pri := false, tail := tail, valid := true, tick := tick }

/-- A layer 2 message without a tag, in domain 127. -/
def wireA : PtpWire := ⟨false, none, 127⟩

/-- Calm analogue conditions, a calibration step, and a CAL_RUN descriptor. -/
def calmA : CalConditions := { rowActive := false, columnCurrent := false, notStable := false, driveReset := false }
def calStepA : CalStep := { item := 2, inService := false, port := 0, waiter := none, slots := [], tj := [] }
def calDesc (flags data : Nat) : List Byte := descOf 0x500 flags 7 77 (zeros 14 ++ leBytes data 4)

/-- A factory record with all items, and the runs of an ADC step that reads these codes on every bank. -/
def factoryA : List Byte := calSeal 0 (putBytes calDefaults 2 [7])
def adcRunsA (lo hi : Nat) : List (List (Nat × Nat)) := List.replicate 3 (List.replicate 48 (lo, hi))

/-- A tile's device with a staged manifest whose image and microcode are in place. -/
def readyDev (d : Dev) : Dev :=
  { stagingDev d with
    nvm.trusted.chunks := 1, nvm.trusted.built := true, sec.readyFor := some false
    nvm.ucode := [NvmSlot.empty, committed 3 1 2 [9, 9, 9, 9]] }

/-- UPD_ACTIVATE with WALL for a P_a in nanoseconds. -/
def actDesc (flags pa : Nat) : List Byte :=
  descOf 0x604 flags 7 77 (zeros 14 ++ leBytes 0x10000 4 ++ leBytes (pa % 1000000000) 4 ++ leBytes (pa / 1000000000) 8)

/-- A sender's device that feeds position 5 of port 1, which is present; the port is sending. -/
def feedingTile (d : Dev) : Dev :=
  (feeding d).modPort 1 fun p => { p with present := [(5, 0)] }

/-- An UPDATE packet on port A with SESSION 9: KIND, OBJECT, OFFSET, ARG0, the manifest's hash and data. -/
def updPktOf (kind obj off arg0 : Nat) (mfst data : List Byte) : RxPkt :=
  rxOf 0 PT_UPDATE 4096 0 (updateBody 9 kind obj off arg0 0 mfst data)
def updPkt (kind obj off : Nat) (data : List Byte) : RxPkt := updPktOf kind obj off data.length (zeros 12) data

/-- A tile in a chain with that packet received, its device changed first. -/
def updateAt (k : RxPkt) (f : Dev → Dev) : State :=
  tileAt fun d => { (f d).setAll chained with rxq := [k] }

/-- A device whose chain lease stands and that has nothing staged. -/
def stagedDev (d : Dev) : Dev := { d with sec.lease := some (SRC_CHAIN, 0, 77) }

/-- A wall-wide activation of P_a 500 ns that index 5 waits for, its tiles that are armed; a sender that runs it. -/
def dominoOf (good : List Nat) (self : Bool) : Domino :=
  { index := 5, activate := true, session := 5, asked := [], good := good, bad := [], self := self, pa := 500, tick := 0 }
def dominoAt (good : List Nat) (armed : Option (Nat × Bool)) (self : Bool) : State :=
  senderAt fun d => { feedingTile d with
    host.descs := [{ fetchedCmd 5 (actDesc 2 500) with phase := .started }], sec.domino := some (dominoOf good self)
    nvm.trusted.armed := armed }

/-- A tile with a call to the trusted monitor waiting. -/
def callAt (n : Nat) (f : Dev → Dev) : State :=
  tileAt fun d => (f d).setAll [(MBX_STAT_FULL, 16), (MBX_DATA_WORD 4, n)]


/-- Words of 400 bits, the first one least significant. -/
def chunksValue : List Nat → Nat
  | [] => 0
  | w :: ws => w + 2 ^ 400 * chunksValue ws

/-- Codewords as lane 0 and lane 1 of a locked port 1 receive them after reset: idle cells, and an RSP. -/
def idleBits0 : RxCodeword := BitVec.ofNat 5440 (chunksValue
  [0xaaa1aaa957777c0001f777537770eaaaaaaaa1aaaa37776eaaaa37774b7775aaaa60000000009dddd6aaa91ddddddddf0000,
   0xa317029dacb47c08045c19a73dd2070233034522b2d95aa614ae6b6aef55cdca6a980b474b77749aaa8dddd977777c000ae,
   0x997550290df4a4c2ba8db9b2dc631a2c43a6496a04b5e5f00c5627c89bf4523f500e37f31b80c5c77bcf5775af9bbf2a401c,
   0xa03f3056e58b0c60a24ef10c06929b8025851849f42aae78951d37879433a9f33aaba6b233daf21464cac5fe1e7b4fe09fc5,
   0xe71e66acbbcb2bebce069042cd07d1e7b80123a65901e53ba73df6314ef5fb2580dec529552d1eb80d42d7e862f0868fb20c,
   0x2f7cbd3007e19c35d339a7469f69b11d847373671a2f4d03d969891f6989ab3e3dcd28dbd350d46aa08bc016cdce9ba9568b,
   0x9c0674ba379edeb1c1cd87244514ca29a100272e1690e95d175f78234f223a0d58919cba7312f39d001b11cc651564995f00,
   0x12698f7011b86e2518028cbbfd921e412076bc15f5d84b1593a4408a995a9310b473426639bd436689bb2bc5cce818b5fe40,
   0x3663c410d81cd23bbee33570eb44fbe14dd3493915e3a19782dd5dc56640bc77fc7dc670929ff8c9ca495ef8fbb92dc1e0fe,
   0x869d71c866931f7ced9dee15a80c12845ce3e3fcfd59b68158c9e927931495377d2e4af69b43dbd831a8a1095c4008839c09,
   0x890bc5ad66bcef7bd49878bf841826259f3dc3a6affc97b8e069d7c094bc29dbab1fe72fd8a82cc7ffc1dcc31da7f1f244db,
   0xf984750553b1704471f381fa3ff1f66278d8e595c318595418e435ed389efd9f740bbb181cb55d57fc59db216df54df9c3db,
   0x60085d04f7cd2410726f7831b8b021d876eb86e1142e674f41eed54bc8ed6b4c6a18d3b82803e2a7702bee7b9681344f3e14,
   0x8a5e24064215b2b9f9bc7e282bf7df2cfea491aa9f18effe5c27959810a0])
def idleBits1 : RxCodeword := BitVec.ofNat 5440 (chunksValue
  [0xaaa14003eeaaa3aaab7aaa85000dc00000000beaaa3aaa92aaaa3aaabc00024000c400000000900009000380000000024000,
   0xa20bda9fa790c7c087b8388da6478ac2899ac4520650c940cb9119e9d128c6760903295ede100014eaa8eaaa6eaaaa3aaa02,
   0x33df379c7d2e0f01edfdb64d1ec9a7c6e502496d7beebf5ae689417fce5ef8b2900d9d59cef738377b242005b865132a47b6,
   0xac897a6fd8a0f5788378ed6ac51212dc88440568450066a22de8054ba9906899c450c7f26351cbe9497b77140bae53bb56f,
   0x30e73c061f2184d164cb6d283d07f6b0791efc825901e534173c2cce0fb5fd88f7dc52ec952eb0125a12da113e9a6c3f83de,
   0xf460bc7ddd4cf437798641e299c64ee9810ae6cd6bef5ea973133c6c69885e6117605fe57937146c048890493f7e991f236d,
   0x82ef813eeac4747f84566a22d788c186736f65aa7c20655bcdf804674b25872fe97c93108e687df4015dc4e865158b2668ad,
   0xee6a582fae4aa7f29adf4a5e2108eb67d7ac734b9f4fa558cb951d8f5615c4ee704cccc569bcb78accde0d97755fbf381991,
   0x5e3c8437034cafc1611a68a7df7b17ce1ad416e9d815ccca034080e633d3e3acf3a358a7cd022d7c3d9a6b8844460e9ebc9b,
   0x7929be9856871a99b7c6b95a45e50757d8d6195f2660e93b3f0425f036214d100b6d7d724eb60e0f8befdb70805c155395d4,
   0x8c6cb70722d66a57d72505369eb1fcf23b0a95d6ae4bfd2f0ac0449d0be688087578da6e360d396db611c49febcadb0211a1,
   0x3f3473a083b24de82de6a750accb694caf238f3cb648a662b20e82dd3c92cd6b7f6443d91e3c77c726f58894906fe37e9cfe,
   0xb6e36b728d66d701e71a3c2b8211ac4baaeb6afafad98af7a5c1fe0a4edbb7f69d36c3786879a1f37c41426afe86c470c547,
   0x3b65332ba344ec7c0889fae313c0cff8c693b3b1ca4e3e3295e4dde3de9])
def rspBits : RxCodeword := BitVec.ofNat 5440 (chunksValue
  [0x892b33b02c202547ee47270276d9340410ca6638b895555cba1278b2cba84844d5e5eaa8da12f40b887965eaaaaadfbf0000,
   0x2ad3df2ae4d1f6331a7b2aea3d3a4bd1c8d9b89505b7021239e50a0eb90755727e923a79c6a49e28cae2121847d0d3d41e02,
   0x8e6a0acd30d78f5aabcc4cffb2de862a2b3276e807843c12318c34ce60e37cfa8a12c1d1b9de9f48fadce3ae49f3a4fac067,
   0xb06938fe3baf6fd0d83fcf333a5bac553bdeb1d4c642e7d17037c5cda878517728e178fc2fa9cf17f995aa4c070651f25064,
   0x11e1aba2a8b80ee545a73eed8367b23a73e0411c9cfca0217448f7438325f93e7d48a95c4c80c2bc2933c4c57262f5186801,
   0xdcf71494c837b3c1ad1c8ba8855378bc06ab763efe534ad64c36380919eecffdced303871ec15f32202ec3955ba2b814b86f,
   0xaf807a4b8bf79257ff090da40ae1cbbb6af0c2cc43f3612ed4a85af7789c4893a69b6084b2674ed20331a4683c920305e387,
   0x8d87709fab4c9546e62000c806576f0e20ed7a7f0e6613cc12ad245d02e0e688d47b0c83b518f84f094c6630c5b0eb888c2b,
   0x6c2976c04fdf3427f1318e2f5405448a3a01e6320e770ffe87245e2271a1cf0fc8da702c38015ecfa275551455acf4048b8b,
   0x11656c50aba8f97bc4a28cecdb28c4fa3ade7676308bb0462773148c6b253a822b3ca815e6dfeda0bb2ccedb04116e55736e,
   0x4cacd19abb2a35b24754faa335f32857b61398ec885c9d61aa5434f74b51f4cf397e582b00ee3c92bab11753d9fad4e36db,
   0xd792fc304e6b742ce44713fd3922964b06f2f1c06c0cd05e0d523d2c2ec89274d395b25678398629ad4ff1a1facf85aa0b99,
   0xe553d6929591a29a4c25bfe0012d97679bf94c95344a25801d325ff1a675cd1da5ad59870b11e960640e0a35a8343f0fde6f,
   0x8a3ae6d193c9726a0645fca624e31a7a7862dbefad51a092b166f594a970])
/-- A codeword that does not decode: every symbol at the highest level. -/
def noBits : RxCodeword := BitVec.ofNat 5440 (2 ^ 5440 - 1)

/-- The VLED_SNS readings of all banks stand at 4.0 V. -/
def vledOn (d : Dev) : Dev := d.setAll ((List.range 4).flatMap fun n => [(DIAG_VLED_MV n, 4000), (DIAG_VLED_VALID n, 1)])

/-- A management image: entry 0 starts core 0, entry 1 core 1, each with one byte behind the table; the other entries are
no core's. And the manifest entry that names an image. -/
def imageA : List Byte :=
  ([0, 1, 0, 0] ++ leBytes 0 4 ++ leBytes 256 4 ++ leBytes 1 4) ++ ([1, 1, 0, 0] ++ leBytes 64 4 ++ leBytes 257 4 ++ leBytes 1
    4) ++
  ((List.range 14).flatMap fun _ => (0xFF : Byte) :: zeros 15) ++ [7, 8]
def entryA (image : List Byte) : MEntry :=
  { kind := 1, version := 1, length := image.length, target := sha256 image, hashes := [], signed := [], endorsement := [], size := 64 }

/-! One ill-formed command for each check of WellFormed, and well-formed ones beside it. -/

theorem test_wf_address : (Instr.registerWrite .mc0 0x1000000 .word 0).wellFormed = false := by decide
theorem test_wf_address_ok : (Instr.registerWrite .mc0 0xFFFFFC .word 0).wellFormed = true := by decide
theorem test_wf_time_address : (Instr.timeNowRead .mc1 0x1000000 .word).wellFormed = false := by decide
theorem test_wf_service_write : (Instr.servicePortWrite (.seven 0x58) 0x1000000 [1, 2, 3, 4]).wellFormed = false := by decide
theorem test_wf_service_part : (Instr.servicePortWrite (.seven 0x58) 6 [1, 2, 3]).wellFormed = true := by decide
theorem test_wf_service_read : (Instr.servicePortRead (.seven 0x58) 0x1000000 4).wellFormed = false := by decide
theorem test_wf_service_read_none : (Instr.servicePortRead (.seven 0x58) 4 0).wellFormed = false := by decide
theorem test_wf_desc_length : (Instr.descFetch .command (zeros 63)).wellFormed = false := by decide
theorem test_wf_flip_slots : (Instr.flipParse [] none).wellFormed = false := by decide
theorem test_wf_flip_slot_length : (Instr.flipParse [zeros 64, zeros 60] none).wellFormed = false := by decide
theorem test_wf_layer_entry : (Instr.layerReadComplete 16 [] []).wellFormed = false := by decide
theorem test_wf_layer_fail : (Instr.layerReadFail 16 .dma).wellFormed = false := by decide
theorem test_wf_pcie_gen : (Instr.pcieLinkUp 6 8).wellFormed = false := by decide
theorem test_wf_pcie_width : (Instr.pcieLinkUp 4 3).wellFormed = false := by decide
theorem test_wf_pcie_no_gen : (Instr.pcieLinkUp 0 4).wellFormed = false := by decide
theorem test_wf_thermal : (Instr.thermalRound []).wellFormed = false := by decide
theorem test_wf_lamp_code : (Instr.lampTest [4096]).wellFormed = false := by decide
theorem test_wf_lamp_code_ok : (Instr.lampTest [4095]).wellFormed = true := by decide
theorem test_wf_pin_code : (Instr.pinTest [4096]).wellFormed = false := by decide
theorem test_wf_yoyo : (Instr.yoyoReceive []).wellFormed = false := by decide
theorem test_wf_commit_kind : (Instr.nvmCommit 256 0).wellFormed = false := by decide
theorem test_wf_cells : (Instr.calSlotMeasure [] calmA).wellFormed = false := by decide
theorem test_wf_arp_asker : (Instr.ptpArpRequest 0 0 (2 ^ 48)).wellFormed = false := by decide
theorem test_wf_slot_code : (Instr.rowSlotStart ⟨[], [4096], [], []⟩).wellFormed = false := by decide
theorem test_wf_burst : (Instr.powerRemoved (some ⟨.delta, 0, zeros 1025⟩)).wellFormed = false := by decide +kernel

/-! Worked examples of the spec. -/

/-- R63: the CRC-32C of the nine digits. -/
theorem test_crc32c : crc32c [0x31, 0x32, 0x33, 0x34, 0x35, 0x36, 0x37, 0x38, 0x39] = 0xE3069283 := by decide +kernel

/-- R322's worked example: bank 17. -/
theorem test_adc_example : adcResult 345 3398 = some (48299, -9) := by decide +kernel

/-- FIPS 180-4: the hash of "abc" begins ba7816bf. -/
theorem test_sha256_abc : (sha256 [0x61, 0x62, 0x63]).take 4 = [0xba, 0x78, 0x16, 0xbf] := by decide +kernel

/-- The invariants hold of the state after reset. -/
theorem test_reset_shaped : Shaped State.reset.dev := by unfold Shaped; decide
theorem test_reset_canonical : Canonical State.reset.dev := by unfold Canonical; decide +kernel

/-- No row of the opcode table has bits, so no word spells a command. -/
theorem test_no_word (nbits w : Nat) : Sys2Proof.decodeTableWord nbits w = none := rfl

/-- The worked example of rounding and saturation. -/
theorem test_rnd : (rnd 13 2, rnd (-6) 2, sat 4200 0 4095) = (3, -1, 4095) := by decide

/-- The worked example of the register map: LANE_B1_EYEW and CAL_SINK200_RESID. -/
theorem test_addresses : (LANEN_EYEW 1 1, CAL_SINK_RESID 200) = (0x030584, 0x0D2918) := by decide

/-- R54's worked example: 24 entries between 0xFFFFFFF8 and 0x00000010. -/
theorem test_ring_distance : dist32 0xFFFFFFF8 0x10 = 24 := by decide

/-- An empty queue idles, and a waiting command leaves the queue. -/
theorem test_step_idle : step State.reset = .next State.reset := rfl
theorem test_step_takes (c : Instr) : step { State.reset with pending := [c] } = exec c State.reset := rfl

/-- The codewords read back through decoder and descrambler, and the one that does not decode. -/
theorem idle0_read : (receiveCodeword ((senderAt (lockedPort 1)).dev.lane 1 0)
    ((senderAt (lockedPort 1)).dev.getb (LANEN_STAT_POLINV 1 0)) idleBits0).1 = some ((0xB, List.replicate 10 idleCell), 0) :=
      by
  decide +kernel
theorem idle1_read : (receiveCodeword ((senderAt (lockedPort 1)).dev.lane 1 1)
    ((senderAt (lockedPort 1)).dev.getb (LANEN_STAT_POLINV 1 1)) idleBits1).1 = some ((0x1B, List.replicate 10 idleCell), 0)
      := by
  decide +kernel
theorem rsp_read : (receiveCodeword ((senderAt (lockedPort 1)).dev.lane 1 0)
    ((senderAt (lockedPort 1)).dev.getb (LANEN_STAT_POLINV 1 0)) rspBits).1 =
    some ((0xB, cellsWith (rxOf 1 PT_RSP 77 4096 (rspBody 9 0 5 0 [])).bytes), 0) := by decide +kernel
/-- All ones is no codeword, whatever lane reads it at that polarity from that symbol. -/
theorem no_levels : (decodeLevels 0 ((lineLevels noBits).map (atPolarity false))).1 = none := by decide +kernel
theorem read_none {l : LaneSt} {inverted : Bool} (hp : l.rxPrev = 0) (hi : inverted = false) :
    (receiveCodeword l inverted noBits).1 = none :=
  receiveCodeword_undecoded l inverted noBits (by rw [hp, hi]; exact no_levels)
theorem no0_read : (receiveCodeword ((senderAt (lockedPort 1)).dev.lane 1 0)
    ((senderAt (lockedPort 1)).dev.getb (LANEN_STAT_POLINV 1 0)) noBits).1 = none :=
  read_none (by decide +kernel) (by decide +kernel)
theorem no1_read : (receiveCodeword ((senderAt (lockedPort 1)).dev.lane 1 1)
    ((senderAt (lockedPort 1)).dev.getb (LANEN_STAT_POLINV 1 1)) noBits).1 = none :=
  read_none (by decide +kernel) (by decide +kernel)
theorem no7_read : (receiveCodeword
    ((senderAt fun d => (lockedPort 1 d).modLane 1 0 fun l => { l with failRun := 7 }).dev.lane 1 0)
    ((senderAt fun d => (lockedPort 1 d).modLane 1 0 fun l => { l with failRun := 7 }).dev.getb (LANEN_STAT_POLINV 1 0))
      noBits).1 =
    none :=
  read_none (by decide +kernel) (by decide +kernel)

/-! The hypotheses of the statements. -/

/-- The hypotheses of Obligations.OrdinaryRegisterWrites, clause by clause. -/
theorem witness_OrdinaryRegisterWrites :
    (∃ (s : State) (init : Initiator) (a : Nat) (v : Word) (r : RegDesc) (f : FieldDesc), (deviceOn s) ∧ (mayWrite s.straps
      init s.dev = true) ∧ (a < 2 ^ 24) ∧ (a % 4 = 0) ∧ (ordinary a = true) ∧ (unusedAt s.straps a = false) ∧ (regAt a = some
      r) ∧ (f ∈ r.fields)) ∧
    (∃ (s : State) (init : Initiator) (a : Nat) (v : Word), (deviceOn s) ∧ (a < 2 ^ 24) ∧ (a % 4 = 0) ∧ (unusedAt s.straps a =
      true) ∧ ((regAt a).isSome = true)) ∧
    (∃ (s : State) (init : Initiator) (a : Nat) (width : AccessWidth) (v : Word), (deviceOn s) ∧ (mayWrite s.straps init s.dev
      = true) ∧ (init ≠ .service) ∧ (a < 2 ^ 24) ∧ (a % 4 = 0) ∧ (s.dev.get GEN_ACC_ERR_VALID = 0) ∧ (if width = .word then
      regAt a = none else accessSpan a width = none ∨ a / 0x10000 ≠ 0x10)) ∧
    (∃ (s : State) (init : Initiator) (a : Nat) (x : Port) (g : Fin 4) (k : Fin 8) (u : Fin 256) (p : BitVec 4) (v : Word)
      (bytes : List Byte), (mayWrite s.straps init s.dev = false) ∧ (init = .service → deviceOn s)) :=
  ⟨⟨State.reset, .mc0, THM_WARN, 0x12345678, regOf THM_WARN, fieldNo THM_WARN 0, by decide +kernel⟩,
   ⟨State.reset, .mc0, HIF_CTRL, 0xFFFFFFFF, by decide +kernel⟩,
   ⟨State.reset, .mc1, 0x150000, .word, 5, by decide +kernel⟩,
   ⟨tileAt fun d => d.set SEC_PRIV_SVC_PERM 13, .service, THM_WARN, 1, 2, 3, 4, 5, 6, [1], by decide +kernel⟩⟩

/-- The hypotheses of Obligations.RegisterReads, clause by clause. -/
theorem witness_RegisterReads :
    (∃ (s : State) (init : Initiator) (width : AccessWidth) (off n : Nat), (deviceOn s) ∧ (mayRead s.straps init s.dev = true)
      ∧ (accessSpan TIME_NOW_NS width = some (off, n))) ∧
    (∃ (s : State) (init : Initiator) (a : Nat) (width : AccessWidth) (off n : Nat), (deviceOn s) ∧ (mayRead s.straps init
      s.dev = true) ∧ (a < 2 ^ 24) ∧ (a ≠ TIME_NOW_NS) ∧ (accessSpan a width = some (off, n))) ∧
    (∃ (s : State) (init : Initiator) (a : Nat) (width : AccessWidth), (deviceOn s) ∧ (mayRead s.straps init s.dev = true) ∧
      (accessSpan (a % 2 ^ 24) width = none)) ∧
    (∃ (s : State) (init : Initiator) (a : Nat) (width : AccessWidth) (off n : Nat), (deviceOn s) ∧ (mayRead s.straps init
      s.dev = false) ∧ (accessSpan (a % 2 ^ 24) width = some (off, n))) ∧
    (∃ (s : State) (target : I2cTarget) (a b n : Nat), (s.dev.boot.power = .brownOut ∨ s.dev.boot.power = .shutdown) ∧
      (Settled s) ∧ (svcTargeted s.straps target = true)) ∧
    (∃ (s : State) (init : Initiator) (target : I2cTarget) (a n : Nat) (width : AccessWidth), (s.dev.boot.power = .off ∨
      s.dev.boot.power = .dormant)) ∧
    (∃ (s : State) (target : I2cTarget) (a n : Nat) (data : List Byte), (svcTargeted s.straps target = false)) ∧
    (∃ (s : State) (target : I2cTarget) (a n : Nat), (deviceOn s) ∧ (svcTargeted s.straps target = true) ∧ (a % 4 = 0) ∧ (a +
      (n + 3) / 4 * 4 ≤ 2 ^ 24) ∧ (natBit (s.dev.get SEC_PRIV_SVC_PERM) 0 = true) ∧ (∀ k < (n + 3) / 4, a + 4 * k ≠
      TIME_NOW_NS ∧ (regAt (a + 4 * k)).isSome = true)) ∧
    (∃ (s : State) (target : I2cTarget) (a n : Nat), (deviceOn s) ∧ (svcTargeted s.straps target = true) ∧ (a < 2 ^ 24) ∧ (a %
      4 = 0) ∧ (n ≠ 0) ∧ (natBit (s.dev.get SEC_PRIV_SVC_PERM) 0 = false)) ∧
    (∃ (s : State) (target : I2cTarget) (a n : Nat), (deviceOn s) ∧ (svcTargeted s.straps target = true) ∧ (a % 4 ≠ 0)) :=
  ⟨⟨tileAt fun d => { d with time.clk.sec := 0x1234567890, time.clk.ns := 77, time.clk.frac := 999 }, .mc0, .word, 0, 4,
    by decide +kernel⟩,
   ⟨tileAt id, .mc0, LDRV_BANK_IFS 5, .word, 0, 4, by decide +kernel⟩,
   ⟨senderAt fun d => { d with host.linkUp := true, host.pcie.memEn := true }, .bar0, THM_WARN, .crossing, by decide +kernel⟩,
   ⟨tileAt fun d => d.set SEC_PRIV_SVC_PERM 0, .service, THM_WARN, .word, 0, 4, by decide +kernel⟩,
   ⟨tileAt fun d => { d with boot.power := .shutdown }, .seven 0x58, THM_WARN, THM_WARN, 2, by decide +kernel⟩,
   ⟨tileAt fun d => { d with boot.power := .dormant }, .mc0, .seven 0x58, THM_WARN, 2, .word, by decide +kernel⟩,
   ⟨tileAt id, .seven 0x59, THM_WARN, 4, [1, 2, 3, 4], by decide +kernel⟩,
   ⟨tileAt fun d => d.set SEC_PRIV_SVC_PERM 1, .seven 0x58, LDRV_BANK_IFS 5, 4, by decide +kernel⟩,
   ⟨tileAt fun d => d.set SEC_PRIV_SVC_PERM 0, .seven 0x58, LDRV_BANK_IFS 5, 4, by decide +kernel⟩,
   ⟨State.reset, .seven 0x58, 5, 1, by decide +kernel⟩⟩

/-- The hypotheses of Obligations.ServicePortWrites, clause by clause. -/
theorem witness_ServicePortWrites :
    (∃ (s : State) (target : I2cTarget) (a : Nat) (v : Word), (deviceOn s) ∧ (svcTargeted s.straps target = true) ∧ (a < 2 ^
      24) ∧ (a % 4 = 0) ∧ (ordinary a = true) ∧ (natBit (s.dev.get SEC_PRIV_SVC_PERM) 1 = true)) ∧
    (∃ (s : State) (target : I2cTarget) (a : Nat) (v : Word) (part : List Byte) (r : RegDesc) (f : FieldDesc), (deviceOn s) ∧
      (svcTargeted s.straps target = true) ∧ (a < 2 ^ 24 - 4) ∧ (a % 4 = 0) ∧ (ordinary a = true) ∧ (ordinary (a + 4) = true)
      ∧ (unusedAt s.straps a = false) ∧ (natBit (s.dev.get SEC_PRIV_SVC_PERM) 1 = true) ∧ (part.length < 4) ∧ (regAt a = some
      r) ∧ (f ∈ r.fields)) ∧
    (∃ (s : State) (target : I2cTarget) (a : Nat) (v w : Word), (deviceOn s) ∧ (svcTargeted s.straps target = true) ∧ (a < 2 ^
      24 - 4) ∧ (a % 4 = 0) ∧ (ordinary a = true) ∧ (ordinary (a + 4) = true) ∧ (natBit (s.dev.get SEC_PRIV_SVC_PERM) 1 =
      true)) ∧
    (∃ (s : State) (target : I2cTarget) (a : Nat) (v : Word) (rest : List Byte), (deviceOn s) ∧ (svcTargeted s.straps target =
      true) ∧ (a < 2 ^ 24) ∧ (a % 4 = 0) ∧ (ordinary a = true) ∧ (natBit (s.dev.get SEC_PRIV_SVC_PERM) 1 = false)) ∧
    (∃ (s : State) (target : I2cTarget) (v : Word), (tileOn s) ∧ (svcTargeted s.straps target = true) ∧ (natBit (s.dev.get
      SEC_PRIV_SVC_PERM) 0 = true) ∧ (s.dev.mbxFull 0 = true)) ∧
    (∃ (s : State) (target : I2cTarget) (a : Nat) (data : List Byte), (deviceOn s) ∧ (svcTargeted s.straps target = true) ∧
      (data.length < 4) ∧ (a < 2 ^ 24) ∧ (a % 4 = 0) ∧ (ordinary a = true) ∧ (natBit (s.dev.get SEC_PRIV_SVC_PERM) 1 = true)) ∧
    (∃ (s : State) (target : I2cTarget) (a : Nat) (data : List Byte), (deviceOn s) ∧ (svcTargeted s.straps target = true) ∧
      (data ≠ []) ∧ (data.length < 4) ∧ (a < 2 ^ 24) ∧ (a % 4 = 0) ∧ (ordinary a = true) ∧ (natBit (s.dev.get
      SEC_PRIV_SVC_PERM) 1 = false)) ∧
    (∃ (s : State) (target : I2cTarget) (a : Nat) (data : List Byte), (deviceOn s) ∧ (svcTargeted s.straps target = true) ∧ (a
      % 4 ≠ 0)) :=
  ⟨⟨tileAt fun d => d.set SEC_PRIV_SVC_PERM 2, .seven 0x58, THM_WARN, 0x12345678, by decide +kernel⟩,
   ⟨tileAt fun d => d.set SEC_PRIV_SVC_PERM 2, .seven 0x58, THM_WARN, 0x12345678, [], regOf THM_WARN, fieldNo THM_WARN 0,
     by decide +kernel⟩,
   ⟨tileAt fun d => d.set SEC_PRIV_SVC_PERM 2, .seven 0x58, THM_WARN - 4, 0x12345678, 0x87654321, by decide +kernel⟩,
   ⟨tileAt fun d => d.set SEC_PRIV_SVC_PERM 0, .seven 0x58, THM_WARN, 0x12345678, [1], by decide +kernel⟩,
   ⟨tileAt fun d => (d.set SEC_PRIV_SVC_PERM 1).set MBX_STAT_FULL 1, .seven 0x58, 5, by decide +kernel⟩,
   ⟨tileAt fun d => d.set SEC_PRIV_SVC_PERM 2, .seven 0x58, THM_WARN, [1, 2], by decide +kernel⟩,
   ⟨tileAt fun d => d.set SEC_PRIV_SVC_PERM 0, .seven 0x58, THM_WARN, [1, 2], by decide +kernel⟩,
   ⟨State.reset, .seven 0x58, 3, [1, 2], by decide +kernel⟩⟩

/-- The hypotheses of Obligations.ResetsFromPower, clause by clause. -/
theorem witness_ResetsFromPower :
    (∃ (s : State) (pin : ColdPin) (straps : Straps), (s.dev.boot.power ≠ .off) ∧ (pin = .resetN ∨ s.dev.boot.power = .awake)) ∧
    (∃ (s : State) (pin : ColdPin) (straps : Straps), (s.dev.boot.power = .off ∨ (pin = .pwrGood ∧ s.dev.boot.power ≠
      .awake))) ∧
    (∃ (s : State), (s.dev.boot.power ≠ .off)) :=
  ⟨⟨State.reset, .pwrGood, { State.reset.straps with role := .sender }, by decide +kernel⟩,
   ⟨tileAt fun d => { d with boot.power := .off }, .resetN, State.reset.straps, by decide +kernel⟩,
   ⟨State.reset, by decide +kernel⟩⟩

/-- The hypotheses of Obligations.WarmResets, clause by clause. -/
theorem witness_WarmResets :
    (∃ (s : State), (deviceOn s)) ∧
    (∃ (s : State) (init : Initiator), (deviceOn s) ∧ (init ≠ .nutcracker) ∧ (init = .service → natBit (s.dev.get
      SEC_PRIV_SVC_PERM) 1 = true)) ∧
    (∃ (s : State), (deviceOn s)) ∧
    (∃ (s : State), (s.dev.boot.power = .brownOut) ∧ (Settled s)) ∧
    (∃ (s : State) (h : ShutSt), (s.dev.boot.power = .shutdown) ∧ (Settled s) ∧ (s.dev.boot.shut = some h) ∧ (4 ≤ h.coolRun) ∧
      (h.tick + 250000000 ≤ s.dev.time.clk.ticks)) :=
  ⟨⟨tileAt fun d => ((d.set MBX_STAT_FULL 3).set GEN_CTRL_WDOG 9).set TIME_STAT_TEPOCH 7, by decide +kernel⟩,
   ⟨State.reset, .mc0, by decide +kernel⟩,
   ⟨tileAt fun d => d.set MBX_STAT_FULL 5, by decide +kernel⟩,
   ⟨tileAt fun d => { d with boot.power := .brownOut }, by decide +kernel⟩,
   ⟨tileAt fun d => { d with boot.power := .shutdown, boot.shut := some ⟨5777000000, 0, -100, 33, 4⟩, time.clk.ticks := 250000000 },
     ⟨5777000000, 0, -100, 33, 4⟩, by decide +kernel⟩⟩

/-- The hypotheses of Obligations.StartUpAndWatchdog, clause by clause. -/
theorem witness_StartUpAndWatchdog :
    (∃ (s : State) (adc : List (List (List (Nat × Nat)))), (deviceOn s) ∧ (s.dev.boot.mcRunning = true) ∧ (s.dev.boot.started
      = false) ∧ (s.dev.nvm.trusted.migrateDue = false)) ∧
    (∃ (s : State) (adc : List (List (List (Nat × Nat)))), (deviceOn s) ∧ (s.dev.boot.mcRunning = true) ∧ (s.dev.boot.started
      = true) ∧ (s.dev.nvm.trusted.migrateDue = false)) ∧
    (∃ (s : State) (adc : List (List (List (Nat × Nat)))), (deviceOn s) ∧ (s.dev.boot.mcRunning = false)) ∧
    (∃ (s : State), (tileOn s) ∧ (s.dev.boot.started = true) ∧ (s.dev.boot.mcRunning = true) ∧ (s.dev.get GEN_STAT_READY = 0)
      ∧ (s.dev.get TIME_STAT_STATE = 1) ∧ (s.dev.tile.accepted.isSome = true)) ∧
    (∃ (s : State), (senderOn s) ∧ (s.dev.boot.started = true) ∧ (s.dev.boot.mcRunning = true) ∧ (s.dev.get GEN_STAT_READY =
      0)) ∧
    (∃ (s : State) (c : CalStep), (tileOn s) ∧ (s.dev.get MBX_STAT_FULL = 0) ∧ (s.dev.cal.step = some c) ∧ (c.waiter = none)) ∧
    (∃ (s : State), (tileOn s) ∧ (s.dev.cal.step = none) ∧ (s.dev.get MBX_STAT_FULL = 0)) ∧
    (∃ (s : State), (tileOn s) ∧ (s.dev.cal.step = none) ∧ (s.dev.get MBX_STAT_FULL = 0x3F)) ∧
    (∃ (s : State) (init : Initiator), (deviceOn s) ∧ (mayWrite s.straps init s.dev = true)) ∧
    (∃ (s : State), (tileOn s) ∧ (s.dev.cal.step = none) ∧ (s.dev.get MBX_STAT_FULL = 0) ∧ (s.dev.get GEN_CTRL_WDOG ≠ 0) ∧
      (s.dev.boot.kickAt + 2500000 * s.dev.get GEN_CTRL_WDOG ≤ s.dev.time.clk.ticks) ∧ (s.dev.boot.firings = [])) ∧
    (∃ (s : State) (a b : Nat), (deviceOn s) ∧ (s.dev.get GEN_CTRL_WDOG ≠ 0) ∧ (s.dev.boot.kickAt + 2500000 * s.dev.get
      GEN_CTRL_WDOG ≤ s.dev.time.clk.ticks) ∧ (s.dev.boot.firings = [a, b]) ∧ (s.dev.time.clk.ticks < a + 15000000000) ∧
      (s.dev.time.clk.ticks < b + 15000000000)) ∧
    (∃ (s : State), (deviceOn s) ∧ (s.dev.get GEN_CTRL_WDOG = 0)) :=
  ⟨⟨senderAt fun d => { d with boot.mcRunning := true }, [], by decide +kernel⟩,
   ⟨senderAt fun d => { d with boot.mcRunning := true, boot.started := true, boot.restarted := true }, [], by decide +kernel⟩,
   ⟨State.reset, [], by decide +kernel⟩,
   ⟨tileAt fun d => { d with boot.started := true, boot.mcRunning := true, tile.accepted := some true }.set TIME_STAT_STATE 1,
     by decide +kernel⟩,
   ⟨senderAt fun d => { d with boot.started := true, boot.mcRunning := true }, by decide +kernel⟩,
   ⟨tileAt fun d => { d with cal.step := some { item := 1, inService := false, port := 0, waiter := none, slots := [], tj := [] } },
     { item := 1, inService := false, port := 0, waiter := none, slots := [], tj := [] }, by decide +kernel⟩,
   ⟨State.reset, by decide +kernel⟩,
   ⟨tileAt fun d => (d.set MBX_STAT_FULL 0x3F).set (MBX_DATA_WORD 5) 7, by decide +kernel⟩,
   ⟨State.reset, .mc1, by decide +kernel⟩,
   ⟨tileAt fun d => { d with time.clk.ticks := 2500000 }.set GEN_CTRL_WDOG 1, by decide +kernel⟩,
   ⟨tileAt fun d => { d with time.clk.ticks := 9000000, boot.firings := [5000000, 3] }.set GEN_CTRL_WDOG 1, 5000000, 3,
     by decide +kernel⟩,
   ⟨State.reset, by decide +kernel⟩⟩

/-- The hypotheses of Obligations.DormantArmAndEntry, clause by clause. -/
theorem witness_DormantArmAndEntry :
    (∃ (s : State) (init : Initiator), (deviceOn s) ∧ (mayWrite s.straps init s.dev = true) ∧ (s.dev.nvm.trusted.armed = none)
      ∧ (s.dev.sec.lease = none) ∧ (s.dev.cal.step = none) ∧ (s.dev.get CMP_FP_ARM_PEND = 0) ∧ (s.dev.get COR_STAT_PEND = 0) ∧
      (s.dev.get GRY_FADE_ARM_PEND = 0) ∧ (s.dev.get GRY_FADE_ARM_RUN = 0) ∧ (s.dev.get AON_CTRL_WAKEN_EN = 1 ∨ s.dev.get
      AON_CTRL_JACK_EN = 1 ∨ s.dev.get AON_CTRL_ALARM_EN = 1) ∧ (s.dev.now + 50000000 ≤ s.dev.dormAt)) ∧
    (∃ (s : State) (init : Initiator), (deviceOn s) ∧ (mayWrite s.straps init s.dev = true) ∧ (s.dev.nvm.trusted.armed.isSome
      = true ∨ s.dev.leaseOf.isSome = true)) ∧
    (∃ (s : State) (init : Initiator), (deviceOn s) ∧ (mayWrite s.straps init s.dev = true) ∧ (s.dev.nvm.trusted.armed = none)
      ∧ (s.dev.leaseOf = none) ∧ (s.dev.cal.step.isSome = true)) ∧
    (∃ (s : State) (init : Initiator), (deviceOn s) ∧ (mayWrite s.straps init s.dev = true) ∧ (s.dev.nvm.trusted.armed = none)
      ∧ (s.dev.leaseOf = none) ∧ (s.dev.cal.step = none) ∧ (s.dev.get CMP_FP_ARM_PEND = 1 ∨ s.dev.get COR_STAT_PEND = 1 ∨
      s.dev.get GRY_FADE_ARM_PEND = 1 ∨ s.dev.get GRY_FADE_ARM_RUN = 1)) ∧
    (∃ (s : State) (init : Initiator), (deviceOn s) ∧ (mayWrite s.straps init s.dev = true) ∧ (s.dev.nvm.trusted.armed = none)
      ∧ (s.dev.leaseOf = none) ∧ (s.dev.cal.step = none) ∧ (s.dev.get CMP_FP_ARM_PEND = 0) ∧ (s.dev.get COR_STAT_PEND = 0) ∧
      (s.dev.get GRY_FADE_ARM_PEND = 0) ∧ (s.dev.get GRY_FADE_ARM_RUN = 0) ∧ (s.dev.dormAt < s.dev.now + 50000000)) ∧
    (∃ (s : State) (init : Initiator), (deviceOn s) ∧ (mayWrite s.straps init s.dev = true) ∧ (s.dev.nvm.trusted.armed = none)
      ∧ (s.dev.leaseOf = none) ∧ (s.dev.cal.step = none) ∧ (s.dev.get CMP_FP_ARM_PEND = 0) ∧ (s.dev.get COR_STAT_PEND = 0) ∧
      (s.dev.get GRY_FADE_ARM_PEND = 0) ∧ (s.dev.get GRY_FADE_ARM_RUN = 0) ∧ (s.dev.now + 50000000 ≤ s.dev.dormAt) ∧
      (s.dev.get AON_CTRL_WAKEN_EN = 0) ∧ (s.dev.get AON_CTRL_JACK_EN = 0) ∧ (s.dev.get AON_CTRL_ALARM_EN = 0)) ∧
    (∃ (s : State), (deviceOn s) ∧ (s.dev.get AON_DORM_ARM_PEND = 1) ∧ (s.dev.dormAt ≤ s.dev.now) ∧ (s.dev.dormReason = 0)) ∧
    (∃ (s : State) (a : Nat) (r : RegDesc) (f : FieldDesc), (deviceOn s) ∧ (s.dev.get AON_DORM_ARM_PEND = 1) ∧ (s.dev.dormAt ≤
      s.dev.now) ∧ (s.dev.dormReason = 0) ∧ (regAt a = some r) ∧ (inAon a = false) ∧ (f ∈ r.fields) ∧ (f.acc = .rws)) ∧
    (∃ (s : State), (deviceOn s) ∧ (s.dev.get AON_DORM_ARM_PEND = 1) ∧ (s.dev.dormAt ≤ s.dev.now) ∧ (s.dev.dormReason ≠ 0)) ∧
    (∃ (s : State), (deviceOn s) ∧ (s.dev.get AON_DORM_ARM_PEND = 0 ∨ s.dev.now < s.dev.dormAt)) :=
  ⟨⟨tileAt fun d => (d.set AON_CTRL_ALARM_EN 1).set AON_DORM_AT_NS_NS 50000000, .mc0, by decide +kernel⟩,
   ⟨tileAt fun d => { d with nvm.trusted.armed := some (5, true) }, .mc0, by decide +kernel⟩,
   ⟨tileAt fun d => { d with cal.step := some ⟨1, true, 0, none, [], []⟩ }, .mc0, by decide +kernel⟩,
   ⟨tileAt fun d => d.set CMP_FP_ARM_PEND 1, .mc0, by decide +kernel⟩,
   ⟨tileAt fun d => (d.set AON_CTRL_ALARM_EN 1).set AON_DORM_AT_NS_NS 49999999, .mc0, by decide +kernel⟩,
   ⟨tileAt fun d => d.setAll [(AON_DORM_AT_NS_NS, 50000000), (AON_CTRL_WAKEN_EN, 0), (AON_CTRL_JACK_EN, 0)], .mc0,
     by decide +kernel⟩,
   ⟨tileAt fun d => { d with time.clk.ns := 7 }.setAll [(AON_CTRL_ALARM_EN, 1), (AON_DORM_ARM_PEND, 1), (LDRV_CTRL_DRIVE_EN,
     1), (AON_ALARM_NS_NS, 9)], by decide +kernel⟩,
   ⟨tileAt fun d => d.setAll [(AON_CTRL_ALARM_EN, 1), (AON_DORM_ARM_PEND, 1), (TIME_STAT_TEPOCH, 77)], TIME_STAT, regOf
     TIME_STAT, fieldNo TIME_STAT 5, by decide +kernel⟩,
   ⟨tileAt fun d => d.setAll [(AON_DORM_ARM_PEND, 1), (AON_CTRL_WAKEN_EN, 0), (AON_CTRL_JACK_EN, 0), (AON_CTRL_ALARM_EN, 0)],
     by decide +kernel⟩,
   ⟨State.reset, by decide +kernel⟩⟩

/-- The hypotheses of Obligations.DormantExit, clause by clause. -/
theorem witness_DormantExit :
    (∃ (s : State), (s.dev.boot.power = .dormant) ∧ (Settled s) ∧ (s.dev.rcd.queue = []) ∧ (s.dev.aon.wake = 1 ∨
      s.dev.aon.wake = 2 ∨ s.dev.aon.wake = 4 ∨ s.dev.aon.wake = 6) ∧ (s.dev.aon.vcore = true) ∧ (s.dev.aon.vdrv = true) ∧
      (s.dev.aon.pwrGood = true) ∧ (s.dev.get AON_STAT_OTEMP = 0) ∧ (s.dev.aon.enteredAt ≤ s.dev.aon.s) ∧ (s.dev.aon.s < 2 ^
      32)) ∧
    (∃ (s : State), (s.dev.boot.power = .dormant) ∧ (s.dev.aon.wake = 0 ∨ s.dev.aon.vcore = false ∨ s.dev.aon.pwrGood = false
      ∨ s.dev.get AON_STAT_OTEMP = 1 ∨
        (s.straps.role = .tile ∧ s.dev.aon.vdrv = false))) :=
  ⟨⟨tileAt fun d => { d with boot.power := .dormant, aon := { d.aon with wake := 4, s := 90, ns := 5, enteredAt := 30 } }.set
    AON_STAT_VLED_LOST 1, by decide +kernel⟩,
   ⟨tileAt fun d => { d with boot.power := .dormant, aon := { d.aon with wake := 4, vdrv := false } }, by decide +kernel⟩⟩

/-- The hypotheses of Obligations.WakeInputsAndPins, clause by clause. -/
theorem witness_WakeInputsAndPins :
    (∃ (s : State), (s.dev.boot.power = .dormant) ∧ (Settled s) ∧ (s.dev.get AON_CTRL_WAKEN_EN = 1)) ∧
    (∃ (s : State), (s.dev.boot.power ≠ .dormant ∨ s.dev.get AON_CTRL_WAKEN_EN = 0) ∧ (Settled s)) ∧
    (∃ (s : State), (s.straps.role = .tile) ∧ (s.dev.boot.power = .dormant) ∧ (Settled s) ∧ (s.dev.get AON_CTRL_JACK_EN = 1) ∧
      (s.dev.get AON_CTRL_RPT_EN = 1) ∧ (s.dev.aon.repeating = false)) ∧
    (∃ (s : State), (Settled s) ∧ (s.dev.aon.repeating = true)) ∧
    (∃ (s : State), (s.dev.boot.power = .dormant) ∧ (Settled s) ∧ (s.dev.get AON_CTRL_ALARM_EN = 1) ∧ (s.dev.alarmAt ≤
      s.dev.aon.s * 1000000000 + s.dev.aon.ns)) ∧
    (∃ (s : State) (hot : Bool), (s.dev.boot.power = .dormant) ∧ (Settled s)) ∧
    (∃ (s : State), (s.dev.boot.power ≠ .dormant) ∧ (s.dev.boot.power ≠ .off) ∧ (Settled s)) ∧
    (∃ (s : State) (supply : AonSupply) (present : Bool), (s.dev.boot.power ≠ .dormant) ∧ (s.dev.boot.power ≠ .off) ∧ (Settled
      s)) ∧
    (∃ (s : State) (present : Bool), (s.dev.boot.power = .dormant) ∧ (Settled s)) ∧
    (∃ (s : State) (present : Bool), (s.dev.boot.power = .dormant) ∧ (Settled s)) ∧
    (∃ (s : State) (present : Bool), (s.dev.boot.power = .dormant) ∧ (Settled s) ∧ (s.straps.role = .tile)) ∧
    (∃ (s : State), (s.dev.boot.power ≠ .off) ∧ (Settled s)) ∧
    (∃ (s : State) (ok : Bool), (s.dev.boot.power ≠ .off) ∧ (Settled s)) ∧
    (∃ (s : State) (init : Initiator) (x : Fin 4), (senderOn s) ∧ (mayWrite s.straps init s.dev = true) ∧ (s.dev.get
      (LANE_STAT_STATE x) ≠ P_LS0) ∧ (s.dev.get (LANE_STAT_STATE x) ≠ P_LS1)) ∧
    (∃ (s : State), (senderOn s) ∧ (s.dev.ports.map PortSt.toneSince = [some 0, none, none, none]) ∧ (250000 ≤
      s.dev.time.clk.ticks) ∧ (s.dev.get (LANE_STAT_STATE 0) = P_DOWN)) ∧
    (∃ (s : State) (low : Bool), (deviceOn s)) ∧
    (∃ (s : State) (low : Bool), (deviceOn s)) ∧
    (∃ (s : State) (low : Bool), (s.dev.boot.power ≠ .awake) ∧ (Settled s)) ∧
    (∃ (s : State) (low : Bool), (s.dev.boot.power ≠ .awake) ∧ (Settled s)) :=
  ⟨⟨tileAt fun d => { d with boot.power := .dormant }.set AON_CTRL_WAKEN_EN 1, by decide +kernel⟩,
   ⟨State.reset, by decide +kernel⟩,
   ⟨tileAt fun d => { d with boot.power := .dormant }.setAll [(AON_CTRL_JACK_EN, 1), (AON_CTRL_RPT_EN, 1)], by decide +kernel⟩,
   ⟨tileAt fun d => { d with boot.power := .dormant, aon.repeating := true }, by decide +kernel⟩,
   ⟨tileAt fun d => { d with boot.power := .dormant, aon.wake := 1 }.set AON_CTRL_ALARM_EN 1, by decide +kernel⟩,
   ⟨tileAt fun d => { d with boot.power := .dormant }, true, by decide +kernel⟩,
   ⟨tileAt fun d => d.set AON_STAT_OTEMP 1, by decide +kernel⟩,
   ⟨tileAt id, .vdrv, false, by decide +kernel⟩,
   ⟨tileAt fun d => { d with boot.power := .dormant }, false, by decide +kernel⟩,
   ⟨tileAt fun d => { d with boot.power := .dormant }, false, by decide +kernel⟩,
   ⟨tileAt fun d => { d with boot.power := .dormant }, false, by decide +kernel⟩,
   ⟨tileAt fun d => { d with boot.power := .dormant, aon := { d.aon with s := 5, ns := 999999999, ph := 63 } },
     by decide +kernel⟩,
   ⟨State.reset, true, by decide +kernel⟩,
   ⟨senderAt id, .mc0, 3, by decide +kernel⟩,
   ⟨senderAt fun d => { d.modPort 0 (fun p => { p with toneSince := some 0 }) with time.clk.ticks := 250000 }.set
     (LANE_STAT_STATE 0) P_DOWN, by decide +kernel⟩,
   ⟨State.reset, true, by decide +kernel⟩,
   ⟨State.reset, true, by decide +kernel⟩,
   ⟨tileAt fun d => { d with boot.power := .dormant }, true, by decide +kernel⟩,
   ⟨tileAt fun d => { d with boot.power := .dormant }, true, by decide +kernel⟩⟩

/-- The hypotheses of Obligations.PcieFunction, clause by clause. -/
theorem witness_PcieFunction :
    (∃ (s : State), (senderOn s)) ∧
    (∃ (s : State) (v : Word), (senderOn s) ∧ (s.dev.host.linkUp = true)) ∧
    (∃ (s : State) (v : Word), (senderOn s) ∧ (s.dev.host.linkUp = true)) ∧
    (∃ (s : State) (n : Fin 64) (v : Word), (senderOn s) ∧ (s.dev.host.linkUp = true) ∧ (s.dev.host.pcie.memEn = true) ∧
      (s.dev.host.pcie.d3hot = false)) ∧
    (∃ (s : State) (n : Fin 64) (v : Word), (senderOn s) ∧ (s.dev.host.linkUp = true) ∧ (s.dev.host.pcie.memEn = true) ∧
      (s.dev.host.pcie.d3hot = false) ∧ (v.getLsbD 0 = true)) ∧
    (∃ (s : State) (gen width : Nat), (senderOn s) ∧ (1 ≤ gen) ∧ (gen ≤ 5) ∧ (width = 1 ∨ width = 2 ∨ width = 4 ∨ width = 8)) ∧
    (∃ (s : State), (senderOn s)) ∧
    (∃ (s : State) (n : Fin 5) (m : Fin 8), (senderOn s)) ∧
    (∃ (s : State) (a : Nat) (r : RegDesc) (f : FieldDesc), (senderOn s) ∧ (a / 0x10000 = 1 ∨ a / 0x10000 = 2) ∧ (a ≠
      RING_FLIP_MODE ∧ a ≠ RING_FLIP_ACC ∧ a ≠ RING_FLIP_REJ ∧ a ≠ RING_FLIP_HELD) ∧ (regAt a = some r) ∧ (f ∈ r.fields) ∧
      ((⟨a, f.lo, f.width⟩ : Fld) ∉ [HIF_STAT_READY, HIF_STAT_LINK_GEN, HIF_STAT_LINK_WIDTH])) ∧
    (∃ (s : State) (a : Nat), (senderOn s) ∧ (a = RING_FLIP_MODE ∨ a = RING_FLIP_ACC ∨ a = RING_FLIP_REJ ∨ a =
      RING_FLIP_HELD)) ∧
    (∃ (s : State) (n : Fin 5) (m : Fin 8), (senderOn s)) :=
  ⟨⟨senderAt fun d => { d with mbx.vsecCross := 1, host.pcie.memEn := true }, by decide +kernel⟩,
   ⟨senderAt fun d => { d with host.linkUp := true }, 6, by decide +kernel⟩,
   ⟨senderAt fun d => { d with host.linkUp := true, host.pcie.caLogged := true }, 0x8000, by decide +kernel⟩,
   ⟨senderAt fun d => { d with host.linkUp := true, host.pcie.memEn := true }, 9, 77, by decide +kernel⟩,
   ⟨senderAt fun d => { d with host.linkUp := true, host.pcie.memEn := true, host.vecMask := List.replicate 64 false }, 9, 1,
     by decide +kernel⟩,
   ⟨senderAt id, 5, 8, by decide +kernel⟩,
   ⟨senderAt fun d => d.setAll [(HIF_STAT_LINK_GEN, 4), (HIF_STAT_LINK_WIDTH, 8)], by decide +kernel⟩,
   ⟨senderAt fun d => { d with host.descs := [⟨1, 0, [], .fetched, [], 0, false, none⟩] }.setAll [(MBX_STAT_FULL, 0xF),
     (HIF_STAT_READY, 1), (RING_CFG_EN 1, 1), (HIF_CTRL_EN, 1), (RING_IDX_INDEX 1, 5)], 1, 1, by decide +kernel⟩,
   ⟨senderAt fun d => d.set (HIF_VEC_VECTOR 3) 9, 0x01004C, regOf 0x01004C, fieldNo 0x01004C 0, by decide +kernel⟩,
   ⟨senderAt fun d => d.set RING_FLIP_MODE_CUR 5, RING_FLIP_MODE, by decide +kernel⟩,
   ⟨senderAt fun d => { d with host.descs := [⟨1, 0, [], .fetched, [], 0, false, none⟩] }.setAll [(MBX_STAT_FULL, 0xF),
     (HIF_STAT_READY, 1), (RING_CFG_EN 1, 1), (HIF_CTRL_EN, 1), (RING_IDX_INDEX 1, 5)], 4, 2, by decide +kernel⟩⟩

/-- The hypotheses of Obligations.RingControl, clause by clause. -/
theorem witness_RingControl :
    (∃ (s : State) (init : Initiator) (n : Fin 5), (senderOn s) ∧ (mayWrite s.straps init s.dev = true) ∧ (n ≠ 0) ∧ (s.dev.get
      (RING_CFG_EN n) = 0) ∧ (s.dev.ringBusy n = false) ∧ ((n : Nat) = 3 ∨ (n : Nat) = 4 ∨ s.dev.get (RING_CFG_EN 3) = 1)) ∧
    (∃ (s : State) (init : Initiator), (senderOn s) ∧ (mayWrite s.straps init s.dev = true) ∧ (s.dev.get (RING_CFG_EN 0) = 0)
      ∧ (s.dev.ringBusy 0 = false) ∧ (s.dev.get (RING_CFG_EN 3) = 1)) ∧
    (∃ (s : State) (init : Initiator) (n : Fin 5), (senderOn s) ∧ (s.dev.get (RING_CFG_EN n) = 1 ∨ s.dev.ringBusy n = true ∨
      ((n : Nat) < 3 ∧ s.dev.get (RING_CFG_EN 3) = 0))) ∧
    (∃ (s : State) (init : Initiator) (n : Fin 5), (senderOn s) ∧ (mayWrite s.straps init s.dev = true) ∧ (s.dev.get
      (RING_CFG_EN n) = 1) ∧ (s.dev.host.descs = []) ∧ ((n : Nat) ≠ 3 ∨ s.dev.get (RING_CFG_EN 0) = 0 ∧ s.dev.get (RING_CFG_EN
      1) = 0 ∧ s.dev.get (RING_CFG_EN 2) = 0 ∧
        s.dev.ringBusy 0 = false)) ∧
    (∃ (s : State) (init : Initiator) (e : Desc), (senderOn s) ∧ (mayWrite s.straps init s.dev = true) ∧ (s.dev.get
      (RING_CFG_EN 1) = 1) ∧ (s.dev.host.descs = [e]) ∧ (s.dev.host.out = []) ∧ (e.ring = 1) ∧ (e.phase = .fetched) ∧
      (e.result = none)) ∧
    (∃ (s : State) (init : Initiator), (senderOn s) ∧ (s.dev.get (RING_CFG_EN 0) = 1 ∨ s.dev.get (RING_CFG_EN 1) = 1 ∨
      s.dev.get (RING_CFG_EN 2) = 1)) ∧
    (∃ (s : State) (init : Initiator), (senderOn s) ∧ (mayWrite s.straps init s.dev = true) ∧ (s.dev.get HIF_CTRL_EN = 0)) ∧
    (∃ (s : State) (init : Initiator), (senderOn s) ∧ (mayWrite s.straps init s.dev = true)) :=
  ⟨⟨senderAt fun d => { d with host.hostIdx := [1, 2, 3, 4, 5] }.setAll [(RING_CFG_EN 3, 1), (RING_IDX_INDEX 2, 7),
    (RING_ERR_CODE 2, 1)], .mc0, 2, by decide +kernel⟩,
   ⟨senderAt fun d => { d with host.hostIdx := [1, 2, 3, 4, 5], host.launchCount := 9 }.setAll [(RING_CFG_EN 3, 1),
     (RING_FLIP_ACC_COUNT, 7)], .mc0, by decide +kernel⟩,
   ⟨senderAt id, .bar0, 2, by decide +kernel⟩,
   ⟨senderAt fun d => d.setAll [(RING_CFG_EN 3, 1)], .mc0, 3, by decide +kernel⟩,
   ⟨senderAt fun d => { d with host.descs := [⟨1, 0, [], .fetched, [], 0, false, none⟩] }.setAll [(RING_CFG_EN 1, 1)], .mc0,
     ⟨1, 0, [], .fetched, [], 0, false, none⟩, by decide +kernel⟩,
   ⟨senderAt fun d => d.setAll [(RING_CFG_EN 3, 1), (RING_CFG_EN 2, 1)], .bar0, by decide +kernel⟩,
   ⟨senderAt fun d => { d with host.shadowSeq := 9 }, .mc0, by decide +kernel⟩,
   ⟨senderAt fun d => d.setAll [(HIF_CTRL_EN, 1), (HIF_STAT_RUN, 1)], .mc0, by decide +kernel⟩⟩

/-- The hypotheses of Obligations.DoorbellAndShadow, clause by clause. -/
theorem witness_DoorbellAndShadow :
    (∃ (s : State) (idx : Fin 5 → Word) (rest : List Byte), (senderOn s) ∧ (s.dev.pollDue s.dev.host.lastPoll = true) ∧
      (s.dev.host.hostIdx.length = 5) ∧ (∀ n : Fin 5, s.dev.get (RING_CFG_EN n) = 1) ∧ (∀ n : Fin 5, indexFits s.dev n (idx
      n))) ∧
    (∃ (s : State), (senderOn s) ∧ (s.dev.pollDue s.dev.host.lastPoll = true) ∧ (s.dev.host.failRun + 1 ≠ 16)) ∧
    (∃ (s : State), (senderOn s) ∧ (s.dev.pollDue s.dev.host.lastPoll = true) ∧ (s.dev.host.failRun = 15) ∧ (s.dev.get
      (HIF_VEC_EN IRQ_RING_ERR) = 1)) ∧
    (∃ (s : State), (senderOn s) ∧ (s.dev.get HIF_CTRL_EN = 1) ∧ (s.dev.host.shadow ≠ some s.dev.indices) ∧ (s.dev.pollDue
      s.dev.host.lastShadow = true)) ∧
    (∃ (s : State) (page : List Byte), (senderOn s) ∧ (s.dev.get HIF_CTRL_EN = 0)) :=
  ⟨⟨senderAt fun d => d.setAll [(HIF_CTRL_EN, 1), (RING_CFG_EN 0, 1), (RING_CFG_EN 1, 1), (RING_CFG_EN 2, 1), (RING_CFG_EN 3,
    1), (RING_CFG_EN 4, 1), (RING_IDX_INDEX 1, 0xFFFFFFF8), (RING_CFG_LOG2SIZE 1, 8)], fun k => [64, 0x10, 3, 0, 0].getD k 0,
    zeros 44, by decide +kernel⟩,
   ⟨senderAt fun d => d.set HIF_CTRL_EN 1, by decide +kernel⟩,
   ⟨senderAt fun d => { d with host.failRun := 15 }.setAll [(HIF_CTRL_EN, 1), (HIF_VEC_EN IRQ_RING_ERR, 1)], by decide +kernel⟩,
   ⟨senderAt fun d => d.setAll [(HIF_CTRL_EN, 1), (HIF_SH_HI_ADDR, 7), (RING_IDX_INDEX 2, 9)], by decide +kernel⟩,
   ⟨senderAt id, zeros 64, by decide +kernel⟩⟩

/-- The hypotheses of Obligations.IndexOutOfRange, clause by clause. -/
theorem witness_IndexOutOfRange :
    (∃ (s : State) (n : Fin 5) (idx : Fin 5 → Word) (rest : List Byte), (senderOn s) ∧ (s.dev.pollDue s.dev.host.lastPoll =
      true) ∧ (s.dev.host.hostIdx.length = 5) ∧ (s.dev.get (RING_CFG_EN n) = 1) ∧ (¬ indexFits s.dev n (idx n)) ∧ (∀ k : Fin
      5, k ≠ n → s.dev.get (RING_CFG_EN k) = 0 ∨ indexFits s.dev k (idx k))) :=
  ⟨senderAt fun d => d.setAll [(HIF_CTRL_EN, 1), (RING_CFG_EN 1, 1), (RING_CFG_EN 2, 1), (RING_IDX_INDEX 1, 0xFFFFFFF8),
    (RING_CFG_LOG2SIZE 1, 8), (HIF_VEC_EN IRQ_RING_ERR, 1)], 1, fun k => if k = 1 then 0x120 else 5, zeros 44,
    by decide +kernel⟩

/-- The hypotheses of Obligations.Descriptors, clause by clause. -/
theorem witness_Descriptors :
    (∃ (s : State) (slot : List Byte), (senderOn s) ∧ (s.dev.mayFetch 1 = true) ∧ (slot.length = 64) ∧ (leAt slot 60 4 =
      crc32c (slot.take 60))) ∧
    (∃ (s : State) (slot : List Byte), (senderOn s) ∧ (s.dev.mayFetch 2 = true) ∧ (slot.length = 64) ∧ (leAt slot 60 4 ≠
      crc32c (slot.take 60)) ∧ (s.dev.host.descs = []) ∧ (s.dev.host.out = [])) ∧
    (∃ (s : State), (senderOn s) ∧ (s.dev.mayFetch 1 = true) ∧ (s.dev.host.descs = [])) ∧
    (∃ (s : State) (ahead : Nat), (senderOn s) ∧ (s.dev.get (RING_CFG_EN 0) = 1) ∧ (ahead < s.dev.ringEntries 0) ∧ (ahead ≤
      16) ∧ (s.dev.inFlight < 1024) ∧ (s.dev.host.descs = []) ∧ (s.dev.get (HIF_VEC_EN IRQ_RING_ERR) = 0)) ∧
    (∃ (s : State) (slot : List Byte), (senderOn s) ∧ (s.dev.mayFetch 1 = false)) ∧
    (∃ (s : State) (c : Cpl) (rest : List Cpl), (senderOn s) ∧ (s.dev.host.cpls = c :: rest) ∧ (s.dev.get (RING_CFG_EN 3) = 1)
      ∧ ((s.dev.get (RING_IDX_INDEX 3) + 2 ^ 32 - nth s.dev.host.hostIdx 3 0 % 2 ^ 32) % 2 ^ 32 < s.dev.ringSize 3) ∧
      (s.dev.get (HIF_VEC_EN IRQ_CPL) = 0)) ∧
    (∃ (s : State), (senderOn s) ∧ (s.dev.host.cpls = [] ∨ s.dev.get (RING_CFG_EN 3) = 0)) :=
  ⟨⟨senderAt fun d => { d with host.hostIdx := [0, 5, 0, 0, 0] }.set (RING_CFG_EN 1) 1, descOf 0 0 7 0 [], by decide +kernel⟩,
   ⟨senderAt fun d => { d with host.hostIdx := [0, 0, 5, 0, 0] }.set (RING_CFG_EN 2) 1, List.replicate 64 7, by decide +kernel⟩,
   ⟨senderAt fun d => { d with host.hostIdx := [0, 5, 0, 0, 0] }.set (RING_CFG_EN 1) 1, by decide +kernel⟩,
   ⟨senderAt fun d => { d with host.hostIdx := [5, 0, 0, 0, 0] }.setAll [(RING_CFG_EN 0, 1), (RING_CFG_LOG2SIZE 0, 8)], 4,
     by decide +kernel⟩,
   ⟨senderAt id, [], by decide +kernel⟩,
   ⟨senderAt fun d => { d with host.cpls := [⟨5, 3, 1, 1, 9, 6⟩] }.setAll [(RING_CFG_EN 3, 1), (RING_IDX_INDEX 3, 70),
     (RING_CFG_LOG2SIZE 3, 6)] |> fun d => { d with host.hostIdx := [0, 0, 0, 69, 0] }, ⟨5, 3, 1, 1, 9, 6⟩, [],
     by decide +kernel⟩,
   ⟨senderAt id, by decide +kernel⟩⟩

/-- The hypotheses of Obligations.EventRingAndInterrupts, clause by clause. -/
theorem witness_EventRingAndInterrupts :
    (∃ (s : State) (r : EventRec) (rest : List EventRec), (senderOn s) ∧ (s.dev.host.evtPend = r :: rest) ∧ (r.code ≠
      EV_EVT_RING_OVF.code) ∧ (s.dev.get HIF_EVT_CFG_MIN_SEV ≤ r.sev) ∧ (s.dev.host.ovfPend = false) ∧ (s.dev.host.dropped =
      0) ∧ (s.dev.ringRoom 4 = true) ∧ (s.dev.get (HIF_VEC_EN IRQ_EVT) = 0)) ∧
    (∃ (s : State) (r : EventRec) (rest : List EventRec), (senderOn s) ∧ (s.dev.host.evtPend = r :: rest) ∧ (r.code ≠
      EV_EVT_RING_OVF.code) ∧ (r.sev < s.dev.get HIF_EVT_CFG_MIN_SEV)) ∧
    (∃ (s : State) (r : EventRec) (rest : List EventRec), (senderOn s) ∧ (s.dev.host.evtPend = r :: rest) ∧ (r.code ≠
      EV_EVT_RING_OVF.code) ∧ (s.dev.get HIF_EVT_CFG_MIN_SEV ≤ r.sev) ∧ (s.dev.host.ovfPend = false) ∧ (s.dev.ringRoom 4 =
      false)) ∧
    (∃ (s : State), (senderOn s) ∧ (s.dev.host.evtPend = []) ∧ (s.dev.host.dropped ≠ 0) ∧ (s.dev.host.ovfPend = false) ∧
      (s.dev.ringRoom 4 = true) ∧ (s.dev.rcd.queue.length < 32)) ∧
    (∃ (s : State) (p : RxPkt) (rest : List RxPkt), (senderOn s) ∧ (s.dev.rxq = p :: rest) ∧ (pktType p.bytes = PT_EVENT) ∧
      (s.dev.host.evtPend ≠ [])) ∧
    (∃ (s : State) (p : RxPkt) (rest : List RxPkt) (r : EventRec), (senderOn s) ∧ (s.dev.rxq = p :: rest) ∧ (pktType p.bytes =
      PT_EVENT) ∧ (r = eventOfBytes (pktBody p.bytes)) ∧ (r.code ≠ EV_EVT_RING_OVF.code) ∧ (s.dev.host.evtPend = []) ∧ (r.sev
      < s.dev.get HIF_EVT_CFG_MIN_SEV)) ∧
    (∃ (s : State) (p : RxPkt) (rest : List RxPkt) (r : EventRec), (senderOn s) ∧ (s.dev.rxq = p :: rest) ∧ (pktType p.bytes =
      PT_EVENT) ∧ (r = eventOfBytes (pktBody p.bytes)) ∧ (r.code ≠ EV_EVT_RING_OVF.code) ∧ (s.dev.host.evtPend = []) ∧
      (s.dev.get HIF_EVT_CFG_MIN_SEV ≤ r.sev) ∧ (s.dev.host.ovfPend = false) ∧ (s.dev.ringRoom 4 = false)) ∧
    (∃ (s : State) (p : RxPkt) (rest : List RxPkt) (r : EventRec), (senderOn s) ∧ (s.dev.rxq = p :: rest) ∧ (pktType p.bytes =
      PT_EVENT) ∧ (r = eventOfBytes (pktBody p.bytes)) ∧ (r.code ≠ EV_EVT_RING_OVF.code) ∧ (s.dev.host.evtPend = []) ∧
      (s.dev.get HIF_EVT_CFG_MIN_SEV ≤ r.sev) ∧ (s.dev.host.ovfPend = false) ∧ (s.dev.host.dropped = 0) ∧ (s.dev.ringRoom 4 =
      true) ∧ (s.dev.get (HIF_VEC_EN IRQ_EVT) = 0)) ∧
    (∃ (s : State) (c : Fin 16), (senderOn s) ∧ (s.dev.get (HIF_VEC_EN c) = 1) ∧ ((nth s.dev.host.items c (0, 0)).1 ≠ 0) ∧
      ((nth s.dev.host.items c (0, 0)).2 + 250 * s.dev.get (HIF_VEC_TIME c) ≤ s.dev.time.clk.ticks) ∧ (s.dev.get HIF_CTRL_EN =
      0)) ∧
    (∃ (s : State) (c : Fin 16), (senderOn s) ∧ (s.dev.get (HIF_VEC_EN c) = 1) ∧ (max 1 (s.dev.get (HIF_VEC_COUNT c)) ≤ (nth
      s.dev.host.items c (0, 0)).1) ∧ (s.dev.get HIF_CTRL_EN = 0)) ∧
    (∃ (s : State) (v : Fin 64), (senderOn s) ∧ (nth s.dev.host.pba v false = true) ∧ (natBit s.dev.host.pcie.msixCtl 0 =
      false) ∧ (s.dev.shadowStale = false)) ∧
    (∃ (s : State) (v : Fin 64), (senderOn s) ∧ (nth s.dev.host.pba v false = true) ∧ (natBit s.dev.host.pcie.msixCtl 0 =
      false) ∧ (s.dev.get HIF_CTRL_EN = 1) ∧ (s.dev.host.shadow ≠ some s.dev.indices)) ∧
    (∃ (s : State) (v : Fin 64), (senderOn s) ∧ (nth s.dev.host.pba v false = false ∨ natBit s.dev.host.pcie.msixCtl 0 =
      true)) ∧
    (∃ (s : State) (v : Fin 64) (w : Word), (senderOn s) ∧ (s.dev.host.linkUp = true) ∧ (s.dev.shadowStale = false) ∧
      (s.dev.host.pba = (List.replicate 64 false).set v true) ∧ (nth s.dev.host.vecMask v true = false) ∧ (w.getLsbD 30 =
      false)) :=
  ⟨⟨senderAt fun d => { d with host.evtPend := [evA] }.setAll [(RING_CFG_EN 4, 1)], evA, [], by decide +kernel⟩,
   ⟨senderAt fun d => { d with host.evtPend := [evA] }.set HIF_EVT_CFG_MIN_SEV 6, evA, [], by decide +kernel⟩,
   ⟨senderAt fun d => { d with host.evtPend := [evA] }, evA, [], by decide +kernel⟩,
   ⟨senderAt fun d => { d with host.dropped := 3 }.set (RING_CFG_EN 4) 1, by decide +kernel⟩,
   ⟨senderAt fun d => { d with host.evtPend := [evA], rxq := [rxOf 1 PT_EVENT 64 0 (eventBytes evA)] }, rxOf 1 PT_EVENT 64 0
     (eventBytes evA), [], by decide +kernel⟩,
   ⟨senderAt fun d => { d with rxq := [rxOf 1 PT_EVENT 64 0 (eventBytes evA)] }.set HIF_EVT_CFG_MIN_SEV 6, rxOf 1 PT_EVENT 64
     0 (eventBytes evA), [], eventOfBytes (pktBody (rxOf 1 PT_EVENT 64 0 (eventBytes evA)).bytes), by decide +kernel⟩,
   ⟨senderAt fun d => { d with rxq := [rxOf 1 PT_EVENT 64 0 (eventBytes evA)] }, rxOf 1 PT_EVENT 64 0 (eventBytes evA), [],
     eventOfBytes (pktBody (rxOf 1 PT_EVENT 64 0 (eventBytes evA)).bytes), by decide +kernel⟩,
   ⟨senderAt fun d => { d with rxq := [rxOf 1 PT_EVENT 64 0 (eventBytes evA)] }.setAll [(RING_CFG_EN 4, 1)], rxOf 1 PT_EVENT
     64 0 (eventBytes evA), [], eventOfBytes (pktBody (rxOf 1 PT_EVENT 64 0 (eventBytes evA)).bytes), by decide +kernel⟩,
   ⟨senderAt fun d => { d with host.items := List.replicate 16 (3, 0), host.vecMask := List.replicate 64 false, time.clk.ticks := 500 }.setAll
     [(HIF_VEC_EN 1, 1), (HIF_VEC_TIME 1, 2), (HIF_VEC_VECTOR 1, 9)], 1, by decide +kernel⟩,
   ⟨senderAt fun d => { d with host.items := List.replicate 16 (3, 0) }.setAll [(HIF_VEC_EN 1, 1), (HIF_VEC_COUNT 1, 3),
     (HIF_VEC_VECTOR 1, 9)], 1, by decide +kernel⟩,
   ⟨senderAt fun d => { d with host.pba := List.replicate 64 true }, 9, by decide +kernel⟩,
   ⟨senderAt fun d => { d with host.pba := List.replicate 64 true }.set HIF_CTRL_EN 1, 9, by decide +kernel⟩,
   ⟨senderAt id, 9, by decide +kernel⟩,
   ⟨senderAt fun d => { d with host.linkUp := true, host.pba := (List.replicate 64 false).set 9 true, host.vecMask := List.replicate 64 false, host.pcie.msixCtl := 1 },
     9, 0x80000000, by decide +kernel⟩⟩

/-- The hypotheses of Obligations.GeneralCommands, clause by clause. -/
theorem witness_GeneralCommands :
    (∃ (s : State) (ref : CmdRef) (desc : List Byte), (Waits ref desc s = true) ∧ (s.dev.firmware = true) ∧ (dOpcode desc =
      0)) ∧
    (∃ (s : State) (desc : List Byte), (Waits .remote desc s = true) ∧ (s.dev.firmware = false) ∧ (dOpcode desc = 0)) ∧
    (∃ (s : State) (ref : CmdRef) (desc : List Byte), (Waits ref desc s = true) ∧ (s.dev.firmware = true) ∧ (definedOp
      (dOpcode desc) = false)) ∧
    (∃ (s : State) (i : Nat) (desc : List Byte), (Waits (.ring i) desc s = true) ∧ (dOpcode desc = 1) ∧ (dCount desc = 1) ∧
      (dResult desc = 0) ∧ (dAddr desc % 4 = 0) ∧ ((regAt (dAddr desc)).isSome = true) ∧ (dAddr desc ≠ TIME_NOW_NS)) ∧
    (∃ (s : State) (i : Nat) (desc : List Byte), (Waits (.ring i) desc s = true) ∧ (dOpcode desc = 2) ∧ (dCount desc = 1) ∧
      (ordinary (dAddr desc) = true) ∧ (dAddr desc % 4 = 0)) ∧
    (∃ (s : State) (i : Nat) (desc : List Byte), (Waits (.ring i) desc s = true) ∧ (dOpcode desc = 3) ∧ (dCount desc = 1) ∧
      (ordinary (dAddr desc) = true) ∧ (unusedAt s.straps (dAddr desc) = false) ∧ (dAddr desc % 4 = 0)) ∧
    (∃ (s : State) (i : Nat) (desc : List Byte), (Waits (.ring i) desc s = true) ∧ (1 ≤ dOpcode desc ∧ dOpcode desc ≤ 3) ∧
      (dCount desc = 0 ∨ dAddr desc % 4 ≠ 0 ∨ 0x1000000 < dAddr desc + 4 * dCount desc ∨
        (dOpcode desc = 1 ∧ (64 < dCount desc ∨ dResult desc % 4 ≠ 0 ∨ (1 < dCount desc ∧ dResult desc = 0))) ∨
        (dOpcode desc = 2 ∧ 8 < dCount desc) ∨ (dOpcode desc = 3 ∧ dCount desc ≠ 1))) ∧
    (∃ (s : State) (k : RxPkt) (rest : List RxPkt), (tileOn s) ∧ (s.dev.rxq = k :: rest) ∧ (isCmd CK_DESC k = true) ∧ (dOpcode
      (cmdDesc k.bytes) = 1) ∧ (dCount (cmdDesc k.bytes) = 1) ∧ (dResult (cmdDesc k.bytes) = 0) ∧ (dAddr (cmdDesc k.bytes) % 4
      = 0) ∧ ((regAt (dAddr (cmdDesc k.bytes))).isSome = true) ∧ (dAddr (cmdDesc k.bytes) ≠ TIME_NOW_NS) ∧ (s.dev.waiting =
      []) ∧ (canAnswer s.dev k.bytes = true)) ∧
    (∃ (s : State) (k : RxPkt) (rest : List RxPkt), (tileOn s) ∧ (s.dev.rxq = k :: rest) ∧ (isCmd CK_DESC k = true) ∧ (dOpcode
      (cmdDesc k.bytes) = 2) ∧ (dCount (cmdDesc k.bytes) = 1) ∧ (ordinary (dAddr (cmdDesc k.bytes)) = true) ∧ (dAddr (cmdDesc
      k.bytes) % 4 = 0) ∧ (s.dev.waiting = []) ∧ (canAnswer s.dev k.bytes = true)) ∧
    (∃ (s : State) (k : RxPkt) (rest : List RxPkt), (tileOn s) ∧ (s.dev.rxq = k :: rest) ∧ (isCmd CK_DESC k = true) ∧ (dOpcode
      (cmdDesc k.bytes) = 3) ∧ (dCount (cmdDesc k.bytes) = 1) ∧ (ordinary (dAddr (cmdDesc k.bytes)) = true) ∧ (unusedAt
      s.straps (dAddr (cmdDesc k.bytes)) = false) ∧ (dAddr (cmdDesc k.bytes) % 4 = 0) ∧ (s.dev.waiting = []) ∧ (canAnswer
      s.dev k.bytes = true)) ∧
    (∃ (s : State) (k : RxPkt) (rest : List RxPkt), (tileOn s) ∧ (s.dev.rxq = k :: rest) ∧ (isCmd CK_DESC k = true) ∧ (1 ≤
      dOpcode (cmdDesc k.bytes) ∧ dOpcode (cmdDesc k.bytes) ≤ 3) ∧ (s.dev.waiting ≠ [])) :=
  ⟨⟨cmdAtSender 5 (descOf 0 2 7 0 []) id, .ring 5, descOf 0 2 7 0 [], by decide +kernel⟩,
   ⟨withDev (cmdAtTile (descOf 0 0 7 77 []) id) fun d => { d with boot.mcRunning := false }, (descOf 0 0 7 77 []).take 60,
     by decide +kernel⟩,
   ⟨cmdAtSender 5 (descOf 0x0800 2 7 0 []) id, .ring 5, descOf 0x0800 2 7 0 [], by decide +kernel⟩,
   ⟨cmdAtSender 5 (descOf 1 2 7 0 (leBytes 1 2 ++ leBytes THM_WARN 4)) id, 5, descOf 1 2 7 0 (leBytes 1 2 ++ leBytes THM_WARN
     4), by decide +kernel⟩,
   ⟨cmdAtSender 5 (descOf 2 2 7 0 (leBytes 1 2 ++ leBytes THM_WARN 4 ++ zeros 8 ++ leBytes 0x12345678 4)) id, 5, descOf 2 2 7
     0 (leBytes 1 2 ++ leBytes THM_WARN 4 ++ zeros 8 ++ leBytes 0x12345678 4), by decide +kernel⟩,
   ⟨cmdAtSender 5 (descOf 3 2 7 0 (leBytes 1 2 ++ leBytes THM_WARN 4 ++ zeros 8 ++ leBytes 0xFF00 4 ++ leBytes 0x12345678 4))
     id, 5, descOf 3 2 7 0 (leBytes 1 2 ++ leBytes THM_WARN 4 ++ zeros 8 ++ leBytes 0xFF00 4 ++ leBytes 0x12345678 4),
     by decide +kernel⟩,
   ⟨cmdAtSender 5 (descOf 1 2 7 0 (leBytes 2 2 ++ leBytes THM_WARN 4)) id, 5, descOf 1 2 7 0 (leBytes 2 2 ++ leBytes THM_WARN
     4), by decide +kernel⟩,
   ⟨tileAt fun d => { d with rxq := [cmdPkt (descOf 1 0 7 77 (leBytes 1 2 ++ leBytes THM_WARN 4))] }.setAll chained, cmdPkt
     (descOf 1 0 7 77 (leBytes 1 2 ++ leBytes THM_WARN 4)), [], by decide +kernel⟩,
   ⟨tileAt fun d => { d with rxq := [cmdPkt (descOf 2 0 7 77 (leBytes 1 2 ++ leBytes THM_WARN 4 ++ zeros 8 ++ leBytes 0x12345678 4))] }.setAll
     chained, cmdPkt (descOf 2 0 7 77 (leBytes 1 2 ++ leBytes THM_WARN 4 ++ zeros 8 ++ leBytes 0x12345678 4)), [],
     by decide +kernel⟩,
   ⟨tileAt fun d => { d with rxq := [cmdPkt (descOf 3 0 7 77 (leBytes 1 2 ++ leBytes THM_WARN 4 ++ zeros 8 ++ leBytes 0xFF00 4 ++ leBytes 0x12345678 4))] }.setAll
     chained, cmdPkt (descOf 3 0 7 77 (leBytes 1 2 ++ leBytes THM_WARN 4 ++ zeros 8 ++ leBytes 0xFF00 4 ++ leBytes 0x12345678
     4)), [], by decide +kernel⟩,
   ⟨withDev (cmdAtTile (descOf 0 0 7 77 []) id) fun d => { d with rxq := [cmdPkt (descOf 1 0 7 77 [])], tile.arrivals := 5 },
     cmdPkt (descOf 1 0 7 77 []), [], by decide +kernel⟩⟩

/-- The hypotheses of Obligations.LampAndRecorderCommands, clause by clause. -/
theorem witness_LampAndRecorderCommands :
    (∃ (s : State) (desc : List Byte), (Waits .remote desc s = true) ∧ (s.dev.firmware = true) ∧ (dOpcode desc = 0x0300) ∧
      (dData desc 0 % 65536 < 49152)) ∧
    (∃ (s : State) (desc : List Byte), (Waits .remote desc s = true) ∧ (s.dev.firmware = true) ∧ (dOpcode desc = 0x0301) ∧
      (dData desc 0 % 65536 < 49152)) ∧
    (∃ (s : State) (desc : List Byte), (Waits .remote desc s = true) ∧ (s.dev.firmware = true) ∧ (dOpcode desc = 0x0300 ∨
      dOpcode desc = 0x0301) ∧ (49151 < dData desc 0 % 65536)) ∧
    (∃ (s : State) (i : Nat) (desc : List Byte), (Waits (.ring i) desc s = true) ∧ (dOpcode desc = 0x0300 ∨ dOpcode desc =
      0x0301)) ∧
    (∃ (s : State) (ref : CmdRef) (desc : List Byte), (Waits ref desc s = true) ∧ (s.dev.firmware = true) ∧ (dOpcode desc =
      0x0701) ∧ (dData desc 3 % 16 ≤ 5) ∧ (s.dev.rcd.queue.length < 32)) ∧
    (∃ (s : State) (ref : CmdRef) (desc : List Byte), (Waits ref desc s = true) ∧ (s.dev.firmware = true) ∧ (dOpcode desc =
      0x0701) ∧ (dData desc 3 % 16 ≤ 5) ∧ (32 ≤ s.dev.rcd.queue.length)) ∧
    (∃ (s : State) (i : Nat) (e : Desc) (r : EventRec), (senderOn s) ∧ (s.dev.rcd.queue = [r]) ∧ (r.mark = some (.ring i)) ∧
      (r.code ≠ EV_EVT_RING_OVF.code) ∧ (s.dev.rcd.lost = 0) ∧ (s.dev.host.descs = [e]) ∧ (e.ring = 1) ∧ (e.index = i) ∧
      (e.phase = .started) ∧ (e.result = none) ∧ (dNoCpl e.bytes = false) ∧ (s.dev.host.out = [])) ∧
    (∃ (s : State) (ref : CmdRef) (desc : List Byte), (Waits ref desc s = true) ∧ (s.dev.firmware = true) ∧ (dOpcode desc =
      0x0701) ∧ (6 ≤ dData desc 3 % 16)) ∧
    (∃ (s : State) (ref : CmdRef) (desc : List Byte), (Waits ref desc s = true) ∧ (s.dev.firmware = true) ∧ (dOpcode desc =
      0x0700) ∧ (s.dev.sec.clearToken = none)) ∧
    (∃ (s : State) (ref : CmdRef) (desc tok : List Byte), (Waits ref desc s = true) ∧ (s.dev.firmware = true) ∧ (dOpcode desc
      = 0x0700) ∧ (s.dev.sec.clearToken = some tok) ∧ (s.dev.rcd.next < 2 ^ 32)) :=
  ⟨⟨cmdAtTile (descOf 0x300 0 7 77 (zeros 14 ++ leBytes 49151 4)) id, (descOf 0x300 0 7 77 (zeros 14 ++ leBytes 49151 4)).take
    60, by decide +kernel⟩,
   ⟨cmdAtTile (descOf 0x301 0 7 77 (zeros 14 ++ leBytes 0x10005 4)) id, (descOf 0x301 0 7 77 (zeros 14 ++ leBytes 0x10005
     4)).take 60, by decide +kernel⟩,
   ⟨cmdAtTile (descOf 0x300 0 7 77 (zeros 14 ++ leBytes 49152 4)) id, (descOf 0x300 0 7 77 (zeros 14 ++ leBytes 49152 4)).take
     60, by decide +kernel⟩,
   ⟨cmdAtSender 5 (descOf 0x301 2 7 0 []) id, 5, descOf 0x301 2 7 0 [], by decide +kernel⟩,
   ⟨cmdAtSender 5 (descOf 0x701 2 7 0 (zeros 14 ++ leBytes 1 4 ++ leBytes 2 4 ++ leBytes 3 4 ++ leBytes 0x155 4)) id, .ring 5,
     descOf 0x701 2 7 0 (zeros 14 ++ leBytes 1 4 ++ leBytes 2 4 ++ leBytes 3 4 ++ leBytes 0x155 4), by decide +kernel⟩,
   ⟨cmdAtSender 5 (descOf 0x701 2 7 0 []) fun d => { d with rcd.queue := List.replicate 32 evA }, .ring 5, descOf 0x701 2 7 0
     [], by decide +kernel⟩,
   ⟨senderAt fun d => { d with rcd.queue := [{ evA with mark := some (.ring 5) }], rcd.next := 77, host.descs := [{ fetchedCmd 5 (descOf 0x701 0 7 0 []) with phase := .started }] },
     5, { fetchedCmd 5 (descOf 0x701 0 7 0 []) with phase := .started }, { evA with mark := some (.ring 5) },
     by decide +kernel⟩,
   ⟨cmdAtSender 5 (descOf 0x701 2 7 0 (zeros 26 ++ leBytes 6 4)) id, .ring 5, descOf 0x701 2 7 0 (zeros 26 ++ leBytes 6 4),
     by decide +kernel⟩,
   ⟨cmdAtTile (descOf 0x700 0 7 77 []) id, .remote, (descOf 0x700 0 7 77 []).take 60, by decide +kernel⟩,
   ⟨cmdAtSender 5 (descOf 0x700 2 7 0 []) fun d => { d with sec.clearToken := some tokA }, .ring 5, descOf 0x700 2 7 0 [],
     tokA, by decide +kernel⟩⟩

/-- The hypotheses of Obligations.CommandsOnTheirWay, clause by clause. -/
theorem witness_CommandsOnTheirWay :
    (∃ (s : State) (i : Nat) (desc : List Byte), (oneDesc (fetchedCmd i desc) s = true) ∧ (dLocal desc = false) ∧ (definedOp
      (dOpcode desc) = true) ∧ (remoteBad desc = false) ∧ (dOpcode desc ≠ 0x0200) ∧ (s.dev.reachable (dTarget desc) = true)) ∧
    (∃ (s : State) (i : Nat) (desc : List Byte), (oneDesc (fetchedCmd i desc) s = true) ∧ (dLocal desc = false) ∧ (definedOp
      (dOpcode desc) = true) ∧ (remoteBad desc = false) ∧ (s.dev.reachable (dTarget desc) = false)) ∧
    (∃ (s : State) (i : Nat) (desc : List Byte), (senderOn s) ∧ (s.dev.host.descs = [fetchedCmd i desc]) ∧ (dLocal desc =
      false) ∧ (definedOp (dOpcode desc) = true) ∧ (remoteBad desc = false) ∧ (s.dev.reachable (dTarget desc) = true) ∧ (4 ≤
      s.dev.outstanding (dTarget desc / 64 % 4) (dTarget desc % 64))) ∧
    (∃ (s : State) (e : Desc) (o : OutCmd) (k : RxPkt) (rest : List RxPkt), (senderOn s) ∧ (s.dev.host.descs = [e]) ∧ (e.ring
      = 1) ∧ (e.phase = .started) ∧ (e.result = none) ∧ (dNoCpl e.bytes = false) ∧ (s.dev.host.out = [o]) ∧ (o.kind = .desc
      e.index) ∧ (dOpcode e.bytes ≠ 1) ∧ (dOpcode e.bytes ≠ 0x0604) ∧ (dOpcode e.bytes ≠ 0x0101) ∧ (s.dev.rxq = k :: rest) ∧
      (pktType k.bytes = PT_RSP) ∧ (rspStatus k.bytes ≠ ST_PENDING) ∧ (rspXid k.bytes = o.xid) ∧ (k.port = o.port) ∧
      (pktSrcAddr k.bytes % 64 = o.position)) ∧
    (∃ (s : State) (o : OutCmd) (k : RxPkt) (rest : List RxPkt), (senderOn s) ∧ (s.dev.host.out = [o]) ∧ (o.sentAt.isSome =
      true) ∧ (s.dev.rxq = k :: rest) ∧ (pktType k.bytes = PT_RSP) ∧ (rspStatus k.bytes = ST_PENDING) ∧ (rspXid k.bytes =
      o.xid) ∧ (k.port = o.port) ∧ (pktSrcAddr k.bytes % 64 = o.position)) ∧
    (∃ (s : State) (e : Desc) (o : OutCmd) (t0 : Nat), (senderOn s) ∧ (s.dev.host.descs = [e]) ∧ (e.ring = 1) ∧ (e.phase =
      .started) ∧ (e.result = none) ∧ (dNoCpl e.bytes = false) ∧ (s.dev.host.out = [o]) ∧ (o.kind = .desc e.index) ∧ (o.sentAt
      = some t0) ∧ (t0 + 250 * s.dev.get HIF_CMD_TMO_US ≤ s.dev.time.clk.ticks)) ∧
    (∃ (s : State) (xid : Nat), (senderOn s) ∧ (s.dev.host.out = []) ∧ (s.dev.sec.domino = none)) ∧
    (∃ (s : State) (x : Port) (p : TxPkt), (senderOn s) ∧ ((s.dev.port x).cur = some p) ∧ (∀ l ∈ (s.dev.port x).txq, l = []) ∧
      ((s.dev.port x).fwd = []) ∧ (s.dev.host.out = []) ∧ (s.dev.host.descs = [])) ∧
    (∃ (s : State) (x : Port) (p : TxPkt) (left : List (List Byte)), (senderOn s) ∧ ((s.dev.port x).cur = some p) ∧ (∀ l ∈
      (s.dev.port x).txq, l = []) ∧ ((s.dev.port x).fwd = left.map some) ∧ (left ≠ []) ∧ (left.length ≤ 19) ∧ (s.dev.carries x
      = true) ∧ (s.dev.host.out = []) ∧ (s.dev.host.descs = [])) :=
  ⟨⟨presentAt 1 13 (cmdAtSender 5 (descOf 0x0300 0 7 77 []) id), 5, descOf 0x0300 0 7 77 [], by decide +kernel⟩,
   ⟨cmdAtSender 5 (descOf 0x0300 0 7 77 []) id, 5, descOf 0x0300 0 7 77 [], by decide +kernel⟩,
   ⟨withDev (presentAt 1 13 (cmdAtSender 5 (descOf 0x0300 0 7 77 []) id)) fun d =>
     { d with host.out := List.replicate 4 ⟨9, 1, 13, .desc 3, none, 0⟩ }, 5, descOf 0x0300 0 7 77 [], by decide +kernel⟩,
   ⟨senderAt fun d => { d with host.descs := [{ fetchedCmd 5 (descOf 0x300 0 7 77 []) with phase := .started }], host.out := [⟨9, 1, 13, .desc 5, some 0, 0⟩], rxq := [rxOf 1 PT_RSP 77 4096 (rspBody 9 0 1234 0 [])] },
     { fetchedCmd 5 (descOf 0x300 0 7 77 []) with phase := .started }, ⟨9, 1, 13, .desc 5, some 0, 0⟩, rxOf 1 PT_RSP 77 4096
     (rspBody 9 0 1234 0 []), [], by decide +kernel⟩,
   ⟨senderAt fun d => { d with time.clk.ticks := 99, host.out := [⟨9, 1, 13, .desc 5, some 0, 0⟩], rxq := [rxOf 1 PT_RSP 77 4096 (rspBody 9 10 0 0 [])] },
     ⟨9, 1, 13, .desc 5, some 0, 0⟩, rxOf 1 PT_RSP 77 4096 (rspBody 9 10 0 0 []), [], by decide +kernel⟩,
   ⟨senderAt fun d => { d with time.clk.ticks := 250000, host.descs := [{ fetchedCmd 5 (descOf 0x300 0 7 77 []) with phase := .started }], host.out := [⟨9, 1, 13, .desc 5, some 0, 0⟩] },
     { fetchedCmd 5 (descOf 0x300 0 7 77 []) with phase := .started }, ⟨9, 1, 13, .desc 5, some 0, 0⟩, 0, by decide +kernel⟩,
   ⟨senderAt id, 9, by decide +kernel⟩,
   ⟨senderAt fun d => d.modPort 1 fun p => { p with cur := some .time }, 1, .time, by decide +kernel⟩,
   ⟨senderAt fun d => (lockedPort 1 d).modPort 1 fun p => { p with cur := some .time, fwd := [some idleCell] }, 1, .time,
     [idleCell], by decide +kernel⟩⟩

/-- The hypotheses of Obligations.CommandsAtATile, clause by clause. -/
theorem witness_CommandsAtATile :
    (∃ (s : State) (k : RxPkt) (rest : List RxPkt), (tileOn s) ∧ (s.dev.rxq = k :: rest) ∧ (isCmd CK_DESC k = true) ∧
      (transportOp (dOpcode (cmdDesc k.bytes)) = false) ∧ (s.dev.obeys k.bytes = true)) ∧
    (∃ (s : State) (k : RxPkt) (rest : List RxPkt), (tileOn s) ∧ (s.dev.rxq = k :: rest) ∧ (isCmd CK_DESC k = true) ∧
      (transportOp (dOpcode (cmdDesc k.bytes)) = false) ∧ (s.dev.obeys k.bytes = false) ∧ (canAnswer s.dev k.bytes = true)) ∧
    (∃ (s : State) (k : RxPkt) (a b : Nat), (tileOn s) ∧ (s.dev.tile.cmds = [(k, a, b)]) ∧ (b + 2500000 ≤
      s.dev.time.clk.ticks) ∧ (canAnswer s.dev k.bytes = true) ∧ (s.dev.tile.bulks = []) ∧ (s.dev.tile.running = [])) ∧
    (∃ (s : State) (k : RxPkt) (rest : List RxPkt), (tileOn s) ∧ (s.dev.rxq = k :: rest) ∧ (isCmd CK_BULK_OPEN k = true) ∧
      (s.dev.obeys k.bytes = true) ∧ (canAnswer s.dev k.bytes = true) ∧ (s.dev.tile.bulks = []) ∧ (s.dev.waiting = [])) ∧
    (∃ (s : State) (k : RxPkt) (rest : List RxPkt), (tileOn s) ∧ (s.dev.rxq = k :: rest) ∧ (isCmd CK_BULK_OPEN k = true) ∧
      (s.dev.tile.bulks = []) ∧ (s.dev.waiting ≠ [])) ∧
    (∃ (s : State) (k : RxPkt) (rest : List RxPkt) (b : BulkIn), (tileOn s) ∧ (s.dev.rxq = k :: rest) ∧ (isCmd CK_BULK_DATA k
      = true) ∧ (s.dev.obeys k.bytes = true) ∧ (s.dev.tile.bulks = [b]) ∧ (bulkFrom b.pkt = bulkFrom k) ∧ (b.last = none) ∧
      (b.segs = []) ∧ (s.dev.waiting ≠ [])) ∧
    (∃ (s : State) (k : RxPkt) (rest : List RxPkt) (b : BulkIn), (tileOn s) ∧ (s.dev.rxq = k :: rest) ∧ (isCmd CK_BULK_DATA k
      = true) ∧ (s.dev.obeys k.bytes = true) ∧ (s.dev.tile.bulks = [b]) ∧ (bulkFrom b.pkt = bulkFrom k) ∧ (s.dev.waiting = [])
      ∧ (b.refused = ST_OK) ∧ (dOpcode (cmdDesc b.pkt.bytes) = 1) ∧ (cmdOffset k.bytes = b.data.length) ∧ (b.data.length +
      (cmdData k.bytes).length < bLength (cmdDesc b.pkt.bytes))) ∧
    (∃ (s : State) (k : RxPkt) (rest : List RxPkt) (b : BulkIn), (tileOn s) ∧ (s.dev.rxq = k :: rest) ∧ (isCmd CK_BULK_DATA k
      = true) ∧ (s.dev.obeys k.bytes = true) ∧ (canAnswer s.dev k.bytes = true) ∧ (s.dev.tile.bulks = [b]) ∧ (bulkFrom b.pkt =
      bulkFrom k) ∧ (s.dev.waiting = []) ∧ (b.refused = ST_OK) ∧ (dOpcode (cmdDesc b.pkt.bytes) = 1) ∧ (cmdOffset k.bytes ≠
      b.data.length)) ∧
    (∃ (s : State) (k : RxPkt) (rest : List RxPkt) (b : BulkIn), (tileOn s) ∧ (s.dev.rxq = k :: rest) ∧ (isCmd CK_BULK_DATA k
      = true) ∧ (s.dev.obeys k.bytes = true) ∧ (canAnswer s.dev k.bytes = true) ∧ (s.dev.tile.bulks = [b]) ∧ (bulkFrom b.pkt =
      bulkFrom k) ∧ (s.dev.waiting = []) ∧ (b.refused = ST_OK) ∧ (dOpcode (cmdDesc b.pkt.bytes) = 1) ∧ (cmdOffset k.bytes =
      b.data.length) ∧ (b.data.length + (cmdData k.bytes).length = bLength (cmdDesc b.pkt.bytes)) ∧ (crc32c (b.data ++ cmdData
      k.bytes) ≠ bDataCrc (cmdDesc b.pkt.bytes))) ∧
    (∃ (s : State) (k : RxPkt) (rest : List RxPkt) (b : BulkIn), (tileOn s) ∧ (s.dev.rxq = k :: rest) ∧ (isCmd CK_BULK_DATA k
      = true) ∧ (s.dev.obeys k.bytes = true) ∧ (canAnswer s.dev k.bytes = true) ∧ (s.dev.tile.bulks = [b]) ∧ (bulkFrom b.pkt =
      bulkFrom k) ∧ (s.dev.waiting = []) ∧ (b.refused ≠ ST_OK)) ∧
    (∃ (s : State) (k : RxPkt) (rest : List RxPkt) (b : BulkIn) (src : List Byte), (tileOn s) ∧ (s.dev.rxq = k :: rest) ∧
      (isCmd CK_BULK_PULL k = true) ∧ (s.dev.obeys k.bytes = true) ∧ (canAnswer s.dev k.bytes = true) ∧ (s.dev.tile.bulks =
      [b]) ∧ (bulkFrom b.pkt = bulkFrom k) ∧ (s.dev.waiting = []) ∧ (b.refused = ST_OK) ∧ (b.snapshot = some src) ∧ (bObject
      (cmdDesc b.pkt.bytes) ≠ OB_REC_DUMP) ∧ (cmdOffset k.bytes + cmdPullCount k.bytes ≤ bLength (cmdDesc b.pkt.bytes))) ∧
    (∃ (s : State) (k : RxPkt) (rest : List RxPkt) (b : BulkIn), (tileOn s) ∧ (s.dev.rxq = k :: rest) ∧ (isCmd CK_BULK_PULL k
      = true) ∧ (s.dev.obeys k.bytes = true) ∧ (s.dev.tile.bulks = [b]) ∧ (bulkFrom b.pkt = bulkFrom k) ∧ (b.last = none) ∧
      (b.snapshot.isSome = true) ∧ (b.pulls = []) ∧ (s.dev.waiting ≠ [])) ∧
    (∃ (s : State) (b : BulkIn) (m : List Byte), (tileOn s) ∧ (s.dev.tile.bulks = [b]) ∧ (s.dev.firmware = true) ∧ (dOpcode
      (cmdDesc b.pkt.bytes) = 2) ∧ (bObject (cmdDesc b.pkt.bytes) = OB_LAMP_MAP ∨ bObject (cmdDesc b.pkt.bytes) = OB_MEAS) ∧
      (b.refused = ST_OK) ∧ (b.opening = none) ∧ (b.last = none) ∧ (b.snapshot = none) ∧ (b.pulls = []) ∧ (b.boundary = some
      m)) ∧
    (∃ (s : State) (b : BulkIn), (tileOn s) ∧ (s.dev.tile.bulks = [b]) ∧ (b.boundary = none) ∧ (snapshotObject (bObject
      (cmdDesc b.pkt.bytes)) = true)) ∧
    (∃ (s : State), (tileOn s) ∧ (s.dev.tile.bulks = [])) :=
  ⟨⟨tileAt fun d => { d with rxq := [cmdPkt (descOf 0x300 0 7 77 [])] }, cmdPkt (descOf 0x300 0 7 77 []), [],
    by decide +kernel⟩,
   ⟨tileAt fun d => { d with rxq := [cmdPkt (descOf 0x300 0 7 77 [])], tile.accepted := some true }.setAll chained, cmdPkt
     (descOf 0x300 0 7 77 []), [], by decide +kernel⟩,
   ⟨withDev (cmdAtTile (descOf 0x300 0 7 77 []) id) fun d => { d with time.clk.ticks := 2500000 }, cmdPkt (descOf 0x300 0 7 77
     []), 0, 0, by decide +kernel⟩,
   ⟨tileAt fun d => { d with rxq := [openPkt (descOf 1 0 7 77 (leBytes 0x40 2))] }.setAll chained, openPkt (descOf 1 0 7 77
     (leBytes 0x40 2)), [], by decide +kernel⟩,
   ⟨withDev (cmdAtTile (descOf 0x300 0 7 77 []) id) fun d => { d with rxq := [openPkt (descOf 1 0 7 77 (leBytes 0x40 2))] },
     openPkt (descOf 1 0 7 77 (leBytes 0x40 2)), [], by decide +kernel⟩,
   ⟨withDev (cmdAtTile (descOf 0x300 0 7 77 []) id) fun d =>
     { d with rxq := [dataPkt 4 [5, 6, 7, 8]], tile.bulks := [bulkInOf (bulkDesc 1 0x40 0 64 0 []) [1, 2, 3, 4]] }, dataPkt 4
     [5, 6, 7, 8], [], bulkInOf (bulkDesc 1 0x40 0 64 0 []) [1, 2, 3, 4], by decide +kernel⟩,
   ⟨tileAt fun d => { d with rxq := [dataPkt 4 [5, 6, 7, 8]], tile.bulks := [bulkInOf (bulkDesc 1 0x40 0 64 0 []) [1, 2, 3, 4]] },
     dataPkt 4 [5, 6, 7, 8], [], bulkInOf (bulkDesc 1 0x40 0 64 0 []) [1, 2, 3, 4], by decide +kernel⟩,
   ⟨tileAt fun d => { d with rxq := [dataPkt 8 [5, 6, 7, 8]], tile.bulks := [bulkInOf (bulkDesc 1 0x40 0 64 0 []) [1, 2, 3, 4]] }.setAll
     chained, dataPkt 8 [5, 6, 7, 8], [], bulkInOf (bulkDesc 1 0x40 0 64 0 []) [1, 2, 3, 4], by decide +kernel⟩,
   ⟨tileAt fun d => { d with rxq := [dataPkt 4 [5, 6, 7, 8]], tile.bulks := [bulkInOf (bulkDesc 1 0x40 0 8 0 []) [1, 2, 3, 4]] }.setAll
     chained, dataPkt 4 [5, 6, 7, 8], [], bulkInOf (bulkDesc 1 0x40 0 8 0 []) [1, 2, 3, 4], by decide +kernel⟩,
   ⟨tileAt fun d => { d with rxq := [dataPkt 4 [5, 6, 7, 8]], tile.bulks := [{ bulkInOf (bulkDesc 1 0x40 0 8 0 []) [] with refused := 6, refusedValue := 1 }] }.setAll
     chained, dataPkt 4 [5, 6, 7, 8], [], { bulkInOf (bulkDesc 1 0x40 0 8 0 []) [] with refused := 6, refusedValue := 1 },
     by decide +kernel⟩,
   ⟨tileAt fun d => { d with rxq := [pullPkt 4 4], tile.bulks := [{ bulkInOf (bulkDesc 2 0x40 0 8 0 []) [] with snapshot := some [1, 2, 3, 4, 5, 6, 7, 8] }] }.setAll
     chained, pullPkt 4 4, [], { bulkInOf (bulkDesc 2 0x40 0 8 0 []) [] with snapshot := some [1, 2, 3, 4, 5, 6, 7, 8] }, [1,
     2, 3, 4, 5, 6, 7, 8], by decide +kernel⟩,
   ⟨withDev (cmdAtTile (descOf 0x300 0 7 77 []) id) fun d =>
     { d with rxq := [pullPkt 4 4], tile.bulks := [{ bulkInOf (bulkDesc 2 0x40 0 8 0 []) [] with snapshot := some [1, 2, 3, 4, 5, 6, 7, 8] }] },
     pullPkt 4 4, [], { bulkInOf (bulkDesc 2 0x40 0 8 0 []) [] with snapshot := some [1, 2, 3, 4, 5, 6, 7, 8] },
     by decide +kernel⟩,
   ⟨tileAt fun d => { d with boot.mcRunning := true, tile.bulks := [{ bulkInOf (bulkDesc 2 OB_MEAS 0 64 0 []) [] with boundary := some (zeros 64) }] },
     { bulkInOf (bulkDesc 2 OB_MEAS 0 64 0 []) [] with boundary := some (zeros 64) }, zeros 64, by decide +kernel⟩,
   ⟨tileAt fun d => { d with boot.mcRunning := true, tile.bulks := [bulkInOf (bulkDesc 2 OB_MEAS 0 64 0 []) []] }, bulkInOf
     (bulkDesc 2 OB_MEAS 0 64 0 []) [], by decide +kernel⟩,
   ⟨State.reset, by decide +kernel⟩⟩

/-- The hypotheses of Obligations.StagingObjects, clause by clause. -/
theorem witness_StagingObjects :
    (∃ (s : State) (ref : CmdRef) (desc data : List Byte), (WaitsPut ref desc data s = true) ∧ (dOpcode desc = 1) ∧ (bObject
      desc = OB_MGMT_STAGE ∨ bObject desc = OB_UCODE_DELTA ∨ (bObject desc = OB_MANIFEST ∧ bParam desc 33 = 0)) ∧
      (s.dev.sec.lease = none)) ∧
    (∃ (s : State) (ref : CmdRef) (desc data : List Byte) (e : MEntry), (WaitsPut ref desc data s = true) ∧ (isObject 1
      OB_MGMT_STAGE desc = true) ∧ (chainLease s.dev) ∧ (mfstEntry s.dev.mfstStaged (mgmtKind s.straps) = some e) ∧ (bOffset
      desc = 65536 * s.dev.nvm.trusted.chunks) ∧ (data.length = min 65536 (e.length - bOffset desc)) ∧ (data ≠ []) ∧
      (s.dev.nvm.trusted.chunks < e.hashes.length) ∧ (sha256 data = nth e.hashes s.dev.nvm.trusted.chunks []) ∧
      (s.dev.nvm.mgmt.length = 2)) ∧
    (∃ (s : State) (ref : CmdRef) (desc data : List Byte) (e : MEntry), (WaitsPut ref desc data s = true) ∧ (isObject 1
      OB_MGMT_STAGE desc = true) ∧ (chainLease s.dev) ∧ (mfstEntry s.dev.mfstStaged (mgmtKind s.straps) = some e) ∧
      ((mfstEntry s.dev.mfstStaged (3 - mgmtKind s.straps)).all (fun o => !o.isChunk s.dev.nvm.trusted.chunks data) = true) ∧
      (bOffset desc = 65536 * s.dev.nvm.trusted.chunks) ∧ (data.length = min 65536 (e.length - bOffset desc)) ∧ (data ≠ []) ∧
      (sha256 data ≠ nth e.hashes s.dev.nvm.trusted.chunks [])) ∧
    (∃ (s : State) (ref : CmdRef) (desc data : List Byte), (WaitsPut ref desc data s = true) ∧ (isObject 1 OB_UCODE_DELTA desc
      = true) ∧ (chainLease s.dev) ∧ ((mfstEntry s.dev.mfstStaged 3).isSome = true) ∧ (bOffset desc = 0) ∧ (data.length < 64)) ∧
    (∃ (s : State) (ref : CmdRef) (desc data : List Byte), (WaitsPut ref desc data s = true) ∧ (isObject 1 OB_MANIFEST desc =
      true) ∧ (bParam desc 33 = 0) ∧ (chainLease s.dev) ∧ (bOffset desc = 0) ∧ (s.dev.nvm.trusted.staged = false) ∧
      (s.dev.nvm.trusted.manifest < 2) ∧ (s.dev.nvm.manifest.length = 2)) ∧
    (∃ (s : State) (ref : CmdRef) (desc tok : List Byte), (WaitsPut ref desc tok s = true) ∧ (isObject 1 OB_MANIFEST desc =
      true) ∧ (bParam desc 33 = 1) ∧ (bOffset desc = 0)) ∧
    (∃ (s : State) (ref : CmdRef) (desc data : List Byte), (WaitsPut ref desc data s = true) ∧ (isObject 1 OB_MANIFEST desc =
      true) ∧ (bParam desc 33 = 2) ∧ (bOffset desc = 0) ∧ (data.length = 64) ∧ (s.dev.nvm.trusted.slot1 = none) ∧ (s.dev.get
      SEC_PRIV_ENROLL = 1)) ∧
    (∃ (s : State) (ref : CmdRef) (desc data : List Byte), (WaitsPut ref desc data s = true) ∧ (isObject 1 OB_MANIFEST desc =
      true) ∧ (bParam desc 33 = 2) ∧ (bOffset desc = 0) ∧ (data.length ≠ 64 ∨ s.dev.nvm.trusted.slot1 ≠ none ∨ s.dev.get
      SEC_PRIV_ENROLL ≠ 1)) :=
  ⟨⟨putAtSender 5 (bulkLocal 1 OB_MANIFEST 0 [1, 2, 3, 4] []) [1, 2, 3, 4] id, .ring 5, bulkLocal 1 OB_MANIFEST 0 [1, 2, 3, 4]
    [], [1, 2, 3, 4], by decide +kernel⟩,
   ⟨putAtTile (bulkLocal 1 OB_MGMT_STAGE 0 [1, 2, 3, 4] []) [1, 2, 3, 4] stagingDev, .remote, (bulkLocal 1 OB_MGMT_STAGE 0 [1,
     2, 3, 4] []).take 60, [1, 2, 3, 4], entryOf (mgmtEntryOf [1, 2, 3, 4]), by decide +kernel⟩,
   ⟨putAtTile (bulkLocal 1 OB_MGMT_STAGE 0 [1, 2, 3, 5] []) [1, 2, 3, 5] stagingDev, .remote, (bulkLocal 1 OB_MGMT_STAGE 0 [1,
     2, 3, 5] []).take 60, [1, 2, 3, 5], entryOf (mgmtEntryOf [1, 2, 3, 4]), by decide +kernel⟩,
   ⟨putAtTile (bulkLocal 1 OB_UCODE_DELTA 0 [1, 2, 3, 4] []) [1, 2, 3, 4] stagingDev, .remote, (bulkLocal 1 OB_UCODE_DELTA 0
     [1, 2, 3, 4] []).take 60, [1, 2, 3, 4], by decide +kernel⟩,
   ⟨putAtTile (bulkLocal 1 OB_MANIFEST 0 [1, 2, 3, 4] []) [1, 2, 3, 4] fun d =>
     { stagingDev d with nvm.trusted.staged := false }, .remote, (bulkLocal 1 OB_MANIFEST 0 [1, 2, 3, 4] []).take 60, [1, 2,
     3, 4], by decide +kernel⟩,
   ⟨putAtTile (bulkLocal 1 OB_MANIFEST 0 [1, 2, 3, 4] [0, 1]) [1, 2, 3, 4] id, .remote, (bulkLocal 1 OB_MANIFEST 0 [1, 2, 3,
     4] [0, 1]).take 60, [1, 2, 3, 4], by decide +kernel⟩,
   ⟨putAtTile (bulkLocal 1 OB_MANIFEST 0 (zeros 64) [0, 2]) (zeros 64) fun d => d.set SEC_PRIV_ENROLL 1, .remote, (bulkLocal 1
     OB_MANIFEST 0 (zeros 64) [0, 2]).take 60, zeros 64, by decide +kernel⟩,
   ⟨putAtSender 5 (bulkLocal 1 OB_MANIFEST 0 (zeros 64) [0, 2]) (zeros 64) fun d => d.set SEC_PRIV_ENROLL 2, .ring 5,
     bulkLocal 1 OB_MANIFEST 0 (zeros 64) [0, 2], zeros 64, by decide +kernel⟩⟩

/-- The hypotheses of Obligations.StoredObjects, clause by clause. -/
theorem witness_StoredObjects :
    (∃ (s : State) (desc data : List Byte), (WaitsPut .remote desc data s = true) ∧ (isObject 1 OB_COEF_SET desc = true) ∧
      (s.dev.firmware = true) ∧ (s.dev.get COR_STAT_PEND = 1)) ∧
    (∃ (s : State) (desc data : List Byte), (WaitsPut .remote desc data s = true) ∧ (isObject 1 OB_COEF_SET desc = true) ∧
      (s.dev.firmware = true) ∧ (s.dev.get COR_STAT_PEND = 0) ∧ (s.dev.nvm.coef.length = 2) ∧ (s.dev.get COR_STAT_ACTIVE < 2)) ∧
    (∃ (s : State) (desc data : List Byte), (WaitsPut .remote desc data s = true) ∧ (isObject 1 OB_SAFE_IMAGE desc = true) ∧
      (s.dev.firmware = true) ∧ (s.dev.safeOk desc = true) ∧ ((s.dev.safes.map fun t => t.w * t.h).sum ≤ 49152) ∧
      (s.dev.nvm.safe.length = 2) ∧ (s.dev.nextSeq NK_SAFE < 2 ^ 32)) ∧
    (∃ (s : State) (desc data : List Byte), (WaitsPut .remote desc data s = true) ∧ (isObject 1 OB_SAFE_IMAGE desc = true) ∧
      (s.dev.firmware = true) ∧ (s.dev.safeOk desc = false)) ∧
    (∃ (s : State) (ref : CmdRef) (desc data : List Byte), (WaitsPut ref desc data s = true) ∧ (isObject 1 OB_SETTINGS desc =
      true) ∧ (s.dev.firmware = true) ∧ (s.dev.nvm.settings.length = 2) ∧ (s.dev.nextSeq NK_SETTINGS < 2 ^ 32)) ∧
    (∃ (s : State) (i : Nat) (desc data : List Byte), (oneDesc (bulkAt i desc .fetched []) s = true) ∧ (dLocal desc = true) ∧
      (isBcast desc = false) ∧ (dOpcode desc = 1) ∧ ((s.dev.bulkAnswer s.straps desc).1 = ST_OK) ∧ (data.length = bLength
      desc)) ∧
    (∃ (s : State) (i : Nat) (desc : List Byte), (oneDesc (bulkAt i desc .fetched []) s = true) ∧ (dLocal desc = true) ∧
      (dOpcode desc = 1) ∧ (bulkLimitsOk desc = true)) :=
  ⟨⟨putAtTile (bulkLocal 1 OB_COEF_SET 0 [1, 2, 3, 4] []) [1, 2, 3, 4] fun d => d.set COR_STAT_PEND 1, (bulkLocal 1
    OB_COEF_SET 0 [1, 2, 3, 4] []).take 60, [1, 2, 3, 4], by decide +kernel⟩,
   ⟨putAtTile (bulkLocal 1 OB_COEF_SET 0 [1, 2, 3, 4] []) [1, 2, 3, 4] fun d => d.set COR_STAT_ACTIVE 1, (bulkLocal 1
     OB_COEF_SET 0 [1, 2, 3, 4] []).take 60, [1, 2, 3, 4], by decide +kernel⟩,
   ⟨putAtTile (bulkLocal 1 OB_SAFE_IMAGE 0 [1, 2, 3, 4] []) [1, 2, 3, 4] id, (bulkLocal 1 OB_SAFE_IMAGE 0 [1, 2, 3, 4]
     []).take 60, [1, 2, 3, 4], by decide +kernel⟩,
   ⟨putAtTile (bulkLocal 1 OB_SAFE_IMAGE 0 [1, 2, 3, 4] [0, 0, 0, 0, 0, 0, 1]) [1, 2, 3, 4] id, (bulkLocal 1 OB_SAFE_IMAGE 0
     [1, 2, 3, 4] [0, 0, 0, 0, 0, 0, 1]).take 60, [1, 2, 3, 4], by decide +kernel⟩,
   ⟨putAtTile (bulkLocal 1 OB_SETTINGS 0 [1, 2, 3, 4] [3, 0, 7, 0]) [1, 2, 3, 4] id, .remote, (bulkLocal 1 OB_SETTINGS 0 [1,
     2, 3, 4] [3, 0, 7, 0]).take 60, [1, 2, 3, 4], by decide +kernel⟩,
   ⟨withDev (putAtSender 5 (bulkLocal 1 OB_SETTINGS 0 [1, 2, 3, 4] [3, 0, 7, 0]) [] id) fun d =>
     { d with host.descs := [bulkAt 5 (bulkLocal 1 OB_SETTINGS 0 [1, 2, 3, 4] [3, 0, 7, 0]) .fetched []] }, 5, bulkLocal 1
     OB_SETTINGS 0 [1, 2, 3, 4] [3, 0, 7, 0], [1, 2, 3, 4], by decide +kernel⟩,
   ⟨withDev (putAtSender 5 (bulkLocal 1 OB_SETTINGS 0 [1, 2, 3, 4] [3, 0, 7, 0]) [] id) fun d =>
     { d with host.descs := [bulkAt 5 (bulkLocal 1 OB_SETTINGS 0 [1, 2, 3, 4] [3, 0, 7, 0]) .fetched []] }, 5, bulkLocal 1
     OB_SETTINGS 0 [1, 2, 3, 4] [3, 0, 7, 0], by decide +kernel⟩⟩

/-- The hypotheses of Obligations.ServedObjects, clause by clause. -/
theorem witness_ServedObjects :
    (∃ (s : State) (ref : CmdRef) (desc : List Byte), (WaitsGet ref desc s = true) ∧ (isObject 2 OB_ATTEST desc = true) ∧
      (s.dev.sec.leaf < 2 ^ 20) ∧ (bLength desc = 8192)) ∧
    (∃ (s : State) (desc : List Byte), (WaitsGet .remote desc s = true) ∧ (isObject 2 OB_ATTEST desc = true) ∧ (2 ^ 20 ≤
      s.dev.sec.leaf)) ∧
    (∃ (s : State) (desc : List Byte) (slot : Nat), (WaitsGet .remote desc s = true) ∧ (isObject 2 OB_COEF_SET desc = true) ∧
      (s.dev.coefNamed desc = some slot)) ∧
    (∃ (s : State) (desc m : List Byte), (WaitsGet .remote desc s = true) ∧ (isObject 2 OB_LAMP_MAP desc = true) ∧
      ((s.dev.tile.bulks.map BulkIn.boundary) = [some m])) ∧
    (∃ (s : State) (desc m : List Byte), (WaitsGet .remote desc s = true) ∧ (isObject 2 OB_MEAS desc = true) ∧
      ((s.dev.tile.bulks.map BulkIn.boundary) = [some m])) ∧
    (∃ (s : State) (i : Nat) (desc : List Byte), (oneDesc (bulkAt i desc .fetched []) s = true) ∧ (dLocal desc = true) ∧
      (isObject 2 OB_LAMP_MAP desc = true ∨ isObject 2 OB_MEAS desc = true)) ∧
    (∃ (s : State) (desc : List Byte), (WaitsGet .remote desc s = true) ∧ (isObject 2 OB_REC_DUMP desc = true) ∧ (s.dev.get
      REC_STAT_EMPTY = 0) ∧ (bParam desc 36 % 2 = 1)) ∧
    (∃ (s : State) (i : Nat) (desc : List Byte), (oneDesc (bulkAt i desc .fetched []) s = true) ∧ (dLocal desc = true) ∧
      (isObject 2 OB_REC_DUMP desc = true) ∧ (s.dev.firmware = true) ∧ (bulkLimitsOk desc = true) ∧ (bOffset desc = 0) ∧
      (bLength desc = 64) ∧ (s.dev.get REC_STAT_EMPTY = 0) ∧ (bParam desc 36 % 2 = 1) ∧ (s.dev.get REC_OLDEST_SEQ = s.dev.get
      REC_NEWEST_SEQ)) ∧
    (∃ (s : State) (ref : CmdRef) (desc : List Byte) (b : SetBlock), (WaitsGet ref desc s = true) ∧ (isObject 2 OB_SETTINGS
      desc = true) ∧ (s.dev.firmware = true) ∧ (s.dev.block (bParam desc 32 % 16) = some b)) :=
  ⟨⟨getAtSender 5 (bulkGet OB_ATTEST 8192 []) id, .ring 5, bulkGet OB_ATTEST 8192 [], by decide +kernel⟩,
   ⟨getAtTile (bulkGet OB_ATTEST 8192 []) fun d => { d with sec.leaf := 2 ^ 20 }, (bulkGet OB_ATTEST 8192 []).take 60,
     by decide +kernel⟩,
   ⟨getAtTile (bulkGet OB_COEF_SET 8 [1]) fun d =>
     { d with nvm.coef := [NvmSlot.empty, committed 5 1 9 [1, 2, 3, 4, 5, 6, 7, 8]] }, (bulkGet OB_COEF_SET 8 [1]).take 60, 1,
     by decide +kernel⟩,
   ⟨withDev (getAtTile (bulkGet OB_LAMP_MAP 64 []) id) fun d =>
     { d with tile.bulks := d.tile.bulks.map fun b => { b with boundary := some [1, 2] } }, (bulkGet OB_LAMP_MAP 64 []).take
     60, [1, 2], by decide +kernel⟩,
   ⟨withDev (getAtTile (bulkGet OB_MEAS 64 []) id) fun d =>
     { d with tile.bulks := d.tile.bulks.map fun b => { b with boundary := some [1, 2] } }, (bulkGet OB_MEAS 64 []).take 60,
     [1, 2], by decide +kernel⟩,
   ⟨getAtSender 5 (bulkGet OB_MEAS 64 []) id, 5, bulkGet OB_MEAS 64 [], by decide +kernel⟩,
   ⟨getAtTile (bulkGet OB_REC_DUMP 96 [0, 0, 0, 0, 1]) fun d => d.setAll [(REC_STAT_EMPTY, 0), (REC_OLDEST_SEQ, 5),
     (REC_NEWEST_SEQ, 9)], (bulkGet OB_REC_DUMP 96 [0, 0, 0, 0, 1]).take 60, by decide +kernel⟩,
   ⟨getAtSender 5 (bulkGet OB_REC_DUMP 64 [0, 0, 0, 0, 1]) fun d => d.setAll [(REC_STAT_EMPTY, 0), (REC_OLDEST_SEQ, 5),
     (REC_NEWEST_SEQ, 5)], 5, bulkGet OB_REC_DUMP 64 [0, 0, 0, 0, 1], by decide +kernel⟩,
   ⟨getAtSender 5 (bulkGet OB_SETTINGS 4 [3]) withBlock3, .ring 5, bulkGet OB_SETTINGS 4 [3], ⟨3, 7, crc32c [1, 2, 3, 4], [1,
     2, 3, 4]⟩, by decide +kernel⟩⟩

/-- The hypotheses of Obligations.ArmAndDisarmTogether, clause by clause. -/
theorem witness_ArmAndDisarmTogether :
    (∃ (s : State) (init : Initiator) (v : Word), (deviceOn s) ∧ (mayWrite s.straps init s.dev = true) ∧ (v.getLsbD 0 = true)
      ∧ (v.getLsbD 1 = true)) ∧
    (∃ (s : State) (init : Initiator) (v : Word), (tileOn s) ∧ (mayWrite s.straps init s.dev = true) ∧ (v.getLsbD 0 = true) ∧
      (v.getLsbD 1 = true)) ∧
    (∃ (s : State) (init : Initiator) (v : Word), (tileOn s) ∧ (mayWrite s.straps init s.dev = true) ∧ (v.getLsbD 0 = true) ∧
      (v.getLsbD 1 = true)) ∧
    (∃ (s : State) (init : Initiator) (v : Word), (deviceOn s) ∧ (mayWrite s.straps init s.dev = true) ∧ (v.getLsbD 0 = true)
      ∧ (v.getLsbD 1 = true)) :=
  ⟨⟨tileAt fun d => d.set CMP_FP_ARM_PEND 1, .mc0, 3, by decide +kernel⟩,
   ⟨tileAt fun d => d.set COR_STAT_PEND 1, .mc0, 3, by decide +kernel⟩,
   ⟨tileAt fun d => { d with tile.fadePend := some (1, 2, 3, 4) }.set GRY_FADE_ARM_PEND 1, .mc0, 3, by decide +kernel⟩,
   ⟨tileAt fun d => d.set AON_DORM_ARM_PEND 1, .mc0, 3, by decide +kernel⟩⟩

/-- The hypotheses of Obligations.FabricSupplyAndPacing, clause by clause. -/
theorem witness_FabricSupplyAndPacing :
    (∃ (s : State), (deviceOn s)) ∧
    (∃ (s : State), (deviceOn s)) ∧
    (∃ (s : State), (deviceOn s)) ∧
    (∃ (s : State) (init : Initiator) (mem : Fin 16) (unit : Fin 256), (deviceOn s) ∧ (mayWrite s.straps init s.dev = true) ∧
      (s.dev.get FAB_CTRL_TEST_EN = 1) ∧ (s.dev.alwaysWritten mem = false)) ∧
    (∃ (s : State) (init : Initiator) (mem : Fin 16) (unit : Fin 256), (deviceOn s) ∧ (mayWrite s.straps init s.dev = true) ∧
      (s.dev.get FAB_CTRL_TEST_EN = 1) ∧ (s.dev.alwaysWritten mem = true)) ∧
    (∃ (s : State) (init : Initiator) (mem : Fin 16) (unit : Fin 256), (deviceOn s) ∧ (s.dev.get FAB_CTRL_TEST_EN = 0)) ∧
    (∃ (s : State) (init : Initiator), (deviceOn s) ∧ (mayWrite s.straps init s.dev = true)) ∧
    (∃ (s : State) (engine : Fin 192), (deviceOn s) ∧ ((engine : Nat) ∈ s.dev.tile.reload)) ∧
    (∃ (s : State) (engine : Fin 192), (deviceOn s) ∧ ((engine : Nat) ∉ s.dev.tile.reload)) :=
  ⟨⟨tileAt fun d => d.setAll [(FAB_CTRL_THR_MAX, 5), (FAB_STAT_TLEVEL, 7)], by decide +kernel⟩,
   ⟨tileAt fun d => { d with tile.frames := [newFrame 3 []] }, by decide +kernel⟩,
   ⟨tileAt fun d => d.set FAB_STAT_VLOW 1, by decide +kernel⟩,
   ⟨tileAt fun d => { d with parity.armed := some (1, 0) }.set FAB_CTRL_TEST_EN 1, .mc0, 4, 17, by decide +kernel⟩,
   ⟨tileAt fun d => { d with parity.armed := some (1, 0) }.set FAB_CTRL_TEST_EN 1, .mc0, 6, 0, by decide +kernel⟩,
   ⟨State.reset, .mc0, 4, 17, by decide +kernel⟩,
   ⟨tileAt fun d => { d with parity.armed := some (1, 0) }, .mc0, by decide +kernel⟩,
   ⟨tileAt fun d => { d with tile.reload := [4, 9], parity.bad := [⟨0, 9, 77, .other⟩, ⟨0, 4, 77, .other⟩] }, 9,
     by decide +kernel⟩,
   ⟨State.reset, 9, by decide +kernel⟩⟩

/-- The hypotheses of Obligations.ParityErrors, clause by clause. -/
theorem witness_ParityErrors :
    (∃ (s : State) (unit offset : Nat), (tileOn s) ∧ (unit < 48) ∧ (((s.dev.badByte 4 unit).map BadByte.offset).getD offset <
      2 ^ 32) ∧ (s.dev.get FAB_PERR_LOG_VALID = 0)) ∧
    (∃ (s : State) (unit offset : Nat), (tileOn s) ∧ (unit < 192) ∧ (((s.dev.badByte 0 unit).map BadByte.offset).getD offset <
      2 ^ 32) ∧ (s.dev.get FAB_PERR_LOG_VALID = 1)) ∧
    (∃ (s : State) (unit offset : Nat), (deviceOn s) ∧ (unit < 2) ∧ (((s.dev.badByte 5 unit).map BadByte.offset).getD offset <
      2 ^ 32)) ∧
    (∃ (s : State) (offset : Nat), (deviceOn s)) ∧
    (∃ (s : State) (mem unit offset : Nat), (deviceOn s) ∧ (memExists s.straps mem unit = false)) :=
  ⟨⟨State.reset, 47, 77, by decide +kernel⟩,
   ⟨tileAt fun d => { d with tile.frames := [newFrame 3 []] }.set FAB_PERR_LOG_VALID 1, 191, 77, by decide +kernel⟩,
   ⟨senderAt id, 1, 77, by decide +kernel⟩,
   ⟨State.reset, 5, by decide +kernel⟩,
   ⟨State.reset, 7, 0, 0, by decide +kernel⟩⟩

/-- The hypotheses of Obligations.Fades, clause by clause. -/
theorem witness_Fades :
    (∃ (s : State) (init : Initiator), (tileOn s) ∧ (mayWrite s.straps init s.dev = true) ∧ (s.dev.now + 50000000 ≤
      s.dev.fadeAt) ∧ (s.dev.get GRY_FADE_TGT ≤ 98304) ∧ (s.dev.get GRY_FADE_DUR_MS = 0 ∨ (10 ≤ s.dev.get GRY_FADE_DUR_MS ∧
      s.dev.get GRY_FADE_DUR_MS ≤ 60000)) ∧ (s.dev.tile.fadeRun = none)) ∧
    (∃ (s : State) (init : Initiator), (tileOn s) ∧ (mayWrite s.straps init s.dev = true) ∧ (s.dev.fadeAt < s.dev.now +
      50000000 ∨ 98304 < s.dev.get GRY_FADE_TGT ∨
        (s.dev.get GRY_FADE_DUR_MS ≠ 0 ∧ s.dev.get GRY_FADE_DUR_MS < 10))) ∧
    (∃ (s : State) (f : Nat × Nat × Nat × Nat), (tileOn s) ∧ (s.dev.tile.fadePend = some f) ∧ (f.2.2.1 ≤ s.dev.now)) ∧
    (∃ (s : State) (f : Nat × Nat × Nat × Nat), (tileOn s) ∧ (s.dev.tile.fadeRun = some f) ∧ (s.dev.get GRY_FADE_ARM_RUN = 1)
      ∧ (f.2.1 ≤ 98304) ∧ (f.2.2.1 + f.2.2.2 * 1000000 ≤ s.dev.now)) ∧
    (∃ (s : State), (tileOn s) ∧ (s.dev.tile.fadePend = none) ∧ (s.dev.tile.fadeRun = none)) :=
  ⟨⟨tileAt fun d => d.setAll [(GRY_FADE_AT_NS_NS, 50000000), (GRY_FADE_TGT, 98304), (GRY_FADE_DUR_MS, 10)], .mc0,
    by decide +kernel⟩,
   ⟨tileAt fun d => d.setAll [(GRY_FADE_AT_NS_NS, 49999999)], .mc0, by decide +kernel⟩,
   ⟨tileAt fun d => { d with tile.fadePend := some (1, 2, 0, 4) }.set GRY_FADE_ARM_PEND 1, (1, 2, 0, 4), by decide +kernel⟩,
   ⟨tileAt fun d => { d with tile.fadeRun := some (1, 98304, 0, 4), time.clk.ns := 4000000 }.set GRY_FADE_ARM_RUN 1, (1,
     98304, 0, 4), by decide +kernel⟩,
   ⟨State.reset, by decide +kernel⟩⟩

/-- The hypotheses of Obligations.FootprintChanges, clause by clause. -/
theorem witness_FootprintChanges :
    (∃ (s : State) (init : Initiator), (deviceOn s) ∧ (mayWrite s.straps init s.dev = true) ∧ (s.dev.now + 50000000 ≤
      s.dev.fpAt) ∧ (s.straps.role = .tile ∨ ∀ f ∈ s.dev.host.queue ++ s.dev.host.flying, f.present < s.dev.fpAt)) ∧
    (∃ (s : State) (init : Initiator), (deviceOn s) ∧ (mayWrite s.straps init s.dev = true) ∧ (s.dev.fpAt < s.dev.now +
      50000000 ∨ (s.straps.role = .sender ∧ ∃ f ∈ s.dev.host.queue, s.dev.fpAt ≤ f.present))) ∧
    (∃ (s : State), (tileOn s) ∧ (s.dev.get CMP_FP_ARM_PEND = 1) ∧ (s.dev.fpAt ≤ s.dev.now)) ∧
    (∃ (s : State) (x : Fin 4) (q : Fin 64), (senderOn s) ∧ (s.dev.get CMP_FP_ARM_PEND = 1) ∧ (s.dev.fpAt ≤ s.dev.now)) ∧
    (∃ (s : State), (deviceOn s) ∧ (s.dev.get CMP_FP_ARM_PEND = 0 ∨ s.dev.now < s.dev.fpAt)) :=
  ⟨⟨tileAt fun d => d.set CMP_FP_AT_NS_NS 50000000, .mc0, by decide +kernel⟩,
   ⟨tileAt fun d => d.set CMP_FP_AT_NS_NS 49999999, .mc0, by decide +kernel⟩,
   ⟨tileAt fun d => d.setAll [(CMP_FP_ARM_PEND, 1), (CMP_FP_NEXT0_X, 77), (CMP_FP_NEXT1_MAP, 1)], by decide +kernel⟩,
   ⟨senderAt fun d => d.setAll [(CMP_FP_ARM_PEND, 1), (CMP_FM_NEXT0_X 3 63, 77)], 3, 63, by decide +kernel⟩,
   ⟨State.reset, by decide +kernel⟩⟩

/-- The hypotheses of Obligations.CoefficientSets, clause by clause. -/
theorem witness_CoefficientSets :
    (∃ (s : State) (init : Initiator), (tileOn s) ∧ (mayWrite s.straps init s.dev = true) ∧ (s.dev.get COR_STAT_READY = 1) ∧
      (s.dev.now + 50000000 ≤ s.dev.corAt)) ∧
    (∃ (s : State) (init : Initiator), (tileOn s) ∧ (mayWrite s.straps init s.dev = true) ∧ (s.dev.get COR_STAT_READY = 0 ∨
      s.dev.corAt < s.dev.now + 50000000)) ∧
    (∃ (s : State) (moved : Bool), (tileOn s) ∧ (s.dev.tile.loading = some moved)) ∧
    (∃ (s : State), (tileOn s) ∧ (s.dev.get COR_STAT_PEND = 1) ∧ (s.dev.corAt ≤ s.dev.now) ∧ (s.dev.tile.staged < 2)) ∧
    (∃ (s : State) (tick : Nat) (n : Fin 2) (q : Nat × Nat), (tileOn s) ∧ (s.dev.tile.actCommit = some tick) ∧ (s.dev.get
      COR_STAT_ACTIVE = n) ∧ (s.dev.nvm.coefSeq[(n : Nat)]? = some q)) ∧
    (∃ (s : State) (init : Initiator) (v : Word), (tileOn s) ∧ (mayWrite s.straps init s.dev = true)) :=
  ⟨⟨tileAt fun d => d.setAll [(COR_STAT_READY, 1), (COR_AT_SL_S, 1)], .mc0, by decide +kernel⟩,
   ⟨tileAt fun d => d.setAll [(COR_STAT_READY, 0), (COR_AT_SL_S, 1)], .mc0, by decide +kernel⟩,
   ⟨tileAt fun d => { d with tile.loading := some true }, true, by decide +kernel⟩,
   ⟨tileAt fun d => { d with tile.staged := 1 }.setAll [(COR_STAT_READY, 1), (COR_STAT_PEND, 1)], by decide +kernel⟩,
   ⟨tileAt fun d => { d with tile.actCommit := some 3, nvm.coefSeq := [(4, 0), (5, 0)] }.set COR_STAT_ACTIVE 1, 3, 1, (5, 0),
     by decide +kernel⟩,
   ⟨tileAt fun d => d.set COR_CANVAS_PRIM 1, .mc0, 0x32, by decide +kernel⟩⟩

/-- The hypotheses of Obligations.PresentOrHold, clause by clause. -/
theorem witness_PresentOrHold :
    (∃ (s : State) (f : TileFrame) (rest : List TileFrame), (tileOn s) ∧ (s.dev.tile.frames = f :: rest) ∧ (f.judged = true) ∧
      (f.present ≤ s.dev.now) ∧ (s.dev.tile.changed = false) ∧ (f.fail = none) ∧ (f.composed = true) ∧ (s.dev.enginesReady =
      true)) ∧
    (∃ (s : State) (f : TileFrame) (rest : List TileFrame) (c : Nat), (tileOn s) ∧ (s.dev.tile.frames = f :: rest) ∧ (f.judged
      = true) ∧ (f.present ≤ s.dev.now) ∧ (s.dev.tile.changed = false) ∧ ((f.fail = some c ∧ c < 16) ∨ (f.fail = none ∧
      (f.composed = false ∨ s.dev.enginesReady = false) ∧ c = 4))) ∧
    (∃ (s : State) (f : TileFrame) (rest : List TileFrame) (b : BulkIn), (tileOn s) ∧ (s.dev.tile.frames = f :: rest) ∧
      (f.judged = true) ∧ (f.present ≤ s.dev.now) ∧ (s.dev.tile.changed = false) ∧ (s.dev.tile.bulks = [b]) ∧ (bObject
      (cmdDesc b.pkt.bytes) = 0x0020 ∨ bObject (cmdDesc b.pkt.bytes) = 0x0021) ∧ (b.boundary = none)) ∧
    (∃ (s : State) (f : TileFrame) (rest : List TileFrame) (p : Nat), (tileOn s) ∧ (s.dev.tile.frames = f :: rest) ∧ (f.judged
      = true) ∧ (f.present ≤ s.dev.now) ∧ (s.dev.tile.changed = true) ∧ (s.dev.tile.drive.lastPresent = some p) ∧ (f.present ≤
      p)) ∧
    (∃ (s : State) (f : TileFrame) (rest : List TileFrame), (tileOn s) ∧ (s.dev.tile.frames = f :: rest) ∧ (s.dev.now <
      f.present)) :=
  ⟨⟨tilePresenting frameA, frameA, [], by decide +kernel⟩,
   ⟨tilePresenting { frameA with fail := some 1 }, { frameA with fail := some 1 }, [], 1, by decide +kernel⟩,
   ⟨withDev (tilePresenting frameA) fun d => { d with tile.bulks := [bulkInOf (bulkGet 0x20 100 []) []] }, frameA, [],
     bulkInOf (bulkGet 0x20 100 []) [], by decide +kernel⟩,
   ⟨withDev (tilePresenting frameA) fun d => { d with tile.changed := true, tile.drive.lastPresent := some (gridAt 0 1) },
     frameA, [], gridAt 0 1, by decide +kernel⟩,
   ⟨tileAt fun d => { d with tile.frames := [frameA] }, frameA, [], by decide +kernel⟩⟩

/-- The hypotheses of Obligations.RefreshesAndRowSlots, clause by clause. -/
theorem witness_RefreshesAndRowSlots :
    (∃ (s : State) (mode j : Nat), (tileOn s) ∧ (s.dev.refreshDue = some (mode, s.dev.tile.drive.k, j))) ∧
    (∃ (s : State) (mode k j : Nat), (tileOn s) ∧ (s.dev.refreshDue = some (mode, k, j)) ∧ (k ≠ s.dev.tile.drive.k)) ∧
    (∃ (s : State) (samples : SlotSamples) (mode : Nat), (tileOn s) ∧ (s.dev.tile.drive.mode = some mode) ∧
      (s.dev.tile.drive.slot < s.dev.tile.drive.s) ∧ (0 < s.dev.tile.drive.j) ∧ (s.dev.tile.drive.j < s.dev.tile.drive.m) ∧ (4
      * refreshAt mode s.dev.tile.drive.m s.dev.tile.drive.k (s.dev.tile.drive.j - 1) +
        s.dev.tile.drive.slot * s.dev.tile.drive.q / s.dev.tile.drive.s ≤ 4 * s.dev.now) ∧ (s.dev.tile.drive.driving = true) ∧
          (s.dev.aon.vdrv = true) ∧ (s.dev.tile.drive.open_ = false) ∧ (s.dev.tile.drive.darkBanks = []) ∧ (s.dev.effGet
          DIAG_CTRL_LIVE_EN = 0) ∧ (∀ a ∈ s.dev.parity.armed, a.1 ≠ 4) ∧ (s.dev.parity.bad = []) ∧ (samples.starved = [])) ∧
    (∃ (s : State) (samples : SlotSamples) (mode bank : Nat), (tileOn s) ∧ (s.dev.tile.drive.mode = some mode) ∧
      (s.dev.tile.drive.slot < s.dev.tile.drive.s) ∧ (0 < s.dev.tile.drive.j) ∧ (s.dev.tile.drive.j < s.dev.tile.drive.m) ∧ (4
      * refreshAt mode s.dev.tile.drive.m s.dev.tile.drive.k (s.dev.tile.drive.j - 1) +
        s.dev.tile.drive.slot * s.dev.tile.drive.q / s.dev.tile.drive.s ≤ 4 * s.dev.now) ∧ (s.dev.tile.drive.driving = true) ∧
          (s.dev.aon.vdrv = true) ∧ (s.dev.tile.drive.open_ = false) ∧ (s.dev.tile.drive.darkBanks = []) ∧ (s.dev.effGet
          DIAG_CTRL_LIVE_EN = 0) ∧ (∀ a ∈ s.dev.parity.armed, a.1 ≠ 4) ∧ (s.dev.parity.bad = []) ∧ (samples.starved = [bank])
          ∧ (bank < 48)) ∧
    (∃ (s : State) (samples : SlotSamples) (mode unit offset n : Nat), (tileOn s) ∧ (s.dev.tile.drive.mode = some mode) ∧
      (s.dev.tile.drive.slot < s.dev.tile.drive.s) ∧ (0 < s.dev.tile.drive.j) ∧ (s.dev.tile.drive.j < s.dev.tile.drive.m) ∧ (4
      * refreshAt mode s.dev.tile.drive.m s.dev.tile.drive.k (s.dev.tile.drive.j - 1) +
        s.dev.tile.drive.slot * s.dev.tile.drive.q / s.dev.tile.drive.s ≤ 4 * s.dev.now) ∧ (s.dev.tile.drive.driving = true) ∧
          (s.dev.aon.vdrv = true) ∧ (s.dev.tile.drive.open_ = false) ∧ (s.dev.tile.drive.darkBanks = []) ∧ (s.dev.effGet
          DIAG_CTRL_LIVE_EN = 0) ∧ (∀ a ∈ s.dev.parity.armed, a.1 ≠ 4) ∧ (s.dev.parity.bad =
          [{ mem := 3, unit := unit, offset := offset, item := .lamp n true }]) ∧ (n % 128 = s.dev.tile.drive.slot) ∧
          (samples.starved = [])) ∧
    (∃ (s : State) (samples : SlotSamples) (mode bank : Nat), (tileOn s) ∧ (s.dev.tile.drive.mode = some mode) ∧
      (s.dev.tile.drive.slot < s.dev.tile.drive.s) ∧ (2 ≤ s.dev.tile.drive.slot) ∧ (0 < s.dev.tile.drive.j) ∧
      (s.dev.tile.drive.j = s.dev.tile.drive.m) ∧ (4 * refreshAt mode s.dev.tile.drive.m s.dev.tile.drive.k
      (s.dev.tile.drive.j - 1) +
        s.dev.tile.drive.slot * s.dev.tile.drive.q / s.dev.tile.drive.s ≤ 4 * s.dev.now) ∧ (s.dev.tile.drive.driving = true) ∧
          (s.dev.aon.vdrv = true) ∧ (s.dev.tile.drive.diag = true) ∧ (s.dev.tile.drive.open_ = false) ∧
          (s.dev.tile.drive.darkBanks = []) ∧ (∀ a ∈ s.dev.parity.armed, a.1 ≠ 4) ∧ (s.dev.parity.bad = []) ∧ (samples.starved
          = [bank]) ∧ (bank < 48)) ∧
    (∃ (s : State) (samples : SlotSamples) (mode : Nat), (tileOn s) ∧ (s.dev.tile.drive.mode = some mode) ∧
      (s.dev.tile.drive.slot < s.dev.tile.drive.s) ∧ (0 < s.dev.tile.drive.j) ∧ (s.dev.tile.drive.j < s.dev.tile.drive.m) ∧ (4
      * refreshAt mode s.dev.tile.drive.m s.dev.tile.drive.k (s.dev.tile.drive.j - 1) +
        s.dev.tile.drive.slot * s.dev.tile.drive.q / s.dev.tile.drive.s ≤ 4 * s.dev.now) ∧ (s.dev.tile.drive.driving = false ∨
          s.dev.aon.vdrv = false)) ∧
    (∃ (s : State) (r p old new : Nat), (tileOn s) ∧ (s.dev.tile.drive.mode = some old) ∧ (s.dev.tile.drive.retune = some
      (new, p)) ∧ (s.dev.retuneAt = some r) ∧ (r ≤ s.dev.now) ∧ (s.dev.tile.drive.slot = s.dev.tile.drive.s)) ∧
    (∃ (s : State), (tileOn s) ∧ (s.dev.tile.drive.mode = none)) :=
  ⟨⟨tileDriving 1 32, 0, 1, by decide +kernel⟩,
   ⟨withDev (tileDriving 4 32) fun d => { d with time.clk.ns := gridAt 0 2 }, 0, 2, 0, by decide +kernel⟩,
   ⟨withDev (tileDriving 1 3) fun d => { d with tile.eff := [(DIAG_CTRL, 0)] },
     { columns := [], vled := [], ntc := [], starved := [] }, 0, by decide +kernel⟩,
   ⟨withDev (tileDriving 1 3) fun d => { d with tile.eff := [(DIAG_CTRL, 0)] },
     { columns := [], vled := [], ntc := [], starved := [5] }, 0, 5, by decide +kernel⟩,
   ⟨withDev (tileDriving 1 3) fun d => { d with tile.eff := [(DIAG_CTRL, 0)], parity.bad := [{ mem := 3, unit := 0, offset := 40, item := .lamp 643 true }] },
     { columns := [], vled := [], ntc := [], starved := [] }, 0, 0, 40, 643, by decide +kernel⟩,
   ⟨withDev (tileDriving 4 3) fun d => { d with tile.drive.diag := true, tile.drive.k := 66, time.clk.ns := gridAt 0 68 },
     { columns := [], vled := [], ntc := [], starved := [7] }, 0, 7, by decide +kernel⟩,
   ⟨withDev (tileDriving 1 3) fun d => { d with aon.vdrv := false }, { columns := [], vled := [], ntc := [], starved := [5] },
     0, by decide +kernel⟩,
   ⟨withDev (tileDriving 4 32) fun d => { d with tile.drive.retune := some (4, 0) }, 0, 0, 0, 4, by decide +kernel⟩,
   ⟨State.reset, by decide +kernel⟩⟩

/-- The hypotheses of Obligations.LampTests, clause by clause. -/
theorem witness_LampTests :
    (∃ (s : State) (codes : List Nat) (i : Fin 128) (c : Fin 384), (tileOn s) ∧ (s.dev.openSlot = some (i : Nat)) ∧
      (s.dev.lampSlot s.dev.tile.drive.k i = true) ∧ (s.dev.testsAllowed = true) ∧ (s.dev.tile.drive.darkBanks = []) ∧
      (s.dev.effGet (LDRV_BANK_IFS_CODE (c / 8)) ≠ 0) ∧ (s.dev.getb (DIAG_VLED_VALID ((c : Nat) / 8 / 12)) = true) ∧
      (s.dev.pinShort c = false) ∧ (s.dev.effGet DIAG_CTRL_REPEAT ≤ 1)) ∧
    (∃ (s : State) (codes : List Nat) (i : Fin 128) (c : Fin 384), (tileOn s) ∧ (s.dev.openSlot = some (i : Nat)) ∧
      (s.dev.lampSlot s.dev.tile.drive.k i = true) ∧ (s.dev.testsAllowed = true) ∧ (s.dev.tile.drive.darkBanks = [(c : Nat) /
      8])) ∧
    (∃ (s : State) (codes : List Nat) (i : Fin 128) (c : Fin 384), (tileOn s) ∧ (s.dev.openSlot = some (i : Nat)) ∧
      (s.dev.pinSlot s.dev.tile.drive.k i = true) ∧ (s.dev.tile.drive.driving = true) ∧ (s.dev.aon.vdrv = true) ∧
      (s.dev.tile.drive.darkBanks = [])) ∧
    (∃ (s : State) (codes : List Nat), (tileOn s) ∧ (s.dev.tile.drive.open_ = false ∨ s.dev.aon.vdrv = false)) :=
  ⟨⟨tileTesting 0 0, List.replicate 384 500, 0, 5, by decide +kernel⟩,
   ⟨withDev (tileTesting 0 0) fun d => { d with tile.drive.darkBanks := [2] }, List.replicate 384 500, 0, 17,
     by decide +kernel⟩,
   ⟨tileTesting 63 0, List.replicate 384 0, 0, 9, by decide +kernel⟩,
   ⟨State.reset, [], by decide +kernel⟩⟩

/-- The hypotheses of Obligations.ThermalRounds, clause by clause. -/
theorem witness_ThermalRounds :
    (∃ (s : State) (raw : List SensorReading) (n : Fin 12) (r : Int), (tileOn s) ∧ (raw[(n : Nat)]? = some (some r)) ∧
      ((s.dev.takeReadings s.straps raw).voteHolds = false)) ∧
    (∃ (s : State) (raw : List SensorReading), (tileOn s) ∧ ((s.dev.takeReadings s.straps raw).voteHolds = true)) ∧
    (∃ (s : State) (raw : List SensorReading) (h : ShutSt), (s.dev.boot.power = .shutdown) ∧ (Settled s) ∧ (s.dev.boot.shut =
      some h)) ∧
    (∃ (s : State), (deviceOn s) ∧ (s.dev.therm.region = 2) ∧ (s.dev.therm.stepAt + 250000 * s.dev.get THM_CTRL_STEP_MS ≤
      s.dev.time.clk.ticks)) ∧
    (∃ (s : State), (deviceOn s) ∧ (s.dev.therm.region = 0) ∧ (s.dev.therm.stepAt + 250000 * s.dev.get THM_CTRL_STEP_MS ≤
      s.dev.time.clk.ticks) ∧ (s.dev.get FAB_STAT_TLEVEL = 1)) ∧
    (∃ (s : State), (deviceOn s) ∧ (s.dev.therm.region = 1)) :=
  ⟨⟨State.reset, List.replicate 12 (some 400), 3, 400, by decide +kernel⟩,
   ⟨State.reset, List.replicate 12 (some 2300), by decide +kernel⟩,
   ⟨tileAt fun d => { d with boot.power := .shutdown, boot.shut := some ⟨5, 0, 100, 3, 2⟩ }, List.replicate 12 (some 400), ⟨5,
     0, 100, 3, 2⟩, by decide +kernel⟩,
   ⟨tileAt fun d => { d with therm.region := 2, time.clk.ticks := 2500000000 }.set FAB_CTRL_THR_MAX 7, by decide +kernel⟩,
   ⟨senderAt fun d => { d with time.clk.ticks := 2500000000 }.set FAB_STAT_TLEVEL 1, by decide +kernel⟩,
   ⟨tileAt fun d => { d with therm.region := 1 }, by decide +kernel⟩⟩

/-- The hypotheses of Obligations.CheckValueUnits, clause by clause. -/
theorem witness_CheckValueUnits :
    (∃ (s : State) (init : Initiator) (n : Fin 8), (deviceOn s) ∧ (mayWrite s.straps init s.dev = true) ∧ (s.dev.get
      (SNP_CTRL_EN n) = 0) ∧ (crcGuarded s.straps s.dev n = false)) ∧
    (∃ (s : State) (init : Initiator) (n : Fin 8) (seed : Word), (deviceOn s) ∧ (mayWrite s.straps init s.dev = true) ∧
      (s.dev.get (SNP_CTRL_EN n) = 0) ∧ (crcGuarded s.straps s.dev n = false)) ∧
    (∃ (s : State) (init : Initiator) (n : Fin 8) (reg : Fin 3) (bytes : List Byte), (deviceOn s) ∧ (mayWrite s.straps init
      s.dev = true) ∧ (bytes.length = 1 ∨ bytes.length = 2 ∨ bytes.length = 4) ∧ (s.dev.get (SNP_CTRL_EN n) = 0) ∧ (crcGuarded
      s.straps s.dev n = false)) ∧
    (∃ (s : State) (init : Initiator) (n : Fin 8) (reg : Fin 3) (bytes : List Byte), (deviceOn s) ∧ (mayWrite s.straps init
      s.dev = true) ∧ (s.dev.get (SNP_CTRL_EN n) ≠ 0 ∨ crcGuarded s.straps s.dev n = true)) ∧
    (∃ (s : State) (init : Initiator) (n : Fin 8) (seed : Word), (deviceOn s) ∧ (mayWrite s.straps init s.dev = true) ∧
      (crcGuarded s.straps s.dev n = true)) ∧
    (∃ (s : State) (init : Initiator) (n : Fin 8) (seed : Word), (deviceOn s) ∧ (mayWrite s.straps init s.dev = true) ∧
      (s.dev.get (SNP_CTRL_EN n) ≠ 0) ∧ (crcGuarded s.straps s.dev n = false)) ∧
    (∃ (s : State) (init : Initiator) (n : Fin 8), (deviceOn s) ∧ (mayWrite s.straps init s.dev = true) ∧ (s.dev.get
      (SNP_CTRL_EN n) ≠ 0) ∧ (crcGuarded s.straps s.dev n = false)) ∧
    (∃ (s : State) (init : Initiator) (n : Fin 8), (deviceOn s) ∧ (mayWrite s.straps init s.dev = true) ∧ (s.dev.get
      (SNP_CTRL_EN n) = 0 ∨ crcGuarded s.straps s.dev n = true)) ∧
    (∃ (s : State) (n : Fin 8) (u : CrcUnit), (deviceOn s) ∧ (s.dev.crc[(n : Nat)]? = some u) ∧ (crcGuarded s.straps s.dev n =
      false) ∧ (u.running = true) ∧ (u.ended = true) ∧ (u.count < 2 ^ 32)) :=
  ⟨⟨State.reset, .mc0, 3, by decide +kernel⟩,
   ⟨State.reset, .mc0, 2, 0x12345678, by decide +kernel⟩,
   ⟨State.reset, .mc0, 0, 1, [1, 2, 3, 4], by decide +kernel⟩,
   ⟨tileAt fun d => d.set (SNP_CTRL_EN 5) 1, .mc0, 5, 0, [1, 2, 3, 4], by decide +kernel⟩,
   ⟨tileAt fun d => d.set CMP_CTRL_GUARD_EN 1, .mc0, 5, 9, by decide +kernel⟩,
   ⟨tileAt fun d => d.set (SNP_CTRL_EN 2) 1, .mc0, 2, 7, by decide +kernel⟩,
   ⟨tileAt fun d => d.set (SNP_CTRL_EN 2) 1, .mc0, 2, by decide +kernel⟩,
   ⟨State.reset, .mc0, 5, by decide +kernel⟩,
   ⟨tileAt fun d => d.modCrc 2 fun u => { u with running := true, ended := true, snoop := 5, count := 7 }, 2,
     { CrcUnit.init with running := true, ended := true, snoop := 5, count := 7 }, by decide +kernel⟩⟩

/-- The hypotheses of Obligations.RecorderWrites, clause by clause. -/
theorem witness_RecorderWrites :
    (∃ (s : State) (e : EventRec) (k : Nat), (tileOn s) ∧ (s.dev.rcd.queue = [e]) ∧ (s.dev.rcd.lost = 0) ∧ (s.dev.rcd.next < 2
      ^ 32)) ∧
    (∃ (s : State), (deviceOn s) ∧ (s.dev.rcd.queue = [])) ∧
    (∃ (s : State) (init : Initiator) (seq : Word) (i : Fin 8), (deviceOn s) ∧ (mayWrite s.straps init s.dev = true)) :=
  ⟨⟨tileAt fun d => { d with rcd.queue := [evA], rcd.next := 41207 }, evA, 8439, by decide +kernel⟩,
   ⟨State.reset, by decide +kernel⟩,
   ⟨State.reset, .mc0, 5, 2, by decide +kernel⟩⟩

/-- The hypotheses of Obligations.Mailboxes, clause by clause. -/
theorem witness_Mailboxes :
    (∃ (s : State) (writer : MbxSide) (m : Fin 8) (word : Word), (deviceOn s) ∧ ((writer, (m : Nat)) ∈ [(.host, 0), (.host,
      2), (.mc, 4), (.trusted, 5)]) ∧ (s.straps.role = .tile → writer = .host → natBit (s.dev.get SEC_PRIV_SVC_PERM) 0 = true)
      ∧ (s.dev.mbxFull m = false)) ∧
    (∃ (s : State) (writer : MbxSide) (m : Fin 8) (word : Word), (deviceOn s) ∧ ((writer, (m : Nat)) ∈ [(.mc, 1), (.trusted,
      3)]) ∧ (s.dev.mbxFull m = false)) ∧
    (∃ (s : State) (writer : MbxSide) (m : Fin 8) (word : Word), (deviceOn s) ∧ ((writer, (m : Nat)) ∈ [(.host, 0), (.mc, 1),
      (.host, 2), (.trusted, 3), (.mc, 4), (.trusted, 5)]) ∧ (¬ (s.straps.role = .tile ∧ writer = .host)) ∧ (s.dev.mbxFull m =
      true)) ∧
    (∃ (s : State) (m : Fin 8) (word : Word), (tileOn s) ∧ ((m : Nat) = 0 ∨ (m : Nat) = 2)) ∧
    (∃ (s : State) (m : Fin 8), (tileOn s) ∧ (natBit (s.dev.get SEC_PRIV_SVC_PERM) 0 = false)) ∧
    (∃ (s : State) (writer : MbxSide) (m : Fin 8) (word : Word), (deviceOn s) ∧ (¬ (writer, (m : Nat)) ∈ [(.host, 0), (.mc,
      1), (.host, 2), (.trusted, 3), (.mc, 4), (.trusted, 5), (.mc, 6), (.twin, 7)]) ∧ (s.straps.role = .tile → writer = .host
      → natBit (s.dev.get SEC_PRIV_SVC_PERM) 1 = true)) ∧
    (∃ (s : State) (reader : MbxSide) (m : Fin 8), (deviceOn s) ∧ ((reader, (m : Nat)) ∈ [(.mc, 0), (.host, 1), (.trusted, 2),
      (.host, 3), (.trusted, 4), (.mc, 5)]) ∧ (s.straps.role = .tile → reader = .host → natBit (s.dev.get SEC_PRIV_SVC_PERM) 0
      = true) ∧ (s.dev.mbxFull m = true)) ∧
    (∃ (s : State) (q : Nat), (senderOn s) ∧ (s.dev.mbxFull 7 = true) ∧ (s.dev.twin.mseqIn = some q)) ∧
    (∃ (s : State) (pair : Fin 2) (tick : Nat), (tileOn s) ∧ (s.dev.mbx.bothSince[(pair : Nat)]? = some (some tick)) ∧ (tick +
      25000 ≤ s.dev.time.clk.ticks)) ∧
    (∃ (s : State) (word : Word), (senderOn s) ∧ (s.dev.mbxFull 6 = false)) ∧
    (∃ (s : State) (bytes : List Byte), (senderOn s) ∧ (twinOk bytes 2 11 = true) ∧ (s.dev.twin.mseqAcked ≠ some (leAt bytes 5
      2)) ∧ (s.dev.mbxFull 7 = false)) ∧
    (∃ (s : State) (bytes : List Byte), (senderOn s) ∧ (twinOk bytes 2 11 = true) ∧ (s.dev.twin.mseqAcked = some (leAt bytes 5
      2))) ∧
    (∃ (s : State) (bytes : List Byte), (senderOn s) ∧ (twinOk bytes 2 11 = false)) ∧
    (∃ (s : State) (bytes : List Byte), (senderOn s) ∧ (twinOk bytes 3 7 = true) ∧ (s.dev.mbxFull 6 = true) ∧ (leAt bytes 1 2
      = s.dev.twin.mseq)) ∧
    (∃ (s : State) (bytes : List Byte), (senderOn s) ∧ (twinOk bytes 4 7 = true) ∧ (s.dev.mbxFull 6 = true) ∧ (leAt bytes 1 2
      = s.dev.twin.mseq)) ∧
    (∃ (s : State), (senderOn s) ∧ (s.dev.mbxFull 6 = true) ∧ (s.dev.twin.mbxLast + 250000 ≤ s.dev.time.clk.ticks)) :=
  ⟨⟨senderAt id, .host, 0, 0x1234, by decide +kernel⟩,
   ⟨State.reset, .mc, 1, 0x1234, by decide +kernel⟩,
   ⟨tileAt fun d => d.set MBX_STAT_FULL 3, .mc, 1, 0x1234, by decide +kernel⟩,
   ⟨tileAt fun d => (d.set SEC_PRIV_SVC_PERM 1).set MBX_STAT_FULL 1, 0, 0x1234, by decide +kernel⟩,
   ⟨tileAt fun d => (d.set SEC_PRIV_SVC_PERM 0).set MBX_STAT_FULL 2, 1, by decide +kernel⟩,
   ⟨State.reset, .other, 0, 7, by decide +kernel⟩,
   ⟨tileAt fun d => (d.set MBX_STAT_FULL 3).set SEC_PRIV_SVC_PERM 1, .host, 1, by decide +kernel⟩,
   ⟨senderAt fun d => { d with boot.started := true, twin.mseqIn := some 9 }.set MBX_STAT_FULL 128, 9, by decide +kernel⟩,
   ⟨tileAt fun d => { d with mbx.bothSince := [some 0, none, none, none], time.clk.ticks := 25000 }, 0, 0, by decide +kernel⟩,
   ⟨senderAt fun d => { d with boot.started := true }, 0xCAFE, by decide +kernel⟩,
   ⟨senderAt id, twinMsg (leBytes 2 1 ++ leBytes 0xABCD 4 ++ leBytes 9 2), by decide +kernel⟩,
   ⟨senderAt fun d => { d with boot.started := true, twin.mseqAcked := some 9 }, twinMsg (leBytes 2 1 ++ leBytes 0xABCD 4 ++
     leBytes 9 2), by decide +kernel⟩,
   ⟨senderAt id, [1, 2, 3], by decide +kernel⟩,
   ⟨senderAt fun d => { d with twin.mseq := 9 }.set MBX_STAT_FULL 64, twinMsg (leBytes 3 1 ++ leBytes 9 2), by decide +kernel⟩,
   ⟨senderAt fun d => { d with twin.mseq := 9 }.set MBX_STAT_FULL 64, twinMsg (leBytes 4 1 ++ leBytes 9 2), by decide +kernel⟩,
   ⟨senderAt fun d => { d with boot.started := true, twin.mseq := 9, time.clk.ticks := 250000 }.set MBX_STAT_FULL 64,
     by decide +kernel⟩⟩

/-- The hypotheses of Obligations.WallClock, clause by clause. -/
theorem witness_WallClock :
    (∃ (s : State) (pins : PinLevels), (tileOn s)) ∧
    (∃ (s : State) (pins : PinLevels), (senderOn s) ∧ (s.dev.time.clk.slewRem = 0) ∧ (-515396 ≤ s.dev.trim ∧ s.dev.trim ≤
      515396)) ∧
    (∃ (s : State) (pins : PinLevels), (senderOn s) ∧ (0 < s.dev.time.clk.slewRem) ∧ (-515396 ≤ s.dev.trim ∧ s.dev.trim ≤
      515396) ∧ (17179 ≤ min ((s.dev.get TIME_CTRL_SLEW_PPM * 17179869184 / 1000000 : Nat) : Int) (515396 - s.dev.trim))) ∧
    (∃ (s : State) (pins : PinLevels), (senderOn s) ∧ (s.dev.time.clk.slewRem < 0) ∧ (-515396 ≤ s.dev.trim ∧ s.dev.trim ≤
      515396) ∧ (17179 ≤ min ((s.dev.get TIME_CTRL_SLEW_PPM * 17179869184 / 1000000 : Nat) : Int) (515396 + s.dev.trim))) ∧
    (∃ (s : State) (pins : PinLevels), (senderOn s) ∧ (s.dev.time.clk.slewRem ≠ 0) ∧ (-515396 ≤ s.dev.trim ∧ s.dev.trim ≤
      515396) ∧ (s.dev.slewRate s.dev.time.clk.slewRem < 17179)) ∧
    (∃ (s : State) (pins : PinLevels), (deviceOn s) ∧ (∀ x : Fin 4, (s.dev.port x).toneSince.isSome = true ∨ s.dev.get
      (LANE_STAT_STATE x) ∈ [P_DOWN, P_REFWAIT, P_LS2, P_LISTEN]) ∧ (s.straps.role = .tile ∨ periodEnds (s.dev.get
      RING_FLIP_MODE_CUR) s.dev.now (s.dev.clockOn s.straps).now = false)) ∧
    (∃ (s : State) (pins : PinLevels), (senderOn s) ∧ (∀ x : Fin 4, s.dev.get (LANE_STAT_STATE x) ∈ [P_DOWN, P_REFWAIT]) ∧
      (periodEnds (s.dev.get RING_FLIP_MODE_CUR) s.dev.now (s.dev.clockOn s.straps).now = true)) ∧
    (∃ (s : State) (pins : PinLevels), (Settled s) ∧ (s.dev.boot.power = .dormant ∨ s.dev.boot.power = .brownOut)) ∧
    (∃ (s : State), (senderOn s) ∧ (s.dev.getb TIME_STAT_SLEWING = true) ∧ (s.dev.time.clk.slewRem = 0)) ∧
    (∃ (s : State) (i : Nat) (desc : List Byte), (Waits (.ring i) desc s = true) ∧ (s.dev.firmware = true) ∧ (dOpcode desc =
      0x0201) ∧ (s.dev.get TIME_CTRL_SRC = SRC_HOST) ∧ (dData desc 0 < 1000000000) ∧ (s.dev.host.queue = [])) ∧
    (∃ (s : State) (i : Nat) (desc : List Byte), (Waits (.ring i) desc s = true) ∧ (s.dev.firmware = true) ∧ (dOpcode desc =
      0x0201 ∨ dOpcode desc = 0x0202) ∧ (s.dev.get TIME_CTRL_SRC = SRC_PTP) ∧ (s.dev.get TIME_STAT_SEL < 2)) ∧
    (∃ (s : State) (i : Nat) (desc : List Byte), (Waits (.ring i) desc s = true) ∧ (s.dev.firmware = true) ∧ (dOpcode desc =
      0x0201) ∧ (s.dev.get TIME_CTRL_SRC = SRC_HOST) ∧ (1000000000 ≤ dData desc 0)) ∧
    (∃ (s : State) (i : Nat) (desc : List Byte), (Waits (.ring i) desc s = true) ∧ (s.dev.firmware = true) ∧ (dOpcode desc =
      0x0202) ∧ (s.dev.get TIME_CTRL_SRC = SRC_HOST) ∧ (s.dev.time.clk.slewRem = 0) ∧ (toSigned 32 (dData desc 0) ≠ 0) ∧
      (-1000000 ≤ toSigned 32 (dData desc 0) ∧ toSigned 32 (dData desc 0) ≤ 1000000) ∧ (17179 ≤ s.dev.slewRate (toSigned 32
      (dData desc 0) * 2 ^ 32))) ∧
    (∃ (s : State) (i : Nat) (desc : List Byte), (Waits (.ring i) desc s = true) ∧ (s.dev.firmware = true) ∧ (dOpcode desc =
      0x0202) ∧ (s.dev.get TIME_CTRL_SRC = SRC_HOST) ∧ (s.dev.time.clk.slewRem = 0) ∧ (1000000 < toSigned 32 (dData desc 0)) ∧
      (s.dev.time.clk.whole + toSigned 32 (dData desc 0) * 2 ^ 32 < 2 ^ 80 * 1000000000) ∧ (s.dev.host.queue = [])) ∧
    (∃ (s : State), (Waits .remote ((s.dev.tile.cmds.map fun c => cmdDesc c.1.bytes).headD []) s = true) ∧ (s.dev.firmware =
      true) ∧ (dOpcode ((s.dev.tile.cmds.map fun c => cmdDesc c.1.bytes).headD []) = 0x0201)) ∧
    (∃ (s : State), (senderOn s) ∧ (s.dev.get TIME_CTRL_SRC ≠ SRC_PPS)) ∧
    (∃ (s : State), (senderOn s) ∧ (s.dev.get TIME_CTRL_SRC = SRC_PPS) ∧ (s.dev.get TIME_STAT_STATE ≠ T_FREE) ∧
      (s.dev.time.clk.ns < 1000000)) ∧
    (∃ (s : State), (senderOn s) ∧ (s.dev.get TIME_CTRL_SRC = SRC_PPS) ∧ (s.dev.get TIME_STAT_STATE ≠ T_FREE) ∧ (999000000 <
      s.dev.time.clk.ns ∧ s.dev.time.clk.ns < 1000000000)) ∧
    (∃ (s : State), (senderOn s) ∧ (s.dev.get TIME_CTRL_SRC = SRC_PPS) ∧ (s.dev.get TIME_STAT_STATE = T_FREE) ∧
      (s.dev.time.clk.ns < 1000000000) ∧ (s.dev.host.queue = [])) ∧
    (∃ (s : State), (senderOn s) ∧ (s.dev.get TIME_CTRL_SRC = SRC_PPS) ∧ (s.dev.get TIME_STAT_SEL = 2) ∧ (s.dev.get
      TIME_STAT_STATE = T_LOCKED) ∧ (s.dev.time.lastPps = none ∨ (s.dev.time.lastPps.any fun p => decide (p + 500000000 ≤
      s.dev.time.clk.ticks)) = true)) ∧
    (∃ (s : State), (senderOn s) ∧ (s.dev.get TIME_PPS_MODE = 1) ∧ (s.dev.time.clk.ns ≤ 5) ∧ (s.dev.time.lastPulse ≠ some
      (s.dev.time.clk.sec * 1000000000))) ∧
    (∃ (s : State) (p : Nat), (senderOn s) ∧ (s.dev.time.ppsHigh = some p) ∧ (p + 250 * s.dev.get TIME_PPS_WIDTH_US ≤
      s.dev.time.clk.ticks)) :=
  ⟨⟨tileAt fun d => { d with time.clk.ns := 999999998, time.clk.corr := -5, time.clk.res := 77 }.seti TIME_TRIM_TRIM (-300),
    { refiA := false, refiB := false, link0 := false, link1 := false, wakeLow := false, trstHigh := false }, by decide +kernel⟩,
   ⟨senderAt fun d => { d with time.clk.ns := 999999998, time.clk.res := 77 }.seti TIME_TRIM_TRIM (-300),
     { refiA := false, refiB := false, link0 := false, link1 := false, wakeLow := false, trstHigh := false },
     by decide +kernel⟩,
   ⟨senderAt fun d => { d with time.clk.ns := 999999998, time.clk.slewRem := 100000000000 }.seti TIME_TRIM_TRIM (-300),
     { refiA := false, refiB := false, link0 := false, link1 := false, wakeLow := false, trstHigh := false },
     by decide +kernel⟩,
   ⟨senderAt fun d => { d with time.clk.ns := 999999998, time.clk.slewRem := -100000000000 }.seti TIME_TRIM_TRIM (-300),
     { refiA := false, refiB := false, link0 := false, link1 := false, wakeLow := false, trstHigh := false },
     by decide +kernel⟩,
   ⟨senderAt fun d => { d with time.clk.slewRem := -100 }.seti TIME_TRIM_TRIM (-515396),
     { refiA := false, refiB := false, link0 := false, link1 := false, wakeLow := false, trstHigh := false },
     by decide +kernel⟩,
   ⟨State.reset, { refiA := true, refiB := true, link0 := true, link1 := false, wakeLow := false, trstHigh := false },
     by decide +kernel⟩,
   ⟨senderAt fun d => { d with time.clk := (d.time.clk.at_ (((gridAt 0 7 : Nat) : Int) * 2 ^ 32 - 1)) }.setAll
     [(RING_FLIP_MODE_CUR, 0), (FAB_RATE_AVG, 5), (FAB_RATE_SLOW_PE, 6)],
     { refiA := false, refiB := false, link0 := false, link1 := false, wakeLow := false, trstHigh := false },
     by decide +kernel⟩,
   ⟨tileAt fun d => { d with boot.power := .dormant, time.clk.ns := 5 },
     { refiA := true, refiB := true, link0 := true, link1 := false, wakeLow := false, trstHigh := false }, by decide +kernel⟩,
   ⟨senderAt fun d => d.set TIME_STAT_SLEWING 1, by decide +kernel⟩,
   ⟨cmdAtSender 5 (descOf 0x201 2 7 0 (zeros 14 ++ leBytes 999999999 4 ++ leBytes 5 4 ++ leBytes 7 4)) fun d =>
     { d with time.clk.slewRem := 99 }.set TIME_CTRL_SRC 2, 5, descOf 0x201 2 7 0 (zeros 14 ++ leBytes 999999999 4 ++ leBytes
     5 4 ++ leBytes 7 4), by decide +kernel⟩,
   ⟨cmdAtSender 5 (descOf 0x201 2 7 0 []) fun d => d.set TIME_STAT_SEL 1, 5, descOf 0x201 2 7 0 [], by decide +kernel⟩,
   ⟨cmdAtSender 5 (descOf 0x201 2 7 0 (zeros 14 ++ leBytes 1000000000 4)) fun d => d.set TIME_CTRL_SRC 2, 5, descOf 0x201 2 7
     0 (zeros 14 ++ leBytes 1000000000 4), by decide +kernel⟩,
   ⟨cmdAtSender 5 (descOf 0x202 2 7 0 (zeros 14 ++ leBytes (2^32 - 1000000) 4)) fun d => d.set TIME_CTRL_SRC 2, 5, descOf
     0x202 2 7 0 (zeros 14 ++ leBytes (2^32 - 1000000) 4), by decide +kernel⟩,
   ⟨cmdAtSender 5 (descOf 0x202 2 7 0 (zeros 14 ++ leBytes 1000001 4)) fun d => d.set TIME_CTRL_SRC 2, 5, descOf 0x202 2 7 0
     (zeros 14 ++ leBytes 1000001 4), by decide +kernel⟩,
   ⟨cmdAtTile (descOf 0x201 0 7 77 []) id, by decide +kernel⟩,
   ⟨senderAt fun d => { d with time.clk.ns := 123456 }, by decide +kernel⟩,
   ⟨senderAt fun d => { d with time.clk.ns := 999999 }.setAll [(TIME_CTRL_SRC, 1), (TIME_STAT_STATE, 1), (TIME_CTRL_SLEW_PPM,
     10)], by decide +kernel⟩,
   ⟨senderAt fun d => { d with time.clk.ns := 999000001, time.clk.slewRem := 4 }.setAll [(TIME_CTRL_SRC, 1), (TIME_STAT_STATE,
     1), (TIME_CTRL_SLEW_PPM, 10)], by decide +kernel⟩,
   ⟨senderAt fun d => { d with time.clk.sec := 9, time.clk.ns := 5, time.clk.slewRem := 4 }.setAll [(TIME_CTRL_SRC, 1),
     (TIME_CTRL_SLEW_PPM, 10)], by decide +kernel⟩,
   ⟨senderAt fun d => { d with time.clk.ticks := 500000000, time.lastPps := some 0 }.setAll [(TIME_CTRL_SRC, 1),
     (TIME_STAT_STATE, T_LOCKED), (TIME_STAT_SEL, 2)], by decide +kernel⟩,
   ⟨senderAt fun d => { d with time.clk.sec := 3, time.clk.ns := 2 }.set TIME_PPS_MODE 1, by decide +kernel⟩,
   ⟨senderAt fun d => { d with time.ppsHigh := some 7, time.clk.ticks := 7 + 250 * 1023 }, 7, by decide +kernel⟩⟩

/-- The hypotheses of Obligations.TimeOnTheChain, clause by clause. -/
theorem witness_TimeOnTheChain :
    (∃ (s : State) (x : Port) (p : TxPkt), (senderOn s) ∧ (sendsCells (s.dev.get (LANE_STAT_STATE x)) = true) ∧ ((s.dev.port
      x).lastTimeSent + 247500 ≤ s.dev.time.clk.ticks) ∧ ((s.dev.port x).cur = some p)) ∧
    (∃ (s : State) (k : RxPkt) (rest : List RxPkt) (c : Source), (tileOn s) ∧ (s.dev.rxq = k :: rest) ∧ (pktType k.bytes =
      PT_TIME) ∧ (pktSnd k.bytes = true) ∧ (s.dev.tile.sources = [c]) ∧ (c.tail = pktTail k.bytes ∧ c.epoch = pktEpoch k.bytes
      ∧ c.pri = pktPri k.bytes) ∧ (s.dev.tile.accepted = some (pktTail k.bytes)) ∧ (s.dev.get TIME_STAT_STATE ≠ T_FREE) ∧
      (s.dev.getb (if pktTail k.bytes = true then TIME_PATH_B_VALID else TIME_PATH_A_VALID) = true) ∧ (-(1000000 * 65536) ≤
      timeOffset (pktBody k.bytes) (s.dev.get (if pktTail k.bytes = true then TIME_PATH_B_DELAY else TIME_PATH_A_DELAY))
      k.tRx) ∧ (timeOffset (pktBody k.bytes) (s.dev.get (if pktTail k.bytes = true then TIME_PATH_B_DELAY else
      TIME_PATH_A_DELAY)) k.tRx ≤ 1000000 * 65536)) ∧
    (∃ (s : State) (k : RxPkt) (rest : List RxPkt) (c : Source), (tileOn s) ∧ (s.dev.rxq = k :: rest) ∧ (pktType k.bytes =
      PT_TIME) ∧ (pktSnd k.bytes = true) ∧ (s.dev.tile.sources = [c]) ∧ (c.tail = pktTail k.bytes ∧ c.epoch = pktEpoch k.bytes
      ∧ c.pri = pktPri k.bytes) ∧ (s.dev.tile.accepted = some (pktTail k.bytes)) ∧ (s.dev.get TIME_STAT_STATE = T_FREE) ∧
      (s.dev.getb (if pktTail k.bytes = true then TIME_PATH_B_VALID else TIME_PATH_A_VALID) = true) ∧ (s.dev.tile.frames =
      [])) ∧
    (∃ (s : State) (k : RxPkt) (rest : List RxPkt) (c : Source), (tileOn s) ∧ (s.dev.rxq = k :: rest) ∧ (pktType k.bytes =
      PT_TIME) ∧ (pktSnd k.bytes = true) ∧ (s.dev.tile.sources = [c]) ∧ (c.tail = pktTail k.bytes ∧ c.epoch = pktEpoch k.bytes
      ∧ c.pri = pktPri k.bytes) ∧ (s.dev.tile.accepted = some (pktTail k.bytes)) ∧ (s.dev.get TIME_STAT_STATE ≠ T_FREE) ∧
      (s.dev.getb (if pktTail k.bytes = true then TIME_PATH_B_VALID else TIME_PATH_A_VALID) = false)) ∧
    (∃ (s : State), (tileOn s) ∧ (s.dev.get TIME_STAT_STATE = T_LOCKED) ∧ (s.dev.time.clk.lastTime + 2500000 ≤
      s.dev.time.clk.ticks)) ∧
    (∃ (s : State) (k : RxPkt) (rest : List RxPkt), (tileOn s) ∧ (s.dev.rxq = k :: rest) ∧ (isCmd CK_DESC k = true) ∧ (dOpcode
      (cmdDesc k.bytes) = 0x0200) ∧ (canAnswer s.dev k.bytes = true)) ∧
    (∃ (d : Dev) (cmd : List Byte) (down tRx now : Nat), (tRx ≤ now) ∧ (now < 2 ^ 64)) ∧
    (∃ (s : State) (i : Nat) (desc : List Byte), (Waits (.ring i) desc s = true) ∧ (dOpcode desc = 0x0200)) ∧
    (∃ (s : State) (i : Nat) (desc : List Byte) (o : OutCmd) (r : ProbeRun) (k : RxPkt) (rest : List RxPkt), (senderOn s) ∧
      (s.dev.host.descs = [{ fetchedCmd i desc with phase := .started }]) ∧ (dNoCpl desc = false) ∧ (s.dev.host.out = [o]) ∧
      (o.kind = .probe i 3) ∧ (s.dev.host.probes = [r]) ∧ (r.index = some i) ∧ (r.done = 3) ∧ (s.dev.rxq = k :: rest) ∧
      (pktType k.bytes = PT_RSP) ∧ (rspStatus k.bytes = ST_OK) ∧ (rspXid k.bytes = o.xid) ∧ (k.port = o.port) ∧ (pktSrcAddr
      k.bytes % 64 = o.position)) ∧
    (∃ (s : State) (i : Nat) (desc : List Byte), (Waits (.ring i) desc s = true) ∧ (s.dev.firmware = true) ∧ (dOpcode desc =
      0x0203) ∧ ((s.dev.survey (natBits (dData desc 0) 0 2)).waiter = none) ∧ (s.dev.host.probes = []) ∧
      (s.dev.time.surveys.length = 4) ∧ (s.dev.presentOn (natBits (dData desc 0) 0 2) ≠ [])) ∧
    (∃ (s : State) (x : Port), (senderOn s) ∧ (sendsCells (s.dev.get (LANE_STAT_STATE x)) = true) ∧ (s.dev.getb
      TIME_CTRL_SURVEY_EN = true) ∧ ((s.dev.survey x).todo = []) ∧ (s.dev.host.probes = []) ∧ (s.dev.host.out = []) ∧
      (s.dev.time.surveys.length = 4) ∧ ((s.dev.survey x).last + 250000000 ≤ s.dev.time.clk.ticks) ∧ (s.dev.presentOn x ≠ [])) ∧
    (∃ (s : State) (x : Port) (q : Nat) (rest : List Nat) (p : TxPkt), (senderOn s) ∧ (s.dev.host.probes = []) ∧
      (s.dev.host.out = []) ∧ (s.dev.time.surveys.length = 4) ∧ ((s.dev.survey x).lastProbe + 2500 ≤ s.dev.time.clk.ticks) ∧
      ((s.dev.survey x).todo = q :: rest) ∧ (q < 64) ∧ (s.dev.getb (LANE_CTRL_TXIDLE x) = false) ∧ (s.dev.isPresent x q =
      true) ∧ ((s.dev.port x).cur = some p)) :=
  ⟨⟨senderAt fun d => { d with time.clk.ticks := 247500 }.modPort 2 (fun p => { p with cur := some .time }) |>.set
    (LANE_STAT_STATE 2) P_LS0, 2, .time, by decide +kernel⟩,
   ⟨tileAt fun d => { d with time.clk.ticks := 99, tile.sources := [{ epoch := 0, pri := false, tail := false, lastTime := none }], tile.accepted := some false, rxq := [{ rxOf 0 PT_TIME 4096 0 (leBytes 5 4 ++ leBytes 0 8 ++ leBytes (2^32 - 7) 4 ++ leBytes 100 8) with tRx := 5 * 65536 + 4000000 }] }.setAll
     [(TIME_STAT_STATE, 1), (TIME_PATH_A_VALID, 1), (TIME_PATH_A_DELAY, 1000)],
     { rxOf 0 PT_TIME 4096 0 (leBytes 5 4 ++ leBytes 0 8 ++ leBytes (2^32 - 7) 4 ++ leBytes 100 8) with tRx := 5 * 65536 + 4000000 },
     [], { epoch := 0, pri := false, tail := false, lastTime := none }, by decide +kernel⟩,
   ⟨tileAt fun d => { d with time.clk.ticks := 99, tile.sources := [{ epoch := 0, pri := false, tail := false, lastTime := none }], tile.accepted := some false, rxq := [{ rxOf 0 PT_TIME 4096 0 (leBytes 5 4 ++ leBytes 70000 8 ++ leBytes (2^32 - 7) 4 ++ leBytes 100 8) with tRx := 5 * 65536 }] }.setAll
     [(TIME_PATH_A_VALID, 1), (TIME_PATH_A_DELAY, 1000)],
     { rxOf 0 PT_TIME 4096 0 (leBytes 5 4 ++ leBytes 70000 8 ++ leBytes (2^32 - 7) 4 ++ leBytes 100 8) with tRx := 5 * 65536 },
     [], { epoch := 0, pri := false, tail := false, lastTime := none }, by decide +kernel⟩,
   ⟨tileAt fun d => { d with time.clk.ticks := 99, time.clk.corr := 5, tile.sources := [{ epoch := 0, pri := false, tail := false, lastTime := none }], tile.accepted := some false, rxq := [rxOf 0 PT_TIME 4096 0 (leBytes 5 4 ++ leBytes 70000 8 ++ leBytes (2^32 - 7) 4 ++ leBytes 100 8)] }.setAll
     [(TIME_STAT_STATE, 2), (TIME_PATH_A_DELAY, 1000)], rxOf 0 PT_TIME 4096 0 (leBytes 5 4 ++ leBytes 70000 8 ++ leBytes (2^32
     - 7) 4 ++ leBytes 100 8), [], { epoch := 0, pri := false, tail := false, lastTime := none }, by decide +kernel⟩,
   ⟨tileAt fun d => { d with time.clk.ticks := 2500000, time.clk.corr := 9 }.set TIME_STAT_STATE T_LOCKED, by decide +kernel⟩,
   ⟨tileAt fun d => { d with rxq := [cmdPkt (descOf 0x200 0 7 77 (zeros 14 ++ leBytes 0x123456789 8))] }.setAll chained,
     cmdPkt (descOf 0x200 0 7 77 (zeros 14 ++ leBytes 0x123456789 8)), [], by decide +kernel⟩,
   ⟨State.reset.dev, (cmdPkt (descOf 0x200 0 7 77 [])).bytes, 0x123456789, 1000, 0x987654321, by decide +kernel⟩,
   ⟨cmdAtSender 5 (descOf 0x200 2 7 0 []) id, 5, descOf 0x200 2 7 0 [], by decide +kernel⟩,
   ⟨senderAt fun d => { d with host.descs := [{ fetchedCmd 5 (descOf 0x200 0 7 77 []) with phase := .started }], host.out := [⟨9, 1, 13, .probe 5 3, some 0, 1000⟩], host.probes := [⟨1, 13, some 5, 3, 700000⟩], rxq := [{ rxOf 1 PT_RSP 77 4096 (rspBody 9 0 0 0 (leBytes 5 8 ++ leBytes 6 8 ++ leBytes 7 8)) with tRx := 500000 }] },
     5, descOf 0x200 0 7 77 [], ⟨9, 1, 13, .probe 5 3, some 0, 1000⟩, ⟨1, 13, some 5, 3, 700000⟩,
     { rxOf 1 PT_RSP 77 4096 (rspBody 9 0 0 0 (leBytes 5 8 ++ leBytes 6 8 ++ leBytes 7 8)) with tRx := 500000 }, [],
     by decide +kernel⟩,
   ⟨presentAt 1 13 (cmdAtSender 5 (descOf 0x203 2 7 0 (zeros 14 ++ leBytes 1 4)) id), 5, descOf 0x203 2 7 0 (zeros 14 ++
     leBytes 1 4), by decide +kernel⟩,
   ⟨presentAt 1 13 (senderAt fun d => { d with time.clk.ticks := 250000000 }.set TIME_CTRL_SURVEY_EN 1), 1, by decide +kernel⟩,
   ⟨presentAt 1 13 (senderAt fun d => { d with time.clk.ticks := 2500, time.surveys := modAt d.time.surveys 1 fun v => { v with todo := [13, 14] } }.modPort
     1 fun p => { p with cur := some .time }), 1, 13, [14], .time, by decide +kernel⟩⟩

/-- The hypotheses of Obligations.PtpInstances, clause by clause. -/
theorem witness_PtpInstances :
    (∃ (s : State) (init : Initiator) (n : Fin 2), (senderOn s) ∧ (mayWrite s.straps init s.dev = true) ∧ (s.dev.get
      (TIME_PTP_STAT_STATE n) = PTP_DISABLED) ∧ (s.dev.get TIME_CTRL_SRC ≠ SRC_PTP)) ∧
    (∃ (s : State) (init : Initiator) (n : Fin 2), (senderOn s) ∧ (mayWrite s.straps init s.dev = true) ∧ (s.dev.get
      (TIME_PTP_STAT_STATE n) ≠ PTP_DISABLED) ∧ (s.dev.get TIME_CTRL_SRC ≠ SRC_PTP)) ∧
    (∃ (s : State) (n : Fin 2) (msg : Announce), (senderOn s) ∧ (s.dev.get (TIME_PTP_STAT_STATE n) = PTP_LISTENING) ∧
      (msg.wire.udp = s.dev.getb (TIME_PTP_CTRL_UDP n)) ∧ (msg.wire.vlan.map BitVec.toNat = if s.dev.getb
      (TIME_PTP_CTRL_VLAN_EN n) = true then some (s.dev.get (TIME_PTP_CTRL_VLAN_ID n)) else none) ∧ (msg.wire.domain =
      s.dev.get (TIME_PTP_CTRL_DOMAIN n)) ∧ ((s.dev.ptp n).heard = []) ∧ (s.dev.time.inst.length = 2) ∧ (0 < announceInterval
      msg) ∧ (s.dev.get TIME_CTRL_SRC ≠ SRC_PTP)) ∧
    (∃ (s : State) (n : Fin 2) (msg : Announce) (old : Nat), (senderOn s) ∧ (2 ≤ s.dev.get (TIME_PTP_STAT_STATE n)) ∧
      (msg.wire.udp = s.dev.getb (TIME_PTP_CTRL_UDP n)) ∧ (msg.wire.vlan.map BitVec.toNat = if s.dev.getb
      (TIME_PTP_CTRL_VLAN_EN n) = true then some (s.dev.get (TIME_PTP_CTRL_VLAN_ID n)) else none) ∧ (msg.wire.domain =
      s.dev.get (TIME_PTP_CTRL_DOMAIN n)) ∧ ((s.dev.ptp n).selected = some old) ∧ (s.dev.time.inst.length = 2) ∧ (0 <
      announceInterval msg) ∧ (msg.source ≠ old) ∧ (∀ e ∈ (s.dev.ptp n).heard, rankLe (announceRank msg) (announceRank e.1) =
      true) ∧ (s.dev.get TIME_CTRL_SRC ≠ SRC_PTP)) ∧
    (∃ (s : State) (n : Fin 2) (msg : PtpSync), (senderOn s) ∧ (2 ≤ s.dev.get (TIME_PTP_STAT_STATE n)) ∧ (msg.wire.udp =
      s.dev.getb (TIME_PTP_CTRL_UDP n)) ∧ (msg.wire.vlan.map BitVec.toNat = if s.dev.getb (TIME_PTP_CTRL_VLAN_EN n) = true
      then some (s.dev.get (TIME_PTP_CTRL_VLAN_ID n)) else none) ∧ (msg.wire.domain = s.dev.get (TIME_PTP_CTRL_DOMAIN n)) ∧
      ((s.dev.ptp n).selected = some msg.source) ∧ (s.dev.time.inst.length = 2) ∧ (s.dev.get TIME_CTRL_SRC ≠ SRC_PTP)) ∧
    (∃ (s : State) (n : Fin 2) (msg : PtpSync), (senderOn s) ∧ (s.dev.get (TIME_PTP_STAT_STATE n) = PTP_LOCKED) ∧
      (msg.wire.udp = s.dev.getb (TIME_PTP_CTRL_UDP n)) ∧ (msg.wire.vlan.map BitVec.toNat = if s.dev.getb
      (TIME_PTP_CTRL_VLAN_EN n) = true then some (s.dev.get (TIME_PTP_CTRL_VLAN_ID n)) else none) ∧ (msg.wire.domain =
      s.dev.get (TIME_PTP_CTRL_DOMAIN n)) ∧ ((s.dev.ptp n).selected = some msg.source) ∧ (s.dev.time.inst.length = 2) ∧
      (s.dev.get TIME_CTRL_SRC = SRC_PTP) ∧ (s.dev.get TIME_STAT_SEL = n) ∧ (s.dev.get TIME_STAT_STATE ≠ T_FREE) ∧
      (s.dev.host.queue = []) ∧ (1000000 < msg.receipt - msg.origin - msg.correction - (s.dev.get (TIME_PTP_MPD_VALUE n) :
      Int)) ∧ ((s.dev.ptp n).outside < 3) ∧ ((msg.receipt - msg.origin - msg.correction - (s.dev.get (TIME_PTP_MPD_VALUE n) :
      Int)) * 2 ^ 32 ≤ s.dev.time.clk.whole)) ∧
    (∃ (s : State) (n : Fin 2), (senderOn s) ∧ (2 ≤ s.dev.get (TIME_PTP_STAT_STATE n)) ∧ (s.dev.delayReqDue n = true)) ∧
    (∃ (s : State) (n : Fin 2) (last g : Nat), (senderOn s) ∧ ((s.dev.ptp n).lastReq = some last) ∧ ((s.dev.ptp n).granted =
      some (g : Int)) ∧ (s.dev.time.clk.ticks < last + 250000000 * 2 ^ g)) ∧
    (∃ (s : State) (n : Fin 2) (msg : PtpDelay), (senderOn s) ∧ (2 ≤ s.dev.get (TIME_PTP_STAT_STATE n)) ∧ (msg.wire.udp =
      s.dev.getb (TIME_PTP_CTRL_UDP n)) ∧ (msg.wire.vlan.map BitVec.toNat = if s.dev.getb (TIME_PTP_CTRL_VLAN_EN n) = true
      then some (s.dev.get (TIME_PTP_CTRL_VLAN_ID n)) else none) ∧ (msg.wire.domain = s.dev.get (TIME_PTP_CTRL_DOMAIN n)) ∧
      (s.dev.getb (TIME_PTP_CTRL_P2P n) = true ∨ (s.dev.ptp n).selected = some msg.source)) ∧
    (∃ (s : State) (n : Fin 2) (a : Announce) (y : PtpSync) (m : PtpDelay), (senderOn s) ∧ (s.dev.ptpTakes n a.wire = false ∧
      s.dev.ptpTakes n y.wire = false ∧ s.dev.ptpTakes n m.wire = false)) ∧
    (∃ (s : State) (n : Fin 2) (y : PtpSync) (m : PtpDelay), (senderOn s) ∧ ((s.dev.ptp n).selected ≠ some y.source ∧
      (s.dev.ptp n).selected ≠ some m.source) ∧ (s.dev.getb (TIME_PTP_CTRL_P2P n) = false)) ∧
    (∃ (s : State) (n : Fin 2), (senderOn s) ∧ (2 ≤ s.dev.get (TIME_PTP_STAT_STATE n)) ∧ (∀ e ∈ (s.dev.ptp n).heard,
      (s.dev.ptp n).selected = some e.1.source → e.2 + 3 * announceInterval e.1 ≤ s.dev.time.clk.ticks) ∧
      (s.dev.time.inst.length = 2) ∧ (s.dev.get TIME_CTRL_SRC ≠ SRC_PTP)) ∧
    (∃ (s : State) (n : Fin 2), (senderOn s) ∧ (s.dev.get (TIME_PTP_STAT_STATE n) = PTP_LOCKED) ∧ (s.dev.time.inst.length = 2)
      ∧ (s.dev.get TIME_CTRL_SRC = SRC_PTP) ∧ (s.dev.get TIME_CTRL_PREF = n) ∧ (s.dev.get TIME_STAT_SEL = n) ∧ (s.dev.get
      (TIME_PTP_STAT_STATE (1 - (n : Nat))) ≤ PTP_LISTENING) ∧ (s.dev.get TIME_STAT_STATE ≠ T_FREE)) ∧
    (∃ (s : State) (n : Fin 2) (target : Word) (asker : Nat), (senderOn s) ∧ (s.dev.getb (TIME_PTP_CTRL_EN n) = true) ∧
      (s.dev.getb (TIME_PTP_CTRL_UDP n) = true) ∧ (target.toNat = s.dev.get (TIME_PTP_IPV4_ADDR n))) ∧
    (∃ (s : State) (n : Fin 2) (o : Int), (senderOn s) ∧ (s.dev.get TIME_CTRL_SRC = SRC_PTP) ∧ (s.dev.get TIME_CTRL_PREF = n)
      ∧ (s.dev.get TIME_STAT_SEL = 1 - (n : Nat)) ∧ (s.dev.get (TIME_PTP_STAT_STATE n) = PTP_LOCKED) ∧ (s.dev.get
      (TIME_PTP_STAT_STATE (1 - (n : Nat))) = PTP_LOCKED) ∧ (0 < s.dev.get TIME_CTRL_REVERT_S) ∧ ((s.dev.ptp n).lockedAt +
      250000000 * s.dev.get TIME_CTRL_REVERT_S ≤ s.dev.time.clk.ticks) ∧ (s.dev.get TIME_STAT_STATE ≠ T_FREE) ∧ ((s.dev.ptp
      n).offset = some o) ∧ (17179 ≤ s.dev.slewRate (-o * 2 ^ 32)) ∧ (-1000000 ≤ o ∧ o ≤ 1000000)) :=
  ⟨⟨senderAt fun d => d.setAll [(TIME_CTRL_SRC, 2), (HIF_VEC_EN IRQ_TIME, 1)], .mc0, 1, by decide +kernel⟩,
   ⟨senderAt fun d => d.setAll [(TIME_CTRL_SRC, 2), (TIME_PTP_CTRL_EN 0, 1), (TIME_PTP_STAT_STATE 0, 3)], .mc0, 0,
     by decide +kernel⟩,
   ⟨senderAt fun d => d.setAll [(TIME_CTRL_SRC, 2), (TIME_PTP_STAT_STATE 0, 1)], 0, ⟨wireA, 9, 1, 2, 3, 4, 5,
     0x123456789ABCDEF0, 1, 37, 1⟩, by decide +kernel⟩,
   ⟨senderAt fun d => { d with time.inst := [{ PtpInst.init with heard := [(⟨wireA, 8, 1, 2, 3, 4, 5, 1, 1, 37, 1⟩, 0)], selected := some 8 }, PtpInst.init] }.setAll
     [(TIME_CTRL_SRC, 2), (TIME_PTP_STAT_STATE 0, 3)], 0, ⟨wireA, 9, 1, 2, 3, 4, 5, 0, 1, 37, 1⟩, 8, by decide +kernel⟩,
   ⟨senderAt fun d => { d with time.inst := [PtpInst.init, { PtpInst.init with selected := some 8, within := 15 }] }.setAll
     [(TIME_CTRL_SRC, 2), (TIME_PTP_STAT_STATE 1, 2), (TIME_PTP_MPD_VALUE 1, 50)], 1, ⟨wireA, 8, true, 1000, 1150, 0⟩,
     by decide +kernel⟩,
   ⟨senderAt fun d => { d with time.clk.sec := 9, time.inst := [PtpInst.init, { PtpInst.init with selected := some 8 }] }.setAll
     [(TIME_CTRL_SRC, 0), (TIME_STAT_SEL, 1), (TIME_STAT_STATE, 1), (TIME_PTP_STAT_STATE 1, 3)], 1, ⟨wireA, 8, true, 1000,
     1001001, 0⟩, by decide +kernel⟩,
   ⟨senderAt fun d => d.setAll [(TIME_PTP_STAT_STATE 1, 3), (TIME_PTP_CTRL_P2P 1, 1)], 1, by decide +kernel⟩,
   ⟨senderAt fun d => { d with time.clk.ticks := 499999999, time.inst := [PtpInst.init, { PtpInst.init with granted := some 1, lastReq := some 0 }] }.set
     (TIME_PTP_STAT_STATE 1) 3, 1, 0, 1, by decide +kernel⟩,
   ⟨senderAt fun d => d.setAll [(TIME_PTP_STAT_STATE 1, 3), (TIME_PTP_CTRL_P2P 1, 1)], 1, ⟨wireA, 8, 0, 1, 2, 3, 4, 0⟩,
     by decide +kernel⟩,
   ⟨senderAt fun d => d.setAll [(TIME_PTP_STAT_STATE 1, 3), (TIME_PTP_CTRL_UDP 1, 1)], 1, ⟨wireA, 9, 1, 2, 3, 4, 5, 0, 1, 37,
     1⟩, ⟨wireA, 8, true, 1000, 1150, 0⟩, ⟨wireA, 8, 2, 1, 2, 3, 4, 0⟩, by decide +kernel⟩,
   ⟨senderAt fun d => d.setAll [(TIME_PTP_STAT_STATE 1, 3)], 1, ⟨wireA, 8, true, 1000, 1150, 0⟩, ⟨wireA, 8, 2, 1, 2, 3, 4, 0⟩,
     by decide +kernel⟩,
   ⟨senderAt fun d => { d with time.clk.ticks := 3 * 500000000, time.inst := [{ PtpInst.init with heard := [(⟨wireA, 8, 1, 2, 3, 4, 5, 1, 1, 37, 1⟩, 0)], selected := some 8 }, PtpInst.init] }.setAll
     [(TIME_CTRL_SRC, 2), (TIME_PTP_STAT_STATE 0, 3)], 0, by decide +kernel⟩,
   ⟨senderAt fun d => { d with time.clk.slewRem := 7, time.inst := [PtpInst.init, { PtpInst.init with heard := [(⟨wireA, 8, 1, 2, 3, 4, 5, 1, 1, 37, 1⟩, 0)], selected := some 8 }] }.setAll
     [(TIME_STAT_STATE, 1), (TIME_CTRL_PREF, 1), (TIME_STAT_SEL, 1), (TIME_PTP_STAT_STATE 1, 3)], 1, by decide +kernel⟩,
   ⟨senderAt fun d => { d with boot.started := true }.setAll [(TIME_PTP_CTRL_EN 1, 1), (TIME_PTP_CTRL_UDP 1, 1),
     (TIME_PTP_IPV4_ADDR 1, 0xC0A80001)], 1, 0xC0A80001, 5, by decide +kernel⟩,
   ⟨senderAt fun d => { d with time.clk.ticks := 750000000, time.inst := [PtpInst.init, { PtpInst.init with offset := some (-900) }] }.setAll
     [(TIME_STAT_STATE, 2), (TIME_CTRL_PREF, 1), (TIME_STAT_SEL, 0), (TIME_PTP_STAT_STATE 1, 3), (TIME_PTP_STAT_STATE 0, 3),
     (TIME_CTRL_REVERT_S, 3)], 1, -900, by decide +kernel⟩⟩

/-- The hypotheses of Obligations.LinkBringUp, clause by clause. -/
theorem witness_LinkBringUp :
    (∃ (s : State) (init : Initiator) (x : Port), (deviceOn s) ∧ (mayWrite s.straps init s.dev = true) ∧ (s.straps.role =
      .sender ∨ x.val < 2) ∧ (s.dev.get (LANE_STAT_STATE x) = P_DOWN)) ∧
    (∃ (s : State) (init : Initiator) (x : Port), (deviceOn s) ∧ (mayWrite s.straps init s.dev = true) ∧ (s.straps.role =
      .sender ∨ x.val < 2) ∧ (s.dev.getb (LANE_CTRL_EN x) = true)) ∧
    (∃ (s : State) (init : Initiator) (x : Port), (deviceOn s)) ∧
    (∃ (s : State) (init : Initiator) (x : Port) (v : Fin 4), (deviceOn s) ∧ (mayWrite s.straps init s.dev = true) ∧ (v.val ≤
      2) ∧ (s.dev.get (LANE_STAT_STATE x) ≠ P_LS1 ∧ s.dev.get (LANE_STAT_STATE x) ≠ P_LS2 ∧ s.dev.get (LANE_STAT_STATE x) ≠
      P_TXONLY)) ∧
    (∃ (s : State) (init : Initiator) (x : Port), (deviceOn s) ∧ (mayWrite s.straps init s.dev = true) ∧ (s.dev.get
      (LANE_STAT_STATE x) = P_LS1)) ∧
    (∃ (s : State) (init : Initiator) (x : Port), (deviceOn s) ∧ (mayWrite s.straps init s.dev = true) ∧ (s.dev.get
      (LANE_STAT_STATE x) = P_LS2) ∧ (s.straps.role = .tile ∨ s.dev.getb (LANE_CTRL_TXIDLE x) = false)) ∧
    (∃ (s : State) (init : Initiator) (x : Port), (deviceOn s) ∧ (mayWrite s.straps init s.dev = true) ∧ (s.dev.get
      (LANE_STAT_STATE x) = P_TXONLY)) ∧
    (∃ (s : State) (init : Initiator) (x : Port), (senderOn s) ∧ (mayWrite s.straps init s.dev = true) ∧ (s.dev.twin.en =
      false) ∧ (s.dev.get (LANE_STAT_STATE x) ≠ P_DOWN ∧ s.dev.get (LANE_STAT_STATE x) ≠ P_LISTEN)) ∧
    (∃ (s : State) (init : Initiator) (x : Port), (senderOn s) ∧ (mayWrite s.straps init s.dev = true) ∧ (s.dev.twin.en =
      false) ∧ (s.dev.get (LANE_STAT_STATE x) = P_LISTEN) ∧ (s.dev.get (LANE_CTRL_TARGET x) ≠ 2 ∨ s.dev.getb (LANE_STAT_RX_UP
      x) = false)) ∧
    (∃ (s : State) (init : Initiator) (x : Port), (senderOn s) ∧ (mayWrite s.straps init s.dev = true) ∧ (s.dev.twin.en =
      false) ∧ (s.dev.get (LANE_STAT_STATE x) = P_LISTEN) ∧ (s.dev.get (LANE_CTRL_TARGET x) = 2 ∧ s.dev.getb (LANE_STAT_RX_UP
      x) = true)) ∧
    (∃ (s : State) (init : Initiator) (x : Port), (senderOn s) ∧ (s.dev.twin.en = true)) ∧
    (∃ (s : State) (x : Port), (deviceOn s) ∧ ((s.dev.port x).refwait = true) ∧ (s.dev.getb LANE_REF_STAT_LOCKED = true) ∧
      (s.dev.get (LANE_STAT_STATE x) = P_REFWAIT)) ∧
    (∃ (s : State) (x : Port) (n : Lane) (position : Fin 2720) (marker : BitVec 64) (last : Fin 4) (info : Nat) (inv : Bool),
      (deviceOn s) ∧ (s.dev.get (LANE_STAT_STATE x) = P_TRAIN) ∧ ((s.dev.port x).refwait = false) ∧ (s.dev.ports.length = 4 ∧
      (s.dev.port x).lanes.length = 2) ∧ (markerInfo marker = some (info, inv))) ∧
    (∃ (s : State) (x : Port) (n : Lane) (position : Fin 2720) (marker : BitVec 64) (last : Fin 4), (deviceOn s) ∧ (s.dev.get
      (LANE_STAT_STATE x) = P_TRAIN) ∧ ((s.dev.port x).refwait = false) ∧ (s.dev.ports.length = 4 ∧ (s.dev.port
      x).lanes.length = 2) ∧ (markerInfo marker = none)) ∧
    (∃ (s : State) (x : Port) (pins : PinLevels), (deviceOn s) ∧ (∀ y : Fin 4, y ≠ x → ((s.dev.port y).toneSince.isSome = true
      ∨ s.dev.get (LANE_STAT_STATE y) ∈ [P_DOWN, P_REFWAIT, P_LS2, P_LISTEN])) ∧ ((s.dev.port x).toneSince = none) ∧
      (s.dev.get (LANE_STAT_STATE x) = P_TRAIN) ∧ ((s.dev.port x).lineEnd + (if (s.dev.port x).rate = 0 then 128 else 256) ≤ 5
      * (s.dev.time.clk.ticks + 1))) ∧
    (∃ (s : State) (x : Port) (h0 h1 : LaneLock) (i0 i1 : Bool) (p0 p1 k : Nat), (deviceOn s) ∧ (s.dev.get (LANE_STAT_STATE x)
      = P_TRAIN) ∧ ((s.dev.port x).refwait = false) ∧ (s.dev.ports.length = 4 ∧ (s.dev.port x).lanes.length = 2) ∧ (laneReady
      s.dev x 0 = true ∧ laneReady s.dev x 1 = true) ∧ ((s.dev.lane x 0).found h0 = some (i0, p0) ∧ (s.dev.lane x 1).found h1
      = some (i1, p1)) ∧ (k ≤ 40)) ∧
    (∃ (s : State) (x : Port) (h0 h1 : LaneLock) (i0 i1 : Bool) (p0 p1 k : Nat), (deviceOn s) ∧ (s.dev.get (LANE_STAT_STATE x)
      = P_TRAIN) ∧ ((s.dev.port x).refwait = false) ∧ (laneReady s.dev x 0 = true ∧ laneReady s.dev x 1 = true) ∧ ((s.dev.lane
      x 0).found h0 = some (i0, p0) ∧ (s.dev.lane x 1).found h1 = some (i1, p1)) ∧ (40 < k)) ∧
    (∃ (s : State) (x : Port) (k : Nat), (deviceOn s) ∧ (s.dev.get (LANE_STAT_STATE x) = P_TRAIN) ∧ (s.dev.getb
      (LANEN_STAT_LOL x 0) = true ∧ s.dev.getb (LANEN_STAT_LOL x 1) = true) ∧ ((s.dev.lane x 0).markRun < 8 ∧ (s.dev.lane x
      1).markRun < 8)) ∧
    (∃ (s : State) (x : Port), (deviceOn s) ∧ (s.dev.getb (LANE_STAT_RX_UP x) = true) ∧ (s.dev.getb (LANE_STAT_TX_UP x) =
      true) ∧ (s.dev.get (LANE_STAT_STATE x) = P_TRAIN)) ∧
    (∃ (s : State) (x : Port), (deviceOn s) ∧ (s.dev.getb (LANE_STAT_RX_UP x) = true) ∧ (s.dev.getb (LANE_STAT_TX_UP x) =
      true) ∧ (s.dev.get (LANE_STAT_STATE x) = P_TXONLY)) ∧
    (∃ (s : State) (x : Port), (deviceOn s) ∧ (s.dev.get (LANE_STAT_STATE x) = P_GO) ∧ ((s.dev.port x).countdownSent = false)
      ∧ ((s.dev.port x).peerCd0 = true)) ∧
    (∃ (s : State) (x : Port), (deviceOn s) ∧ (s.dev.get (LANE_STAT_STATE x) = P_GO) ∧ ((s.dev.port x).countdownSent = true) ∧
      ((s.dev.port x).since + 250000 ≤ s.dev.time.clk.ticks)) ∧
    (∃ (s : State) (x : Port), (deviceOn s) ∧ (s.dev.get (LANE_STAT_STATE x) = P_TRAIN) ∧ ((s.dev.port x).since + 250000 *
      s.dev.get (LANE_CTRL_TMO x) ≤ s.dev.time.clk.ticks)) ∧
    (∃ (s : State) (x : Port) (l : Nat), (deviceOn s) ∧ (s.dev.get (LANE_STAT_STATE x) = P_TRAIN) ∧ (s.dev.getb
      (LANE_CTRL_TXONLY_EN x) = true) ∧ ((s.dev.port x).losSince = some l) ∧ (l + 5000000 ≤ s.dev.time.clk.ticks) ∧
      ((s.dev.port x).since + 5000000 ≤ s.dev.time.clk.ticks)) :=
  ⟨⟨tileAt fun d => d.setAll [(LANE_CTRL_EN 1, 0), (LANE_STAT_STATE 1, P_DOWN), (LANE_CTRL_RATE 1, 1), (LANE_STAT_RX_UP 1,
    1)], .mc0, 1, by decide +kernel⟩,
   ⟨tileAt fun d => d.setAll [(LANE_CTRL_EN 1, 1), (LANE_STAT_STATE 1, P_LS0), (TIME_PATH_B_VALID, 1), (TIME_PATH_A_VALID,
     1)], .mc0, 1, by decide +kernel⟩,
   ⟨tileAt id, .jtag, 1, by decide +kernel⟩,
   ⟨tileAt fun d => d.set (LANE_STAT_STATE 1) P_LS0, .mc0, 1, 2, by decide +kernel⟩,
   ⟨tileAt fun d => d.setAll [(LANE_STAT_STATE 1, P_LS1), (LANE_CTRL_TARGET 1, 1)], .mc0, 1, by decide +kernel⟩,
   ⟨tileAt fun d => d.setAll [(LANE_STAT_STATE 1, P_LS2), (LANE_CTRL_TARGET 1, 2)], .mc0, 1, by decide +kernel⟩,
   ⟨senderAt fun d => d.setAll [(LANE_STAT_STATE 1, P_TXONLY), (LANE_CTRL_TARGET 1, 0)], .mc0, 1, by decide +kernel⟩,
   ⟨senderAt fun d => d.set (LANE_STAT_STATE 2) P_LS0, .mc0, 2, by decide +kernel⟩,
   ⟨senderAt fun d => d.setAll [(LANE_STAT_STATE 2, P_LISTEN), (LANE_STAT_RX_UP 2, 1), (TIME_CTRL_SURVEY_EN, 1),
     (LANE_CTRL_TXIDLE 2, 1)], .mc0, 2, by decide +kernel⟩,
   ⟨senderAt fun d => d.setAll [(LANE_STAT_STATE 2, P_LISTEN), (LANE_STAT_RX_UP 2, 1), (LANE_CTRL_TARGET 2, 2),
     (LANE_CTRL_TXIDLE 2, 1)], .mc0, 2, by decide +kernel⟩,
   ⟨senderAt fun d => { d with twin.en := true }, .bar0, 2, by decide +kernel⟩,
   ⟨tileAt fun d => (d.setAll [(LANE_STAT_STATE 0, P_REFWAIT), (LANE_REF_STAT_LOCKED, 1)]).modPort 0 fun p =>
     { p with refwait := true }, 0, by decide +kernel⟩,
   ⟨tileAt fun d => (d.set (LANE_STAT_STATE 0) P_TRAIN).modPort 0 fun p => { p with refwait := false }, 0, 1, 77, BitVec.ofNat
     64 (trainSync * 2 ^ 32 + infoWord true 1 2 true true false 5), 1, infoWord true 1 2 true true false 5, false,
     by decide +kernel⟩,
   ⟨tileAt fun d => (d.setAll [(LANE_STAT_STATE 0, P_TRAIN), (LANEN_STAT_POLINV 0 0, 1)]).modPort 0 fun p =>
     { p with refwait := false, peerPmRun := 3, lanes := p.lanes.map fun l => { l with markRun := 3, markPos := 77 } }, 0, 0,
     77, 5, 1, by decide +kernel⟩,
   ⟨tileAt fun d => { d with time.clk.ticks := 29 }.set (LANE_STAT_STATE 0) P_TRAIN, 0,
     { refiA := false, refiB := false, link0 := false, link1 := false, wakeLow := false, trstHigh := false },
     by decide +kernel⟩,
   ⟨tileAt fun d => (d.setAll [(LANE_STAT_STATE 0, P_TRAIN), (LANEN_EYEW_LIVE 0 0, 255), (LANEN_EYEW_LIVE 0 1, 255),
     (LANEN_STAT_LOS 0 0, 0), (LANEN_STAT_LOS 0 1, 0)]).modPort 0 fun p =>
     { p with refwait := false, lanes := p.lanes.map fun l => { l with markRun := 8, markInv := true, rxPrev := 2 } }, 0,
     .markers, .markers, true, true, 2, 2, 40, by decide +kernel⟩,
   ⟨tileAt fun d => (d.setAll [(LANE_STAT_STATE 0, P_TRAIN), (LANEN_EYEW_LIVE 0 0, 255), (LANEN_EYEW_LIVE 0 1, 255),
     (LANEN_STAT_LOS 0 0, 0), (LANEN_STAT_LOS 0 1, 0)]).modPort 0 fun p =>
     { p with refwait := false, lanes := p.lanes.map fun l => { l with markRun := 8 } }, 0, .markers, .markers, false, false,
     0, 0, 41, by decide +kernel⟩,
   ⟨tileAt fun d => (d.setAll [(LANE_STAT_STATE 0, P_TRAIN), (LANEN_EYEW_LIVE 0 0, 255), (LANEN_EYEW_LIVE 0 1, 255),
     (LANEN_STAT_LOS 0 0, 0), (LANEN_STAT_LOS 0 1, 0)]).modPort 0 fun p =>
     { p with refwait := false, lanes := p.lanes.map fun l => { l with markRun := 7 } }, 0, 0, by decide +kernel⟩,
   ⟨tileAt fun d => d.setAll [(LANE_STAT_STATE 0, P_TRAIN), (LANE_STAT_RX_UP 0, 1), (LANE_STAT_TX_UP 0, 1)], 0,
     by decide +kernel⟩,
   ⟨senderAt fun d => d.setAll [(LANE_STAT_STATE 3, P_TXONLY), (LANE_STAT_RX_UP 3, 1), (LANE_STAT_TX_UP 3, 1)], 3,
     by decide +kernel⟩,
   ⟨senderAt fun d => (d.set (LANE_STAT_STATE 3) P_GO).modPort 3 fun p => { p with peerCd0 := true, countdownSent := false },
     3, by decide +kernel⟩,
   ⟨tileAt fun d => ({ d with time.clk.ticks := 250007 }.set (LANE_STAT_STATE 1) P_GO).modPort 1 fun p =>
     { p with since := 7, countdownSent := true }, 1, by decide +kernel⟩,
   ⟨tileAt fun d => ({ d with time.clk.ticks := 250000 * 200 }.setAll [(LANE_STAT_STATE 1, P_TRAIN), (LANE_CTRL_TMO 1,
     200)]).modPort 1 fun p => { p with since := 0, noLockRecorded := false }, 1, by decide +kernel⟩,
   ⟨tileAt fun d => ({ d with time.clk.ticks := 5000009 }.setAll [(LANE_STAT_STATE 1, P_TRAIN), (LANE_CTRL_TXONLY_EN 1,
     1)]).modPort 1 fun p => { p with since := 8, losSince := some 9 }, 1, 9, by decide +kernel⟩⟩

/-- The hypotheses of Obligations.LinkLossAndReference, clause by clause. -/
theorem witness_LinkLossAndReference :
    (∃ (s : State) (x : Port) (n : Lane), (deviceOn s) ∧ (s.dev.get (LANE_STAT_STATE x) = P_LS0)) ∧
    (∃ (s : State) (x : Port) (n : Lane), (deviceOn s) ∧ (s.dev.get (LANE_STAT_STATE x) ≠ P_DOWN)) ∧
    (∃ (s : State) (x : Port) (n : Lane), (deviceOn s) ∧ (s.dev.get (LANE_STAT_STATE x) = P_LS0)) ∧
    (∃ (s : State) (x : Port) (h0 h1 : LaneLock) (i0 i1 : Bool) (p0 p1 k : Nat), (deviceOn s) ∧ (s.dev.get (LANE_STAT_STATE x)
      = P_RECOVER) ∧ ((s.dev.port x).refwait = false) ∧ (laneReady s.dev x 0 = true ∧ laneReady s.dev x 1 = true) ∧
      ((s.dev.lane x 0).found h0 = some (i0, p0) ∧ (s.dev.lane x 1).found h1 = some (i1, p1)) ∧ (k ≤ 40)) ∧
    (∃ (s : State) (x : Port), (deviceOn s) ∧ (s.dev.get (LANE_STAT_STATE x) = P_RECOVER) ∧ ((s.dev.port x).since + 250000 ≤
      s.dev.time.clk.ticks)) ∧
    (∃ (s : State) (x : Port) (l : Nat), (deviceOn s) ∧ (s.dev.get (LANE_STAT_STATE x) = P_LS0) ∧ ((s.dev.port
      x).peerUnlockSince = some l) ∧ (l + 250000 ≤ s.dev.time.clk.ticks)) ∧
    (∃ (s : State) (x : Port), (deviceOn s) ∧ (s.dev.get (LANE_STAT_STATE x) = P_LS0) ∧ (4 ≤ (s.dev.port x).peerPmRun) ∧ (1 ≤
      min (s.dev.get (LANE_CTRL_TARGET x)) (s.dev.port x).peerPm)) ∧
    (∃ (s : State) (x : Port), (deviceOn s) ∧ ((s.dev.port x).peerPmRun < 4)) ∧
    (∃ (s : State) (x : Port), (deviceOn s) ∧ (s.dev.get (LANE_STAT_STATE x) = P_LS2) ∧ (s.straps.role = .tile ∨ s.dev.getb
      (LANE_CTRL_TXIDLE x) = false)) ∧
    (∃ (s : State), (deviceOn s)) ∧
    (∃ (s : State), (deviceOn s) ∧ (s.dev.get LANE_REF_STAT_HOLDOVER = 0)) ∧
    (∃ (s : State), (tileOn s) ∧ (s.dev.get LANE_REF_CTRL_SEL = 1 ∨ s.dev.get LANE_REF_CTRL_SEL = 2) ∧ (s.dev.get
      LANE_REF_STAT_SRC ≠ (if s.dev.get LANE_REF_CTRL_SEL = 1 then 0 else 1)) ∧ (s.dev.get (LANE_STAT_PEER_REFDEP (if
      s.dev.get LANE_REF_CTRL_SEL = 1 then 0 else 1)) = 0)) ∧
    (∃ (s : State) (x : Port) (n : Lane) (v : BitVec 8), (deviceOn s) ∧ (s.dev.get (LANEN_GUARD_THRESH x n) ≤ v.toNat) ∧
      (s.dev.get (LANE_STAT_STATE x) ≠ P_LS0 ∨ s.dev.getb (LANE_STAT_RX_UP x) = true)) ∧
    (∃ (s : State) (x : Port) (n : Lane) (v : BitVec 8), (deviceOn s) ∧ (∀ m : Fin 2, s.dev.getb (LANEN_STAT_LOL x m) = false
      ∧ s.dev.getb (LANEN_STAT_LOS x m) = false ∧ s.dev.get (LANEN_GUARD_THRESH x m) ≤ (if m = n then v.toNat else s.dev.get
      (LANEN_EYEW_LIVE x m))) ∧ (s.dev.get (LANE_STAT_STATE x) = P_LS0)) ∧
    (∃ (s : State) (x : Port) (n : Lane) (v : BitVec 8), (deviceOn s) ∧ (v.toNat < s.dev.get (LANEN_GUARD_THRESH x n)) ∧
      (s.dev.get (LANEN_STAT_GUARD x n) = 0) ∧ (s.dev.get (LANEN_GUARD_THRESH x n) ≤ s.dev.get (LANEN_EYEW_LIVE x n))) ∧
    (∃ (s : State) (x : Port) (n : Lane) (v : BitVec 8), (deviceOn s) ∧ (v.toNat < s.dev.get (LANEN_GUARD_THRESH x n)) ∧
      (s.dev.get (LANEN_STAT_GUARD x n) = 1 ∨ s.dev.get (LANEN_EYEW_LIVE x n) < s.dev.get (LANEN_GUARD_THRESH x n))) ∧
    (∃ (s : State) (x : Port) (n : Lane), (deviceOn s) ∧ (s.dev.get (LANEN_GUARD_THRESH x n) + s.dev.get (LANEN_GUARD_HYST x
      n) ≤ s.dev.get (LANEN_EYEW_LIVE x n)) ∧ ((s.dev.lane x n).saved = none ∨ (s.dev.lane x n).savedAt + 2500000 ≤
      s.dev.time.clk.ticks)) ∧
    (∃ (s : State) (x : Port) (n : Lane) (g : Nat), (deviceOn s) ∧ (s.dev.get (LANEN_STAT_GUARD x n) = 1) ∧ ((s.dev.lane x
      n).goodSince = some g) ∧ (g + 2500000 ≤ s.dev.time.clk.ticks)) :=
  ⟨⟨tileAt fun d => d.setAll [(LANE_STAT_STATE 1, P_LS0), (TIME_PATH_B_VALID, 1), (LANE_STAT_RX_UP 1, 1)], 1, 0,
    by decide +kernel⟩,
   ⟨tileAt fun d => d.setAll [(LANE_STAT_STATE 1, P_TRAIN), (LANEN_STAT_LOS 1 1, 1)], 1, 1, by decide +kernel⟩,
   ⟨tileAt fun d => d.setAll [(LANE_STAT_STATE 1, P_LS0), (TIME_PATH_B_VALID, 1), (LANE_STAT_RX_UP 1, 1)], 1, 0,
     by decide +kernel⟩,
   ⟨senderAt fun d => (d.setAll [(LANE_STAT_STATE 0, P_RECOVER), (LANEN_EYEW_LIVE 0 0, 255), (LANEN_EYEW_LIVE 0 1, 255),
     (LANEN_STAT_LOS 0 0, 0), (LANEN_STAT_LOS 0 1, 0)]).modPort 0 fun p =>
     { p with refwait := false, lanes := p.lanes.map fun l => { l with markRun := 8 } }, 0, .markers, .markers, false, false,
     0, 0, 40, by decide +kernel⟩,
   ⟨tileAt fun d => ({ d with time.clk.ticks := 250007 }.set (LANE_STAT_STATE 1) P_RECOVER).modPort 1 fun p =>
     { p with since := 7 }, 1, by decide +kernel⟩,
   ⟨tileAt fun d => ({ d with time.clk.ticks := 250007 }.set (LANE_STAT_STATE 1) P_LS0).modPort 1 fun p =>
     { p with peerUnlockSince := some 7 }, 1, 7, by decide +kernel⟩,
   ⟨tileAt fun d => (d.setAll [(LANE_STAT_STATE 1, P_LS0), (LANE_CTRL_TARGET 1, 1)]).modPort 1 fun p =>
     { p with peerPmRun := 4, peerPm := 2 }, 1, by decide +kernel⟩,
   ⟨tileAt fun d => (d.setAll [(LANE_STAT_STATE 1, P_LS0), (LANE_CTRL_TARGET 1, 2), (LANE_STAT_PEER_PM 1, 2)]).modPort 1 fun p
     => { p with peerPmRun := 3 }, 1, by decide +kernel⟩,
   ⟨tileAt fun d => d.set (LANE_STAT_STATE 1) P_LS2, 1, by decide +kernel⟩,
   ⟨tileAt fun d => d.setAll [(LANE_REF_STAT_BYPASS, 1), (LANE_REF_STAT_HOLDOVER, 1), (LANE_REF_STAT_SRC, 1)],
     by decide +kernel⟩,
   ⟨tileAt fun d => d.setAll [(LANE_REF_STAT_LOCKED, 1), (LANE_REF_STAT_REFI_A_OK, 1)], by decide +kernel⟩,
   ⟨tileAt fun d => d.setAll [(LANE_REF_CTRL_SEL, 2), (LANE_REF_STAT_SRC, 0)], by decide +kernel⟩,
   ⟨tileAt fun d => d.set (LANEN_GUARD_THRESH 1 0) 77, 1, 0, 77, by decide +kernel⟩,
   ⟨tileAt fun d => (d.setAll [(LANEN_GUARD_THRESH 1 0, 77), (LANE_STAT_STATE 1, P_LS0), (LANE_STAT_RX_UP 1, 0),
     (LANEN_STAT_LOL 1 0, 0), (LANEN_STAT_LOL 1 1, 0), (LANEN_STAT_LOS 1 0, 0), (LANEN_STAT_LOS 1 1, 0), (LANEN_EYEW_LIVE 1 1,
     255)]), 1, 0, 77, by decide +kernel⟩,
   ⟨tileAt fun d => (d.setAll [(LANEN_GUARD_THRESH 1 0, 77), (LANEN_EYEW_LIVE 1 0, 77)]).modLane 1 0 fun l =>
     { l with saved := some ⟨9, Vector.replicate 12 5, 2⟩, taps := some ⟨9, Vector.replicate 12 7, 3⟩ }, 1, 0, 76,
     by decide +kernel⟩,
   ⟨tileAt fun d => d.setAll [(LANEN_GUARD_THRESH 1 0, 77), (LANEN_EYEW_LIVE 1 0, 76)], 1, 0, 75, by decide +kernel⟩,
   ⟨tileAt fun d => ({ d with time.clk.ticks := 2500000 }.setAll [(LANEN_GUARD_THRESH 1 0, 77), (LANEN_GUARD_HYST 1 0, 10),
     (LANEN_EYEW_LIVE 1 0, 87)]).modLane 1 0 fun l => { l with taps := some ⟨9, Vector.replicate 12 5, 2⟩ }, 1, 0,
     by decide +kernel⟩,
   ⟨tileAt fun d => ({ d with time.clk.ticks := 2500005 }.set (LANEN_STAT_GUARD 1 1) 1).modLane 1 1 fun l =>
     { l with goodSince := some 5 }, 1, 1, 5, by decide +kernel⟩⟩

/-- The hypotheses of Obligations.EnumerationAndPresence, clause by clause. -/
theorem witness_EnumerationAndPresence :
    (∃ (s : State) (k : RxPkt) (rest : List RxPkt), (tileOn s) ∧ (s.dev.rxq = k :: rest) ∧ (k.port = 0) ∧ (isEnum k.bytes =
      true) ∧ (enumNext k.bytes ≤ 63)) ∧
    (∃ (s : State) (k : RxPkt) (rest : List RxPkt), (tileOn s) ∧ (s.dev.rxq = k :: rest) ∧ (k.port = 0) ∧ (isEnum k.bytes =
      true) ∧ (64 ≤ enumNext k.bytes)) ∧
    (∃ (s : State) (k : RxPkt) (rest : List RxPkt), (tileOn s) ∧ (s.dev.rxq = k :: rest) ∧ (k.port = 1) ∧ (isEnum k.bytes =
      true)) ∧
    (∃ (s : State) (x : Fin 2) (r : Nat) (cell : List Byte), (tileOn s) ∧ (cellOk cell = true ∧ cellValid cell = true ∧
      cellSop cell = true) ∧ (isEnum (cellData cell) = true) ∧ (pktBcast (cellData cell) = true)) ∧
    (∃ (s : State) (k : RxPkt) (rest : List RxPkt), (senderOn s) ∧ (s.dev.rxq = k :: rest) ∧ (isEnum k.bytes = true) ∧
      (pktTail k.bytes = false) ∧ (k.port < 4) ∧ (enumNext k.bytes ≤ 64) ∧ (s.dev.host.enumWait = none)) ∧
    (∃ (s : State) (i : Nat) (desc : List Byte) (p : TxPkt), (Waits (.ring i) desc s = true) ∧ (s.dev.firmware = true) ∧
      (dOpcode desc = 0x0100) ∧ (s.dev.host.enumWait = none) ∧ (s.dev.get (LANE_CTRL_TXIDLE (natBits (dData desc 0) 0 2)) = 0)
      ∧ (s.dev.get (LANE_STAT_STATE (natBits (dData desc 0) 0 2)) = P_LS0) ∧ ((s.dev.port (natBits (dData desc 0) 0 2)).cur =
      some p)) ∧
    (∃ (s : State) (i : Nat) (desc : List Byte), (Waits (.ring i) desc s = true) ∧ (s.dev.firmware = true) ∧ (dOpcode desc =
      0x0100) ∧ (s.dev.host.enumWait = none) ∧ (s.dev.get (LANE_CTRL_TXIDLE (natBits (dData desc 0) 0 2)) = 1 ∨ s.dev.get
      (LANE_STAT_STATE (natBits (dData desc 0) 0 2)) ≠ P_LS0)) ∧
    (∃ (s : State) (i x t0 : Nat) (long : Bool) (desc : List Byte), (senderOn s) ∧ (s.dev.host.descs =
      [{ fetchedCmd i desc with phase := .started }]) ∧ (dNoCpl desc = false) ∧ (s.dev.host.out = []) ∧ (s.dev.host.enumWait =
      some (i, x, t0, long)) ∧ (t0 + 1250000 ≤ s.dev.time.clk.ticks)) ∧
    (∃ (s : State) (k : RxPkt) (rest : List RxPkt), (tileOn s) ∧ (s.dev.rxq = k :: rest) ∧ (isCmd CK_DESC k = true) ∧ (dOpcode
      (cmdDesc k.bytes) = 0x0101) ∧ (canAnswer s.dev k.bytes = true)) ∧
    (∃ (s : State) (i : Nat) (desc : List Byte), (Waits (.ring i) desc s = true) ∧ (dOpcode desc = 0x0101)) ∧
    (∃ (s : State) (x : Port) (u : Nat) (p : TxPkt), (senderOn s) ∧ ((s.dev.port x).unasgSeen = some u) ∧ ((s.dev.port
      x).lastEnum = none) ∧ (sendsCells (s.dev.get (LANE_STAT_STATE x)) = true) ∧ ((s.dev.port x).cur = some p) ∧ (if
      s.dev.getb (XPT_CHAIN_END x) = true then s.dev.portMode x = M_FEED ∧ s.dev.get (XPT_CHAIN_COUNT_VALID x) = 1 ∧ 1 ≤
      s.dev.get (XPT_CHAIN_COUNT x) else s.dev.get XPT_CTRL_AUTO_ENUM = 1)) ∧
    (∃ (s : State) (k : RxPkt) (rest : List RxPkt), (senderOn s) ∧ (s.dev.rxq = k :: rest) ∧ (pktType k.bytes = PT_WITNESS) ∧
      (pktUnasg k.bytes = true) ∧ (k.port < 4) ∧ (s.dev.get TWIN_STAT_STATE ≠ W_STANDBY) ∧ (natBit (byteAt (pktBody k.bytes)
      4) 3 = false)) ∧
    (∃ (s : State) (k : RxPkt) (rest : List RxPkt), (senderOn s) ∧ (s.dev.rxq = k :: rest) ∧ (pktType k.bytes = PT_WITNESS) ∧
      (pktUnasg k.bytes = false) ∧ (k.port < 4) ∧ (pktSrcAddr k.bytes / 64 = 4 * s.dev.get XPT_CTRL_PAIR + k.port) ∧
      (s.dev.get TWIN_STAT_STATE ≠ W_STANDBY) ∧ (s.dev.isPresent k.port (pktSrcAddr k.bytes % 64) = true) ∧ (s.dev.sec.unread
      = []) ∧ (s.dev.sec.recheck = [])) ∧
    (∃ (s : State) (x : Port) (q : Fin 64) (t0 : Nat), (senderOn s) ∧ ((q.val, t0) ∈ (s.dev.port x).present) ∧ (t0 + 750000 ≤
      s.dev.time.clk.ticks)) :=
  ⟨⟨tileAt fun d => { d with rxq := [enumRx 0 4096 5 13] }.setAll [(XPT_ADDR_VALID, 1), (XPT_ADDR_ADDR, 99)], enumRx 0 4096 5
    13, [], by decide +kernel⟩,
   ⟨tileAt fun d => { d with rxq := [enumRx 0 4096 5 64] }.setAll [(XPT_ADDR_VALID, 1)], enumRx 0 4096 5 64, [],
     by decide +kernel⟩,
   ⟨tileAt fun d => { d with rxq := [enumRx 1 12288 5 13] }, enumRx 1 12288 5 13, [], by decide +kernel⟩,
   ⟨State.reset, 0, 5, (packetCells (enumRx 0 4096 5 63).bytes).headD [], by decide +kernel⟩,
   ⟨senderAt fun d => { d with rxq := [enumRx 2 4096 5 64] }, enumRx 2 4096 5 64, [], by decide +kernel⟩,
   ⟨withDev (presentAt 1 13 (cmdAtSender 5 (descOf 0x100 2 7 0 (zeros 14 ++ leBytes 1 4)) id)) fun d => d.modPort 1 fun p =>
     { p with cur := some .time }, 5, descOf 0x100 2 7 0 (zeros 14 ++ leBytes 1 4), .time, by decide +kernel⟩,
   ⟨withDev (cmdAtSender 5 (descOf 0x100 2 7 0 (zeros 14 ++ leBytes 1 4)) id) fun d => d.set (LANE_CTRL_TXIDLE 1) 0, 5, descOf
     0x100 2 7 0 (zeros 14 ++ leBytes 1 4), by decide +kernel⟩,
   ⟨presentAt 1 13 (senderAt fun d => { d with time.clk.ticks := 1250007, host.enumWait := some (5, 1, 7, true), host.descs := [{ fetchedCmd 5 (descOf 0x100 2 7 0 []) with phase := .started }] }),
     5, 1, 7, true, descOf 0x100 2 7 0 [], by decide +kernel⟩,
   ⟨tileAt fun d => { d with rxq := [cmdPkt (descOf 0x101 0 7 77 [])] }.setAll chained, cmdPkt (descOf 0x101 0 7 77 []), [],
     by decide +kernel⟩,
   ⟨cmdAtSender 5 (descOf 0x101 2 7 0 []) id, 5, descOf 0x101 2 7 0 [], by decide +kernel⟩,
   ⟨senderAt fun d => (d.setAll [(LANE_STAT_STATE 1, P_LS0), (XPT_CTRL_AUTO_ENUM, 1), (XPT_CHAIN_END 1, 0)]).modPort 1 fun p
     => { p with cur := some .time, unasgSeen := some 7 }, 1, 7, .time, by decide +kernel⟩,
   ⟨senderAt fun d => { d with rxq := [rxOf 2 PT_WITNESS (2 ^ 14) 0 (witBody 5 4)] }, rxOf 2 PT_WITNESS (2 ^ 14) 0 (witBody 5
     4), [], by decide +kernel⟩,
   ⟨presentAt 2 13 (senderAt fun d => { d with rxq := [rxOf 2 PT_WITNESS (2 * 64 + 13) 0 (witBody 5 7)] }.set XPT_CTRL_PAIR
     0), rxOf 2 PT_WITNESS (2 * 64 + 13) 0 (witBody 5 7), [], by decide +kernel⟩,
   ⟨withDev (presentAt 1 40 (senderAt id)) fun d => { d with time.clk.ticks := 750000 }, 1, 40, 0, by decide +kernel⟩⟩

/-- The hypotheses of Obligations.CellsAndPackets, clause by clause. -/
theorem witness_CellsAndPackets :
    (∃ (s : State) (x : Port) (r : Nat) (b0 b1 : RxCodeword), (senderOn s) ∧ (s.dev.get (LANE_STAT_STATE x) = P_LS0) ∧
      ((s.dev.port x).refwait = false) ∧ (s.dev.get (LANEN_STAT_LOL x 0) = 0 ∧ s.dev.get (LANEN_STAT_LOS x 0) = 0) ∧
      (s.dev.get (LANEN_STAT_LOL x 1) = 0 ∧ s.dev.get (LANEN_STAT_LOS x 1) = 0) ∧ (s.dev.ports.length = 4 ∧ (s.dev.port
      x).lanes.length = 2) ∧ ((receiveCodeword (s.dev.lane x 0) (s.dev.getb (LANEN_STAT_POLINV x 0)) b0).1 = none) ∧
      ((receiveCodeword (s.dev.lane x 1) (s.dev.getb (LANEN_STAT_POLINV x 1)) b1).1 = none) ∧ ((s.dev.lane x 0).failRun < 7 ∧
      (s.dev.lane x 1).failRun < 7)) ∧
    (∃ (s : State) (x : Port) (r : Nat) (b0 : RxCodeword), (senderOn s) ∧ (s.dev.get (LANE_STAT_STATE x) = P_LS0 ∨ s.dev.get
      (LANE_STAT_STATE x) = P_RECOVER) ∧ ((s.dev.port x).refwait = false) ∧ (s.dev.get (LANEN_STAT_LOL x 0) = 0 ∧ s.dev.get
      (LANEN_STAT_LOS x 0) = 0) ∧ (s.dev.ports.length = 4 ∧ (s.dev.port x).lanes.length = 2) ∧ ((receiveCodeword (s.dev.lane x
      0) (s.dev.getb (LANEN_STAT_POLINV x 0)) b0).1 = none) ∧ ((s.dev.lane x 0).failRun = 7)) ∧
    (∃ (s : State) (x : Port) (r : Nat) (b0 b1 : RxCodeword) (l0 l1 k0 k1 : Nat) (c0 c1 cells : List (List Byte)), (senderOn
      s) ∧ (s.dev.get (LANE_STAT_STATE x) = P_LS0) ∧ ((s.dev.port x).refwait = false) ∧ (s.dev.get (LANEN_STAT_LOL x 0) = 0 ∧
      s.dev.get (LANEN_STAT_LOS x 0) = 0) ∧ (s.dev.get (LANEN_STAT_LOL x 1) = 0 ∧ s.dev.get (LANEN_STAT_LOS x 1) = 0) ∧
      (s.dev.ports.length = 4 ∧ (s.dev.port x).lanes.length = 2) ∧ ((s.dev.lane x 0).discardFirst = false ∧ (s.dev.lane x
      1).discardFirst = false) ∧ ((receiveCodeword (s.dev.lane x 0) (s.dev.getb (LANEN_STAT_POLINV x 0)) b0).1 = some ((l0,
      c0), k0)) ∧ ((receiveCodeword (s.dev.lane x 1) (s.dev.getb (LANEN_STAT_POLINV x 1)) b1).1 = some ((l1, c1), k1)) ∧
      (pairCells (l0, c0) (l1, c1) = some cells) ∧ (∀ c ∈ cells, cellOk c = true ∧ cellValid c = false)) ∧
    (∃ (s : State) (x : Port) (r : Nat) (b0 b1 : RxCodeword) (l0 l1 k0 k1 : Nat) (c0 c1 : List (List Byte)) (c : List Byte)
      (cells : List (List Byte)), (senderOn s) ∧ (s.dev.get (LANE_STAT_STATE x) = P_LS0) ∧ ((s.dev.port x).refwait = false) ∧
      (s.dev.get (LANEN_STAT_LOL x 0) = 0 ∧ s.dev.get (LANEN_STAT_LOS x 0) = 0) ∧ (s.dev.get (LANEN_STAT_LOL x 1) = 0 ∧
      s.dev.get (LANEN_STAT_LOS x 1) = 0) ∧ (s.dev.ports.length = 4 ∧ (s.dev.port x).lanes.length = 2) ∧ ((s.dev.lane x
      0).discardFirst = false ∧ (s.dev.lane x 1).discardFirst = false) ∧ ((receiveCodeword (s.dev.lane x 0) (s.dev.getb
      (LANEN_STAT_POLINV x 0)) b0).1 = some ((l0, c0), k0)) ∧ ((receiveCodeword (s.dev.lane x 1) (s.dev.getb
      (LANEN_STAT_POLINV x 1)) b1).1 = some ((l1, c1), k1)) ∧ (pairCells (l0, c0) (l1, c1) = some (c :: cells)) ∧ (∀ c ∈
      cells, cellOk c = true ∧ cellValid c = false) ∧ (cellOk c = true ∧ cellValid c = true ∧ cellSop c = true ∧ cellEop c =
      true ∧ cellCidx c = 0) ∧ (pktType (cellData c) = PT_RSP) ∧ (pktLen (cellData c) ≤ 40) ∧ ((s.dev.port x).open_ = [])) ∧
    (∃ (s : State) (x : Port) (r : Nat), (tileOn s) ∧ (x.val < 2) ∧ (s.dev.get (LANE_STAT_STATE x) = P_LS0) ∧ (s.dev.get
      (LANE_STAT_STATE (1 - x.val)) = P_LS0) ∧ ((s.dev.port x).refwait = false) ∧ (s.dev.get (LANEN_STAT_LOL x 0) = 1 ∧
      s.dev.get (LANEN_STAT_LOL x 1) = 1) ∧ ((s.dev.port (1 - x.val)).toneSince = none) ∧ ((s.dev.port (1 - x.val)).fwd = [])
      ∧ ((s.dev.port (1 - x.val)).own = []) ∧ ((s.dev.port (1 - x.val)).lineEnd ≤ 5 * s.dev.time.clk.ticks + 5)) ∧
    (∃ (s : State) (x : Port) (r : Nat), (tileOn s) ∧ (x.val < 2) ∧ (s.dev.get (LANE_STAT_STATE x) = P_LS0) ∧ (s.dev.get
      (LANE_STAT_STATE (1 - x.val)) = P_LS0) ∧ ((s.dev.port x).refwait = false) ∧ (s.dev.get (LANEN_STAT_LOL x 0) = 1 ∧
      s.dev.get (LANEN_STAT_LOL x 1) = 1) ∧ ((s.dev.port (1 - x.val)).toneSince = none) ∧ ((s.dev.port (1 - x.val)).fwd = [])
      ∧ (5 * s.dev.time.clk.ticks + 5 < (s.dev.port (1 - x.val)).lineEnd)) ∧
    (∃ (s : State) (r q : Nat) (e : OwnPkt), (tileOn s) ∧ (s.dev.get (LANE_STAT_STATE 0) = P_LS0 ∧ s.dev.get (LANE_STAT_STATE
      1) = P_LS0) ∧ ((s.dev.port 1).refwait = false) ∧ (s.dev.get (LANEN_STAT_LOL 1 0) = 1 ∧ s.dev.get (LANEN_STAT_LOL 1 1) =
      1) ∧ ((s.dev.port 0).toneSince = none) ∧ ((s.dev.port 0).fwd = []) ∧ ((s.dev.port 0).own = [e]) ∧ (e.record = some q ∧
      e.turn = none ∧ e.cells.length ≤ 20) ∧ (s.dev.get REC_SENT_SEQ = q) ∧ ((s.dev.port 0).lineEnd ≤ 5 * s.dev.time.clk.ticks
      + 5)) ∧
    (∃ (s : State) (x : Port), (tileOn s) ∧ (x.val < 2) ∧ (s.dev.get XPT_CTRL_WIT_EN = 1) ∧ (s.dev.get (LANE_STAT_STATE x) =
      P_LS0) ∧ (s.dev.get (LANE_STAT_STATE (1 - x.val)) = P_LS0) ∧ ((s.dev.port x).lastWit + 247500 ≤ s.dev.time.clk.ticks)) ∧
    (∃ (s : State) (q : Nat), (tileOn s) ∧ (s.dev.get REC_STAT_EMPTY = 0) ∧ (s.dev.get REC_SENT_SEQ = q) ∧ (s.dev.rcd.next ≠
      q) ∧ (precedes q (s.dev.get REC_OLDEST_SEQ) = false) ∧ (s.dev.recCheckOk q = true) ∧ (s.dev.get REC_CTRL_SEND_SEV ≤
      (eventOfBytes (s.dev.recSlot q)).sev) ∧ (s.dev.tile.accepted = none) ∧ (s.dev.get (LANE_STAT_STATE 0) = P_LS0) ∧
      (s.dev.get (LANE_STAT_STATE 1) = P_LS0) ∧ (∀ p ∈ s.dev.ports, p.own = []) ∧ ((s.dev.port 0).toneSince = none)) ∧
    (∃ (s : State) (x : Port) (r : Reasm), (deviceOn s) ∧ ((s.dev.port x).open_ = [r]) ∧ (r.lastCell + 25000 ≤
      s.dev.time.clk.ticks)) :=
  ⟨⟨senderAt (lockedPort 1), 1, 5, noBits, noBits, by decide +kernel, by decide +kernel, by decide +kernel, by decide +kernel,
    by decide +kernel, by decide +kernel, no0_read, no1_read, by decide +kernel⟩,
   ⟨senderAt fun d => (lockedPort 1 d).modLane 1 0 fun l => { l with failRun := 7 }, 1, 5, noBits, by decide +kernel,
     by decide +kernel, by decide +kernel, by decide +kernel, by decide +kernel, no7_read, by decide +kernel⟩,
   ⟨senderAt (lockedPort 1), 1, 5, idleBits0, idleBits1, 0xB, 0x1B, 0, 0, List.replicate 10 idleCell, List.replicate 10
     idleCell, List.replicate 20 idleCell, by decide +kernel, by decide +kernel, by decide +kernel, by decide +kernel,
     by decide +kernel, by decide +kernel, by decide +kernel, idle0_read, idle1_read, by decide +kernel, by decide +kernel⟩,
   ⟨senderAt (lockedPort 1), 1, 5, rspBits, idleBits1, 0xB, 0x1B, 0, 0, cellsWith (rxOf 1 PT_RSP 77 4096 (rspBody 9 0 5 0
     [])).bytes, List.replicate 10 idleCell, (packetCells (rxOf 1 PT_RSP 77 4096 (rspBody 9 0 5 0 [])).bytes).headD [],
     List.replicate 19 idleCell, by decide +kernel, by decide +kernel, by decide +kernel, by decide +kernel,
     by decide +kernel, by decide +kernel, by decide +kernel, rsp_read, idle1_read, by decide +kernel, by decide +kernel,
     by decide +kernel, by decide +kernel, by decide +kernel, by decide +kernel⟩,
   ⟨tileAt fun d => (d.setAll [(LANE_STAT_STATE 0, P_LS0), (LANE_STAT_STATE 1, P_LS0), (LANEN_STAT_LOL 0 0, 1),
     (LANEN_STAT_LOL 0 1, 1)]).modPort 0 fun p => { p with refwait := false }, 0, 5, by decide +kernel⟩,
   ⟨withDev (tileAt fun d => (d.setAll [(LANE_STAT_STATE 0, P_LS0), (LANE_STAT_STATE 1, P_LS0), (LANEN_STAT_LOL 0 0, 1),
     (LANEN_STAT_LOL 0 1, 1)]).modPort 0 fun p => { p with refwait := false }) fun d => d.modPort 1 fun p =>
     { p with lineEnd := 6 }, 0, 5, by decide +kernel⟩,
   ⟨tileAt fun d => ((d.setAll [(LANE_STAT_STATE 0, P_LS0), (LANE_STAT_STATE 1, P_LS0), (LANEN_STAT_LOL 1 0, 1),
     (LANEN_STAT_LOL 1 1, 1), (REC_SENT_SEQ, 3)]).modPort 1 fun p => { p with refwait := false }).modPort 0 fun p =>
     { p with own := [⟨3, packetCells (zeros 64), none, some 3⟩] }, 5, 3, ⟨3, packetCells (zeros 64), none, some 3⟩,
     by decide +kernel⟩,
   ⟨tileAt fun d => { d with time.clk.ticks := 247500 }.setAll [(LANE_STAT_STATE 0, P_LS0), (LANE_STAT_STATE 1, P_LS0),
     (XPT_CTRL_WIT_EN, 1)], 1, by decide +kernel⟩,
   ⟨tileAt fun d => { d with rcd.slots := [(3, eventBytes { evA with seq := 3 })], rcd.checks := [(3, crc32c (eventBytes { evA with seq := 3 }))], rcd.next := 4 }.setAll
     [(REC_STAT_EMPTY, 0), (REC_SENT_SEQ, 3), (REC_OLDEST_SEQ, 3), (REC_NEWEST_SEQ, 3), (LANE_STAT_STATE 0, P_LS0),
     (LANE_STAT_STATE 1, P_LS0), (REC_CTRL_SEND_SEV, 0)], 3, by decide +kernel⟩,
   ⟨tileAt fun d => { d with time.clk.ticks := 25009 }.modPort 1 fun p =>
     { p with open_ := [{ stream := 77, data := [], cells := 1, lastCell := 9, tRx := 0 }] }, 1,
     { stream := 77, data := [], cells := 1, lastCell := 9, tRx := 0 }, by decide +kernel⟩⟩

/-- The hypotheses of Obligations.FlipsAccepted, clause by clause. -/
theorem witness_FlipsAccepted :
    (∃ (s : State) (slot : List Byte) (table : Option (List Byte)), (senderOn s) ∧ (s.dev.getb (RING_CFG_EN 0) = true) ∧ (1 ≤
      s.dev.ringEntries 0) ∧ (s.dev.inFlight < 1024) ∧ (s.dev.enginesReady = true) ∧ (s.dev.enginesWork.engineFinds = []) ∧
      (slot.length = 64) ∧ (fLayers slot = 0) ∧ (fNext slot = false) ∧ (s.dev.host.queue = []) ∧ (s.dev.host.prev = none) ∧
      (s.dev.get RING_FLIP_MODE_CUR = fMode slot)) ∧
    (∃ (s : State) (slot : List Byte) (table : Option (List Byte)) (g : Flip), (senderOn s) ∧ (s.dev.getb (RING_CFG_EN 0) =
      true) ∧ (1 ≤ s.dev.ringEntries 0) ∧ (s.dev.inFlight < 1024) ∧ (s.dev.enginesReady = true) ∧
      (s.dev.enginesWork.engineFinds = []) ∧ (slot.length = 64) ∧ (fLayers slot = 0) ∧ (fNext slot = false) ∧ (dCrcOk slot =
      true ∧ headerFaulty slot = false ∧ modeAllowed (fMode slot) = true) ∧ (s.dev.host.queue = [g]) ∧ (g.mode = fMode slot) ∧
      (gridFrom (fMode slot) (fPresentS slot * 1000000000 + fPresentNs slot) ≤ g.present) ∧ (s.dev.now + s.dev.launchLead
      (fMode slot) ≤ gridFrom (fMode slot) (fPresentS slot * 1000000000 + fPresentNs slot)) ∧ (gridFrom (fMode slot)
      (fPresentS slot * 1000000000 + fPresentNs slot) ≤ s.dev.now + 1000000000)) ∧
    (∃ (s : State) (slot : List Byte) (table : Option (List Byte)), (senderOn s) ∧ (s.dev.getb (RING_CFG_EN 0) = true) ∧ (1 ≤
      s.dev.ringEntries 0) ∧ (s.dev.inFlight < 1024) ∧ (s.dev.enginesReady = true) ∧ (s.dev.enginesWork.engineFinds = []) ∧
      (slot.length = 64) ∧ (fLayers slot = 0) ∧ (fNext slot = false) ∧ (dCrcOk slot = true ∧ headerFaulty slot = false ∧
      modeAllowed (fMode slot) = true ∧ guardOk slot table = true) ∧ (s.dev.host.queue = []) ∧ (s.dev.host.flying = []) ∧
      (s.dev.host.prev = none) ∧ (s.dev.get RING_FLIP_MODE_CUR = 0xFF) ∧ (s.dev.now + s.dev.launchLead (fMode slot) ≤ gridFrom
      (fMode slot) (fPresentS slot * 1000000000 + fPresentNs slot)) ∧ (gridFrom (fMode slot) (fPresentS slot * 1000000000 +
      fPresentNs slot) ≤ s.dev.now + 1000000000)) ∧
    (∃ (s : State) (slot : List Byte) (table : Option (List Byte)) (u o : Nat), (senderOn s) ∧ (s.dev.getb (RING_CFG_EN 0) =
      true) ∧ (1 ≤ s.dev.ringEntries 0) ∧ (s.dev.inFlight < 1024) ∧ (s.dev.enginesReady = true) ∧ (slot.length = 64) ∧
      (fLayers slot = 0) ∧ (s.dev.host.flying = []) ∧ (s.dev.parity = { armed := none, bad := [⟨0, u, o, .code⟩] })) ∧
    (∃ (s : State) (f : Flip) (l : LayerSt) (v : BitVec 64), (senderOn s) ∧ (s.dev.host.queue = [f]) ∧ (f.layers = [l]) ∧
      (l.ready = false) ∧ (l.retired = false) ∧ (s.dev.host.lastFence = none) ∧ (s.dev.now + s.dev.launchLead f.mode ≤
      f.present)) ∧
    (∃ (s : State) (f : Flip) (v : BitVec 64), (senderOn s) ∧ (s.dev.host.queue = [f]) ∧ (s.dev.host.lastFence = none) ∧
      (f.present < s.dev.now + s.dev.launchLead f.mode)) ∧
    (∃ (s : State) (f : Flip) (l : LayerSt), (senderOn s) ∧ (s.dev.host.queue = [f]) ∧ (f.layers = [l]) ∧ (s.dev.underWay =
      false) ∧ (l.ready = false) ∧ (eDefer l.entry = true) ∧ (f.modeChange = false) ∧ (f.deferred < fDefer f.header) ∧
      (f.present ≤ s.dev.now + s.dev.launchLead f.mode) ∧ (s.dev.enginesReady = true) ∧ (s.dev.swapDue = false)) ∧
    (∃ (s : State) (f : Flip), (senderOn s) ∧ (s.dev.host.flying = [f]) ∧ (s.dev.host.queue = []) ∧ (f.modeChange = true) ∧
      (f.present ≤ s.dev.now) ∧ (f.mode < 256)) :=
  ⟨⟨flipSender 0 id, flipHdr 0 0 99 0 0 50000000 0, none, by decide +kernel⟩,
   ⟨flipSender 0 fun d => { d with host.queue := [flipA []] }, flipHdr 0 0 99 0 0 100000000 0, none, flipA [],
     by decide +kernel⟩,
   ⟨flipSender 0xFF id, flipHdr 0 0 99 0 0 130000000 0, none, by decide +kernel⟩,
   ⟨flipSender 0 fun d => { d with parity.bad := [⟨0, 7, 99, .code⟩] }, flipHdr 0 0 99 0 0 50000000 0, none, 7, 99,
     by decide +kernel⟩,
   ⟨flipSender 0 fun d => { d with host.queue := [flipA [layerA 0 0 false]] }, flipA [layerA 0 0 false], layerA 0 0 false, 5,
     by decide +kernel⟩,
   ⟨flipSender 0 fun d => { d with host.queue := [{ flipA [layerA 0 0 false] with present := 4999999 }] },
     { flipA [layerA 0 0 false] with present := 4999999 }, 5, by decide +kernel⟩,
   ⟨flipSender 0 fun d => { d with time.clk.ns := gridAt 0 3, host.queue := [{ flipA [layerA 0 1 false] with header := flipHdr 1 0 99 0 2 0 0 }] },
     { flipA [layerA 0 1 false] with header := flipHdr 1 0 99 0 2 0 0 }, layerA 0 1 false, by decide +kernel⟩,
   ⟨flipSender 0xFF fun d => { d with time.clk.ns := gridAt 0 3, host.flying := [{ flipA [] with modeChange := true, ended := true }] },
     { flipA [] with modeChange := true, ended := true }, by decide +kernel⟩⟩

/-- The hypotheses of Obligations.FlipsInTransport, clause by clause. -/
theorem witness_FlipsInTransport :
    (∃ (s : State) (f : Flip) (rest : List Flip) (x : Nat) (c : TxPkt), (senderOn s) ∧ (s.dev.host.queue = f :: rest) ∧
      (s.dev.host.flying = []) ∧ (f.layers = []) ∧ (f.closed = false) ∧ (f.present ≤ s.dev.now + s.dev.launchLead f.mode) ∧
      (s.dev.enginesReady = true) ∧ (s.dev.swapDue = false) ∧ (((List.range 4).filter fun y => s.dev.feeds y (s.dev.launchAt
      f.mode f.present) f.present) = [x]) ∧ ((s.dev.port x).cur = some c) ∧ (x < s.dev.ports.length) ∧ (TQ_FRAME < (s.dev.port
      x).txq.length)) ∧
    (∃ (s : State) (f : Flip) (rest : List Flip) (l : LayerSt), (senderOn s) ∧ (s.dev.host.queue = f :: rest) ∧
      (s.dev.host.flying = []) ∧ (f.layers = [l]) ∧ (l.retired = false) ∧ (f.closed = false) ∧ (f.dropped = false) ∧ (l.ready
      = true ∨ eDefer l.entry = false ∨ fDefer f.header ≤ f.deferred) ∧ (l.ready = true → s.dev.layerNeeded f (layerOfEntry
      l.entry) = false) ∧ (f.present ≤ s.dev.now + s.dev.launchLead f.mode) ∧ (s.dev.enginesReady = true) ∧ (s.dev.swapDue =
      false) ∧ (((List.range 4).filter fun y => s.dev.feeds y (s.dev.launchAt f.mode f.present) f.present) = [])) ∧
    (∃ (s : State) (f : Flip) (l : LayerSt) (x : Nat) (c : TxPkt) (surface : List Byte), (senderOn s) ∧ (s.dev.host.flying =
      [f]) ∧ (f.closed = false) ∧ (f.dropped = false) ∧ (s.dev.enginesWork.engineFinds = []) ∧ (f.layers = [l]) ∧ (l.retired =
      false) ∧ (l.held = false) ∧ (isPbs (eFormat l.entry) = false) ∧ (f.ports = [x]) ∧ (s.dev.portMode x = M_FEED) ∧ (x <
      s.dev.ports.length) ∧ (TQ_FRAME < (s.dev.port x).txq.length) ∧ ((s.dev.port x).cur = some c) ∧ (s.dev.now ≤ f.present -
      2000000) ∧ (s.dev.enginesReady = true)) ∧
    (∃ (s : State) (f : Flip) (l : LayerSt), (senderOn s) ∧ (s.dev.host.flying = [f]) ∧ (f.closed = false) ∧ (f.dropped =
      false) ∧ (f.layers = [l]) ∧ (l.retired = false) ∧ (f.ports = []) ∧ (s.dev.now ≤ f.present - 2000000) ∧
      (s.dev.enginesReady = true)) ∧
    (∃ (s : State) (f : Flip) (l : LayerSt) (x : Nat) (c : TxPkt), (senderOn s) ∧ (s.dev.host.flying = [f]) ∧ (f.closed =
      false) ∧ (f.ended = false) ∧ (f.dropped = false) ∧ (f.modeChange = false) ∧ (f.layers = [l]) ∧ (l.retired = false) ∧
      (f.ports = [x]) ∧ (s.dev.portMode x = M_FEED) ∧ (x < s.dev.ports.length) ∧ (nth (s.dev.port x).txq TQ_FRAME [] = []) ∧
      (TQ_FRAME < (s.dev.port x).txq.length) ∧ ((s.dev.port x).cur = some c) ∧ (f.present - 2000000 ≤ s.dev.now)) ∧
    (∃ (s : State) (f : Flip) (x : Nat) (c : TxPkt), (senderOn s) ∧ (s.dev.host.flying = [f]) ∧ (f.closed = true) ∧ (f.ended =
      false) ∧ (f.modeChange = false) ∧ (f.layers = []) ∧ (f.ports = [x]) ∧ (s.dev.portMode x = M_FEED) ∧ (x <
      s.dev.ports.length) ∧ (0 < s.dev.waitingAt f x) ∧ ((s.dev.port x).cur = some c) ∧ (f.present - 2000000 ≤ s.dev.now)) ∧
    (∃ (s : State) (f g : Flip) (rest : List Flip), (senderOn s) ∧ (s.dev.host.queue = g :: rest) ∧ (s.dev.host.flying = [f])
      ∧ (f.ended = false) ∧ (f.closed = false ∨ ∃ x ∈ f.ports, s.dev.waitingAt f x ≠ 0)) ∧
    (∃ (s : State) (x launch present : Nat), (s.dev.get (LANE_STAT_STATE x) ≠ P_LS0 ∧ s.dev.get (LANE_STAT_STATE x) ≠
      P_RECOVER ∨ launch < nth s.dev.twin.ls0Wall x 0)) :=
  ⟨⟨flipSender 0 fun d => feeding { d with time.clk.ns := gridAt 0 3, host.queue := [flipA []], host.launchCount := 511 },
    flipA [], [], 1, .time, by decide +kernel⟩,
   ⟨flipSender 0 fun d => { d with time.clk.ns := gridAt 0 3, host.queue := [flipA [layerA 0 0 false]] }, flipA [layerA 0 0
     false], [], layerA 0 0 false, by decide +kernel⟩,
   ⟨flipSender 0 fun d => feedingTile { d with host.flying := [{ flipA [layerA 0 0 true] with launched := some 3, ports := [1] }] },
     { flipA [layerA 0 0 true] with launched := some 3, ports := [1] }, layerA 0 0 true, 1, .time, List.replicate 512 7,
     by decide +kernel⟩,
   ⟨flipSender 0 fun d => { d with host.flying := [{ flipA [layerA 0 0 true] with launched := some 3 }] },
     { flipA [layerA 0 0 true] with launched := some 3 }, layerA 0 0 true, by decide +kernel⟩,
   ⟨flipSender 0 fun d => feedingTile { d with time.clk.ns := gridAt 0 3 - 2000000, host.flying := [{ flipA [layerA 0 0 true] with launched := some 3, ports := [1] }] },
     { flipA [layerA 0 0 true] with launched := some 3, ports := [1] }, layerA 0 0 true, 1, .time, by decide +kernel⟩,
   ⟨flipSender 0 fun d => (feeding { d with time.clk.ns := gridAt 0 3 - 2000000, host.flying := [{ flipA [] with launched := some 3, ports := [1], closed := true }] }).modPort
     1 fun p => { p with blocks := 4, txq := modAt p.txq TQ_FRAME fun _ => [.bytes (mkPkt PT_BLOCK false false 3 0 0 false 0 (zeros 24)) none true, .bytes (mkPkt PT_PRESENT false false 3 0 0 false 0 (zeros 24)) none true, .bytes (mkPkt PT_PRESENT false false 2 0 0 false 0 (zeros 24)) none true] },
     { flipA [] with launched := some 3, ports := [1], closed := true }, 1, .time, by decide +kernel⟩,
   ⟨flipSender 0 fun d => feeding { d with time.clk.ns := gridAt 0 3, host.queue := [{ flipA [] with present := gridAt 0 4 }], host.flying := [{ flipA [layerA 0 0 true] with launched := some 3, ports := [1] }] },
     { flipA [layerA 0 0 true] with launched := some 3, ports := [1] }, { flipA [] with present := gridAt 0 4 }, [],
     by decide +kernel⟩,
   ⟨flipSender 0 fun d => (feeding d).set (LANE_STAT_STATE 1) P_TXONLY, 1, 500, 1000, by decide +kernel⟩⟩

/-- The hypotheses of Obligations.FramesAtTheTile, clause by clause. -/
theorem witness_FramesAtTheTile :
    (∃ (s : State) (k : RxPkt) (rest : List RxPkt) (c : Source), (tileOn s) ∧ (s.dev.rxq = k :: rest) ∧ (pktType k.bytes =
      PT_FLIP_HDR) ∧ (pktSnd k.bytes = true) ∧ (s.dev.get XPT_ADDR_VALID = 1) ∧ (s.dev.tile.sources = [c]) ∧ (c.tail = pktTail
      k.bytes ∧ c.epoch = pktEpoch k.bytes ∧ c.pri = pktPri k.bytes) ∧ (s.dev.tile.accepted = some (pktTail k.bytes)) ∧
      (s.dev.get GEN_STAT_READY = 1) ∧ (s.dev.tile.frames = []) ∧ (pktCopy k.bytes = false)) ∧
    (∃ (s : State) (k : RxPkt) (rest : List RxPkt) (f : TileFrame) (samples : List Nat), (tileOn s) ∧ (s.dev.rxq = k :: rest)
      ∧ (pktType k.bytes = PT_BLOCK) ∧ (pktSnd k.bytes = true) ∧ (s.dev.get XPT_ADDR_VALID = 1) ∧ (s.dev.tile.accepted = some
      (pktTail k.bytes)) ∧ (s.dev.tile.frames = [f]) ∧ (f.frame = pktFrame k.bytes ∧ f.past = 0) ∧ ((byteAt (pktBody k.bytes)
      8 % 16, leAt (pktBody k.bytes) 10 2, leAt (pktBody k.bytes) 12 2) ∉ f.seen) ∧ (s.dev.now ≤ f.present - 1500000) ∧
      (decodeBlock (leAt (pktBody k.bytes) 16 8) ((pktBody k.bytes).drop 24) = some samples) ∧ (s.dev.storeUsed < 2048) ∧
      (f.heldBit (byteAt (pktBody k.bytes) 8 % 16) = false)) ∧
    (∃ (s : State) (k : RxPkt) (rest : List RxPkt), (tileOn s) ∧ (s.dev.rxq = k :: rest) ∧ (pktType k.bytes = PT_BLOCK) ∧
      (pktSnd k.bytes = true) ∧ (s.dev.get XPT_ADDR_VALID = 1) ∧ (s.dev.tile.accepted = some (pktTail k.bytes)) ∧ ((match
      s.dev.frameOf (pktFrame k.bytes) with | none => true | some f => decide (f.present - 1500000 < s.dev.now) &&
      f.seen.isEmpty) = true)) ∧
    (∃ (s : State) (k : RxPkt) (rest : List RxPkt) (f : TileFrame), (tileOn s) ∧ (s.dev.rxq = k :: rest) ∧ (pktType k.bytes =
      PT_BLOCK) ∧ (pktSnd k.bytes = true) ∧ (s.dev.get XPT_ADDR_VALID = 1) ∧ (s.dev.tile.accepted = some (pktTail k.bytes)) ∧
      (s.dev.tile.frames = [f]) ∧ (f.frame = pktFrame k.bytes ∧ f.past = 0) ∧ ((byteAt (pktBody k.bytes) 8 % 16, leAt (pktBody
      k.bytes) 10 2, leAt (pktBody k.bytes) 12 2) ∉ f.seen) ∧ (s.dev.now ≤ f.present - 1500000) ∧ (decodeBlock (leAt (pktBody
      k.bytes) 16 8) ((pktBody k.bytes).drop 24) = none)) ∧
    (∃ (s : State) (k : RxPkt) (rest : List RxPkt) (f : TileFrame), (tileOn s) ∧ (s.dev.rxq = k :: rest) ∧ (pktType k.bytes =
      PT_PRESENT) ∧ (pktSnd k.bytes = true) ∧ (s.dev.get XPT_ADDR_VALID = 1) ∧ (s.dev.tile.accepted = some (pktTail k.bytes))
      ∧ (s.dev.tile.frames = [f]) ∧ (f.frame = pktFrame k.bytes ∧ f.past = 0) ∧ (f.close = none) ∧ (s.dev.now ≤ f.present -
      1500000)) ∧
    (∃ (s : State) (k : RxPkt) (rest : List RxPkt), (tileOn s) ∧ (s.dev.rxq = k :: rest) ∧ (pktType k.bytes = PT_BLOCK ∨
      pktType k.bytes = PT_PRESENT) ∧ (s.dev.get XPT_ADDR_VALID = 0)) ∧
    (∃ (s : State) (f : TileFrame), (tileOn s) ∧ (s.dev.tile.frames = [f]) ∧ (f.judged = false) ∧ (f.fail = none) ∧ (byteAt
      f.header 1 = 0) ∧ (f.present - 1500000 ≤ s.dev.now)) ∧
    (∃ (s : State) (f : TileFrame) (n : Nat), (tileOn s) ∧ (s.dev.tile.frames = [f]) ∧ (f.judged = true) ∧ (f.composed =
      false) ∧ (f.fail = none) ∧ (byteAt f.header 1 = 0) ∧ (s.dev.enginesReady = true) ∧ (s.dev.now < f.present - 10000) ∧
      (f.guardOn = false) ∧ (f.coef = none) ∧ (f.corCtrl = 0) ∧ ((footprintOf f.foot.1 f.foot.2).mono = false) ∧
      (s.dev.parity.armed = none ∧ ∀ e ∈ s.dev.parity.bad, e.mem = 3) ∧ (n < 49152)) ∧
    (∃ (s : State) (f : TileFrame) (rest : List TileFrame), (tileOn s) ∧ (s.dev.tile.frames = f :: rest) ∧ (∀ g ∈ rest, g.same
      f = false) ∧ (f.judged = true) ∧ (f.composed = false) ∧ (f.fail = none) ∧ (f.present - 10000 ≤ s.dev.now)) :=
  ⟨⟨addressed fun d => { d with tile.sources := [{ epoch := 0, pri := false, tail := false, lastTime := none }], tile.accepted := some false, tile.lastHdr := some 3, rxq := [⟨0, mkPkt PT_FLIP_HDR false false 6 4096 0 false 0 (zeros 32), 0⟩] }.set
    GEN_STAT_READY 1, ⟨0, mkPkt PT_FLIP_HDR false false 6 4096 0 false 0 (zeros 32), 0⟩, [],
    { epoch := 0, pri := false, tail := false, lastTime := none }, by decide +kernel⟩,
   ⟨addressed fun d => { d with tile.accepted := some false, tile.frames := [{ frameA with judged := false }], rxq := [⟨0, mkPkt PT_BLOCK false false 9 4096 0 false 0 (zeros 8 ++ leBytes 3 1 ++ zeros 1 ++ leBytes 1 2 ++ leBytes 2 2 ++ zeros 2 ++ leBytes 0x1234561 8), 0⟩] },
     ⟨0, mkPkt PT_BLOCK false false 9 4096 0 false 0 (zeros 8 ++ leBytes 3 1 ++ zeros 1 ++ leBytes 1 2 ++ leBytes 2 2 ++ zeros
     2 ++ leBytes 0x1234561 8), 0⟩, [], { frameA with judged := false }, (decodeBlock 0x1234561 []).getD [], by decide +kernel⟩,
   ⟨addressed fun d => { d with tile.accepted := some false, tile.done := [4], rxq := [⟨0, mkPkt PT_BLOCK false false 4 4096 0 false 0 (zeros 24), 0⟩] },
     ⟨0, mkPkt PT_BLOCK false false 4 4096 0 false 0 (zeros 24), 0⟩, [], by decide +kernel⟩,
   ⟨addressed fun d => { d with tile.accepted := some false, tile.frames := [{ frameA with judged := false }], rxq := [⟨0, mkPkt PT_BLOCK false false 9 4096 0 false 0 (zeros 8 ++ leBytes 3 1 ++ zeros 1 ++ leBytes 1 2 ++ leBytes 2 2 ++ zeros 2 ++ leBytes 0x12 8), 0⟩] },
     ⟨0, mkPkt PT_BLOCK false false 9 4096 0 false 0 (zeros 8 ++ leBytes 3 1 ++ zeros 1 ++ leBytes 1 2 ++ leBytes 2 2 ++ zeros
     2 ++ leBytes 0x12 8), 0⟩, [], { frameA with judged := false }, by decide +kernel⟩,
   ⟨addressed fun d => { d with tile.accepted := some false, tile.frames := [{ frameA with judged := false }], rxq := [⟨0, mkPkt PT_PRESENT false false 9 4096 0 false 0 (zeros 12 ++ leBytes 0x8001 2 ++ [1, 0] ++ zeros 8), 0⟩] },
     ⟨0, mkPkt PT_PRESENT false false 9 4096 0 false 0 (zeros 12 ++ leBytes 0x8001 2 ++ [1, 0] ++ zeros 8), 0⟩, [],
     { frameA with judged := false }, by decide +kernel⟩,
   ⟨tileAt fun d => { d with tile.accepted := some false, tile.frames := [{ frameA with judged := false }], rxq := [⟨0, mkPkt PT_PRESENT false false 9 4096 0 false 0 (zeros 24), 0⟩] },
     ⟨0, mkPkt PT_PRESENT false false 9 4096 0 false 0 (zeros 24), 0⟩, [], by decide +kernel⟩,
   ⟨tileAt fun d => { d with time.clk.ns := gridAt 0 1, tile.frames := [{ frameA with judged := false, composed := false }] },
     { frameA with judged := false, composed := false }, by decide +kernel⟩,
   ⟨tileAt fun d => { d with time.clk.ns := 40000000, parity.bad := [⟨3, 0, 4, .lamp 3 false⟩, ⟨3, 0, 5, .lamp 4 true⟩], tile.frames := [{ frameA with composed := false, header := zeros 16 ++ leBytes 0x123456789 8 ++ zeros 8, foot := (0, 1) }] }.set
     CMP_CTRL_GUARD_EN 0, { frameA with composed := false, header := zeros 16 ++ leBytes 0x123456789 8 ++ zeros 8, foot := (0, 1) },
     5000, by decide +kernel⟩,
   ⟨tileAt fun d => { d with time.clk.ns := gridAt 0 1 - 10000, tile.frames := [{ frameA with composed := false }] },
     { frameA with composed := false }, [], by decide +kernel⟩⟩

/-- The hypotheses of Obligations.TwinLink, clause by clause. -/
theorem witness_TwinLink :
    (∃ (s : State), (senderOn s) ∧ (s.dev.boot.started = false)) ∧
    (∃ (s : State), (senderOn s) ∧ (s.dev.boot.started = true) ∧ (s.dev.twin.lastSent + 247500 ≤ s.dev.time.clk.ticks) ∧
      (s.dev.twin.req ≠ 4)) ∧
    (∃ (s : State) (m : List Byte), (senderOn s) ∧ (s.dev.twin.en = true) ∧ (twinOk m 1 76 = true) ∧ (byteAt m 10 % 16 ≠
      s.dev.get XPT_CTRL_PAIR)) ∧
    (∃ (s : State) (m : List Byte), (senderOn s) ∧ (s.dev.twin.en = true) ∧ (twinOk m 1 76 = true) ∧ (byteAt m 10 % 16 =
      s.dev.get XPT_CTRL_PAIR) ∧ (s.dev.get TWIN_STAT_STATE = W_ACTIVE) ∧ (s.dev.get TWIN_STAT_SYNCED = 0) ∧ (byteAt m 3 = 0)
      ∧ (s.dev.twin.req = 0) ∧ (s.dev.twin.swap = none)) ∧
    (∃ (s : State), (senderOn s) ∧ (s.dev.get TWIN_STAT_YOYO_OK = 1) ∧ (s.dev.twin.lastYoyo + 625000 ≤ s.dev.time.clk.ticks) ∧
      (s.dev.get TWIN_STAT_STATE = W_ACTIVE) ∧ (s.dev.get TWIN_STAT_SYNCED = 0) ∧ (s.dev.twin.swap = none) ∧ (s.dev.mbxFull 6
      = false)) ∧
    (∃ (s : State), (senderOn s) ∧ (s.dev.get TWIN_STAT_YOYO_OK = 0) ∧ (3 ≤ s.dev.twin.yoyoRun) ∧ (s.dev.time.clk.ticks <
      s.dev.twin.lastYoyo + 625000) ∧ (s.dev.get TWIN_STAT_STATE = W_ACTIVE) ∧ (s.dev.get TWIN_STAT_SYNCED = 0)) ∧
    (∃ (s : State) (x : Port) (c : TxPkt), (senderOn s) ∧ (s.dev.portMode x ≠ M_LISTEN) ∧ ((s.dev.port x).lastHbSent + 247500
      ≤ s.dev.time.clk.ticks) ∧ ((s.dev.port x).cur = some c)) ∧
    (∃ (s : State) (k : RxPkt) (rest : List RxPkt), (senderOn s) ∧ (s.dev.rxq = k :: rest) ∧ (pktType k.bytes = PT_HEARTBEAT)) ∧
    (∃ (s : State) (x : Port), (senderOn s) ∧ (s.dev.twin.en = true) ∧ (s.dev.get TWIN_STAT_STATE = W_STANDBY) ∧ (s.dev.get
      TWIN_STAT_YOYO_OK = 0) ∧ (s.dev.get TWIN_STAT_SYNCED = 0) ∧ (∀ y : Port, s.dev.hbAbsent y = true ∧ s.dev.get
      (LANE_STAT_STATE y) = P_DOWN) ∧ (s.dev.epochMax < 2 ^ 32 - 1)) ∧
    (∃ (s : State) (x : Port), (senderOn s) ∧ (s.dev.twin.en = true) ∧ (s.dev.get TWIN_STAT_STATE = W_STANDBY) ∧ (s.dev.get
      TWIN_STAT_YOYO_OK = 1) ∧ (s.dev.hbAbsent x = true) ∧ (s.dev.portMode x = M_LISTEN) ∧ (s.dev.get (LANE_STAT_RX_UP x) = 1)
      ∧ (s.dev.get (LANE_STAT_STATE x) = P_LISTEN)) ∧
    (∃ (s : State) (x : Port) (h a : Nat), (senderOn s) ∧ (s.dev.get TWIN_STAT_STATE = W_STANDBY) ∧ (s.dev.portMode x =
      M_FEED) ∧ (nth s.dev.twin.lastHb x none = some h) ∧ (nth s.dev.twin.hbSince x none = some a) ∧ (s.dev.time.clk.ticks < h
      + 625000) ∧ (a + 25000000 ≤ s.dev.time.clk.ticks)) ∧
    (∃ (s : State) (r : Nat), (senderOn s) ∧ (s.dev.twin.en = true) ∧ (s.dev.boot.started = true) ∧ (s.dev.get TWIN_STAT_STATE
      = W_INIT) ∧ (s.dev.get TWIN_STAT_SYNCED = 0) ∧ (s.dev.twin.readyAt = some r) ∧ (max r s.dev.twin.since + 25000000 ≤
      s.dev.time.clk.ticks) ∧ (s.dev.get TWIN_STAT_YOYO_OK = 0) ∧ (s.dev.twin.wits = []) ∧ (s.dev.epochMax < 2 ^ 32 - 1) ∧ (∀
      y : Port, s.dev.portMode y = M_FEED)) ∧
    (∃ (s : State) (r : Nat) (m : List Byte), (senderOn s) ∧ (s.dev.twin.en = true) ∧ (s.dev.boot.started = true) ∧ (s.dev.get
      TWIN_STAT_STATE = W_INIT) ∧ (s.dev.get TWIN_STAT_SYNCED = 0) ∧ (s.dev.twin.readyAt = some r) ∧ (max r s.dev.twin.since +
      25000000 ≤ s.dev.time.clk.ticks) ∧ (s.dev.get TWIN_STAT_YOYO_OK = 1) ∧ (s.dev.twin.peer = some m) ∧ (byteAt m 1 % 4 =
      W_ACTIVE) ∧ (s.dev.twin.wits = []) ∧ (∀ y : Port, s.dev.portMode y = M_LISTEN)) ∧
    (∃ (s : State), (senderOn s) ∧ (s.dev.twin.en = false) ∧ (s.dev.boot.started = true) ∧ (s.dev.get TWIN_STAT_STATE =
      W_INIT) ∧ (s.dev.get TWIN_STAT_SYNCED = 0) ∧ (s.dev.epochMax < 2 ^ 32 - 1)) ∧
    (∃ (s : State), (senderOn s) ∧ (s.dev.get TWIN_STAT_STATE = W_ACTIVE) ∧ (s.dev.get TWIN_STAT_SYNCED = 0) ∧ (s.dev.demotes
      = true)) ∧
    (∃ (s : State) (k : RxPkt) (rest : List RxPkt), (senderOn s) ∧ (s.dev.rxq = k :: rest) ∧ (pktType k.bytes = PT_FLIP_HDR) ∧
      (s.dev.get TWIN_STAT_STATE = W_STANDBY) ∧ (s.dev.get TWIN_STAT_YOYO_OK = 0) ∧ (s.dev.get TWIN_STAT_SYNCED = 0) ∧
      (s.dev.twin.lastPeerFrame ≠ some (pktFrame k.bytes))) ∧
    (∃ (s : State) (c : Source) (h : Nat), (tileOn s) ∧ (s.dev.tile.accepted = some c.tail) ∧ (s.dev.tile.sources = [c]) ∧
      (c.lastTime = some h) ∧ (h + 750000 ≤ s.dev.time.clk.ticks)) :=
  ⟨⟨twinSender W_ACTIVE M_FEED id, by decide +kernel⟩,
   ⟨twinSender W_ACTIVE M_FEED fun d => { d with boot.started := true }, by decide +kernel⟩,
   ⟨twinSender W_ACTIVE M_FEED id, yoyoA 1 0 5 3, by decide +kernel⟩,
   ⟨twinSender W_ACTIVE M_FEED fun d => d.set XPT_CTRL_PAIR 3, yoyoA 1 0 5 3, by decide +kernel⟩,
   ⟨twinSender W_ACTIVE M_FEED fun d => d.setAll [(TWIN_STAT_YOYO_OK, 1), (HIF_VEC_EN IRQ_TWIN, 1)], by decide +kernel⟩,
   ⟨twinSender W_ACTIVE M_FEED fun d => { d with twin.yoyoRun := 3, twin.lastYoyo := 999999999 }, by decide +kernel⟩,
   ⟨twinSender W_ACTIVE M_FEED fun d => d.modPort 2 fun p => { p with cur := some .time }, 2, .time, by decide +kernel⟩,
   ⟨twinSender W_STANDBY M_LISTEN fun d => { d with rxq := [rxOf 2 PT_HEARTBEAT 4096 0 (zeros 16)] }, rxOf 2 PT_HEARTBEAT 4096
     0 (zeros 16), [], by decide +kernel⟩,
   ⟨twinSender W_STANDBY M_LISTEN fun d => d.setAll [(TWIN_PEER_EPOCH_EPOCH, 41), (LANE_CTRL_TXIDLE 0, 1), (LANE_STAT_STATE 0,
     0), (LANE_STAT_STATE 1, 0), (LANE_STAT_STATE 2, 0), (LANE_STAT_STATE 3, 0), (HIF_VEC_EN IRQ_TWIN, 1)], 2,
     by decide +kernel⟩,
   ⟨twinSender W_STANDBY M_LISTEN fun d => d.setAll [(TWIN_STAT_YOYO_OK, 1), (LANE_STAT_RX_UP 2, 1), (LANE_STAT_STATE 2,
     P_LISTEN), (LANE_CTRL_TXIDLE 2, 1)], 2, by decide +kernel⟩,
   ⟨twinSender W_STANDBY M_FEED fun d => { d with twin.lastHb := [none, none, some 999999000, none], twin.hbSince := [none, none, some 900000000, none] }.set
     (LANE_STAT_STATE 2) P_LS0, 2, 999999000, 900000000, by decide +kernel⟩,
   ⟨twinSender W_INIT M_FEED fun d => { d with boot.started := true, twin.readyAt := some 5 }, 5, by decide +kernel⟩,
   ⟨twinSender W_INIT M_LISTEN fun d => { d with boot.started := true, twin.readyAt := some 5, twin.peer := some (yoyoA 2 0 5 0) }.set
     TWIN_STAT_YOYO_OK 1, 5, yoyoA 2 0 5 0, by decide +kernel⟩,
   ⟨withDev (twinSender W_INIT M_LISTEN fun d => { d with boot.started := true }) fun d => { d with twin.en := false },
     by decide +kernel⟩,
   ⟨twinSender W_ACTIVE M_FEED fun d => { d with twin.wits := [witA 1 9 true 1000000000] }.setAll [(LANE_STAT_STATE 1, P_LS0),
     (XPT_CHAIN_END 1, 0)], by decide +kernel⟩,
   ⟨twinSender W_STANDBY M_LISTEN fun d => { d with rxq := [rxOf 2 PT_FLIP_HDR 4096 0 (zeros 32)] }, rxOf 2 PT_FLIP_HDR 4096 0
     (zeros 32), [], by decide +kernel⟩,
   ⟨tileAt fun d => { d with time.clk.ticks := 750005, tile.sources := [{ epoch := 9, pri := true, tail := true, lastTime := some 5 }], tile.accepted := some true },
     { epoch := 9, pri := true, tail := true, lastTime := some 5 }, 5, by decide +kernel⟩⟩

/-- The hypotheses of Obligations.TwinSwapAndPresence, clause by clause. -/
theorem witness_TwinSwapAndPresence :
    (∃ (s : State) (i : Nat) (desc : List Byte), (Waits (.ring i) desc s = true) ∧ (s.dev.firmware = true) ∧ (dOpcode desc =
      0x0400) ∧ (s.dev.twin.en = false ∨ s.dev.get TWIN_STAT_STATE ≠ W_STANDBY ∨ s.dev.get TWIN_STAT_SYNCED = 0)) ∧
    (∃ (s : State) (i : Nat) (desc : List Byte), (Waits (.ring i) desc s = true) ∧ (s.dev.firmware = true) ∧ (dOpcode desc =
      0x0400) ∧ (s.dev.twin.en = true) ∧ (s.dev.get TWIN_STAT_STATE = W_STANDBY) ∧ (s.dev.get TWIN_STAT_SYNCED = 1) ∧
      (s.dev.twin.swap = none) ∧ (0 < (dData desc 2 % 65536 * 2 ^ 32 + dData desc 1) * 1000000000 + dData desc 0 % 2 ^ 30) ∧
      (s.dev.now + 200000000 + s.dev.swapLead ≤ (dData desc 2 % 65536 * 2 ^ 32 + dData desc 1) * 1000000000 + dData desc 0 % 2
      ^ 30)) ∧
    (∃ (s : State) (i : Nat) (desc : List Byte), (Waits (.ring i) desc s = true) ∧ (s.dev.firmware = true) ∧ (dOpcode desc =
      0x0400) ∧ (s.dev.twin.en = true) ∧ (s.dev.get TWIN_STAT_STATE = W_STANDBY) ∧ (s.dev.get TWIN_STAT_SYNCED = 1) ∧
      (s.dev.twin.swap = none) ∧ (s.dev.get RING_FLIP_MODE_CUR ≠ 0xFF) ∧ ((dData desc 2 % 65536 * 2 ^ 32 + dData desc 1) *
      1000000000 + dData desc 0 % 2 ^ 30 < s.dev.now + 200000000 + s.dev.swapLead)) ∧
    (∃ (s : State) (i : Nat) (desc : List Byte), (Waits (.ring i) desc s = true) ∧ (s.dev.firmware = true) ∧ (dOpcode desc =
      0x0400) ∧ (s.dev.twin.en = true) ∧ (s.dev.get TWIN_STAT_STATE = W_STANDBY) ∧ (s.dev.get TWIN_STAT_SYNCED = 1) ∧
      (s.dev.twin.swap.isSome = true)) ∧
    (∃ (s : State) (desc : List Byte), (Waits .remote desc s = true) ∧ (s.dev.firmware = true) ∧ (dOpcode desc = 0x0400)) ∧
    (∃ (s : State) (a : Nat), (senderOn s) ∧ (s.dev.twin.en = true) ∧ (s.dev.get TWIN_STAT_STATE = W_STANDBY) ∧ (s.dev.get
      TWIN_CTRL_PREFERRED = 1) ∧ (s.dev.get TWIN_STAT_SYNCED = 1) ∧ (s.dev.twin.swap = none) ∧ (s.dev.twin.syncedSince = some
      a) ∧ (max a s.dev.twin.retryAt + 250000000 * s.dev.get TWIN_CTRL_HOLD_S ≤ s.dev.time.clk.ticks) ∧ (s.dev.get
      RING_FLIP_MODE_CUR ≠ 0xFF)) ∧
    (∃ (s : State) (w : Swap), (senderOn s) ∧ (s.dev.twin.swap = some w) ∧ (w.mine = true ∧ w.acked = true ∧ w.checked = false
      ∧ w.done = false) ∧ (w.ps ≤ s.dev.now + s.dev.swapLead + 50000000) ∧ (∀ x : Port, s.dev.portMode x = M_PRIME → s.dev.get
      (LANE_STAT_STATE x) = P_LS0 ∧ (s.dev.survey x).complete = true)) ∧
    (∃ (s : State) (w : Swap) (x : Port), (senderOn s) ∧ (s.dev.twin.swap = some w) ∧ (w.mine = true ∧ w.acked = true ∧
      w.checked = false ∧ w.done = false) ∧ (w.index = none) ∧ (w.ps ≤ s.dev.now + s.dev.swapLead + 50000000) ∧ (∀ y : Port,
      s.dev.portMode y = M_PRIME ↔ y = x) ∧ (s.dev.get (LANE_STAT_STATE x) ≠ P_LS0) ∧ ((s.dev.survey x).complete = true)) ∧
    (∃ (s : State) (w : Swap), (senderOn s) ∧ (s.dev.twin.swap = some w) ∧ (w.done = false) ∧ (w.acked = true) ∧ (w.mine =
      true) ∧ (w.checked = true ∨ s.dev.swapFaults = (0, 0)) ∧ (w.ps ≤ s.dev.now + s.dev.swapLead) ∧ (s.dev.get
      TWIN_STAT_STATE = W_STANDBY) ∧ (s.dev.epochMax < 2 ^ 32 - 1)) ∧
    (∃ (s : State) (w : Swap), (senderOn s) ∧ (s.dev.twin.swap = some w) ∧ (w.done = false) ∧ (w.acked = true) ∧ (w.mine =
      false) ∧ (w.checked = true ∨ s.dev.swapFaults = (0, 0)) ∧ (w.ps ≤ s.dev.now + s.dev.swapLead) ∧ (s.dev.get
      TWIN_STAT_STATE = W_ACTIVE)) ∧
    (∃ (s : State) (w : Swap), (senderOn s) ∧ (s.dev.twin.swap = some w) ∧ (w.done = false) ∧ (w.acked = true) ∧ (w.index =
      none) ∧ (w.checked = false) ∧ (s.dev.swapFaults ≠ (0, 0)) ∧ (w.ps ≤ s.dev.now + s.dev.swapLead)) ∧
    (∃ (s : State) (x : Port) (a : Nat), (senderOn s) ∧ (s.dev.get TWIN_STAT_STATE = W_STANDBY) ∧ (s.dev.portMode x = M_PRIME)
      ∧ (s.dev.twin.swap = none) ∧ (nth s.dev.twin.namedSince x none = some a) ∧ (a + 500000 ≤ s.dev.time.clk.ticks)) ∧
    (∃ (s : State) (w : Swap) (i : Nat) (desc : List Byte), (senderOn s) ∧ (s.dev.twin.swap = some w) ∧ (w.done = true) ∧
      (w.ps ≤ s.dev.now) ∧ (w.index = some i) ∧ (s.dev.host.descs = [{ fetchedCmd i desc with phase := .started }]) ∧ (dNoCpl
      desc = false) ∧ (s.dev.host.out = [])) ∧
    (∃ (s : State) (x : Port) (q : Fin 64) (a : Nat), (senderOn s) ∧ (s.dev.staleBit x q = false) ∧ (s.dev.invBit x q ≠
      s.dev.reach x q) ∧ ((x.val, q.val, a) ∈ s.dev.twin.stale) ∧ (a + 25000000 ≤ s.dev.time.clk.ticks)) :=
  ⟨⟨cmdAtSender 5 (descOf 0x400 2 7 0 []) id, 5, descOf 0x400 2 7 0 [], by decide +kernel⟩,
   ⟨cmdAtSender 5 (descOf 0x400 2 7 0 (zeros 14 ++ leBytes 77 4 ++ leBytes 3 4)) fun d => { d with twin.en := true }.setAll
     [(TWIN_STAT_STATE, W_STANDBY), (TWIN_STAT_SYNCED, 1)], 5, descOf 0x400 2 7 0 (zeros 14 ++ leBytes 77 4 ++ leBytes 3 4),
     by decide +kernel⟩,
   ⟨cmdAtSender 5 (descOf 0x400 2 7 0 []) fun d => { d with twin.en := true }.setAll [(TWIN_STAT_STATE, W_STANDBY),
     (TWIN_STAT_SYNCED, 1), (RING_FLIP_MODE_CUR, 9)], 5, descOf 0x400 2 7 0 [], by decide +kernel⟩,
   ⟨cmdAtSender 5 (descOf 0x400 2 7 0 []) fun d =>
     { d with twin.en := true, twin.swap := some ⟨30000000, true, true, false, false, none⟩ }.setAll [(TWIN_STAT_STATE,
     W_STANDBY), (TWIN_STAT_SYNCED, 1)], 5, descOf 0x400 2 7 0 [], by decide +kernel⟩,
   ⟨cmdAtTile (descOf 0x400 0 7 77 []) id, (descOf 0x400 0 7 77 []).take 60, by decide +kernel⟩,
   ⟨twinSender W_STANDBY M_LISTEN fun d => { d with twin.syncedSince := some 0 }.setAll [(TWIN_CTRL_PREFERRED, 1),
     (TWIN_STAT_SYNCED, 1), (TWIN_CTRL_HOLD_S, 4), (RING_FLIP_MODE_CUR, 9)], 0, by decide +kernel⟩,
   ⟨twinSender W_STANDBY M_LISTEN fun d => { d with twin.swap := some ⟨30000000, true, true, false, false, none⟩ }, ⟨30000000,
     true, true, false, false, none⟩, by decide +kernel⟩,
   ⟨twinSender W_STANDBY M_LISTEN fun d =>
     { d with twin.swap := some ⟨30000000, true, true, false, false, none⟩, time.surveys := modAt d.time.surveys 2 fun v => { v with complete := true } }.setAll
     [(TWIN_STAT_MODES, 16), (LANE_STAT_STATE 2, P_TRAIN)], ⟨30000000, true, true, false, false, none⟩, 2, by decide +kernel⟩,
   ⟨twinSender W_STANDBY M_PRIME fun d => { d with twin.swap := some ⟨3000000, true, true, true, false, none⟩ }, ⟨3000000,
     true, true, true, false, none⟩, by decide +kernel⟩,
   ⟨twinSender W_ACTIVE M_FEED fun d => { d with twin.swap := some ⟨3000000, false, true, true, false, none⟩ }, ⟨3000000,
     false, true, true, false, none⟩, by decide +kernel⟩,
   ⟨twinSender W_STANDBY M_PRIME fun d => { d with twin.swap := some ⟨3000000, true, true, false, false, none⟩ }, ⟨3000000,
     true, true, false, false, none⟩, by decide +kernel⟩,
   ⟨twinSender W_STANDBY M_PRIME fun d => { d with twin.namedSince := [none, none, some 7, none] }, 2, 7, by decide +kernel⟩,
   ⟨twinSender W_ACTIVE M_FEED fun d => { d with twin.swap := some ⟨0, true, true, true, true, some 5⟩, host.descs := [{ fetchedCmd 5 (descOf 0x400 2 7 0 []) with phase := .started }] }.set
     TWIN_EPOCH_EPOCH 8, ⟨0, true, true, true, true, some 5⟩, 5, descOf 0x400 2 7 0 [], by decide +kernel⟩,
   ⟨twinSender W_ACTIVE M_FEED fun d => { d with twin.stale := [(1, 40, 7)] }.setAll [(TWIN_INV_HI_MAP 1, 256)], 1, 40, 7,
     by decide +kernel⟩⟩

/-- The hypotheses of Obligations.CalibrationStartsAndStops, clause by clause. -/
theorem witness_CalibrationStartsAndStops :
    (∃ (s : State) (ref : CmdRef) (desc : List Byte) (cond : CalConditions), (Waits ref desc s = true) ∧ (s.dev.firmware =
      true) ∧ (dOpcode desc = 0x0500)) ∧
    (∃ (s : State) (ref : CmdRef) (desc : List Byte) (cond : CalConditions), (Waits ref desc s = true) ∧ (s.dev.firmware =
      true) ∧ (dOpcode desc = 0x0500) ∧ (dData desc 0 % 4 = 0) ∧ (s.straps.role = .tile) ∧ (s.dev.cal.step = none) ∧
      (cond.rowActive = false ∧ cond.columnCurrent = false ∧ cond.driveReset = false) ∧ (s.dev.vledAbsent = false ∧
      s.dev.aon.vdrv = true) ∧ (if natBit (dData desc 0) 4 = true then s.dev.effGet GRY_SCAN_DIAG_EN = 1 else s.dev.get
      LDRV_CTRL_DRIVE_EN = 0)) ∧
    (∃ (s : State) (ref : CmdRef) (desc : List Byte) (cond : CalConditions), (Waits ref desc s = true) ∧ (s.dev.firmware =
      true) ∧ (dOpcode desc = 0x0500) ∧ (dData desc 0 % 4 = 1) ∧ (s.straps.role = .tile) ∧ (s.dev.cal.step = none) ∧
      (cond.driveReset = false ∧ s.dev.aon.vdrv = true)) ∧
    (∃ (s : State) (ref : CmdRef) (desc : List Byte) (cond : CalConditions), (Waits ref desc s = true) ∧ (s.dev.firmware =
      true) ∧ (dOpcode desc = 0x0500) ∧ (dData desc 0 % 4 = 2) ∧ (s.dev.cal.step = none) ∧ (s.dev.drivenLately = false ∧
      cond.notStable = false)) ∧
    (∃ (s : State) (ref : CmdRef) (desc : List Byte) (cond : CalConditions), (Waits ref desc s = true) ∧ (s.dev.firmware =
      true) ∧ (dOpcode desc = 0x0500) ∧ (dData desc 0 % 4 = 3) ∧ (s.dev.cal.step = none) ∧ (s.straps.role = .tile → dData desc
      0 / 256 % 4 < 2) ∧ (s.dev.pstate (dData desc 0 / 256 % 4) = P_TRAIN ∨ s.dev.pstate (dData desc 0 / 256 % 4) = P_LS1)) ∧
    (∃ (s : State) (ref : CmdRef) (desc : List Byte), (Waits ref desc s = true) ∧ (s.dev.firmware = true) ∧ (dOpcode desc =
      0x0501) ∧ (s.dev.cal.step = none)) ∧
    (∃ (s : State) (ref : CmdRef) (desc : List Byte), (Waits ref desc s = true) ∧ (s.dev.firmware = true) ∧ (dOpcode desc =
      0x0502) ∧ (s.dev.nvm.cal.length = 2)) ∧
    (∃ (s : State) (cells : List Nat) (cond : CalConditions) (c : CalStep) (i : Nat), (tileOn s) ∧ (s.dev.cal.step = some c) ∧
      (c.item = 0 ∧ c.inService = true) ∧ (c.slots.length < 72 * s.dev.get CAL_CTRL_RUNS) ∧ (s.dev.tile.drive.open_ = true ∧
      s.dev.tile.drive.slot = i + 1 ∧ s.dev.tile.drive.driving = true) ∧ (s.dev.pinSlot s.dev.tile.drive.k i = false) ∧
      (cond.rowActive = false ∧ cond.columnCurrent = false ∧ cond.driveReset = false ∧ s.dev.vledAbsent = false ∧
      s.dev.aon.vdrv = true) ∧ (s.dev.effGet GRY_SCAN_DIAG_EN = 1)) :=
  ⟨⟨cmdAtTile (calDesc 0 0) id, .remote, (calDesc 0 0).take 60, calmA, by decide +kernel⟩,
   ⟨cmdAtTile (calDesc 0 0) vledOn, .remote, (calDesc 0 0).take 60, calmA, by decide +kernel⟩,
   ⟨cmdAtTile (calDesc 0 1) id, .remote, (calDesc 0 1).take 60, calmA, by decide +kernel⟩,
   ⟨cmdAtTile (calDesc 0 2) id, .remote, (calDesc 0 2).take 60, calmA, by decide +kernel⟩,
   ⟨cmdAtTile (calDesc 0 3) fun d => d.set (LANE_STAT_STATE 0) P_LS1, .remote, (calDesc 0 3).take 60, calmA, by decide +kernel⟩,
   ⟨cmdAtSender 5 (descOf 0x501 2 7 0 []) id, .ring 5, descOf 0x501 2 7 0 [], by decide +kernel⟩,
   ⟨cmdAtSender 5 (descOf 0x502 2 7 0 []) id, .ring 5, descOf 0x502 2 7 0 [], by decide +kernel⟩,
   ⟨withDev (tileTesting 5 3) fun d => { d with tile.eff := [], cal.step := some { calStepA with item := 0, inService := true } },
     [1, 2, 3], calmA, { calStepA with item := 0, inService := true }, 3, by decide +kernel⟩⟩

/-- The hypotheses of Obligations.OneStepAtATime, clause by clause. -/
theorem witness_OneStepAtATime :
    (∃ (s : State) (ref : CmdRef) (desc : List Byte) (cond : CalConditions) (c : CalStep), (Waits ref desc s = true) ∧
      (s.dev.firmware = true) ∧ (dOpcode desc = 0x0500) ∧ (if s.straps.role = .tile then dData desc 0 % 4 ≠ 3 ∨ dData desc 0 /
      256 % 4 < 2 else 2 ≤ dData desc 0 % 4) ∧ (s.dev.cal.step = some c)) ∧
    (∃ (s : State) (i j : Nat) (desc run : List Byte) (c : CalStep), (senderOn s) ∧ (s.dev.firmware = true) ∧
      (s.dev.host.descs = [{ fetchedCmd j run with phase := .started }, fetchedCmd i desc]) ∧ (s.dev.host.out = []) ∧ (dOpcode
      desc = 0x0501 ∧ dLocal desc = true ∧ dNoCpl desc = false ∧ dFence desc = false) ∧ (dNoCpl run = false) ∧ (i ≠ j) ∧
      (s.dev.cal.step = some c) ∧ (c.waiter = some (.ring j)) ∧ (c.item < 4)) ∧
    (∃ (s : State) (k r : RxPkt × Nat × Nat) (c : CalStep), (tileOn s) ∧ (s.dev.firmware = true) ∧ (s.dev.tile.cmds = [k]) ∧
      (s.dev.tile.running = [r]) ∧ (s.dev.tile.bulks = []) ∧ (k.1 ≠ r.1) ∧ (dOpcode (cmdDesc k.1.bytes) = 0x0501) ∧
      (s.dev.cal.step = some c) ∧ (c.waiter = some (.remote r.1)) ∧ (c.item < 4) ∧ (canAnswer s.dev r.1.bytes = true) ∧
      (canAnswer s.dev k.1.bytes = true)) :=
  ⟨⟨cmdAtTile (calDesc 0 1) fun d => { d with cal.step := some { calStepA with item := 2 } }, .remote, (calDesc 0 1).take 60,
    calmA, { calStepA with item := 2 }, by decide +kernel⟩,
   ⟨withDev (cmdAtSender 5 (descOf 0x501 2 7 0 []) id) fun d =>
     { d with cal.step := some { calStepA with waiter := some (.ring 4) }, host.descs := { fetchedCmd 4 (calDesc 2 2) with phase := .started } :: d.host.descs },
     5, 4, descOf 0x501 2 7 0 [], calDesc 2 2, { calStepA with waiter := some (.ring 4) }, by decide +kernel⟩,
   ⟨withDev (cmdAtTile (descOf 0x501 0 7 77 []) id) fun d =>
     { d with cal.step := some { calStepA with waiter := some (.remote (cmdPkt (calDesc 0 2))) }, tile.running := [(cmdPkt (calDesc 0 2), 0, 0)] },
     (cmdPkt (descOf 0x501 0 7 77 []), 0, 0), (cmdPkt (calDesc 0 2), 0, 0),
     { calStepA with waiter := some (.remote (cmdPkt (calDesc 0 2))) }, by decide +kernel⟩⟩

/-- The hypotheses of Obligations.CalibrationEnds, clause by clause. -/
theorem witness_CalibrationEnds :
    (∃ (s : State) (readings : CalReadings) (cond : CalConditions) (commits : Bool), (deviceOn s) ∧ (s.dev.cal.step = none)) ∧
    (∃ (s : State) (a : List (List (Nat × Nat))) (cond : CalConditions) (commits : Bool), (tileOn s) ∧ (s.dev.cal.step = some
      { calIdle with item := 1 }) ∧ (cond.driveReset = false ∧ s.dev.aon.vdrv = true) ∧ (a.length = s.dev.get CAL_CTRL_RUNS) ∧
      (s.dev.nvm.cal.length = 2) ∧ (adcAgree a = true)) ∧
    (∃ (s : State) (l : List (List (List (Nat × Nat)))) (cond : CalConditions) (commits : Bool), (tileOn s) ∧ (s.dev.cal.step
      = some { calIdle with item := 1 }) ∧ (cond.driveReset = false ∧ s.dev.aon.vdrv = true) ∧ (l.length = s.dev.get
      CAL_CTRL_RETRY + 1) ∧ (l.all (fun a => a.length == s.dev.get CAL_CTRL_RUNS) = true) ∧ (l.any adcAgree = false)) ∧
    (∃ (s : State) (readings : CalReadings) (cond : CalConditions) (commits : Bool), (tileOn s) ∧ (s.dev.cal.step = some
      { calIdle with item := 1 }) ∧ (cond.driveReset = true ∨ s.dev.aon.vdrv = false)) ∧
    (∃ (s : State) (a : List (Int × Int × List Int)) (cond : CalConditions), (senderOn s) ∧ (s.dev.cal.step = some
      { calIdle with item := 2 }) ∧ (s.dev.drivenLately = false ∧ cond.notStable = false) ∧ (a.length = s.dev.get
      CAL_CTRL_RUNS) ∧ (s.dev.nvm.cal.length = 2) ∧ (sensAgree s.straps a = true)) ∧
    (∃ (s : State) (port : Port) (a : List (Nat × Nat)) (cond : CalConditions) (commits : Bool), (deviceOn s) ∧
      (s.dev.cal.step = some { calIdle with item := 3, port := port }) ∧ (s.dev.pstate port = P_TRAIN ∨ s.dev.pstate port =
      P_LS1) ∧ (a.length = s.dev.get CAL_CTRL_RUNS) ∧ (within 3 (laneWidths 0 a) = true ∧ within 3 (laneWidths 1 a) = true)) ∧
    (∃ (s : State) (a : List (Int × List (List Nat))) (cond : CalConditions) (commits : Bool), (tileOn s) ∧ (s.dev.cal.step =
      some { calIdle with item := 0 }) ∧ (cond.rowActive = false ∧ cond.columnCurrent = false ∧ cond.driveReset = false ∧
      s.dev.vledAbsent = false ∧ s.dev.aon.vdrv = true) ∧ (s.dev.get LDRV_CTRL_DRIVE_EN = 0) ∧ (a.length = s.dev.get
      CAL_CTRL_RUNS)) ∧
    (∃ (s : State) (a : List (Int × List (List Nat))) (cond : CalConditions), (tileOn s) ∧ (s.dev.cal.step = some
      { calIdle with item := 0 }) ∧ (cond.rowActive = false ∧ cond.columnCurrent = false ∧ cond.driveReset = false ∧
      s.dev.vledAbsent = false ∧ s.dev.aon.vdrv = true) ∧ (s.dev.get LDRV_CTRL_DRIVE_EN = 0) ∧ (a.length = s.dev.get
      CAL_CTRL_RUNS) ∧ (s.dev.nvm.cal.length = 2)) ∧
    (∃ (w : Nat → Nat) (g : Nat), (64 ≤ (liveCells w).length)) :=
  ⟨⟨State.reset, .adc [], calmA, true, by decide +kernel⟩,
   ⟨tileAt fun d => { d with cal.step := some { calIdle with item := 1 } }, adcRunsA 345 3398, calmA, true, by decide +kernel⟩,
   ⟨tileAt fun d => { d with cal.step := some { calIdle with item := 1 } }, List.replicate 3 [[(345, 3398)], [(345, 3398)],
     [(349, 3398)]], calmA, true, by decide +kernel⟩,
   ⟨tileAt fun d => { d with cal.step := some { calIdle with item := 1 } }, .adc [], { calmA with driveReset := true }, true,
     by decide +kernel⟩,
   ⟨senderAt fun d => { d with cal.step := some { calIdle with item := 2 } }, List.replicate 3 (400, 0, List.replicate 12
     390), calmA, by decide +kernel⟩,
   ⟨senderAt fun d => { d.set (LANE_STAT_STATE 2) P_LS1 with cal.step := some { calIdle with item := 3, port := 2 } }, 2,
     [(40, 50), (41, 51), (42, 50)], calmA, true, by decide +kernel⟩,
   ⟨tileAt fun d => vledOn { d with cal.step := some { calIdle with item := 0 } }, [(0, []), (5, []), (9, [])], calmA, true,
     by decide +kernel⟩,
   ⟨tileAt fun d => vledOn { d with cal.step := some { calIdle with item := 0 } }, [(30, [List.replicate 72 32768]), (50,
     [List.replicate 72 32768]), (40, [List.replicate 72 32768])], calmA, by decide +kernel⟩,
   ⟨fun i => 30000 + 77 * i % 511, 1950000, by decide +kernel⟩⟩

/-- The hypotheses of Obligations.LeaseAndCommands, clause by clause. -/
theorem witness_LeaseAndCommands :
    (∃ (s : State) (ref : CmdRef) (desc : List Byte), (Waits ref desc s = true) ∧ (dOpcode desc = 0x0600) ∧ (natBit (dData
      desc 0) 16 = false) ∧ (leaseFree SRC_CHAIN s.dev)) ∧
    (∃ (s : State) (ref : CmdRef) (desc : List Byte), (Waits ref desc s = true) ∧ (0x0600 ≤ dOpcode desc ∧ dOpcode desc ≤
      0x0605) ∧ (leaseElsewhere SRC_CHAIN s.dev) ∧ (s.dev.sec.domino = none)) ∧
    (∃ (s : State) (ref : CmdRef) (desc : List Byte), (Waits ref desc s = true) ∧ (dOpcode desc = 0x0601 ∨ dOpcode desc =
      0x0603 ∨ dOpcode desc = 0x0604) ∧ (s.dev.sec.lease = none) ∧ (s.dev.sec.domino = none)) ∧
    (∃ (s : State) (ref : CmdRef) (desc : List Byte), (Waits ref desc s = true) ∧ (dOpcode desc = 0x0601) ∧ (natBit (dData
      desc 0) 16 = false) ∧ (chainLease s.dev)) ∧
    (∃ (s : State) (ref : CmdRef) (desc : List Byte), (Waits ref desc s = true) ∧ (dOpcode desc = 0x0602) ∧ (natBit (dData
      desc 0) 16 = false) ∧ (leaseFree SRC_CHAIN s.dev)) ∧
    (∃ (s : State) (ref : CmdRef) (desc : List Byte), (Waits ref desc s = true) ∧ (dOpcode desc = 0x0603) ∧ (natBit (dData
      desc 0) 16 = false ∨ s.straps.role = .tile) ∧ (chainLease s.dev) ∧ (s.dev.sec.domino = none)) ∧
    (∃ (s : State) (ref : CmdRef) (desc : List Byte), (Waits ref desc s = true) ∧ (dOpcode desc = 0x0604) ∧ (natBit (dData
      desc 0) 16 = false ∨ s.straps.role = .tile) ∧ (chainLease s.dev) ∧ (s.dev.sec.domino = none) ∧ (refusal s.dev = 0)) ∧
    (∃ (s : State) (ref : CmdRef) (desc : List Byte), (Waits ref desc s = true) ∧ (dOpcode desc = 0x0605) ∧ (natBit (dData
      desc 0) 16 = false ∨ s.straps.role = .tile) ∧ (leaseFree SRC_CHAIN s.dev)) ∧
    (∃ (s : State), (deviceOn s)) ∧
    (∃ (s : State) (i : Nat) (desc : List Byte), (Waits (.ring i) desc s = true) ∧ (dOpcode desc = 0x0603 ∨ dOpcode desc =
      0x0604) ∧ (natBit (dData desc 0) 16 = true) ∧ (chainLease s.dev) ∧ (s.dev.sec.domino = none) ∧ (refusal s.dev = 0) ∧
      (s.dev.sec.readyFor = none) ∧ (s.dev.get RING_FLIP_MODE_CUR = 0xFF) ∧ (s.dev.fedTiles ≠ []) ∧ (s.dev.ports.length = 4) ∧
      (∀ x : Port, s.dev.portMode x = M_FEED → (s.dev.port x).cur ≠ none)) ∧
    (∃ (s : State) (i : Nat) (desc : List Byte), (Waits (.ring i) desc s = true) ∧ (dOpcode desc = 0x0600 ∨ dOpcode desc =
      0x0601 ∨ dOpcode desc = 0x0602 ∨ dOpcode desc = 0x0605) ∧ (natBit (dData desc 0) 16 = true) ∧ (chainLease s.dev) ∧
      (s.dev.ports.length = 4) ∧ (∀ x : Port, s.dev.portMode x = M_FEED → (s.dev.port x).cur ≠ none)) :=
  ⟨⟨cmdAtSender 5 (descOf 0x600 2 7 0 (zeros 14 ++ leBytes 77 4)) fun d =>
    { d with sec.lease := some (2, 0, 5), sec.readyFor := some true, time.clk.ticks := 15000000000 }, .ring 5, descOf 0x600 2
    7 0 (zeros 14 ++ leBytes 77 4), by decide +kernel⟩,
   ⟨cmdAtSender 5 (descOf 0x603 2 7 0 (zeros 14 ++ leBytes 0x10000 4)) fun d => { d with sec.lease := some (2, 0, 5) }, .ring
     5, descOf 0x603 2 7 0 (zeros 14 ++ leBytes 0x10000 4), by decide +kernel⟩,
   ⟨cmdAtSender 5 (descOf 0x604 2 7 0 (zeros 14 ++ leBytes 0x10000 4)) id, .ring 5, descOf 0x604 2 7 0 (zeros 14 ++ leBytes
     0x10000 4), by decide +kernel⟩,
   ⟨cmdAtTile (descOf 0x601 0 7 77 []) fun d => { stagingDev d with time.clk.ticks := 88 }, .remote, (descOf 0x601 0 7 77
     []).take 60, by decide +kernel⟩,
   ⟨cmdAtTile (descOf 0x602 0 7 77 []) readyDev, .remote, (descOf 0x602 0 7 77 []).take 60, by decide +kernel⟩,
   ⟨cmdAtTile (descOf 0x603 0 7 77 []) stagingDev, .remote, (descOf 0x603 0 7 77 []).take 60, by decide +kernel⟩,
   ⟨cmdAtTile (actDesc 0 2000000000) readyDev, .remote, (actDesc 0 2000000000).take 60, by decide +kernel⟩,
   ⟨cmdAtTile (descOf 0x605 0 7 77 []) fun d => { d with nvm.trusted.armed := some (20000001, false) }, .remote, (descOf 0x605
     0 7 77 []).take 60, by decide +kernel⟩,
   ⟨tileAt fun d => { d with sec.lease := some (1, 0, 5), sec.readyFor := some false, time.clk.ticks := 15000000000 },
     by decide +kernel⟩,
   ⟨cmdAtSender 5 (descOf 0x603 2 7 0 (zeros 14 ++ leBytes 0x10000 4)) fun d =>
     { feedingTile d with sec.lease := some (1, 0, 5) }, 5, descOf 0x603 2 7 0 (zeros 14 ++ leBytes 0x10000 4),
     by decide +kernel⟩,
   ⟨cmdAtSender 5 (descOf 0x600 2 7 0 (zeros 14 ++ leBytes 0x10007 4)) fun d =>
     { feedingTile d with sec.lease := some (1, 0, 5) }, 5, descOf 0x600 2 7 0 (zeros 14 ++ leBytes 0x10007 4),
     by decide +kernel⟩⟩

/-- The hypotheses of Obligations.UpdatePackets, clause by clause. -/
theorem witness_UpdatePackets :
    (∃ (s : State) (k : RxPkt) (rest : List RxPkt), (updateFirst (cmdKind k.bytes) k rest s) ∧ (cmdKind k.bytes ≤ 6) ∧
      (s.dev.obeys k.bytes = false)) ∧
    (∃ (s : State) (k : RxPkt) (rest : List RxPkt), (updateFirst 0 k rest s) ∧ (s.dev.obeys k.bytes = true) ∧ (s.dev.namesMfst
      k.bytes s.dev.rollingBack = true) ∧ (leaseFree SRC_CHAIN s.dev)) ∧
    (∃ (s : State) (k : RxPkt) (rest : List RxPkt), (updateFirst 4 k rest s) ∧ (s.dev.obeys k.bytes = true) ∧ (s.dev.namesMfst
      k.bytes s.dev.rollingBack = true) ∧ (leaseFree SRC_CHAIN s.dev)) ∧
    (∃ (s : State) (k : RxPkt) (rest : List RxPkt), (updateFirst 5 k rest s) ∧ (s.dev.obeys k.bytes = true) ∧ (s.dev.namesMfst
      k.bytes s.dev.rollingBack = true) ∧ (leaseFree SRC_CHAIN s.dev)) ∧
    (∃ (s : State) (k : RxPkt) (rest : List RxPkt), (updateFirst 6 k rest s) ∧ (s.dev.obeys k.bytes = true) ∧ (s.dev.namesMfst
      k.bytes s.dev.rollingBack = true) ∧ (chainLease s.dev)) ∧
    (∃ (s : State) (k : RxPkt) (rest : List RxPkt), (updateFirst (cmdKind k.bytes) k rest s) ∧ (s.dev.obeys k.bytes = true) ∧
      (cmdKind k.bytes = 0 ∨ cmdKind k.bytes = 4 ∨ cmdKind k.bytes = 5 ∨ cmdKind k.bytes = 6) ∧ (s.dev.namesMfst k.bytes
      s.dev.rollingBack = true) ∧ (leaseElsewhere SRC_CHAIN s.dev)) ∧
    (∃ (s : State) (k : RxPkt) (rest : List RxPkt), (updateFirst (cmdKind k.bytes) k rest s) ∧ (s.dev.obeys k.bytes = true) ∧
      (cmdKind k.bytes = 1 ∨ cmdKind k.bytes = 2 ∨ cmdKind k.bytes = 3) ∧ (cmdKind k.bytes = 1 → updDataOk k.bytes = true ∧
      (updObject k.bytes = 1 ∨ updObject k.bytes = 2)) ∧ (s.dev.namesMfst k.bytes (if cmdKind k.bytes = 1 then false else if
      cmdKind k.bytes = 2 then natBit (updObject k.bytes) 0 else s.dev.rollingBack) = true) ∧ (s.dev.sec.lease = none)) ∧
    (∃ (s : State) (k : RxPkt) (rest : List RxPkt), (updateFirst 1 k rest s) ∧ (s.dev.obeys k.bytes = true) ∧ (chainLease
      s.dev) ∧ (updDataOk k.bytes = true) ∧ (updObject k.bytes = 3 ∨ s.dev.namesMfst k.bytes false = true)) ∧
    (∃ (s : State) (k : RxPkt) (rest : List RxPkt), (updateFirst (cmdKind k.bytes) k rest s) ∧ (s.dev.obeys k.bytes = true) ∧
      (cmdKind k.bytes ≤ 6) ∧ (cmdKind k.bytes = 1 → updDataOk k.bytes = true ∧ updObject k.bytes ≠ 3) ∧ (chainLease s.dev) ∧
      (s.dev.namesMfst k.bytes (if cmdKind k.bytes = 1 then false else if cmdKind k.bytes = 2 then natBit (updObject k.bytes)
      0 else s.dev.rollingBack) = false)) ∧
    (∃ (s : State) (k : RxPkt) (rest : List RxPkt), (updateFirst 1 k rest s) ∧ (s.dev.obeys k.bytes = true) ∧ (chainLease
      s.dev) ∧ (updDataOk k.bytes = false)) ∧
    (∃ (s : State) (k : RxPkt) (rest : List RxPkt), (updateFirst 2 k rest s) ∧ (s.dev.obeys k.bytes = true) ∧ (chainLease
      s.dev) ∧ (s.dev.namesMfst k.bytes (natBit (updObject k.bytes) 0) = true)) ∧
    (∃ (s : State) (k : RxPkt) (rest : List RxPkt) (rb : Bool), (updateFirst 3 k rest s) ∧ (s.dev.obeys k.bytes = true) ∧
      (chainLease s.dev) ∧ (s.dev.sec.readyFor = some rb) ∧ (refusal s.dev = 0) ∧ (s.dev.namesMfst k.bytes s.dev.rollingBack =
      true) ∧ (s.dev.notReady s.straps rb = 0) ∧ (s.dev.now < leAt k.bytes 28 8 % 2 ^ 48 * 1000000000 + leAt k.bytes 24 4 % 2
      ^ 30)) ∧
    (∃ (s : State) (k : RxPkt) (rest : List RxPkt), (updateFirst 3 k rest s) ∧ (s.dev.obeys k.bytes = true) ∧ (chainLease
      s.dev) ∧ (s.dev.namesMfst k.bytes s.dev.rollingBack = true) ∧ (refusal s.dev ≠ 0 ∨ leAt k.bytes 28 8 % 2 ^ 48 *
      1000000000 + leAt k.bytes 24 4 % 2 ^ 30 ≤ s.dev.now)) :=
  ⟨⟨updateAt (updPkt 2 0 0 []) fun d => { d with tile.accepted := some true }, updPkt 2 0 0 [], [], by decide +kernel⟩,
   ⟨updateAt (updPkt 0 0 0 []) id, updPkt 0 0 0 [], [], by decide +kernel⟩,
   ⟨updateAt (updPktOf 4 0 0 0 (sha256 mfstA) []) fun d => { stagingDev d with nvm.trusted.armed := some (20000001, false) },
     updPktOf 4 0 0 0 (sha256 mfstA) [], [], by decide +kernel⟩,
   ⟨updateAt (updPktOf 5 0 0 0 (sha256 mfstA) []) readyDev, updPktOf 5 0 0 0 (sha256 mfstA) [], [], by decide +kernel⟩,
   ⟨updateAt (updPktOf 6 0 0 0 (sha256 mfstA) []) fun d => { stagingDev d with time.clk.ticks := 99 }, updPktOf 6 0 0 0
     (sha256 mfstA) [], [], by decide +kernel⟩,
   ⟨updateAt (updPkt 4 0 0 []) fun d => { d with sec.lease := some (2, 0, 0), nvm.trusted.armed := some (20000001, false) },
     updPkt 4 0 0 [], [], by decide +kernel⟩,
   ⟨updateAt (updPkt 1 1 0 [1, 2, 3, 4]) id, updPkt 1 1 0 [1, 2, 3, 4], [], by decide +kernel⟩,
   ⟨updateAt (updPkt 1 3 0 [1, 2, 3, 4]) stagingDev, updPkt 1 3 0 [1, 2, 3, 4], [], by decide +kernel⟩,
   ⟨updateAt (updPkt 1 1 0 [1, 2, 3, 4]) (fun d => { stagingDev d with time.clk.ticks := 99 }), updPkt 1 1 0 [1, 2, 3, 4], [],
     by decide +kernel⟩,
   ⟨updateAt (updPkt 1 3 0 [1, 2, 3]) stagingDev, updPkt 1 3 0 [1, 2, 3], [], by decide +kernel⟩,
   ⟨updateAt (updPkt 2 0 0 []) fun d => { d with sec.lease := some (1, 0, 5) }, updPkt 2 0 0 [], [], by decide +kernel⟩,
   ⟨updateAt (updPktOf 3 0 0 7 (sha256 mfstA) []) readyDev, updPktOf 3 0 0 7 (sha256 mfstA) [], [], false, by decide +kernel⟩,
   ⟨updateAt (updPktOf 3 0 0 7 (sha256 mfstA) []) fun d => { readyDev d with time.clk.ns := 7 }, updPktOf 3 0 0 7 (sha256
     mfstA) [], [], by decide +kernel⟩⟩

/-- The hypotheses of Obligations.ActivationAndSwitch, clause by clause. -/
theorem witness_ActivationAndSwitch :
    (∃ (s : State) (i : Nat) (desc : List Byte) (m : Domino), (senderOn s) ∧ (s.dev.host.descs =
      [{ fetchedCmd i desc with phase := .started }]) ∧ (s.dev.host.out = []) ∧ (dNoCpl desc = false) ∧ (s.dev.sec.domino =
      some m) ∧ (m.activate = true ∧ m.index = i ∧ m.pa ≤ s.dev.now + 100000000) ∧ (∀ x : Port, s.dev.portMode x = M_FEED →
      (s.dev.port x).cur ≠ none) ∧ (s.dev.ports.length = 4)) ∧
    (∃ (s : State) (pa : Nat) (rb : Bool), (deviceOn s) ∧ (s.dev.nvm.trusted.armed = some (pa, rb)) ∧ (pa ≤ s.dev.now) ∧
      (s.dev.cal.step = none) ∧ (s.dev.get SEC_STAT_RECOVERY = 0)) ∧
    (∃ (s : State) (pa : Nat) (rb : Bool) (c : CalStep), (deviceOn s) ∧ (s.dev.nvm.trusted.armed = some (pa, rb)) ∧ (pa ≤
      s.dev.now) ∧ (s.dev.cal.step = some c) ∧ (c.waiter = none) ∧ (s.dev.mgmtSame s.straps (s.dev.slotObject 1
      s.dev.otherMfst) = false)) ∧
    (∃ (s : State) (j : Nat × Nat), (deviceOn s) ∧ (s.dev.nvm.trusted.journal = some j) ∧ (s.dev.mbxFull 0 = false ∧
      s.dev.mbxFull 5 = false ∧ s.dev.mbxFull 7 = false)) ∧
    (∃ (d : Dev) (slot : Nat) (e : MEntry), (d.mgmtIs slot e = true)) ∧
    (∃ (s : State), (deviceOn s) ∧ (s.dev.nvm.trusted.journal = none)) ∧
    (∃ (s : State) (pa : Nat) (paused : Bool), (deviceOn s) ∧ (s.dev.nvm.trusted.switched = some (pa, paused))) :=
  ⟨⟨dominoAt [69] (some (500, false)) true, 5, actDesc 2 500, dominoOf [69] true, by decide +kernel⟩,
   ⟨tileAt fun d => { readyDev d with nvm.trusted.armed := some (0, false) }, 0, false, by decide +kernel⟩,
   ⟨tileAt fun d => { readyDev d with nvm.trusted.armed := some (0, false), cal.step := some calIdle }, 0, false, calIdle,
     by decide +kernel⟩,
   ⟨tileAt fun d => { d with nvm.trusted.journal := some (0, 2), nvm.mgmt := [⟨[2], 0, [], []⟩, ⟨[1], 0, [], []⟩] }, (0, 2),
     by decide +kernel⟩,
   ⟨{ State.reset.dev with nvm.mgmt := [⟨imageA, 0, [], []⟩, NvmSlot.empty] }, 0, entryA imageA, by decide +kernel⟩,
   ⟨State.reset, by decide +kernel⟩,
   ⟨tileAt fun d => { d with nvm.trusted.switched := some (0, true), time.clk.ns := 249999999 }, 0, true, by decide +kernel⟩⟩

/-- The hypotheses of Obligations.ServicePortAndMonitor, clause by clause. -/
theorem witness_ServicePortAndMonitor :
    (∃ (s : State) (init : Initiator) (op : Nat), (deviceOn s) ∧ (op = 1 ∨ op = 2 ∨ op = 3 ∨ op = 6 ∨ op = 7 ∨ op = 8) ∧ (if
      init = .service then natBit (s.dev.get SEC_PRIV_SVC_PERM) 3 = false else mayWrite s.straps init s.dev = false)) ∧
    (∃ (s : State) (init : Initiator) (op : Nat), (deviceOn s) ∧ (op = 1 ∨ op = 2 ∨ op = 3 ∨ op = 6 ∨ op = 7 ∨ op = 8) ∧ (if
      init = .service then natBit (s.dev.get SEC_PRIV_SVC_PERM) 3 = true else mayWrite s.straps init s.dev = true) ∧
      (leaseElsewhere (svcSource init) s.dev)) ∧
    (∃ (s : State) (init : Initiator), (deviceOn s) ∧ (if init = .service then natBit (s.dev.get SEC_PRIV_SVC_PERM) 3 = true
      else mayWrite s.straps init s.dev = true) ∧ (leaseFree (svcSource init) s.dev)) ∧
    (∃ (s : State) (init : Initiator), (deviceOn s) ∧ (if init = .service then natBit (s.dev.get SEC_PRIV_SVC_PERM) 3 = true
      else mayWrite s.straps init s.dev = true) ∧ (if init = .service then svcLease s.dev else chainLease s.dev) ∧ (refusal
      s.dev = 0)) ∧
    (∃ (s : State) (init : Initiator) (object : Fin 16) (content : Fin 8), (deviceOn s) ∧ ((object : Nat) ≠ 3 ∨ (content :
      Nat) ≠ 2) ∧ (if init = .service then natBit (s.dev.get SEC_PRIV_SVC_PERM) 3 = true else mayWrite s.straps init s.dev =
      true) ∧ (s.dev.sec.lease = none)) ∧
    (∃ (s : State) (init : Initiator) (content : Fin 8), (deviceOn s) ∧ ((content : Nat) ≤ 2) ∧ (if init = .service then
      natBit (s.dev.get SEC_PRIV_SVC_PERM) (if (content : Nat) = 2 then 2 else 3) = true else mayWrite s.straps init s.dev =
      true) ∧ ((content : Nat) = 0 → if init = .service then svcLease s.dev else chainLease s.dev) ∧ (leAt (s.dev.svcWindow 0
      4) 0 4 = 0) ∧ (leAt (s.dev.svcWindow 4 4) 0 4 < 64)) ∧
    (∃ (s : State) (call : NvmCall), (callWaits 1 s) ∧ (4 ≤ call.kind ∧ call.kind ≤ 7) ∧ (call.bytes.length ≤ 4096) ∧
      (call.offset + call.bytes.length ≤ slotSize call.kind) ∧ ((s.dev.slots call.kind).length = 2) ∧ (s.dev.inactive
      call.kind < 2)) ∧
    (∃ (s : State) (kind seq : Nat), (callWaits 2 s) ∧ (5 ≤ kind ∧ kind ≤ 7) ∧ ((s.dev.slots kind).length = 2) ∧
      (s.dev.inactive kind < 2)) ∧
    (∃ (s : State) (seq : Nat), (callWaits 2 s) ∧ (s.dev.nvm.cal.length = 2)) ∧
    (∃ (s : State) (call : NvmCall), (callWaits 1 s) ∧ (call.kind < 4 ∨ 7 < call.kind)) ∧
    (∃ (s : State) (kind seq : Nat), (callWaits 2 s) ∧ (kind < 4 ∨ 7 < kind)) ∧
    (∃ (s : State) (area : NvmArea) (offset length : Nat), (callWaits 3 s) ∧ (areaReadable area = true)) ∧
    (∃ (s : State) (area : NvmArea) (offset length : Nat), (callWaits 3 s) ∧ (areaReadable area = false)) ∧
    (∃ (s : State) (offset : Nat), (callWaits 4 s)) ∧
    (∃ (s : State) (type : Nat) (token : List Byte), (callWaits 5 s)) ∧
    (∃ (s : State), (callWaits 6 s)) ∧
    (∃ (s : State) (call : NvmCall) (kind seq : Nat) (area : NvmArea) (offset length type : Nat) (token : List Byte),
      (deviceOn s) ∧ (s.dev.mbxFull 4 = false ∨ s.dev.mbxFull 5 = true)) :=
  ⟨⟨tileAt fun d => d.set SEC_PRIV_SVC_PERM 5, .service, 6, by decide +kernel⟩,
   ⟨tileAt fun d => { d with sec.lease := some (1, 0, 5) }.set SEC_PRIV_SVC_PERM 13, .service, 8, by decide +kernel⟩,
   ⟨tileAt fun d => { d with nvm.trusted.armed := some (20000001, false) }.set SEC_PRIV_SVC_PERM 13, .service,
     by decide +kernel⟩,
   ⟨tileAt fun d => { readyDev d with sec.lease := some (2, 0, 5) }.set SEC_PRIV_SVC_PERM 13, .service, by decide +kernel⟩,
   ⟨tileAt fun d => d.set SEC_PRIV_SVC_PERM 13, .service, 1, 0, by decide +kernel⟩,
   ⟨tileAt fun d => (d.set SEC_PRIV_SVC_PERM 4).wr (SEC_SVC_WIN 1) 12, .service, 2, by decide +kernel⟩,
   ⟨callAt 1 id, { kind := 6, offset := 10, bytes := [1, 2, 3] }, by decide +kernel⟩,
   ⟨callAt 2 id, 6, 9, by decide +kernel⟩,
   ⟨callAt 2 id, 9, by decide +kernel⟩,
   ⟨callAt 1 id, { kind := 3, offset := 10, bytes := [1, 2, 3] }, by decide +kernel⟩,
   ⟨callAt 2 id, 1, 0, by decide +kernel⟩,
   ⟨callAt (3 + 256 * 9) fun d => { d with nvm.mgmt := [⟨[1, 2, 3], 0, [], []⟩, NvmSlot.empty] }, .mgmtRunning, 1, 2,
     by decide +kernel⟩,
   ⟨callAt 3 id, .commit 1 0, 0, 64, by decide +kernel⟩,
   ⟨callAt 4 fun d => { d with nvm.factory := [1, 2, 3] }, 1, by decide +kernel⟩,
   ⟨callAt 5 id, 1, tokA, by decide +kernel⟩,
   ⟨callAt 6 id, by decide +kernel⟩,
   ⟨State.reset, { kind := 6, offset := 10, bytes := [1, 2, 3] }, 6, 9, .mgmtRunning, 0, 4, 1, [], by decide +kernel⟩⟩

/-- The hypotheses of Obligations.StepRunsTheCommand, clause by clause. -/
theorem witness_StepRunsTheCommand :
    (∃ (s : State) (c : Instr) (rest : List Instr), (s.pending = c :: rest)) ∧
    (∃ (s : State), (s.pending = [])) :=
  ⟨⟨{ State.reset with pending := [.calStepComplete (.adc []) calmA true, .measure] }, .calStepComplete (.adc []) calmA true,
    [.measure], by decide +kernel⟩,
   ⟨State.reset, by decide +kernel⟩⟩

/-- The hypotheses of Obligations.ResetState, clause by clause. -/
theorem witness_ResetState :
    (∃ (a : Nat), (a ≠ LANE_CTRL 0) ∧ (a ≠ LANE_CTRL 1)) :=
  ⟨THM_WARN, by decide +kernel⟩

/-- The hypotheses of Obligations.RolesApart, clause by clause. -/
theorem witness_RolesApart :
    (∃ (s : State) (c : Instr), (tileRow c = true) ∧ (s.straps.role = .sender) ∧ (natBit (s.dev.get SEC_PRIV_SVC_PERM) 1 =
      true)) ∧
    (∃ (s : State) (c : Instr), (senderRow c = true) ∧ (s.straps.role = .tile) ∧ (natBit (s.dev.get SEC_PRIV_SVC_PERM) 1 =
      true)) ∧
    (∃ (s : State) (c : Instr), (tileRow c = true ∧ s.straps.role = .sender ∨ senderRow c = true ∧ s.straps.role = .tile)) ∧
    (∃ (s : State) (c : Instr) (ref : CmdRef), (cmdRefOf c = some ref) ∧ (s.straps.role = (if ref = .remote then .sender else
      .tile))) ∧
    (∃ (s : State) (c : Instr), (tileRow c = true ∨ senderRow c = true ∨ awakeRow c = true ∨ (cmdRefOf c).isSome = true) ∧
      (s.dev.boot.power ≠ .awake)) :=
  ⟨⟨senderAt fun d => d.set SEC_PRIV_SVC_PERM 15, .composeDeadline, by decide +kernel⟩,
   ⟨tileAt fun d => d.set SEC_PRIV_SVC_PERM 15, .activationCheck, by decide +kernel⟩,
   ⟨State.reset, .activationCheck, by decide +kernel⟩,
   ⟨tileAt id, .nop (.ring 5), .ring 5, by decide +kernel⟩,
   ⟨tileAt fun d => { d with boot.power := .dormant }, .watchdogKick .nutcracker, by decide +kernel⟩⟩

/-- The hypotheses of Obligations.ShapeKept, clause by clause. -/
theorem witness_ShapeKept :
    (∃ (s t : State), (Shaped s.dev) ∧ (step s = .next t)) :=
  ⟨State.reset, State.reset, test_reset_shaped, rfl⟩

/-- The hypotheses of Obligations.StoresStayCanonical, clause by clause. -/
theorem witness_StoresStayCanonical :
    (∃ (s t : State), (Canonical s.dev) ∧ (step s = .next t)) :=
  ⟨State.reset, State.reset, test_reset_canonical, rfl⟩

end Sys2Proof.Machine
end

section
/-! SUPPORT. The step and State.reset, and what every command does: it runs an effect where its condition holds, the two resets
that sample the straps apart. -/

namespace Sys2Proof.Machine

/-- Settles O55, by the two branches of `step`. -/
theorem stepRunsTheCommand : Obligations.StepRunsTheCommand := by
  unfold Obligations.StepRunsTheCommand
  exact ⟨fun s c rest h => by simp [step, h], fun s h => by simp [step, h]⟩

/-- The two words listed in `Dev.init` are the only ones of State.reset that differ from `regReset`. -/
theorem rd_reset {a : Nat} (ha : a ≠ LANE_CTRL 0) (hb : a ≠ LANE_CTRL 1) : State.reset.dev.rd a = regReset a := by
  simp only [LANE_CTRL] at ha hb
  simp [State.reset, Dev.init, Dev.rd, Cells.read, ha.symm, hb.symm]

theorem shaped_reset : Shaped State.reset.dev := by unfold Shaped; decide

theorem canonical_reset : Canonical State.reset.dev := by unfold Canonical; decide +kernel

theorem mbxFull_reset (m : Fin 8) : State.reset.dev.mbxFull m = false := by
  revert m; decide +kernel

/-- Settles O56: the register file by `rd_reset`, the rest by evaluating State.reset. -/
theorem resetState : Obligations.ResetState := by
  unfold Obligations.ResetState
  exact ⟨fun _ => rd_reset, rfl, ⟨rfl, rfl, rfl⟩, ⟨rfl, rfl⟩, shaped_reset, canonical_reset, rfl, rfl, rfl,
    mbxFull_reset, by decide +kernel⟩

/-- The outcome is that of an effect which takes place where a condition holds. -/
def Runs (s : State) (o : Host.Outcome State Fault Refusal) : Prop := ∃ c f, o = runIf c f s

theorem runs_runIf (c : Straps → Dev → Bool) (f : Straps → Dev → Dev) (s : State) : Runs s (runIf c f s) :=
  ⟨c, f, rfl⟩

theorem runs_run (f : Straps → Dev → Dev) (s : State) : Runs s (run f s) := ⟨fun _ _ => true, f, rfl⟩

theorem runs_runAwake (f : Straps → Dev → Dev) (s : State) : Runs s (runAwake f s) := runs_runIf _ f s

theorem runs_runTile (f : Straps → Dev → Dev) (s : State) : Runs s (runTile f s) := runs_runIf _ f s

theorem runs_runSender (f : Straps → Dev → Dev) (s : State) : Runs s (runSender f s) := runs_runIf _ f s

theorem runs_runBy (i : Initiator) (c : Straps → Dev → Bool) (f : Straps → Dev → Dev) (s : State) :
    Runs s (runBy i c f s) := runs_runIf _ _ s

theorem runs_runRead (c : Straps → Dev → Bool) (z : Dev → Dev) (f : Straps → Dev → Dev) (s : State) :
    Runs s (runRead c z f s) := runs_runIf _ _ s

theorem runs_onUpdate (kind : Nat) (f : Straps → List Byte → Dev → Dev) (s : State) : Runs s (onUpdate kind f s) :=
  runs_runTile _ s

theorem runs_runSvc (i : Initiator) (op object content : Nat) (s : State) : Runs s (runSvc i op object content s) :=
  runs_runIf _ _ s

theorem runs_monitorCall (n : Nat) (f : Nat → Dev → Dev) (s : State) : Runs s (monitorCall n f s) := runs_runIf _ _ s

/-! A command of a ring runs at a sender, one from the chain at a tile. -/

theorem runs_runCommand (mine : List Byte → Bool) (ready : List Byte → Dev → Bool) (f : CmdEffect) (ref : CmdRef)
    (s : State) : Runs s (runCommand mine ready f ref s) := by
  unfold runCommand
  split <;> exact runs_runIf _ _ s

theorem runs_runTransport (op : Nat) (f : CmdEffect) (ref : CmdRef) (s : State) : Runs s (runTransport op f ref s) := by
  unfold runTransport
  split <;> exact runs_runIf _ _ s

theorem runs_runPut (mine : List Byte → Bool) (f : Straps → List Byte → List Byte → Dev → Answer) (ref : CmdRef)
    (s : State) : Runs s (runPut mine f ref s) := by
  unfold runPut
  split <;> exact runs_runIf _ _ s

theorem runs_runGet (mine : List Byte → Bool) (f : Straps → List Byte → Dev → Answer × List Byte) (ref : CmdRef)
    (s : State) : Runs s (runGet mine f ref s) := by
  unfold runGet
  split <;> exact runs_runIf _ _ s

theorem runs_undefinedOpcode (ref : CmdRef) (s : State) : Runs s (execUndefinedOpcode ref s) := by
  unfold execUndefinedOpcode
  split <;> exact runs_runIf _ _ s

/-- The rows that sample the straps (R397). -/
def samplesStraps : Instr → Bool
  | .powerOnReset .. | .coldReset .. => true
  | _ => false

/-- Every other row runs an effect on the device alone. -/
theorem runs_exec (c : Instr) (s : State) (h : samplesStraps c = false) : Runs s (exec c s) := by
  unfold exec
  cases c with
  | powerOnReset | coldReset => exact nomatch h
  | wakeNAssert | bkupNEdge | motionNEdge | thermalRound => exact runs_run _ s
  | undefinedOpcode r => exact runs_undefinedOpcode r s
  | regRead r | regWrite r | regRmw r | chainPing r | timeProbe r => exact runs_runTransport _ _ r s
  | mgmtStage r | ucodeDelta r | manifestStage r | ownerToken r | enrollRequest r | coefSetToDevice r | safeImage r
  | settingsToDevice r => exact runs_runPut _ _ r s
  | attest r | coefSetFromDevice r | lampMap r | meas r | recDump r | settingsFromDevice r => exact runs_runGet _ _ r s
  | nop r | chainEnum r | timeSet r | timeAdj r | timeSurvey r | diagLamp r | diagForce r | twinSwap r | calRunSink r
  | calRunAdc r | calRunSens r | calRunLane r | calAbort r | calRevert r | updOpen r | updRenew r | updClose r
  | updPrepare r | updActivate r | updAbort r | recClear r | recMark r => exact runs_runCommand _ _ _ r s
  | coefSetLoaded | bulkSnapshot | blockReceive | flipHdrReceive | presentReceive | cmdDescReceive | bulkOpenReceive
  | bulkDataReceive | bulkPullReceive | enumReceiveHead | enumReceiveTail | timeReceive | composeDeadline
  | composeComplete | swapPoint | presentFrame | refreshStart | pinwheelRetune | fadeStart | fadeEnd | lampTest
  | pinTest | sourceHeardTimeout | calSlotMeasure =>
    exact runs_runTile _ s
  | perstDeassert | pcieLinkDown | functionLevelReset | d3hotEntry | eventRingWrite | msixUnmask | cmdDispatch
  | cmdTimeout | rspReceive | progressRspReceive | frameLaunch | layerReadComplete | layerReadFail
  | packetSendComplete | transportEnd | senderModeSwitch | enumAtTailSender | witnessReceive | eventReceive
  | chainEnumComplete | ptpLinkDown | ppsInEdge | heartbeatReceive | senderFlipHdrReceive | swapCheck | swapInstant
  | activationCheck | twinMbxDataReceive | twinMbxAckReceive | twinMbxAbortReceive | wakeToneEnd | bulkDataReadDone =>
    exact runs_runSender _ s
  | vlowExcursion | brownOut | pmAgreement | cleanerLock | eyeMonitorUpdate | pacingCycle | calStepComplete
  | activationSwitch | updatePauseEnd | mbxWrite | mbxAck | vlowEnd =>
    exact runs_runAwake _ s
  | warmReset | coreRestart | watchdogKick | hifPollEnable | hifPollDisable | ringEnable | ringDisable | portEnable
  | portDisable | laneTargetWrite | txidleSet | txidleClear | ptpEnable | ptpDisable | fabPinjArm | fabPinjCancel
  | footprintArm | footprintDisarm | corArm | corDisarm | corCanvasWrite | fadeArm | fadeDisarm | recRdSeqWrite
  | crcStart | crcSeedWrite | crcDataWrite | snoopArm | dormantArm | dormantDisarm | wakeToneSend =>
    exact runs_runBy _ _ _ s
  | timeNowRead | servicePortRead =>
    exact runs_runRead _ _ _ s
  | updateOpen | updateData | updatePrepare | updateActivate | updateAbort | updateClose | updateRenew =>
    exact runs_onUpdate _ _ s
  | svcOpen | svcRenew | svcClose | svcData | svcPrepare | svcActivate | svcAbort =>
    exact runs_runSvc _ _ _ _ s
  | nvmWrite | nvmCommit | nvmRead | factoryRead | tokenCheck | measure =>
    exact runs_monitorCall _ _ s
  | _ =>
    dsimp only [execSnoopCaptureEnd, execLanePllLock, execTrainingFrameRx, execRxLock, execPeerRxlockSeen,
      execCountdownDone, execGoTimeout, execTrainTimeout, execTxonlyLosTimeout, execLosAssert, execLosClear,
      execLossOfLock, execRecoverTimeout, execPeerRxlockLost, execLs2EnergyDetect, execTapSave, execGuardResume,
      execCodewordPairRx, execPacketReassemblyTimeout, execWitnessSend, execMbxCross, execDescFetch,
      execDescFetchFail, execIntrModerationTimeout, execIntrCountReached, execFlipParse, execAutoEnum, execTimeSend,
      execPtpAnnounceReceive, execPtpSyncReceive, execPtpDelayReqSend, execPtpDelayRespReceive,
      execPtpAnnounceTimeout, execPtpArpRequest, execSurveyStart, execSurveyProbe, execPresenceTimeout,
      execStaleTimeout, execHeartbeatSend, execPeerHeartbeatAbsent, execPeerHeartbeatResumed, execSwapPortRelease]
    exact runs_runIf _ _ s

/-- An effect ends with its events in the recorder's queue or counted as lost (R370), and never touches the straps. -/
theorem Runs.answers {s : State} {o : Host.Outcome State Fault Refusal} (h : Runs s o) :
    AnswersWith o fun t => t.pending = s.pending ∧ (Settled s → Settled t) ∧ t.straps = s.straps := by
  obtain ⟨c, f, rfl⟩ := h
  cases hc : c s.straps s.dev
  · exact ⟨s, runIf_neg hc, rfl, id, rfl⟩
  · exact ⟨_, runIf_pos hc, rfl, fun _ => settled_finish _, rfl⟩

/-- A reset that samples the straps ends with its events in the recorder's queue too. -/
theorem answers_sampled (straps : Straps) (d : Dev) (s : State) :
    AnswersWith (.next { s with straps := straps, dev := d.finish }) fun t =>
      t.pending = s.pending ∧ (Settled s → Settled t) :=
  ⟨_, rfl, rfl, fun _ => settled_finish d⟩

theorem powerOnReset_answers (straps : Straps) (s : State) :
    AnswersWith (exec (.powerOnReset straps) s) fun t => t.pending = s.pending ∧ (Settled s → Settled t) := by
  unfold exec execPowerOnReset
  exact answers_sampled straps _ s

theorem coldReset_answers (pin : ColdPin) (straps : Straps) (s : State) :
    AnswersWith (exec (.coldReset pin straps) s) fun t => t.pending = s.pending ∧ (Settled s → Settled t) := by
  unfold exec execColdReset
  dsimp only
  split
  · exact ⟨s, rfl, rfl, id⟩
  · exact answers_sampled straps _ s

/-- Every row answers a next state; all but two keep the straps. -/
theorem exec_answers (c : Instr) (s : State) :
    AnswersWith (exec c s) fun t =>
      t.pending = s.pending ∧ (Settled s → Settled t) ∧ (samplesStraps c = false → t.straps = s.straps) := by
  cases h : samplesStraps c
  case false => simpa only [forall_const] using (runs_exec c s h).answers
  case true =>
    suffices AnswersWith (exec c s) fun t => t.pending = s.pending ∧ (Settled s → Settled t) by simpa using this
    cases c with
    | powerOnReset straps => exact powerOnReset_answers straps s
    | coldReset pin straps => exact coldReset_answers pin straps s
    | _ => exact nomatch h

/-- Settles O57: by `exec_answers` for the command at the front, on the state with the queue's rest. -/
theorem everyStepAnswers : Obligations.EveryStepAnswers := by
  unfold Obligations.EveryStepAnswers
  rintro ⟨straps, d, _ | ⟨c, rest⟩⟩
  · exact ⟨_, rfl, rfl, id, fun _ => rfl⟩
  · obtain ⟨t, ht, hp, hf, hs⟩ := exec_answers c ⟨straps, d, rest⟩
    refine ⟨t, ht, hp, hf, fun hc => hs ?_⟩
    cases c with
    | powerOnReset | coldReset => exact nomatch hc
    | _ => rfl

end Sys2Proof.Machine
end

section
/-! SUPPORT. Register reads (R209, R439, R442, R446 to R448): the bytes that an access takes of a word, what a read of each
kind of register leaves, and the words of a service-port read. -/

namespace Sys2Proof.Machine

section
variable {s : State} {d : Dev} {st : Straps} {init : Initiator} {a off n : Nat} {width : AccessWidth}

/-! Fields set together. -/

theorem get_setAll_apart {g : Fld} (l : List (Fld × Nat)) (h : ∀ x ∈ l, x.1.apart g) : (d.setAll l).get g = d.get g := by
  induction l generalizing d with
  | nil => rfl
  | cons x l ih =>
    obtain ⟨hx, hl⟩ := List.forall_mem_cons.mp h
    exact (ih hl).trans (Dev.get_set_ne d _ _ _ hx)

/-- A field set with others reads the value written, if none set after it shares a bit with it. -/
theorem get_setAll {g : Fld} {v : Nat} (l₁ l₂ : List (Fld × Nat)) (hg : g.lo + g.width ≤ 32)
    (h : ∀ x ∈ l₂, x.1.apart g) : (d.setAll (l₁ ++ (g, v) :: l₂)).get g = v % 2 ^ g.width := by
  induction l₁ generalizing d with
  | nil => exact (get_setAll_apart l₂ h).trans (Dev.get_set_same d g v hg)
  | cons _ _ ih => exact ih

/-! Bytes. -/

@[simp] theorem leBytes_length (v n : Nat) : (leBytes v n).length = n := by
  induction n generalizing v with
  | zero => rfl
  | succ n ih => simp [leBytes, ih]

theorem leBytes_mod (v n : Nat) : leBytes (v % 2 ^ (8 * n)) n = leBytes v n := by
  induction n generalizing v with
  | zero => rfl
  | succ n ih =>
    have hlow : v % 2 ^ (8 * (n + 1)) % 2 ^ 8 = v % 2 ^ 8 := Nat.mod_mod_of_dvd _ (Nat.pow_dvd_pow 2 (by omega))
    have hhigh : v % 2 ^ (8 * (n + 1)) / 256 = v / 256 % 2 ^ (8 * n) := by
      rw [show 2 ^ (8 * (n + 1)) = 256 * 2 ^ (8 * n) by rw [Nat.mul_add, Nat.pow_add, Nat.mul_comm], Nat.mod_mul_right_div_self]
    simp only [leBytes, hhigh, ih]
    congr 1
    exact BitVec.eq_of_toNat_eq (by simpa using hlow)

/-- A slice that lies within the list. -/
theorem slice_eq_take_drop {bs : List Byte} {k : Nat} (h : k + n ≤ bs.length) : slice bs k n = (bs.drop k).take n := by
  refine List.ext_getElem (by simp [slice]; omega) fun j hj _ => ?_
  have hj' : k + j < bs.length := by simp [slice] at hj; omega
  simp [slice, byteAt, hj']

theorem take_zeros {m : Nat} (h : n ≤ m) : (zeros m).take n = zeros n := by simp [zeros, h]

/-- An access takes bytes of one word (R442). -/
theorem accessSpan_le (h : accessSpan a width = some (off, n)) : off + n ≤ 4 := by
  unfold accessSpan at h
  split at h
  case h_4 o => simp only [Option.some.injEq, Prod.mk.injEq] at h; omega
  case h_5 => exact nomatch h
  all_goals
    split at h
    · simp only [Option.some.injEq, Prod.mk.injEq] at h; omega
    · exact nomatch h

/-! Outcomes. -/

/-- An effect that changes nothing. -/
theorem run_same {f : Straps → Dev → Dev} (h : Settled s) (hf : f s.straps s.dev = s.dev) : run f s = .next s := by
  simp only [run, hf, Dev.finish_of_settled _ h]

/-- A NACK of the service port is sent and counted, and nothing else happens (R448). -/
theorem run_svcNack (h : Settled s) : AnswersWith (run (fun _ d => d.svcNack) s) (Nacked s) := by
  refine run_quiet_with h ((Dev.Only.refl ..).svcNack (by simp) (.inl (by simp))) (by simp) ⟨rfl, ?_⟩
  have hget : s.dev.get GEN_SVC_STAT_NACKS < 2 ^ 16 := Nat.mod_lt _ (by decide)
  change (s.dev.addSat GEN_SVC_STAT_NACKS 1).get GEN_SVC_STAT_NACKS = _
  rw [Dev.addSat, Dev.get_set_same _ _ _ (by decide)]
  change satCount 16 (s.dev.get GEN_SVC_STAT_NACKS + 1) % 2 ^ 16 = _
  generalize s.dev.get GEN_SVC_STAT_NACKS = k at hget
  unfold satCount
  split <;> omega

/-- A device that is off or dormant does not answer a read, and none does where the condition of the read fails. -/
theorem runRead_idle {c : Straps → Dev → Bool} {z : Dev → Dev} {f : Straps → Dev → Dev}
    (h : (s.dev.awake || s.dev.held) = false ∨ c s.straps s.dev = false) : runRead c z f s = .next s :=
  runIf_neg (by rcases h with h | h <;> simp [h])

/-! The rows. -/

/-- The effect of TIME_NOW_READ. -/
def readEffect (init : Initiator) (a : Nat) (width : AccessWidth) (st : Straps) (d : Dev) : Dev :=
  d.readBytes st init (a % 2 ^ 24) width

/-- The effect of SERVICE_PORT_READ. -/
def svcReadEffect (a n : Nat) (st : Straps) (d : Dev) : Dev :=
  if a % 4 != 0 then d.svcNack
  else (d.svcRead st ((n + 3) / 4) (a % 2 ^ 24)).2.emit (.svcRead ((d.svcRead st ((n + 3) / 4) (a % 2 ^ 24)).1.take n))

theorem exec_timeNowRead : exec (.timeNowRead init a width) s =
    runRead (fun st d => init == .service || mayRead st init d) (fun d => d.readZeros init (a % 2 ^ 24) width)
      (readEffect init a width) s := rfl

theorem exec_servicePortRead {target : I2cTarget} : exec (.servicePortRead target a n) s =
    runRead (fun st _ => svcTargeted st target) (fun d => d.emit (.svcRead (zeros n))) (svcReadEffect a n) s := rfl

theorem exec_servicePortWrite_untargeted {target : I2cTarget} {data : List Byte} (h : svcTargeted s.straps target = false) :
    exec (.servicePortWrite target a data) s = .next s :=
  show execServicePortWrite target a data s = _ from runIf_neg (by simp [h])

theorem exec_timeNowRead_on (h : deviceOn s) (hm : init = .service ∨ mayRead s.straps init s.dev = true) :
    exec (.timeNowRead init a width) s = run (readEffect init a width) s := by
  rw [exec_timeNowRead, runRead_pos h (by simpa using hm)]

theorem exec_servicePortRead_on {target : I2cTarget} (h : deviceOn s) (ht : svcTargeted s.straps target = true) :
    exec (.servicePortRead target a n) s = run (svcReadEffect a n) s := by
  rw [exec_servicePortRead, runRead_pos h ht]

/-! Reads of a word. -/

/-- A read that reaches the register answers the bytes asked for of what it shows. -/
theorem readEffect_pos (ha : a < 2 ^ 24) (hm : mayRead st init d = true) (hs : accessSpan a width = some (off, n)) :
    readEffect init a width st d =
      (d.readReg st init a).2.emit (.readValue (((leBytes (readWord st a d).toNat 4).drop off).take n)) := by
  have hv : (d.readReg st init a).1 = readWord st a d := by
    unfold Dev.readReg
    dsimp only
    split
    · rfl
    · split <;> rfl
  simp only [readEffect, Nat.mod_eq_of_lt ha, Dev.readBytes, hs, hm, if_true, hv]
  rw [slice_eq_take_drop (by simpa using accessSpan_le hs)]

/-- One that does not answers zeros (R448). -/
theorem readEffect_denied (hm : mayRead st init d = false) (hs : accessSpan (a % 2 ^ 24) width = some (off, n)) :
    readEffect init a width st d = (d.set GEN_SVC_STAT_DENIED_SEEN 1).emit (.readValue (zeros n)) := by
  simp only [readEffect, Dev.readBytes, hs, hm, Bool.false_eq_true, if_false]

theorem deniedSeen_only : d.Only [] [.field GEN_SVC_STAT_DENIED_SEEN] (d.set GEN_SVC_STAT_DENIED_SEEN 1) :=
  (Dev.Only.refl ..).set _ 1 (.inl (by simp))

theorem readEffect_wide (hs : accessSpan (a % 2 ^ 24) width = none) : readEffect init a width st d = d.wideRead init := by
  simp only [readEffect, Dev.readBytes, hs]

theorem wideRead_bar0_only : d.Only [.out, .host] [] (d.wideRead .bar0) :=
  Dev.Only.emit _ (by simp) (.parts rfl fun p hp => by cases p <;> simp_all [Part.same])

theorem wideRead_other (h : init ≠ .bar0) : d.wideRead init = d := by simp [Dev.wideRead, h]

theorem readReg_latches : (d.readReg st init TIME_NOW_NS).2 = d.latchTime := rfl

/-- A register other than TIME_NOW_NS has no side effect of its read. -/
theorem readReg_quiet (h : (regAt a).isSome = true) (ha : a ≠ TIME_NOW_NS) :
    d.readReg st init a = (readWord st a d, d) := by
  simp [Dev.readReg, ha, Option.isSome_iff_ne_none.mp h]

theorem readReg_none (h : regAt a = none) : (d.readReg st init a).2 = d.logAccess init a false false := by
  simp [Dev.readReg, h]

theorem readWord_none (h : regAt a = none) : readWord st a d = 0 := by simp [readWord, h]

/-- TIME_NOW_NS shows the clock's nanoseconds in either role (R209). -/
theorem readWord_timeNow : readWord st TIME_NOW_NS d = BitVec.ofNat 32 d.time.clk.ns := by
  obtain ⟨role, _, _⟩ := st
  cases role <;> rfl

theorem latchTime_only : d.Only [] [.word TIME_NOW_SL, .word TIME_NOW_SH] d.latchTime :=
  (Dev.Only.refl ..).setAll _ (by simp [TIME_NOW_SL_S, TIME_NOW_SH_S, TIME_NOW_SH_FRAC])

theorem latchTime_get :
    d.latchTime.get TIME_NOW_SL_S = d.time.clk.sec % 2 ^ 32 ∧
    d.latchTime.get TIME_NOW_SH_S = d.time.clk.sec / 2 ^ 32 % 2 ^ 16 ∧
    d.latchTime.get TIME_NOW_SH_FRAC = d.time.clk.frac % 2 ^ 16 :=
  ⟨get_setAll [] _ (by decide) (by
      simp [Fld.apart, TIME_NOW_SL_S, TIME_NOW_SH_S, TIME_NOW_SH_FRAC, TIME_NOW_SL, TIME_NOW_SH]),
    get_setAll [_] _ (by decide) (by simp [Fld.apart, TIME_NOW_SH_S, TIME_NOW_SH_FRAC]),
    get_setAll [_, _] [] (by decide) (by simp)⟩

theorem logAccess_only {w nw : Bool} : d.Only [] [.word GEN_ACC_ERR] (d.logAccess init a w nw) := by
  unfold Dev.logAccess
  exact .ite (Dev.Only.refl ..) ((Dev.Only.refl ..).setAll _ (by
    simp [GEN_ACC_ERR_ADDR, GEN_ACC_ERR_INIT, GEN_ACC_ERR_WRITE, GEN_ACC_ERR_NARROW, GEN_ACC_ERR_VALID]))

/-- GEN_ACC_ERR keeps the access that it holds (R450). -/
theorem logAccess_held {w nw : Bool} (h : d.get GEN_ACC_ERR_VALID = 1) : d.logAccess init a w nw = d := by
  simp [Dev.logAccess, Dev.getb, h]

/-- GEN_ACC_ERR takes an access while it holds none (R450). -/
theorem logAccess_takes {w nw : Bool} (h : d.get GEN_ACC_ERR_VALID ≠ 1) (ha : a < 2 ^ 24) :
    (d.logAccess init a w nw).get GEN_ACC_ERR_VALID = 1 ∧ (d.logAccess init a w nw).get GEN_ACC_ERR_ADDR = a ∧
    (d.logAccess init a w nw).get GEN_ACC_ERR_WRITE = b2n w ∧
    (d.logAccess init a w nw).get GEN_ACC_ERR_INIT = initCode init ∧
    (d.logAccess init a w nw).get GEN_ACC_ERR_NARROW = b2n nw := by
  have hv : d.get GEN_ACC_ERR_VALID = 0 := by
    have : d.get GEN_ACC_ERR_VALID < 2 := Nat.mod_lt _ (by decide)
    omega
  have hw : ∀ b : Bool, b2n b % 2 ^ 1 = b2n b := by decide
  have hi : initCode init % 2 ^ 3 = initCode init := by cases init <;> rfl
  have he : d.logAccess init a w nw = d.setAll [(GEN_ACC_ERR_ADDR, a), (GEN_ACC_ERR_INIT, initCode init),
      (GEN_ACC_ERR_WRITE, b2n w), (GEN_ACC_ERR_NARROW, b2n nw), (GEN_ACC_ERR_VALID, 1)] := by
    simp [Dev.logAccess, Dev.getb, hv]
  rw [he]
  exact ⟨get_setAll [_, _, _, _] [] (by decide) (by simp),
    (get_setAll [] _ (by decide) (by
      simp [Fld.apart, GEN_ACC_ERR_ADDR, GEN_ACC_ERR_INIT, GEN_ACC_ERR_WRITE, GEN_ACC_ERR_NARROW,
        GEN_ACC_ERR_VALID])).trans (Nat.mod_eq_of_lt ha),
    (get_setAll [_, _] _ (by decide) (by
      simp [Fld.apart, GEN_ACC_ERR_WRITE, GEN_ACC_ERR_NARROW, GEN_ACC_ERR_VALID])).trans (hw w),
    (get_setAll [_] _ (by decide) (by
      simp [Fld.apart, GEN_ACC_ERR_INIT, GEN_ACC_ERR_WRITE, GEN_ACC_ERR_NARROW, GEN_ACC_ERR_VALID])).trans hi,
    (get_setAll [_, _, _] _ (by decide) (by simp [Fld.apart, GEN_ACC_ERR_NARROW, GEN_ACC_ERR_VALID])).trans (hw nw)⟩

/-! Reads by the service port (R447, R448). -/

/-- With READ, the words from an address on are read in turn; where all of them are registers without a side effect of their
read, nothing changes. -/
theorem svcRead_words {m : Nat} (hp : d.svcMay 0 = true) (ha : a + 4 * m ≤ 2 ^ 24)
    (hr : ∀ k < m, a + 4 * k ≠ TIME_NOW_NS ∧ (regAt (a + 4 * k)).isSome = true) :
    d.svcRead st m (a % 2 ^ 24) =
      ((List.range m).flatMap fun k => leBytes (readWord st (a + 4 * k) d).toNat 4, d) := by
  induction m generalizing a with
  | zero => rfl
  | succ m ih =>
    obtain ⟨hne, hat⟩ : a ≠ TIME_NOW_NS ∧ (regAt a).isSome = true := hr 0 (by omega)
    have hnext : (a % 2 ^ 24 + 4) % 2 ^ 24 = (a + 4) % 2 ^ 24 := by omega
    have hlt : a % 2 ^ 24 = a := by omega
    have hrest := ih (a := a + 4) (by omega) fun k hk => by
      have := hr (k + 1) (by omega)
      rwa [show a + 4 * (k + 1) = a + 4 + 4 * k by omega] at this
    simp only [Dev.svcRead, hp, if_true, hnext]
    rw [hlt, readReg_quiet hat hne, hrest, List.range_succ_eq_map, List.flatMap_cons, List.flatMap_map]
    simp only [Nat.mul_zero, Nat.add_zero, Nat.succ_eq_add_one, Nat.mul_add, Nat.mul_one, Nat.add_assoc, Nat.add_comm 4]

/-- Without READ, every word reads 0 and DENIED_SEEN is set. -/
theorem svcRead_denied {m : Nat} (hp : d.svcMay 0 = false) :
    (d.svcRead st m a).1 = zeros (4 * m) ∧ d.Only [] [.field GEN_SVC_STAT_DENIED_SEEN] (d.svcRead st m a).2 ∧
    (m ≠ 0 ∨ d.get GEN_SVC_STAT_DENIED_SEEN = 1 → (d.svcRead st m a).2.get GEN_SVC_STAT_DENIED_SEEN = 1) := by
  induction m generalizing d a with
  | zero => exact ⟨rfl, Dev.Only.refl .., fun h => h.resolve_left (· rfl)⟩
  | succ m ih =>
    have hp' : (d.set GEN_SVC_STAT_DENIED_SEEN 1).svcMay 0 = false := by
      rwa [Dev.svcMay, Dev.get_set_ne _ _ _ _ (.inl (by decide))]
    obtain ⟨hz, ho, hd⟩ := ih (a := (a + 4) % 2 ^ 24) hp'
    simp only [Dev.svcRead, hp, Bool.false_eq_true, if_false, hz]
    refine ⟨?_, deniedSeen_only.trans ho, fun _ => hd (.inr (Dev.get_set_same d _ 1 (by decide)))⟩
    rw [zeros, zeros, zeros, List.replicate_append_replicate, Nat.mul_add, Nat.add_comm]

theorem svcReadEffect_words (ha : a % 4 = 0) (hle : a + (n + 3) / 4 * 4 ≤ 2 ^ 24) (hp : d.svcMay 0 = true)
    (hr : ∀ k < (n + 3) / 4, a + 4 * k ≠ TIME_NOW_NS ∧ (regAt (a + 4 * k)).isSome = true) :
    svcReadEffect a n st d = d.emit (.svcRead
      (((List.range ((n + 3) / 4)).flatMap fun k => leBytes (readWord st (a + 4 * k) d).toNat 4).take n)) := by
  simp only [svcReadEffect, ha, bne_self_eq_false, Bool.false_eq_true, if_false, svcRead_words hp (by omega) hr]

theorem svcReadEffect_denied (ha : a % 4 = 0) (hn : n ≠ 0) (hp : d.svcMay 0 = false) :
    ∃ e, svcReadEffect a n st d = e.emit (.svcRead (zeros n)) ∧ d.Only [] [.field GEN_SVC_STAT_DENIED_SEEN] e ∧
      e.get GEN_SVC_STAT_DENIED_SEEN = 1 := by
  obtain ⟨hz, hk, hd⟩ := svcRead_denied (st := st) (a := a % 2 ^ 24) (m := (n + 3) / 4) hp
  refine ⟨_, ?_, hk, hd (.inl (by omega))⟩
  simp only [svcReadEffect, ha, bne_self_eq_false, Bool.false_eq_true, if_false, hz]
  rw [take_zeros (by omega)]

/-! The statement. -/

/-- The outcome of an effect that turns the device into `e` and records nothing. -/
theorem run_next {ps : List Part} {as : List Area} (f : Straps → Dev → Dev) {e : Dev} (h : Settled s)
    (he : f s.straps s.dev = e) (ho : s.dev.Only ps as e) (hq : Part.queue ∉ ps) : run f s = .next { s with dev := e } := by
  subst he
  exact run_quiet h ho hq

/-- The outcome of an effect that sends one thing after an update which sends and records nothing. -/
theorem run_sends {as : List Area} (f : Straps → Dev → Dev) {e : Dev} {o : Out} (h : Settled s)
    (he : f s.straps s.dev = e.emit o) (ho : s.dev.Only [] as e) :
    run f s = .next { s with dev := e.emit o } ∧ Only [.out] as s { s with dev := e.emit o } ∧
    (e.emit o).out = s.dev.out ++ [o] := by
  have hk : s.dev.Only [.out] as (e.emit o) := (ho.mono (by simp) fun _ => id).emit o (by simp)
  exact ⟨run_next f h he hk (by simp), ⟨rfl, rfl, hk⟩, by rw [Dev.emit_out_eq, ho.1 .out (by simp)]⟩

/-- While the device is held in a reset, a read of the service port answers zeros (R446). -/
theorem timeNowRead_held (hh : s.dev.held = true) (hset : Settled s) :
    AnswersWith (exec (.timeNowRead .service a .word) s) fun t =>
      if a % 4 = 0 then Only [.out] [] s t ∧ t.dev.out = s.dev.out ++ [.readValue (zeros 4)] else t = s := by
  have hs : accessSpan (a % 2 ^ 24) .word = if a % 4 = 0 then some (0, 4) else none := by
    simp [accessSpan]
  rw [exec_timeNowRead, runRead_held hh (by simp)]
  split
  case isTrue ha =>
    obtain ⟨ht, hk, hout⟩ := run_sends (fun _ d => d.readZeros .service (a % 2 ^ 24) .word) (o := .readValue (zeros 4)) hset
      (by simp only [Dev.readZeros, hs, ha, if_true]) (Dev.Only.refl ..)
    exact ⟨_, ht, hk, hout⟩
  case isFalse ha =>
    exact ⟨s, run_same hset (by simp only [Dev.readZeros, hs, ha, if_false]; exact wideRead_other (by decide)), rfl⟩

theorem servicePortRead_held {target : I2cTarget} (hh : s.dev.held = true) (hset : Settled s)
    (ht : svcTargeted s.straps target = true) :
    AnswersWith (exec (.servicePortRead target a n) s) fun t =>
      Only [.out] [] s t ∧ t.dev.out = s.dev.out ++ [.svcRead (zeros n)] := by
  obtain ⟨hr, hk, hout⟩ := run_sends (fun _ d => d.emit (.svcRead (zeros n))) hset rfl (Dev.Only.refl ..)
  exact ⟨_, exec_servicePortRead.trans ((runRead_held hh ht).trans hr), hk, hout⟩

end

/-- Settles O2, clause by clause: what the read makes of the device, and the frame of that. -/
theorem registerReads : Obligations.RegisterReads := by
  unfold Obligations.RegisterReads
  refine ⟨?timeNow, ?word, ?wide, ?noAccess, ?held, ?off, ?untargeted, ?address, ?svcWords, ?svcDenied, ?svcUnaligned⟩
  case timeNow =>
    intro s init width off n hon hm hs
    have he := readEffect_pos (by decide) hm hs
    rw [readReg_latches, readWord_timeNow, BitVec.toNat_ofNat, leBytes_mod s.dev.time.clk.ns 4] at he
    obtain ⟨ht, hk, hout⟩ := run_sends _ hon.2 he latchTime_only
    exact ⟨_, (exec_timeNowRead_on hon (.inr hm)).trans ht, hk, hout, latchTime_get⟩
  case word =>
    intro s init a width off n hon hm ha hne hs
    have he := readEffect_pos ha hm hs
    rw [exec_timeNowRead_on hon (.inr hm)]
    by_cases hr : (regAt a).isSome = true
    · rw [readReg_quiet hr hne] at he
      obtain ⟨ht, hk, hout⟩ := run_sends _ hon.2 he (Dev.Only.refl ..)
      exact ⟨_, ht, hout, by rwa [if_pos hr]⟩
    · have hnone : regAt a = none := by simpa using hr
      rw [readReg_none hnone] at he
      obtain ⟨ht, hk, hout⟩ := run_sends _ hon.2 he logAccess_only
      refine ⟨_, ht, hout, ?_⟩
      rw [if_neg hr]
      refine ⟨readWord_none hnone, hk, ?_⟩
      split
      case isTrue hv => exact show (s.dev.logAccess init a false false).rd GEN_ACC_ERR = _ by rw [logAccess_held hv]
      case isFalse hv => exact logAccess_takes hv ha
  case wide =>
    intro s init a width hon hm hs
    rw [exec_timeNowRead_on hon (.inr hm)]
    split
    case isTrue hi =>
      subst hi
      exact ⟨_, run_next _ hon.2 (readEffect_wide hs) wideRead_bar0_only (by simp), ⟨rfl, rfl, wideRead_bar0_only⟩, rfl, rfl⟩
    case isFalse hi => exact ⟨s, run_same hon.2 ((readEffect_wide hs).trans (wideRead_other hi)), rfl⟩
  case noAccess =>
    intro s init a width off n hon hm hs
    by_cases hi : init = .service
    · subst hi
      obtain ⟨ht, hk, hout⟩ := run_sends _ hon.2 (readEffect_denied hm hs) deniedSeen_only
      exact ⟨_, (exec_timeNowRead_on hon (.inl rfl)).trans ht, fun h => absurd rfl h,
        fun _ => ⟨hk, Dev.get_set_same _ _ 1 (by decide), hout⟩⟩
    · have hidle : exec (.timeNowRead init a width) s = .next s := by
        rw [exec_timeNowRead]
        exact runRead_idle (.inr (by simp [hi, hm]))
      exact ⟨s, hidle, fun _ => rfl, fun h => absurd h hi⟩
  case held =>
    intro s target a b n hp hset ht
    have hh : s.dev.held = true := by simpa [Dev.held] using hp
    exact ⟨servicePortRead_held hh hset ht, timeNowRead_held hh hset⟩
  case off =>
    intro s init target a n width hp
    have hoff : (s.dev.awake || s.dev.held) = false := by rcases hp with hp | hp <;> simp [Dev.awake, Dev.held, hp]
    exact ⟨exec_timeNowRead.trans (runRead_idle (.inl hoff)), exec_servicePortRead.trans (runRead_idle (.inl hoff))⟩
  case untargeted =>
    intro s target a n data ht
    exact ⟨exec_servicePortRead.trans (runRead_idle (.inr ht)), exec_servicePortWrite_untargeted ht⟩
  case address =>
    intro s k
    simp [svcTargeted]
  case svcWords =>
    intro s target a n hon ht ha hle hp hr
    have he := svcReadEffect_words (st := s.straps) ha hle hp hr
    obtain ⟨hrun, hk, hout⟩ := run_sends _ hon.2 he (Dev.Only.refl ..)
    exact ⟨_, (exec_servicePortRead_on hon ht).trans hrun, hk, hout⟩
  case svcDenied =>
    intro s target a n hon ht _ ha hn hp
    obtain ⟨e, he, honly, hd⟩ := svcReadEffect_denied (st := s.straps) ha hn hp
    obtain ⟨hrun, hk, hout⟩ := run_sends _ hon.2 he honly
    exact ⟨_, (exec_servicePortRead_on hon ht).trans hrun, hk, hd, hout⟩
  case svcUnaligned =>
    intro s target a n hon ht ha
    have he : run (svcReadEffect a n) s = run (fun _ d => d.svcNack) s := by simp [run, svcReadEffect, ha]
    rw [exec_servicePortRead_on hon ht, he]
    exact run_svcNack hon.2

end Sys2Proof.Machine
end

section
/-! SUPPORT. A counterexample to the statement that rows of one role do nothing in a device of the other: a NACK given while an
event waits outside the recorder's queue. -/

namespace Sys2Proof.Machine

/-- Every effect ends with no event outside the recorder's queue (R370). -/
theorem settled_of_run {f : Straps → Dev → Dev} {s t : State} (h : run f s = .next t) : Settled t := by
  obtain rfl := Host.Outcome.next.inj h
  exact settled_finish _

/-- A tile after power-on in which an event waits outside the recorder's queue, as none does between two commands of a run
from State.reset (`everyStepAnswers`). -/
def unsettledTile : State := { State.reset with dev := State.reset.dev.event State.reset.straps EV_GEN_READY 0 0 0 }

theorem not_settled_unsettledTile : ¬ Settled unsettledTile := by decide

/-- The service port has no WRITE_CFG after power-on, so its write of a sender's register gets a NACK (R448). -/
theorem exec_unsettledTile : exec (.hifPollEnable .service) unsettledTile = run (fun _ d => d.svcNack) unsettledTile := rfl

/-- Refutes O58: its third clause speaks of every state, and in `unsettledTile` the NACK of a sender's row at a tile also takes
the waiting event into the recorder's queue, so that the outcome is neither the same state nor within the frame of a NACK. -/
theorem not_rolesApart : ¬ Obligations.RolesApart := by
  unfold Obligations.RolesApart
  rintro ⟨-, -, refused, -, -⟩
  have hrow := refused unsettledTile (.hifPollEnable .service) (.inr ⟨rfl, rfl⟩)
  rw [exec_unsettledTile] at hrow
  obtain hsame | ⟨t, ht, ⟨-, -, hparts, -⟩, -⟩ := hrow
  · exact not_settled_unsettledTile (settled_of_run hsame)
  · obtain ⟨-, hfresh, -⟩ := hparts .queue (by decide)
    exact not_settled_unsettledTile (hfresh.symm.trans (settled_of_run ht))

end Sys2Proof.Machine
end

section
/-! SUPPORT. The relation that both invariants of the machine pass along, from a device to the one that an update makes of it;
what a change of one part asks for. -/

namespace Sys2Proof.Machine

section
variable {α : Type} [DecidableEq α] {dflt : Nat → α} {c : Cells α}

theorem Cells.wfFrom_iff {l : Nat} : Cells.wfFrom dflt (some l) c = true ↔
    (∀ e ∈ c, l < e.1) ∧ c.Pairwise (fun x y => x.1 < y.1) ∧ ∀ e ∈ c, e.2 ≠ dflt e.1 := by
  induction c generalizing l with
  | nil => simp [Cells.wfFrom]
  | cons x c ih =>
    simp only [Cells.wfFrom, Bool.and_eq_true, decide_eq_true_eq, ih, List.pairwise_cons, List.forall_mem_cons]
    constructor
    · rintro ⟨⟨hl, hv⟩, hx, hp, hc⟩
      exact ⟨⟨hl, fun e he => hl.trans (hx e he)⟩, ⟨hx, hp⟩, hv, hc⟩
    · rintro ⟨⟨hl, -⟩, ⟨hx, hp⟩, hv, hc⟩
      exact ⟨⟨hl, hv⟩, hx, hp, hc⟩

/-- The canonical form: addresses strictly rise, and no entry equals what an unlisted address reads as. -/
theorem Cells.wf_iff : Cells.wf dflt c = true ↔ c.Pairwise (fun x y => x.1 < y.1) ∧ ∀ e ∈ c, e.2 ≠ dflt e.1 := by
  cases c with
  | nil => simp [Cells.wf, Cells.wfFrom]
  | cons x c =>
    simp only [Cells.wf, Cells.wfFrom, Bool.true_and, Bool.and_eq_true, decide_eq_true_eq, wfFrom_iff, List.pairwise_cons,
      List.forall_mem_cons]
    tauto

theorem Cells.wf_filter (p : Nat × α → Bool) (h : Cells.wf dflt c = true) : Cells.wf dflt (c.filter p) = true := by
  rw [wf_iff] at h ⊢
  exact ⟨h.1.filter p, fun e he => h.2 e (List.mem_filter.mp he).1⟩

theorem Cells.wf_filterMap_range {g : Nat → Option (Nat × α)} (hg : ∀ n e, g n = some e → e.1 = n ∧ e.2 ≠ dflt e.1) (n : Nat) :
    Cells.wf dflt ((List.range n).filterMap g) = true := by
  refine wf_iff.mpr ⟨?_, fun e he => ?_⟩
  · refine List.pairwise_filterMap.mpr (List.pairwise_lt_range.imp fun {i j} hij a ha b hb => ?_)
    rw [(hg i a ha).1, (hg j b hb).1]
    exact hij
  · obtain ⟨i, -, hi⟩ := List.mem_filterMap.mp he
    exact (hg i e hi).2
end

/-- The parts of the device that the invariants speak of; the rest as after reset. -/
abbrev Dev.core (d : Dev) : Dev :=
  { Dev.init with
    regs := d.regs
    time := { TimeSt.init with inst := d.time.inst, surveys := d.time.surveys }
    ports := d.ports
    host := { Dev.init.host with hostIdx := d.host.hostIdx }
    tile := { Dev.init.tile with eff := d.tile.eff, front := d.tile.front, back := d.tile.back }
    diag := { Dev.init.diag with
      last := d.diag.last, tested := d.diag.tested, agree := d.diag.agree, vcol := d.diag.vcol, pin := d.diag.pin }
    nvm := { Dev.init.nvm with
      manifest := d.nvm.manifest, mgmt := d.nvm.mgmt, ucode := d.nvm.ucode, cal := d.nvm.cal, coef := d.nvm.coef,
      coefSeq := d.nvm.coefSeq, settings := d.nvm.settings, safe := d.nvm.safe }
    rcd := { Dev.init.rcd with slots := d.rcd.slots, checks := d.rcd.checks }
    crc := d.crc }

/-- From `d` to `e` both invariants of the machine pass. -/
def Dev.Kept (d e : Dev) : Prop := (Shaped d → Shaped e) ∧ (Canonical d → Canonical e)

/-- A port that has its two lanes and five packet queues. -/
abbrev PortSt.Shaped (p : PortSt) : Prop := p.lanes.length = 2 ∧ p.txq.length = 5

/-- The eMRAM has two slots of each kind. -/
abbrev NvmSt.Shaped (t : NvmSt) : Prop :=
  t.mgmt.length = 2 ∧ t.cal.length = 2 ∧ t.coef.length = 2 ∧ t.coefSeq.length = 2 ∧ t.settings.length = 2 ∧
  t.safe.length = 2 ∧ t.manifest.length = 2 ∧ t.ucode.length = 2

/-- Both halves of the frame store are in canonical form. -/
abbrev TileSt.Canonical (t : TileSt) : Prop := Cells.wf (fun _ => 0) t.front = true ∧ Cells.wf (fun _ => 0) t.back = true

/-- The five stores of what the lamp tests have found are in canonical form. -/
abbrev DiagSt.Canonical (t : DiagSt) : Prop :=
  Cells.wf (fun _ => 0) t.last = true ∧ Cells.wf (fun _ => 0) t.tested = true ∧ Cells.wf (fun _ => 0) t.agree = true ∧
  Cells.wf (fun _ => 0) t.vcol = true ∧ Cells.wf (fun _ => 0) t.pin = true

/-- Both stores of the recorder are in canonical form. -/
abbrev RecSt.Canonical (t : RecSt) : Prop :=
  Cells.wf recSlotDflt t.slots = true ∧ Cells.wf recCheckDflt t.checks = true

section
variable {d e c : Dev} {α : Type} {x n k : Nat}

/-- Every device stands in the relation to itself. -/
theorem Dev.kept (d : Dev) : d.Kept d := ⟨id, id⟩

theorem Dev.Kept.trans (h : d.Kept e) (h' : e.Kept c) : d.Kept c := ⟨h'.1 ∘ h.1, h'.2 ∘ h.2⟩

theorem Dev.Kept.ite {p : Prop} [Decidable p] {a b : Dev} (ha : d.Kept a) (hb : d.Kept b) : d.Kept (if p then a else b) := by
  split <;> assumption

theorem Dev.Kept.iteSnd {β : Type} {p : Prop} [Decidable p] {a b : β × Dev} (ha : d.Kept a.2) (hb : d.Kept b.2) :
    d.Kept (if p then a else b).2 := by
  split <;> assumption

theorem Dev.Kept.foldl {l : List α} {f : Dev → α → Dev} (h : d.Kept e) (hf : ∀ (c : Dev) x, c.Kept (f c x)) :
    d.Kept (l.foldl f e) := by
  induction l generalizing e with
  | nil => exact h
  | cons x l ih => exact ih (h.trans (hf e x))

theorem Dev.Kept.each {l : List α} {f : Dev → α → Dev} (h : d.Kept e) (hf : ∀ (c : Dev) x, c.Kept (f c x)) :
    d.Kept (e.each l f) := h.foldl hf

/-- An update of parts that neither invariant speaks of. -/
theorem Dev.Kept.same (h : d.Kept e) (hc : c.core = e.core) : d.Kept c := by
  refine ⟨fun hd => ?_, fun hd => ?_⟩
  · have hs : Shaped e.core := h.1 hd
    rwa [← hc] at hs
  · have hs : Canonical e.core := h.2 hd
    rwa [← hc] at hs

/-! An update of one part that an invariant speaks of, and of others that none speaks of. -/

theorem Dev.Kept.regs (h : d.Kept e) (hc : c.core = { e with regs := c.regs }.core)
    (hr : Cells.wf regReset e.regs = true → Cells.wf regReset c.regs = true) : d.Kept c := by
  refine .same (e := { e with regs := c.regs }) ⟨h.1, fun hd => ?_⟩ hc
  obtain ⟨hg, hrest⟩ := h.2 hd
  exact ⟨hr hg, hrest⟩

theorem Dev.Kept.eff (h : d.Kept e) (hc : c.core = { e with tile.eff := c.tile.eff }.core)
    (hr : Cells.wf regReset e.tile.eff = true → Cells.wf regReset c.tile.eff = true) : d.Kept c := by
  refine .same (e := { e with tile.eff := c.tile.eff }) ⟨h.1, fun hd => ?_⟩ hc
  obtain ⟨hg, he, hrest⟩ := h.2 hd
  exact ⟨hg, hr he, hrest⟩

theorem Dev.Kept.halves (h : d.Kept e) (hc : c.core = { e with tile.front := c.tile.front, tile.back := c.tile.back }.core)
    (hr : e.tile.Canonical → c.tile.Canonical) : d.Kept c := by
  refine .same (e := { e with tile.front := c.tile.front, tile.back := c.tile.back }) ⟨h.1, fun hd => ?_⟩ hc
  obtain ⟨hg, he, hf, hb, hrest⟩ := h.2 hd
  exact ⟨hg, he, (hr ⟨hf, hb⟩).1, (hr ⟨hf, hb⟩).2, hrest⟩

theorem Dev.Kept.diag (h : d.Kept e) (hc : c.core = { e with diag := c.diag }.core)
    (hr : e.diag.Canonical → c.diag.Canonical) : d.Kept c := by
  refine .same (e := { e with diag := c.diag }) ⟨h.1, fun hd => ?_⟩ hc
  obtain ⟨hg, he, hf, hb, hl, ht, ha, hv, hp, hrest⟩ := h.2 hd
  obtain ⟨hl', ht', ha', hv', hp'⟩ := hr ⟨hl, ht, ha, hv, hp⟩
  exact ⟨hg, he, hf, hb, hl', ht', ha', hv', hp', hrest⟩

theorem Dev.Kept.record (h : d.Kept e) (hc : c.core = { e with rcd := c.rcd }.core)
    (hr : e.rcd.Canonical → c.rcd.Canonical) : d.Kept c := by
  refine .same (e := { e with rcd := c.rcd }) ⟨h.1, fun hd => ?_⟩ hc
  obtain ⟨hg, he, hf, hb, hl, ht, ha, hv, hp, hrest⟩ := h.2 hd
  exact ⟨hg, he, hf, hb, hl, ht, ha, hv, hp, hr hrest⟩

theorem Dev.Kept.surveys (h : d.Kept e) (hc : c.core = { e with time.surveys := c.time.surveys }.core)
    (hs : c.time.surveys.length = e.time.surveys.length) : d.Kept c := by
  refine .same (e := { e with time.surveys := c.time.surveys }) ⟨fun hd => ?_, h.2⟩ hc
  obtain ⟨hp, hl, h4, hrest⟩ := h.1 hd
  exact ⟨hp, hl, hs.trans h4, hrest⟩

theorem Dev.Kept.inst (h : d.Kept e) (hc : c.core = { e with time.inst := c.time.inst }.core)
    (hs : c.time.inst.length = e.time.inst.length) : d.Kept c := by
  refine .same (e := { e with time.inst := c.time.inst }) ⟨fun hd => ?_, h.2⟩ hc
  obtain ⟨hp, hl, h4, h2, hrest⟩ := h.1 hd
  exact ⟨hp, hl, h4, hs.trans h2, hrest⟩

theorem Dev.Kept.hostIdx (h : d.Kept e) (hc : c.core = { e with host.hostIdx := c.host.hostIdx }.core)
    (hs : e.host.hostIdx.length = 5 → c.host.hostIdx.length = 5) : d.Kept c := by
  refine .same (e := { e with host.hostIdx := c.host.hostIdx }) ⟨fun hd => ?_, h.2⟩ hc
  obtain ⟨hp, hl, h4, h2, h5, hrest⟩ := h.1 hd
  exact ⟨hp, hl, h4, h2, hs h5, hrest⟩

theorem Dev.Kept.crc (h : d.Kept e) (hc : c.core = { e with crc := c.crc }.core) (hs : c.crc.length = e.crc.length) :
    d.Kept c := by
  refine .same (e := { e with crc := c.crc }) ⟨fun hd => ?_, h.2⟩ hc
  obtain ⟨hp, hl, h4, h2, h5, h8, hrest⟩ := h.1 hd
  exact ⟨hp, hl, h4, h2, h5, hs.trans h8, hrest⟩

theorem Dev.Kept.nvm (h : d.Kept e) (hc : c.core = { e with nvm := c.nvm }.core) (hs : e.nvm.Shaped → c.nvm.Shaped) :
    d.Kept c := by
  refine .same (e := { e with nvm := c.nvm }) ⟨fun hd => ?_, h.2⟩ hc
  obtain ⟨hp, hl, h4, h2, h5, h8, hn⟩ := h.1 hd
  exact ⟨hp, hl, h4, h2, h5, h8, hs hn⟩

theorem Dev.Kept.ports (h : d.Kept e) (hc : c.core = { e with ports := c.ports }.core)
    (hs : e.ports.length = 4 ∧ (∀ q ∈ e.ports, q.Shaped) → c.ports.length = 4 ∧ ∀ q ∈ c.ports, q.Shaped) : d.Kept c := by
  refine .same (e := { e with ports := c.ports }) ⟨fun hd => ?_, h.2⟩ hc
  obtain ⟨hp, hl, hrest⟩ := h.1 hd
  exact ⟨(hs ⟨hp, hl⟩).1, (hs ⟨hp, hl⟩).2, hrest⟩

theorem Dev.Kept.setSlots {kind : Nat} {l : List NvmSlot} (h : d.Kept e) (hn : l.length = (e.slots kind).length) :
    d.Kept (e.setSlots kind l) := by
  unfold Dev.setSlots
  unfold Dev.slots at hn
  split at hn
  · exact h.nvm rfl fun ⟨hm, hl, hrest⟩ => ⟨hm, hn.trans hl, hrest⟩
  · exact h.nvm rfl fun ⟨hm, hl, hf, hrest⟩ => ⟨hm, hl, hn.trans hf, hrest⟩
  · exact h.nvm rfl fun ⟨hm, hl, hf, hq, ht, hrest⟩ => ⟨hm, hl, hf, hq, hn.trans ht, hrest⟩
  · exact h.nvm rfl fun ⟨hm, hl, hf, hq, ht, ha, hrest⟩ => ⟨hm, hl, hf, hq, ht, hn.trans ha, hrest⟩
  · exact h.nvm rfl fun ⟨hm, hl, hf, hq, ht, ha, hma, hu⟩ => ⟨hm, hl, hf, hq, ht, ha, hn.trans hma, hu⟩
  · exact h.nvm rfl fun ⟨hm, hrest⟩ => ⟨hn.trans hm, hrest⟩
  · exact h.nvm rfl fun ⟨hm, hl, hf, hq, ht, ha, hma, hu⟩ => ⟨hm, hl, hf, hq, ht, ha, hma, hn.trans hu⟩
  · exact h

/-- Slots of a kind are changed one at a time. -/
theorem Dev.Kept.modSlot {kind : Nat} {f : NvmSlot → NvmSlot} (h : d.Kept e) :
    d.Kept (e.setSlots kind (modAt (e.slots kind) k f)) := h.setSlots (List.length_modify ..)

/-- Every port is changed. -/
theorem Dev.Kept.mapPorts {f : PortSt → PortSt} (h : d.Kept e)
    (hf : ∀ p : PortSt, (f p).lanes.length = p.lanes.length ∧ (f p).txq.length = p.txq.length) :
    d.Kept { e with ports := e.ports.map f } := by
  refine h.ports rfl fun ⟨h4, hp⟩ => ⟨(List.length_map ..).trans h4, fun p hm => ?_⟩
  obtain ⟨q, hq, rfl⟩ := List.mem_map.mp hm
  exact ⟨(hf q).1.trans (hp q hq).1, (hf q).2.trans (hp q hq).2⟩

/-- One port gets other lanes or queues. -/
theorem Dev.Kept.changePort {f : PortSt → PortSt} (h : d.Kept e)
    (hf : (∀ q ∈ e.ports, q.Shaped) → ∀ p : PortSt, p.Shaped → (f p).Shaped) : d.Kept (e.modPort x f) := by
  refine h.ports rfl fun ⟨h4, hp⟩ => ⟨(List.length_modify ..).trans h4, fun p hm => ?_⟩
  obtain ⟨i, hi, rfl⟩ := List.getElem_of_mem hm
  simp only [Dev.modPort, modAt, List.getElem_modify]
  split
  · exact hf hp _ (hp _ (List.getElem_mem _))
  · exact hp _ (List.getElem_mem _)

/-- One port is changed. -/
theorem Dev.Kept.modPort {f : PortSt → PortSt} (h : d.Kept e)
    (hf : ∀ p : PortSt, (f p).lanes.length = p.lanes.length ∧ (f p).txq.length = p.txq.length) : d.Kept (e.modPort x f) :=
  h.changePort fun _ p hp => ⟨(hf p).1.trans hp.1, (hf p).2.trans hp.2⟩

end
end Sys2Proof.Machine
end

section
/-! SUPPORT. Both invariants pass along every update. The wires and the words of the device. -/

namespace Sys2Proof.Machine

variable {d e : Dev} {x n a : Nat} {v : Word} {f : Fld}

theorem Dev.Kept.wr (h : d.Kept e) : d.Kept (e.wr a v) := h.regs rfl (Cells.wf_write _ _ _ _)
theorem Dev.Kept.set {v : Nat} (h : d.Kept e) : d.Kept (e.set f v) := h.wr
theorem Dev.Kept.setb {b : Bool} (h : d.Kept e) : d.Kept (e.setb f b) := h.set
theorem Dev.Kept.seti {v : Int} (h : d.Kept e) : d.Kept (e.seti f v) := h.set
theorem Dev.Kept.add (h : d.Kept e) : d.Kept (e.add f n) := h.set
theorem Dev.Kept.addSat (h : d.Kept e) : d.Kept (e.addSat f n) := h.set

theorem Dev.Kept.setAll {l : List (Fld × Nat)} (h : d.Kept e) : d.Kept (e.setAll l) := by
  induction l generalizing e with
  | nil => exact h
  | cons x l ih => exact ih h.set

end Sys2Proof.Machine
end

section
/-! SUPPORT. Both invariants pass along every update. Draws, registers, counters, events and the work of the tick. -/

namespace Sys2Proof.Machine

variable {d e : Dev} {st : Straps} {x n p0 p1 p2 c : Nat} {v : Word} {e' : EvCode}

theorem Dev.Kept.setTime {ns sl sh : Fld} {t : Nat} (h : d.Kept e) : d.Kept (e.setTime ns sl sh t) := h.setAll
theorem Dev.Kept.emit {o : Out} (h : d.Kept e) : d.Kept (e.emit o) := h.same rfl

theorem Dev.Kept.modLane {f : LaneSt → LaneSt} (h : d.Kept e) : d.Kept (e.modLane x n f) :=
  h.modPort (by simp [modAt])

theorem Dev.Kept.draw (h : d.Kept e) : d.Kept (e.draw n).2 := h.same rfl
theorem Dev.Kept.note {r : EventRec} (h : d.Kept e) : d.Kept (e.note r) := h.same rfl
theorem Dev.Kept.eventF {flags : Nat} (h : d.Kept e) : d.Kept (e.eventF st e' flags p0 p1 p2) := h.note
theorem Dev.Kept.event (h : d.Kept e) : d.Kept (e.event st e' p0 p1 p2) := h.eventF
theorem Dev.Kept.eventIf {b : Bool} (h : d.Kept e) : d.Kept (e.eventIf st b e' p0 p1 p2) := .ite h.event h

theorem Dev.Kept.enqueue {r : EventRec} (h : d.Kept e) : d.Kept (e.enqueue r) := by
  unfold Dev.enqueue
  split
  · exact h
  · refine Dev.Kept.add ?_
    split <;> exact h.same rfl

theorem Dev.Kept.finish (h : d.Kept e) : d.Kept e.finish := by
  unfold Dev.finish
  split
  · exact h
  · exact (h.same (by rfl)).each fun c _ => c.kept.enqueue

theorem Dev.Kept.svcNack (h : d.Kept e) : d.Kept e.svcNack := h.addSat.emit
theorem Dev.Kept.shadowWrite (h : d.Kept e) : d.Kept e.shadowWrite := h.same rfl
theorem Dev.Kept.freshShadow (h : d.Kept e) : d.Kept e.freshShadow := .ite h.shadowWrite h
theorem Dev.Kept.sendMessage {v : Nat} (h : d.Kept e) : d.Kept (e.sendMessage v) := h.freshShadow.same rfl
theorem Dev.Kept.sendVector {v : Nat} (h : d.Kept e) : d.Kept (e.sendVector v) := .ite (h.same (by rfl)) h.sendMessage
theorem Dev.Kept.signal (h : d.Kept e) : d.Kept (e.signal c) := h.sendVector.set.same rfl
theorem Dev.Kept.raise (h : d.Kept e) : d.Kept (e.raise c) := .ite h (.ite h.signal (h.same (by rfl)))
theorem Dev.Kept.raiseIf (h : d.Kept e) : d.Kept (e.raiseIf st c) := .ite h.raise h
theorem Dev.Kept.complete {c : Cpl} (h : d.Kept e) : d.Kept (e.complete c) := h.same rfl

end Sys2Proof.Machine
end

section
/-! SUPPORT. Both invariants pass along every update. The eMRAM. -/

namespace Sys2Proof.Machine

variable {d e : Dev} {n : Nat} {area : Option NvmArea}

theorem Dev.Kept.writeFails (h : d.Kept e) : d.Kept (e.writeFails).2 := h.same rfl
theorem Dev.Kept.countWrite (h : d.Kept e) : d.Kept e.countWrite := h.same rfl
theorem Dev.Kept.clearBad (h : d.Kept e) : d.Kept (e.clearBad area) := h.same rfl
theorem Dev.Kept.clearBadIn {off : Nat} (h : d.Kept e) : d.Kept (e.clearBadIn area off n) := h.same rfl
theorem Dev.Kept.nvmRead (h : d.Kept e) : d.Kept e.nvmRead := h.draw.addSat

theorem Dev.Kept.writeSlot {kind slot : Nat} {bytes : List Byte} (h : d.Kept e) : d.Kept (e.writeSlot kind slot bytes) :=
  h.modSlot.clearBad.countWrite

theorem Dev.Kept.commitSlot {kind slot seq : Nat} (h : d.Kept e) : d.Kept (e.commitSlot kind slot seq) :=
  h.modSlot.clearBad.countWrite

theorem Dev.Kept.cutLoader (h : d.Kept e) : d.Kept e.cutLoader := by
  unfold Dev.cutLoader
  split
  · exact h
  · exact h.same rfl

theorem Dev.Kept.commitObject {kind : Nat} {bytes : List Byte} (h : d.Kept e) : d.Kept (e.commitObject kind bytes) :=
  h.writeSlot.commitSlot

end Sys2Proof.Machine
end

section
/-! SUPPORT. Both invariants pass along every update. Memory errors. -/

namespace Sys2Proof.Machine

variable {d e : Dev} {st : Straps} {n mem unit : Nat} {item : SramItem}

theorem Dev.Kept.memRewrite {p : BadByte → Bool} (h : d.Kept e) : d.Kept (e.memRewrite p) := h.same rfl
theorem Dev.Kept.memInject (h : d.Kept e) : d.Kept (e.memInject mem unit item) := .ite (h.same (by rfl)) h
theorem Dev.Kept.memWrite (h : d.Kept e) : d.Kept (e.memWrite mem unit item) := h.memRewrite.memInject
theorem Dev.Kept.memWriteAll (h : d.Kept e) : d.Kept (e.memWriteAll mem n item) := h.each fun c _ => c.kept.memWrite
theorem Dev.Kept.memWrites (h : d.Kept e) : d.Kept (e.memWrites mem n) := h.memWriteAll
theorem Dev.Kept.enginesWork (h : d.Kept e) : d.Kept e.enginesWork := (h.same (by rfl)).memWrites
theorem Dev.Kept.reloadEngine (h : d.Kept e) : d.Kept (e.reloadEngine unit) := h.same rfl

theorem Dev.Kept.logParity {offset : Nat} (h : d.Kept e) : d.Kept (e.logParity st mem unit offset) :=
  (Dev.Kept.ite h.memRewrite.add h.memRewrite.add.setAll).event

theorem Dev.Kept.logFound {l : List BadByte} (h : d.Kept e) : d.Kept (e.logFound st l) := h.each fun c _ => c.kept.logParity
theorem Dev.Kept.noteRate (h : d.Kept e) : d.Kept e.noteRate := .ite (h.same (by rfl)).setAll h.setAll

end Sys2Proof.Machine
end

section
/-! SUPPORT. Both invariants pass along every update. The source of the frames. -/

namespace Sys2Proof.Machine

variable {d e : Dev} {st : Straps} {p : List Byte}

theorem Dev.Kept.showAccepted (h : d.Kept e) : d.Kept e.showAccepted := by
  unfold Dev.showAccepted
  split
  · exact h.setAll
  · exact h.setAll

theorem Dev.Kept.changeSource {new : Option Source} (h : d.Kept e) : d.Kept (e.changeSource st new) :=
  (h.event.addSat.same (by rfl)).showAccepted

theorem Dev.Kept.noteSource (h : d.Kept e) : d.Kept (e.noteSource p) := h.same rfl
theorem Dev.Kept.passSource (h : d.Kept e) : d.Kept (e.passSource p) := .ite (.ite h.noteSource.showAccepted h.noteSource) h

theorem Dev.Kept.hearSender (h : d.Kept e) : d.Kept (e.hearSender st p) := by
  unfold Dev.hearSender
  split
  · exact h
  · dsimp only
    split
    · split
      · exact h.noteSource.changeSource
      · exact h.noteSource
    · split
      · exact .ite h.noteSource.changeSource h.noteSource.showAccepted
      · exact h.noteSource.showAccepted

theorem Dev.Kept.loseSource (h : d.Kept e) : d.Kept (e.loseSource st) := by
  unfold Dev.loseSource
  split
  · exact h
  · exact .ite h h.changeSource

end Sys2Proof.Machine
end

section
/-! SUPPORT. Both invariants pass along every update. Packets and cells. -/

namespace Sys2Proof.Machine

variable {d e : Dev} {st : Straps} {x y residence s : Nat} {cells : List (List Byte)} {slots : List (Option (List Byte))}
  {cell : List Byte} {r : Reasm}

theorem Dev.Kept.slotSent {lanes : List LaneSt} (h : d.Kept e) (hn : lanes.length = 2) : d.Kept (e.slotSent x lanes) :=
  h.changePort fun _ _ hp => ⟨hn, hp.2⟩

theorem Dev.Kept.putPair {cells : List (List Byte)} (h : d.Kept e) : d.Kept (e.putPair st x cells) :=
  ((h.slotSent rfl).modPort (by simp)).emit

theorem Dev.Kept.emitPair (h : d.Kept e) : d.Kept (e.emitPair st x cells) := .ite h.putPair h

theorem Dev.Kept.emitTraining {go : Bool} {cd : Nat} (h : d.Kept e) : d.Kept (e.emitTraining st x go cd) :=
  .ite h (h.slotSent rfl).emit

theorem Dev.Kept.recordSent {seq : Nat} (h : d.Kept e) : d.Kept (e.recordSent seq) := .ite h.set h
theorem Dev.Kept.discardDue (h : d.Kept e) : d.Kept (e.discardDue y) := h.modPort (by simp)

theorem Dev.Kept.sendSlots (h : d.Kept e) : d.Kept (e.sendSlots st y slots) :=
  .ite h.discardDue ((h.modPort (by simp)).each (fun c _ => c.kept.recordSent)).putPair

theorem Dev.Kept.sendNext (h : d.Kept e) : d.Kept (e.sendNext st y) := (h.modPort (by simp)).sendSlots
theorem Dev.Kept.drain (h : d.Kept e) : d.Kept (e.drain st y) := h.each fun c _ => c.kept.sendNext

theorem Dev.Kept.queueOwn {e' : OwnPkt} (h : d.Kept e) : d.Kept (e.queueOwn st y e') :=
  .ite (h.modPort (by simp)) (h.modPort (by simp)).drain

theorem Dev.Kept.sendOwn {prec : Nat} {pkt : List Byte} (h : d.Kept e) : d.Kept (e.sendOwn st y prec pkt) := h.queueOwn

theorem Dev.Kept.respond {cmd data : List Byte} {status value off : Nat} (h : d.Kept e) :
    d.Kept (e.respond st cmd status value off data) := .ite h h.queueOwn

theorem Dev.Kept.sendCells (h : d.Kept e) : d.Kept (e.sendCells st x cells) :=
  (h.modPort (by simp)).each fun c _ => c.kept.emitPair

theorem Dev.Kept.startTx {pkt : TxPkt} (h : d.Kept e) : d.Kept (e.startTx st x pkt) := by
  unfold Dev.startTx
  split
  · exact (h.modPort (by simp)).sendCells
  · extract_lets cells d1 _ d2 d3
    have h1 : d.Kept d1 := h.modPort (by simp)
    have h2 : d.Kept d2 := by
      unfold d2
      split
      · exact h1.same rfl
      · exact h1
    have h3 : d.Kept d3 := .ite h2.add h2
    exact h3.sendCells

theorem Dev.Kept.dropBlock {i : SramItem} (h : d.Kept e) : d.Kept (e.dropBlock i) :=
  h.mapPorts (by simp [PortSt.without, modAt])

theorem Dev.Kept.readNext (h : d.Kept e) : d.Kept (e.readNext st x) := by
  unfold Dev.readNext
  split
  · exact h
  · split
    · exact h
    · exact h.logFound.dropBlock

theorem pickTx_length {q : List (List TxPkt)} {p : TxPkt} {r : List (List TxPkt)} (h : pickTx q = some (p, r)) :
    r.length = q.length := by
  induction q generalizing r with
  | nil => exact nomatch h
  | cons c rest ih =>
    cases c with
    | nil =>
      simp only [pickTx, Option.map_eq_some_iff, Prod.mk.injEq, Prod.exists] at h
      obtain ⟨_, r', hr, rfl, rfl⟩ := h
      simp [ih hr]
    | cons => simp only [pickTx, Option.some.injEq, Prod.mk.injEq] at h; simp [← h.2]

theorem Dev.port_txq_length (hp : ∀ q ∈ d.ports, q.Shaped) : (d.port x).txq.length = 5 := by
  unfold Dev.port nth
  rw [List.getD_eq_getElem?_getD]
  cases hx : d.ports[x]? with
  | none => rfl
  | some q => exact (hp q (List.mem_of_getElem? hx)).2

theorem Dev.Kept.txNext (h : d.Kept e) : d.Kept (e.txNext st x) := by
  unfold Dev.txNext
  split
  case h_1 => exact h
  case h_2 =>
    extract_lets d1
    have h1 : d.Kept d1 := h.each fun c _ => c.kept.readNext
    split
    case h_1 => exact h1.sendCells
    case h_2 p q hq =>
      refine .ite h1.sendCells (Dev.Kept.startTx ?_)
      exact h1.changePort fun hall o ho => ⟨ho.1, (pickTx_length hq).trans (port_txq_length hall)⟩

theorem Dev.Kept.parkTx {cls : Nat} {pkt : TxPkt} (h : d.Kept e) : d.Kept (e.parkTx x cls pkt) :=
  h.modPort (by simp [modAt])

theorem Dev.Kept.queueTx {cls : Nat} {pkt : TxPkt} (h : d.Kept e) : d.Kept (e.queueTx st x cls pkt) := .ite h h.parkTx.txNext

theorem Dev.Kept.stopFeeding (h : d.Kept e) : d.Kept (e.stopFeeding x) := by
  refine Dev.Kept.same (e := e.modPort x _) ?_ rfl
  exact h.modPort (by simp [modAt])

theorem Dev.Kept.forwardSop (h : d.Kept e) : d.Kept (forwardSop x residence cell e).2 := by
  unfold Machine.forwardSop
  dsimp only
  split
  · exact h
  · split
    · exact h.same rfl
    · split
      · exact h.same rfl
      · split
        · exact h
        · exact h

theorem Dev.Kept.arrived {bytes : List Byte} (h : d.Kept e) : d.Kept (e.arrived st x r bytes) :=
  .ite h.hearSender (.ite h (h.same (by rfl)))

theorem Dev.Kept.dropReasm (h : d.Kept e) : d.Kept (e.dropReasm x s) := h.modPort (by simp)
theorem Dev.Kept.endRoute (h : d.Kept e) : d.Kept (e.endRoute x s) := h.modPort (by simp)

theorem Dev.Kept.addCell (h : d.Kept e) : d.Kept (e.addCell st x r cell) :=
  .ite h.dropReasm.add (.ite h.dropReasm.arrived (h.dropReasm.modPort (by simp)))

theorem Dev.Kept.takeSop (h : d.Kept e) : d.Kept (e.takeSop st x cell) := by
  unfold Dev.takeSop
  extract_lets s p d1 d2 d3 d4
  have h1 : d.Kept d1 := .ite h.dropReasm.add h
  have h2 : d.Kept d2 := .ite h1.add h1
  have h3 : d.Kept d3 := (Dev.Kept.ite h2.passSource h2).endRoute
  have h4 : d.Kept d4 := .ite h3 (h3.modPort (by simp))
  exact .ite h4.addCell h4

theorem Dev.Kept.takeNext (h : d.Kept e) : d.Kept (e.takeNext st x cell) := by
  unfold Dev.takeNext
  dsimp only
  split
  · refine Dev.Kept.endRoute ?_
    split
    · split
      · exact h.addCell
      · exact h
    · exact (h.modPort (by simp)).add
  · split
    · split
      · exact h.addCell
      · exact h
    · exact (h.modPort (by simp)).add

theorem Dev.Kept.takeCell (h : d.Kept e) : d.Kept (e.takeCell st x residence cell).2 := by
  unfold Dev.takeCell
  split
  · exact h.add
  · split
    · exact h
    · split
      · dsimp only
        split
        · exact h.takeSop.forwardSop
        · exact h.takeSop
      · dsimp only
        split
        · exact h.takeNext
        · exact h.takeNext

theorem Dev.Kept.takeCells {residence : Nat} {cells : List (List Byte)} (h : d.Kept e) :
    d.Kept (e.takeCells st x residence cells).2 := by
  induction cells generalizing e with
  | nil => exact h
  | cons c cs ih => exact ih h.takeCell

theorem Dev.Kept.relayPair (h : d.Kept e) : d.Kept (e.relayPair st y slots) :=
  .ite h.discardDue (.ite (h.modPort (by simp)).add.sendSlots (h.modPort (by simp)).add)

theorem Dev.Kept.fillLine (h : d.Kept e) : d.Kept (e.fillLine st x) :=
  .ite h (.ite (.ite h.sendNext h) (.ite h (.ite h.putPair (.ite h.emitTraining h))))

end Sys2Proof.Machine
end

section
/-! SUPPORT. Both invariants pass along every update. The recorder. -/

namespace Sys2Proof.Machine

variable {d e : Dev} {st : Straps} {n src : Nat} {bytes : List Byte}

theorem Dev.Kept.skipUnsent (h : d.Kept e) : d.Kept e.skipUnsent := .ite h.addSat.set h

theorem Dev.Kept.writeRecord {r : EventRec} (h : d.Kept e) : d.Kept (e.writeRecord st r) := by
  unfold Dev.writeRecord
  extract_lets seq r bytes _ _ d1 d2
  have h1 : d.Kept d1 := h.record rfl fun ⟨hs, hk⟩ => ⟨by simp [d1, Cells.wf_write, hs], by simp [d1, Cells.wf_write, hk]⟩
  have h2 : d.Kept d2 := h1.setAll
  exact .ite (.ite (h2.same rfl) (h2.same rfl)) h2.skipUnsent

theorem Dev.Kept.reportLost (h : d.Kept e) : d.Kept (e.reportLost st) := .ite h (h.same (by rfl))
theorem Dev.Kept.opRecRdSeq {s : Nat} (h : d.Kept e) : d.Kept (e.opRecRdSeq s) := h.setAll.each fun c _ => c.kept.set

theorem Dev.Kept.recClearNow {tseq : Nat} (h : d.Kept e) : d.Kept (e.recClearNow st tseq) := by
  unfold Dev.recClearNow
  refine Dev.Kept.writeRecord (Dev.Kept.set ?_)
  exact h.record rfl fun hc => ⟨hc.1, rfl⟩

theorem Dev.Kept.modCrc {f : CrcUnit → CrcUnit} (h : d.Kept e) : d.Kept (e.modCrc n f) :=
  h.crc rfl (List.length_modify ..)

theorem Dev.Kept.native {f : Dev → Dev} (h : d.Kept e) (hf : ∀ (c : Dev), c.Kept (f c)) : d.Kept (e.native st n f) :=
  .ite h (.ite h.set (h.trans (hf _)))

theorem Dev.Kept.opCrcStart (h : d.Kept e) : d.Kept (e.opCrcStart st n) := h.native fun c => c.kept.modCrc.set
theorem Dev.Kept.opCrcSeed {seed : Nat} (h : d.Kept e) : d.Kept (e.opCrcSeed st n seed) := h.native fun c => c.kept.modCrc.set
theorem Dev.Kept.opCrcData {reg : Nat} (h : d.Kept e) : d.Kept (e.opCrcData st n reg bytes) := .ite h.set h.modCrc.add
theorem Dev.Kept.opSnoopArm (h : d.Kept e) : d.Kept (e.opSnoopArm st n) := .ite h h.modCrc
theorem Dev.Kept.startCapture (h : d.Kept e) : d.Kept (e.startCapture n) := h.modCrc.set

theorem Dev.Kept.snoopBoundary (h : d.Kept e) : d.Kept (e.snoopBoundary st src) :=
  h.each fun c _ => .ite c.kept.startCapture c.kept

theorem Dev.Kept.endCaptures (h : d.Kept e) : d.Kept (e.endCaptures st src) := h.each fun c _ => .ite c.kept.modCrc c.kept

theorem Dev.Kept.snoopFeed {sel : Nat} (h : d.Kept e) : d.Kept (e.snoopFeed st src sel bytes) :=
  h.each fun c _ => .ite c.kept.modCrc c.kept

theorem Dev.Kept.opCaptureEnd (h : d.Kept e) : d.Kept (e.opCaptureEnd n) :=
  .ite (Dev.Kept.ite h.setAll.set h.setAll.set).startCapture (Dev.Kept.ite h.setAll.set h.setAll.set).modCrc.set

end Sys2Proof.Machine
end

section
/-! SUPPORT. Both invariants pass along every update. Samples of the sensors. -/

namespace Sys2Proof.Machine

variable {d e : Dev} {st : Straps} {a : Nat} {v : Word}

theorem Dev.Kept.actsLater {due : Nat} (h : d.Kept e) : d.Kept (e.actsLater a v due) := h.same rfl

theorem Dev.Kept.enforce (h : d.Kept e) : d.Kept (e.enforce a v) :=
  .ite h.wr (h.eff rfl fun hc => by simp [Cells.wf_write, hc])

theorem Dev.Kept.takeLate {present : Nat} (h : d.Kept e) : d.Kept (e.takeLate present) :=
  (h.same (by rfl)).each (fun c _ => .ite (c.kept.enforce.same (by rfl)) c.kept.enforce)

theorem Dev.Kept.takeSample (h : d.Kept e) : d.Kept (e.takeSample st).2 := by
  unfold Dev.takeSample
  dsimp only
  split
  · exact h
  · exact h.same rfl

end Sys2Proof.Machine
end

section
/-! SUPPORT. Both invariants pass along every update. Lanes and links. -/

namespace Sys2Proof.Machine

variable {d e : Dev} {st : Straps} {x n a : Nat}

theorem Dev.Kept.takeSsc (h : d.Kept e) : d.Kept (e.takeSsc st) := .ite h.set h
theorem Dev.Kept.breakRuns (h : d.Kept e) : d.Kept (e.modPort x PortSt.breakRuns) := h.modPort (by simp [PortSt.breakRuns])
theorem Dev.Kept.receiversOff (h : d.Kept e) : d.Kept (e.receiversOff x) := h.setAll.modPort (by simp [PortSt.breakRuns])
theorem Dev.Kept.dropPath (h : d.Kept e) : d.Kept (e.dropPath x) := h.set.setb
theorem Dev.Kept.surveySoon (h : d.Kept e) : d.Kept (e.surveySoon x) := h.surveys rfl (List.length_modify ..)

theorem Dev.Kept.enter {s : Nat} (h : d.Kept e) : d.Kept (e.enter st x s) := by
  unfold Dev.enter
  extract_lets was d0 d1 d2 _ _ d3
  have h0 : d.Kept d0 := .ite h h.discardDue
  have h1 : d.Kept d1 := h0.set.modPort (by simp)
  have h2 : d.Kept d2 := .ite h1.dropPath h1
  have h3 : d.Kept d3 := .ite (h2.surveys rfl (List.length_modify ..)) h2
  exact .ite h3.surveySoon h3

theorem Dev.Kept.enterRefwait (h : d.Kept e) : d.Kept (e.enterRefwait st x) :=
  ((h.receiversOff.modPort (by simp)).enter.modPort (by simp)).takeSsc

theorem Dev.Kept.enterTrain (h : d.Kept e) : d.Kept (e.enterTrain st x) :=
  (h.enter.modPort (by simp)).emitTraining

theorem Dev.Kept.enterGo {txonly : Bool} (h : d.Kept e) : d.Kept (e.enterGo st x txonly) :=
  (h.enter.modPort (by simp)).each fun c _ => c.kept.emitTraining

theorem Dev.Kept.linkUp (h : d.Kept e) : d.Kept (e.linkUp st x) := h.enter.event
theorem Dev.Kept.enterLs2 (h : d.Kept e) : d.Kept (e.enterLs2 st x) := h.enter.receiversOff.emit
theorem Dev.Kept.linkDown (h : d.Kept e) : d.Kept (e.linkDown st x) := h.set.event.enterTrain
theorem Dev.Kept.enterTxonly (h : d.Kept e) : d.Kept (e.enterTxonly st x) := .ite h.enter.enterLs2 h.enter
theorem Dev.Kept.goCheck (h : d.Kept e) : d.Kept (e.goCheck st x) := .ite (.ite h.linkUp (.ite h.enterTxonly h)) h
theorem Dev.Kept.opPortEnable (h : d.Kept e) : d.Kept (e.opPortEnable st x) := .ite h (.ite h.set.enterRefwait h.set)

theorem Dev.Kept.opPortDisable (h : d.Kept e) : d.Kept (e.opPortDisable st x) :=
  .ite h (h.set.enter.receiversOff.modPort (by simp)).setAll.emit

theorem Dev.Kept.opTarget {t : Nat} (h : d.Kept e) : d.Kept (e.opTarget st x t) :=
  .ite h (.ite h.set.enterGo (.ite h.set.enterRefwait (.ite h.set.enterLs2 h.set)))

theorem Dev.Kept.opTxidleSet (h : d.Kept e) : d.Kept (e.opTxidleSet st x) := .ite h.set (h.set.enter.modPort (by simp)).emit

theorem Dev.Kept.opTxidleClear (h : d.Kept e) : d.Kept (e.opTxidleClear st x) :=
  .ite (.ite h.set.enterTxonly h.set.enterTrain) h.set

theorem Dev.Kept.peerReport {rxlock refdep run codeword : Bool} {pmreq : Nat} (h : d.Kept e) :
    d.Kept (e.peerReport x rxlock pmreq refdep run codeword) := .ite h.setAll (h.setAll.modPort (by simp))

theorem Dev.Kept.noteLaneId {laneid : Bool} (h : d.Kept e) : d.Kept (e.noteLaneId x n laneid) := .ite h.setb h
theorem Dev.Kept.adapt (h : d.Kept e) : d.Kept (e.adapt x n) := .ite h (h.same (by rfl)).modLane
theorem Dev.Kept.noteSsc {ssc : Bool} (h : d.Kept e) : d.Kept (e.noteSsc st x ssc) := .ite (h.setb.modPort (by simp)) h

theorem Dev.Kept.lockLane {how : Option LaneLock} (h : d.Kept e) : d.Kept (e.lockLane x n how) := by
  unfold Dev.lockLane
  split
  · exact h
  · exact .ite h h.setAll.modLane

theorem Dev.Kept.portLocked (h : d.Kept e) : d.Kept (e.portLocked st x) := by
  unfold Dev.portLocked
  extract_lets d1 _ d2
  have h1 : d.Kept d1 := h.setAll
  have h2 : d.Kept d2 := .ite (h1.same (by rfl)) h1
  exact .ite h2.enter (.ite h2.emitTraining h2)

theorem Dev.Kept.unlock (h : d.Kept e) : d.Kept (e.unlock st x) := .ite h.set.breakRuns.enter h.set.breakRuns
theorem Dev.Kept.loseLock (h : d.Kept e) : d.Kept (e.loseLock st x n) := h.setAll.modLane.unlock
theorem Dev.Kept.noteEdges {a b : Bool} (h : d.Kept e) : d.Kept (e.noteEdges st a b) := h.setb.setb
theorem Dev.Kept.followLive (h : d.Kept e) : d.Kept (e.followLive st x n) := .ite h.set (.ite h.portLocked h)

end Sys2Proof.Machine
end

section
/-! SUPPORT. Both invariants pass along every update. Transport between ports. -/

namespace Sys2Proof.Machine

variable {d e : Dev} {st : Straps} {x n a : Nat}

theorem Dev.Kept.codewordFailed (h : d.Kept e) : d.Kept (e.codewordFailed st x n) := by
  unfold Dev.codewordFailed
  extract_lets r d1 d2
  have h1 : d.Kept d1 := h.draw.add.modLane
  have h2 : d.Kept d2 := .ite h1.breakRuns h1
  exact .ite h2.loseLock h2

theorem Dev.Kept.takeCodeword {c : Option RxCodeword} (h : d.Kept e) : d.Kept (e.takeCodeword st x n c).2 := by
  unfold Dev.takeCodeword
  split
  · exact h
  · split
    · exact h
    · dsimp only
      split
      · exact h.modLane.codewordFailed.adapt
      · split
        · exact .ite h.modLane.modLane.adapt h.modLane.modLane.adapt.add.add
        · exact (Dev.Kept.ite h.modLane.modLane.adapt h.modLane.modLane.adapt.add.add).peerReport.noteLaneId

theorem Dev.Kept.pairUp {a b : Option (Nat × List (List Byte))} (h : d.Kept e) : d.Kept (e.pairUp x a b).2 := by
  unfold Dev.pairUp
  split
  · split
    · exact h
    · exact h.add
  · exact h
  · exact h.add

theorem Dev.kept_of_takeRx {p : RxPkt → Bool} {r : RxPkt × Dev} (h : e.takeRx p = some r) : e.Kept r.2 := by
  unfold Dev.takeRx at h
  split at h
  · split at h
    · cases h; exact e.kept.same rfl
    · exact nomatch h
  · exact nomatch h

theorem Dev.Kept.onRx {p : RxPkt → Bool} {f : RxPkt → Dev → Dev} (h : d.Kept e) (hf : ∀ k (c : Dev), c.Kept (f k c)) :
    d.Kept (e.onRx p f) := by
  unfold Dev.onRx
  split
  · exact (h.trans (kept_of_takeRx ‹_›)).trans (hf _ _)
  · exact h

theorem Dev.Kept.dropAnswers (h : d.Kept e) : d.Kept e.dropAnswers := h.mapPorts (by simp)

end Sys2Proof.Machine
end

section
/-! SUPPORT. Both invariants pass along every update. Frames and blocks. -/

namespace Sys2Proof.Machine

variable {d e : Dev} {st : Straps} {f : TileFrame}

theorem Dev.Kept.modFrame {g : TileFrame → TileFrame} (h : d.Kept e) : d.Kept (e.modFrame f g) := h.same rfl
theorem Dev.Kept.dropFrame (h : d.Kept e) : d.Kept (e.dropFrame f) := h.same rfl
theorem Dev.Kept.holdFrame {c : Nat} (h : d.Kept e) : d.Kept (e.holdFrame st f c) := (h.event.same (by rfl)).dropFrame
theorem Dev.Kept.notePeak {fresh : Bool} (h : d.Kept e) : d.Kept (e.notePeak fresh) := (h.same (by rfl)).set

theorem Dev.Kept.makeRoom (h : d.Kept e) : d.Kept (e.makeRoom st) := by
  unfold Dev.makeRoom
  split
  · exact h
  · split
    · exact (h.same (by rfl)).set.event
    · split
      · exact (h.same (by rfl)).set.event
      · exact h

theorem Dev.Kept.storeBlock {b : StoreBlock} (h : d.Kept e) : d.Kept (e.storeBlock st f b) :=
  .ite h.makeRoom.modFrame.memWrite.notePeak h.makeRoom.modFrame.set.event

theorem Dev.Kept.takeHeader {p : List Byte} (h : d.Kept e) : d.Kept (e.takeHeader st p) :=
  .ite h (h.eventIf.same (by rfl)).snoopBoundary

theorem Dev.Kept.takeBlock {body : List Byte} (h : d.Kept e) : d.Kept (e.takeBlock st f body) := by
  unfold Dev.takeBlock
  extract_lets layer bx byy hdr d1
  have h1 : d.Kept d1 := h.modFrame.snoopFeed
  split
  · exact h1.modFrame.event
  · exact .ite h1 h1.storeBlock

theorem Dev.Kept.judge (h : d.Kept e) : d.Kept (e.judge st f) := h.takeSample.same rfl
theorem Dev.Kept.noteSlack {us : Nat} (h : d.Kept e) : d.Kept (e.noteSlack us) := (h.same (by rfl)).setAll
theorem Dev.Kept.failLow (h : d.Kept e) : d.Kept e.failLow := h.same rfl

end Sys2Proof.Machine
end

section
/-! SUPPORT. Both invariants pass along every update. Composition. -/

namespace Sys2Proof.Machine

variable {d e : Dev} {st : Straps} {n : Nat} {f : TileFrame}

theorem Dev.Kept.noteBlend (h : d.Kept e) : d.Kept (e.noteBlend st f) :=
  .ite (.ite (h.set.seti.same (by rfl)).set (h.set.seti.same (by rfl)).set.event) (h.set.seti.same (by rfl))

theorem Dev.Kept.tapRegions (h : d.Kept e) : d.Kept (e.tapRegions st f) := by
  unfold Dev.tapRegions
  extract_lets d1
  have h1 : d.Kept d1 := h.snoopBoundary
  refine Dev.Kept.endCaptures ?_
  refine h1.each fun c _ => ?_
  · split
    · exact c.kept.snoopFeed
    · exact c.kept

theorem Dev.Kept.composeWrites (h : d.Kept e) : d.Kept (e.composeWrites f) := h.enginesWork.memWrites
theorem Dev.Kept.spoilBlock {i : SramItem} (h : d.Kept e) : d.Kept (e.spoilBlock i) := h.same rfl

theorem Dev.Kept.writeBack {back : Cells Nat} (h : d.Kept e) (hb : Cells.wf (fun _ => 0) back = true) :
    d.Kept (e.writeBack back) := by
  unfold Dev.writeBack
  extract_lets _ d1
  have h1 : d.Kept d1 := by
    refine Dev.Kept.memRewrite ?_
    exact h.halves rfl fun hc => ⟨hc.1, hb⟩
  exact .ite h1.draw.memInject h1

theorem Dev.Kept.composeAct {b : BadByte} (h : d.Kept e) : d.Kept (e.composeAct b) := by
  unfold Dev.composeAct
  split
  · exact h.reloadEngine
  · exact h.spoilBlock
  · exact h

theorem Dev.Kept.abandonCompose {l : List BadByte} (h : d.Kept e) : d.Kept (e.abandonCompose st f l) :=
  (h.logFound.each (fun c _ => c.kept.composeAct)).modFrame

theorem Dev.wf_lampValues {f : TileFrame} {checks : List (Nat × Nat × Option Nat × Bool × Bool)} {w : Nat} :
    Cells.wf (fun _ => 0) (d.lampValues f checks w) = true := by
  refine Cells.wf_filterMap_range (fun n e h => ?_) _
  dsimp only at h
  split at h
  · exact nomatch h
  · cases h; exact ⟨rfl, ‹_›⟩

theorem Dev.Kept.finishCompose {f : TileFrame} (h : d.Kept e) : d.Kept (e.finishCompose st f) := by
  unfold Dev.finishCompose
  extract_lets checks w slack back d1
  have h1 : d.Kept d1 := h.noteBlend.tapRegions.modFrame.writeBack wf_lampValues
  exact h1.noteSlack

theorem Dev.Kept.composeEnd (h : d.Kept e) : d.Kept (e.composeEnd st f) := by
  unfold Dev.composeEnd
  extract_lets d1
  have h1 : d.Kept d1 := h.composeWrites
  split
  · exact h1.finishCompose
  · exact h1.abandonCompose

end Sys2Proof.Machine
end

section
/-! SUPPORT. Both invariants pass along every update. The lamp tests. -/

namespace Sys2Proof.Machine

variable {d e : Dev} {st : Straps} {n a i : Nat} {codes : List Nat}

theorem Dev.Kept.noteLamp {old new : Nat} (h : d.Kept e) : d.Kept (e.noteLamp st n old new) :=
  .ite (h.same (by rfl)).event (h.same (by rfl))

theorem Dev.Kept.lampResult {r : Nat} (h : d.Kept e) : d.Kept (e.lampResult st n r) := by
  unfold Dev.lampResult
  extract_lets a count _ d1 old
  have h1 : d.Kept d1 := h.diag rfl fun ⟨hl, ht, ha, hrest⟩ =>
    ⟨hl, by simp [d1, Cells.wf_write, ht], by simp [d1, Cells.wf_write, ha], hrest⟩
  refine .ite h1 (Dev.Kept.noteLamp ?_)
  exact h1.diag rfl fun ⟨hl, hrest⟩ => ⟨by simp [Cells.wf_write, hl], hrest⟩

theorem Dev.Kept.testLamp {mono : Bool} {mv : Nat} (h : d.Kept e) : d.Kept (e.testLamp st mono n mv) := by
  unfold Dev.testLamp
  extract_lets c _ d1
  have h1 : d.Kept d1 := h.diag rfl fun ⟨hl, ht, ha, hv, hp⟩ => ⟨hl, ht, ha, by simp [d1, Cells.wf_write, hv], hp⟩
  exact .ite h1 h1.lampResult

theorem Dev.Kept.closeSlot (h : d.Kept e) : d.Kept e.closeSlot := h.same rfl

theorem Dev.Kept.opLampTest (h : d.Kept e) : d.Kept (e.opLampTest st i codes) :=
  .ite (h.closeSlot.emit.each (fun c _ => c.kept.testLamp)).set.event (h.closeSlot.emit.each (fun c _ => c.kept.testLamp))

theorem Dev.Kept.pinResult {c : Nat} {short : Bool} (h : d.Kept e) : d.Kept (e.pinResult st c short) := by
  unfold Dev.pinResult
  extract_lets _ d1
  have h1 : d.Kept d1 := by
    refine .ite h (Dev.Kept.event ?_)
    exact h.diag rfl fun ⟨hl, ht, ha, hv, hp⟩ => ⟨hl, ht, ha, hv, by simp [Cells.wf_write, hp]⟩
  exact .ite (h1.each fun c _ => c.kept.lampResult) h1

theorem Dev.Kept.opPinTest (h : d.Kept e) : d.Kept (e.opPinTest st i codes) := h.closeSlot.emit.each fun c _ => c.kept.pinResult
theorem Dev.Kept.takeSnapshots (h : d.Kept e) : d.Kept e.takeSnapshots := h.same rfl

end Sys2Proof.Machine
end

section
/-! SUPPORT. Both invariants pass along every update. Settings objects. -/

namespace Sys2Proof.Machine

variable {d e : Dev}

theorem Dev.Kept.commitBlock {id : Nat} {body : List Byte} (h : d.Kept e) : d.Kept (e.commitBlock id body) := by
  unfold Dev.commitBlock
  refine .ite h ?_
  exact h.commitObject

theorem Dev.Kept.saveEpoch {e' : Nat} (h : d.Kept e) : d.Kept (e.saveEpoch e') := h.commitBlock

end Sys2Proof.Machine
end

section
/-! SUPPORT. Both invariants pass along every update. The mailboxes. -/

namespace Sys2Proof.Machine

variable {d e : Dev} {st : Straps} {m : Nat} {writer : MbxSide}

theorem Dev.Kept.setFull {b : Bool} (h : d.Kept e) : d.Kept (e.setFull m b) := .ite h.set (h.set.same (by rfl))

theorem Dev.Kept.mbxIrq {side : MbxSide} (h : d.Kept e) : d.Kept (e.mbxIrq st side m) := by
  unfold Dev.mbxIrq
  split
  · exact h.raiseIf
  · exact h.emit
  · exact h.emit
  · exact h

theorem Dev.Kept.sendTwin {bytes : List Byte} (h : d.Kept e) : d.Kept (e.sendTwin bytes) := .ite h.emit h
theorem Dev.Kept.sendTwinData (h : d.Kept e) : d.Kept e.sendTwinData := h.sendTwin.same rfl
theorem Dev.Kept.sendTwinAnswer {typ mseq : Nat} (h : d.Kept e) : d.Kept (e.sendTwinAnswer typ mseq) := h.sendTwin
theorem Dev.Kept.logAbort (h : d.Kept e) : d.Kept (e.logAbort st writer) := .ite (h.same (by rfl)) h

theorem Dev.Kept.opMbxWrite {word : Nat} (h : d.Kept e) : d.Kept (e.opMbxWrite st writer m word) :=
  .ite h (.ite h.logAbort.emit (.ite (h.set.setFull.mbxIrq.same (by rfl)).sendTwinData h.set.setFull.mbxIrq))

theorem Dev.Kept.opMbxAck {reader : MbxSide} (h : d.Kept e) : d.Kept (e.opMbxAck st reader m) := by
  unfold Dev.opMbxAck
  split
  · exact h
  · dsimp only
    split
    · split
      · exact (h.setFull.same (by rfl)).sendTwinAnswer
      · exact h.setFull
    · exact h.setFull

theorem Dev.Kept.mbxAborted (h : d.Kept e) : d.Kept (e.mbxAborted m) := .ite (h.set.same (by rfl)) h.set
theorem Dev.Kept.abortTwinOut (h : d.Kept e) : d.Kept (e.abortTwinOut st) := .ite h.setFull.mbxAborted.mbxIrq h

theorem Dev.Kept.clearMbx (h : d.Kept e) : d.Kept (e.clearMbx st m) := by
  unfold Dev.clearMbx
  extract_lets d1
  have h1 : d.Kept d1 := h.set.setFull
  split
  · exact h1
  · split
    · split
      · exact h1.mbxAborted.sendTwinAnswer
      · exact h1.mbxAborted
    · exact h1.mbxAborted.mbxIrq

theorem Dev.Kept.clearMbxs {ms : List Nat} (h : d.Kept e) : d.Kept (e.clearMbxs st ms) := h.each fun c _ => c.kept.clearMbx

end Sys2Proof.Machine
end

section
/-! SUPPORT. Both invariants pass along every update. The host interface. -/

namespace Sys2Proof.Machine

variable {d e : Dev} {st : Straps} {n ring index status value : Nat} {v : Word}

theorem Dev.Kept.modDesc {f : Desc → Desc} (h : d.Kept e) : d.Kept (e.modDesc ring index f) := h.same rfl
theorem Dev.Kept.startDesc (h : d.Kept e) : d.Kept (e.startDesc ring index) := h.modDesc

theorem Dev.Kept.postDesc {e' : Desc} (h : d.Kept e) : d.Kept (e.postDesc e' status value) :=
  .ite (h.same (by rfl)) h.modDesc.complete

theorem Dev.Kept.release (h : d.Kept e) : d.Kept (e.release ring index) := by
  unfold Dev.release
  split
  · split
    · exact .ite h h.postDesc
    · exact h
  · exact h

theorem Dev.Kept.finishDesc (h : d.Kept e) : d.Kept (e.finishDesc ring index status value) := by
  unfold Dev.finishDesc
  split
  · exact h
  · exact .ite h ((h.same (by rfl)).modDesc.each (fun c _ => c.kept.release))

theorem Dev.Kept.abortFetched (h : d.Kept e) : d.Kept (e.abortFetched ring) := h.each fun c _ => c.kept.finishDesc
theorem Dev.Kept.stopRing (h : d.Kept e) : d.Kept (e.stopRing n) := h.set.abortFetched
theorem Dev.Kept.ringError {code : Nat} (h : d.Kept e) : d.Kept (e.ringError n code index) := h.stopRing.setAll.raise

theorem Dev.Kept.opRingEnable (h : d.Kept e) : d.Kept (e.opRingEnable n) := by
  unfold Dev.opRingEnable
  split
  · exact h
  · extract_lets d0 d1
    have h1 : d.Kept d1 := .ite h.setAll.setAll h.setAll
    exact h1.hostIdx rfl (List.length_set ..).trans

theorem Dev.Kept.opRingDisable (h : d.Kept e) : d.Kept (e.opRingDisable n) := .ite h (.ite h h.stopRing)
theorem Dev.Kept.opPollEnable (h : d.Kept e) : d.Kept e.opPollEnable := .ite h (h.setAll.same (by rfl))
theorem Dev.Kept.opPollDisable (h : d.Kept e) : d.Kept e.opPollDisable := h.setAll

theorem Dev.Kept.takeIndex {idx : Nat} (h : d.Kept e) : d.Kept (e.takeIndex n idx) :=
  .ite h (.ite h.ringError (h.hostIdx rfl (List.length_set ..).trans))

theorem Dev.Kept.startPoll (h : d.Kept e) : d.Kept e.startPoll := (h.same (by rfl)).emit
theorem Dev.Kept.readSlot (h : d.Kept e) : d.Kept (e.readSlot n index) := h.emit
theorem Dev.Kept.writeEvent {r : EventRec} (h : d.Kept e) : d.Kept (e.writeEvent r) := h.emit.set.raise
theorem Dev.Kept.dropEvent (h : d.Kept e) : d.Kept e.dropEvent := h.add.same rfl
theorem Dev.Kept.ovfFailed {count : Nat} (h : d.Kept e) : d.Kept (e.ovfFailed count) := h.same rfl
theorem Dev.Kept.startOvf (h : d.Kept e) : d.Kept (e.startOvf st) := .ite h (h.event.same (by rfl))

theorem Dev.Kept.deliverEvent (h : d.Kept e) : d.Kept (e.deliverEvent st) := by
  unfold Dev.deliverEvent
  split
  · exact .ite h.startOvf h
  · exact .ite (.ite (h.same (by rfl)).writeEvent (h.same (by rfl)).dropEvent.ovfFailed)
      (.ite (h.same (by rfl)) (.ite h (.ite (h.same (by rfl)).dropEvent (.ite h.startOvf (h.same (by rfl)).writeEvent))))

theorem Dev.Kept.sendPending {v : Nat} (h : d.Kept e) : d.Kept (e.sendPending v) := .ite (h.same (by rfl)).sendMessage h
theorem Dev.Kept.unmask {v : Nat} (h : d.Kept e) : d.Kept (e.unmask v) := (h.same (by rfl)).sendPending

theorem Dev.Kept.writeMsixCtl {v : Nat} (h : d.Kept e) : d.Kept (e.writeMsixCtl v) :=
  (h.same (by rfl)).each fun c _ => c.kept.sendPending

theorem Dev.Kept.bar2Write {off v : Nat} (h : d.Kept e) : d.Kept (e.bar2Write off v) := by
  unfold Dev.bar2Write
  dsimp only
  split
  · exact h
  · split
    · exact h.same rfl
    · exact h.same rfl
    · exact h.same rfl
    · exact .ite (h.same (by rfl)) h.unmask

theorem Dev.Kept.forgetWaiters (h : d.Kept e) : d.Kept e.forgetWaiters := h.surveys rfl (List.length_map ..)

theorem Dev.Kept.opFunctionReset (h : d.Kept e) : d.Kept (e.opFunctionReset st) := by
  unfold Dev.opFunctionReset
  extract_lets keep inRings d1 drop _ d2
  have h1 : d.Kept d1 := by
    refine Dev.Kept.setAll ?_
    exact h.regs rfl (Cells.wf_filter _)
  have h2 : d.Kept d2 := h1.hostIdx rfl fun _ => rfl
  exact h2.forgetWaiters.clearMbxs

theorem Dev.Kept.resetFunction (h : d.Kept e) : d.Kept e.resetFunction := h.same rfl
theorem Dev.Kept.enterD3hot (h : d.Kept e) : d.Kept (e.enterD3hot st) := h.opFunctionReset.same rfl

theorem Dev.Kept.writeDevCtl {v : Nat} (h : d.Kept e) : d.Kept (e.writeDevCtl st v) :=
  .ite h.resetFunction.opFunctionReset (h.same (by rfl))

theorem Dev.Kept.setPcie {p : PcieSt} (h : d.Kept e) : d.Kept { e with host.pcie := p } := h.same rfl

theorem Dev.Kept.configWrite {off v : Nat} (h : d.Kept e) : d.Kept (e.configWrite st off v) := by
  unfold Dev.configWrite
  split
  · exact h
  · split
    · exact h.setPcie
    · exact h.setPcie
    · exact h.setPcie
    · exact h.setPcie
    · exact h.setPcie
    · exact .ite h.enterD3hot (.ite h.setPcie h)
    · exact h.writeMsixCtl
    · exact h.writeDevCtl
    · exact h.setPcie
    · exact h.setPcie
    · exact h.setPcie
    · exact h.opMbxWrite
    · exact h.opMbxWrite
    · exact h.same rfl
    · exact h.each fun c _ => c.kept.opMbxAck
    · exact h

end Sys2Proof.Machine
end

section
/-! SUPPORT. Both invariants pass along every update. Flips. -/

namespace Sys2Proof.Machine

variable {d e : Dev} {st : Straps} {x n status p index i : Nat} {f : Flip} {l : LayerSt} {h' e' surface payload : List Byte}
  {es : List (List Byte)} {table : Option (List Byte)}

theorem Dev.Kept.postRetire (h : d.Kept e) : d.Kept (e.postRetire f l status) := .ite h h.complete

theorem Dev.Kept.flushFlips {fs : List Flip} (h : d.Kept e) : d.Kept (e.flushFlips fs) :=
  h.each (fun c _ => c.kept.each (fun c _ => c.kept.postRetire))

theorem Dev.Kept.showNext (h : d.Kept e) : d.Kept e.showNext := h.set
theorem Dev.Kept.flushForChange (h : d.Kept e) : d.Kept (e.flushForChange p) := (h.same (by rfl)).flushFlips
theorem Dev.Kept.rejectFlip {f : FlipFault} (h : d.Kept e) : d.Kept (e.rejectFlip index h' f) := h.addSat.set.complete

theorem Dev.Kept.acceptFlip (h : d.Kept e) :
    d.Kept (e.acceptFlip st index h' es table) := (Dev.Kept.ite ((Dev.Kept.ite h.flushForChange h).same (by rfl)).showNext
    ((Dev.Kept.ite h.flushForChange h).same (by rfl))).add.complete.each fun c _ => c.kept.eventIf

theorem Dev.Kept.readFlip (h : d.Kept e) : d.Kept (e.readFlip i n h' es) := by
  unfold Dev.readFlip
  extract_lets d1
  have h1 : d.Kept d1 := h.each fun c _ => c.kept.readSlot
  split
  · exact h1
  · exact h1.emit

theorem Dev.Kept.judgeFlip (h : d.Kept e) : d.Kept (e.judgeFlip st i h' es table) := by
  unfold Dev.judgeFlip
  split
  · exact h.rejectFlip
  · exact h.acceptFlip

theorem Dev.Kept.sendTwice {typ frame : Nat} {body : List Byte} (h : d.Kept e) : d.Kept (e.sendTwice st x typ frame body) :=
  h.each fun c _ => c.kept.queueTx

theorem Dev.Kept.modFlying {g : Flip → Flip} (h : d.Kept e) : d.Kept (e.modFlying index g) := h.same rfl
theorem Dev.Kept.closeFlip (h : d.Kept e) : d.Kept (e.closeFlip st index) := h.modFlying.endCaptures

theorem Dev.Kept.closeIfDone (h : d.Kept e) : d.Kept (e.closeIfDone st index) := by
  unfold Dev.closeIfDone
  split
  · exact h
  · exact .ite h (h.each (fun c _ => c.kept.sendTwice)).closeFlip

theorem Dev.Kept.deferFlip {rest : List Flip} (h : d.Kept e) : d.Kept (e.deferFlip st f rest p) :=
  (h.same (by rfl)).addSat.event

theorem Dev.Kept.launchFlip {f : Flip} {rest : List Flip} (h : d.Kept e) : d.Kept (e.launchFlip st f rest) := by
  unfold Dev.launchFlip
  extract_lets k launch outs ports g _ d1 d2 d3 d4
  have h2 : d.Kept d2 := (h.same rfl : d.Kept d1).each fun c x => by
    split
    · exact c.kept.postRetire.addSat
    · exact c.kept
  have h3 : d.Kept d3 := h2.each fun c _ => c.kept.set.modPort (by simp)
  have h4 : d.Kept d4 := h3.snoopBoundary.each fun c _ => c.kept.sendTwice
  exact h4.closeIfDone

theorem Dev.Kept.parkBlocks (h : d.Kept e) : d.Kept (e.parkBlocks st f e' surface payload x) :=
  h.each (fun c _ => (c.kept.modPort (by simp)).parkTx)

theorem Dev.Kept.sendBlocks (h : d.Kept e) : d.Kept (e.sendBlocks st f e' surface payload) :=
  (h.each (fun c _ => c.kept.parkBlocks)).each fun c _ => c.kept.txNext

theorem Dev.Kept.layerDone {held : Bool} (h : d.Kept e) : d.Kept (e.layerDone st f i held) := h.modFlying.closeIfDone
theorem Dev.Kept.abandonLayer (h : d.Kept e) : d.Kept (e.abandonLayer st f i l status) := h.postRetire.addSat.event.layerDone

theorem Dev.Kept.onRead {g : Flip → LayerSt → Dev → Dev} (h : d.Kept e) (hg : ∀ x0 x1 (c : Dev), c.Kept (g x0 x1 c)) :
    d.Kept (e.onRead i g) := by
  unfold Dev.onRead
  split
  · exact h
  · split
    · exact .ite h (h.trans (hg _ _ _))
    · exact h

theorem Dev.Kept.truncPort (h : d.Kept e) : d.Kept (e.truncPort st f x) :=
  (h.modPort (by simp [modAt])).sendTwice.add.event

theorem Dev.Kept.engineCut {unit : Nat} (h : d.Kept e) : d.Kept (e.engineCut st unit) :=
  h.reloadEngine.each (fun c _ => (c.kept.each (fun c _ => c.kept.truncPort)).closeFlip)

theorem Dev.Kept.engineErrors {l : List BadByte} (h : d.Kept e) : d.Kept (e.engineErrors st l) :=
  h.logFound.each fun c _ => c.kept.engineCut

theorem Dev.Kept.fillBuffer {l : Layer} (h : d.Kept e) : d.Kept (e.fillBuffer f l) := by
  unfold Dev.fillBuffer
  extract_lets d1
  have h1 : d.Kept d1 := h.memRewrite
  split
  · exact h1
  · exact h1.memInject

theorem Dev.Kept.cutPort (h : d.Kept e) : d.Kept (e.cutPort st f x) := .ite (.ite h h.sendTwice) h.truncPort
theorem Dev.Kept.dropDone (h : d.Kept e) : d.Kept e.dropDone := h.same rfl

theorem Dev.Kept.endTransport (h : d.Kept e) : d.Kept (e.endTransport st f) := by
  unfold Dev.endTransport
  extract_lets d1 d2
  have h1 : d.Kept d1 := h.each fun c _ => c.kept.cutPort
  have h2 : d.Kept d2 := h1.each fun c _ => c.kept.postRetire
  exact (Dev.Kept.ite h2 h2.closeFlip).modFlying.dropDone

theorem Dev.Kept.queueAfterStep {forward : Bool} (h : d.Kept e) : d.Kept (e.queueAfterStep st forward) := by
  unfold Dev.queueAfterStep
  split
  · exact (h.same (by rfl)).eventIf
  · split
    · exact .ite (h.same (by rfl)).flushFlips.set.event h
    · exact h

end Sys2Proof.Machine
end

section
/-! SUPPORT. Both invariants pass along every update. The chain. -/

namespace Sys2Proof.Machine

variable {d e : Dev} {st : Straps} {x status value : Nat}

theorem Dev.Kept.newXid (h : d.Kept e) : d.Kept (e.newXid).2 := h.same rfl

theorem Dev.Kept.sendCmd {pos : Nat} {kind : OutKind} {body : Nat → List Byte} (h : d.Kept e) :
    d.Kept (e.sendCmd st x pos kind body) := (h.same (by rfl)).queueTx

theorem Dev.Kept.dropOut {xid : Nat} (h : d.Kept e) : d.Kept (e.dropOut xid) := h.same rfl

theorem Dev.Kept.sendEnum {next : Nat} (h : d.Kept e) : d.Kept (e.sendEnum st x next) := by
  refine Dev.Kept.queueTx (.ite (Dev.Kept.surveys (e := e.newXid.2.modPort x _) ?_ rfl (List.length_modify ..)) ?_)
  · exact h.newXid.modPort (by simp)
  · exact h.newXid.modPort (by simp)

theorem Dev.Kept.answer {w : Waiter} (h : d.Kept e) : d.Kept (e.answer st w status value) := by
  unfold Dev.answer
  split
  · exact h.finishDesc
  · exact h.finishDesc
  · exact (h.same (by rfl)).respond

theorem Dev.Kept.answerOpt {w : Option Waiter} (h : d.Kept e) : d.Kept (e.answerOpt st w status value) := by
  unfold Dev.answerOpt
  split
  · exact h.answer
  · exact h

theorem Dev.Kept.writeQueued {e' : EventRec} (h : d.Kept e) : d.Kept (e.writeQueued st e') := h.writeRecord.answerOpt

theorem Dev.Kept.opRecorderWrite (h : d.Kept e) : d.Kept (e.opRecorderWrite st) :=
  ((h.same (by rfl)).each (fun c _ => c.kept.writeQueued)).reportLost

end Sys2Proof.Machine
end

section
/-! SUPPORT. Both invariants pass along every update. The drive and the presented frame. -/

namespace Sys2Proof.Machine

variable {d e : Dev} {st : Straps} {n bank r j : Nat} {t : TempSample} {codes : List Nat} {f : TileFrame}

theorem Dev.Kept.noteDerate (h : d.Kept e) : d.Kept (e.noteDerate st t) :=
  .ite (.ite (h.same (by rfl)).set (h.same (by rfl)).set.event) (h.same (by rfl))

theorem Dev.Kept.darkenBank (h : d.Kept e) : d.Kept (e.darkenBank bank) := h.same rfl
theorem Dev.Kept.starveBank (h : d.Kept e) : d.Kept (e.starveBank st bank) := h.darkenBank.set.event

theorem Dev.Kept.starveBanks {banks : List Nat} (h : d.Kept e) : d.Kept (e.starveBanks st banks) :=
  h.each fun c _ => c.kept.starveBank

theorem Dev.Kept.passEdges (h : d.Kept e) : d.Kept (e.passEdges st) := h.memWrites.logFound.each fun c _ => c.kept.darkenBank
theorem Dev.Kept.readFront (h : d.Kept e) : d.Kept (e.readFront st r) := h.logFound.each (fun c _ => c.kept.same (by rfl))
theorem Dev.Kept.lightSlot (h : d.Kept e) : d.Kept (e.lightSlot j r) := h.emit

theorem Dev.Kept.liveTests {columns : List (Nat × Nat)} (h : d.Kept e) : d.Kept (e.liveTests st j r columns) :=
  .ite h (h.each (fun c _ => c.kept.testLamp))

theorem Dev.Kept.takeVled (h : d.Kept e) : d.Kept (e.takeVled codes) := h.each fun c _ => c.kept.setAll

theorem Dev.Kept.takeNtc (h : d.Kept e) : d.Kept (e.takeNtc st codes) :=
  h.each (fun c _ => .ite (c.kept.setAll.same (by rfl)).set.event (c.kept.setAll.same (by rfl)))

theorem Dev.Kept.endDiagFrame (h : d.Kept e) : d.Kept (e.endDiagFrame st) := .ite (h.same (by rfl)) (h.same (by rfl)).set.event
theorem Dev.Kept.showSample (h : d.Kept e) : d.Kept (e.showSample t) := h.seti.seti.seti.seti.seti.seti.setAll
theorem Dev.Kept.showLevel {lt : Nat} (h : d.Kept e) : d.Kept (e.showLevel lt) := .ite h.set h.draw.set
theorem Dev.Kept.setDrive {s : DriveSt} (h : d.Kept e) : d.Kept { e with tile.drive := s } := h.same rfl

theorem Dev.Kept.startPeriod {mode k j : Nat} {t : TempSample} {mask : List Nat} (h : d.Kept e) :
    d.Kept (e.startPeriod st mode k j t mask) := by
  have h1 := h.endDiagFrame (st := st) |>.noteRate.takeLate (present := gridAt mode k) |>.noteDerate (st := st) (t := t)
  exact h1.setDrive.setAll.showLevel.showSample.takeSnapshots

theorem Dev.Kept.showSignature {sig bytes : Nat} (h : d.Kept e) : d.Kept (e.showSignature n sig bytes) :=
  .ite h.modCrc.setAll.set h.modCrc.setAll.set

theorem Dev.Kept.noteCheck {c : Nat × Nat × Option Nat × Bool × Bool} (h : d.Kept e) : d.Kept (e.noteCheck st f c) := by
  unfold Dev.noteCheck
  extract_lets n
  split
  · exact h.set
  · exact .ite h.showSignature.set.set h.showSignature.set.set.addSat.eventF

theorem Dev.Kept.swapFrame {f : TileFrame} (h : d.Kept e) : d.Kept (e.swapFrame st f) := by
  unfold Dev.swapFrame
  extract_lets held _ _ _ d1
  have h1 : d.Kept d1 := h.halves rfl And.symm
  exact (h1.each fun c _ => c.kept.noteCheck).dropFrame

theorem Dev.Kept.beginFrame {mode present : Nat} {held : Bool} {t : TempSample} {mask : List Nat} (h : d.Kept e) :
    d.Kept (e.beginFrame st mode present held t mask) := by
  unfold Dev.beginFrame
  extract_lets d1 _ _ d2
  have h1 : d.Kept d1 := h.startPeriod.notePeak
  clear_value d1
  exact h1.setDrive.set

theorem Dev.Kept.presentFrame {f : TileFrame} (h : d.Kept e) : d.Kept (e.presentFrame st f) := by
  unfold Dev.presentFrame
  refine .ite h.dropFrame (Dev.Kept.beginFrame ?_)
  split
  · exact h.holdFrame
  · exact h.swapFrame

theorem Dev.Kept.beginStepped (h : d.Kept e) : d.Kept (e.beginStepped st f) := by
  unfold Dev.beginStepped
  dsimp only
  refine Dev.Kept.beginFrame ?_
  split
  · exact h
  · exact h.takeSample

theorem Dev.Kept.tileStepped (h : d.Kept e) : d.Kept (e.tileStepped st) := by
  unfold Dev.tileStepped
  extract_lets now out d1 d2
  have h1 : d.Kept d1 := h.each fun c _ => c.kept.holdFrame
  have h2 : d.Kept d2 := by
    unfold d2
    split
    · exact h1.beginStepped
    · exact h1
  exact h2.same rfl

theorem Dev.Kept.startRefresh (h : d.Kept e) : d.Kept (e.startRefresh j) :=
  .ite (h.same (by rfl)).set (h.same (by rfl)).set.emit

theorem Dev.Kept.leaveSlot (h : d.Kept e) : d.Kept e.leaveSlot := .ite (h.same (by rfl)) h

theorem Dev.Kept.rowSlot {samples : SlotSamples} (h : d.Kept e) : d.Kept (e.rowSlot st samples) := by
  unfold Dev.rowSlot
  extract_lets dr j i d0 d1 _ _ d2 fed _ _ d3
  have h0 : d.Kept d0 := h.leaveSlot
  have h1 : d.Kept d1 := .ite (.ite h0.takeVled (.ite h0.takeNtc h0)) h0
  have h2 : d.Kept d2 := h1.same (by rfl)
  have hfed : d.Kept fed := h2.passEdges.starveBanks
  have h3 : d.Kept d3 := .ite h2 (.ite (hfed.same (by rfl)) hfed.readFront.lightSlot.liveTests)
  exact .ite h3 (h3.same (by rfl))

theorem Dev.Kept.rowSlots (h : d.Kept e) : d.Kept (e.rowSlots st n) := by
  induction n generalizing e with
  | zero => exact h
  | succ n ih => exact ih h.rowSlot

theorem Dev.Kept.retunePinwheel {old new : Nat} (h : d.Kept e) : d.Kept (e.retunePinwheel st old new) :=
  (h.rowSlots.same (by rfl)).startPeriod

theorem Dev.Kept.opFadeArm (h : d.Kept e) : d.Kept e.opFadeArm := .ite h.set (h.same (by rfl)).set
theorem Dev.Kept.opFadeDisarm (h : d.Kept e) : d.Kept e.opFadeDisarm := (h.same (by rfl)).set
theorem Dev.Kept.settleLevel (h : d.Kept e) : d.Kept e.settleLevel := (h.same (by rfl)).each fun c _ => c.kept.enforce

end Sys2Proof.Machine
end

section
/-! SUPPORT. Both invariants pass along every update. The clock, surveys and probes. -/

namespace Sys2Proof.Machine

variable {d e : Dev} {st : Straps} {x n a s status : Nat} {v : Word} {delta o : Int} {desc : List Byte}

theorem Dev.Kept.tick (h : d.Kept e) : d.Kept (e.tick st) := h.same rfl

theorem Dev.Kept.notePins {p : PinLevels} (h : d.Kept e) : d.Kept (e.notePins st p) := by
  unfold Dev.notePins
  extract_lets _ _ d1
  have h1 : d.Kept d1 := h.noteEdges.setb.same (by rfl)
  exact .ite h1 (.ite (Dev.Kept.ite h1.set h1).set (.ite h1.set h1))

theorem Dev.Kept.senderPeriod {before : Nat} (h : d.Kept e) : d.Kept (e.senderPeriod before) := .ite h.noteRate h
theorem Dev.Kept.clockOn (h : d.Kept e) : d.Kept (e.clockOn st) := .ite h (.ite h.tick.senderPeriod h.tick)

theorem Dev.Kept.stepTo {t : Int} (h : d.Kept e) : d.Kept (e.stepTo st t) := by
  unfold Dev.stepTo
  extract_lets c _ _ d1 d2 d3
  have h1 : d.Kept d1 := h.same (by rfl)
  have h2 : d.Kept d2 := h1.setAll
  have h3 : d.Kept d3 := h2.event
  split
  · exact h3.queueAfterStep
  · exact h3.tileStepped

theorem Dev.Kept.stepBy (h : d.Kept e) : d.Kept (e.stepBy st delta) := h.stepTo
theorem Dev.Kept.correct (h : d.Kept e) : d.Kept (e.correct st delta) := .ite h.stepBy (h.setb.same (by rfl))

theorem Dev.Kept.followTime (h : d.Kept e) : d.Kept (e.followTime st o) :=
  (Dev.Kept.ite h.seti.stepBy (h.seti.setb.same (by rfl))).set

theorem Dev.Kept.takeTime {k : RxPkt} (h : d.Kept e) : d.Kept (e.takeTime st k) := by
  unfold Dev.takeTime
  extract_lets body _ _ _ d0
  have h0 : d.Kept d0 := h.set.same (by rfl)
  split
  · exact h0.followTime
  · exact .ite h0 (h0.set.same (by rfl)).eventIf

theorem Dev.Kept.modPtp {f : PtpInst → PtpInst} (h : d.Kept e) : d.Kept (e.modPtp n f) :=
  h.inst rfl (List.length_modify ..)

theorem Dev.Kept.noteUncal (h : d.Kept e) : d.Kept (e.noteUncal n s) :=
  .ite (.ite h (h.same (by rfl))) (.ite (h.same (by rfl)) h)

theorem Dev.Kept.showOffset (h : d.Kept e) : d.Kept (e.showOffset o) := h.seti

theorem Dev.Kept.takeUp (h : d.Kept e) : d.Kept (e.takeUp st n) := by
  unfold Dev.takeUp
  split
  · exact .ite h h.showOffset.correct
  · exact h

theorem Dev.Kept.reselect (h : d.Kept e) :
    d.Kept (e.reselect st) := .ite h (.ite (.ite (.ite h.set h.set.event.raise)
    ((Dev.Kept.ite h.set h.set.event.raise).setAll.same (by rfl)))
    (.ite (.ite (Dev.Kept.ite h.set h.set.event.raise).set (.ite h.set h.set.event.raise))
    (Dev.Kept.ite (Dev.Kept.ite h.set h.set.event.raise).set (.ite h.set h.set.event.raise)).takeUp))

theorem Dev.Kept.ptpEnter (h : d.Kept e) : d.Kept (e.ptpEnter st n s) := h.noteUncal.set.modPtp.event.raise.reselect
theorem Dev.Kept.ptpEmit {o : Out} (h : d.Kept e) : d.Kept (e.ptpEmit o) := .ite h.emit h
theorem Dev.Kept.ptpSend {kind : Nat} (h : d.Kept e) : d.Kept (e.ptpSend n kind) := h.ptpEmit
theorem Dev.Kept.ptpGroups {join : Bool} (h : d.Kept e) : d.Kept (e.ptpGroups n join) := .ite h.ptpEmit h
theorem Dev.Kept.opPtpEnable (h : d.Kept e) : d.Kept (e.opPtpEnable st n) := .ite h.set h.set.modPtp.ptpGroups.ptpEnter
theorem Dev.Kept.opPtpDisable (h : d.Kept e) : d.Kept (e.opPtpDisable st n) := .ite h.set h.set.modPtp.ptpGroups.ptpEnter
theorem Dev.Kept.showMaster {a : Announce} (h : d.Kept e) : d.Kept (e.showMaster n a) := h.modPtp.setAll
theorem Dev.Kept.ptpListen (h : d.Kept e) : d.Kept (e.ptpListen st n) := h.modPtp.ptpEnter

theorem Dev.Kept.followPtp (h : d.Kept e) : d.Kept (e.followPtp st n o) :=
  .ite h.showOffset.set.stepBy.set h.showOffset.set.correct

theorem Dev.Kept.countOffset (h : d.Kept e) : d.Kept (e.countOffset st n o) := .ite h.ptpEnter (.ite h.ptpEnter h.modPtp)
theorem Dev.Kept.sourceChanged (h : d.Kept e) : d.Kept (e.sourceChanged st) := (Dev.Kept.ite h.set.set h.set).reselect
theorem Dev.Kept.ppsHeld (h : d.Kept e) : d.Kept e.ppsHeld := .ite (h.same (by rfl)).emit h

theorem Dev.Kept.modSurvey {f : Survey → Survey} (h : d.Kept e) : d.Kept (e.modSurvey x f) :=
  h.surveys rfl (List.length_modify ..)

theorem Dev.Kept.endSurvey (h : d.Kept e) : d.Kept (e.endSurvey x) := by
  unfold Dev.endSurvey
  extract_lets v
  split
  · exact h
  · split
    · exact h.modSurvey.finishDesc
    · exact h.modSurvey

theorem Dev.Kept.startSurvey {waiter : Option Nat} (h : d.Kept e) : d.Kept (e.startSurvey x waiter) :=
  (h.same (by rfl)).modSurvey.endSurvey

theorem Dev.Kept.surveyFail {range : Bool} (h : d.Kept e) : d.Kept (e.surveyFail st x range) := h.modSurvey.event.endSurvey
theorem Dev.Kept.sendProbe {pos : Nat} {kind : OutKind} (h : d.Kept e) : d.Kept (e.sendProbe st x pos kind) := h.sendCmd

theorem Dev.Kept.probeEnded {o : OutCmd} {span : Int} (h : d.Kept e) : d.Kept (e.probeEnded st o status span) := by
  unfold Dev.probeEnded
  split
  · exact h
  · dsimp only
    split
    · split
      · exact (h.same (by rfl)).finishDesc
      · exact (h.same (by rfl)).surveyFail
    · split
      · split
        · exact (h.same (by rfl)).sendProbe
        · exact h.same rfl
      · split
        · exact (h.same (by rfl)).finishDesc
        · exact (h.same (by rfl)).finishDesc
        · exact (h.same (by rfl)).surveyFail
        · exact (h.same (by rfl)).sendCmd

theorem Dev.Kept.pathWritten (h : d.Kept e) : d.Kept (e.pathWritten st x status) := .ite h.modSurvey.endSurvey h.surveyFail

theorem Dev.Kept.opTimeSet (h : d.Kept e) : d.Kept (e.opTimeSet st desc).2.2 := by
  unfold Dev.opTimeSet
  split
  · exact h
  · split
    · exact h
    · exact h.stepTo.set

theorem Dev.Kept.opTimeAdj (h : d.Kept e) : d.Kept (e.opTimeAdj st desc).2.2 := by
  unfold Dev.opTimeAdj
  split
  · exact h
  · exact h.correct

end Sys2Proof.Machine
end

section
/-! SUPPORT. Both invariants pass along every update. The twin link. -/

namespace Sys2Proof.Machine

variable {d e : Dev} {st : Straps} {x q m t ps : Nat} {w : Swap}

theorem Dev.Kept.setStale {b : Bool} (h : d.Kept e) : d.Kept (e.setStale x q b) := .ite h.set h.set

theorem Dev.Kept.noteAgreement (h : d.Kept e) : d.Kept (e.noteAgreement x q) :=
  .ite (h.setStale.same (by rfl)) (.ite h (h.same (by rfl)))

theorem Dev.Kept.noteAgreements (h : d.Kept e) : d.Kept e.noteAgreements :=
  h.each (fun c _ => c.kept.each (fun c _ => c.kept.noteAgreement))

theorem Dev.Kept.updateSync (h : d.Kept e) : d.Kept e.updateSync := .ite h (h.setb.same (by rfl)).raise
theorem Dev.Kept.enterTwin {s : Nat} (h : d.Kept e) : d.Kept (e.enterTwin s) := .ite h (h.set.same (by rfl)).raise

theorem Dev.Kept.setMode (h : d.Kept e) :
    d.Kept (e.setMode st x m t) := .ite h (.ite (.ite (h.set.raise.same (by rfl)) (h.set.raise.same (by rfl)).stopFeeding)
    (.ite (Dev.Kept.ite (h.set.raise.same (by rfl)) (h.set.raise.same (by rfl)).stopFeeding).opTxidleSet
    (.ite (Dev.Kept.ite (h.set.raise.same (by rfl)) (h.set.raise.same (by rfl)).stopFeeding).opTxidleClear
    (.ite (h.set.raise.same (by rfl)) (h.set.raise.same (by rfl)).stopFeeding))))

theorem Dev.Kept.setModes (h : d.Kept e) : d.Kept (e.setModes st m t) := h.each fun c _ => c.kept.setMode
theorem Dev.Kept.becomeActive (h : d.Kept e) : d.Kept (e.becomeActive st t) := h.set.saveEpoch.enterTwin.setModes.updateSync

theorem Dev.Kept.standbyEpoch (h : d.Kept e) : d.Kept e.standbyEpoch := by
  unfold Dev.standbyEpoch
  split
  · exact h
  · split
    · exact h.set
    · split
      · exact h
      · exact h.set

theorem Dev.Kept.becomeStandby {heard : Bool} (h : d.Kept e) : d.Kept (e.becomeStandby st heard) :=
  (h.enterTwin.same (by rfl)).setModes.standbyEpoch.updateSync

theorem Dev.Kept.enterInit (h : d.Kept e) : d.Kept (e.enterInit st) :=
  .ite ((h.same (by rfl)).each (fun c _ => c.kept.opTxidleSet)) (h.same (by rfl)).becomeActive

theorem Dev.Kept.linkLost (h : d.Kept e) : d.Kept (e.linkLost st) := h.set.event
theorem Dev.Kept.takeover (h : d.Kept e) : d.Kept (e.takeover st) := h.set.becomeActive.event

theorem Dev.Kept.decideInit (h : d.Kept e) :
    d.Kept (e.decideInit st) := .ite (.ite h.becomeStandby (.ite h.becomeActive
    (.ite (.ite h.event.becomeActive h.event.becomeStandby) (.ite h.becomeActive h.becomeStandby))))
    (.ite h.linkLost.becomeStandby h.becomeActive)

theorem Dev.Kept.swapGrid (h : d.Kept e) : d.Kept (e.swapGrid t).2 := by
  unfold Dev.swapGrid
  dsimp only
  split
  · exact h.same rfl
  · exact h

theorem Dev.Kept.startSwap {index : Option Nat} (h : d.Kept e) : d.Kept (e.startSwap ps index) := h.set.same rfl

theorem Dev.Kept.endSwap {status value : Nat} (h : d.Kept e) : d.Kept (e.endSwap status value) := by
  unfold Dev.endSwap
  split
  · exact h
  · dsimp only
    split
    · exact (h.set.same (by rfl)).finishDesc
    · exact h.set.same rfl

theorem Dev.Kept.refuseSwap (h : d.Kept e) : d.Kept e.refuseSwap := h.endSwap.same rfl

theorem Dev.Kept.opTwinSwap {desc : List Byte} {index : Nat} (h : d.Kept e) : d.Kept (e.opTwinSwap desc index).2 := by
  unfold Dev.opTwinSwap
  extract_lets t
  split
  · exact h
  split
  · exact h
  split
  · exact h
  split
  · exact h.startSwap
  · exact h.swapGrid.startSwap

theorem Dev.Kept.takeReq {req : Nat} (h : d.Kept e) : d.Kept (e.takeReq st req ps) := by
  unfold Dev.takeReq
  split
  · exact .ite h (.ite (h.set.same (by rfl)) (h.same (by rfl)))
  · split
    · exact .ite ((h.same (by rfl)).each (fun c _ => c.kept.setMode)) h
    · exact h
  · split
    · exact .ite h.refuseSwap h
    · exact h
  · dsimp only
    split
    · exact .ite (Dev.Kept.ite (h.same (by rfl)) h).endSwap (.ite (h.same (by rfl)) h)
    · exact .ite (h.same (by rfl)) h

theorem Dev.Kept.checkSwap (h : d.Kept e) : d.Kept (e.checkSwap st w) :=
  .ite (h.same (by rfl)) ((h.each (fun c _ => c.kept.setMode)).event.endSwap.same (by rfl))

theorem Dev.Kept.performSwap (h : d.Kept e) :
    d.Kept (e.performSwap st w) := .ite (.ite (h.same (by rfl)).becomeActive (h.same (by rfl)))
    (.ite (h.same (by rfl)).enterTwin.setModes.updateSync (h.same (by rfl)))

theorem Dev.Kept.takeYoyo {m : List Byte} (h : d.Kept e) : d.Kept (e.takeYoyo st m) := by
  unfold Dev.takeYoyo
  extract_lets _ d0 d1 d2 ps
  have h0 : d.Kept d0 := h.same (by rfl)
  have h1 : d.Kept d1 := h0.set.each fun c _ => c.kept.setAll
  have h2 : d.Kept d2 := .ite h1.becomeStandby h1.standbyEpoch
  exact h2.takeReq.noteAgreements.updateSync

theorem Dev.Kept.askManifest (h : d.Kept e) : d.Kept (e.askManifest st x q) := .ite h h.sendCmd
theorem Dev.Kept.noteWitness {k : RxPkt} (h : d.Kept e) : d.Kept (e.noteWitness k) := h.same rfl

theorem Dev.Kept.notePresent (h : d.Kept e) : d.Kept (e.notePresent st x q) := by
  unfold Dev.notePresent
  extract_lets fresh d0 _ d1 _ d2
  have h0 : d.Kept d0 := h.modPort (by simp)
  have h1 : d.Kept d1 := h0.same rfl
  have h2 : d.Kept d2 := .ite (h1.same rfl) h1
  exact h2.noteAgreement.askManifest

end Sys2Proof.Machine
end

section
/-! SUPPORT. Both invariants pass along every update. What a reset clears. -/

namespace Sys2Proof.Machine

variable {d e : Dev} {st : Straps} {x : Nat}

theorem Dev.Kept.withAlert {f : Dev → Dev} (h : d.Kept e) (hf : ∀ (c : Dev), c.Kept (f c)) : d.Kept (e.withAlert f) :=
  .ite (h.trans (hf _)) (h.trans (hf _)).emit

theorem Dev.Kept.roleResets (h : d.Kept e) : d.Kept (e.roleResets st) := by
  unfold Dev.roleResets
  split
  · exact h.setAll
  · exact (h.each (fun c _ => c.kept.setAll)).set

theorem Dev.Kept.aonResets (h : d.Kept e) : d.Kept (e.aonResets st) := .ite h.setAll h

theorem Cells.wf_resetRegs {p : Nat → Access → Bool} {c : Cells Word} : Cells.wf regReset (resetRegs p c) = true := by
  induction c with
  | nil => rfl
  | cons x c ih => exact Cells.wf_write _ _ _ _ ih

theorem Dev.Kept.cleared {regs : Nat → Access → Bool} {taps clock : Bool} (h : d.Kept e) :
    d.Kept (e.cleared st regs taps clock) := by
  refine Dev.Kept.roleResets (Dev.Kept.setAll ⟨fun hd => ?_, fun hd => ?_⟩)
  · obtain ⟨h4, hp, -⟩ := h.1 hd
    obtain ⟨-, -, -, -, -, -, hnvm⟩ := h.cutLoader.1 hd
    refine ⟨by simpa [Dev.portsAfter] using h4, fun q hq => ?_, rfl, rfl, rfl, rfl, hnvm⟩
    obtain ⟨p, hm, rfl⟩ := List.mem_map.mp hq
    exact ⟨by simpa using (hp p hm).1, rfl⟩
  · obtain ⟨-, -, -, -, -, -, -, -, -, hs, hk⟩ := h.2 hd
    exact ⟨by simp [Cells.wf_resetRegs], rfl, rfl, rfl, rfl, rfl, rfl, rfl, rfl, hs, hk⟩

theorem Dev.Kept.outputsOff (h : d.Kept e) : d.Kept (e.outputsOff st) :=
  (Dev.Kept.ite (Dev.Kept.ite h.emit h).emit.emit.emit (Dev.Kept.ite h.emit h).emit).each fun c _ => c.kept.emit

theorem Dev.Kept.enterWarm {cause : Nat} {clock : Bool} (h : d.Kept e) : d.Kept (e.enterWarm st cause clock) :=
  (h.clearMbxs.outputsOff.cleared.same (by rfl)).setAll.addSat

theorem Dev.Kept.enterShutdown {tdev : Int} (h : d.Kept e) : d.Kept (e.enterShutdown st tdev) := h.enterWarm.same rfl

end Sys2Proof.Machine
end

section
/-! SUPPORT. Both invariants pass along every update. Calibration. -/

namespace Sys2Proof.Machine

variable {d e : Dev} {st : Straps} {r : List Byte} {src result : Nat} {c : CalStep} {cond : CalConditions} {commits : Bool}
  {l : List (Nat × Int)}

theorem Dev.Kept.putCal {later : Bool} {ws : List (Nat × Nat)} (h : d.Kept e) : d.Kept (e.putCal st later ws) :=
  h.each fun c _ => .ite c.kept.actsLater c.kept.wr

theorem Dev.Kept.setQAdc (h : d.Kept e) : d.Kept (e.setQAdc r) := h.setAll
theorem Dev.Kept.setQSens (h : d.Kept e) : d.Kept (e.setQSens r) := h.setAll
theorem Dev.Kept.showSlots (h : d.Kept e) : d.Kept (e.showSlots src) := h.setAll
theorem Dev.Kept.showQuality (h : d.Kept e) : d.Kept (e.showQuality st src) := .ite h.setQSens.setQAdc.set h.setQSens

theorem Dev.Kept.loadCal (h : d.Kept e) : d.Kept (e.loadCal st) :=
  .ite h.putCal.showSlots.showQuality.event (.ite h.putCal.showSlots.showQuality.event h.putCal.showSlots.showQuality)

theorem Dev.Kept.commitCal (h : d.Kept e) : d.Kept (e.commitCal r) := h.writeSlot.commitSlot.showSlots
theorem Dev.Kept.selectPoor {w : Nat → Nat} (h : d.Kept e) : d.Kept (selectPoor w e).2 := h.same rfl

theorem Dev.Kept.selectAll {w : Nat → Nat → Nat} {g : Nat} (h : d.Kept e) : d.Kept (e.selectAll w g).2 := by
  refine List.foldlRecOn (motive := fun (acc : List SinkSel × Dev) => d.Kept acc.2) _ _ h fun acc ha s _ => ?_
  split
  · exact ha
  · exact ha.selectPoor (w := w s)

theorem Dev.Kept.endCal {value : Nat} (h : d.Kept e) : d.Kept (e.endCal st c result value) := (h.same (by rfl)).setAll.answerOpt
theorem Dev.Kept.failCal {reason : Nat} (h : d.Kept e) : d.Kept (e.failCal st c reason) := h.setAll.event.endCal

theorem Dev.Kept.whenCal {f : Dev → Dev} (h : d.Kept e) (hf : ∀ (c : Dev), c.Kept (f c)) : d.Kept (e.whenCal st c cond f) :=
  .ite (h.trans (hf _)) h.failCal

theorem Dev.Kept.opCalRun {w : Waiter} {data0 : Nat} (h : d.Kept e) : d.Kept (e.opCalRun st w data0 cond).2 := by
  unfold Dev.opCalRun
  dsimp only
  split
  · exact h
  · split
    · exact h
    · exact h.whenCal (fun c => (c.kept.same (by rfl)).setAll)

theorem Dev.Kept.opCalAbort (h : d.Kept e) : d.Kept (e.opCalAbort st) := by
  unfold Dev.opCalAbort
  split
  · exact h.endCal
  · exact h

theorem Dev.Kept.stopCal (h : d.Kept e) : d.Kept (e.stopCal st) := by
  unfold Dev.stopCal
  split
  · exact h
  · exact (h.same (by rfl)).setAll.answerOpt

theorem Dev.Kept.finishCal {parts : List (Nat × List Byte)} {words : List Byte → List (Nat × Nat)} {q : Dev → Dev}
    {value : Dev → Nat} (h : d.Kept e) (hq : ∀ (c : Dev), c.Kept (q c)) : d.Kept
    (e.finishCal st c commits parts words q value) := .ite h.endCal (h.commitCal.putCal.trans (hq _)).event.endCal

theorem Dev.Kept.finishSink {runs : List SinkRun} (h : d.Kept e) : d.Kept (e.finishSink st c commits runs) := by
  unfold Dev.finishSink
  extract_lets w tcal _ mids
  split
  · exact h.endCal
  · exact (h.selectAll.each (fun c _ => c.kept.event)).finishCal fun c => c.kept.setAll

theorem Dev.Kept.finishAdc (h : d.Kept e) : d.Kept (e.finishAdc st c commits l) := h.finishCal fun c => c.kept.setQAdc

theorem Dev.Kept.finishSens {c : CalStep} {commits : Bool} {l : List Int} (h : d.Kept e) :
    d.Kept (e.finishSens st c commits l) := by
  unfold Dev.finishSens
  exact h.finishCal fun c => c.kept.setQSens

theorem Dev.Kept.finishLane {w0 w1 : Nat} (h : d.Kept e) : d.Kept (e.finishLane st c w0 w1) := h.setAll.event.endCal
theorem Dev.Kept.disagreeCal (h : d.Kept e) : d.Kept (e.disagreeCal st c) := h.event.endCal

theorem Dev.Kept.settleCal {α : Type} {agree : List α → Bool} {attempts : List (List α)} {f : List α → Dev → Dev}
    (h : d.Kept e) (hf : ∀ x0 (c : Dev), c.Kept (f x0 c)) : d.Kept (e.settleCal st c agree attempts f) := by
  unfold Dev.settleCal
  split
  · exact h.trans (hf _ _)
  · exact h.disagreeCal
  · exact h

theorem Dev.Kept.opCalRevert (h : d.Kept e) : d.Kept (e.opCalRevert st).2 := by
  unfold Dev.opCalRevert
  dsimp only
  split
  · exact h.same rfl
  · exact h.writeFails.commitCal.putCal.showQuality

theorem Dev.Kept.failBoot (h : d.Kept e) : d.Kept (e.failBoot st c result) := h.draw.event.endCal

theorem Dev.Kept.applyBoot (h : d.Kept e) : d.Kept (e.applyBoot st c l) :=
  .ite h.writeFails.failBoot (Dev.Kept.ite h.writeFails.commitCal h).putCal.setQAdc.event.endCal

theorem Dev.Kept.bootAdc {adc : List (List (List (Nat × Nat)))} (h : d.Kept e) : d.Kept (e.bootAdc st adc) := by
  unfold Dev.bootAdc
  split
  · exact h
  · dsimp only
    split
    · exact h.failCal
    · split
      · split
        · exact h.applyBoot
        · exact h.failBoot
      · exact h.disagreeCal

end Sys2Proof.Machine
end

section
/-! SUPPORT. Both invariants pass along every update. Footprint, coefficient set and fade. -/

namespace Sys2Proof.Machine

variable {d e : Dev} {st : Straps} {v : Word}

theorem Dev.Kept.showCoef (h : d.Kept e) : d.Kept e.showCoef := (h.each (fun c _ => c.kept.setAll)).setb
theorem Dev.Kept.noteMap (h : d.Kept e) : d.Kept (e.noteMap st) := .ite (h.same (by rfl)).set.event (h.same (by rfl))

theorem Dev.Kept.noteCanvas (h : d.Kept e) : d.Kept (e.noteCanvas st) := by
  unfold Dev.noteCanvas
  split
  · exact .ite h.set.event h
  · exact h

theorem Dev.Kept.opFpArm (h : d.Kept e) : d.Kept (e.opFpArm st) := .ite h.set h.set
theorem Dev.Kept.opFpDisarm (h : d.Kept e) : d.Kept e.opFpDisarm := h.set
theorem Dev.Kept.copyFootprints (h : d.Kept e) : d.Kept (e.copyFootprints st) := .ite h.wr.wr (h.each (fun c _ => c.kept.wr.wr))
theorem Dev.Kept.opCorArm (h : d.Kept e) : d.Kept e.opCorArm := .ite h.set h.set
theorem Dev.Kept.opCorDisarm (h : d.Kept e) : d.Kept e.opCorDisarm := h.set

theorem Dev.Kept.opCorCanvas {v : Nat} (h : d.Kept e) : d.Kept (e.opCorCanvas st v) :=
  (Dev.Kept.ite (Dev.Kept.ite h.set h).set (.ite h.set h)).noteCanvas

theorem Dev.Kept.unloadStaged (h : d.Kept e) : d.Kept e.unloadStaged := h.set.same rfl

theorem Dev.Kept.emptyCoefSlot {slot : Nat} (h : d.Kept e) : d.Kept (e.emptyCoefSlot slot) := by
  unfold Dev.emptyCoefSlot
  extract_lets d1
  have h1 : d.Kept d1 := .ite h.unloadStaged h
  have h2 := h1.setSlots (kind := NK_COEF) (l := setAt d1.nvm.coef slot NvmSlot.empty) (List.length_set ..)
  exact h2.countWrite.showCoef

theorem Dev.Kept.coefFails {bytes : List Byte} (h : d.Kept e) : d.Kept (e.coefFails bytes).2 := by
  unfold Dev.coefFails
  split
  · exact h
  · exact h.same rfl

theorem Dev.Kept.storeCoefSet {bytes : List Byte} (h : d.Kept e) : d.Kept (e.storeCoefSet bytes).2 := by
  unfold Dev.storeCoefSet
  extract_lets slot seq f d1 q d2
  have hf : d.Kept f.2 := h.coefFails
  have h2 : d.Kept d2 := hf.unloadStaged.writeSlot.commitSlot
  clear_value d2
  split
  · exact hf.emptyCoefSlot
  · refine Dev.Kept.showCoef ?_
    exact h2.nvm rfl fun ⟨hm, hl, hf, hq, hrest⟩ => ⟨hm, hl, hf, (List.length_set ..).trans hq, hrest⟩

theorem Dev.Kept.startCoef (h : d.Kept e) : d.Kept (e.startCoef st) := by
  unfold Dev.startCoef
  extract_lets act staged d0 _ d1 d2
  have h0 : d.Kept d0 := h.set
  have h1 : d.Kept d1 := h0.same rfl
  have h2 : d.Kept d2 := h1.showCoef.eventIf.noteCanvas
  clear_value d2
  exact h2.same rfl

end Sys2Proof.Machine
end

section
/-! SUPPORT. Both invariants pass along every update. Stored objects and updates. -/

namespace Sys2Proof.Machine

variable {d e : Dev} {st : Straps} {n src session content off c pa index : Nat} {t b data p : List Byte} {e' : MEntry}
  {other : Option MEntry} {rollback : Bool}

theorem Dev.Kept.renewed (h : d.Kept e) : d.Kept (e.renewed src) := by
  unfold Dev.renewed
  split
  · exact .ite (h.same (by rfl)) h
  · exact h

theorem Dev.Kept.leased {f : Dev → Answer} (h : d.Kept e) (hf : ∀ (c : Dev), c.Kept (f c).2) : d.Kept (e.leased src f).2 := by
  unfold Dev.leased
  split
  · exact h
  · exact h.renewed.trans (hf _)

theorem Dev.Kept.withLease {f : Dev → Answer} (h : d.Kept e) (hf : ∀ (c : Dev), c.Kept (f c).2) :
    d.Kept (e.withLease src f).2 := by
  unfold Dev.withLease
  refine h.leased fun c => ?_
  · split
    · exact c.kept.trans (hf _)
    · exact c.kept

theorem Dev.Kept.opUpdOpen (h : d.Kept e) : d.Kept (e.opUpdOpen src session).2 := h.leased (fun c => c.kept.same (by rfl))
theorem Dev.Kept.opUpdRenew (h : d.Kept e) : d.Kept (e.opUpdRenew src).2 := h.withLease fun c => c.kept
theorem Dev.Kept.opUpdClose (h : d.Kept e) : d.Kept (e.opUpdClose src).2 := h.leased (fun c => c.kept.same (by rfl))
theorem Dev.Kept.keepPriv (h : d.Kept e) : d.Kept e.keepPriv := (h.same (by rfl)).countWrite
theorem Dev.Kept.secureDefaults (h : d.Kept e) : d.Kept e.secureDefaults := h.setAll.keepPriv
theorem Dev.Kept.useToken (h : d.Kept e) : d.Kept (e.useToken t) := (h.same (by rfl)).countWrite

theorem Dev.Kept.applyToken (h : d.Kept e) : d.Kept (e.applyToken t) := by
  unfold Dev.applyToken
  split
  · exact h.same rfl
  · exact h.same rfl
  · exact h.set
  · exact h.set.keepPriv
  · exact .ite h h.set.keepPriv
  · exact h.same rfl
  · exact h

theorem Dev.Kept.opToken (h : d.Kept e) : d.Kept (e.opToken t).2 := by
  unfold Dev.opToken
  split
  · exact h
  · split
    · exact h.same rfl
    · exact h.useToken.applyToken

theorem Dev.Kept.opEnroll (h : d.Kept e) : d.Kept (e.opEnroll st src b).2 := by
  unfold Dev.opEnroll
  dsimp only
  split
  · exact h
  · exact (h.same (by rfl)).countWrite.event

theorem Dev.Kept.takeManifest {part : List Byte} (h : d.Kept e) : d.Kept (e.takeManifest st part).2 := by
  unfold Dev.takeManifest
  dsimp only
  split
  · exact h
  · split
    · exact h
    · exact h.writeSlot.commitSlot.same rfl

theorem Dev.Kept.opManifest {last : Bool} (h : d.Kept e) : d.Kept (e.opManifest st src content off data last).2 := by
  unfold Dev.opManifest
  dsimp only
  split
  · refine h.withLease fun c => ?_
    · split
      · exact c.kept
      · split
        · exact c.kept.same rfl
        · split
          · exact (c.kept.same (by rfl)).takeManifest
          · exact (c.kept.same (by rfl)).opToken
          · exact (c.kept.same (by rfl)).opEnroll
  · split
    · exact h
    · split
      · exact h.same rfl
      · split
        · exact (h.same (by rfl)).takeManifest
        · exact (h.same (by rfl)).opToken
        · exact (h.same (by rfl)).opEnroll
  · split
    · exact h
    · split
      · exact h.same rfl
      · split
        · exact (h.same (by rfl)).takeManifest
        · exact (h.same (by rfl)).opToken
        · exact (h.same (by rfl)).opEnroll
  · exact h

theorem Dev.Kept.commitChunk {m : MEntry} {c : Nat} {b : List Byte} (h : d.Kept e) : d.Kept (e.commitChunk m c b) := by
  unfold Dev.commitChunk
  extract_lets chunk d1 _ _ _ d2
  have h1 : d.Kept d1 := h.modSlot.clearBadIn
  have h2 : d.Kept d2 := Dev.Kept.countWrite (h1.same rfl)
  exact .ite h2.commitSlot h2

theorem Dev.Kept.judgeChunk (h : d.Kept e) : d.Kept (e.judgeChunk e' other c b).2 := by
  unfold Dev.judgeChunk
  dsimp only
  split
  · split
    · exact (h.same (by rfl)).commitChunk
    · exact h.same rfl
  · split
    · exact h
    · split
      · exact h
      · exact h.same rfl

theorem Dev.Kept.stageChunk {start : Nat} (h : d.Kept e) : d.Kept (e.stageChunk e' other c start data).2 := by
  unfold Dev.stageChunk
  dsimp only
  split
  · exact h
  · split
    · exact h.judgeChunk
    · split
      · exact (h.same (by rfl)).judgeChunk
      · exact h

theorem Dev.Kept.stageChunks {m : MEntry} {other : Option MEntry} {l : List (Nat × Nat × List Byte)} (h : d.Kept e) :
    d.Kept (e.stageChunks m other l).2 := by
  induction l generalizing e with
  | nil => exact h
  | cons p rest ih =>
    unfold Dev.stageChunks
    extract_lets r
    split
    · exact ih h.stageChunk
    · exact h.stageChunk

theorem Dev.Kept.endStage {m : MEntry} {r : Answer} (h : d.Kept r.2) : d.Kept (Dev.endStage m r).2 := by
  unfold Dev.endStage
  extract_lets whole
  split
  · exact h.same rfl
  · exact h

theorem Dev.Kept.opMgmtStage {src off : Nat} {data : List Byte} {last : Bool} (h : d.Kept e) :
    d.Kept (e.opMgmtStage st src off data last).2 := by
  refine h.withLease fun c => ?_
  split
  · exact c.kept
  · split
    · exact c.kept.stageChunks.endStage
    · exact c.kept.stageChunks

theorem Dev.Kept.judgeDelta (h : d.Kept e) : d.Kept (e.judgeDelta e').2 := by
  unfold Dev.judgeDelta
  dsimp only
  split
  · exact h.same rfl
  · split
    · exact h.same rfl
    · split
      · split
        · exact h
        · exact h.same rfl
      · exact h.same rfl
      · split
        · exact h.writeSlot.commitSlot.same rfl
        · exact h.same rfl

theorem Dev.Kept.opUcodeDelta (h : d.Kept e) : d.Kept (e.opUcodeDelta src off data).2 := by
  unfold Dev.opUcodeDelta
  refine h.withLease fun c => ?_
  · split
    · exact c.kept
    · split
      · exact c.kept.same rfl
      · split
        · exact c.kept
        · dsimp only
          split
          · exact (c.kept.same (by rfl)).clearBadIn.countWrite
          · exact (c.kept.same (by rfl)).clearBadIn.countWrite.judgeDelta

theorem Dev.Kept.opStage {object : Nat} (h : d.Kept e) : d.Kept (e.opStage st src object content off data).2 := by
  unfold Dev.opStage
  split
  · exact h.opMgmtStage
  · exact h.opUcodeDelta
  · exact h.opManifest
  · exact h

theorem Dev.Kept.notReadyFor {reason : Nat} (h : d.Kept e) : d.Kept (e.notReadyFor reason).2 := (h.same (by rfl)).set

theorem Dev.Kept.opUpdPrepare (h : d.Kept e) : d.Kept (e.opUpdPrepare st src rollback).2 := by
  unfold Dev.opUpdPrepare
  refine h.withLease fun c => ?_
  · split
    · exact (c.kept.same (by rfl)).set
    · dsimp only
      split
      · exact c.kept.same rfl
      · exact c.kept.notReadyFor

theorem Dev.Kept.loadEngines (h : d.Kept e) : d.Kept e.loadEngines := (h.same (by rfl)).memWriteAll

theorem Dev.Kept.arm {pa : Nat} (h : d.Kept e) : d.Kept (e.arm st pa).2 := by
  unfold Dev.arm
  extract_lets r
  split
  · exact h.notReadyFor
  · split
    · exact h.draw.notReadyFor
    · dsimp only
      refine Dev.Kept.loadEngines (Dev.Kept.countWrite ?_)
      exact h.same rfl

theorem Dev.Kept.opUpdActivate {src pa : Nat} {checked : Bool} (h : d.Kept e) :
    d.Kept (e.opUpdActivate st src pa checked).2 :=
  h.withLease fun c => .iteSnd c.kept.set (.iteSnd c.kept c.kept.arm)

theorem Dev.Kept.disarm (h : d.Kept e) : d.Kept e.disarm := by
  unfold Dev.disarm
  split
  · exact .ite (h.same (by rfl)).countWrite.loadEngines h
  · exact h

theorem Dev.Kept.opUpdAbort (h : d.Kept e) : d.Kept (e.opUpdAbort src).2 := h.leased fun c => c.kept.disarm
theorem Dev.Kept.broadcast {body : List Byte} (h : d.Kept e) : d.Kept (e.broadcast st body) := h.each fun c _ => c.kept.queueTx

theorem Dev.Kept.broadcastOp {kind flags : Nat} {m : List Byte} (h : d.Kept e) :
    d.Kept (e.broadcastOp st session kind flags pa m) := h.broadcast

theorem Dev.Kept.updateNamed {f : Dev → Answer} (h : d.Kept e) (hf : ∀ (c : Dev), c.Kept (f c).2) :
    d.Kept (e.updateNamed p rollback f).2 := by
  unfold Dev.updateNamed
  split
  · exact h.trans (hf _)
  · exact h.leased fun c => c.kept.set

theorem Dev.Kept.updateQuiet {f : Dev → Answer} (h : d.Kept e) (hf : ∀ (c : Dev), c.Kept (f c).2) :
    d.Kept (e.updateQuiet st p f) := .ite (h.trans (hf _)) (h.updateNamed (hf)).respond

theorem Dev.Kept.updateData (h : d.Kept e) : d.Kept (e.updateData st p).2 := by
  unfold Dev.updateData
  split
  · exact h.leased fun c => c.kept
  · dsimp only
    split
    · exact h.opStage
    · exact h.updateNamed fun c => c.kept.opStage

theorem Dev.Kept.endPrepare {m : Domino} (h : d.Kept e) : d.Kept (e.endPrepare st m) := (h.same (by rfl)).finishDesc

theorem Dev.Kept.checkPrepare (h : d.Kept e) : d.Kept (e.checkPrepare st) := by
  unfold Dev.checkPrepare
  split
  · exact .ite h.endPrepare h
  · exact h

theorem Dev.Kept.wallPrepare (h : d.Kept e) : d.Kept (e.wallPrepare st index rollback).2 := by
  unfold Dev.wallPrepare
  dsimp only
  split
  · exact h.opUpdPrepare
  · exact (h.opUpdPrepare.same (by rfl)).broadcastOp.checkPrepare

theorem Dev.Kept.wallActivate (h : d.Kept e) : d.Kept (e.wallActivate st index pa).2 := by
  unfold Dev.wallActivate
  dsimp only
  split
  · exact h.opUpdActivate
  · exact (h.opUpdActivate.same (by rfl)).broadcastOp

theorem Dev.Kept.dominoRsp {status : Nat} (h : d.Kept e) : d.Kept (e.dominoRsp st src status) := by
  unfold Dev.dominoRsp
  split
  · exact (h.same (by rfl)).checkPrepare
  · exact h

theorem Dev.Kept.switchOver (h : d.Kept e) : d.Kept (e.switchOver st pa).2 :=
  .ite (h.same (by rfl)).countWrite.loadEngines (h.same (by rfl)).countWrite.loadEngines.secureDefaults

theorem Dev.Kept.swapImages (h : d.Kept e) : d.Kept e.swapImages := by
  unfold Dev.swapImages
  refine Dev.Kept.countWrite ?_
  exact h.nvm rfl fun ⟨_, hrest⟩ => ⟨rfl, hrest⟩

theorem Dev.Kept.keepHashes (h : d.Kept e) : d.Kept (e.keepHashes st) := h.same rfl
theorem Dev.Kept.setBoot {b : BootSt} (h : d.Kept e) : d.Kept { e with boot := b } := h.same rfl

theorem Dev.Kept.releaseCores (h : d.Kept e) : d.Kept (e.releaseCores st) := by
  unfold Dev.releaseCores
  extract_lets d1
  have h1 : d.Kept (d1.set SEC_STAT_RECOVERY 0) := h.keepHashes.loadEngines.set
  exact h1.setBoot.memWriteAll

theorem Dev.Kept.holdCores (h : d.Kept e) : d.Kept (e.holdCores st) := h.set.same rfl
theorem Dev.Kept.resumeCores (h : d.Kept e) : d.Kept (e.resumeCores st) := .ite h.holdCores h.releaseCores

theorem Dev.Kept.opAttest {nonce : List Byte} (h : d.Kept e) : d.Kept (e.opAttest st nonce).2 := by
  unfold Dev.opAttest
  extract_lets q _ _ d1
  have h1 : d.Kept d1 := .ite (Dev.Kept.countWrite (h.same rfl)) h
  split
  · exact h
  · exact h1.same rfl

theorem Dev.Kept.svcDone {r : Answer} (h : d.Kept r.2) : d.Kept (Dev.svcDone r) := h.setAll

theorem Dev.Kept.opSvc {src op object content : Nat} (h : d.Kept e) : d.Kept (e.opSvc st src op object content) := by
  unfold Dev.opSvc
  split
  · exact h.opUpdOpen.svcDone
  · exact h.opUpdRenew.svcDone
  · exact h.opUpdClose.svcDone
  · exact h.opStage.svcDone
  · exact h.opUpdPrepare.svcDone
  · exact h.opUpdActivate.svcDone
  · exact h.opUpdAbort.svcDone
  · exact h

theorem Dev.Kept.noteBad {area : NvmArea} (h : d.Kept e) : d.Kept (e.noteBad area off n) := by
  unfold Dev.noteBad
  split
  · exact h
  · exact h.setAll

end Sys2Proof.Machine
end

section
/-! SUPPORT. Both invariants pass along every update. Dormancy. -/

namespace Sys2Proof.Machine

variable {d e : Dev} {st : Straps} {x : Nat}

theorem Dev.Kept.opDormArm (h : d.Kept e) : d.Kept e.opDormArm := .ite h.set h.set
theorem Dev.Kept.opDormDisarm (h : d.Kept e) : d.Kept e.opDormDisarm := h.set
theorem Dev.Kept.flushRecorder (h : d.Kept e) : d.Kept (e.flushRecorder st) := h.finish.opRecorderWrite.opRecorderWrite

theorem Dev.Kept.enterDormant (h : d.Kept e) : d.Kept (e.enterDormant st) := by
  unfold Dev.enterDormant
  extract_lets d1 _ aon d2 d3
  have h1 : d.Kept d1 := h.set.event.flushRecorder
  have h2 : d.Kept d2 := Dev.Kept.outputsOff (Dev.Kept.set (h1.same rfl))
  have h3 : d.Kept d3 := h2.cleared
  clear_value d3
  exact h3.same rfl

theorem Dev.Kept.latchWake {bit : Nat} (h : d.Kept e) : d.Kept (e.latchWake bit) := h.same rfl
theorem Dev.Kept.latchLoss {f : Fld} {present : Bool} (h : d.Kept e) : d.Kept (e.latchLoss f present) := .ite h.set h
theorem Dev.Kept.aonTick (h : d.Kept e) : d.Kept e.aonTick := .ite (h.same (by rfl)) (h.same (by rfl))

theorem Dev.Kept.opTone {ports : Nat} (h : d.Kept e) : d.Kept (e.opTone ports) :=
  h.each (fun c _ => (c.kept.modPort (by simp)).emit)

theorem Dev.Kept.endTone (h : d.Kept e) : d.Kept (e.endTone st x) :=
  .ite (h.modPort (by simp)).emit.enterTrain (h.modPort (by simp)).emit

theorem Dev.Kept.pinEdge {level seen : Fld} {k : EvCode} {low : Bool} (h : d.Kept e) :
    d.Kept (e.pinEdge st level seen k low) := .ite h.setb.set.event h.setb

end Sys2Proof.Machine
end

section
/-! SUPPORT. Both invariants pass along every update. The thermal rounds. -/

namespace Sys2Proof.Machine

variable {d e : Dev} {st : Straps} {n : Nat} {v : Word} {tdev : Int}

theorem Dev.Kept.takeReadings {raw : List SensorReading} (h : d.Kept e) : d.Kept (e.takeReadings st raw) := by
  unfold Dev.takeReadings
  refine h.each fun c _ => ?_
  · split
    · exact .ite c.kept.seti.setb c.kept.set
    · exact c.kept.set

theorem Dev.Kept.crossCheck {seen : Dev} (h : d.Kept e) : d.Kept (Dev.crossCheck st n seen e) := by
  unfold Dev.crossCheck
  refine .ite (.ite (Dev.Kept.event (Dev.Kept.setAll (h.same ?_))) (h.same rfl))
    (.ite (.ite (Dev.Kept.set (h.same ?_)) (h.same rfl)) (h.same rfl))
  · rfl
  · rfl

theorem Dev.Kept.judgeWarning (h : d.Kept e) : d.Kept (e.judgeWarning st tdev) :=
  .ite (h.same (by rfl)) (.ite (h.same (by rfl)).set.event (h.same (by rfl)).setAll.event)

theorem Dev.Kept.setTlevel {v : Nat} (h : d.Kept e) : d.Kept (e.setTlevel st v) := h.setAll.eventIf

theorem Dev.Kept.stepTlevel {region : Nat} (h : d.Kept e) : d.Kept (e.stepTlevel st region) := by
  unfold Dev.stepTlevel
  dsimp only
  split
  · exact h.setTlevel
  · exact h.setTlevel
  · exact h

theorem Dev.Kept.judgeRegion (h : d.Kept e) : d.Kept (e.judgeRegion st tdev) :=
  .ite (h.same (by rfl)) (.ite (h.same (by rfl)) (h.same (by rfl)).stepTlevel)

theorem Dev.Kept.shutRound (h : d.Kept e) : d.Kept e.shutRound := by
  unfold Dev.shutRound
  split
  · exact h
  · exact h.same rfl

theorem Dev.Kept.liveRound (h : d.Kept e) : d.Kept (e.liveRound st) := by
  unfold Dev.liveRound
  extract_lets d1
  have h1 : d.Kept d1 := h.each fun c _ => c.kept.crossCheck
  split
  · exact h1
  · refine .ite (Dev.Kept.enterShutdown ?_) ?_
    · exact h1.seti.judgeWarning.judgeRegion
    · exact h1.seti.judgeWarning.judgeRegion

end Sys2Proof.Machine
end

section
/-! SUPPORT. Both invariants pass along every update. Errors of the fabric. -/

namespace Sys2Proof.Machine

variable {d e : Dev} {st : Straps} {mem unit : Nat} {i : SramItem}

theorem Dev.Kept.opPinjArm (h : d.Kept e) : d.Kept (e.opPinjArm mem unit) :=
  .ite (.ite (h.same (by rfl)).memInject (h.same (by rfl))) h

theorem Dev.Kept.opPinjCancel (h : d.Kept e) : d.Kept e.opPinjCancel := h.same rfl

theorem Dev.Kept.failProgress (h : d.Kept e) : d.Kept e.failProgress := by
  unfold Dev.failProgress
  split
  · exact h.modFrame
  · exact h

theorem Dev.Kept.engineError (h : d.Kept e) : d.Kept (e.engineError st unit) := by
  unfold Dev.engineError
  split
  · exact h.reloadEngine.failProgress
  · exact h.engineCut

theorem Dev.Kept.anyBlock (h : d.Kept e) : d.Kept (e.anyBlock).2 := by
  unfold Dev.anyBlock
  dsimp only
  split
  · exact h
  · exact h.same rfl

theorem Dev.Kept.anyLamp (h : d.Kept e) : d.Kept (e.anyLamp).2 := h.same rfl

theorem Dev.Kept.anyWaiting (h : d.Kept e) : d.Kept (e.anyWaiting).2 := by
  unfold Dev.anyWaiting
  dsimp only
  split
  · exact h
  · exact h.same rfl

theorem Dev.Kept.itemAt {known : Option BadByte} (h : d.Kept e) : d.Kept (e.itemAt mem known).2 := by
  unfold Dev.itemAt
  split
  · exact h
  · split
    · exact h.anyBlock
    · exact h.same rfl
    · exact h.anyWaiting
    · exact h

theorem Dev.Kept.outputError (h : d.Kept e) : d.Kept (e.outputError i) := by
  unfold Dev.outputError
  split
  · exact h.same rfl
  · exact h.modFrame
  · exact h

theorem Dev.Kept.parityAct (h : d.Kept e) : d.Kept (e.parityAct st mem unit i) := by
  unfold Dev.parityAct
  split
  · exact h.engineError
  · exact h.spoilBlock
  · exact h.failProgress
  · exact h.outputError
  · exact h.darkenBank
  · exact h.emit
  · exact h.dropBlock
  · exact h

theorem Dev.Kept.parityFound {offset : Nat} (h : d.Kept e) : d.Kept (e.parityFound st mem unit offset) :=
  h.itemAt.logParity.parityAct

theorem Dev.Kept.reloaded {engine : Nat} (h : d.Kept e) : d.Kept (e.reloaded engine) := (h.same (by rfl)).memRewrite.memInject

end Sys2Proof.Machine
end

section
/-! SUPPORT. Both invariants pass along every update. Register accesses. -/

namespace Sys2Proof.Machine

variable {d e : Dev} {st : Straps} {n a : Nat} {v : Word} {init : Initiator} {width : AccessWidth}

theorem Dev.Kept.logAccess {write narrow : Bool} (h : d.Kept e) : d.Kept (e.logAccess init a write narrow) := .ite h h.setAll
theorem Dev.Kept.latchTime (h : d.Kept e) : d.Kept e.latchTime := h.setAll

theorem Dev.Kept.readReg (h : d.Kept e) : d.Kept (e.readReg st init a).2 := by
  unfold Dev.readReg
  dsimp only
  split
  · exact h.logAccess
  · split
    · exact h.latchTime
    · exact h

theorem Dev.Kept.wideRead (h : d.Kept e) : d.Kept (e.wideRead init) := .ite (h.same (by rfl)).emit h

theorem Dev.Kept.readBytes (h : d.Kept e) : d.Kept (e.readBytes st init a width) := by
  unfold Dev.readBytes
  split
  · exact h.wideRead
  · exact .ite h.readReg.emit h.set.emit

theorem Dev.Kept.readZeros (h : d.Kept e) : d.Kept (e.readZeros init a width) := by
  unfold Dev.readZeros
  split
  · exact h.wideRead
  · exact h.emit

theorem Dev.Kept.writeFields {skip : List Nat} (h : d.Kept e) : d.Kept (e.writeFields init skip a v) := by
  unfold Dev.writeFields
  split
  · exact h.wr
  · exact h

theorem Dev.Kept.plain (h : d.Kept e) : d.Kept (e.plain init a v) := h.writeFields
theorem Dev.Kept.plainLate {due : Nat} (h : d.Kept e) : d.Kept (e.plainLate init a v due) := h.plain.same rfl

theorem Dev.Kept.armOrDisarm {arm disarm : Dev → Dev} (h : d.Kept e) (harm : ∀ (c : Dev), c.Kept (arm c))
    (hdisarm : ∀ (c : Dev), c.Kept (disarm c)) : d.Kept (armOrDisarm v arm disarm e) := .ite (h.trans (hdisarm _))
    (.ite (h.trans (harm _)) h)

theorem Dev.Kept.kick (h : d.Kept e) : d.Kept e.kick := h.same rfl

theorem Dev.Kept.writeGen (h : d.Kept e) : d.Kept (e.writeGen init a v) :=
  .ite (h.withAlert (fun c => .ite c.kept.plain.kick c.kept.plain)) (.ite h.kick (.ite h h.plain))

theorem Dev.Kept.writeHif (h : d.Kept e) :
    d.Kept (e.writeHif init a v) := .ite (.ite h.writeFields.opPollEnable h.writeFields.opPollDisable)
    (.ite (.ite h h.plain) (.ite (h.plain.same (by rfl)) h.plain))

theorem Dev.Kept.writeRing (h : d.Kept e) :
    d.Kept (e.writeRing init a v) := .ite (.ite (.ite h h.opRingDisable)
    (.ite h (.ite h.writeFields.opRingEnable h.writeFields))) (.ite (.ite h h.plain) h.plain)

theorem Dev.Kept.writeLane (h : d.Kept e) :
    d.Kept (e.writeLane st init a v) := .ite (Dev.Kept.ite (Dev.Kept.ite h.writeFields
    (.ite h.writeFields.opTxidleSet h.writeFields.opTxidleClear)).opPortEnable
    (Dev.Kept.ite h.writeFields (.ite h.writeFields.opTxidleSet h.writeFields.opTxidleClear)).opPortDisable).opTarget h.plain

theorem Dev.Kept.writeXpt (h : d.Kept e) : d.Kept (e.writeXpt st init a v) := .ite h.writeFields h.plain
theorem Dev.Kept.writeTrim (h : d.Kept e) : d.Kept (e.writeTrim st v) := .ite h.seti h

theorem Dev.Kept.writePtp (h : d.Kept e) : d.Kept (e.writePtp st init a v) :=
  .ite (.ite (.ite h h.opPtpDisable) (.ite h.writeFields.opPtpEnable h.writeFields)) (.ite (.ite h h.plain) h.plain)

theorem Dev.Kept.writeTime (h : d.Kept e) :
    d.Kept (e.writeTime st init a v) := .ite (.ite h.writeFields (.ite h.plain.sourceChanged (.ite h.plain.reselect h.plain)))
    (.ite h.writeTrim (.ite h.plain.ppsHeld (.ite (.ite h h.plain)
    (.ite (.ite h.plain.setb h.plain) (.ite h.writePtp h.plain)))))

theorem Dev.Kept.writeCmp (h : d.Kept e) : d.Kept (e.writeCmp st init a v) :=
  .ite (h.armOrDisarm (fun c => c.kept.opFpArm) (fun c => c.kept.opFpDisarm)) (.ite (.ite h h.plain) h.plain)

theorem Dev.Kept.writeCor (h : d.Kept e) :
    d.Kept (e.writeCor st init a v) := .ite (h.armOrDisarm (fun c => c.kept.opCorArm) (fun c => c.kept.opCorDisarm))
    (.ite h.opCorCanvas (.ite (.ite h h.plain) h.plain))

theorem Dev.Kept.writeGry (h : d.Kept e) :
    d.Kept (e.writeGry init a v) := .ite (h.plain.armOrDisarm (fun c => c.kept.opFadeArm) (fun c => c.kept.opFadeDisarm))
    (.ite (.ite h h.plain) (.ite (.ite h h.plainLate) (.ite h.plainLate h.plain)))

theorem Dev.Kept.writeLdrv (h : d.Kept e) : d.Kept (e.writeLdrv init a v) :=
  .ite (.ite (h.plainLate.same (by rfl)) h.plainLate) (.ite (.ite h.plainLate h) h.plain)

theorem Dev.Kept.writeDiag (h : d.Kept e) : d.Kept (e.writeDiag init a v) := .ite h.plainLate h.plain
theorem Dev.Kept.writeTwin (h : d.Kept e) : d.Kept (e.writeTwin init a v) := .ite h.plain.noteAgreements (h.plain.same (by rfl))

theorem Dev.Kept.writeThm (h : d.Kept e) : d.Kept (e.writeThm init a v) :=
  .ite (h.withAlert (fun c => c.kept.plain)) (.ite (.ite h.wr h) h.plain)

theorem Dev.Kept.writeSec (h : d.Kept e) : d.Kept (e.writeSec st init a v) := .ite h.opSvc h.plain
theorem Dev.Kept.writeRec (h : d.Kept e) : d.Kept (e.writeRec init a v) := .ite h.opRecRdSeq h.plain
theorem Dev.Kept.setPoly {p : Nat} (h : d.Kept e) : d.Kept (e.setPoly n p) := h.setAll

theorem Dev.Kept.writeCrc (h : d.Kept e) :
    d.Kept (e.writeCrc st init a v) := .ite (.ite h.writeFields (.ite h.plain.setPoly.opCrcStart h.plain.setPoly))
    (.ite h.opCrcSeed (.ite h.opCrcData (.ite h.opCrcData (.ite h.opCrcData
    (.ite (.ite h (.ite h.plain.setPoly.opSnoopArm h.plain.setPoly)) (.ite (.ite h h.plain) h.plain))))))

theorem Dev.Kept.writeMbx (h : d.Kept e) : d.Kept (e.writeMbx st init a v) :=
  .ite (h.each (fun c _ => c.kept.opMbxAck)) (.ite h.opMbxWrite h.plain)

theorem Dev.Kept.writeAon (h : d.Kept e) :
    d.Kept (e.writeAon st init a v) := .ite (h.armOrDisarm (fun c => c.kept.opDormArm) (fun c => c.kept.opDormDisarm))
    (.ite (.ite h h.plain) (.ite (.ite h.opTone h) h.plain))

theorem Dev.Kept.writeFab (h : d.Kept e) : d.Kept (e.writeFab st init a v) :=
  .ite (.ite h.plain.setTlevel h.plain) (.ite (.ite h.opPinjArm h.opPinjCancel) h.plain)

theorem Dev.Kept.writeUsed (h : d.Kept e) : d.Kept (e.writeUsed st init a v) := by
  unfold Dev.writeUsed
  split
  · exact h.writeGen
  · exact h.writeHif
  · exact h.writeRing
  · exact h.writeLane
  · exact h.writeXpt
  · exact h.writeTime
  · exact h.writeCmp
  · exact h.writeCor
  · exact h.writeGry
  · exact h.writeLdrv
  · exact h.writeDiag
  · exact h.writeTwin
  · exact h.writeThm
  · exact h.writeSec
  · exact h.writeRec
  · exact h.writeCrc
  · exact h.writeMbx
  · exact h.writeAon
  · exact h.writeFab
  · exact h.plain

theorem Dev.Kept.writeCore (h : d.Kept e) : d.Kept (e.writeCore st init a v) := .ite h.logAccess (.ite h h.writeUsed)

end Sys2Proof.Machine
end

section
/-! SUPPORT. Both invariants pass along every update. The start. -/

namespace Sys2Proof.Machine

variable {d e : Dev} {st : Straps} {a id : Nat} {v : Word} {powerOn : Bool}

theorem Dev.Kept.restartRecorder (h : d.Kept e) : d.Kept e.restartRecorder := by
  unfold Dev.restartRecorder
  split
  · exact (h.same (by rfl)).setAll
  · dsimp only
    split
    · exact (h.same (by rfl)).setAll
    · exact (h.same (by rfl)).setAll

theorem Dev.Kept.applyEntry (h : d.Kept e) : d.Kept (e.applyEntry st id a v) := by
  unfold Dev.applyEntry
  dsimp only
  split
  · exact h.event
  · exact .ite h.event (.ite h (.ite h.writeFields (.ite h.wr (.ite h.writeUsed h.writeUsed))))

theorem Dev.Kept.applyList {body : List Byte} (h : d.Kept e) : d.Kept (e.applyList st id body) :=
  h.each fun c _ => c.kept.applyEntry

theorem Dev.Kept.applyBlock (h : d.Kept e) : d.Kept (e.applyBlock st id) := by
  unfold Dev.applyBlock
  split
  · exact h.event
  · exact .ite h h.applyList

theorem Dev.Kept.migrateSettings (h : d.Kept e) : d.Kept (e.migrateSettings st) :=
  .ite ((Dev.Kept.ite h h.commitObject).each (fun c _ => c.kept.event)) (.ite h.commitSlot h)

theorem Dev.Kept.migrateIfDue (h : d.Kept e) : d.Kept (e.migrateIfDue st) := by
  unfold Dev.migrateIfDue
  extract_lets d1
  have h1 : d.Kept d1 := h.migrateSettings
  clear_value d1
  exact .ite (h1.same rfl) h

theorem Dev.Kept.fallBack (h : d.Kept e) : d.Kept (e.fallBack st) :=
  (Dev.Kept.ite (h.same (by rfl)).countWrite (h.same (by rfl)).swapImages.secureDefaults).event

theorem Dev.Kept.noteBadAreas (h : d.Kept e) : d.Kept e.noteBadAreas := h.each fun c _ => c.kept.noteBad

theorem Dev.Kept.applyPassed (h : d.Kept e) : d.Kept (e.applyPassed st) := by
  unfold Dev.applyPassed
  split
  · exact .ite (.ite h.switchOver.swapImages h.switchOver) h
  · exact h

theorem Dev.Kept.restorePriv (h : d.Kept e) : d.Kept (e.restorePriv powerOn) := .ite h.secureDefaults h.setAll
theorem Dev.Kept.checkRecord {e' : Nat × Nat} (h : d.Kept e) : d.Kept (e.checkRecord e') := .ite h h.modSlot.clearBad
theorem Dev.Kept.readTrusted (h : d.Kept e) : d.Kept e.readTrusted := h.nvmRead.noteBadAreas.each fun c _ => c.kept.checkRecord

theorem Dev.Kept.trustedStart {resume : Bool} (h : d.Kept e) : d.Kept (e.trustedStart st powerOn resume) := by
  unfold Dev.trustedStart
  extract_lets d0 d1 _ _ d2 good back d3
  have h0 : d.Kept d0 := h.readTrusted.restorePriv
  have h1 : d.Kept d1 := .ite h0.swapImages h0
  have h2 : d.Kept d2 := h1.same (by rfl)
  have h3 : d.Kept d3 := .ite h2.fallBack h2
  exact .ite h3.applyPassed.releaseCores h3.holdCores

theorem Dev.Kept.startPorts (h : d.Kept e) : d.Kept (e.startPorts st) := h.each fun c _ => c.kept.enterRefwait

theorem Dev.Kept.bootUp {cause : Nat} (h : d.Kept e) : d.Kept (e.bootUp st cause powerOn) :=
  (h.same (by rfl)).setAll.restartRecorder.event.applyBlock.startPorts.emit.trustedStart

theorem Dev.Kept.reportShutdown (h : d.Kept e) : d.Kept (e.reportShutdown st) := by
  unfold Dev.reportShutdown
  split
  · exact h
  · exact (h.same (by rfl)).event.addSat

theorem Dev.Kept.firmwareStart {adc : List (List (List (Nat × Nat)))} (h : d.Kept e) : d.Kept (e.firmwareStart st adc) := by
  unfold Dev.firmwareStart
  extract_lets d1 d2 d3 d4 _ _ d5
  have h1 : d.Kept d1 := h.nvmRead.reportShutdown
  have h2 : d.Kept d2 := h1.migrateIfDue
  have h3 : d.Kept d3 := h2.foldl fun c _ => c.kept.applyBlock
  have h4 : d.Kept d4 := h3.takeLate.loadCal
  have h5 : d.Kept d5 := h4.same (by rfl)
  split
  · exact h5.emit.bootAdc.startCoef
  · exact h5.enterInit

end Sys2Proof.Machine
end

section
/-! SUPPORT. Both invariants pass along every update. Restarts and losses of power. -/

namespace Sys2Proof.Machine

variable {d e : Dev} {st : Straps}

theorem Dev.Kept.aonLost (h : d.Kept e) : d.Kept e.aonLost := h.same rfl

theorem Dev.Kept.powerOn (h : d.Kept e) : d.Kept (e.powerOn st) := by
  unfold Dev.powerOn
  extract_lets d1
  have h1 : d.Kept d1 := h.aonLost.outputsOff.cleared
  clear_value d1
  exact h1.setAll.aonResets.bootUp

theorem Dev.Kept.endShutdown (h : d.Kept e) : d.Kept e.endShutdown := by
  unfold Dev.endShutdown
  split
  · exact h
  · exact h.same rfl

theorem Dev.Kept.coldReset {old new : Straps} {pin : ColdPin} (h : d.Kept e) : d.Kept (e.coldReset old new pin) :=
  h.outputsOff.cleared.endShutdown.bootUp

theorem Dev.Kept.warmReset {cause : Nat} (h : d.Kept e) : d.Kept (e.warmReset st cause) :=
  h.withAlert fun c => c.kept.enterWarm.bootUp

theorem Dev.Kept.coreRestart (h : d.Kept e) : d.Kept (e.coreRestart st) := (h.clearMbxs.stopCal.same (by rfl)).set.event

theorem Dev.Kept.watchdogFires (h : d.Kept e) : d.Kept (e.watchdogFires st) :=
  (Dev.Kept.ite h.warmReset (h.coreRestart.same (by rfl))).event

theorem Dev.Kept.restoreRws (h : d.Kept e) : d.Kept e.restoreRws := by
  unfold Dev.restoreRws
  refine h.each fun c _ => ?_
  · split
    · exact c.kept.wr
    · exact c.kept

theorem Dev.Kept.restoreTaps (h : d.Kept e) : d.Kept e.restoreTaps := h.each fun c _ => c.kept.modLane

theorem Dev.Kept.exitDormant (h : d.Kept e) : d.Kept (e.exitDormant st) :=
  (h.same (by rfl)).restoreRws.restoreTaps.setAll.restartRecorder.event.event.startPorts.emit.trustedStart

theorem Dev.Kept.putArea {area : NvmArea} {off : Nat} {bytes : List Byte} (h : d.Kept e) :
    d.Kept (e.putArea area off bytes) := by
  unfold Dev.putArea
  extract_lets put slot
  have hslot {kind : Nat} {s : Fin 2} : d.Kept (slot kind s) := h.modSlot
  split
  case h_9 => exact h.modSlot
  case h_10 => exact h.same rfl
  case h_11 => exact h.record rfl fun ⟨hs, hk⟩ => ⟨Cells.wf_write _ _ _ _ hs, hk⟩
  case h_12 => exact h.record rfl fun ⟨hs, hk⟩ => ⟨hs, Cells.wf_write _ _ _ _ hk⟩
  all_goals exact hslot

theorem Dev.Kept.tearWord {b : NvmBurst} {k : Nat} (h : d.Kept e) : d.Kept (e.tearWord b k) := by
  unfold Dev.tearWord
  dsimp only
  split
  · exact h.same rfl
  · exact h.draw.putArea
  · exact h.same rfl

theorem Dev.Kept.keepRecord {area : NvmArea} (h : d.Kept e) : d.Kept (e.keepRecord area) := by
  unfold Dev.keepRecord
  split
  · exact h.modSlot
  · exact h

theorem Dev.Kept.tear {burst : Option NvmBurst} (h : d.Kept e) : d.Kept (e.tear burst) := by
  unfold Dev.tear
  split
  · exact .ite h (h.keepRecord.each (fun c _ => c.kept.tearWord))
  · exact h

end Sys2Proof.Machine
end

section
/-! SUPPORT. Both invariants pass along every update. Ports and service. -/

namespace Sys2Proof.Machine

variable {d e : Dev} {st : Straps} {n a : Nat} {v : Word} {init : Initiator} {width : AccessWidth}

theorem Dev.Kept.writeReg (h : d.Kept e) : d.Kept (e.writeReg st init a v) :=
  .ite (.ite h.warmReset (.ite h.coreRestart h)) h.writeCore

theorem Dev.Kept.writeNarrow (h : d.Kept e) : d.Kept (e.writeNarrow st init a n v) := by
  unfold Dev.writeNarrow
  split
  · exact h.opCrcData
  · exact h.logAccess

theorem Dev.Kept.writeAny (h : d.Kept e) : d.Kept (e.writeAny st init a width v) := by
  unfold Dev.writeAny
  split
  · exact h.writeReg
  · exact h.writeNarrow
  · exact h.writeNarrow
  · exact h.logAccess

theorem Dev.Kept.writeFunction {off : Nat} (h : d.Kept e) : d.Kept (e.writeFunction st init off width v) :=
  .ite h (.ite h.bar2Write h.configWrite)

theorem Dev.Kept.svcPart {part : List Byte} (h : d.Kept e) : d.Kept (e.svcPart st part a) := .ite h h.svcNack

theorem Dev.Kept.svcWrite {part : List Byte} {ws : List Word} (h : d.Kept e) : d.Kept (e.svcWrite st part ws a) := by
  induction ws generalizing e a with
  | nil => exact h.svcPart
  | cons v vs ih => exact .ite h.svcNack (.ite h.set.svcNack (ih h.writeReg))

theorem Dev.Kept.svcStore (h : d.Kept e) : d.Kept (e.svcStore st a width v) := by
  unfold Dev.svcStore
  split
  · exact h.svcWrite
  · exact h.svcPart
  · exact .ite h h.svcNack

theorem Dev.Kept.svcRead (h : d.Kept e) : d.Kept (e.svcRead st n a).2 := by
  induction n generalizing e a with
  | zero => exact h
  | succ n ih =>
    refine ih ?_
    split
    · exact h.readReg
    · exact h.set

end Sys2Proof.Machine
end

section
/-! SUPPORT. Both invariants pass along every update. Commands from a ring and over the chain. -/

namespace Sys2Proof.Machine

variable {d e : Dev} {st : Straps} {x n a i status value : Nat} {desc data : List Byte} {b : BulkIn} {e' : Desc} {o : OutCmd}
  {k : RxPkt} {f : CmdEffect}

theorem Dev.Kept.readRun (h : d.Kept e) : d.Kept (e.readRun st n a).2 := by
  induction n generalizing e a with
  | zero => exact h
  | succ n ih => exact ih h.readReg

theorem Dev.Kept.opRegRead (h : d.Kept e) : d.Kept (e.opRegRead st desc).1.2 := by
  unfold Dev.opRegRead
  split
  · exact h
  · exact h.readRun

theorem Dev.Kept.opRegWrite (h : d.Kept e) : d.Kept (e.opRegWrite st desc).2 := by
  unfold Dev.opRegWrite
  split
  · exact h
  · exact h.each fun c _ => c.kept.writeReg

theorem Dev.Kept.opRegRmw (h : d.Kept e) : d.Kept (e.opRegRmw st desc).2 := by
  unfold Dev.opRegRmw
  split
  · exact h
  · exact h.readReg.writeReg

theorem Dev.Kept.putMgmt (h : d.Kept e) : d.Kept (e.putMgmt st desc data).2 := h.opMgmtStage
theorem Dev.Kept.putDelta (h : d.Kept e) : d.Kept (e.putDelta desc data).2 := h.opUcodeDelta
theorem Dev.Kept.putManifest (h : d.Kept e) : d.Kept (e.putManifest st desc data).2 := h.opManifest

theorem Dev.Kept.putCoef (h : d.Kept e) : d.Kept (e.putCoef data).2 := by
  unfold Dev.putCoef
  split
  · exact h
  · dsimp only
    split
    · exact h.storeCoefSet
    · exact h.storeCoefSet

theorem Dev.Kept.putSafe (h : d.Kept e) : d.Kept (e.putSafe desc data).2 := by
  unfold Dev.putSafe
  split
  · exact h
  · exact h.commitObject

theorem Dev.Kept.putSettings (h : d.Kept e) : d.Kept (e.putSettings desc data).2 := by
  unfold Dev.putSettings
  dsimp only
  split
  · exact h
  · split
    · exact h.same rfl
    · exact h.writeFails.commitObject

theorem Dev.Kept.putObject (h : d.Kept e) : d.Kept (e.putObject st desc data).2 := by
  unfold Dev.putObject
  split
  · exact h.putMgmt
  · exact h.putDelta
  · exact h.putManifest
  · exact h.putCoef
  · exact h.putSafe
  · exact h.putSettings
  · exact h

theorem Dev.Kept.getAttest (h : d.Kept e) : d.Kept (e.getAttest st desc).1.2 := by
  unfold Dev.getAttest
  dsimp only
  split
  · exact h.opAttest
  · exact h.opAttest

theorem Dev.Kept.getCoef (h : d.Kept e) : d.Kept (e.getCoef desc).1.2 := by
  unfold Dev.getCoef
  split
  · exact h.nvmRead
  · exact h

theorem Dev.Kept.getSettings (h : d.Kept e) : d.Kept (e.getSettings desc).1.2 := by
  unfold Dev.getSettings
  split
  · exact h.nvmRead
  · exact h

theorem Dev.Kept.getSnapshot (h : d.Kept e) : d.Kept (BulkIn.getSnapshot b e).1.2 := h
theorem Dev.Kept.getDump (h : d.Kept e) : d.Kept (e.getDump desc).1.2 := h.nvmRead
theorem Dev.Kept.notServed (h : d.Kept e) : d.Kept (e.notServed).1.2 := h

theorem Dev.Kept.getObject (h : d.Kept e) : d.Kept (e.getObject st desc).1.2 := by
  unfold Dev.getObject
  split
  · exact h.getAttest
  · exact h.getCoef
  · exact h.getDump
  · exact h.getSettings
  · exact h.same rfl

theorem Dev.Kept.unsend {xid : Nat} (h : d.Kept e) : d.Kept (e.unsend xid) := h.mapPorts (by simp)
theorem Dev.Kept.failBulk (h : d.Kept e) : d.Kept (e.failBulk i status value) := (h.each (fun c _ => c.kept.unsend)).finishDesc

theorem Dev.Kept.pumpOnce (h : d.Kept e) : d.Kept (e.pumpOnce st i) := by
  unfold Dev.pumpOnce
  split
  · exact h
  · exact .ite h (.ite (.ite h h.modDesc.sendCmd) h.modDesc.sendCmd)

theorem Dev.Kept.pump (h : d.Kept e) : d.Kept (e.pump st i) := h.each fun c _ => c.kept.pumpOnce
theorem Dev.Kept.pumpAll (h : d.Kept e) : d.Kept (e.pumpAll st) := h.each fun c _ => c.kept.pump

theorem Dev.Kept.dispatchCmd {e' : Desc} (h : d.Kept e) : d.Kept (e.dispatchCmd st e') := by
  unfold Dev.dispatchCmd
  extract_lets b x pos r d1
  have h1 : d.Kept d1 := h.startDesc
  clear_value d1
  refine .ite h.finishDesc (.ite h.finishDesc (.ite h.finishDesc (.ite h (.ite (Dev.Kept.sendProbe ?_) h.startDesc.sendCmd))))
  exact h1.same rfl

theorem Dev.Kept.dispatchBulk (h : d.Kept e) : d.Kept (e.dispatchBulk st e') :=
  .ite h.finishDesc (.ite h.finishDesc (.ite h (.ite h.finishDesc (.ite h h.startDesc.sendCmd.pump))))

theorem Dev.Kept.bcastLast {body : List Byte} (h : d.Kept e) : d.Kept (e.bcastLast st i body) :=
  h.each (fun c _ => (c.kept.same (by rfl)).queueTx)

theorem Dev.Kept.bcastData (h : d.Kept e) : d.Kept (e.bcastData st e' data) :=
  .ite h.finishDesc (h.startDesc.each (fun c _ => c.kept.broadcast)).bcastLast

theorem Dev.Kept.dataRead (h : d.Kept e) :
    d.Kept (e.dataRead st e' data) := .ite (.ite h.modDesc.pump h)
    (.ite h (.ite h.finishDesc (.ite (.ite h.finishDesc (.ite h.finishDesc
    (.ite (h.withLease (fun c => c.kept)).finishDesc (h.withLease (fun c => c.kept)).bcastData))) h.startDesc.modDesc)))

theorem Dev.Kept.noteArmed (h : d.Kept e) : d.Kept (e.noteArmed o desc status) := .ite (h.same (by rfl)) h

theorem Dev.Kept.cmdAnswered (h : d.Kept e) : d.Kept (e.cmdAnswered o i k) := by
  unfold Dev.cmdAnswered
  split
  · exact h
  · exact (Dev.Kept.ite h.emit h).noteArmed.finishDesc

theorem Dev.Kept.pullAnswered {off : Nat} (h : d.Kept e) : d.Kept (e.pullAnswered st i off n k) := by
  unfold Dev.pullAnswered
  split
  · exact h
  · exact .ite h.emit.modDesc.finishDesc h.emit.modDesc.pump

theorem Dev.Kept.mfstRead (h : d.Kept e) : d.Kept (e.mfstRead st o status value) :=
  .ite h (.ite (h.same (by rfl)) (h.same (by rfl)).event)

theorem Dev.Kept.takeRsp (h : d.Kept e) : d.Kept (e.takeRsp st k) := by
  unfold Dev.takeRsp
  extract_lets status value
  split
  · split
    · exact .ite h.dominoRsp h
    · exact h
  · split
    · exact h.dropOut.cmdAnswered
    · exact .ite h.dropOut.modDesc.pump h.dropOut.failBulk
    · exact .ite h.dropOut.failBulk (.ite h.dropOut.finishDesc h.dropOut.pump)
    · exact .ite h.dropOut.failBulk h.dropOut.pullAnswered
    · exact h.dropOut.probeEnded
    · exact h.dropOut.probeEnded
    · exact h.dropOut.pathWritten
    · exact h.dropOut.mfstRead
    · exact h

theorem Dev.Kept.timedOut (h : d.Kept e) : d.Kept (e.timedOut st o) := by
  unfold Dev.timedOut
  extract_lets d1
  have h1 : d.Kept d1 := h.dropOut
  split
  · exact h1.finishDesc
  · exact h1.failBulk
  · exact h1.failBulk
  · exact h1.failBulk
  · exact h1.probeEnded
  · exact h1.probeEnded
  · exact h1.pathWritten
  · exact h1
  · exact h

theorem Dev.Kept.transportCmd (h : d.Kept e) : d.Kept (e.transportCmd st k) := by
  unfold Dev.transportCmd
  dsimp only
  split
  · exact h.opRegRead.respond
  · exact h.opRegWrite.respond
  · exact h.opRegRmw.respond
  · exact .ite h.queueOwn h
  · exact h.respond

theorem Dev.Kept.numbered (h : d.Kept e) : d.Kept e.numbered := h.same rfl
theorem Dev.Kept.takeDesc (h : d.Kept e) : d.Kept (e.takeDesc st k) := .ite h.transportCmd (.ite h.respond (h.same (by rfl)))
theorem Dev.Kept.progressed (h : d.Kept e) : d.Kept (e.progressed k) := h.same rfl
theorem Dev.Kept.modBulk {f : BulkIn → BulkIn} (h : d.Kept e) : d.Kept (e.modBulk b f) := h.same rfl
theorem Dev.Kept.endBulk (h : d.Kept e) : d.Kept (e.endBulk b) := h.same rfl
theorem Dev.Kept.judgeOpen (h : d.Kept e) : d.Kept (e.judgeOpen st b) := h.modBulk.respond

theorem Dev.Kept.takeOpen (h : d.Kept e) : d.Kept (e.takeOpen st k) :=
  .ite (h.same (by rfl)).judgeOpen (h.same (by rfl)).numbered

theorem Dev.Kept.failSegment (h : d.Kept e) : d.Kept (e.failSegment st k b status) := h.modBulk.respond
theorem Dev.Kept.refuseSegment (h : d.Kept e) : d.Kept (e.refuseSegment st k b) := h.respond

theorem Dev.Kept.takeData {e' : RxPkt × Nat × Nat} (h : d.Kept e) :
    d.Kept (e.takeData st e' b) := .ite h.failSegment (.ite h.failSegment
    (.ite h.failSegment (.ite h.modBulk (.ite h.failSegment (.ite h.endBulk.putObject.respond h.modBulk)))))

theorem Dev.Kept.takeSegment {e' : RxPkt × Nat × Nat} (h : d.Kept e) : d.Kept (e.takeSegment st e' b) :=
  .ite h.refuseSegment h.takeData

theorem Dev.Kept.arriveSegment (h : d.Kept e) : d.Kept (e.arriveSegment st k) := by
  unfold Dev.arriveSegment
  split
  · exact h.respond
  · split
    · exact h.respond
    · exact .ite h.numbered.takeSegment h.numbered.modBulk

theorem Dev.Kept.nextSegment (h : d.Kept e) : d.Kept (e.nextSegment st b) := by
  unfold Dev.nextSegment
  split
  · exact h
  · exact h.modBulk.takeSegment

theorem Dev.Kept.servePull (h : d.Kept e) : d.Kept (e.servePull st k b) :=
  .ite h.refuseSegment (.ite h.failSegment (.ite h.respond (.ite h.respond.endBulk h.respond)))

theorem Dev.Kept.servePulls {b : BulkIn} {l : List (RxPkt × Nat × Nat)} (h : d.Kept e) : d.Kept (e.servePulls st b l) := by
  induction l generalizing e with
  | nil => exact h
  | cons x l ih => exact .ite (ih h.modBulk.servePull) h

theorem Dev.Kept.fillBulk {f : Dev → Answer × List Byte} (h : d.Kept e) (hf : ∀ (c : Dev), c.Kept (f c).1.2) :
    d.Kept (e.fillBulk st f b) := (h.trans (hf _)).modBulk.servePulls

theorem Dev.Kept.takePull (h : d.Kept e) : d.Kept (e.takePull st k b) :=
  .ite h.servePull (.ite h.numbered.modBulk (h.numbered.modBulk.fillBulk (fun c => c.kept.getObject)))

theorem Dev.Kept.arrivePull (h : d.Kept e) : d.Kept (e.arrivePull st k) := by
  unfold Dev.arrivePull
  split
  · exact h.respond
  · split
    · exact h.respond
    · exact h.takePull

theorem Dev.Kept.runLocal {mine : List Byte → Bool} {ready : List Byte → Dev → Bool} (h : d.Kept e)
    (hf : ∀ x0 x1 x2 (c : Dev), c.Kept (f x0 x1 x2 c).2) : d.Kept (e.runLocal st i mine ready f) := by
  unfold Dev.runLocal
  split
  · exact h
  · split
    · exact h
    · split
      · exact h.dispatchCmd
      · split
        · exact h.finishDesc
        · split
          · exact h
          · dsimp only
            split
            · exact (h.startDesc.trans (hf _ _ _ _)).finishDesc
            · exact h.startDesc.trans (hf _ _ _ _)

theorem Dev.Kept.runHead {mine : List Byte → Bool} (h : d.Kept e) (hf : ∀ x0 x1 x2 (c : Dev), c.Kept (f x0 x1 x2 c).2) :
    d.Kept (e.runHead st mine f) := by
  unfold Dev.runHead
  split
  · exact h
  · dsimp only
    split
    · exact h
    · split
      · refine Dev.Kept.answer ?_
        split
        · exact h.same rfl
        · exact (h.same (by rfl)).trans (hf _ _ _ _)
      · split
        · exact h.same rfl
        · exact (h.same (by rfl)).trans (hf _ _ _ _)

theorem Dev.Kept.runTransportCmd {op : Nat} (h : d.Kept e) : d.Kept (e.runTransportCmd st op) := by
  unfold Dev.runTransportCmd
  split
  · exact .ite (h.same (by rfl)).transportCmd (h.onRx (fun _ c => c.kept.takeDesc))
  · exact h.onRx fun _ c => c.kept.takeDesc

theorem Dev.Kept.putLocal {mine : List Byte → Bool} {f : Straps → List Byte → List Byte → Dev → Answer} (h : d.Kept e)
    (hf : ∀ x0 x1 x2 (c : Dev), c.Kept (f x0 x1 x2 c).2) : d.Kept (e.putLocal st i mine f) := by
  unfold Dev.putLocal
  split
  · exact h
  · exact .ite h (.ite (.ite h (.ite h.dispatchBulk (.ite h.finishDesc h)))
      (.ite h (.ite h.finishDesc (h.trans (hf _ _ _ _)).finishDesc)))

theorem Dev.Kept.putRemote {mine : List Byte → Bool} {f : Straps → List Byte → List Byte → Dev → Answer} (h : d.Kept e)
    (hf : ∀ x0 x1 x2 (c : Dev), c.Kept (f x0 x1 x2 c).2) : d.Kept (e.putRemote st mine f) := by
  unfold Dev.putRemote
  split
  · exact h
  · dsimp only
    split
    · exact h
    · exact .ite h (h.trans (hf _ _ _ _)).answer

theorem Dev.Kept.getLocal {mine : List Byte → Bool} {f : Straps → List Byte → Dev → Answer × List Byte} (h : d.Kept e)
    (hf : ∀ x0 x1 (c : Dev), c.Kept (f x0 x1 c).1.2) : d.Kept (e.getLocal st i mine f) := by
  unfold Dev.getLocal
  split
  · exact h
  · exact .ite h (.ite h.dispatchBulk (.ite h.finishDesc (.ite h
      (.ite (h.startDesc.trans (hf _ _ _)).finishDesc (h.startDesc.trans (hf _ _ _)).emit.finishDesc))))

theorem Dev.Kept.getRemote {mine : List Byte → Bool} {f : Straps → List Byte → Dev → Answer × List Byte} (h : d.Kept e)
    (hf : ∀ st b (c : Dev), c.Kept (f st b c).1.2) : d.Kept (e.getRemote st mine f) := by
  unfold Dev.getRemote
  split
  · exact h
  · refine h.fillBulk fun c => ?_
    split
    · exact c.kept.getSnapshot
    · exact hf _ _ _

end Sys2Proof.Machine
end

section
/-! SUPPORT. Both invariants pass along every update. Commands of both kinds. -/

namespace Sys2Proof.Machine

variable {d e : Dev} {st : Straps} {n : Nat} {w : Waiter} {desc : List Byte}

theorem Dev.Kept.badOpcode {i : Nat} (h : d.Kept e) : d.Kept (e.badOpcode i) := by
  unfold Dev.badOpcode
  dsimp only
  split
  · exact h.finishDesc
  · split
    · exact h.finishDesc
    · exact h

theorem Dev.Kept.opChainEnum (h : d.Kept e) : d.Kept (e.opChainEnum st w desc).2 := by
  unfold Dev.opChainEnum
  dsimp only
  split
  · split
    · exact h
    · split
      · exact h
      · exact (h.same (by rfl)).sendEnum
  · exact h

theorem Dev.Kept.opDiagForce {on : Bool} (h : d.Kept e) : d.Kept (e.opDiagForce n on) := by
  unfold Dev.opDiagForce
  exact Dev.Kept.commitBlock (h.same rfl)

theorem Dev.Kept.updOp {w : Waiter} {desc : List Byte} {kind session : Nat} {r : Answer} (h : d.Kept r.2) :
    d.Kept (Dev.updOp st w desc kind session r).2 := by
  unfold Dev.updOp
  split
  · exact h.broadcastOp
  · exact h

theorem Dev.Kept.opRecClear (h : d.Kept e) : d.Kept (e.opRecClear st).2 := by
  unfold Dev.opRecClear
  split
  · exact h
  · split
    · exact h
    · dsimp only
      split
      · exact (h.useToken.same (by rfl)).writeFails
      · exact (h.useToken.same (by rfl)).writeFails.recClearNow

theorem Dev.Kept.opRecMark (h : d.Kept e) : d.Kept (e.opRecMark st w desc).2 := by
  unfold Dev.opRecMark
  dsimp only
  split
  · exact h
  · split
    · exact h.same rfl
    · exact h.same rfl

end Sys2Proof.Machine
end

section
/-! SUPPORT. Both invariants pass along every command, and so along the step. -/

namespace Sys2Proof.Machine

/-- Whatever state the outcome answers, both invariants pass to its device. -/
def State.Keeps (s : State) (o : Host.Outcome State Fault Refusal) : Prop := ∀ t, o = .next t → s.dev.Kept t.dev

variable {s : State}

theorem State.keeps_next (s : State) : s.Keeps (.next s) := by
  rintro _ ⟨⟩
  exact s.dev.kept

/-- The rows that sample the straps. -/
theorem keeps_sampled {straps : Straps} {f : Dev → Dev} (hf : ∀ c : Dev, c.Kept (f c)) :
    s.Keeps (.next { s with straps := straps, dev := (s.dev.withAlert f).finish }) := by
  rintro _ ⟨⟩
  dsimp only
  exact (s.dev.kept.withAlert hf).finish

variable {ref : CmdRef} {init : Initiator} {port : Port} {lane : Lane} {n m : Fin 8} {bytes : List Byte} {target : I2cTarget}
  {codes : List Nat} {ring : Fin 5} {cause : Fin 16} {width : AccessWidth} {entry offset addr index xid : Nat} {inst : Fin 2}
  {position : Fin 64} {cond : CalConditions} {value : Word} {low : Bool}

theorem run_keeps {f : Straps → Dev → Dev} (hf : ∀ st (c : Dev), c.Kept (f st c)) : s.Keeps (run f s) := by
  rintro _ ⟨⟩
  exact (hf _ _).finish

theorem runIf_keeps {c : Straps → Dev → Bool} {f : Straps → Dev → Dev} (hf : ∀ st (c : Dev), c.Kept (f st c)) :
    s.Keeps (runIf c f s) := by
  unfold runIf
  split
  · exact run_keeps hf
  · exact s.keeps_next

theorem runAwake_keeps {f : Straps → Dev → Dev} (hf : ∀ st (c : Dev), c.Kept (f st c)) : s.Keeps (runAwake f s) :=
  runIf_keeps hf

theorem runTile_keeps {f : Straps → Dev → Dev} (hf : ∀ st (c : Dev), c.Kept (f st c)) : s.Keeps (runTile f s) := runIf_keeps hf

theorem runSender_keeps {f : Straps → Dev → Dev} (hf : ∀ st (c : Dev), c.Kept (f st c)) : s.Keeps (runSender f s) :=
  runIf_keeps hf

theorem runBy_keeps {c : Straps → Dev → Bool} {f : Straps → Dev → Dev} (hf : ∀ st (c : Dev), c.Kept (f st c)) :
    s.Keeps (runBy init c f s) := runIf_keeps fun st c => .ite c.kept.svcNack (hf st c)

theorem runRead_keeps {c : Straps → Dev → Bool} {zero : Dev → Dev} {f : Straps → Dev → Dev} (hz : ∀ c : Dev, c.Kept (zero c))
    (hf : ∀ st (c : Dev), c.Kept (f st c)) : s.Keeps (runRead c zero f s) := runIf_keeps fun st c => .ite (hz c) (hf st c)

theorem onUpdate_keeps {kind : Nat} {f : Straps → List Byte → Dev → Dev} (hf : ∀ st b (c : Dev), c.Kept (f st b c)) :
    s.Keeps (onUpdate kind f s) := runTile_keeps fun st c => c.kept.onRx fun k c => .ite (hf st k.bytes c) c.kept.respond

theorem monitorCall_keeps {n : Nat} {f : Nat → Dev → Dev} (hf : ∀ k (c : Dev), c.Kept (f k c)) : s.Keeps (monitorCall n f s) :=
  runIf_keeps fun _ c => (c.kept.opMbxAck.trans (hf _ _)).draw.opMbxWrite

theorem runCommand_keeps {mine : List Byte → Bool} {ready : List Byte → Dev → Bool} {f : CmdEffect} {ref : CmdRef}
    (hf : ∀ st w desc (c : Dev), c.Kept (f st w desc c).2) : s.Keeps (runCommand mine ready f ref s) := by
  unfold runCommand
  split
  · exact runSender_keeps fun _ c => c.kept.runLocal hf
  · exact runTile_keeps fun _ c => c.kept.runHead hf

theorem runTransport_keeps {op : Nat} {f : CmdEffect} {ref : CmdRef} (hf : ∀ st w desc (c : Dev), c.Kept (f st w desc c).2) :
    s.Keeps (runTransport op f ref s) := by
  unfold runTransport
  split
  · exact runSender_keeps fun _ c => c.kept.runLocal hf
  · exact runTile_keeps fun _ c => c.kept.runTransportCmd

theorem runPut_keeps {mine : List Byte → Bool} {f : Straps → List Byte → List Byte → Dev → Answer} {ref : CmdRef}
    (hf : ∀ st b b' (c : Dev), c.Kept (f st b b' c).2) : s.Keeps (runPut mine f ref s) := by
  unfold runPut
  split
  · exact runSender_keeps fun _ c => c.kept.putLocal hf
  · exact runTile_keeps fun _ c => c.kept.putRemote hf

theorem runGet_keeps {mine : List Byte → Bool} {f : Straps → List Byte → Dev → Answer × List Byte} {ref : CmdRef}
    (hf : ∀ st b (c : Dev), c.Kept (f st b c).1.2) : s.Keeps (runGet mine f ref s) := by
  unfold runGet
  split
  · exact runSender_keeps fun _ c => c.kept.getLocal hf
  · exact runTile_keeps fun _ c => c.kept.getRemote hf

theorem runSvc_keeps {op object content : Nat} : s.Keeps (runSvc init op object content s) :=
  runIf_keeps fun _ c => .ite c.kept.svcNack c.kept.opSvc

theorem execPowerOnReset_keeps {straps : Straps} : s.Keeps (execPowerOnReset straps s) := keeps_sampled fun c => c.kept.powerOn

theorem execColdReset_keeps {pin : ColdPin} {straps : Straps} : s.Keeps (execColdReset pin straps s) := by
  unfold execColdReset
  split
  · exact s.keeps_next
  · exact keeps_sampled fun c => c.kept.coldReset

theorem execUndefinedOpcode_keeps {ref : CmdRef} : s.Keeps (execUndefinedOpcode ref s) := by
  unfold execUndefinedOpcode
  split
  · exact runSender_keeps fun _ c => c.kept.badOpcode
  · exact runTile_keeps fun _ c => c.kept.runHead fun _ _ _ c => c.kept

theorem execCoefActivationCommit_keeps : s.Keeps (execCoefActivationCommit s) := by
  refine runIf_keeps fun _ c => ?_
  extract_lets act _ _ d1
  have h1 : c.Kept d1 := c.kept.nvm rfl fun ⟨hm, hl, hf, hq, hrest⟩ =>
    ⟨hm, hl, hf, (List.length_modify ..).trans hq, hrest⟩
  exact h1.countWrite.showCoef

theorem execUpdOpen_keeps {ref : CmdRef} : s.Keeps (execUpdOpen ref s) := runCommand_keeps fun _ _ _ c => c.kept.opUpdOpen.updOp

theorem execUpdRenew_keeps {ref : CmdRef} : s.Keeps (execUpdRenew ref s) :=
  runCommand_keeps fun _ _ _ c => c.kept.opUpdRenew.updOp

theorem execUpdClose_keeps {ref : CmdRef} : s.Keeps (execUpdClose ref s) :=
  runCommand_keeps fun _ _ _ c => c.kept.opUpdClose.updOp

theorem execUpdAbort_keeps {ref : CmdRef} : s.Keeps (execUpdAbort ref s) :=
  runCommand_keeps fun _ _ _ c => c.kept.opUpdAbort.updOp

theorem execEventSend_keeps : s.Keeps (execEventSend s) :=
  runIf_keeps fun _ c => .ite c.kept.skipUnsent.set c.kept.skipUnsent.queueOwn

theorem execRecRdSeqWrite_keeps {seq : Word} : s.Keeps (execRecRdSeqWrite init seq s) :=
  runBy_keeps fun _ c => c.kept.opRecRdSeq

theorem execCrcStart_keeps : s.Keeps (execCrcStart init n s) := runBy_keeps fun _ c => c.kept.opCrcStart

theorem execCrcSeedWrite_keeps {seed : Word} : s.Keeps (execCrcSeedWrite init n seed s) :=
  runBy_keeps fun _ c => c.kept.opCrcSeed

theorem execCrcDataWrite_keeps {reg : Fin 3} : s.Keeps (execCrcDataWrite init n reg bytes s) :=
  runBy_keeps fun _ c => c.kept.opCrcData

theorem execSnoopArm_keeps : s.Keeps (execSnoopArm init n s) := runBy_keeps fun _ c => c.kept.opSnoopArm

theorem execSnoopCaptureEnd_keeps : s.Keeps (execSnoopCaptureEnd n s) := by
  dsimp only [execSnoopCaptureEnd]
  exact runIf_keeps fun _ c => c.kept.opCaptureEnd

theorem execPortEnable_keeps : s.Keeps (execPortEnable init port s) := runBy_keeps fun _ c => c.kept.opPortEnable
theorem execPortDisable_keeps : s.Keeps (execPortDisable init port s) := runBy_keeps fun _ c => c.kept.opPortDisable

theorem execLaneTargetWrite_keeps {target : Fin 4} : s.Keeps (execLaneTargetWrite init port target s) :=
  runBy_keeps fun _ c => c.kept.opTarget

theorem execTxidleSet_keeps : s.Keeps (execTxidleSet init port s) := runBy_keeps fun _ c => c.kept.opTxidleSet
theorem execTxidleClear_keeps : s.Keeps (execTxidleClear init port s) := runBy_keeps fun _ c => c.kept.opTxidleClear

theorem execRxLock_keeps {lane0 lane1 : Option LaneLock} {skewNs : Nat} : s.Keeps (execRxLock port lane0 lane1 skewNs s) := by
  dsimp only [execRxLock]
  exact runIf_keeps fun _ c => .ite c.kept.lockLane.lockLane (.ite c.kept.lockLane.lockLane.set
    c.kept.lockLane.lockLane.portLocked)

theorem execPeerRxlockSeen_keeps : s.Keeps (execPeerRxlockSeen port s) := by
  dsimp only [execPeerRxlockSeen]
  exact runIf_keeps fun _ c => .ite c.kept.enterGo (.ite c.kept.linkUp c.kept)

theorem execCountdownDone_keeps : s.Keeps (execCountdownDone port s) := by
  dsimp only [execCountdownDone]
  exact runIf_keeps fun _ c => (c.kept.modPort (by simp)).goCheck

theorem execGoTimeout_keeps : s.Keeps (execGoTimeout port s) := by
  dsimp only [execGoTimeout]
  exact runIf_keeps fun _ c => c.kept.enterTrain

theorem execTrainTimeout_keeps : s.Keeps (execTrainTimeout port s) := by
  dsimp only [execTrainTimeout]
  exact runIf_keeps fun _ c => c.kept.set.eventIf.modPort (by simp)

theorem execTxonlyLosTimeout_keeps : s.Keeps (execTxonlyLosTimeout port s) := by
  dsimp only [execTxonlyLosTimeout]
  exact runIf_keeps fun _ c => c.kept.enterGo

theorem execLosAssert_keeps : s.Keeps (execLosAssert port lane s) := by
  dsimp only [execLosAssert]
  exact runIf_keeps fun _ c => (Dev.Kept.ite (c.kept.setAll.modPort (by simp)) c.kept.setAll).unlock

theorem execLosClear_keeps : s.Keeps (execLosClear port lane s) := by
  dsimp only [execLosClear]
  exact runIf_keeps fun _ c => c.kept.set.modPort (by simp)

theorem execLossOfLock_keeps : s.Keeps (execLossOfLock port lane s) := by
  dsimp only [execLossOfLock]
  exact runIf_keeps fun _ c => c.kept.loseLock

theorem execRecoverTimeout_keeps : s.Keeps (execRecoverTimeout port s) := by
  dsimp only [execRecoverTimeout]
  exact runIf_keeps fun _ c => c.kept.linkDown

theorem execPeerRxlockLost_keeps : s.Keeps (execPeerRxlockLost port s) := by
  dsimp only [execPeerRxlockLost]
  exact runIf_keeps fun _ c => c.kept.linkDown

theorem execPmAgreement_keeps : s.Keeps (execPmAgreement port s) := by
  dsimp only [execPmAgreement]
  exact runAwake_keeps fun _ c => .ite c.kept.enterLs2 (.ite c.kept.enter.emitTraining c.kept)

theorem execLs2EnergyDetect_keeps : s.Keeps (execLs2EnergyDetect port s) := by
  dsimp only [execLs2EnergyDetect]
  exact runIf_keeps fun _ c => c.kept.enterRefwait

theorem execCleanerLock_keeps : s.Keeps (execCleanerLock s) := runAwake_keeps fun _ c => c.kept.setAll.emit
theorem execRefInputLoss_keeps : s.Keeps (execRefInputLoss s) := runIf_keeps fun _ c => c.kept.setAll.event
theorem execRefSelectChange_keeps : s.Keeps (execRefSelectChange s) := runIf_keeps fun _ c => c.kept.set.event

theorem execEyeMonitorUpdate_keeps {live : BitVec 8} : s.Keeps (execEyeMonitorUpdate port lane live s) := by
  dsimp only [execEyeMonitorUpdate]
  exact runAwake_keeps fun _ c => .ite c.kept.set.followLive.modLane.modLane.setAll.event c.kept.set.followLive.modLane

theorem execTapSave_keeps : s.Keeps (execTapSave port lane s) := by
  dsimp only [execTapSave]
  exact runIf_keeps fun _ c => c.kept.modLane

theorem execGuardResume_keeps : s.Keeps (execGuardResume port lane s) := by
  dsimp only [execGuardResume]
  exact runIf_keeps fun _ c => c.kept.set

theorem execCodewordPairRx_keeps {lane0 lane1 : Option RxCodeword} {residence : Nat} :
    s.Keeps (execCodewordPairRx port lane0 lane1 residence s) := by
  dsimp only [execCodewordPairRx]
  exact runIf_keeps fun _ c => (Dev.Kept.ite c.kept.takeCodeword.takeCodeword.pairUp.takeCells.relayPair
    c.kept.takeCodeword.takeCodeword.pairUp.takeCells).goCheck

theorem execPacketReassemblyTimeout_keeps {stream : Nat} : s.Keeps (execPacketReassemblyTimeout port stream s) := by
  dsimp only [execPacketReassemblyTimeout]
  exact runIf_keeps fun _ c => c.kept.dropReasm.add

theorem execEnumReceiveHead_keeps :
    s.Keeps (execEnumReceiveHead s) := runTile_keeps fun _ c => c.kept.onRx
    (fun _ c => .ite (Dev.Kept.ite c.kept.set.event c.kept).setAll c.kept.dropAnswers.setAll.event)

theorem execEnumReceiveTail_keeps : s.Keeps (execEnumReceiveTail s) :=
  runTile_keeps fun _ c => c.kept.onRx fun _ c => .ite c.kept.setAll c.kept

theorem execEnumAtTailSender_keeps :
    s.Keeps (execEnumAtTailSender s) := runSender_keeps fun _ c => c.kept.onRx
    (fun _ c => .ite (.ite (c.kept.set.same (by rfl)) c.kept) (Dev.Kept.ite (c.kept.set.same (by rfl)) c.kept).setAll)

theorem execWitnessSend_keeps : s.Keeps (execWitnessSend port s) := by
  dsimp only [execWitnessSend]
  exact runIf_keeps fun _ c => (c.kept.modPort (by simp)).sendOwn

theorem execFlipHdrReceive_keeps : s.Keeps (execFlipHdrReceive s) :=
  runTile_keeps fun _ c => c.kept.onRx fun _ c => c.kept.hearSender.takeHeader

theorem execBlockReceive_keeps : s.Keeps (execBlockReceive s) := by
  refine runTile_keeps fun _ c => ?_
  refine c.kept.onRx fun _ c => ?_
  · dsimp only
    split
    · exact c.kept
    · split
      · exact .ite c.kept.add c.kept.add
      · exact .ite c.kept (.ite c.kept.add c.kept.takeBlock)

theorem execPresentReceive_keeps : s.Keeps (execPresentReceive s) := by
  refine runTile_keeps fun _ c => ?_
  refine c.kept.onRx fun _ c => ?_
  · dsimp only
    split
    · exact .ite c.kept.modFrame.endCaptures c.kept
    · exact c.kept

theorem execComposeDeadline_keeps : s.Keeps (execComposeDeadline s) := by
  refine runTile_keeps fun _ c => ?_
  split
  · exact c.kept.judge
  · exact c.kept

theorem execSwapPoint_keeps : s.Keeps (execSwapPoint s) := by
  refine runTile_keeps fun _ c => ?_
  split
  · exact .ite (c.kept.noteSlack.same (by rfl)) c.kept
  · exact c.kept

theorem execComposeComplete_keeps : s.Keeps (execComposeComplete s) := by
  refine runTile_keeps fun _ c => ?_
  split
  · exact c.kept.composeEnd
  · exact c.kept

theorem execLampTest_keeps : s.Keeps (execLampTest codes s) := by
  refine runTile_keeps fun _ c => ?_
  split
  · exact .ite c.kept.opLampTest c.kept
  · exact c.kept

theorem execPinTest_keeps : s.Keeps (execPinTest codes s) := by
  refine runTile_keeps fun _ c => ?_
  split
  · exact .ite c.kept.opPinTest c.kept
  · exact c.kept

theorem execMbxCross_keeps {pair : Fin 4} : s.Keeps (execMbxCross pair s) := by
  dsimp only [execMbxCross]
  exact runIf_keeps fun _ c => (c.kept.set.same (by rfl)).mbxIrq.mbxIrq.event

theorem execTwinMbxDataReceive_keeps : s.Keeps (execTwinMbxDataReceive bytes s) :=
  runSender_keeps fun _ c => .ite c.kept (.ite c.kept.sendTwinAnswer (.ite c.kept (c.kept.same (by rfl)).set.setFull.mbxIrq))

theorem execTwinMbxAckReceive_keeps : s.Keeps (execTwinMbxAckReceive bytes s) :=
  runSender_keeps fun _ c => .ite c.kept.setFull c.kept

theorem execTwinMbxAbortReceive_keeps : s.Keeps (execTwinMbxAbortReceive bytes s) :=
  runSender_keeps fun _ c => .ite c.kept.abortTwinOut c.kept

theorem execTwinMbxRepeat_keeps : s.Keeps (execTwinMbxRepeat s) := runIf_keeps fun _ c => c.kept.sendTwinData
theorem execRingEnable_keeps : s.Keeps (execRingEnable init ring s) := runBy_keeps fun _ c => c.kept.opRingEnable
theorem execRingDisable_keeps : s.Keeps (execRingDisable init ring s) := runBy_keeps fun _ c => c.kept.opRingDisable
theorem execHifPollEnable_keeps : s.Keeps (execHifPollEnable init s) := runBy_keeps fun _ c => c.kept.opPollEnable
theorem execHifPollDisable_keeps : s.Keeps (execHifPollDisable init s) := runBy_keeps fun _ c => c.kept.opPollDisable

theorem execDoorbellPoll_keeps {page : List Byte} : s.Keeps (execDoorbellPoll page s) :=
  runIf_keeps fun _ c => (c.kept.startPoll.same (by rfl)).each fun c _ => c.kept.takeIndex

theorem execDoorbellPollFail_keeps : s.Keeps (execDoorbellPollFail s) :=
  runIf_keeps fun _ c => .ite (c.kept.startPoll.set.same (by rfl)).raise (c.kept.startPoll.set.same (by rfl))

theorem execShadowWrite_keeps : s.Keeps (execShadowWrite s) := runIf_keeps fun _ c => c.kept.shadowWrite

theorem execDescFetch_keeps {ring : DescRing} {slot : List Byte} : s.Keeps (execDescFetch ring slot s) := by
  dsimp only [execDescFetch]
  exact runIf_keeps fun _ c => .ite (c.kept.readSlot.set.same (by rfl)) (c.kept.readSlot.set.same (by rfl)).postDesc

theorem execDescFetchFail_keeps {ring : FetchRing} {ahead : Nat} : s.Keeps (execDescFetchFail ring ahead s) := by
  dsimp only [execDescFetchFail]
  exact runIf_keeps fun _ c => c.kept.readSlot.ringError

theorem execCompletionPost_keeps : s.Keeps (execCompletionPost s) := by
  refine runIf_keeps fun _ c => ?_
  split
  · exact c.kept
  · exact (c.kept.same (by rfl)).set.raise

theorem execEventRingWrite_keeps : s.Keeps (execEventRingWrite s) := runSender_keeps fun _ c => c.kept.deliverEvent

theorem execEventReceive_keeps : s.Keeps (execEventReceive s) := by
  refine runSender_keeps fun _ c => ?_
  split
  · exact .ite (.ite (c.kept.same (by rfl)).deliverEvent (c.kept.same (by rfl))) c.kept
  · exact c.kept

theorem execIntrModerationTimeout_keeps : s.Keeps (execIntrModerationTimeout cause s) := by
  dsimp only [execIntrModerationTimeout]
  exact runIf_keeps fun _ c => c.kept.signal

theorem execIntrCountReached_keeps : s.Keeps (execIntrCountReached cause s) := by
  dsimp only [execIntrCountReached]
  exact runIf_keeps fun _ c => c.kept.signal

theorem execMsixUnmask_keeps {vector : Fin 64} : s.Keeps (execMsixUnmask vector s) := runSender_keeps fun _ c => c.kept.unmask

theorem execFunctionLevelReset_keeps : s.Keeps (execFunctionLevelReset s) :=
  runSender_keeps fun _ c => c.kept.resetFunction.opFunctionReset

theorem execD3hotEntry_keeps : s.Keeps (execD3hotEntry s) := runSender_keeps fun _ c => c.kept.enterD3hot
theorem execPerstDeassert_keeps : s.Keeps (execPerstDeassert s) := runSender_keeps fun _ c => (c.kept.same (by rfl)).emit

theorem execPcieLinkUp_keeps {gen width : Nat} : s.Keeps (execPcieLinkUp gen width s) :=
  runIf_keeps fun _ c => (c.kept.same (by rfl)).setAll

theorem execPcieLinkDown_keeps : s.Keeps (execPcieLinkDown s) := runSender_keeps fun _ c => (c.kept.same (by rfl)).setAll

theorem execFencePoll_keeps {reads : List (Option (BitVec 64))} : s.Keeps (execFencePoll reads s) :=
  runIf_keeps fun _ c => (c.kept.same (by rfl)).each fun c _ => c.kept.emit

theorem execFrameLaunch_keeps : s.Keeps (execFrameLaunch s) := by
  refine runSender_keeps fun _ c => ?_
  split
  · exact c.kept
  · split
    · exact c.kept
    · split
      · exact c.kept.deferFlip
      · exact c.kept.launchFlip

theorem execFlipParse_keeps {slots : List (List Byte)} {guardTable : Option (List Byte)} :
    s.Keeps (execFlipParse slots guardTable s) := by
  dsimp only [execFlipParse]
  refine runIf_keeps fun _ c => ?_
  split
  · exact c.kept.readFlip.enginesWork.set.judgeFlip
  · exact c.kept.readFlip.enginesWork.engineErrors

theorem execLayerReadComplete_keeps {surface payload : List Byte} : s.Keeps (execLayerReadComplete entry surface payload s) :=
  by
  refine runSender_keeps fun _ c => ?_
  refine c.kept.onRead fun _ _ c => ?_
  · split
    · exact c.kept.abandonLayer
    · dsimp only
      split
      · exact c.kept.snoopFeed.enginesWork.fillBuffer.sendBlocks.postRetire.layerDone
      · exact c.kept.snoopFeed.enginesWork.engineErrors

theorem execLayerReadFail_keeps {why : LayerFail} : s.Keeps (execLayerReadFail entry why s) := by
  refine runSender_keeps fun _ c => ?_
  refine c.kept.onRead fun _ _ c => ?_
  · split
    · exact c.kept.abandonLayer
    · exact .ite c.kept.abandonLayer c.kept

theorem execTransportEnd_keeps : s.Keeps (execTransportEnd s) := by
  refine runSender_keeps fun _ c => ?_
  split
  · exact c.kept.endTransport
  · exact c.kept

theorem execSenderModeSwitch_keeps : s.Keeps (execSenderModeSwitch s) := by
  refine runSender_keeps fun _ c => ?_
  split
  · exact c.kept
  · exact c.kept.modFlying.dropDone.set.showNext.event

theorem execAutoEnum_keeps : s.Keeps (execAutoEnum port s) := by
  dsimp only [execAutoEnum]
  exact runIf_keeps fun _ c => .ite (.ite c.kept.sendEnum c.kept) (.ite c.kept.sendEnum c.kept)

theorem execRecorderWrite_keeps : s.Keeps (execRecorderWrite s) := runIf_keeps fun _ c => c.kept.opRecorderWrite

theorem execPresentFrame_keeps : s.Keeps (execPresentFrame s) := by
  refine runTile_keeps fun _ c => ?_
  split
  · exact c.kept.presentFrame
  · exact c.kept

theorem execRefreshStart_keeps : s.Keeps (execRefreshStart s) := by
  refine runTile_keeps fun _ c => ?_
  split
  · exact c.kept
  · exact (Dev.Kept.ite c.kept c.kept.startPeriod).startRefresh

theorem execRowSlotStart_keeps {samples : SlotSamples} : s.Keeps (execRowSlotStart samples s) :=
  runIf_keeps fun _ c => c.kept.rowSlot

theorem execPinwheelRetune_keeps : s.Keeps (execPinwheelRetune s) := by
  refine runTile_keeps fun _ c => ?_
  split
  · exact .ite c.kept.retunePinwheel c.kept
  · exact c.kept

theorem execFadeArm_keeps : s.Keeps (execFadeArm init s) := runBy_keeps fun _ c => c.kept.opFadeArm
theorem execFadeDisarm_keeps : s.Keeps (execFadeDisarm init s) := runBy_keeps fun _ c => c.kept.opFadeDisarm

theorem execFadeStart_keeps : s.Keeps (execFadeStart s) := by
  refine runTile_keeps fun _ c => ?_
  split
  · exact .ite (c.kept.settleLevel.same (by rfl)).setAll c.kept
  · exact c.kept

theorem execFadeEnd_keeps : s.Keeps (execFadeEnd s) := by
  refine runTile_keeps fun _ c => ?_
  split
  · exact .ite c.kept.setAll.event c.kept
  · exact c.kept

theorem execWallClockTick_keeps {pins : PinLevels} :
    s.Keeps (execWallClockTick pins s) := runIf_keeps fun _ c => .ite
    ((c.kept.clockOn.same (by rfl)).notePins.each (fun c _ => c.kept.fillLine)) (c.kept.clockOn.same (by rfl))

theorem execClockSlewDone_keeps : s.Keeps (execClockSlewDone s) := runIf_keeps fun _ c => .ite c.kept.set c.kept.stepBy

theorem execTimeSend_keeps : s.Keeps (execTimeSend port s) := by
  dsimp only [execTimeSend]
  exact runIf_keeps fun _ c => (c.kept.modPort (by simp)).queueTx

theorem execTimeReceive_keeps : s.Keeps (execTimeReceive s) :=
  runTile_keeps fun _ c => c.kept.onRx fun _ c => .ite c.kept.hearSender.takeTime c.kept.hearSender

theorem execTimeHoldoverTimeout_keeps : s.Keeps (execTimeHoldoverTimeout s) :=
  runIf_keeps fun _ c => (c.kept.setAll.same (by rfl)).event

theorem execPtpEnable_keeps : s.Keeps (execPtpEnable init inst s) := runBy_keeps fun _ c => c.kept.opPtpEnable
theorem execPtpDisable_keeps : s.Keeps (execPtpDisable init inst s) := runBy_keeps fun _ c => c.kept.opPtpDisable

theorem execPtpAnnounceReceive_keeps {msg : Announce} : s.Keeps (execPtpAnnounceReceive inst msg s) := by
  dsimp only [execPtpAnnounceReceive]
  refine runIf_keeps fun _ c => ?_
  split
  · exact c.kept.set.modPtp
  · exact .ite c.kept.set.modPtp.showMaster.ptpEnter (.ite c.kept.set.modPtp.showMaster c.kept.set.modPtp.ptpListen)

theorem execPtpSyncReceive_keeps {msg : PtpSync} : s.Keeps (execPtpSyncReceive inst msg s) := by
  dsimp only [execPtpSyncReceive]
  exact runIf_keeps fun _ c => (Dev.Kept.ite c.kept.setAll.modPtp.followPtp c.kept.setAll.modPtp).countOffset

theorem execPtpDelayReqSend_keeps : s.Keeps (execPtpDelayReqSend inst s) := by
  dsimp only [execPtpDelayReqSend]
  exact runIf_keeps fun _ c => c.kept.modPtp.ptpSend

theorem execPtpDelayRespReceive_keeps {msg : PtpDelay} : s.Keeps (execPtpDelayRespReceive inst msg s) := by
  dsimp only [execPtpDelayRespReceive]
  exact runIf_keeps fun _ c => (Dev.Kept.ite c.kept c.kept.modPtp).setAll

theorem execPtpAnnounceTimeout_keeps : s.Keeps (execPtpAnnounceTimeout inst s) := by
  dsimp only [execPtpAnnounceTimeout]
  exact runIf_keeps fun _ c => c.kept.ptpListen

theorem execPtpLinkDown_keeps : s.Keeps (execPtpLinkDown inst s) := by
  dsimp only [execPtpLinkDown]
  exact runSender_keeps fun _ c => .ite c.kept.set.modPtp.ptpListen c.kept.set.modPtp

theorem execPtpArpRequest_keeps {target : Word} {asker : Nat} : s.Keeps (execPtpArpRequest inst target asker s) := by
  dsimp only [execPtpArpRequest]
  exact runIf_keeps fun _ c => c.kept.set.ptpEmit

theorem execPtpRevertTimeout_keeps : s.Keeps (execPtpRevertTimeout s) := runIf_keeps fun _ c => c.kept.reselect

theorem execPpsInEdge_keeps :
    s.Keeps (execPpsInEdge s) := runSender_keeps fun _ c => .ite (c.kept.setAll.same (by rfl))
    (Dev.Kept.ite (c.kept.setAll.same (by rfl)).setAll.stepBy (c.kept.setAll.same (by rfl)).setAll.correct).set

theorem execPpsTimeout_keeps : s.Keeps (execPpsTimeout s) := runIf_keeps fun _ c => .ite c.kept.set.set c.kept.set
theorem execPpsOutPulse_keeps : s.Keeps (execPpsOutPulse s) := runIf_keeps fun _ c => (c.kept.same (by rfl)).emit
theorem execPpsOutFall_keeps : s.Keeps (execPpsOutFall s) := runIf_keeps fun _ c => (c.kept.same (by rfl)).emit

theorem execSurveyStart_keeps : s.Keeps (execSurveyStart port s) := by
  dsimp only [execSurveyStart]
  exact runIf_keeps fun _ c => c.kept.startSurvey

theorem execSurveyProbe_keeps : s.Keeps (execSurveyProbe port s) := by
  dsimp only [execSurveyProbe]
  refine runIf_keeps fun _ c => ?_
  split
  · exact .ite c.kept.modSurvey.sendProbe c.kept
  · split
    · exact c.kept
    · exact .ite c.kept.modSurvey.modSurvey.surveyFail (.ite c.kept (c.kept.modSurvey.same (by rfl)).modSurvey.sendProbe)

theorem execPresenceTimeout_keeps : s.Keeps (execPresenceTimeout port position s) := by
  dsimp only [execPresenceTimeout]
  exact runIf_keeps fun _ c => (c.kept.modPort (by simp)).noteAgreement

theorem execStaleTimeout_keeps : s.Keeps (execStaleTimeout port position s) := by
  dsimp only [execStaleTimeout]
  exact runIf_keeps fun _ c => c.kept.setStale.event.raise

theorem execHeartbeatSend_keeps : s.Keeps (execHeartbeatSend port s) := by
  dsimp only [execHeartbeatSend]
  exact runIf_keeps fun _ c => (c.kept.modPort (by simp)).queueTx

theorem execHeartbeatReceive_keeps : s.Keeps (execHeartbeatReceive s) :=
  runSender_keeps fun _ c => c.kept.onRx (fun _ c => c.kept.same (by rfl))

theorem execPeerHeartbeatAbsent_keeps : s.Keeps (execPeerHeartbeatAbsent port s) := by
  dsimp only [execPeerHeartbeatAbsent]
  exact runIf_keeps fun _ c => .ite c.kept.takeover (.ite c.kept.set.setMode.event c.kept)

theorem execPeerHeartbeatResumed_keeps : s.Keeps (execPeerHeartbeatResumed port s) := by
  dsimp only [execPeerHeartbeatResumed]
  exact runIf_keeps fun _ c => c.kept.setMode.event.updateSync

theorem execTwinInitDecided_keeps : s.Keeps (execTwinInitDecided s) :=
  runIf_keeps fun _ c => .ite c.kept.decideInit c.kept.becomeActive

theorem execFramesRejected_keeps : s.Keeps (execFramesRejected s) := runIf_keeps fun _ c => c.kept.set.event.becomeStandby
theorem execSwapReclaimStart_keeps : s.Keeps (execSwapReclaimStart s) := runIf_keeps fun _ c => c.kept.swapGrid.startSwap

theorem execSwapCheck_keeps : s.Keeps (execSwapCheck s) := by
  refine runSender_keeps fun _ c => ?_
  split
  · exact c.kept
  · exact .ite c.kept c.kept.checkSwap

theorem execSwapInstant_keeps : s.Keeps (execSwapInstant s) := by
  refine runSender_keeps fun _ c => ?_
  split
  · exact c.kept
  · exact .ite c.kept (.ite c.kept.refuseSwap (.ite c.kept.performSwap c.kept.checkSwap))

theorem execSwapPortRelease_keeps : s.Keeps (execSwapPortRelease port s) := by
  dsimp only [execSwapPortRelease]
  exact runIf_keeps fun _ c => c.kept.setMode.updateSync

theorem execTwinSwapDone_keeps : s.Keeps (execTwinSwapDone s) := runIf_keeps fun _ c => c.kept.endSwap
theorem execYoyoSend_keeps : s.Keeps (execYoyoSend s) := runIf_keeps fun _ c => c.kept.same (by rfl)

theorem execYoyoReceive_keeps : s.Keeps (execYoyoReceive bytes s) :=
  runIf_keeps fun _ c => .ite (c.kept.eventIf.same (by rfl)) c.kept.takeYoyo

theorem execYoyoLost_keeps :
    s.Keeps (execYoyoLost s) := runIf_keeps fun _ c => (Dev.Kept.ite
    (Dev.Kept.ite (c.kept.set.same (by rfl)).raise.abortTwinOut.refuseSwap
    (c.kept.set.same (by rfl)).raise.abortTwinOut).takeover (.ite
    (.ite (c.kept.set.same (by rfl)).raise.abortTwinOut.refuseSwap (c.kept.set.same (by rfl)).raise.abortTwinOut)
    (Dev.Kept.ite (c.kept.set.same (by rfl)).raise.abortTwinOut.refuseSwap
    (c.kept.set.same (by rfl)).raise.abortTwinOut).linkLost)).updateSync

theorem execYoyoRegained_keeps : s.Keeps (execYoyoRegained s) :=
  runIf_keeps fun _ c => (c.kept.set.same (by rfl)).raise.updateSync

theorem execSenderFlipHdrReceive_keeps :
    s.Keeps (execSenderFlipHdrReceive s) := runSender_keeps fun _ c => c.kept.onRx
    (fun _ c => .ite c.kept (Dev.Kept.ite (c.kept.same (by rfl)) (c.kept.same (by rfl)).addSat.event).updateSync)

theorem execWitnessReceive_keeps :
    s.Keeps (execWitnessReceive s) := runSender_keeps fun _ c => c.kept.onRx
    (fun _ c => .ite (.ite (c.kept.setAll.noteWitness.standbyEpoch.modPort (by simp)) c.kept.setAll.noteWitness.standbyEpoch)
    (.ite c.kept.setAll.noteWitness.standbyEpoch.notePresent c.kept.setAll.noteWitness.standbyEpoch))

theorem execSourceHeardTimeout_keeps : s.Keeps (execSourceHeardTimeout s) := runTile_keeps fun _ c => c.kept.loseSource

theorem execCalStepComplete_keeps {readings : CalReadings} {commits : Bool} :
    s.Keeps (execCalStepComplete readings cond commits s) := by
  refine runAwake_keeps fun _ c => ?_
  split
  · exact c.kept
  · refine c.kept.whenCal fun c => ?_
    · split
      · exact c.kept.settleCal fun _ c => c.kept.finishSink
      · split
        · exact c.kept.settleCal fun _ c => c.kept.finishSink
        · refine c.kept.settleCal fun _ c => ?_
          · split
            · exact c.kept.finishAdc
            · exact c.kept.endCal
        · exact c.kept.settleCal fun _ c => .ite c.kept.endCal c.kept.finishSens
        · exact c.kept.settleCal fun _ c => c.kept.finishLane
        · exact c.kept

theorem execCalSlotMeasure_keeps {cells : List Nat} : s.Keeps (execCalSlotMeasure cells cond s) := by
  refine runTile_keeps fun _ c => ?_
  split
  · exact .ite (c.kept.whenCal (fun c => (c.kept.same (by rfl)).emit)) c.kept
  · exact c.kept

theorem execFootprintArm_keeps : s.Keeps (execFootprintArm init s) := runBy_keeps fun _ c => c.kept.opFpArm
theorem execFootprintDisarm_keeps : s.Keeps (execFootprintDisarm init s) := runBy_keeps fun _ c => c.kept.opFpDisarm

theorem execFootprintSwitch_keeps : s.Keeps (execFootprintSwitch s) :=
  runIf_keeps fun _ c => .ite c.kept.copyFootprints.set.event.noteMap c.kept.copyFootprints.set.event

theorem execCorArm_keeps : s.Keeps (execCorArm init s) := runBy_keeps fun _ c => c.kept.opCorArm
theorem execCorDisarm_keeps : s.Keeps (execCorDisarm init s) := runBy_keeps fun _ c => c.kept.opCorDisarm

theorem execCoefSetLoaded_keeps : s.Keeps (execCoefSetLoaded s) := by
  refine runTile_keeps fun _ c => ?_
  split
  · exact (c.kept.nvmRead.same (by rfl)).set.eventIf
  · exact c.kept

theorem execCoefSetSwitch_keeps : s.Keeps (execCoefSetSwitch s) :=
  runIf_keeps fun _ c => (c.kept.same (by rfl)).setAll.showCoef.event.noteMap.noteCanvas

theorem execCorCanvasWrite_keeps : s.Keeps (execCorCanvasWrite init value s) := runBy_keeps fun _ c => c.kept.opCorCanvas
theorem execLeaseExpire_keeps : s.Keeps (execLeaseExpire s) := runIf_keeps fun _ c => c.kept.same (by rfl)

theorem execUpdateOpen_keeps : s.Keeps (execUpdateOpen s) :=
  onUpdate_keeps fun _ _ c => c.kept.updateQuiet fun c => c.kept.opUpdOpen

theorem execUpdateData_keeps : s.Keeps (execUpdateData s) :=
  onUpdate_keeps fun _ _ c => .ite c.kept.updateData c.kept.updateData.respond

theorem execUpdatePrepare_keeps : s.Keeps (execUpdatePrepare s) :=
  onUpdate_keeps fun _ _ c => (c.kept.updateNamed (fun c => c.kept.opUpdPrepare)).respond

theorem execUpdateActivate_keeps : s.Keeps (execUpdateActivate s) :=
  onUpdate_keeps fun _ _ c => (c.kept.updateNamed (fun c => c.kept.opUpdActivate)).respond

theorem execUpdateAbort_keeps : s.Keeps (execUpdateAbort s) :=
  onUpdate_keeps fun _ _ c => c.kept.updateQuiet fun c => c.kept.opUpdAbort

theorem execUpdateClose_keeps : s.Keeps (execUpdateClose s) :=
  onUpdate_keeps fun _ _ c => c.kept.updateQuiet fun c => c.kept.opUpdClose

theorem execUpdateRenew_keeps : s.Keeps (execUpdateRenew s) :=
  onUpdate_keeps fun _ _ c => c.kept.updateQuiet fun c => c.kept.opUpdRenew

theorem execActivationCheck_keeps : s.Keeps (execActivationCheck s) := by
  refine runSender_keeps fun _ c => ?_
  split
  · exact .ite (.ite (c.kept.same (by rfl)).finishDesc (c.kept.same (by rfl)).broadcastOp.disarm.finishDesc) c.kept
  · exact c.kept

theorem execActivationSwitch_keeps : s.Keeps (execActivationSwitch s) := by
  refine runAwake_keeps fun _ c => ?_
  split
  · exact .ite (.ite (c.kept.switchOver.stopCal.same (by rfl)) (.ite c.kept.switchOver.resumeCores c.kept.switchOver)) c.kept
  · exact c.kept

theorem execUpdatePauseEnd_keeps : s.Keeps (execUpdatePauseEnd s) := by
  refine runAwake_keeps fun _ c => ?_
  split
  · exact .ite (c.kept.same (by rfl)).countWrite.event c.kept
  · exact c.kept

theorem execSvcOpen_keeps : s.Keeps (execSvcOpen init s) := runSvc_keeps
theorem execSvcRenew_keeps : s.Keeps (execSvcRenew init s) := runSvc_keeps
theorem execSvcClose_keeps : s.Keeps (execSvcClose init s) := runSvc_keeps
theorem execSvcData_keeps {object : Fin 16} {content : Fin 8} : s.Keeps (execSvcData init object content s) := runSvc_keeps
theorem execSvcPrepare_keeps : s.Keeps (execSvcPrepare init s) := runSvc_keeps
theorem execSvcActivate_keeps : s.Keeps (execSvcActivate init s) := runSvc_keeps
theorem execSvcAbort_keeps : s.Keeps (execSvcAbort init s) := runSvc_keeps

theorem execNvmCommit_keeps {kind seq : Nat} : s.Keeps (execNvmCommit kind seq s) :=
  monitorCall_keeps fun _ c => .ite (.ite c.kept.commitSlot.showSlots c.kept.commitSlot) c.kept

theorem execNvmRead_keeps {area : NvmArea} {length : Nat} : s.Keeps (execNvmRead area offset length s) :=
  monitorCall_keeps fun _ c => .ite c.kept (.ite c.kept.nvmRead.noteBad.emit c.kept.nvmRead.noteBad)

theorem execFactoryRead_keeps : s.Keeps (execFactoryRead offset s) := monitorCall_keeps fun _ c => c.kept.nvmRead.emit

theorem execTokenCheck_keeps {type : Nat} {token : List Byte} : s.Keeps (execTokenCheck type token s) :=
  monitorCall_keeps fun _ c => .ite c.kept.useToken c.kept

theorem execMeasure_keeps : s.Keeps (execMeasure s) := monitorCall_keeps fun _ c => c.kept.emit
theorem execDormantArm_keeps : s.Keeps (execDormantArm init s) := runBy_keeps fun _ c => c.kept.opDormArm
theorem execDormantDisarm_keeps : s.Keeps (execDormantDisarm init s) := runBy_keeps fun _ c => c.kept.opDormDisarm

theorem execDormantEntry_keeps : s.Keeps (execDormantEntry s) :=
  runIf_keeps fun _ c => .ite (c.kept.withAlert (fun c => c.kept.enterDormant)) c.kept.setAll.event

theorem execWakeNAssert_keeps : s.Keeps (execWakeNAssert s) := run_keeps fun _ c => .ite c.kept.set.latchWake c.kept.set

theorem execJackToneDetect_keeps : s.Keeps (execJackToneDetect s) :=
  runIf_keeps fun _ c => .ite ((Dev.Kept.ite c.kept.latchWake c.kept).same (by rfl)).emit (.ite c.kept.latchWake c.kept)

theorem execJackToneEnd_keeps : s.Keeps (execJackToneEnd s) := runIf_keeps fun _ c => (c.kept.same (by rfl)).emit
theorem execAonAlarm_keeps : s.Keeps (execAonAlarm s) := runIf_keeps fun _ c => c.kept.latchWake.set

theorem execDormantOvertemp_keeps {hot : Bool} : s.Keeps (execDormantOvertemp hot s) :=
  runIf_keeps fun _ c => c.kept.withAlert fun c => .ite c.kept.setAll c.kept.set

theorem execAonSupplyChange_keeps {supply : AonSupply} {present : Bool} : s.Keeps (execAonSupplyChange supply present s) := by
  refine runIf_keeps fun _ c => ?_
  split
  · exact c.kept.latchLoss.same rfl
  · exact .ite (c.kept.latchLoss.same (by rfl)) c.kept
  · exact c.kept.latchLoss.same rfl
  · exact c.kept.setb.same rfl

theorem execAonClockTick_keeps : s.Keeps (execAonClockTick s) := runIf_keeps fun _ c => c.kept.aonTick
theorem execXtalOkChange_keeps {ok : Bool} : s.Keeps (execXtalOkChange ok s) := runIf_keeps fun _ c => c.kept.setb

theorem execWakeToneSend_keeps {ports : BitVec 4} : s.Keeps (execWakeToneSend init ports s) :=
  runBy_keeps fun _ c => c.kept.opTone

theorem execWakeToneEnd_keeps : s.Keeps (execWakeToneEnd s) := runSender_keeps fun _ c => c.kept.each fun c _ => c.kept.endTone
theorem execBkupNEdge_keeps : s.Keeps (execBkupNEdge low s) := run_keeps fun _ c => c.kept.pinEdge
theorem execMotionNEdge_keeps : s.Keeps (execMotionNEdge low s) := run_keeps fun _ c => c.kept.pinEdge

theorem execThermalRound_keeps {raw : List SensorReading} : s.Keeps (execThermalRound raw s) := by
  refine run_keeps fun _ c => ?_
  split
  · exact c.kept.withAlert fun c => c.kept.takeReadings.liveRound
  · dsimp only
    split
    · exact .ite c.kept.takeReadings.enterShutdown c.kept.takeReadings
    · exact c.kept.takeReadings
  · exact c.kept.takeReadings.shutRound
  · exact c.kept
  · exact c.kept

theorem execThrottleStep_keeps : s.Keeps (execThrottleStep s) := runIf_keeps fun _ c => (c.kept.same (by rfl)).stepTlevel
theorem execPacingCycle_keeps : s.Keeps (execPacingCycle s) := runAwake_keeps fun _ c => c.kept.set
theorem execVlowExcursion_keeps : s.Keeps (execVlowExcursion s) := runAwake_keeps fun _ c => c.kept.setAll.failLow
theorem execVlowEnd_keeps : s.Keeps (execVlowEnd s) := runAwake_keeps fun _ c => c.kept.set

theorem execFabPinjArm_keeps {mem : Fin 16} {unit : Fin 256} : s.Keeps (execFabPinjArm init mem unit s) :=
  runBy_keeps fun _ c => c.kept.opPinjArm

theorem execFabPinjCancel_keeps : s.Keeps (execFabPinjCancel init s) := runBy_keeps fun _ c => c.kept.opPinjCancel

theorem execEngineReloadDone_keeps {engine : Fin 192} : s.Keeps (execEngineReloadDone engine s) :=
  runIf_keeps fun _ c => c.kept.reloaded

theorem execTimeNowRead_keeps : s.Keeps (execTimeNowRead init addr width s) :=
  runRead_keeps (fun c => c.kept.readZeros) fun _ c => c.kept.readBytes

theorem execFirmwareStart_keeps {adc : List (List (List (Nat × Nat)))} : s.Keeps (execFirmwareStart adc s) :=
  runIf_keeps fun _ c => .ite (c.kept.migrateIfDue.same (by rfl)) (c.kept.withAlert (fun c => c.kept.firmwareStart))

theorem execDeviceReady_keeps : s.Keeps (execDeviceReady s) := by
  refine runIf_keeps fun _ c => ?_
  dsimp only
  split
  · exact c.kept.set.event.set
  · exact c.kept.set.event.set.same rfl

theorem execWarmReset_keeps : s.Keeps (execWarmReset init s) := runBy_keeps fun _ c => c.kept.warmReset
theorem execCoreRestart_keeps : s.Keeps (execCoreRestart init s) := runBy_keeps fun _ c => c.kept.coreRestart
theorem execWatchdogKick_keeps : s.Keeps (execWatchdogKick init s) := runBy_keeps fun _ c => c.kept.kick
theorem execWatchdogExpire_keeps : s.Keeps (execWatchdogExpire s) := runIf_keeps fun _ c => c.kept.watchdogFires

theorem execBrownOut_keeps : s.Keeps (execBrownOut s) :=
  runAwake_keeps fun _ c => c.kept.withAlert (fun c => c.kept.enterWarm.same (by rfl))

theorem execBrownOutRelease_keeps : s.Keeps (execBrownOutRelease s) := runIf_keeps fun _ c => c.kept.bootUp

theorem execShutdownRestart_keeps : s.Keeps (execShutdownRestart s) := by
  refine runIf_keeps fun _ c => ?_
  split
  · exact c.kept
  · exact .ite c.kept.endShutdown.bootUp c.kept

theorem execDormantExit_keeps : s.Keeps (execDormantExit s) := runIf_keeps fun _ c => c.kept.exitDormant

theorem execLoaderSwapDone_keeps : s.Keeps (execLoaderSwapDone s) :=
  runIf_keeps fun _ c => c.kept.swapImages.clearMbxs.resumeCores.same (by rfl)

theorem execSramParityError_keeps {mem unit : Nat} : s.Keeps (execSramParityError mem unit offset s) :=
  runIf_keeps fun _ c => .ite c.kept.add.warmReset.event c.kept.parityFound

theorem execRegisterWrite_keeps : s.Keeps (execRegisterWrite init addr width value s) :=
  runIf_keeps fun _ c => .ite c.kept.svcStore (.ite c.kept.writeFunction c.kept.writeAny)

theorem execServicePortWrite_keeps {data : List Byte} : s.Keeps (execServicePortWrite target addr data s) :=
  runIf_keeps fun _ c => .ite c.kept.svcNack c.kept.svcWrite

theorem execServicePortRead_keeps {bytes : Nat} : s.Keeps (execServicePortRead target addr bytes s) :=
  runRead_keeps (fun c => c.kept.emit) fun _ c => .ite c.kept.svcNack c.kept.svcRead.emit

theorem execMbxWrite_keeps {writer : MbxSide} {word : Word} : s.Keeps (execMbxWrite writer m word s) :=
  runAwake_keeps fun _ c => .ite c.kept.svcWrite c.kept.opMbxWrite

theorem execMbxAck_keeps {reader : MbxSide} : s.Keeps (execMbxAck reader m s) :=
  runAwake_keeps fun _ c => .ite c.kept.svcWrite c.kept.opMbxAck

theorem execCmdDispatch_keeps {ring : DescRing} : s.Keeps (execCmdDispatch ring index s) := by
  refine runSender_keeps fun _ c => ?_
  split
  · exact c.kept
  · split
    · exact c.kept
    · split
      · exact .ite c.kept c.kept.dispatchCmd
      · exact c.kept.dispatchBulk

theorem execBulkDataReadDone_keeps {data : Option (List Byte)} : s.Keeps (execBulkDataReadDone index data s) := by
  refine runSender_keeps fun _ c => ?_
  split
  · exact c.kept
  · split
    · exact c.kept
    · split
      · exact c.kept
      · split
        · exact c.kept.failBulk
        · exact c.kept.dataRead

theorem execRspReceive_keeps : s.Keeps (execRspReceive s) := runSender_keeps fun _ c => c.kept.onRx fun _ c => c.kept.takeRsp

theorem execProgressRspReceive_keeps : s.Keeps (execProgressRspReceive s) :=
  runSender_keeps fun _ c => c.kept.onRx (fun _ c => c.kept.same (by rfl))

theorem execCmdTimeout_keeps : s.Keeps (execCmdTimeout xid s) := by
  refine runSender_keeps fun _ c => ?_
  split
  · exact c.kept.timedOut
  · split
    · exact .ite c.kept.endPrepare c.kept
    · exact c.kept

theorem execPacketSendComplete_keeps : s.Keeps (execPacketSendComplete port s) := by
  dsimp only [execPacketSendComplete]
  refine runSender_keeps fun _ c => ?_
  split
  · exact c.kept
  · refine Dev.Kept.pumpAll ?_
    refine Dev.Kept.txNext ?_
    split
    · exact .ite (c.kept.modPort (by simp)).dropOut (c.kept.modPort (by simp)).dropOut.finishDesc
    · exact c.kept.modPort (by simp)

theorem execCmdDescReceive_keeps : s.Keeps (execCmdDescReceive s) :=
  runTile_keeps fun _ c => c.kept.onRx fun _ c => c.kept.takeDesc

theorem execProgressRspSend_keeps : s.Keeps (execProgressRspSend xid s) := by
  refine runIf_keeps fun _ c => ?_
  split
  · exact c.kept.progressed.respond
  · exact c.kept

theorem execBulkOpenReceive_keeps : s.Keeps (execBulkOpenReceive s) := by
  refine runTile_keeps fun _ c => ?_
  split
  · exact c.kept.judgeOpen
  · exact c.kept.onRx fun _ c => c.kept.takeOpen

theorem execBulkDataReceive_keeps : s.Keeps (execBulkDataReceive s) := by
  refine runTile_keeps fun _ c => ?_
  split
  · exact c.kept.nextSegment
  · exact c.kept.onRx fun _ c => c.kept.arriveSegment

theorem execBulkPullReceive_keeps : s.Keeps (execBulkPullReceive s) := by
  refine runTile_keeps fun _ c => ?_
  split
  · exact c.kept.servePulls
  · exact c.kept.onRx fun _ c => c.kept.arrivePull

theorem execBulkSnapshot_keeps : s.Keeps (execBulkSnapshot s) :=
  runTile_keeps fun _ c => c.kept.each (fun c _ => c.kept.fillBulk (fun c => c.kept.getSnapshot))

theorem execNop_keeps : s.Keeps (execNop ref s) := runCommand_keeps fun _ _ _ c => c.kept

theorem execRegRead_keeps : s.Keeps (execRegRead ref s) :=
  runTransport_keeps fun _ _ _ c => .ite c.kept.opRegRead.emit c.kept.opRegRead

theorem execRegWrite_keeps : s.Keeps (execRegWrite ref s) := runTransport_keeps fun _ _ _ c => c.kept.opRegWrite
theorem execRegRmw_keeps : s.Keeps (execRegRmw ref s) := runTransport_keeps fun _ _ _ c => c.kept.opRegRmw
theorem execMgmtStage_keeps : s.Keeps (execMgmtStage ref s) := runPut_keeps fun _ _ _ c => c.kept.putMgmt
theorem execUcodeDelta_keeps : s.Keeps (execUcodeDelta ref s) := runPut_keeps fun _ _ _ c => c.kept.putDelta
theorem execManifestStage_keeps : s.Keeps (execManifestStage ref s) := runPut_keeps fun _ _ _ c => c.kept.putManifest
theorem execOwnerToken_keeps : s.Keeps (execOwnerToken ref s) := runPut_keeps fun _ _ _ c => c.kept.putManifest
theorem execEnrollRequest_keeps : s.Keeps (execEnrollRequest ref s) := runPut_keeps fun _ _ _ c => c.kept.putManifest
theorem execAttest_keeps : s.Keeps (execAttest ref s) := runGet_keeps fun _ _ c => c.kept.getAttest
theorem execCoefSetToDevice_keeps : s.Keeps (execCoefSetToDevice ref s) := runPut_keeps fun _ _ _ c => c.kept.putCoef
theorem execCoefSetFromDevice_keeps : s.Keeps (execCoefSetFromDevice ref s) := runGet_keeps fun _ _ c => c.kept.getCoef
theorem execSafeImage_keeps : s.Keeps (execSafeImage ref s) := runPut_keeps fun _ _ _ c => c.kept.putSafe
theorem execLampMap_keeps : s.Keeps (execLampMap ref s) := runGet_keeps fun _ _ c => c.kept.notServed
theorem execMeas_keeps : s.Keeps (execMeas ref s) := runGet_keeps fun _ _ c => c.kept.notServed
theorem execRecDump_keeps : s.Keeps (execRecDump ref s) := runGet_keeps fun _ _ c => c.kept.getDump
theorem execSettingsToDevice_keeps : s.Keeps (execSettingsToDevice ref s) := runPut_keeps fun _ _ _ c => c.kept.putSettings
theorem execSettingsFromDevice_keeps : s.Keeps (execSettingsFromDevice ref s) := runGet_keeps fun _ _ c => c.kept.getSettings
theorem execChainEnum_keeps : s.Keeps (execChainEnum ref s) := runCommand_keeps fun _ _ _ c => c.kept.opChainEnum

theorem execChainEnumComplete_keeps : s.Keeps (execChainEnumComplete s) := by
  refine runSender_keeps fun _ c => ?_
  split
  · exact .ite (c.kept.same (by rfl)).finishDesc c.kept
  · exact c.kept

theorem execChainPing_keeps : s.Keeps (execChainPing ref s) := runTransport_keeps fun _ _ _ c => c.kept
theorem execTimeProbe_keeps : s.Keeps (execTimeProbe ref s) := runTransport_keeps fun _ _ _ c => c.kept
theorem execTimeSet_keeps : s.Keeps (execTimeSet ref s) := runCommand_keeps fun _ _ _ c => c.kept.opTimeSet
theorem execTimeAdj_keeps : s.Keeps (execTimeAdj ref s) := runCommand_keeps fun _ _ _ c => c.kept.opTimeAdj

theorem execTimeSurvey_keeps : s.Keeps (execTimeSurvey ref s) := by
  refine runCommand_keeps fun _ _ _ c => ?_
  split
  · exact c.kept.startSurvey
  · exact c.kept

theorem execDiagLamp_keeps : s.Keeps (execDiagLamp ref s) := by
  refine runCommand_keeps fun _ _ _ c => ?_
  split
  · exact c.kept
  · exact c.kept

theorem execTwinSwap_keeps : s.Keeps (execTwinSwap ref s) := by
  refine runCommand_keeps fun _ _ _ c => ?_
  split
  · exact c.kept.opTwinSwap
  · exact c.kept

theorem execCalRunSink_keeps : s.Keeps (execCalRunSink ref cond s) := runCommand_keeps fun _ _ _ c => c.kept.opCalRun
theorem execCalRunAdc_keeps : s.Keeps (execCalRunAdc ref cond s) := runCommand_keeps fun _ _ _ c => c.kept.opCalRun
theorem execCalRunSens_keeps : s.Keeps (execCalRunSens ref cond s) := runCommand_keeps fun _ _ _ c => c.kept.opCalRun
theorem execCalRunLane_keeps : s.Keeps (execCalRunLane ref cond s) := runCommand_keeps fun _ _ _ c => c.kept.opCalRun
theorem execCalAbort_keeps : s.Keeps (execCalAbort ref s) := runCommand_keeps fun _ _ _ c => c.kept.opCalAbort
theorem execCalRevert_keeps : s.Keeps (execCalRevert ref s) := runCommand_keeps fun _ _ _ c => c.kept.opCalRevert

theorem execUpdPrepare_keeps : s.Keeps (execUpdPrepare ref s) := by
  refine runCommand_keeps fun _ _ _ c => ?_
  dsimp only
  split
  · exact c.kept.wallPrepare
  · exact c.kept.opUpdPrepare

theorem execUpdActivate_keeps : s.Keeps (execUpdActivate ref s) := by
  refine runCommand_keeps fun _ _ _ c => ?_
  split
  · exact c.kept.wallActivate
  · exact c.kept.opUpdActivate

theorem execRecClear_keeps : s.Keeps (execRecClear ref s) := runCommand_keeps fun _ _ _ c => c.kept.opRecClear
theorem execRecMark_keeps : s.Keeps (execRecMark ref s) := runCommand_keeps fun _ _ _ c => c.kept.opRecMark

theorem execNvmWrite_keeps {call : NvmCall} : s.Keeps (execNvmWrite call s) :=
  monitorCall_keeps fun _ c => .ite c.kept.modSlot.clearBadIn.countWrite c.kept

theorem execPowerRemoved_keeps {burst : Option NvmBurst} : s.Keeps (execPowerRemoved burst s) := by
  refine runIf_keeps fun _ c => c.kept.withAlert fun c => ?_
  extract_lets d1 d2
  have h1 : c.Kept d1 := c.kept.tear.outputsOff.aonLost
  have h2 : c.Kept d2 := h1.cleared
  clear_value d2
  exact h2.same rfl

theorem execDiagForce_keeps {ref : CmdRef} : s.Keeps (execDiagForce ref s) := by
  refine runCommand_keeps fun _ _ _ c => .iteSnd c.kept ?_
  dsimp only
  exact c.kept.opDiagForce

theorem execLanePllLock_keeps : s.Keeps (execLanePllLock port s) := by
  unfold execLanePllLock
  extract_lets x
  refine runIf_keeps fun _ c => ?_
  extract_lets d1
  have h1 : c.Kept d1 := c.kept.modPort (by simp)
  exact .ite h1.enterTrain h1

theorem execTrainingFrameRx_keeps {position : Fin 2720} {marker : BitVec 64} {last : Fin 4} :
    s.Keeps (execTrainingFrameRx port lane position marker last s) := by
  unfold execTrainingFrameRx
  refine runIf_keeps fun _ c => ?_
  extract_lets m d0
  have h0 : c.Kept d0 := c.kept.modLane.adapt
  clear_value m d0
  split
  · exact .ite h0.breakRuns h0
  · extract_lets d1 d2 d3
    have h2 : c.Kept d2 := h0.peerReport.noteLaneId.noteSsc
    have h3 : c.Kept d3 := .ite (h2.modPort (by simp)) h2
    exact .ite h3.enterGo h3.goCheck

theorem exec_keeps {i : Instr} : s.Keeps (exec i s) := by
  cases i with
  | registerWrite => exact execRegisterWrite_keeps
  | timeNowRead => exact execTimeNowRead_keeps
  | servicePortWrite => exact execServicePortWrite_keeps
  | servicePortRead => exact execServicePortRead_keeps
  | powerOnReset => exact execPowerOnReset_keeps
  | coldReset => exact execColdReset_keeps
  | warmReset => exact execWarmReset_keeps
  | coreRestart => exact execCoreRestart_keeps
  | watchdogKick => exact execWatchdogKick_keeps
  | watchdogExpire => exact execWatchdogExpire_keeps
  | firmwareStart => exact execFirmwareStart_keeps
  | deviceReady => exact execDeviceReady_keeps
  | vlowExcursion => exact execVlowExcursion_keeps
  | brownOut => exact execBrownOut_keeps
  | brownOutRelease => exact execBrownOutRelease_keeps
  | perstDeassert => exact execPerstDeassert_keeps
  | pcieLinkDown => exact execPcieLinkDown_keeps
  | functionLevelReset => exact execFunctionLevelReset_keeps
  | d3hotEntry => exact execD3hotEntry_keeps
  | hifPollEnable => exact execHifPollEnable_keeps
  | hifPollDisable => exact execHifPollDisable_keeps
  | ringEnable => exact execRingEnable_keeps
  | ringDisable => exact execRingDisable_keeps
  | doorbellPoll => exact execDoorbellPoll_keeps
  | doorbellPollFail => exact execDoorbellPollFail_keeps
  | descFetch => exact execDescFetch_keeps
  | descFetchFail => exact execDescFetchFail_keeps
  | shadowWrite => exact execShadowWrite_keeps
  | completionPost => exact execCompletionPost_keeps
  | eventRingWrite => exact execEventRingWrite_keeps
  | intrModerationTimeout => exact execIntrModerationTimeout_keeps
  | intrCountReached => exact execIntrCountReached_keeps
  | msixUnmask => exact execMsixUnmask_keeps
  | nop => exact execNop_keeps
  | regRead => exact execRegRead_keeps
  | regWrite => exact execRegWrite_keeps
  | regRmw => exact execRegRmw_keeps
  | undefinedOpcode => exact execUndefinedOpcode_keeps
  | cmdDispatch => exact execCmdDispatch_keeps
  | cmdTimeout => exact execCmdTimeout_keeps
  | rspReceive => exact execRspReceive_keeps
  | progressRspReceive => exact execProgressRspReceive_keeps
  | progressRspSend => exact execProgressRspSend_keeps
  | mgmtStage => exact execMgmtStage_keeps
  | ucodeDelta => exact execUcodeDelta_keeps
  | manifestStage => exact execManifestStage_keeps
  | ownerToken => exact execOwnerToken_keeps
  | enrollRequest => exact execEnrollRequest_keeps
  | attest => exact execAttest_keeps
  | coefSetToDevice => exact execCoefSetToDevice_keeps
  | coefSetFromDevice => exact execCoefSetFromDevice_keeps
  | coefSetLoaded => exact execCoefSetLoaded_keeps
  | safeImage => exact execSafeImage_keeps
  | lampMap => exact execLampMap_keeps
  | meas => exact execMeas_keeps
  | bulkSnapshot => exact execBulkSnapshot_keeps
  | recDump => exact execRecDump_keeps
  | settingsToDevice => exact execSettingsToDevice_keeps
  | settingsFromDevice => exact execSettingsFromDevice_keeps
  | flipParse => dsimp only [exec]; exact execFlipParse_keeps
  | fencePoll => exact execFencePoll_keeps
  | frameLaunch => exact execFrameLaunch_keeps
  | layerReadComplete => dsimp only [exec]; exact execLayerReadComplete_keeps
  | layerReadFail => exact execLayerReadFail_keeps
  | packetSendComplete => exact execPacketSendComplete_keeps
  | transportEnd => exact execTransportEnd_keeps
  | senderModeSwitch => exact execSenderModeSwitch_keeps
  | portEnable => exact execPortEnable_keeps
  | portDisable => exact execPortDisable_keeps
  | laneTargetWrite => exact execLaneTargetWrite_keeps
  | txidleSet => exact execTxidleSet_keeps
  | txidleClear => exact execTxidleClear_keeps
  | lanePllLock => exact execLanePllLock_keeps
  | trainingFrameRx => exact execTrainingFrameRx_keeps
  | rxLock => exact execRxLock_keeps
  | peerRxlockSeen => exact execPeerRxlockSeen_keeps
  | countdownDone => exact execCountdownDone_keeps
  | goTimeout => exact execGoTimeout_keeps
  | trainTimeout => exact execTrainTimeout_keeps
  | txonlyLosTimeout => exact execTxonlyLosTimeout_keeps
  | codewordPairRx => exact execCodewordPairRx_keeps
  | losAssert => exact execLosAssert_keeps
  | losClear => exact execLosClear_keeps
  | lossOfLock => exact execLossOfLock_keeps
  | recoverTimeout => exact execRecoverTimeout_keeps
  | peerRxlockLost => exact execPeerRxlockLost_keeps
  | pmAgreement => exact execPmAgreement_keeps
  | ls2EnergyDetect => exact execLs2EnergyDetect_keeps
  | cleanerLock => exact execCleanerLock_keeps
  | refInputLoss => exact execRefInputLoss_keeps
  | refSelectChange => exact execRefSelectChange_keeps
  | eyeMonitorUpdate => exact execEyeMonitorUpdate_keeps
  | tapSave => exact execTapSave_keeps
  | guardResume => exact execGuardResume_keeps
  | packetReassemblyTimeout => exact execPacketReassemblyTimeout_keeps
  | blockReceive => exact execBlockReceive_keeps
  | flipHdrReceive => exact execFlipHdrReceive_keeps
  | presentReceive => exact execPresentReceive_keeps
  | cmdDescReceive => exact execCmdDescReceive_keeps
  | bulkOpenReceive => exact execBulkOpenReceive_keeps
  | bulkDataReceive => exact execBulkDataReceive_keeps
  | bulkPullReceive => exact execBulkPullReceive_keeps
  | enumReceiveHead => exact execEnumReceiveHead_keeps
  | enumReceiveTail => exact execEnumReceiveTail_keeps
  | enumAtTailSender => exact execEnumAtTailSender_keeps
  | witnessSend => exact execWitnessSend_keeps
  | witnessReceive => exact execWitnessReceive_keeps
  | presenceTimeout => exact execPresenceTimeout_keeps
  | autoEnum => exact execAutoEnum_keeps
  | eventSend => exact execEventSend_keeps
  | eventReceive => exact execEventReceive_keeps
  | chainEnum => exact execChainEnum_keeps
  | chainEnumComplete => exact execChainEnumComplete_keeps
  | chainPing => exact execChainPing_keeps
  | timeSend => exact execTimeSend_keeps
  | timeReceive => exact execTimeReceive_keeps
  | timeHoldoverTimeout => exact execTimeHoldoverTimeout_keeps
  | clockSlewDone => exact execClockSlewDone_keeps
  | ptpEnable => exact execPtpEnable_keeps
  | ptpDisable => exact execPtpDisable_keeps
  | ptpAnnounceReceive => exact execPtpAnnounceReceive_keeps
  | ptpSyncReceive => exact execPtpSyncReceive_keeps
  | ptpDelayReqSend => exact execPtpDelayReqSend_keeps
  | ptpDelayRespReceive => exact execPtpDelayRespReceive_keeps
  | ptpAnnounceTimeout => exact execPtpAnnounceTimeout_keeps
  | ptpLinkDown => exact execPtpLinkDown_keeps
  | ptpArpRequest => exact execPtpArpRequest_keeps
  | ptpRevertTimeout => exact execPtpRevertTimeout_keeps
  | ppsInEdge => exact execPpsInEdge_keeps
  | ppsTimeout => exact execPpsTimeout_keeps
  | ppsOutPulse => exact execPpsOutPulse_keeps
  | surveyStart => exact execSurveyStart_keeps
  | surveyProbe => exact execSurveyProbe_keeps
  | timeProbe => exact execTimeProbe_keeps
  | timeSet => exact execTimeSet_keeps
  | timeAdj => exact execTimeAdj_keeps
  | timeSurvey => exact execTimeSurvey_keeps
  | composeDeadline => exact execComposeDeadline_keeps
  | composeComplete => exact execComposeComplete_keeps
  | swapPoint => exact execSwapPoint_keeps
  | presentFrame => exact execPresentFrame_keeps
  | refreshStart => exact execRefreshStart_keeps
  | rowSlotStart => exact execRowSlotStart_keeps
  | pinwheelRetune => exact execPinwheelRetune_keeps
  | pacingCycle => exact execPacingCycle_keeps
  | sramParityError => exact execSramParityError_keeps
  | engineReloadDone => exact execEngineReloadDone_keeps
  | fabPinjArm => exact execFabPinjArm_keeps
  | fabPinjCancel => exact execFabPinjCancel_keeps
  | footprintArm => exact execFootprintArm_keeps
  | footprintDisarm => exact execFootprintDisarm_keeps
  | footprintSwitch => exact execFootprintSwitch_keeps
  | corArm => exact execCorArm_keeps
  | corDisarm => exact execCorDisarm_keeps
  | coefSetSwitch => exact execCoefSetSwitch_keeps
  | coefActivationCommit => exact execCoefActivationCommit_keeps
  | corCanvasWrite => exact execCorCanvasWrite_keeps
  | fadeArm => exact execFadeArm_keeps
  | fadeDisarm => exact execFadeDisarm_keeps
  | fadeStart => exact execFadeStart_keeps
  | fadeEnd => exact execFadeEnd_keeps
  | lampTest => exact execLampTest_keeps
  | pinTest => exact execPinTest_keeps
  | diagLamp => exact execDiagLamp_keeps
  | diagForce => exact execDiagForce_keeps
  | yoyoSend => exact execYoyoSend_keeps
  | yoyoReceive => exact execYoyoReceive_keeps
  | yoyoLost => exact execYoyoLost_keeps
  | yoyoRegained => exact execYoyoRegained_keeps
  | heartbeatSend => exact execHeartbeatSend_keeps
  | heartbeatReceive => exact execHeartbeatReceive_keeps
  | peerHeartbeatAbsent => exact execPeerHeartbeatAbsent_keeps
  | peerHeartbeatResumed => exact execPeerHeartbeatResumed_keeps
  | twinInitDecided => exact execTwinInitDecided_keeps
  | framesRejected => exact execFramesRejected_keeps
  | senderFlipHdrReceive => exact execSenderFlipHdrReceive_keeps
  | sourceHeardTimeout => exact execSourceHeardTimeout_keeps
  | twinSwap => exact execTwinSwap_keeps
  | swapReclaimStart => exact execSwapReclaimStart_keeps
  | swapCheck => exact execSwapCheck_keeps
  | swapInstant => exact execSwapInstant_keeps
  | swapPortRelease => exact execSwapPortRelease_keeps
  | staleTimeout => exact execStaleTimeout_keeps
  | thermalRound => exact execThermalRound_keeps
  | throttleStep => exact execThrottleStep_keeps
  | shutdownRestart => exact execShutdownRestart_keeps
  | calRunSink => exact execCalRunSink_keeps
  | calRunAdc => exact execCalRunAdc_keeps
  | calRunSens => exact execCalRunSens_keeps
  | calRunLane => exact execCalRunLane_keeps
  | calSlotMeasure => exact execCalSlotMeasure_keeps
  | calStepComplete => exact execCalStepComplete_keeps
  | calAbort => exact execCalAbort_keeps
  | calRevert => exact execCalRevert_keeps
  | updOpen => exact execUpdOpen_keeps
  | updRenew => exact execUpdRenew_keeps
  | updClose => exact execUpdClose_keeps
  | updPrepare => exact execUpdPrepare_keeps
  | updActivate => exact execUpdActivate_keeps
  | updAbort => exact execUpdAbort_keeps
  | updateOpen => exact execUpdateOpen_keeps
  | updateData => exact execUpdateData_keeps
  | updatePrepare => exact execUpdatePrepare_keeps
  | updateActivate => exact execUpdateActivate_keeps
  | updateAbort => exact execUpdateAbort_keeps
  | updateClose => exact execUpdateClose_keeps
  | updateRenew => exact execUpdateRenew_keeps
  | leaseExpire => exact execLeaseExpire_keeps
  | activationCheck => exact execActivationCheck_keeps
  | activationSwitch => exact execActivationSwitch_keeps
  | loaderSwapDone => exact execLoaderSwapDone_keeps
  | updatePauseEnd => exact execUpdatePauseEnd_keeps
  | svcOpen => exact execSvcOpen_keeps
  | svcRenew => exact execSvcRenew_keeps
  | svcClose => exact execSvcClose_keeps
  | svcData => exact execSvcData_keeps
  | svcPrepare => exact execSvcPrepare_keeps
  | svcActivate => exact execSvcActivate_keeps
  | svcAbort => exact execSvcAbort_keeps
  | nvmWrite => exact execNvmWrite_keeps
  | nvmCommit => exact execNvmCommit_keeps
  | nvmRead => exact execNvmRead_keeps
  | factoryRead => exact execFactoryRead_keeps
  | tokenCheck => exact execTokenCheck_keeps
  | measure => exact execMeasure_keeps
  | recorderWrite => exact execRecorderWrite_keeps
  | recClear => exact execRecClear_keeps
  | recMark => exact execRecMark_keeps
  | recRdSeqWrite => exact execRecRdSeqWrite_keeps
  | crcStart => exact execCrcStart_keeps
  | crcSeedWrite => exact execCrcSeedWrite_keeps
  | crcDataWrite => exact execCrcDataWrite_keeps
  | snoopArm => exact execSnoopArm_keeps
  | snoopCaptureEnd => exact execSnoopCaptureEnd_keeps
  | mbxWrite => exact execMbxWrite_keeps
  | mbxAck => exact execMbxAck_keeps
  | mbxCross => exact execMbxCross_keeps
  | twinMbxDataReceive => exact execTwinMbxDataReceive_keeps
  | twinMbxAckReceive => exact execTwinMbxAckReceive_keeps
  | twinMbxAbortReceive => exact execTwinMbxAbortReceive_keeps
  | twinMbxRepeat => exact execTwinMbxRepeat_keeps
  | dormantArm => exact execDormantArm_keeps
  | dormantDisarm => exact execDormantDisarm_keeps
  | dormantEntry => exact execDormantEntry_keeps
  | wakeNAssert => exact execWakeNAssert_keeps
  | jackToneDetect => exact execJackToneDetect_keeps
  | jackToneEnd => exact execJackToneEnd_keeps
  | aonAlarm => exact execAonAlarm_keeps
  | dormantExit => exact execDormantExit_keeps
  | dormantOvertemp => exact execDormantOvertemp_keeps
  | aonSupplyChange => exact execAonSupplyChange_keeps
  | wakeToneSend => exact execWakeToneSend_keeps
  | wakeToneEnd => exact execWakeToneEnd_keeps
  | bkupNEdge => exact execBkupNEdge_keeps
  | motionNEdge => exact execMotionNEdge_keeps
  | wallClockTick => exact execWallClockTick_keeps
  | aonClockTick => exact execAonClockTick_keeps
  | pcieLinkUp => exact execPcieLinkUp_keeps
  | bulkDataReadDone => exact execBulkDataReadDone_keeps
  | twinSwapDone => exact execTwinSwapDone_keeps
  | vlowEnd => exact execVlowEnd_keeps
  | ppsOutFall => exact execPpsOutFall_keeps
  | xtalOkChange => exact execXtalOkChange_keeps
  | powerRemoved => exact execPowerRemoved_keeps

theorem step_keeps : s.Keeps (step s) := by
  unfold step
  split
  · exact s.keeps_next
  · exact exec_keeps

/-- Settles O59: every command keeps the lengths, by `step_keeps`. -/
theorem shapeKept : Obligations.ShapeKept := by
  unfold Obligations.ShapeKept
  exact fun _ _ hs ht => (step_keeps _ ht).1 hs

/-- Settles O60: every command keeps the canonical form, by `step_keeps`. -/
theorem storesStayCanonical : Obligations.StoresStayCanonical := by
  unfold Obligations.StoresStayCanonical
  exact fun _ _ hs ht => (step_keeps _ ht).2 hs

end Sys2Proof.Machine
end

section
/-! SUPPORT. A counterexample to the statement of PRESENT_FRAME: a frame that is checked over a region with a number that no
region has, whose result register lies outside the areas that the statement lets change. -/

namespace Sys2Proof.Machine

/-- A frame of mode 0 without layers, judged and composed, whose one checked region has the number 0x2000. -/
def frameOddCheck : TileFrame :=
  { newFrame 9 (zeros 32) with
    present := gridAt 0 1, judged := true, composed := true, checks := [(0x2000, 5, some 5, false, false)] }

/-- A tile just after reset at the present time of that frame. -/
def tileOddCheck : State :=
  { State.reset with dev := { State.reset.dev with tile.frames := [frameOddCheck], time.clk.ns := gridAt 0 1 } }

/-- The word in which CMP_GR_STAT of region 0x2000 would stand, in block 7. -/
def oddCheckWord : Nat := 0x070044

/-- Bit 16, the lowest bit of LAST, of that word in the state that an outcome leaves. -/
def oddCheckBit : Host.Outcome State Fault Refusal → Option Bool
  | .next t => some ((t.dev.rd oddCheckWord).getLsbD 16)
  | _ => none

theorem cmpGrStat_oddCheck : CMP_GR_STAT 0x2000 = oddCheckWord := by decide

/-- The check value 5 is shown in LAST of the region's register. -/
theorem oddCheckBit_presentFrame : oddCheckBit (exec .presentFrame tileOddCheck) = some true := by decide +kernel

/-- Refutes O29: its first clause has no premise that the regions in `f.checks` have numbers below 4, and PRESENT_FRAME of
`frameOddCheck` shows the check value of region 0x2000 in block 7, which the clause says stays. Such a frame is in no
reachable state. -/
theorem not_presentOrHold : ¬ Obligations.PresentOrHold := by
  unfold Obligations.PresentOrHold
  rintro ⟨hpresented, -⟩
  obtain ⟨t, ht, ⟨-, -, -, hbits⟩, -⟩ := hpresented tileOddCheck frameOddCheck []
    (by decide +kernel) rfl rfl (by decide +kernel) rfl rfl rfl (by decide +kernel)
  have hbit := hbits oddCheckWord 16 (by simp [oddCheckWord, Area.has, REC_LOST_CNT_COUNT, REC_LOST_CNT])
  have hafter := oddCheckBit_presentFrame
  rw [ht, oddCheckBit, hbit] at hafter
  exact absurd hafter (by decide +kernel)

end Sys2Proof.Machine
end

section
/-! SUPPORT. A counterexample to the statement of the frames at a tile: a port number at which the count of orphaned blocks
would be the count of late ones. -/

namespace Sys2Proof.Machine

/-- The number of a port that no device has, at which the register XPT_ORPHAN would stand at the address of FAB_LATE_CNT. -/
def aliasedPort : Nat := 0x3BFC

theorem orphanCount_aliasedPort : XPT_ORPHAN_COUNT aliasedPort = FAB_LATE_CNT_COUNT := by decide

/-- A BLOCK of frame 4, as received at that port. -/
def blockAtAliasedPort : RxPkt := ⟨aliasedPort, mkPkt PT_BLOCK false false 4 4096 0 false 0 (zeros 24), 0⟩

/-- A tile just after reset that has an address and an accepted source, is done with frame 4 and has received the BLOCK. -/
def tileAliasedBlock : State :=
  { State.reset with dev := { State.reset.dev.set XPT_ADDR_VALID 1 with
    tile.accepted := some false, tile.done := [4], rxq := [blockAtAliasedPort] } }

/-- Frame 4 is one that the tile has had, so that its BLOCK is late and not an orphan. -/
theorem late_blockAtAliasedPort :
    ((tileAliasedBlock.dev.frameOf (pktFrame blockAtAliasedPort.bytes)).isSome
      || tileAliasedBlock.dev.tile.done.contains (pktFrame blockAtAliasedPort.bytes)) = true := by decide +kernel

theorem lateCount_tileAliasedBlock : tileAliasedBlock.dev.get FAB_LATE_CNT_COUNT = 0 := by decide +kernel

/-- Refutes O45: its third clause has no premise that the packet's port is one of the device's. For a BLOCK received at port
0x3BFC the two counters of the clause are one (`orphanCount_aliasedPort`), and the clause asks that the late block is counted
there and that it is not. Such a packet is in no reachable state. -/
theorem not_framesAtTheTile : ¬ Obligations.FramesAtTheTile := by
  unfold Obligations.FramesAtTheTile
  rintro ⟨-, -, hcounted, -⟩
  obtain ⟨t, -, -, -, hlate, horphan⟩ := hcounted tileAliasedBlock blockAtAliasedPort []
    (by decide +kernel) rfl (by decide +kernel) (by decide +kernel) (by decide +kernel) rfl (by decide +kernel)
  have hone : XPT_ORPHAN_COUNT blockAtAliasedPort.port = FAB_LATE_CNT_COUNT := orphanCount_aliasedPort
  rw [late_blockAtAliasedPort, lateCount_tileAliasedBlock] at hlate
  rw [late_blockAtAliasedPort, hone, lateCount_tileAliasedBlock, hlate] at horphan
  exact absurd horphan (by decide)

end Sys2Proof.Machine
end

section
/-! SUPPORT. A counterexample to the statement of the parity errors: a warm reset whose own events fill the recorder's queue
before FAB_PARITY reaches it. -/

namespace Sys2Proof.Machine

/-- A lane block of 31 entries, each of which names the register at address 0, outside the block's scope (R361). -/
def strayLaneBlock : SetBlock := { id := 0, version := 0, crc := crc32c (zeros 248), body := zeros 248 }

/-- The settings slot with that block alone, committed (R340, R360). -/
def straySettings : NvmSlot :=
  let bytes := settingsRecord [strayLaneBlock]
  { bytes := bytes, written := 0, commit := recordBytes NK_SETTINGS 0 1 bytes.length (sha256 bytes), prior := [] }

/-- A tile just after reset that holds those settings. -/
def tileStraySettings : State :=
  { State.reset with dev := { State.reset.dev with nvm.settings := [straySettings, NvmSlot.empty] } }

/-- What SRAM_PARITY_ERROR does for Nutcracker's memory where no byte of it is known to be wrong (R45). -/
def nutcrackerParity (offset : Nat) (st : Straps) (d : Dev) : Dev :=
  ((d.add FAB_PERR_CNT_COUNT 1).warmReset st RC_PARITY).event st EV_FAB_PARITY 6 0 offset

/-- The device that an effect leaves. -/
theorem dev_of_run {f : Straps → Dev → Dev} {s t : State} (h : run f s = .next t) : t.dev = (f s.straps s.dev).finish := by
  obtain rfl := Host.Outcome.next.inj h
  rfl

theorem exec_parity_tileStraySettings :
    exec (.sramParityError 6 0 0) tileStraySettings = run (nutcrackerParity 0) tileStraySettings := rfl

/-- ALERT_N follows an effect or stays as it is. -/
theorem withAlert_cases (f : Dev → Dev) (d : Dev) :
    d.withAlert f = f d ∨ d.withAlert f = (f d).emit (.alertN (f d).alertLow) := by
  unfold Dev.withAlert
  dsimp only
  split
  · exact .inl rfl
  · exact .inr rfl

set_option maxRecDepth 20000 in
/-- GEN_RESET and one SET_DEFAULTED for each entry come before FAB_PARITY by their CODE, and fill the queue of 32 (R370). -/
theorem parity_lost : (nutcrackerParity 0 tileStraySettings.straps tileStraySettings.dev).finish.rcd.queue.map EventRec.code =
    EV_GEN_RESET.code :: List.replicate 31 EV_SET_DEFAULTED.code := by
  unfold nutcrackerParity Dev.warmReset
  obtain h | h := withAlert_cases (fun d => (d.enterWarm tileStraySettings.straps RC_PARITY false).bootUp
    tileStraySettings.straps RC_PARITY false) (tileStraySettings.dev.add FAB_PERR_CNT_COUNT 1)
  · rw [h]; decide +kernel
  · rw [h]; decide +kernel

theorem queue_after_parity {t : State} (h : exec (.sramParityError 6 0 0) tileStraySettings = .next t) :
    t.dev.rcd.queue.map EventRec.code = EV_GEN_RESET.code :: List.replicate 31 EV_SET_DEFAULTED.code := by
  rw [exec_parity_tileStraySettings] at h
  rw [dev_of_run h, parity_lost]

/-- Refutes O25: its fourth clause says that FAB_PARITY is recorded after the warm reset, and in `tileStraySettings` it is lost,
because the 32 events of the reset itself have taken every place of the recorder's queue. -/
theorem not_parityErrors : ¬ Obligations.ParityErrors := by
  unfold Obligations.ParityErrors
  rintro ⟨-, -, -, hreset, -⟩
  obtain ⟨t, ht, -, -, -, -, -, -, -, -, e, he, hwhat⟩ := hreset tileStraySettings 0 (by decide +kernel)
  have hcode : e.code ∈ t.dev.rcd.queue.map EventRec.code := List.mem_map_of_mem he
  rw [queue_after_parity ht, show e.code = EV_FAB_PARITY.code from congrArg Prod.fst hwhat] at hcode
  simp [EV_FAB_PARITY, EV_GEN_RESET, EV_SET_DEFAULTED] at hcode

end Sys2Proof.Machine
end

section
/-! SUPPORT. A counterexample to the statement of the row slots: a lamp's byte whose offset is wider than the parameter of the
event that names it. -/

namespace Sys2Proof.Machine

/-- The byte of lamp 0 in the front half, wrong at an offset of 33 bits, as none of an output frame store has. -/
def byteTooFar : BadByte := { mem := 3, unit := 0, offset := 2 ^ 32, item := .lamp 0 true }

/-- A tile that drives the first light refresh of frame 0, two refreshes of one row each, with that byte and no live tests. -/
def tileByteTooFar : State :=
  { State.reset with dev := { State.reset.dev with
      parity.bad := [byteTooFar]
      tile.eff := [(DIAG_CTRL, 0)]
      tile.drive := { State.reset.dev.tile.drive with mode := some 0, m := 2, s := 1, j := 1, driving := true } } }

/-- Nothing is sampled in the row slot, and no FIFO is empty. -/
def noSamples : SlotSamples := { columns := [], vled := [], ntc := [], starved := [] }

theorem exec_rowSlot_tileByteTooFar : exec (.rowSlotStart noSamples) tileByteTooFar =
    run (fun st d => d.rowSlot st noSamples) tileByteTooFar :=
  show execRowSlotStart noSamples tileByteTooFar = _ from runIf_pos (by decide +kernel)

/-- FAB_PARITY carries the low 32 bits of the offset in P2 (R366). -/
theorem logged_rowSlot_tileByteTooFar :
    (tileByteTooFar.dev.rowSlot tileByteTooFar.straps noSamples).finish.rcd.queue.map EventRec.what =
      [(EV_FAB_PARITY.code, 3, 0, 0)] := by
  decide +kernel

/-- Refutes O30: its fifth clause has no premise that the wrong byte's offset is below 2^32, and in `tileByteTooFar` it asks for a
FAB_PARITY with 2^32 in P2, which the event holds as 0. Such a byte is in no reachable state. -/
theorem not_refreshesAndRowSlots : ¬ Obligations.RefreshesAndRowSlots := by
  unfold Obligations.RefreshesAndRowSlots
  rintro ⟨-, -, -, -, hwrong, -⟩
  obtain ⟨t, ht, -, -, hlogs, -⟩ := hwrong tileByteTooFar noSamples 0 0 (2 ^ 32) 0 (by decide +kernel) rfl
    (by decide +kernel) (by decide +kernel) (by decide +kernel) (by decide +kernel) rfl (by decide +kernel) rfl rfl
    (by decide +kernel) (fun _ ha => nomatch ha) rfl rfl rfl
  obtain ⟨hqueue, -⟩ := hlogs (by decide +kernel)
  rw [exec_rowSlot_tileByteTooFar] at ht
  rw [dev_of_run ht, logged_rowSlot_tileByteTooFar] at hqueue
  exact absurd hqueue (by decide +kernel)

end Sys2Proof.Machine
end

section
/-! SUPPORT. Rules for a sender's flips: what a frame keeps of a register and of the tile's part, the frames of the host's part, an
effect that ends with one event, the work of the engines and the log of an error found in it (R45). -/

namespace Sys2Proof.Machine

section
variable {d : Dev} {st : Straps} {s : State}

/-! What a frame says of one register. -/

theorem Dev.Only.rd_eq {ps : List Part} {as : List Area} {e : Dev} {a : Nat} (ho : d.Only ps as e)
    (ha : ∀ x ∈ as, ∀ k, ¬ x.has a k) : e.rd a = d.rd a :=
  BitVec.eq_of_getLsbD_eq fun k _ => ho.2 a k fun x hx => ha x hx k

theorem Dev.Only.get_eq {ps : List Part} {as : List Area} {e : Dev} (ho : d.Only ps as e) (f : Fld)
    (ha : ∀ x ∈ as, ∀ k, ¬ x.has f.addr k) : e.get f = d.get f := by
  rw [Dev.get, ho.rd_eq ha, Dev.get]

/-! Frames of the host's part and the twin's. -/

theorem Dev.only_host (as : List Area) (x : HostSt) (d : Dev) : d.Only [.host] as { d with host := x } :=
  .parts rfl fun p hp => by cases p <;> simp_all [Part.same]

theorem Dev.only_host_twin (as : List Area) (x : HostSt) (y : TwinSt) (d : Dev) :
    d.Only [.host, .twin] as { d with host := x, twin := y } :=
  .parts rfl fun p hp => by cases p <;> simp_all [Part.same]

theorem tile_of_only {ps : List Part} {as : List Area} {e : Dev} (ho : d.Only ps as e) (ht : Part.tile ∉ ps)
    (hs : Part.frameStore ∉ ps) : e.tile = d.tile := by
  obtain ⟨hfront, hback⟩ := ho.1 .frameStore hs
  have htile := ho.1 .tile ht
  simp only [Part.same] at htile
  rw [← hfront, ← hback] at htile
  exact htile

/-! Effects and what they leave. -/

theorem run_congr {f g : Straps → Dev → Dev} {s : State} (h : f s.straps s.dev = g s.straps s.dev) : run f s = run g s := by
  simp only [run, h]

/-- An effect that ends with one event: it enters the queue where there is room, and all else is as the effect left it. -/
theorem run_records {ps : List Part} {as : List Area} {e : Dev} (c : EvCode) (p0 p1 p2 : Nat) (hset : Settled s)
    (ho : s.dev.Only ps as e) (hq : Part.queue ∉ ps) :
    AnswersWith (run (fun st _ => e.event st c p0 p1 p2) s) fun t => OnlyLogging ps as s t ∧
      Logs [(c.code, p0 % 2 ^ 32, p1 % 2 ^ 32, p2 % 2 ^ 32)] s t ∧ e.Only [.queue] [.field REC_LOST_CNT_COUNT] t.dev := by
  have hframe : s.dev.Only (.queue :: ps) (.field REC_LOST_CNT_COUNT :: as) (e.event s.straps c p0 p1 p2) :=
    (ho.mono (fun _ => List.mem_cons_of_mem _) fun _ => List.mem_cons_of_mem _).event _ _ _ _ _ (by simp)
  refine ⟨_, rfl, run_frame (f := fun st _ => e.event st c p0 p1 p2) hframe, fun hroom => ?_,
    ((Dev.Only.refl _ _ e).event _ _ _ _ _ (by simp)).finish (by simp) (.inl (by simp))⟩
  obtain ⟨hqueue, -, hlost, -⟩ := ho.1 .queue hq
  have hfresh : (e.event s.straps c p0 p1 p2).rcd.fresh = [e.record s.straps c 0 p0 p1 p2] := by
    simp [Dev.event, Dev.eventF, Dev.note, fresh_of_only hset ho hq]
  have hwait : (e.event s.straps c p0 p1 p2).rcd.queue = s.dev.rcd.queue := hqueue
  rw [finish_room _ (by rw [hfresh, hwait]; exact hroom), hfresh, hwait]
  exact ⟨by simp [sortByCode, insertByCode, EventRec.what, Dev.record], hlost⟩

/-- A counter of 16 bits that stops at its largest value. -/
theorem get_addSat16 (d : Dev) (f : Fld) (hw : f.width = 16) (hf : f.lo + 16 ≤ 32) :
    (d.addSat f 1).get f = min 65535 (d.get f + 1) := by
  have hget : d.get f < 2 ^ 16 := hw ▸ Nat.mod_lt _ (Nat.two_pow_pos _)
  rw [Dev.addSat, Dev.get_set_same _ _ _ (by omega), hw, satCount]
  split <;> omega

/-! The engines' work (R45, log entry 19). -/

/-- The device with these things sent. -/
def Dev.sends (l : List Out) (d : Dev) : Dev := { d with out := d.out ++ l }

/-- An injection that is armed for the unit is taken; otherwise nothing happens. -/
theorem memInject_cases (mem unit : Nat) (item : SramItem) (d : Dev) :
    d.memInject mem unit item = d ∨ d.memInject mem unit item = { d with
      free := d.free + 1
      parity.armed := none
      parity.bad := ⟨mem, unit, Config.freeValue d.free % unitBytes mem, item⟩ :: d.parity.bad } := by
  unfold Dev.memInject
  split
  · exact .inr rfl
  · exact .inl rfl

theorem memWrite_eq (mem unit : Nat) (item : SramItem) (d : Dev) : d.memWrite mem unit item =
    { d with parity := (d.memWrite mem unit item).parity, free := (d.memWrite mem unit item).free } := by
  unfold Dev.memWrite
  obtain h | h := memInject_cases mem unit item (d.memRewrite fun b => b.mem == mem && b.unit == unit && b.item == item) <;>
    rw [h] <;> rfl

theorem memInject_sends (mem unit : Nat) (item : SramItem) (l : List Out) (d : Dev) :
    (d.sends l).memInject mem unit item = (d.memInject mem unit item).sends l := by
  have harmed : (d.sends l).parity.armed = d.parity.armed := rfl
  unfold Dev.memInject
  rw [harmed]
  split <;> rfl

theorem memWrite_sends (mem unit : Nat) (item : SramItem) (l : List Out) (d : Dev) :
    (d.sends l).memWrite mem unit item = (d.memWrite mem unit item).sends l :=
  memInject_sends mem unit item l (d.memRewrite fun b => b.mem == mem && b.unit == unit && b.item == item)

/-- A write finds nothing to make good where no byte of such an item is wrong, and inverts none where no injection is armed. -/
theorem memWrite_same {mem unit : Nat} {item : SramItem} (ha : d.parity.armed = none)
    (hb : ∀ b ∈ d.parity.bad, b.item ≠ item) : d.memWrite mem unit item = d := by
  have hbad : (d.parity.bad.filter fun b => !(b.mem == mem && b.unit == unit && b.item == item)) = d.parity.bad :=
    List.filter_eq_self.mpr fun b hm => by simp [hb b hm]
  have hsame : d.memRewrite (fun b => b.mem == mem && b.unit == unit && b.item == item) = d := by
    rw [Dev.memRewrite, hbad]
  simp [Dev.memWrite, hsame, Dev.memInject, ha]

theorem memWriteAll_eq (mem n : Nat) (item : SramItem) (d : Dev) : d.memWriteAll mem n item =
    { d with parity := (d.memWriteAll mem n item).parity, free := (d.memWriteAll mem n item).free } := by
  unfold Dev.memWriteAll Dev.each
  generalize List.range n = l
  induction l generalizing d with
  | nil => rfl
  | cons u l ih =>
    rw [List.foldl_cons]
    generalize he : l.foldl (fun d u => d.memWrite mem u item) (d.memWrite mem u item) = e
    have h := ih (d.memWrite mem u item)
    rw [he, memWrite_eq mem u item d] at h
    exact h

theorem memWriteAll_sends (mem n : Nat) (item : SramItem) (o : List Out) (d : Dev) :
    (d.sends o).memWriteAll mem n item = (d.memWriteAll mem n item).sends o := by
  unfold Dev.memWriteAll Dev.each
  generalize List.range n = l
  induction l generalizing d with
  | nil => rfl
  | cons u l ih => rw [List.foldl_cons, List.foldl_cons, memWrite_sends, ih]

theorem memWriteAll_same {mem : Nat} {item : SramItem} (n : Nat) (ha : d.parity.armed = none)
    (hb : ∀ b ∈ d.parity.bad, b.item ≠ item) : d.memWriteAll mem n item = d := by
  unfold Dev.memWriteAll Dev.each
  generalize List.range n = l
  induction l with
  | nil => rfl
  | cons u l ih => rw [List.foldl_cons, memWrite_same ha hb, ih]

/-- The work of the engines changes their memory, and shows in FAB_RATE. -/
theorem enginesWork_parts (d : Dev) :
    ∃ p n, d.enginesWork = { d with tile.worked := true, parity := p, free := n } :=
  ⟨_, _, memWriteAll_eq 0 engineCount .other { d with tile.worked := true }⟩

theorem enginesWork_sends (l : List Out) (d : Dev) : (d.sends l).enginesWork = d.enginesWork.sends l :=
  memWriteAll_sends 0 engineCount .other l { d with tile.worked := true }

theorem enginesWork_quiet (ha : d.parity.armed = none) (hb : ∀ b ∈ d.parity.bad, b.item ≠ .other) :
    d.enginesWork = { d with tile.worked := true } :=
  memWriteAll_same (mem := 0) (item := .other) (d := { d with tile.worked := true }) engineCount ha hb

/-! An error that the engines find in their own memory (R45). -/

/-- An error is counted, and its byte is not read wrong again. -/
def Dev.countParity (mem unit offset : Nat) (d : Dev) : Dev :=
  (d.memRewrite fun b => b.mem == mem && b.unit == unit && b.offset == offset).add FAB_PERR_CNT_COUNT 1

/-- An error is counted, and kept in the log where it is the first. -/
def Dev.keepParity (mem unit offset : Nat) (d : Dev) : Dev :=
  if d.getb FAB_PERR_LOG_VALID then d.countParity mem unit offset
  else (d.countParity mem unit offset).setAll [(FAB_PERR_LOG_MEM, mem), (FAB_PERR_LOG_UNIT, unit), (FAB_PERR_LOG_VALID, 1),
    (FAB_PERR_ADDR_OFFSET, offset)]

theorem logParity_eq (mem unit offset : Nat) (d : Dev) :
    d.logParity st mem unit offset = (d.keepParity mem unit offset).event st EV_FAB_PARITY mem unit offset := rfl

theorem countParity_only (mem unit offset : Nat) (d : Dev) :
    d.Only [.parity] [.word FAB_PERR_CNT] (d.countParity mem unit offset) :=
  Dev.Only.add _ _ (.inr (.inl (by simp [FAB_PERR_CNT_COUNT])))
    (.parts rfl fun p hp => by cases p <;> simp_all [Part.same, Dev.memRewrite])

theorem countParity_count (mem unit offset : Nat) (d : Dev) :
    (d.countParity mem unit offset).get FAB_PERR_CNT_COUNT = (d.get FAB_PERR_CNT_COUNT + 1) % 2 ^ 32 :=
  Dev.get_set_same _ _ _ (by decide)

theorem keepParity_only (mem unit offset : Nat) (d : Dev) : d.Only [.parity]
    [.word FAB_PERR_CNT, .word FAB_PERR_LOG, .word FAB_PERR_ADDR] (d.keepParity mem unit offset) := by
  have hcount := (countParity_only mem unit offset d).mono (qs := [.parity])
    (bs := [.word FAB_PERR_CNT, .word FAB_PERR_LOG, .word FAB_PERR_ADDR]) (by simp) (by simp)
  exact Dev.Only.ite hcount (hcount.setAll _ (by
    simp [FAB_PERR_LOG_MEM, FAB_PERR_LOG_UNIT, FAB_PERR_LOG_VALID, FAB_PERR_ADDR_OFFSET]))

theorem keepParity_parity (mem unit offset : Nat) (d : Dev) : (d.keepParity mem unit offset).parity =
    { d.parity with bad := d.parity.bad.filter fun b => !(b.mem == mem && b.unit == unit && b.offset == offset) } := by
  unfold Dev.keepParity
  split
  · rfl
  · rw [Dev.setAll_parity]
    rfl

theorem keepParity_count (mem unit offset : Nat) (d : Dev) :
    (d.keepParity mem unit offset).get FAB_PERR_CNT_COUNT = (d.get FAB_PERR_CNT_COUNT + 1) % 2 ^ 32 := by
  unfold Dev.keepParity
  split
  · exact countParity_count ..
  · exact (get_setAll_apart _ (by simp [Fld.apart, FAB_PERR_CNT_COUNT, FAB_PERR_LOG_MEM, FAB_PERR_LOG_UNIT, FAB_PERR_LOG_VALID,
      FAB_PERR_ADDR_OFFSET, FAB_PERR_CNT, FAB_PERR_LOG, FAB_PERR_ADDR])).trans (countParity_count ..)

/-- The first error is the one that the log keeps. -/
theorem keepParity_first (mem unit offset : Nat) (hnew : d.getb FAB_PERR_LOG_VALID = false) :
    let e := d.keepParity mem unit offset
    e.get FAB_PERR_LOG_VALID = 1 ∧ e.get FAB_PERR_LOG_MEM = mem % 2 ^ 4 ∧ e.get FAB_PERR_LOG_UNIT = unit % 2 ^ 8 ∧
    e.get FAB_PERR_ADDR_OFFSET = offset % 2 ^ 32 := by
  simp only [Dev.keepParity, hnew, Bool.false_eq_true, if_false]
  refine ⟨get_setAll [(FAB_PERR_LOG_MEM, mem), (FAB_PERR_LOG_UNIT, unit)] [_] (by decide) ?_,
    get_setAll [] [_, _, _] (by decide) ?_, get_setAll [_] [_, _] (by decide) ?_,
    get_setAll [_, _, _] [] (by decide) (by simp)⟩ <;>
    simp [Fld.apart, FAB_PERR_LOG_MEM, FAB_PERR_LOG_UNIT, FAB_PERR_LOG_VALID, FAB_PERR_ADDR_OFFSET, FAB_PERR_LOG, FAB_PERR_ADDR]

/-- A later error leaves the log alone. -/
theorem keepParity_later (mem unit offset : Nat) (hold : d.getb FAB_PERR_LOG_VALID = true) :
    (d.keepParity mem unit offset).rd FAB_PERR_LOG = d.rd FAB_PERR_LOG ∧
    (d.keepParity mem unit offset).rd FAB_PERR_ADDR = d.rd FAB_PERR_ADDR := by
  rw [Dev.keepParity, if_pos hold]
  exact ⟨(countParity_only ..).rd_eq (by simp [Area.has, FAB_PERR_CNT, FAB_PERR_LOG]),
    (countParity_only ..).rd_eq (by simp [Area.has, FAB_PERR_CNT, FAB_PERR_ADDR])⟩

/-- Without launched flips the engine of a found byte is reloaded, and nothing is cut. -/
theorem engineErrors_one (b : BadByte) (hfl : d.host.flying = []) : d.engineErrors st [b] =
    ((d.keepParity b.mem b.unit b.offset).reloadEngine b.unit).event st EV_FAB_PARITY b.mem b.unit b.offset := by
  have hnone : (d.keepParity b.mem b.unit b.offset).host.flying = [] :=
    (congrArg HostSt.flying ((keepParity_only ..).1 .host (by simp))).trans hfl
  change (d.logParity st b.mem b.unit b.offset).engineCut st b.unit = _
  rw [logParity_eq]
  generalize d.keepParity b.mem b.unit b.offset = e at hnone
  have hflying : ((e.event st EV_FAB_PARITY b.mem b.unit b.offset).reloadEngine b.unit).host.flying = [] := hnone
  simp only [Dev.engineCut, hflying, List.filter_nil, Dev.each, List.foldl_nil]
  rfl

end

end Sys2Proof.Machine
end

section
/-! SUPPORT. What FLIP_PARSE does with a flip without layers (R55, R102): the reads, the work of the engines, the checks and what
acceptance, rejection and an engine's error leave. -/

namespace Sys2Proof.Machine

section
variable {d : Dev} {st : Straps} {h slot : List Byte} {table : Option (List Byte)} {i : Nat} {s : State}

/-! The effect. -/

/-- The reads of a flip without layers (R55, R102). -/
def Dev.flipReads (h : List Byte) (d : Dev) : List Out :=
  .hostRead (d.slotAddr 0 (d.ringIdx 0) 64) 64 ::
    if fGuardAddr h = 0 || (d.earlyFault h []).isSome then [] else [.hostRead (fGuardAddr h) (fGuardLen h)]

/-- Its slot has been read and consumed, and the engines have worked. -/
def Dev.parsed (h : List Byte) (d : Dev) : Dev :=
  (d.enginesWork.sends (d.flipReads h)).set (RING_IDX_INDEX 0) (d.ringIdx 0 + 1)

theorem readFlip_bare (h : List Byte) (d : Dev) : d.readFlip (d.ringIdx 0) 1 h [] = d.sends (d.flipReads h) := by
  simp only [Dev.readFlip, Dev.flipReads, Dev.each, List.range_one, List.foldl_cons, List.foldl_nil, Dev.readSlot, Nat.add_zero]
  split
  · rfl
  · simp [Dev.sends, Dev.emit]

theorem slice_self (hlen : slot.length = 64) : slice slot 0 64 = slot := by
  rw [slice_eq_take_drop (by omega), List.drop_zero, List.take_of_length_le (by omega)]

/-- A flip is parsed: its ring is enabled and holds it whole, and the device has room for it (R55, R74). -/
def Parses (slot : List Byte) (s : State) : Prop :=
  senderOn s ∧ s.dev.getb (RING_CFG_EN 0) = true ∧ 1 ≤ s.dev.ringEntries 0 ∧ s.dev.inFlight < 1024 ∧
  s.dev.enginesReady = true ∧ slot.length = 64 ∧ fLayers slot = 0

theorem Parses.settled (hp : Parses slot s) : Settled s := hp.1.2.2

theorem sends_engineFinds (l : List Out) (d : Dev) : (d.sends l).engineFinds = d.engineFinds := rfl

theorem exec_flipParse (hp : Parses slot s) : exec (.flipParse [slot] table) s = run (fun st d =>
    if d.enginesWork.engineFinds = [] then (d.parsed slot).judgeFlip st (d.ringIdx 0) slot [] table
    else (d.enginesWork.sends (d.flipReads slot)).engineErrors st d.enginesWork.engineFinds) s := by
  obtain ⟨hon, hring, hn, hfl, hready, hlen, hl⟩ := hp
  have hone : flipSlots slot = 1 := by simp [flipSlots, hl]
  change execFlipParse [slot] table s = _
  simp only [execFlipParse, List.headD_cons, slice_self hlen, hone]
  rw [runIf_pos (by simp [isSender_of_on hon, awake_of_on hon.2, Dev.ringEn, hring, hn, hfl, hready])]
  refine run_congr ?_
  simp only [List.take_succ_cons, List.take_zero, List.drop_succ_cons, List.drop_zero, List.map_nil, readFlip_bare,
    enginesWork_sends, sends_engineFinds, Dev.parsed]
  cases hfinds : s.dev.enginesWork.engineFinds with
  | nil => simp only [if_true]
  | cons b l => simp only [List.cons_ne_nil, if_false]

/-! What the parsing leaves for the checks. -/

theorem parsed_parts (h : List Byte) (d : Dev) :
    ∃ p n, (d.parity.armed = none ∧ d.parity.bad = [] → p = d.parity ∧ n = d.free) ∧ d.parsed h =
      { d with out := d.out ++ d.flipReads h, tile.worked := true, parity := p, free := n }.set (RING_IDX_INDEX 0)
        (d.ringIdx 0 + 1) := by
  obtain ⟨p, n, hw⟩ := enginesWork_parts d
  refine ⟨p, n, fun ⟨ha, hb⟩ => ?_, by rw [Dev.parsed, hw, Dev.sends]⟩
  rw [enginesWork_quiet ha (by simp [hb])] at hw
  exact ⟨(congrArg Dev.parity hw).symm, (congrArg Dev.free hw).symm⟩

@[simp] theorem parsed_host : (d.parsed h).host = d.host := by
  obtain ⟨p, n, -, he⟩ := parsed_parts h d; rw [he]; rfl
@[simp] theorem parsed_twin : (d.parsed h).twin = d.twin := by
  obtain ⟨p, n, -, he⟩ := parsed_parts h d; rw [he]; rfl
@[simp] theorem parsed_time : (d.parsed h).time = d.time := by
  obtain ⟨p, n, -, he⟩ := parsed_parts h d; rw [he]; rfl
@[simp] theorem parsed_tile : (d.parsed h).tile = { d.tile with worked := true } := by
  obtain ⟨p, n, -, he⟩ := parsed_parts h d; rw [he]; rfl
@[simp] theorem parsed_out : (d.parsed h).out = d.out ++ d.flipReads h := by
  obtain ⟨p, n, -, he⟩ := parsed_parts h d; rw [he]; rfl

theorem parsed_parity (hq : d.parity.armed = none ∧ d.parity.bad = []) :
    (d.parsed h).parity = d.parity ∧ (d.parsed h).free = d.free := by
  obtain ⟨p, n, hsame, he⟩ := parsed_parts h d
  obtain ⟨rfl, rfl⟩ := hsame hq
  rw [he]
  exact ⟨rfl, rfl⟩

theorem parsed_rd {a : Nat} (ha : a ≠ RING_IDX 0) : (d.parsed h).rd a = d.rd a := by
  obtain ⟨p, n, -, he⟩ := parsed_parts h d
  rw [he, Dev.rd_set_ne _ _ _ ha]
  rfl

theorem parsed_get {f : Fld} (hf : f.addr ≠ RING_IDX 0) : (d.parsed h).get f = d.get f := by
  rw [Dev.get, parsed_rd hf, Dev.get]

theorem parsed_index : (d.parsed h).get (RING_IDX_INDEX 0) = (d.get (RING_IDX_INDEX 0) + 1) % 2 ^ 32 :=
  Dev.get_set_same _ _ _ (by decide)

theorem parsed_only : d.Only [.out, .parity, .free, .tile] [.word (RING_IDX 0)] (d.parsed h) := by
  obtain ⟨p, n, -, he⟩ := parsed_parts h d
  rw [he]
  exact Dev.Only.set _ _ (.inr (.inl (by simp [RING_IDX_INDEX])))
    (.parts rfl fun p hp => by cases p <;> simp_all [Part.same])

@[simp] theorem parsed_now : (d.parsed h).now = d.now := by simp [Dev.now]

@[simp] theorem parsed_launchLead (mode : Nat) : (d.parsed h).launchLead mode = d.launchLead mode := by
  rw [Dev.launchLead, parsed_get (by decide), Dev.launchLead]

@[simp] theorem parsed_prevFlip : (d.parsed h).prevFlip = d.prevFlip := by simp [Dev.prevFlip]

@[simp] theorem parsed_mode : (d.parsed h).get RING_FLIP_MODE_CUR = d.get RING_FLIP_MODE_CUR := parsed_get (by decide)

/-! The checks (R102). -/

/-- The present time that a header without NEXT names (R100). -/
def namedTime (h : List Byte) : Nat := gridFrom (fMode h) (fPresentS h * 1000000000 + fPresentNs h)

theorem presentFor_named (hn : fNext h = false) : d.presentFor h = namedTime h := by
  simp [Dev.presentFor, hn, namedTime, giga]

/-- Checks 1 to 4 of a flip without layers. -/
theorem slotFault_bare (h : List Byte) : slotFault h [] =
    if dCrcOk h = false then some ⟨ST_FLIP_REJECT_CRC, none, none⟩
    else if headerFaulty h = true then some ⟨ST_FLIP_REJECT_DESC, none, none⟩
    else if modeAllowed (fMode h) = false then some ⟨ST_FLIP_REJECT_MODE, none, none⟩ else none := by
  by_cases hc : dCrcOk h = false
  · simp [slotFault, firstFault, faultIf, hc]
  by_cases hh : headerFaulty h = true
  · simp [slotFault, firstFault, faultIf, hc, hh]
  by_cases hm : modeAllowed (fMode h) = false
  · simp [slotFault, firstFault, faultIf, hc, hh, hm, entriesFault]
  · simp [slotFault, firstFault, faultIf, hc, hh, hm, entriesFault, ratioFault]

theorem deviceFault_none {mode addr : Nat} {f : Footprint} {ls : List Layer} (hm : ls.filter (layerMeets mode f) = []) :
    deviceFault mode addr f ls = none := by
  simp [deviceFault, hm, firstFault]

theorem firstFault_eq_none {l : List (Option FlipFault)} (hl : ∀ o ∈ l, o = none) : firstFault l = none := by
  induction l with
  | nil => rfl
  | cons o l ih =>
    obtain ⟨rfl, hrest⟩ := List.forall_mem_cons.mp hl
    exact ih hrest

/-- After checks 1 to 6 only the table of signatures decides on a flip without layers. -/
theorem flipFault_bare (h : List Byte) (table : Option (List Byte)) (d : Dev) : d.flipFault h [] table =
    (d.earlyFault h []).or (if guardOk h table = false then some ⟨ST_FLIP_REJECT_GUARD, none, none⟩ else none) := by
  unfold Dev.flipFault
  cases d.earlyFault h [] with
  | some f => rfl
  | none =>
    have hdev : firstFault ((d.mapDevices (d.presentFor h)).map fun e => deviceFault (fMode h) e.1 e.2 ([].map layerOfEntry)) =
        none := firstFault_eq_none fun o ho => by
        obtain ⟨e, -, rfl⟩ := List.mem_map.mp ho
        exact deviceFault_none rfl
    by_cases hg : guardOk h table = false
    · simp [firstFault, faultIf, hg]
    · simpa [firstFault, faultIf, hg] using hdev

/-- Check 5 fails for a flip without NEXT. -/
def Dev.untimely (h : List Byte) (d : Dev) : Bool :=
  decide (namedTime h < d.now + d.launchLead (fMode h)) || decide (d.now + 1000000000 < namedTime h) ||
    (d.changesMode (fMode h) && decide (namedTime h < d.now + d.modeGap (d.prevFlip.map Prod.snd) (fMode h)))

theorem timeFault_eq (hn : fNext h = false) : d.timeFault h = firstFault [faultIf (d.untimely h) ST_FLIP_REJECT_TIME,
    faultIf (d.prevFlip.any fun q => decide (namedTime h ≤ q.1)) ST_FLIP_REJECT_ORDER] := by
  unfold Dev.timeFault Dev.untimely
  rw [presentFor_named hn, hn, giga]
  cases d.prevFlip with
  | none => rfl
  | some q => rfl

/-- Checks 5 and 6 of a flip without NEXT. -/
theorem timeFault_named (hn : fNext h = false) : d.timeFault h =
    if d.untimely h = true then some ⟨ST_FLIP_REJECT_TIME, none, none⟩
    else if (d.prevFlip.any fun q => decide (namedTime h ≤ q.1)) = true then some ⟨ST_FLIP_REJECT_ORDER, none, none⟩
    else none := by
  rw [timeFault_eq hn]
  cases d.untimely h with
  | true => rfl
  | false =>
    cases d.prevFlip.any fun q => decide (namedTime h ≤ q.1) with
    | true => rfl
    | false => rfl

/-- The status that the checks of R102 give a flip without layers, in the mode in force and behind no other. -/
def Dev.bareStatus (h : List Byte) (table : Option (List Byte)) (d : Dev) : Nat :=
  if dCrcOk h = false then ST_FLIP_REJECT_CRC
  else if headerFaulty h = true then ST_FLIP_REJECT_DESC
  else if modeAllowed (fMode h) = false then ST_FLIP_REJECT_MODE
  else if namedTime h < d.now + d.launchLead (fMode h) ∨ d.now + 1000000000 < namedTime h then ST_FLIP_REJECT_TIME
  else if guardOk h table = false then ST_FLIP_REJECT_GUARD else ST_OK

/-- No flip is queued or was accepted before, and the flip keeps the mode in force. -/
abbrev Dev.alone (h : List Byte) (d : Dev) : Prop :=
  fNext h = false ∧ d.host.queue = [] ∧ d.host.prev = none ∧ d.get RING_FLIP_MODE_CUR = fMode h

theorem alone_faults (ha : d.alone h) :
    d.flipFault h [] table =
      (if d.bareStatus h table = ST_OK then none else some ⟨d.bareStatus h table, none, none⟩) ∧
    ((d.earlyFault h []).isSome = true ↔ ¬(d.bareStatus h table = ST_OK ∨ d.bareStatus h table = ST_FLIP_REJECT_GUARD)) := by
  obtain ⟨hn, hq, hp, hm⟩ := ha
  have hprev : d.prevFlip = none := by simp [Dev.prevFlip, hq, hp]
  have hsame : d.changesMode (fMode h) = false := by simp [Dev.changesMode, hprev, hm]
  rw [flipFault_bare, Dev.earlyFault, slotFault_bare, timeFault_named hn, Dev.untimely, hsame, hprev]
  unfold Dev.bareStatus
  by_cases hc : dCrcOk h = false
  · simp [hc]; decide
  by_cases hh : headerFaulty h = true
  · simp [hc, hh]; decide
  by_cases hma : modeAllowed (fMode h) = false
  · simp [hc, hh, hma]; decide
  by_cases ht : namedTime h < d.now + d.launchLead (fMode h) ∨ d.now + 1000000000 < namedTime h
  · simp [hc, hh, hma, ht]; decide
  by_cases hg : guardOk h table = false
  · simp [hc, hh, hma, ht, hg]; decide
  · simp [hc, hh, hma, ht, hg]

/-! Rejection and acceptance (R102, R105, R113). -/

/-- The completion of a rejected flip (R68, R105). -/
def rejectCpl (i status : Nat) (h : List Byte) : Cpl :=
  { tag := fTag h, status := status, kind := K_FLIP_REJECT, ring := 0, index := i, value := 0 }

/-- A rejection counts, shows its status and completes; nothing else changes. -/
theorem rejectFlip_rule (i : Nat) (h : List Byte) (status : Nat) (hs : status < 65536) (d : Dev) :
    let e := d.rejectFlip i h ⟨status, none, none⟩
    d.Only [.host] [.word RING_FLIP_REJ] e ∧ e.tile = d.tile ∧
    e.host = { d.host with cpls := d.host.cpls ++ [rejectCpl i status h] } ∧
    e.get RING_FLIP_REJ_LAST = status ∧ e.get RING_FLIP_REJ_COUNT = min 65535 (d.get RING_FLIP_REJ_COUNT + 1) := by
  refine ⟨((Dev.Only.refl ..).addSat _ 1 (by simp [RING_FLIP_REJ_COUNT])).set _ _ (by simp [RING_FLIP_REJ_LAST])
    |>.complete _ (by simp), rfl, rfl, (Dev.get_set_same _ _ _ (by decide)).trans (Nat.mod_eq_of_lt hs), ?_⟩
  exact (Dev.get_set_ne _ _ _ _ (.inr (.inr (by decide)))).trans (get_addSat16 _ _ rfl (by decide))

/-- The completion of an accepted flip (R68). -/
def acceptCpl (i p : Nat) (h : List Byte) : Cpl :=
  { tag := fTag h, status := ST_OK, kind := K_FLIP_ACCEPT, ring := 0, index := i, value := p % 1000000000 }

/-- A flip without layers that is accepted behind no other waits alone. -/
theorem acceptFlip_bare (i : Nat) (h : List Byte) (table : Option (List Byte)) (st : Straps) (hq : d.host.queue = []) :
    ∃ f l, (f.index, f.present, f.mode, f.modeChange) = (i, d.presentFor h, fMode h, d.changesMode (fMode h)) ∧
      d.acceptFlip st i h [] table =
        ((if d.changesMode (fMode h) = true then { d with host.queue := [f], twin.accepted := l }.showNext
          else { d with host.queue := [f], twin.accepted := l }).add RING_FLIP_ACC_COUNT 1).complete
            (acceptCpl i (d.presentFor h) h) := by
  cases hc : d.changesMode (fMode h) with
  | false =>
    simp only [Dev.acceptFlip, hc, hq, List.nil_append, Bool.false_eq_true, if_false]
    exact ⟨_, _, rfl, rfl⟩
  | true =>
    simp only [Dev.acceptFlip, hc, hq, if_true, Dev.flushForChange, List.filter_nil, Dev.flushFlips, Dev.each, List.foldl_nil,
      List.nil_append]
    exact ⟨_, _, rfl, rfl⟩

/-- Acceptance in the mode in force. -/
theorem acceptFlip_same (i : Nat) (h : List Byte) (table : Option (List Byte)) (st : Straps) (hq : d.host.queue = [])
    (hc : d.changesMode (fMode h) = false) :
    let e := d.acceptFlip st i h [] table
    d.Only [.host, .twin] [.word RING_FLIP_ACC] e ∧ e.tile = d.tile ∧
    e.host.cpls = d.host.cpls ++ [acceptCpl i (d.presentFor h) h] ∧
    (e.host.queue.map fun f => (f.index, f.present, f.mode, f.modeChange)) = [(i, d.presentFor h, fMode h, false)] ∧
    e.get RING_FLIP_ACC_COUNT = (d.get RING_FLIP_ACC_COUNT + 1) % 2 ^ 32 := by
  obtain ⟨f, l, hf, he⟩ := acceptFlip_bare (d := d) i h table st hq
  rw [hc] at hf
  simp only [he, hc, Bool.false_eq_true, if_false]
  refine ⟨Dev.Only.complete _ (by simp) (Dev.Only.add _ _ (.inr (.inl (by simp [RING_FLIP_ACC_COUNT])))
      (Dev.only_host_twin ..)), rfl, rfl, congrArg (· :: []) hf, Dev.get_set_same _ _ _ (by decide)⟩

/-- Acceptance of the first flip of a mode. -/
theorem acceptFlip_change (i : Nat) (h : List Byte) (table : Option (List Byte)) (st : Straps) (hq : d.host.queue = [])
    (hfl : d.host.flying = []) (hc : d.changesMode (fMode h) = true) (hm : fMode h < 256) :
    let e := d.acceptFlip st i h [] table
    d.Only [.host, .twin] [.word RING_FLIP_ACC, .word RING_FLIP_MODE] e ∧
    (e.host.queue.map fun f => (f.present, f.mode, f.modeChange)) = [(d.presentFor h, fMode h, true)] ∧
    e.get RING_FLIP_MODE_NEXT = fMode h ∧ e.get RING_FLIP_MODE_CUR = d.get RING_FLIP_MODE_CUR := by
  obtain ⟨f, l, hf, he⟩ := acceptFlip_bare (d := d) i h table st hq
  rw [hc] at hf
  obtain ⟨-, hp, hmode, hch⟩ : f.index = i ∧ f.present = d.presentFor h ∧ f.mode = fMode h ∧ f.modeChange = true := by
    simpa using hf
  have hpend : Dev.pendingMode { d with host.queue := [f], twin.accepted := l } = fMode h := by
    simp [Dev.pendingMode, hfl, hch, hmode]
  simp only [he, hc, if_true, Dev.showNext, hpend]
  refine ⟨Dev.Only.complete _ (by simp) (Dev.Only.add _ _ (.inr (.inl (by simp [RING_FLIP_ACC_COUNT])))
      (Dev.Only.set _ _ (.inr (.inl (by simp [RING_FLIP_MODE_NEXT])))
        (Dev.only_host_twin ..))), ?_, ?_, ?_⟩
  · exact congrArg (· :: []) (show (f.present, f.mode, f.modeChange) = _ by rw [hp, hmode, hch])
  · exact (Dev.get_set_ne _ _ _ _ (.inl (by decide))).trans
      ((Dev.get_set_same _ _ _ (by decide)).trans (Nat.mod_eq_of_lt hm))
  · exact (Dev.get_set_ne _ _ _ _ (.inl (by decide))).trans (Dev.get_set_ne _ _ _ _ (.inr (.inr (by decide))))

/-! The outcomes. -/

theorem exec_flipParse_clean (hp : Parses slot s) (hf : s.dev.enginesWork.engineFinds = []) :
    exec (.flipParse [slot] table) s = run (fun st d => (d.parsed slot).judgeFlip st (d.ringIdx 0) slot [] table) s := by
  rw [exec_flipParse hp]
  exact run_congr (if_pos hf)

theorem judgeFlip_reject {f : FlipFault} (hf : d.flipFault h [] table = some f) :
    d.judgeFlip st i h [] table = d.rejectFlip i h f := by
  simp only [Dev.judgeFlip, hf]

theorem judgeFlip_accept (hf : d.flipFault h [] table = none) :
    d.judgeFlip st i h [] table = d.acceptFlip st i h [] table := by
  simp only [Dev.judgeFlip, hf]

/-- What parsing leaves, whatever the checks decide: the slot is consumed, the reads are made, the engines have worked. -/
def AfterParsing (slot : List Byte) (s t : State) : Prop :=
  t.dev.tile = { s.dev.tile with worked := true } ∧ t.dev.out = s.dev.out ++ s.dev.flipReads slot ∧
  (s.dev.parity.armed = none ∧ s.dev.parity.bad = [] → t.dev.parity = s.dev.parity ∧ t.dev.free = s.dev.free) ∧
  t.dev.get (RING_IDX_INDEX 0) = (s.dev.get (RING_IDX_INDEX 0) + 1) % 2 ^ 32

/-- What judging the parsed flip leaves alone. -/
theorem parsed_of_only {as : List Area} {e : Dev} (ho : (s.dev.parsed slot).Only [.host, .twin] as e)
    (ht : e.tile = (s.dev.parsed slot).tile) (ha : ∀ x ∈ as, ∀ k, ¬ x.has (RING_IDX 0) k) :
    AfterParsing slot s { s with dev := e } := by
  refine ⟨ht.trans parsed_tile, (ho.1 .out (by simp)).trans parsed_out, fun hq => ?_, (ho.get_eq _ ha).trans parsed_index⟩
  obtain ⟨hpar, hfree⟩ := parsed_parity (h := slot) hq
  exact ⟨(ho.1 .parity (by simp)).trans hpar, (ho.1 .free (by simp)).trans hfree⟩

theorem flipParse_rejects {status : Nat} (hp : Parses slot s) (hf : s.dev.enginesWork.engineFinds = [])
    (hr : (s.dev.parsed slot).flipFault slot [] table = some ⟨status, none, none⟩) (hs : status < 65536) :
    AnswersWith (exec (.flipParse [slot] table) s) fun t =>
      Only [.host, .out, .parity, .free, .tile] [.word (RING_IDX 0), .word RING_FLIP_REJ] s t ∧ AfterParsing slot s t ∧
      t.dev.host = { s.dev.host with cpls := s.dev.host.cpls ++ [rejectCpl (s.dev.ringIdx 0) status slot] } ∧
      t.dev.get RING_FLIP_REJ_LAST = status ∧
      t.dev.get RING_FLIP_REJ_COUNT = min 65535 (s.dev.get RING_FLIP_REJ_COUNT + 1) := by
  obtain ⟨ho, ht, hhost, hlast, hcount⟩ := rejectFlip_rule (s.dev.ringIdx 0) slot status hs (s.dev.parsed slot)
  have hk : s.dev.Only [.host, .out, .parity, .free, .tile] [.word (RING_IDX 0), .word RING_FLIP_REJ]
      ((s.dev.parsed slot).rejectFlip (s.dev.ringIdx 0) slot ⟨status, none, none⟩) :=
    (parsed_only.mono (by simp) (by simp)).trans (ho.mono (by simp) (by simp))
  rw [parsed_host] at hhost
  rw [parsed_get (by decide)] at hcount
  rw [exec_flipParse_clean hp hf]
  exact ⟨_, run_next _ hp.settled (judgeFlip_reject hr) hk (by simp), ⟨rfl, rfl, hk⟩,
    parsed_of_only (ho.mono (by simp) fun _ => id) ht (by simp [Area.has, RING_IDX, RING_FLIP_REJ]), hhost, hlast, hcount⟩

theorem flipParse_accepts (hp : Parses slot s) (hf : s.dev.enginesWork.engineFinds = [])
    (hr : (s.dev.parsed slot).flipFault slot [] table = none) (ha : s.dev.alone slot) :
    AnswersWith (exec (.flipParse [slot] table) s) fun t =>
      Only [.host, .twin, .out, .parity, .free, .tile] [.word (RING_IDX 0), .word RING_FLIP_ACC] s t ∧ AfterParsing slot s t ∧
      t.dev.host.cpls = s.dev.host.cpls ++ [acceptCpl (s.dev.ringIdx 0) (namedTime slot) slot] ∧
      (t.dev.host.queue.map fun f => (f.index, f.present, f.mode, f.modeChange)) =
        [(s.dev.ringIdx 0, namedTime slot, fMode slot, false)] ∧
      t.dev.get RING_FLIP_ACC_COUNT = (s.dev.get RING_FLIP_ACC_COUNT + 1) % 2 ^ 32 := by
  obtain ⟨hn, hq, hprev, hm⟩ := ha
  have hsame : (s.dev.parsed slot).changesMode (fMode slot) = false := by
    simp [Dev.changesMode, Dev.prevFlip, hq, hprev, hm]
  obtain ⟨ho, ht, hcpls, hqueue, hcount⟩ := acceptFlip_same (s.dev.ringIdx 0) slot table s.straps
    (by simpa using hq) hsame
  have hk : s.dev.Only [.host, .twin, .out, .parity, .free, .tile] [.word (RING_IDX 0), .word RING_FLIP_ACC]
      ((s.dev.parsed slot).acceptFlip s.straps (s.dev.ringIdx 0) slot [] table) :=
    (parsed_only.mono (by simp) (by simp)).trans (ho.mono (by simp) (by simp))
  rw [parsed_host, presentFor_named hn] at hcpls
  rw [presentFor_named hn] at hqueue
  rw [parsed_get (by decide)] at hcount
  rw [exec_flipParse_clean hp hf]
  exact ⟨_, run_next _ hp.settled (judgeFlip_accept hr) hk (by simp), ⟨rfl, rfl, hk⟩,
    parsed_of_only ho ht (by simp [Area.has, RING_IDX, RING_FLIP_ACC]), hcpls, hqueue, hcount⟩

/-- The first flip of all is one that changes the mode (R115). -/
theorem flipParse_changes (hp : Parses slot s) (hf : s.dev.enginesWork.engineFinds = [])
    (hr : (s.dev.parsed slot).flipFault slot [] table = none) (hn : fNext slot = false) (hq : s.dev.host.queue = [])
    (hfl : s.dev.host.flying = []) (hc : (s.dev.parsed slot).changesMode (fMode slot) = true) (hm : fMode slot < 256) :
    AnswersWith (exec (.flipParse [slot] table) s) fun t =>
      Only [.host, .twin, .out, .parity, .free, .tile] [.word (RING_IDX 0), .word RING_FLIP_ACC, .word RING_FLIP_MODE] s t ∧
      (t.dev.host.queue.map fun f => (f.present, f.mode, f.modeChange)) = [(namedTime slot, fMode slot, true)] ∧
      t.dev.get RING_FLIP_MODE_NEXT = fMode slot ∧ t.dev.get RING_FLIP_MODE_CUR = s.dev.get RING_FLIP_MODE_CUR := by
  obtain ⟨ho, hqueue, hnext, hcur⟩ := acceptFlip_change (s.dev.ringIdx 0) slot table s.straps
    (by simpa using hq) (by simpa using hfl) hc hm
  have hk : s.dev.Only [.host, .twin, .out, .parity, .free, .tile]
      [.word (RING_IDX 0), .word RING_FLIP_ACC, .word RING_FLIP_MODE]
      ((s.dev.parsed slot).acceptFlip s.straps (s.dev.ringIdx 0) slot [] table) :=
    (parsed_only.mono (by simp) (by simp)).trans (ho.mono (by simp) (by simp))
  rw [presentFor_named hn] at hqueue
  rw [parsed_mode] at hcur
  rw [exec_flipParse_clean hp hf]
  exact ⟨_, run_next _ hp.settled (judgeFlip_accept hr) hk (by simp), ⟨rfl, rfl, hk⟩, hqueue, hnext, hcur⟩

/-! The statement's clauses of FLIP_PARSE. -/

theorem bareStatus_lt (h : List Byte) (table : Option (List Byte)) (d : Dev) : d.bareStatus h table < 65536 := by
  unfold Dev.bareStatus
  split_ifs <;> decide

theorem parsed_bareStatus : (d.parsed h).bareStatus slot table = d.bareStatus slot table := by simp [Dev.bareStatus]

theorem parsed_alone (ha : d.alone slot) : (d.parsed h).alone slot := by simpa [Dev.alone] using ha

/-- The reads of a flip without layers, alone in the mode in force: the table of signatures only where it is what decides. -/
theorem flipReads_alone (ha : d.alone h) (table : Option (List Byte)) : d.flipReads h =
    .hostRead (d.slotAddr 0 (d.ringIdx 0) 64) 64 ::
      (if fGuardAddr h = 0 ∨ ¬(d.bareStatus h table = ST_OK ∨ d.bareStatus h table = ST_FLIP_REJECT_GUARD) then []
       else [.hostRead (fGuardAddr h) (fGuardLen h)]) := by
  have hearly := (alone_faults (table := table) ha).2
  simp only [Dev.flipReads, Bool.or_eq_true, decide_eq_true_eq, hearly]

theorem timely (hlo : d.now + d.launchLead (fMode h) ≤ namedTime h) (hhi : namedTime h ≤ d.now + 1000000000)
    (hsame : d.changesMode (fMode h) = false) : d.untimely h = false := by
  rw [Dev.untimely, decide_eq_false hlo.not_gt, decide_eq_false hhi.not_gt, hsame, Bool.false_and, Bool.or_false,
    Bool.or_false]

/-- The flip behind another of its mode, not after it, is refused by its order (R102, check 6). -/
theorem ordered_faults {g : Flip} (hn : fNext h = false)
    (hok : dCrcOk h = true ∧ headerFaulty h = false ∧ modeAllowed (fMode h) = true) (hq : d.host.queue = [g])
    (hg : g.mode = fMode h) (hle : namedTime h ≤ g.present) (hlo : d.now + d.launchLead (fMode h) ≤ namedTime h)
    (hhi : namedTime h ≤ d.now + 1000000000) :
    d.earlyFault h [] = some ⟨ST_FLIP_REJECT_ORDER, none, none⟩ := by
  have hslot : slotFault h [] = none := by simp [slotFault_bare, hok]
  have hprev : d.prevFlip = some (g.present, g.mode) := by simp [Dev.prevFlip, hq]
  have hsame : d.changesMode (fMode h) = false := by simp [Dev.changesMode, hprev, hg]
  rw [Dev.earlyFault, hslot, timeFault_named hn, timely hlo hhi hsame, hprev, Option.any_some, decide_eq_true hle]
  rfl

/-- The first flip of all must lie 3 periods ahead (R115). -/
theorem first_faults (hn : fNext h = false)
    (hok : dCrcOk h = true ∧ headerFaulty h = false ∧ modeAllowed (fMode h) = true ∧ guardOk h table = true)
    (hq : d.host.queue = []) (hp : d.host.prev = none) (hcur : d.get RING_FLIP_MODE_CUR = 0xFF)
    (hlo : d.now + d.launchLead (fMode h) ≤ namedTime h) (hhi : namedTime h ≤ d.now + 1000000000) :
    d.changesMode (fMode h) = true ∧ d.flipFault h [] table =
      if namedTime h < d.now + 3 * periodCeil (fMode h) then some ⟨ST_FLIP_REJECT_TIME, none, none⟩ else none := by
  obtain ⟨hc, hh, hm, hg⟩ := hok
  have hprev : d.prevFlip = none := by simp [Dev.prevFlip, hq, hp]
  have hother : (0xFF != fMode h) = true := by
    rw [bne_iff_ne]
    intro he
    rw [← he] at hm
    exact absurd hm (by decide)
  have hchange : d.changesMode (fMode h) = true := by simpa [Dev.changesMode, hprev, hcur] using hother
  have htime : d.untimely h = decide (namedTime h < d.now + 3 * periodCeil (fMode h)) := by
    rw [Dev.untimely, decide_eq_false hlo.not_gt, decide_eq_false hhi.not_gt, hchange, hprev]
    simp [Dev.modeGap, hcur]
  refine ⟨hchange, ?_⟩
  rw [flipFault_bare]
  simp only [Dev.earlyFault, slotFault_bare, hc, hh, hm, timeFault_named hn, htime, hprev, hg]
  by_cases hl : namedTime h < d.now + 3 * periodCeil (fMode h) <;> simp [hl]

theorem modeAllowed_lt {m : Nat} (h : modeAllowed m = true) : m < 256 := by
  simp only [modeAllowed, Bool.and_eq_true, decide_eq_true_eq] at h
  exact h.1.1

theorem flipParse_alone (hp : Parses slot s) (hf : s.dev.enginesWork.engineFinds = []) (ha : s.dev.alone slot) :
    AnswersWith (exec (.flipParse [slot] table) s) fun t =>
      Only [.host, .twin, .out, .parity, .free, .tile] [.word (RING_IDX 0), .word RING_FLIP_REJ, .word RING_FLIP_ACC] s t ∧
      AfterParsing slot s t ∧
      (s.dev.bareStatus slot table ≠ ST_OK →
        t.dev.host = { s.dev.host with
          cpls := s.dev.host.cpls ++ [rejectCpl (s.dev.ringIdx 0) (s.dev.bareStatus slot table) slot] } ∧
        t.dev.twin = s.dev.twin ∧
        t.dev.get RING_FLIP_REJ_LAST = s.dev.bareStatus slot table ∧ t.dev.rd RING_FLIP_ACC = s.dev.rd RING_FLIP_ACC ∧
        t.dev.get RING_FLIP_REJ_COUNT = min 65535 (s.dev.get RING_FLIP_REJ_COUNT + 1)) ∧
      (s.dev.bareStatus slot table = ST_OK →
        t.dev.host.cpls = s.dev.host.cpls ++ [acceptCpl (s.dev.ringIdx 0) (namedTime slot) slot] ∧
        (t.dev.host.queue.map fun f => (f.index, f.present, f.mode, f.modeChange)) =
          [(s.dev.ringIdx 0, namedTime slot, fMode slot, false)] ∧
        t.dev.get RING_FLIP_ACC_COUNT = (s.dev.get RING_FLIP_ACC_COUNT + 1) % 2 ^ 32 ∧
        t.dev.rd RING_FLIP_REJ = s.dev.rd RING_FLIP_REJ) := by
  have hfault := (alone_faults (table := table) (parsed_alone (h := slot) ha)).1
  rw [parsed_bareStatus] at hfault
  by_cases hok : s.dev.bareStatus slot table = ST_OK
  · rw [if_pos hok] at hfault
    obtain ⟨t, ht, ⟨hst, hpe, hk⟩, hafter, hcpls, hqueue, hcount⟩ := flipParse_accepts hp hf hfault ha
    exact ⟨t, ht, ⟨hst, hpe, hk.mono (by simp) (by simp)⟩, hafter, fun hne => absurd hok hne,
      fun _ => ⟨hcpls, hqueue, hcount, hk.rd_eq (by simp [Area.has, RING_IDX, RING_FLIP_ACC, RING_FLIP_REJ])⟩⟩
  · rw [if_neg hok] at hfault
    obtain ⟨t, ht, ⟨hst, hpe, hk⟩, hafter, hhost, hlast, hcount⟩ := flipParse_rejects hp hf hfault (bareStatus_lt ..)
    exact ⟨t, ht, ⟨hst, hpe, hk.mono (by simp) (by simp)⟩, hafter, fun _ => ⟨hhost, hk.1 .twin (by simp), hlast,
      hk.rd_eq (by simp [Area.has, RING_IDX, RING_FLIP_ACC, RING_FLIP_REJ]), hcount⟩, fun h => absurd h hok⟩

theorem flipReads_early {f : FlipFault} (hearly : d.earlyFault h [] = some f) :
    d.flipReads h = [.hostRead (d.slotAddr 0 (d.ringIdx 0) 64) 64] := by
  simp [Dev.flipReads, hearly]

theorem flipParse_ordered {g : Flip} (hp : Parses slot s) (hf : s.dev.enginesWork.engineFinds = []) (hn : fNext slot = false)
    (hok : dCrcOk slot = true ∧ headerFaulty slot = false ∧ modeAllowed (fMode slot) = true) (hq : s.dev.host.queue = [g])
    (hg : g.mode = fMode slot) (hle : namedTime slot ≤ g.present)
    (hlo : s.dev.now + s.dev.launchLead (fMode slot) ≤ namedTime slot) (hhi : namedTime slot ≤ s.dev.now + 1000000000) :
    AnswersWith (exec (.flipParse [slot] table) s) fun t =>
      Only [.host, .out, .parity, .free, .tile] [.word (RING_IDX 0), .word RING_FLIP_REJ] s t ∧
      t.dev.out = s.dev.out ++ [.hostRead (s.dev.slotAddr 0 (s.dev.ringIdx 0) 64) 64] ∧
      t.dev.host = { s.dev.host with cpls := s.dev.host.cpls ++ [rejectCpl (s.dev.ringIdx 0) ST_FLIP_REJECT_ORDER slot] } ∧
      t.dev.get RING_FLIP_REJ_LAST = ST_FLIP_REJECT_ORDER := by
  have hfault : (s.dev.parsed slot).flipFault slot [] table = some ⟨ST_FLIP_REJECT_ORDER, none, none⟩ := by
    rw [flipFault_bare, ordered_faults hn hok (by simpa using hq) hg hle (by simpa using hlo) (by simpa using hhi),
      Option.some_or]
  have hreads := flipReads_early (ordered_faults hn hok hq hg hle hlo hhi)
  obtain ⟨t, ht, hk, ⟨-, hout, -⟩, hhost, hlast, -⟩ := flipParse_rejects hp hf hfault (by decide)
  rw [hreads] at hout
  exact ⟨t, ht, hk, hout, hhost, hlast⟩

theorem flipParse_first (hp : Parses slot s) (hf : s.dev.enginesWork.engineFinds = []) (hn : fNext slot = false)
    (hok : dCrcOk slot = true ∧ headerFaulty slot = false ∧ modeAllowed (fMode slot) = true ∧ guardOk slot table = true)
    (hq : s.dev.host.queue = []) (hfl : s.dev.host.flying = []) (hprev : s.dev.host.prev = none)
    (hcur : s.dev.get RING_FLIP_MODE_CUR = 0xFF) (hlo : s.dev.now + s.dev.launchLead (fMode slot) ≤ namedTime slot)
    (hhi : namedTime slot ≤ s.dev.now + 1000000000) :
    let late := decide (namedTime slot < s.dev.now + 3 * periodCeil (fMode slot))
    AnswersWith (exec (.flipParse [slot] table) s) fun t =>
      Only [.host, .twin, .out, .parity, .free, .tile]
        [.word (RING_IDX 0), .word RING_FLIP_REJ, .word RING_FLIP_ACC, .word RING_FLIP_MODE] s t ∧
      (late = true → t.dev.host.queue = [] ∧ t.dev.get RING_FLIP_REJ_LAST = ST_FLIP_REJECT_TIME ∧
        t.dev.get RING_FLIP_MODE_NEXT = s.dev.get RING_FLIP_MODE_NEXT) ∧
      (late = false → (t.dev.host.queue.map fun f => (f.present, f.mode, f.modeChange)) =
          [(namedTime slot, fMode slot, true)] ∧
        t.dev.get RING_FLIP_MODE_NEXT = fMode slot ∧ t.dev.get RING_FLIP_MODE_CUR = 0xFF) := by
  have ⟨_, _, hmode, _⟩ := hok
  obtain ⟨hc, hfault⟩ := first_faults (d := s.dev.parsed slot) hn hok (by simpa using hq) (by simpa using hprev)
    (by simpa using hcur) (by simpa using hlo) (by simpa using hhi)
  rw [parsed_now] at hfault
  by_cases hl : namedTime slot < s.dev.now + 3 * periodCeil (fMode slot)
  · rw [if_pos hl] at hfault
    obtain ⟨t, ht, ⟨hst, hpe, hk⟩, -, hhost, hlast, -⟩ := flipParse_rejects hp hf hfault (by decide)
    refine ⟨t, ht, ⟨hst, hpe, hk.mono (by simp) (by simp)⟩, fun _ => ⟨?_, hlast, ?_⟩,
      fun h => absurd hl (of_decide_eq_false h)⟩
    · rw [hhost]; exact hq
    · exact hk.get_eq _ (by simp [Area.has, RING_IDX, RING_FLIP_REJ, RING_FLIP_MODE_NEXT, RING_FLIP_MODE])
  · rw [if_neg hl] at hfault
    obtain ⟨t, ht, ⟨hst, hpe, hk⟩, hqueue, hnext, hkeep⟩ :=
      flipParse_changes hp hf hfault hn hq hfl hc (modeAllowed_lt hmode)
    exact ⟨t, ht, ⟨hst, hpe, hk.mono (by simp) (by simp)⟩, fun h => absurd (of_decide_eq_true h) hl,
      fun _ => ⟨hqueue, hnext, hkeep.trans hcur⟩⟩

/-! An engine's error while a flip is parsed (R45). -/

/-- The flip's slot has been read and the engines have worked. -/
def Dev.workedOn (h : List Byte) (d : Dev) : Dev := { d with tile.worked := true }.sends (d.flipReads h)

theorem workedOn_only (h : List Byte) (d : Dev) : d.Only [.tile, .out] [] (d.workedOn h) :=
  .parts rfl fun p hp => by cases p <;> simp_all [Part.same, Dev.workedOn, Dev.sends]

/-- The flip's slot has been read, and the error found in this engine is logged. -/
def Dev.engineFailed (h : List Byte) (u o : Nat) (d : Dev) : Dev := ((d.workedOn h).keepParity 0 u o).reloadEngine u

theorem reloadEngine_only (u : Nat) (d : Dev) : d.Only [.tile] [] (d.reloadEngine u) :=
  .parts rfl fun p hp => by cases p <;> simp_all [Part.same, Dev.reloadEngine]

theorem engineFailed_only (h : List Byte) (u o : Nat) (d : Dev) : d.Only [.tile, .parity, .out]
    [.word FAB_PERR_CNT, .word FAB_PERR_LOG, .word FAB_PERR_ADDR] (d.engineFailed h u o) :=
  (((workedOn_only h d).mono (by simp) (by simp)).trans ((keepParity_only 0 u o _).mono (by simp) (by simp))).trans
    ((reloadEngine_only u _).mono (by simp) (by simp))

theorem exec_flipParse_failed {u o : Nat} (hp : Parses slot s) (hfl : s.dev.host.flying = [])
    (hpar : s.dev.parity = { armed := none, bad := [⟨0, u, o, .code⟩] }) : exec (.flipParse [slot] table) s =
      run (fun st _ => (s.dev.engineFailed slot u o).event st EV_FAB_PARITY 0 u o) s := by
  have hwork : s.dev.enginesWork = { s.dev with tile.worked := true } :=
    enginesWork_quiet (by rw [hpar]) (by simp [hpar])
  have hfinds : s.dev.enginesWork.engineFinds = [⟨0, u, o, .code⟩] := by
    simp [hwork, Dev.engineFinds, Dev.badBytes, hpar]
  rw [exec_flipParse hp]
  refine run_congr ?_
  rw [hfinds, if_neg (List.cons_ne_nil _ _), hwork]
  exact engineErrors_one _ hfl

theorem engineFailed_tile (h : List Byte) (u o : Nat) (d : Dev) :
    (d.engineFailed h u o).tile = { d.tile with worked := true, reload := u :: d.tile.reload.erase u } := by
  have htile : ((d.workedOn h).keepParity 0 u o).tile = { d.tile with worked := true } := by
    unfold Dev.keepParity
    split
    · rfl
    · rw [Dev.setAll_tile]
      rfl
  rw [Dev.engineFailed, Dev.reloadEngine, htile]

theorem flipParse_fails {u o : Nat} (hp : Parses slot s) (hfl : s.dev.host.flying = [])
    (hpar : s.dev.parity = { armed := none, bad := [⟨0, u, o, .code⟩] }) :
    AnswersWith (exec (.flipParse [slot] table) s) fun t =>
      OnlyLogging [.tile, .parity, .out] [.word FAB_PERR_CNT, .word FAB_PERR_LOG, .word FAB_PERR_ADDR] s t ∧
      t.dev.tile = { s.dev.tile with worked := true, reload := u :: s.dev.tile.reload.erase u } ∧ t.dev.parity.bad = [] ∧
      t.dev.get FAB_PERR_CNT_COUNT = (s.dev.get FAB_PERR_CNT_COUNT + 1) % 2 ^ 32 ∧
      (s.dev.getb FAB_PERR_LOG_VALID = false → t.dev.get FAB_PERR_LOG_VALID = 1 ∧ t.dev.get FAB_PERR_LOG_MEM = 0 ∧
        t.dev.get FAB_PERR_LOG_UNIT = u % 256 ∧ t.dev.get FAB_PERR_ADDR_OFFSET = o % 2 ^ 32) ∧
      (¬s.dev.getb FAB_PERR_LOG_VALID = false →
        t.dev.rd FAB_PERR_LOG = s.dev.rd FAB_PERR_LOG ∧ t.dev.rd FAB_PERR_ADDR = s.dev.rd FAB_PERR_ADDR) ∧
      Logs [(EV_FAB_PARITY.code, 0, u % 2 ^ 32, o % 2 ^ 32)] s t := by
  rw [exec_flipParse_failed hp hfl hpar]
  obtain ⟨t, ht, hk, hlogs, hkeep⟩ :=
    run_records EV_FAB_PARITY 0 u o hp.settled (engineFailed_only slot u o s.dev) (by simp)
  have hrd (a : Nat) (ha : a ≠ REC_LOST_CNT) : t.dev.rd a = ((s.dev.workedOn slot).keepParity 0 u o).rd a :=
    hkeep.rd_eq (by simp [Area.has, REC_LOST_CNT_COUNT, ha])
  have hget (f : Fld) (hf : f.addr ≠ REC_LOST_CNT) : t.dev.get f = ((s.dev.workedOn slot).keepParity 0 u o).get f := by
    rw [Dev.get, hrd _ hf, Dev.get]
  refine ⟨t, ht, hk, (tile_of_only hkeep (by simp) (by simp)).trans (engineFailed_tile ..), ?_, ?_, fun hnew => ?_,
    fun hold => ?_, hlogs⟩
  · have hparity : t.dev.parity = ((s.dev.workedOn slot).keepParity 0 u o).parity := hkeep.1 .parity (by simp)
    have hbad : (s.dev.workedOn slot).parity = s.dev.parity := rfl
    simp [hparity, keepParity_parity, hbad, hpar]
  · rw [hget _ (by decide), keepParity_count]
    rfl
  · obtain ⟨hvalid, hmem, hunit, hoffset⟩ := keepParity_first (d := s.dev.workedOn slot) 0 u o hnew
    exact ⟨(hget _ (by decide)).trans hvalid, (hget _ (by decide)).trans hmem, (hget _ (by decide)).trans hunit,
      (hget _ (by decide)).trans hoffset⟩
  · obtain ⟨hlog, haddr⟩ := keepParity_later (d := s.dev.workedOn slot) 0 u o (eq_true_of_ne_false hold)
    exact ⟨(hrd _ (by decide)).trans hlog, (hrd _ (by decide)).trans haddr⟩

end

end Sys2Proof.Machine
end

section
/-! SUPPORT. Deferral, the change of mode, fences and the checks of one device (R103, R107, R110, R116), and the statement of
accepted flips. -/

namespace Sys2Proof.Machine

section
variable {d : Dev} {st : Straps} {s : State}

/-! Deferral and the change of mode (R110, R116). -/

theorem deferTo_alone {f : Flip} {l : LayerSt} (hl : f.layers = [l]) (hdef : eDefer l.entry = true) (hready : l.ready = false)
    (hm : f.modeChange = false) (hd : f.deferred < fDefer f.header) : deferTo f [] = some (gridAfter f.mode f.present) := by
  simp [deferTo, hl, hdef, hready, hm, hd]

/-- The only flip that waits has moved to a later present time, and the deferral is counted. -/
def Dev.movedTo (f : Flip) (p : Nat) (d : Dev) : Dev :=
  { d with
    host.queue := [{ f with present := p, deferred := f.deferred + 1 }]
    twin.accepted := moveAccepted f.present p (fTag f.header) d.twin.accepted }.addSat RING_FLIP_HELD_DEFER 1

theorem deferFlip_alone (f : Flip) (p : Nat) :
    d.deferFlip st f [] p = (d.movedTo f p).event st EV_FLIP_DEFER (fTag f.header) (f.deferred + 1) 0 := rfl

theorem movedTo_only (f : Flip) (p : Nat) : d.Only [.host, .twin] [.field RING_FLIP_HELD_DEFER] (d.movedTo f p) :=
  Dev.Only.addSat _ 1 (.inl (by simp)) (Dev.only_host_twin ..)

theorem exec_frameLaunch_defers {f : Flip} {p : Nat} (hon : senderOn s) (hq : s.dev.host.queue = [f])
    (hdef : deferTo f [] = some p) (huw : s.dev.underWay = false)
    (hp : f.present ≤ s.dev.now + s.dev.launchLead f.mode) (hready : s.dev.enginesReady = true)
    (hswap : s.dev.swapDue = false) :
    exec .frameLaunch s =
      run (fun st _ => (s.dev.movedTo f p).event st EV_FLIP_DEFER (fTag f.header) (f.deferred + 1) 0) s := by
  have hgo : (decide (s.dev.now + s.dev.launchLead f.mode < f.present) || !s.dev.enginesReady || s.dev.swapDue ||
      s.dev.underWay) = false := by simp [hp, hready, hswap, huw]
  change execFrameLaunch s = _
  rw [execFrameLaunch, runSender_pos hon]
  refine run_congr ?_
  simp only [hq, hgo, hdef, deferFlip_alone, Bool.false_eq_true, if_false]

theorem frameLaunch_defers {f : Flip} {p : Nat} (hon : senderOn s) (hq : s.dev.host.queue = [f]) (hdef : deferTo f [] = some p)
    (huw : s.dev.underWay = false) (hp : f.present ≤ s.dev.now + s.dev.launchLead f.mode) (hready : s.dev.enginesReady = true)
    (hswap : s.dev.swapDue = false) :
    AnswersWith (exec .frameLaunch s) fun t => OnlyLogging [.host, .twin] [.field RING_FLIP_HELD_DEFER] s t ∧
      t.dev.host = { s.dev.host with queue := [{ f with present := p, deferred := f.deferred + 1 }] } ∧
      t.dev.get RING_FLIP_HELD_DEFER = min 65535 (s.dev.get RING_FLIP_HELD_DEFER + 1) ∧
      Logs [(EV_FLIP_DEFER.code, fTag f.header % 2 ^ 32, (f.deferred + 1) % 2 ^ 32, 0)] s t := by
  rw [exec_frameLaunch_defers hon hq hdef huw hp hready hswap]
  obtain ⟨t, ht, hk, hlogs, hkeep⟩ :=
    run_records EV_FLIP_DEFER (fTag f.header) (f.deferred + 1) 0 hon.2.2 (movedTo_only f p) (by simp)
  refine ⟨t, ht, hk, hkeep.1 .host (by simp), ?_, hlogs⟩
  exact (hkeep.get_eq _ (by simp [Area.has, RING_FLIP_HELD_DEFER, RING_FLIP_HELD, REC_LOST_CNT_COUNT, REC_LOST_CNT])).trans
    (get_addSat16 _ _ rfl (by decide))

/-- The only launched flip has taken its mode: it is no mode change any more, and is dropped where its transport is over. -/
def afterSwitch (f : Flip) : List Flip := if f.ended = true then [] else [{ f with modeChange := false }]

theorem switched_flying {f : Flip} (hfl : d.host.flying = [f]) :
    (d.modFlying f.index fun g => { g with modeChange := false }).dropDone = { d with host.flying := afterSwitch f } := by
  cases he : f.ended <;> simp [Dev.modFlying, Dev.dropDone, hfl, he, afterSwitch]

theorem pendingMode_switched {f : Flip} (hfl : d.host.flying = afterSwitch f) (hq : d.host.queue = []) :
    d.pendingMode = 0xFF := by
  have hnone : (afterSwitch f).filter Flip.modeChange = [] := by
    unfold afterSwitch
    split <;> simp
  simp [Dev.pendingMode, hfl, hq, hnone]

/-- The shown modes once the only launched flip has taken its mode: its own, and none pending. -/
def Dev.switched (f : Flip) (d : Dev) : Dev :=
  ({ d with host.flying := afterSwitch f }.set RING_FLIP_MODE_CUR f.mode).set RING_FLIP_MODE_NEXT 0xFF

theorem switched_only (f : Flip) : d.Only [.host] [.word RING_FLIP_MODE] (d.switched f) :=
  Dev.Only.set _ _ (.inr (.inl (by simp [RING_FLIP_MODE_NEXT]))) (Dev.Only.set _ _ (.inr (.inl (by simp [RING_FLIP_MODE_CUR])))
    (Dev.only_host ..))

theorem exec_senderModeSwitch {f : Flip} (hon : senderOn s) (hfl : s.dev.host.flying = [f]) (hq : s.dev.host.queue = [])
    (hm : f.modeChange = true) (hp : f.present ≤ s.dev.now) :
    exec .senderModeSwitch s = run (fun st _ => (s.dev.switched f).event st EV_MODE_CHANGE
      (f.mode + 256 * s.dev.get RING_FLIP_MODE_CUR) (f.present % giga) (f.present / giga)) s := by
  have hfind : (s.dev.host.flying.find? fun f => f.modeChange && decide (f.present ≤ s.dev.now)) = some f := by
    simp [hfl, hm, hp]
  have hpending : ({ s.dev with host.flying := afterSwitch f }.set RING_FLIP_MODE_CUR f.mode).pendingMode = 0xFF :=
    pendingMode_switched rfl hq
  change execSenderModeSwitch s = _
  rw [execSenderModeSwitch, runSender_pos hon]
  refine run_congr ?_
  simp only [hfind, switched_flying hfl, Dev.showNext, hpending, Dev.switched]

theorem senderModeSwitch_switches {f : Flip} (hon : senderOn s) (hfl : s.dev.host.flying = [f]) (hq : s.dev.host.queue = [])
    (hm : f.modeChange = true) (hp : f.present ≤ s.dev.now) (hmode : f.mode < 256) :
    AnswersWith (exec .senderModeSwitch s) fun t => OnlyLogging [.host] [.word RING_FLIP_MODE] s t ∧
      t.dev.get RING_FLIP_MODE_CUR = f.mode ∧ t.dev.get RING_FLIP_MODE_NEXT = 0xFF ∧
      t.dev.host = { s.dev.host with flying := afterSwitch f } ∧
      Logs [(EV_MODE_CHANGE.code, f.mode + 256 * s.dev.get RING_FLIP_MODE_CUR, f.present % 1000000000,
        f.present / 1000000000 % 2 ^ 32)] s t := by
  have hold : s.dev.get RING_FLIP_MODE_CUR < 2 ^ 8 := Nat.mod_lt _ (by decide)
  rw [exec_senderModeSwitch hon hfl hq hm hp]
  obtain ⟨t, ht, hk, hlogs, hkeep⟩ := run_records EV_MODE_CHANGE (f.mode + 256 * s.dev.get RING_FLIP_MODE_CUR)
    (f.present % giga) (f.present / giga) hon.2.2 (switched_only f) (by simp)
  rw [Nat.mod_eq_of_lt (show f.mode + 256 * s.dev.get RING_FLIP_MODE_CUR < 2 ^ 32 by omega), giga,
    Nat.mod_eq_of_lt (show f.present % 1000000000 < 2 ^ 32 by omega)] at hlogs
  refine ⟨t, ht, hk, ?_, ?_, hkeep.1 .host (by simp), hlogs⟩
  · exact (hkeep.get_eq _ (by simp [Area.has, RING_FLIP_MODE_CUR, RING_FLIP_MODE, REC_LOST_CNT_COUNT, REC_LOST_CNT])).trans
      ((Dev.get_set_ne _ _ _ _ (.inr (.inr (by decide)))).trans
        ((Dev.get_set_same _ _ _ (by decide)).trans (Nat.mod_eq_of_lt hmode)))
  · exact (hkeep.get_eq _ (by simp [Area.has, RING_FLIP_MODE_NEXT, RING_FLIP_MODE, REC_LOST_CNT_COUNT, REC_LOST_CNT])).trans
      (Dev.get_set_same _ _ _ (by decide))

/-! Fences (R107). -/

/-- The fences have been polled, and this queue waits. -/
def Dev.polled (fs : List Flip) (d : Dev) : Dev := { d with host.queue := fs, host.lastFence := some d.ticks }

theorem polled_only (fs : List Flip) : d.Only [.host] [] (d.polled fs) := Dev.only_host ..

theorem readFences_one {l : LayerSt} (v : BitVec 64) (hready : l.ready = false) (hret : l.retired = false) :
    readFences [l] [some v] = ([{ l with ready := decide (eFenceValue l.entry ≤ v.toNat) }], []) := by
  simp [readFences, hready, hret]

/-- The poll of a queue of one flip: its fences are read where they are open. -/
theorem exec_fencePoll {f : Flip} {rs : List (Option (BitVec 64))} (hon : senderOn s) (hq : s.dev.host.queue = [f])
    (hlast : s.dev.host.lastFence = none) : exec (.fencePoll rs) s = run (fun _ d =>
      if d.fencesOpen f = true then (d.polled [{ f with layers := (readFences f.layers rs).1 }]).each
        (f.layers.filter fun l => !(l.ready || l.retired)) fun d l => d.emit (.hostRead (eFenceAddr l.entry) 8)
      else d.polled [f]) s := by
  have hdue : s.dev.fenceDue = true := by simp [Dev.fenceDue, hlast]
  change execFencePoll rs s = _
  rw [execFencePoll, runIf_pos (by simp [isSender_of_on hon, awake_of_on hon.2, hdue])]
  refine run_congr ?_
  cases ho : s.dev.fencesOpen f with
  | true => simp [hq, ho, readFlips, Dev.polled]
  | false => simp [hq, ho, readFlips, Dev.polled, Dev.each]

theorem fencePoll_reads {f : Flip} {l : LayerSt} (v : BitVec 64) (hon : senderOn s) (hq : s.dev.host.queue = [f])
    (hl : f.layers = [l]) (hready : l.ready = false) (hret : l.retired = false) (hlast : s.dev.host.lastFence = none)
    (hopen : s.dev.fencesOpen f = true) :
    AnswersWith (exec (.fencePoll [some v]) s) fun t => Only [.host, .out] [] s t ∧
      t.dev.out = s.dev.out ++ [.hostRead (eFenceAddr l.entry) 8] ∧
      t.dev.host = { s.dev.host with
        queue := [{ f with layers := [{ l with ready := decide (eFenceValue l.entry ≤ v.toNat) }] }]
        lastFence := some s.dev.time.clk.ticks } := by
  rw [exec_fencePoll hon hq hlast]
  have ho : s.dev.Only [.host, .out] [] ((s.dev.polled [{ f with layers := (readFences f.layers [some v]).1 }]).emit
      (.hostRead (eFenceAddr l.entry) 8)) := ((polled_only _).mono (by simp) (by simp)).emit _ (by simp)
  refine ⟨_, run_next _ hon.2.2 (by simp [hopen, hl, hready, hret, Dev.each]) ho (by simp), ⟨rfl, rfl, ho⟩, rfl, ?_⟩
  rw [hl, readFences_one v hready hret]
  rfl

theorem fencePoll_closed {f : Flip} (rs : List (Option (BitVec 64))) (hon : senderOn s) (hq : s.dev.host.queue = [f])
    (hlast : s.dev.host.lastFence = none) (hclosed : s.dev.fencesOpen f = false) :
    AnswersWith (exec (.fencePoll rs) s) fun t => Only [.host] [] s t ∧
      t.dev.host = { s.dev.host with lastFence := some s.dev.time.clk.ticks } := by
  rw [exec_fencePoll hon hq hlast]
  refine ⟨_, run_next _ hon.2.2 (by simp [hclosed]) (polled_only [f]) (by simp), ⟨rfl, rfl, polled_only [f]⟩, ?_⟩
  rw [Dev.polled, ← hq]
  rfl

/-! The checks of one device (R103). -/

theorem deviceFault_layers {mode addr : Nat} {f : Footprint} {ls : List Layer}
    (h : 8 < (ls.filter (layerMeets mode f)).length) :
    deviceFault mode addr f ls = some ⟨ST_FLIP_REJECT_LAYERS, some addr, none⟩ := by
  simp [deviceFault, h, firstFault]

theorem deviceFault_scaler {mode addr : Nat} {f : Footprint} {ls : List Layer}
    (h : (ls.filter (layerMeets mode f)).length ≤ 8) (hs : 4 < ((ls.filter (layerMeets mode f)).filter Layer.scaled).length) :
    deviceFault mode addr f ls = some ⟨ST_FLIP_REJECT_SCALER, some addr, none⟩ := by
  simp only [deviceFault, h.not_gt, hs, firstFault, if_true, if_false]

end

/-- Settles O43, clause by clause: what the checks decide on a flip without layers (`flipParse_alone`, `flipParse_ordered`,
`flipParse_first`) or an engine's error (`flipParse_fails`), the checks of one device, the polls of its fences
(`fencePoll_reads`, `fencePoll_closed`), its deferral (`frameLaunch_defers`) and the change of mode
(`senderModeSwitch_switches`). -/
theorem flipsAccepted : Obligations.FlipsAccepted := by
  unfold Obligations.FlipsAccepted
  refine ⟨?alone, ?ordered, ?first, ?failed, ?devices, ?fence, ?closed, ?deferred, ?switched⟩
  case alone =>
    intro s slot table hon hring hn hin hready hfinds hlen hl hnext hq hprev hmode p status i cpl judged reads acc
    have ha : s.dev.alone slot := ⟨hnext, hq, hprev, hmode⟩
    obtain ⟨t, ht, hk, ⟨htile, hout, hparity, hindex⟩, hrejected, haccepted⟩ :=
      flipParse_alone (table := table) ⟨hon, hring, hn, hin, hready, hlen, hl⟩ hfinds ha
    rw [flipReads_alone ha table] at hout
    exact ⟨t, ht, hk, htile, hout, hparity, hindex, hrejected, haccepted⟩
  case ordered =>
    intro s slot table g hon hring hn hin hready hfinds hlen hl hnext hok hq hg hle hlo hhi i cpl
    exact flipParse_ordered ⟨hon, hring, hn, hin, hready, hlen, hl⟩ hfinds hnext hok hq hg hle hlo hhi
  case first =>
    intro s slot table hon hring hn hin hready hfinds hlen hl hnext hok hq hfl hprev hcur hlo hhi p late
    exact flipParse_first ⟨hon, hring, hn, hin, hready, hlen, hl⟩ hfinds hnext hok hq hfl hprev hcur hlo hhi
  case failed =>
    intro s slot table u o hon hring hn hin hready hlen hl hfl hpar new
    exact flipParse_fails ⟨hon, hring, hn, hin, hready, hlen, hl⟩ hfl hpar
  case devices =>
    intro mode addr f ls meet
    exact ⟨deviceFault_layers, fun h => deviceFault_scaler h.1 h.2, deviceFault_none⟩
  case fence =>
    intro s f l v hon hq hl hready hret hlast hopen g
    exact fencePoll_reads v hon hq hl hready hret hlast (decide_eq_true hopen)
  case closed =>
    intro s f v hon hq hlast hlate
    exact fencePoll_closed [some v] hon hq hlast (decide_eq_false hlate.not_ge)
  case deferred =>
    intro s f l hon hq hl huw hready hdef hm hd hp hengines hswap g
    exact frameLaunch_defers hon hq (deferTo_alone hl hdef hready hm hd) huw hp hengines hswap
  case switched =>
    intro s f hon hfl hq hm hp hmode
    exact senderModeSwitch_switches hon hfl hq hm hp hmode

end Sys2Proof.Machine
end

section
/-! SUPPORT. Counterexamples to three statements of the host interface: the unmasking of a vector that the mask list does not
hold, a register command that enables a cause with pending items, and a CMD on an idle port at which a frame's packet waits in
the class of TIME. -/

namespace Sys2Proof.Machine

/-- A sender just after reset, with its host interface and its ports replaced. -/
def senderWith (h : HostSt) (ports : List PortSt) : State :=
  { State.reset with
    straps := { State.reset.straps with role := .sender }, dev := { State.reset.dev with host := h, ports := ports } }

/-- A part of the device that an outcome leaves. -/
def nextDev {α : Type} (f : Dev → α) : Host.Outcome State Fault Refusal → Option α
  | .next t => some (f t.dev)
  | _ => none

/-- A sender whose vectors have all their Pending Bits set, and no mask bits at all. -/
def senderNoMasks : State :=
  senderWith { HostSt.init with pba := List.replicate 64 true, vecMask := [] } State.reset.dev.ports

/-- A vector without a mask bit stays masked, and nothing is sent. -/
theorem out_msixUnmask_senderNoMasks : nextDev Dev.out (exec (.msixUnmask 0) senderNoMasks) = some [] := by decide +kernel

/-- Refutes O15: its eleventh clause has no premise that there is a mask bit for the vector, and in `senderNoMasks` MSIX_UNMASK
unmasks nothing, where the clause asks for a message. The mask bits of a reachable state are 64. -/
theorem not_eventRingAndInterrupts : ¬ Obligations.EventRingAndInterrupts := by
  unfold Obligations.EventRingAndInterrupts
  rintro ⟨-, -, -, -, -, -, -, -, -, -, hunmask, -⟩
  obtain ⟨t, ht, -, hout, -⟩ := hunmask senderNoMasks 0 (by decide +kernel) rfl rfl (by decide +kernel)
  have hafter := out_msixUnmask_senderNoMasks
  rw [ht, nextDev, hout] at hafter
  exact absurd (Option.some.inj hafter) (by simp)

/-- REG_WRITE, LOCAL, of the one word 0x80 to HIF_VEC of cause 0: its EN is set. -/
def enableCause : List Byte :=
  leBytes 2 2 ++ leBytes 2 2 ++ zeros 6 ++ leBytes 1 2 ++ leBytes 0x010040 4 ++ zeros 8 ++ leBytes 0x80 4 ++ zeros 36

/-- A sender with that command, cause 0 not enabled and one item of it pending. -/
def senderItemPending : State :=
  senderWith { HostSt.init with items := (1, 5) :: List.replicate 15 (0, 0), descs := [fetchedCmd 0 enableCause] }
    State.reset.dev.ports

/-- The write that enables the cause clears its pending count (R83). -/
theorem items_regWrite_senderItemPending :
    nextDev (fun d => d.host.items) (exec (.regWrite (.ring 0)) senderItemPending) = some (List.replicate 16 (0, 0)) := by
  decide +kernel

/-- Refutes O16: its fifth clause takes every register that is `ordinary` as one whose write changes nothing else, and a write
that sets EN of HIF_VEC clears the pending items of the cause, which the clause says stay. -/
theorem not_generalCommands : ¬ Obligations.GeneralCommands := by
  unfold Obligations.GeneralCommands
  rintro ⟨-, -, -, -, hwrite, -⟩
  obtain ⟨t, ht, hhost, -⟩ := hwrite senderItemPending 0 enableCause (by decide +kernel) (by decide +kernel) (by decide +kernel)
    (by decide +kernel) (by decide +kernel)
  have hafter := items_regWrite_senderItemPending
  rw [ht, nextDev, hhost] at hafter
  exact absurd (Option.some.inj hafter) (by decide)

/-- A port without a packet under way, at which a frame's packet waits in the class of TIME; position 0 is present. -/
def portFrameAhead : PortSt :=
  { PortSt.init with present := [(0, 0)], txq := [[.bytes [] none true], [], [], [], []] }

/-- A sender with that port in LS0, and a NOP for position 0. -/
def senderFrameAhead : State :=
  let s := senderWith { HostSt.init with descs := [fetchedCmd 0 (zeros 64)] }
    (portFrameAhead :: List.replicate 3 PortSt.init)
  { s with dev := s.dev.set (LANE_STAT_STATE 0) P_LS0 }

/-- The frame's packet leaves before the CMD, and its one cell is counted. -/
theorem frameCells_cmdDispatch_senderFrameAhead :
    nextDev (fun d => (d.rd (XPT_FRAME_CELLS 0)).getLsbD 0) (exec (.cmdDispatch .command 0) senderFrameAhead) = some true := by
  decide +kernel

/-- Refutes O18: its first clause lets no register change, also where the port is idle and what waits at it starts; in
`senderFrameAhead` a frame's packet starts, and XPT_FRAME_CELLS counts its cell. An idle port at which a packet waits is in no
reachable state. -/
theorem not_commandsOnTheirWay : ¬ Obligations.CommandsOnTheirWay := by
  unfold Obligations.CommandsOnTheirWay
  rintro ⟨hsent, -⟩
  obtain ⟨t, ht, ⟨-, -, -, hbits⟩, -⟩ := hsent senderFrameAhead 0 (zeros 64) (by decide +kernel) (by decide +kernel)
    (by decide +kernel) (by decide +kernel) (by decide +kernel) (by decide +kernel)
  have hafter := frameCells_cmdDispatch_senderFrameAhead
  rw [ht, nextDev, hbits _ _ (by simp)] at hafter
  exact absurd hafter (by decide +kernel)

end Sys2Proof.Machine
end

section
/-! SUPPORT. The check-value units (R381 to R385): what each operation makes of one unit, and the statement. -/

namespace Sys2Proof.Machine

section
variable {d : Dev} {st : Straps} {s : State}

/-! One unit, and the fields of its registers. -/

theorem only_modCrc (n : Nat) (f : CrcUnit → CrcUnit) (d : Dev) : d.Only [.crc] [] (d.modCrc n f) :=
  .parts rfl fun p hp => by cases p <;> simp_all [Part.same, Dev.modCrc]

theorem getb_eq_true {f : Fld} : d.getb f = true ↔ d.get f ≠ 0 := by simp [Dev.getb]

theorem getb_eq_false {f : Fld} : d.getb f = false ↔ d.get f = 0 := by simp [Dev.getb]

/-- A field of one bit is 0 or 1. -/
theorem get_bit (d : Dev) {f : Fld} (hw : f.width = 1) : d.get f = 0 ∨ d.get f = 1 := by
  have hlt : d.get f < 2 ^ f.width := Nat.mod_lt _ (Nat.two_pow_pos _)
  rw [hw] at hlt
  omega

/-! Native writes (R382, R383, R384). -/

theorem native_feeds {n : Nat} {f : Dev → Dev} (hen : d.get (SNP_CTRL_EN n) = 0) (hg : crcGuarded st d n = false) :
    d.native st n f = f d := by
  simp [Dev.native, hg, getb_eq_false.mpr hen]

theorem native_guarded {n : Nat} {f : Dev → Dev} (hg : crcGuarded st d n = true) : d.native st n f = d := by
  simp [Dev.native, hg]

theorem native_snooping {n : Nat} {f : Dev → Dev} (hen : d.get (SNP_CTRL_EN n) ≠ 0) (hg : crcGuarded st d n = false) :
    d.native st n f = d.set (CRC_CTRL_FEED_IGN n) 1 := by
  simp [Dev.native, hg, getb_eq_true.mpr hen]

/-- A write of one register for an initiator that may make it. -/
theorem runBy_always {i : Initiator} {f : Straps → Dev → Dev} (h : deviceOn s) (ha : mayWrite s.straps i s.dev = true) :
    runBy i (fun _ _ => true) f s = run f s := runBy_pos h ha rfl

/-- A write that turns one unit and its COUNT, and nothing else. -/
theorem unit_counted {n : Nat} {f : Straps → Dev → Dev} {u : CrcUnit → CrcUnit} {k : Nat} (hset : Settled s)
    (hf : f s.straps s.dev = (s.dev.modCrc n u).set (CRC_COUNT_VALUE n) k) :
    AnswersWith (run f s) fun t => Only [.crc] [.field (CRC_COUNT_VALUE n)] s t ∧
      t.dev.get (CRC_COUNT_VALUE n) = k % 2 ^ 32 ∧ t.dev.crc = s.dev.crc.modify n u := by
  refine run_quiet_with hset ?_ (by simp) ?_
  · rw [hf]
    exact ((only_modCrc n u s.dev).mono (fun _ => id) (by simp)).set _ _ (by simp)
  · simp only [hf]
    exact ⟨Dev.get_set_same _ _ _ (by simp [CRC_COUNT_VALUE]), rfl⟩

/-- A write that a unit drops: FEED_IGN is set. -/
theorem feed_dropped {n : Nat} {f : Straps → Dev → Dev} (hset : Settled s)
    (hf : f s.straps s.dev = s.dev.set (CRC_CTRL_FEED_IGN n) 1) :
    AnswersWith (run f s) fun t => Only [] [.field (CRC_CTRL_FEED_IGN n)] s t ∧ t.dev.get (CRC_CTRL_FEED_IGN n) = 1 := by
  refine run_quiet_with hset ?_ (by simp) ?_
  · rw [hf]
    exact (Dev.Only.refl _ _ s.dev).set _ _ (by simp)
  · simp only [hf]
    exact Dev.get_set_same _ _ _ (by simp [CRC_CTRL_FEED_IGN])

/-- The bytes that a write of one, two or four bytes feeds (R382). -/
theorem crcFed_eq (reg : Fin 3) {bytes : List Byte} (hl : bytes.length = 1 ∨ bytes.length = 2 ∨ bytes.length = 4) :
    crcFed reg bytes = match reg with | 0 => bytes | 1 => (bytes ++ [0]).take 2 | 2 => bytes.take 1 := by
  obtain ⟨a, rfl⟩ | ⟨a, b, rfl⟩ | ⟨a, b, c, e, rfl⟩ :
      (∃ a, bytes = [a]) ∨ (∃ a b, bytes = [a, b]) ∨ ∃ a b c e, bytes = [a, b, c, e] := by
    obtain h | h | h := hl
    · exact .inl (List.length_eq_one_iff.mp h)
    · exact .inr (.inl (List.length_eq_two.mp h))
    · match bytes, h with
      | [a, b, c, e], _ => exact .inr (.inr ⟨a, b, c, e, rfl⟩)
  all_goals
    match reg with
    | 0 => rfl
    | 1 => simp [crcFed, slice, byteAt, List.range_succ]
    | 2 => simp [crcFed, slice, byteAt, List.range_succ]

theorem opCrcData_feeds {n reg : Nat} {bytes : List Byte} (hen : d.get (SNP_CTRL_EN n) = 0) (hg : crcGuarded st d n = false) :
    d.opCrcData st n reg bytes =
      (d.modCrc n fun u => { u with state := crcFeed (d.crcKind n) (u.state % 2 ^ (d.crcKind n).width) (crcFed reg bytes) }).set
        (CRC_COUNT_VALUE n) (d.get (CRC_COUNT_VALUE n) + (crcFed reg bytes).length) := by
  rw [Dev.opCrcData, if_neg (by simp [crcSnooping, getb_eq_false.mpr hen, hg])]
  rfl

theorem opCrcData_drops {n reg : Nat} {bytes : List Byte} (h : d.get (SNP_CTRL_EN n) ≠ 0 ∨ crcGuarded st d n = true) :
    d.opCrcData st n reg bytes = d.set (CRC_CTRL_FEED_IGN n) 1 := by
  rw [Dev.opCrcData, if_pos (by simpa [crcSnooping, getb_eq_true] using h)]

/-! Captures (R383). -/

theorem opSnoopArm_arms {n : Nat} (hen : d.get (SNP_CTRL_EN n) ≠ 0) (hg : crcGuarded st d n = false) :
    d.opSnoopArm st n = d.modCrc n fun u => { u with armed := true } := by
  simp [Dev.opSnoopArm, hg, getb_eq_true.mpr hen]

theorem opSnoopArm_idle {n : Nat} (h : d.get (SNP_CTRL_EN n) = 0 ∨ crcGuarded st d n = true) : d.opSnoopArm st n = d := by
  rw [Dev.opSnoopArm, if_pos (by simpa [getb_eq_false, or_comm] using h)]

/-- The device with the result of a capture latched. -/
def Dev.latchCapture (d : Dev) (n : Nat) (u : CrcUnit) : Dev :=
  let d1 := d.setAll [(SNP_RESULT_VALUE n, u.snoop ^^^ (d.crcKind n).xorOut), (SNP_COUNT_VALUE n, u.count)]
  if d.getb (SNP_STAT_DONE n) then d1.set (SNP_STAT_OVR n) 1 else d1.set (SNP_STAT_DONE n) 1

/-- The registers that the end of a capture changes. -/
def captureAreas (n : Nat) : List Area :=
  [.field (SNP_RESULT_VALUE n), .field (SNP_COUNT_VALUE n), .field (SNP_STAT_DONE n), .field (SNP_STAT_OVR n),
    .field (SNP_STAT_RUN n)]

theorem latchCapture_only (d : Dev) (n : Nat) (u : CrcUnit) : d.Only [.crc] (captureAreas n) (d.latchCapture n u) := by
  have hlatched : d.Only [.crc] (captureAreas n)
      (d.setAll [(SNP_RESULT_VALUE n, u.snoop ^^^ (d.crcKind n).xorOut), (SNP_COUNT_VALUE n, u.count)]) :=
    (Dev.Only.refl _ _ d).setAll _ (by simp [captureAreas])
  exact .ite (hlatched.set _ _ (by simp [captureAreas])) (hlatched.set _ _ (by simp [captureAreas]))

/-- What the end of a capture leaves in the fields of SNP_RESULT, SNP_COUNT and SNP_STAT but RUN. -/
theorem latchCapture_fields (d : Dev) (n : Nat) (u : CrcUnit) :
    let e := d.latchCapture n u
    e.get (SNP_RESULT_VALUE n) = (u.snoop ^^^ (d.crcKind n).xorOut) % 2 ^ 32 ∧ e.get (SNP_COUNT_VALUE n) = u.count % 2 ^ 32 ∧
    e.get (SNP_STAT_DONE n) = 1 ∧ e.get (SNP_STAT_OVR n) = if d.getb (SNP_STAT_DONE n) then 1 else d.get (SNP_STAT_OVR n) := by
  have hkeep (f : Fld) (hr : (SNP_RESULT_VALUE n).apart f) (hc : (SNP_COUNT_VALUE n).apart f) :
      (d.setAll [(SNP_RESULT_VALUE n, u.snoop ^^^ (d.crcKind n).xorOut), (SNP_COUNT_VALUE n, u.count)]).get f = d.get f :=
    get_setAll_apart _ (by simp [hr, hc])
  have hresult := get_setAll (d := d) (g := SNP_RESULT_VALUE n) (v := u.snoop ^^^ (d.crcKind n).xorOut) []
    [(SNP_COUNT_VALUE n, u.count)] (by simp [SNP_RESULT_VALUE])
    (by simp [Fld.apart, SNP_RESULT_VALUE, SNP_COUNT_VALUE, SNP_RESULT, SNP_COUNT])
  have hcount := get_setAll (d := d) (g := SNP_COUNT_VALUE n) (v := u.count)
    [(SNP_RESULT_VALUE n, u.snoop ^^^ (d.crcKind n).xorOut)] [] (by simp [SNP_COUNT_VALUE]) (by simp)
  dsimp only [Dev.latchCapture]
  split
  case isTrue hdone =>
    refine ⟨(Dev.get_set_ne _ _ _ _ ?_).trans hresult, (Dev.get_set_ne _ _ _ _ ?_).trans hcount,
      (Dev.get_set_ne _ _ _ _ ?_).trans ((hkeep _ ?_ ?_).trans ((get_bit d rfl).resolve_left (getb_eq_true.mp hdone))),
      Dev.get_set_same _ _ _ (by simp [SNP_STAT_OVR])⟩ <;>
    simp [Fld.apart, SNP_RESULT_VALUE, SNP_COUNT_VALUE, SNP_RESULT, SNP_COUNT, SNP_STAT_DONE, SNP_STAT_OVR, SNP_STAT]
  case isFalse hdone =>
    refine ⟨(Dev.get_set_ne _ _ _ _ ?_).trans hresult, (Dev.get_set_ne _ _ _ _ ?_).trans hcount,
      Dev.get_set_same _ _ _ (by simp [SNP_STAT_DONE]), (Dev.get_set_ne _ _ _ _ ?_).trans (hkeep _ ?_ ?_)⟩ <;>
    simp [Fld.apart, SNP_RESULT_VALUE, SNP_COUNT_VALUE, SNP_RESULT, SNP_COUNT, SNP_STAT_DONE, SNP_STAT_OVR, SNP_STAT]

/-- A unit after its capture: the next capture starts with CONT, and without it the unit stops (R383). -/
def Dev.afterCapture (d : Dev) (n : Nat) (u : CrcUnit) : CrcUnit :=
  if d.get (SNP_CTRL_CONT n) = 1 then
    { u with armed := false, running := true, ended := false, count := 0,
             snoop := d.get (SNP_SEED_VALUE n) % 2 ^ (d.crcKind n).width }
  else { u with running := false, ended := false }

/-- The end of a capture: the result is latched, the unit goes on or stops, and RUN says which. -/
theorem opCaptureEnd_eq (d : Dev) (n : Nat) : d.opCaptureEnd n =
    ((d.latchCapture n (d.crcUnit n)).modCrc n (d.afterCapture n)).set (SNP_STAT_RUN n) (d.get (SNP_CTRL_CONT n)) := by
  have hkeep (f : Fld) (hf : ∀ x ∈ captureAreas n, ∀ k, ¬ x.has f.addr k) :
      (d.latchCapture n (d.crcUnit n)).get f = d.get f := (latchCapture_only d n _).get_eq f hf
  obtain hcont | hcont := get_bit d (f := SNP_CTRL_CONT n) rfl
  · have hstop : d.afterCapture n = fun u => { u with running := false, ended := false } := by
      funext u; simp [Dev.afterCapture, hcont]
    rw [hstop, hcont, Dev.opCaptureEnd]
    simp only [getb_eq_false.mpr hcont, Bool.false_eq_true, if_false]
    rfl
  · have hnext : d.afterCapture n = fun u => { u with
        armed := false, running := true, ended := false, count := 0
        snoop := (d.latchCapture n (d.crcUnit n)).get (SNP_SEED_VALUE n) %
          2 ^ ((d.latchCapture n (d.crcUnit n)).crcKind n).width } := by
      funext u
      rw [Dev.crcKind, hkeep, hkeep]
      · simp [Dev.afterCapture, hcont, Dev.crcKind]
      · intro x hx k
        simp only [captureAreas, List.mem_cons, List.not_mem_nil, or_false] at hx
        obtain rfl | rfl | rfl | rfl | rfl := hx <;>
          simp [Area.has, CRC_CTRL_POLY, CRC_CTRL, SNP_RESULT_VALUE, SNP_COUNT_VALUE, SNP_STAT_DONE, SNP_STAT_OVR,
            SNP_STAT_RUN, SNP_RESULT, SNP_COUNT, SNP_STAT] <;> omega
      · intro x hx k
        simp only [captureAreas, List.mem_cons, List.not_mem_nil, or_false] at hx
        obtain rfl | rfl | rfl | rfl | rfl := hx <;>
          simp [Area.has, SNP_SEED_VALUE, SNP_SEED, SNP_RESULT_VALUE, SNP_COUNT_VALUE, SNP_STAT_DONE, SNP_STAT_OVR,
            SNP_STAT_RUN, SNP_RESULT, SNP_COUNT, SNP_STAT]
    rw [hnext, hcont, Dev.opCaptureEnd]
    simp only [getb_eq_true.mpr (by rw [hcont]; decide : d.get (SNP_CTRL_CONT n) ≠ 0), if_true]
    rfl

/-- SNOOP_CAPTURE_END of a unit whose captured frame is over (R383). -/
theorem snoopCaptureEnd_answers {n : Fin 8} {u : CrcUnit} (hon : deviceOn s) (hu : s.dev.crc[(n : Nat)]? = some u)
    (hg : crcGuarded s.straps s.dev n = false) (hrun : u.running = true) (hend : u.ended = true) (hcount : u.count < 2 ^ 32) :
    AnswersWith (exec (.snoopCaptureEnd n) s) fun t => Only [.crc] (captureAreas n) s t ∧
      t.dev.get (SNP_RESULT_VALUE n) = (u.snoop ^^^ (s.dev.crcKind n).xorOut) % 2 ^ 32 ∧
      t.dev.get (SNP_COUNT_VALUE n) = u.count ∧ t.dev.get (SNP_STAT_DONE n) = 1 ∧
      (s.dev.get (SNP_STAT_DONE n) = 1 → t.dev.get (SNP_STAT_OVR n) = 1) ∧
      (s.dev.get (SNP_STAT_DONE n) = 0 → t.dev.get (SNP_STAT_OVR n) = s.dev.get (SNP_STAT_OVR n)) ∧
      t.dev.get (SNP_STAT_RUN n) = s.dev.get (SNP_CTRL_CONT n) ∧
      t.dev.crc[(n : Nat)]? = some (s.dev.afterCapture n u) := by
  have hunit : s.dev.crcUnit n = u := by simp [Dev.crcUnit, nth, hu]
  have hexec : exec (.snoopCaptureEnd n) s = run (fun _ d => d.opCaptureEnd n) s :=
    runIf_pos (s := s) (f := fun _ d => d.opCaptureEnd n)
      (c := fun st d => d.awake && (d.crcUnit n).running && (d.crcUnit n).ended && !crcGuarded st d n)
      (by simp [awake_of_on hon, hunit, hrun, hend, hg])
  have hcont : s.dev.get (SNP_CTRL_CONT n) < 2 := Nat.mod_lt _ (Nat.two_pow_pos _)
  obtain ⟨hresult, hcounted, hdone, hovr⟩ := latchCapture_fields s.dev n u
  rw [hexec]
  refine run_quiet_with hon.2 (ps := [.crc]) (as := captureAreas n) ?_ (by simp) ?_
  · rw [opCaptureEnd_eq]
    exact ((latchCapture_only ..).trans ((only_modCrc ..).mono (fun _ => id) (by simp))).set _ _ (by simp [captureAreas])
  · simp only [opCaptureEnd_eq, hunit]
    have hkeep (f : Fld) (hf : (SNP_STAT_RUN n).apart f) :
        (((s.dev.latchCapture n u).modCrc n (s.dev.afterCapture n)).set (SNP_STAT_RUN n) (s.dev.get (SNP_CTRL_CONT n))).get f =
          (s.dev.latchCapture n u).get f := Dev.get_set_ne _ _ _ _ hf
    rw [hkeep, hkeep, hkeep, hkeep, hresult, hcounted, hdone, hovr, Nat.mod_eq_of_lt hcount, Dev.get_set_same]
    · refine ⟨rfl, rfl, rfl, fun h => by simp [Dev.getb, h], fun h => by simp [Dev.getb, h], Nat.mod_eq_of_lt hcont, ?_⟩
      have hcrc : (s.dev.latchCapture n u).crc = s.dev.crc := by
        dsimp only [Dev.latchCapture]
        split <;> rfl
      simp [Dev.modCrc, modAt, hcrc, hu]
    all_goals simp [Fld.apart, SNP_STAT_RUN, SNP_STAT_DONE, SNP_STAT_OVR, SNP_RESULT_VALUE, SNP_COUNT_VALUE, SNP_STAT, SNP_RESULT,
      SNP_COUNT]

end

/-- Settles O33: `native_feeds`, `native_guarded` and `native_snooping` for START and SEED, `opCrcData_feeds` and
`opCrcData_drops` for DATA, and `snoopCaptureEnd_answers` for the end of a capture. -/
theorem checkValueUnits : Obligations.CheckValueUnits := by
  unfold Obligations.CheckValueUnits
  refine ⟨?started, ?seeded, ?fed, ?dropped, ?guarded, ?snooping, ?armed, ?notArmed, ?captured, by decide +kernel⟩
  case started =>
    intro s init n hon ha hen hg
    rw [show exec (.crcStart init n) s = run _ s from runBy_always hon ha]
    exact unit_counted (f := fun st d => d.opCrcStart st n) hon.2 (native_feeds hen hg)
  case seeded =>
    intro s init n seed hon ha hen hg
    rw [show exec (.crcSeedWrite init n seed) s = run _ s from runBy_always hon ha]
    exact unit_counted (f := fun st d => d.opCrcSeed st n seed.toNat) hon.2 (native_feeds hen hg)
  case fed =>
    intro s init n reg bytes hon ha hl hen hg
    rw [show exec (.crcDataWrite init n reg bytes) s = run _ s from runBy_always hon ha]
    have hdone := unit_counted (f := fun st d => d.opCrcData st n reg bytes) hon.2 (opCrcData_feeds hen hg)
    rw [crcFed_eq reg hl] at hdone
    exact hdone
  case dropped =>
    intro s init n reg bytes hon ha h
    rw [show exec (.crcDataWrite init n reg bytes) s = run _ s from runBy_always hon ha]
    exact feed_dropped hon.2 (opCrcData_drops h)
  case guarded =>
    intro s init n seed hon ha hg
    exact ⟨(runBy_always hon ha).trans (run_same hon.2 (native_guarded hg)),
      (runBy_always hon ha).trans (run_same hon.2 (native_guarded hg))⟩
  case snooping =>
    intro s init n seed hon ha hen hg
    rw [show exec (.crcStart init n) s = run _ s from runBy_always hon ha,
      show exec (.crcSeedWrite init n seed) s = run _ s from runBy_always hon ha]
    exact ⟨feed_dropped (f := fun st d => d.opCrcStart st n) hon.2 (native_snooping hen hg),
      feed_dropped (f := fun st d => d.opCrcSeed st n seed.toNat) hon.2 (native_snooping hen hg)⟩
  case armed =>
    intro s init n hon ha hen hg
    rw [show exec (.snoopArm init n) s = run _ s from runBy_always hon ha]
    have harm := opSnoopArm_arms hen hg
    refine run_quiet_with hon.2 ?_ (by simp) ?_
    · rw [harm]
      exact only_modCrc ..
    · dsimp only
      rw [harm]
      rfl
  case notArmed =>
    intro s init n hon ha h
    exact (runBy_always hon ha).trans (run_same hon.2 (opSnoopArm_idle h))
  case captured =>
    intro s n u hon hu hg hrun hend hcount
    exact snoopCaptureEnd_answers hon hu hg hrun hend hcount

end Sys2Proof.Machine
end

section
/-! SUPPORT. The host interface of a sender: the bits of a number, bytes at an offset, what an interrupt leaves, and what stops a
ring (R59, R77, R83). -/

namespace Sys2Proof.Machine

section
variable {d e : Dev} {st : Straps} {s : State}

/-! The bits of a number. -/

theorem natBit_eq_testBit (v k : Nat) : natBit v k = v.testBit k := by
  rw [natBit, natBits, Nat.testBit_eq_decide_div_mod_eq, Nat.shiftRight_eq_div_pow, Nat.pow_one, beq_eq_decide]

/-- Adding the power of a clear bit sets that bit and no other. -/
theorem testBit_add_two_pow {v k : Nat} (h : v.testBit k = false) (j : Nat) :
    (v + 2 ^ k).testBit j = if j = k then true else v.testBit j := by
  have hlow : 2 ^ k + v % 2 ^ k < 2 ^ (k + 1) := by
    have := Nat.mod_lt v (Nat.two_pow_pos k)
    rw [Nat.pow_succ]; omega
  have hv : v = (v >>> (k + 1)) <<< (k + 1) + v % 2 ^ k := by
    have hdiv : v / 2 ^ k % 2 = 0 := by
      rw [Nat.testBit_eq_decide_div_mod_eq] at h
      have := of_decide_eq_false h; omega
    rw [Nat.shiftRight_eq_div_pow, Nat.shiftLeft_eq, Nat.pow_succ, ← Nat.div_div_eq_div_mul]
    have h1 := Nat.div_add_mod v (2 ^ k)
    have h2 := Nat.div_add_mod (v / 2 ^ k) 2
    rw [hdiv, Nat.add_zero] at h2
    calc v = 2 ^ k * (2 * (v / 2 ^ k / 2)) + v % 2 ^ k := by rw [h2, h1]
      _ = v / 2 ^ k / 2 * (2 ^ k * 2) + v % 2 ^ k := by ring
  have hsum : v + 2 ^ k = (v >>> (k + 1)) <<< (k + 1) + (2 ^ k + v % 2 ^ k) := by omega
  have hor := Nat.two_pow_add_eq_or_of_lt (Nat.mod_lt v (Nat.two_pow_pos k)) 1
  rw [Nat.mul_one] at hor
  have hvj := congrArg (fun x => x.testBit j) hv
  rw [Nat.shiftLeft_add_eq_or_of_lt (by omega), Nat.testBit_or] at hvj
  rw [hsum, Nat.shiftLeft_add_eq_or_of_lt hlow, Nat.testBit_or, hor, Nat.testBit_or, hvj,
    Nat.testBit_two_pow]
  by_cases hj : j = k
  · subst hj; simp
  · simp [hj, Ne.symm hj]

/-- Setting or clearing a bit of a number changes no other. -/
theorem natBit_natSetBit (v k j : Nat) (b : Bool) : natBit (natSetBit v k b) j = if j = k then b else natBit v j := by
  simp only [natSetBit, natBit_eq_testBit]
  by_cases hb : v.testBit k = b
  · rw [if_pos (by simpa using hb)]
    by_cases hj : j = k
    · simp [hj, hb]
    · simp [hj]
  · rw [if_neg (by simpa using hb)]
    cases b
    · have hset : v.testBit k = true := by simpa using hb
      have hle : 2 ^ k ≤ v := Nat.ge_two_pow_of_testBit hset
      have hw : (v - 2 ^ k).testBit k = false := by
        have h := Nat.testBit_two_pow_add_eq (v - 2 ^ k) k
        rw [Nat.add_sub_cancel' hle, hset] at h
        simpa using h.symm
      have h := testBit_add_two_pow hw j
      rw [Nat.sub_add_cancel hle] at h
      by_cases hj : j = k
      · simp [hj, hw]
      · simp [hj, h]
    · exact testBit_add_two_pow (by simpa using hb) j

theorem natBit_mod {v k w : Nat} (h : k < w) : natBit (v % 2 ^ w) k = natBit v k := by
  simp [natBit_eq_testBit, Nat.testBit_mod_two_pow, h]

/-! Bytes at an offset. -/

theorem byteAt_append_left {l m : List Byte} {k : Nat} (h : k < l.length) : byteAt (l ++ m) k = byteAt l k := by
  simp [byteAt, List.getElem?_append_left h]

theorem byteAt_append_length (l : List Byte) (b : Byte) (m : List Byte) : byteAt (l ++ b :: m) l.length = b.toNat := by
  simp [byteAt]

/-- The number that stands behind a list of bytes. -/
theorem leAt_append_leBytes (n v : Nat) (l m : List Byte) : leAt (l ++ (leBytes v n ++ m)) l.length n = v % 256 ^ n := by
  induction n generalizing v l with
  | zero => simp [leAt, Nat.mod_one]
  | succ n ih =>
    have htail := ih (v / 256) (l ++ [BitVec.ofNat 8 v])
    simp only [List.append_assoc, List.cons_append, List.nil_append, List.length_append, List.length_cons,
      List.length_nil, Nat.zero_add] at htail
    simp only [leAt, leBytes, List.cons_append, byteAt_append_length, htail, BitVec.toNat_ofNat]
    rw [show (2 : Nat) ^ 8 = 256 from rfl, Nat.pow_succ', Nat.mod_mul]

/-! Interrupts (R61, R83). -/

theorem only_host_out (as : List Area) (x : HostSt) (o : List Out) (d : Dev) :
    d.Only [.host, .out] as { d with host := x, out := o } :=
  .parts rfl fun p hp => by cases p <;> simp_all [Part.same]

/-- A vector's message, with the shadow page before it, or its Pending Bit: the host's indices stay. -/
theorem sendVector_parts (d : Dev) (v : Nat) :
    ∃ x o, d.sendVector v = { d with host := x, out := o } ∧ x.hostIdx = d.host.hostIdx := by
  unfold Dev.sendVector
  split
  · exact ⟨_, d.out, rfl, rfl⟩
  · unfold Dev.sendMessage Dev.freshShadow
    split <;> exact ⟨_, _, rfl, rfl⟩

/-- A cause that is signalled sets its bit of HIF_ISR, and moves the host's part and what has been sent. -/
theorem signal_parts (d : Dev) (c : Nat) : ∃ x o, x.hostIdx = d.host.hostIdx ∧
    d.signal c = { d with host := x, out := o }.set HIF_ISR_CAUSE (natSetBit (d.get HIF_ISR_CAUSE) c true) := by
  obtain ⟨x, o, hd, hx⟩ := sendVector_parts d (d.get (HIF_VEC_VECTOR c))
  refine ⟨{ x with items := setAt x.items c (0, 0) }, o, hx, ?_⟩
  rw [Dev.signal, hd]
  rfl

theorem raise_off {c : Nat} (h : d.get (HIF_VEC_EN c) = 0) : d.raise c = d := by simp [Dev.raise, Dev.getb, h]

theorem raise_signals {c : Nat} (h : d.get (HIF_VEC_EN c) ≠ 0) (hc : 2 ≤ c) : d.raise c = d.signal c := by
  simp [Dev.raise, Dev.getb, h, hc]

theorem signal_only (d : Dev) (c : Nat) : d.Only [.host, .out] [.field HIF_ISR_CAUSE] (d.signal c) := by
  obtain ⟨x, o, -, hd⟩ := signal_parts d c
  rw [hd]
  exact (only_host_out _ x o d).set _ _ (by simp)

theorem signal_hostIdx (d : Dev) (c : Nat) : (d.signal c).host.hostIdx = d.host.hostIdx := by
  obtain ⟨x, o, hx, hd⟩ := signal_parts d c
  rw [hd]
  exact hx

theorem signal_isr (d : Dev) {c : Nat} (hc : c < 16) : natBit ((d.signal c).get HIF_ISR_CAUSE) c = true := by
  obtain ⟨x, o, -, hd⟩ := signal_parts d c
  rw [hd, Dev.get_set_same _ _ _ (by simp [HIF_ISR_CAUSE]), HIF_ISR_CAUSE, natBit_mod hc, natBit_natSetBit]
  simp

/-- A raised cause, of those that signal on each item. -/
theorem raise_only (d : Dev) {c : Nat} (hc : 2 ≤ c) : d.Only [.host, .out] [.field HIF_ISR_CAUSE] (d.raise c) := by
  by_cases h : d.get (HIF_VEC_EN c) = 0
  · rw [raise_off h]
    exact .refl ..
  · rw [raise_signals h hc]
    exact signal_only d c

theorem raise_hostIdx (d : Dev) {c : Nat} (hc : 2 ≤ c) : (d.raise c).host.hostIdx = d.host.hostIdx := by
  by_cases h : d.get (HIF_VEC_EN c) = 0
  · rw [raise_off h]
  · rw [raise_signals h hc, signal_hostIdx]

theorem raise_isr {c : Nat} (hc : 2 ≤ c) (hlt : c < 16) (h : d.get (HIF_VEC_EN c) = 1) :
    natBit ((d.raise c).get HIF_ISR_CAUSE) c = true := by
  rw [raise_signals (by omega) hc, signal_isr d hlt]

/-! Descriptors that end (R68, R73). -/

/-- Only the descriptors in flight, the completions that wait and the CMDs outstanding have changed. -/
def Dev.DescsMoved (d e : Dev) : Prop :=
  ∃ ds cs os, e = { d with host := { d.host with descs := ds, cpls := cs, out := os } }

theorem Dev.DescsMoved.refl (d : Dev) : d.DescsMoved d := ⟨_, _, _, rfl⟩

theorem Dev.DescsMoved.trans {f : Dev} (h : d.DescsMoved e) (h' : e.DescsMoved f) : d.DescsMoved f := by
  obtain ⟨_, _, _, rfl⟩ := h
  obtain ⟨_, _, _, rfl⟩ := h'
  exact ⟨_, _, _, rfl⟩

theorem Dev.DescsMoved.each {α : Type} (l : List α) {g : Dev → α → Dev} (hg : ∀ (c : Dev) (x : α), c.DescsMoved (g c x)) (d : Dev) :
    d.DescsMoved (d.each l g) := by
  unfold Dev.each
  induction l generalizing d with
  | nil => exact .refl d
  | cons x l ih => exact (hg d x).trans (ih _)

theorem Dev.DescsMoved.only (h : d.DescsMoved e) (as : List Area) : d.Only [.host] as e := by
  obtain ⟨_, _, _, rfl⟩ := h
  exact Dev.only_host as _ d

theorem Dev.DescsMoved.hostIdx (h : d.DescsMoved e) : e.host.hostIdx = d.host.hostIdx := by
  obtain ⟨_, _, _, rfl⟩ := h
  rfl

theorem postDesc_moved (d : Dev) (x : Desc) (status value : Nat) : d.DescsMoved (d.postDesc x status value) := by
  unfold Dev.postDesc
  split <;> exact ⟨_, _, _, rfl⟩

theorem release_moved (d : Dev) (ring index : Nat) : d.DescsMoved (d.release ring index) := by
  unfold Dev.release
  split
  · split
    · split
      · exact .refl d
      · exact postDesc_moved ..
    · exact .refl d
  · exact .refl d

theorem finishDesc_moved (d : Dev) (ring index status value : Nat) : d.DescsMoved (d.finishDesc ring index status value) := by
  unfold Dev.finishDesc
  split
  · exact .refl d
  · split
    · exact .refl d
    · exact Dev.DescsMoved.trans ⟨_, _, _, rfl⟩ (.each _ (fun c i => release_moved c ring i) _)

theorem abortFetched_moved (d : Dev) (ring : Nat) : d.DescsMoved (d.abortFetched ring) :=
  .each _ (fun c (x : Desc) => finishDesc_moved c ring x.index ST_ABORTED 0) d

theorem abortFetched_none (ring : Nat) (h : d.host.descs = []) : d.abortFetched ring = d := by
  simp [Dev.abortFetched, h, Dev.each]

/-! A ring that stops on an error (R50, R59). -/

/-- The registers that an error of ring `n` changes. -/
def ringErrorAreas (n : Nat) : List Area :=
  [.field (RING_CFG_EN n), .field (RING_ERR_CODE n), .field (RING_ERR_IDX_INDEX n), .field HIF_ISR_CAUSE]

/-- The ring is stopped, with the error in its registers, and no interrupt is raised yet. -/
def Dev.ringStopped (d : Dev) (n code index : Nat) : Dev :=
  (d.stopRing n).setAll [(RING_ERR_CODE n, code), (RING_ERR_IDX_INDEX n, index)]

theorem ringError_eq (d : Dev) (n code index : Nat) : d.ringError n code index = (d.ringStopped n code index).raise IRQ_RING_ERR :=
  rfl

theorem ringStopped_none (n code index : Nat) (h : d.host.descs = []) : d.ringStopped n code index =
    (d.set (RING_CFG_EN n) 0).setAll [(RING_ERR_CODE n, code), (RING_ERR_IDX_INDEX n, index)] := by
  rw [Dev.ringStopped, Dev.stopRing, abortFetched_none n (by simpa using h)]

theorem stopRing_only (d : Dev) (n : Nat) : d.Only [.host] [.field (RING_CFG_EN n)] (d.stopRing n) :=
  ((Dev.Only.refl _ _ d).set _ _ (by simp)).trans ((abortFetched_moved _ n).only _)

theorem stopRing_en (d : Dev) (n : Nat) : (d.stopRing n).get (RING_CFG_EN n) = 0 := by
  obtain ⟨_, _, _, h⟩ := abortFetched_moved (d.set (RING_CFG_EN n) 0) n
  rw [Dev.stopRing, h]
  exact Dev.get_set_same _ _ _ (by simp [RING_CFG_EN])

theorem ringStopped_only (d : Dev) (n code index : Nat) : d.Only [.host, .out] (ringErrorAreas n) (d.ringStopped n code index) :=
  ((stopRing_only d n).mono (by simp) (by simp [ringErrorAreas])).setAll _ (by simp [ringErrorAreas])

theorem ringError_only (d : Dev) (n code index : Nat) : d.Only [.host, .out] (ringErrorAreas n) (d.ringError n code index) :=
  (ringStopped_only d n code index).trans ((raise_only _ (by decide)).mono (by simp) (by simp [ringErrorAreas]))

/-- What an error leaves in the registers of its ring. -/
theorem ringError_fields (d : Dev) (n code index : Nat) :
    let e := d.ringError n code index
    e.get (RING_CFG_EN n) = 0 ∧ e.get (RING_ERR_CODE n) = code % 2 ^ 4 ∧ e.get (RING_ERR_IDX_INDEX n) = index % 2 ^ 32 := by
  have hraise (f : Fld) (hf : f.addr ≠ HIF_ISR) :
      (d.ringError n code index).get f = (d.ringStopped n code index).get f :=
    (raise_only (d.ringStopped n code index) (c := IRQ_RING_ERR) (by decide)).get_eq f
      (by simpa [Area.has, HIF_ISR_CAUSE] using fun k h => absurd h hf)
  refine ⟨(hraise _ ?_).trans ((get_setAll_apart _ ?_).trans (stopRing_en d n)), (hraise _ ?_).trans
    (get_setAll [] [_] ?_ ?_), (hraise _ ?_).trans (get_setAll [_] [] ?_ (by simp))⟩ <;>
  simp [Fld.apart, RING_CFG_EN, RING_ERR_CODE, RING_ERR_IDX_INDEX, RING_CFG, RING_ERR, RING_ERR_IDX, HIF_ISR] <;> omega

theorem ringError_hostIdx (d : Dev) (n code index : Nat) : (d.ringError n code index).host.hostIdx = d.host.hostIdx := by
  rw [ringError_eq, raise_hostIdx _ (by decide), Dev.ringStopped, Dev.setAll_host, Dev.stopRing, (abortFetched_moved _ n).hostIdx,
    Dev.set_host]

/-- The error leaves the cause alone that it raises. -/
theorem ringStopped_vecEn (d : Dev) (n code index : Nat) :
    (d.ringStopped n code index).get (HIF_VEC_EN IRQ_RING_ERR) = d.get (HIF_VEC_EN IRQ_RING_ERR) := by
  refine (ringStopped_only d n code index).get_eq _ ?_
  simp [ringErrorAreas, Area.has, RING_CFG_EN, RING_ERR_CODE, RING_ERR_IDX_INDEX, RING_CFG, RING_ERR, RING_ERR_IDX, HIF_ISR_CAUSE,
    HIF_ISR, HIF_VEC_EN, HIF_VEC, IRQ_RING_ERR]
  exact ⟨fun k h => by omega, fun k h => by omega, fun k h => by omega⟩

theorem ringError_isr (n code index : Nat) (h : d.get (HIF_VEC_EN IRQ_RING_ERR) = 1) :
    natBit ((d.ringError n code index).get HIF_ISR_CAUSE) IRQ_RING_ERR = true := by
  rw [ringError_eq]
  exact raise_isr (by decide) (by decide) ((ringStopped_vecEn ..).trans h)

/-- With nothing in flight and the cause disabled, an error is its three fields. -/
theorem ringError_quiet (n code index : Nat) (hd : d.host.descs = []) (h : d.get (HIF_VEC_EN IRQ_RING_ERR) = 0) :
    d.ringError n code index =
      (d.set (RING_CFG_EN n) 0).setAll [(RING_ERR_CODE n, code), (RING_ERR_IDX_INDEX n, index)] := by
  rw [ringError_eq, raise_off ((ringStopped_vecEn ..).trans h), ringStopped_none n code index hd]

end
end Sys2Proof.Machine
end

section
/-! SUPPORT. Polls and shadow writes (R50, R56 to R61): the indices of the doorbell page taken one ring after another, and the
statements of polls, of the shadow page and of an index out of range. -/

namespace Sys2Proof.Machine

section
variable {d e : Dev} {st : Straps} {s : State}

/-! The doorbell page (R56). -/

/-- The five indices of the doorbell page, and what follows them. -/
def doorbellPage (idx : Fin 5 → Word) (rest : List Byte) : List Byte :=
  leBytes (idx 0).toNat 4 ++ leBytes (idx 1).toNat 4 ++ leBytes (idx 2).toNat 4 ++ leBytes (idx 3).toNat 4 ++
    leBytes (idx 4).toNat 4 ++ rest

theorem leAt_word (w : Word) (l m : List Byte) {k : Nat} (hk : l.length = k) :
    leAt (l ++ (leBytes w.toNat 4 ++ m)) k 4 = w.toNat := by
  subst hk
  rw [leAt_append_leBytes]
  exact Nat.mod_eq_of_lt w.isLt

theorem doorbellIndex_page (idx : Fin 5 → Word) (rest : List Byte) (k : Fin 5) :
    doorbellIndex (doorbellPage idx rest) k = (idx k).toNat := by
  simp only [doorbellIndex, doorbellPage, List.append_assoc]
  match k with
  | 0 => exact leAt_word _ [] _ rfl
  | 1 => exact leAt_word _ (leBytes (idx 0).toNat 4) _ (by simp)
  | 2 =>
    have h := leAt_word (idx 2) (leBytes (idx 0).toNat 4 ++ leBytes (idx 1).toNat 4)
      (leBytes (idx 3).toNat 4 ++ (leBytes (idx 4).toNat 4 ++ rest)) (k := 8) (by simp)
    rwa [List.append_assoc] at h
  | 3 =>
    have h := leAt_word (idx 3) (leBytes (idx 0).toNat 4 ++ (leBytes (idx 1).toNat 4 ++ leBytes (idx 2).toNat 4))
      (leBytes (idx 4).toNat 4 ++ rest) (k := 12) (by simp)
    rwa [List.append_assoc, List.append_assoc] at h
  | 4 =>
    have h := leAt_word (idx 4)
      (leBytes (idx 0).toNat 4 ++ (leBytes (idx 1).toNat 4 ++ (leBytes (idx 2).toNat 4 ++ leBytes (idx 3).toNat 4))) rest
      (k := 16) (by simp)
    rwa [List.append_assoc, List.append_assoc, List.append_assoc] at h

/-! One index (R59). -/

/-- The index of a ring is out of range: its ring is enabled, and it lies more than the ring's size away. -/
def Dev.indexBad (d : Dev) (n idx : Nat) : Prop := d.ringEn n = true ∧ d.ringSize n < ringCount n (d.ringIdx n) idx

/-- An index is above the ring's size from its partner where it does not fit. -/
theorem indexFits_iff (d : Dev) (n : Fin 5) (idx : Word) :
    indexFits d n idx ↔ ringCount n (d.ringIdx n) idx.toNat ≤ d.ringSize n := by
  have hdev : d.get (RING_IDX_INDEX n) < 2 ^ 32 := Nat.mod_lt _ (Nat.two_pow_pos _)
  have hval : ((n : Nat) < 3) = (n < 3) := by simp [Fin.lt_def]
  unfold indexFits ringCount Dev.ringIdx Dev.ringSize dist32
  simp only [hval]
  rw [Nat.mod_eq_of_lt hdev, Nat.mod_eq_of_lt idx.isLt]
  split <;> exact Iff.rfl

theorem takeIndex_bad {n idx : Nat} (h : d.indexBad n idx) : d.takeIndex n idx = d.ringError n 1 idx := by
  simp [Dev.takeIndex, h.1, h.2]

/-- The host's indices with those of the enabled rings of a list taken. -/
def Dev.takenIndices (d : Dev) (idx : Nat → Nat) (h : List Nat) (l : List Nat) : List Nat :=
  l.foldl (fun h k => if d.ringEn k then setAt h k (idx k) else h) h

/-- Indices of which none is bad are taken, and nothing else happens. -/
theorem takeIndex_each {idx : Nat → Nat} {l : List Nat} (hgood : ∀ k ∈ l, ¬ d.indexBad k (idx k)) :
    (d.each l fun d k => d.takeIndex k (idx k)) =
      { d with host := { d.host with hostIdx := d.takenIndices idx d.host.hostIdx l } } := by
  suffices h : ∀ x : List Nat, ({ d with host := { d.host with hostIdx := x } }.each l fun d k => d.takeIndex k (idx k)) =
      { d with host := { d.host with hostIdx := d.takenIndices idx x l } } from h d.host.hostIdx
  induction l with
  | nil => exact fun _ => rfl
  | cons k l ih =>
    intro x
    have hk : ¬ d.indexBad k (idx k) := hgood k (List.mem_cons_self ..)
    have hstep : { d with host := { d.host with hostIdx := x } }.takeIndex k (idx k) =
        { d with host := { d.host with hostIdx := if d.ringEn k then setAt x k (idx k) else x } } := by
      change (if !d.ringEn k then _ else if d.ringSize k < ringCount k (d.ringIdx k) (idx k) then _ else _) = _
      by_cases hen : d.ringEn k = true
      · have hfit : ¬ d.ringSize k < ringCount k (d.ringIdx k) (idx k) := fun h => hk ⟨hen, h⟩
        simp [hen, hfit]
      · simp [hen]
    have hrest := ih (fun j hj => hgood j (List.mem_cons_of_mem _ hj)) (if d.ringEn k then setAt x k (idx k) else x)
    rw [← hstep] at hrest
    exact hrest

theorem takenIndices_length (idx : Nat → Nat) (l h : List Nat) : (d.takenIndices idx h l).length = h.length := by
  induction l generalizing h with
  | nil => rfl
  | cons k l ih =>
    rw [Dev.takenIndices, List.foldl_cons, ← Dev.takenIndices, ih]
    split <;> simp [setAt]

/-- Each index of the host is the one read, where its ring is enabled and was asked for, and the one from before elsewhere. -/
theorem takenIndices_get (idx : Nat → Nat) {l h : List Nat} {k : Nat} (hk : k < h.length) :
    (d.takenIndices idx h l)[k]? = if k ∈ l ∧ d.ringEn k = true then some (idx k) else h[k]? := by
  induction l generalizing h with
  | nil => simp [Dev.takenIndices]
  | cons j l ih =>
    have hlen : (if d.ringEn j then setAt h j (idx j) else h).length = h.length := by split <;> simp [setAt]
    rw [Dev.takenIndices, List.foldl_cons, ← Dev.takenIndices, ih (by omega)]
    by_cases hen : d.ringEn k = true
    · by_cases hj : j = k
      · subst hj
        simp [hen, setAt, hk]
      · have hset : (if d.ringEn j then setAt h j (idx j) else h)[k]? = h[k]? := by
          split
          · simp [setAt, hj]
          · rfl
        rw [hset]
        simp [hen, Ne.symm hj]
    · have hset : (if d.ringEn j then setAt h j (idx j) else h)[k]? = h[k]? := by
        split
        · have hj : j ≠ k := fun hj => hen (hj ▸ by assumption)
          simp [setAt, hj]
        · rfl
      simp [hen, hset]

/-! Polls (R50, R57). -/

theorem pollOn_iff {last : Option Nat} (hon : senderOn s) (hdue : s.dev.pollDue last = true) :
    (isSender s.straps && s.dev.awake && s.dev.pollDue last) = true := by
  simp [isSender_of_on hon, awake_of_on hon.2, hdue]

/-- The device after a poll's read, with no failure counted. -/
def Dev.doorbellRead (d : Dev) : Dev := { d.startPoll with host.failRun := 0 }

theorem exec_doorbellPoll {page : List Byte} (hon : senderOn s) (hdue : s.dev.pollDue s.dev.host.lastPoll = true) :
    exec (.doorbellPoll page) s =
      run (fun _ d => d.doorbellRead.each (List.range 5) fun d n => d.takeIndex n (doorbellIndex page n)) s :=
  runIf_pos (s := s) (c := fun st d => isSender st && d.awake && d.pollDue d.host.lastPoll) (pollOn_iff hon hdue)

/-- The device after a poll's read that failed, with the failure counted. -/
def Dev.pollFailed (d : Dev) : Dev := { d.startPoll.set HIF_STAT_DB_ERR 1 with host.failRun := d.host.failRun + 1 }

theorem exec_doorbellPollFail (hon : senderOn s) (hdue : s.dev.pollDue s.dev.host.lastPoll = true) :
    exec .doorbellPollFail s =
      run (fun _ d => if d.host.failRun + 1 == 16 then d.pollFailed.raise IRQ_RING_ERR else d.pollFailed) s :=
  runIf_pos (s := s) (c := fun st d => isSender st && d.awake && d.pollDue d.host.lastPoll) (pollOn_iff hon hdue)

theorem doorbellRead_only (d : Dev) : d.Only [.host, .out] [] d.doorbellRead := only_host_out _ _ _ d

theorem pollFailed_only (d : Dev) : d.Only [.host, .out] [.field HIF_STAT_DB_ERR] d.pollFailed :=
  ((only_host_out _ _ _ d : d.Only [.host, .out] _ d.startPoll).set HIF_STAT_DB_ERR 1 (by simp)).trans
    ((Dev.only_host _ _ _).mono (by simp) (fun _ => id))

theorem pollFailed_dbErr (d : Dev) : d.pollFailed.get HIF_STAT_DB_ERR = 1 :=
  Dev.get_set_same _ _ _ (by simp [HIF_STAT_DB_ERR])

/-- While polling is off, no poll is due. -/
theorem pollDue_off {last : Option Nat} (h : d.get HIF_CTRL_EN = 0) : d.pollDue last = false := by
  simp [Dev.pollDue, Dev.getb, h]

end

/-- A poll all of whose indices fit takes them (R57, R59). -/
theorem doorbellPoll_fits {s : State} {idx : Fin 5 → Word} {rest : List Byte} (hon : senderOn s)
    (hdue : s.dev.pollDue s.dev.host.lastPoll = true) (hlen : s.dev.host.hostIdx.length = 5)
    (hen : ∀ n : Fin 5, s.dev.get (RING_CFG_EN n) = 1) (hfits : ∀ n : Fin 5, indexFits s.dev n (idx n)) :
    AnswersWith (exec (.doorbellPoll (doorbellPage idx rest)) s) fun t => Only [.host, .out] [] s t ∧
      t.dev.out = s.dev.out ++ [.hostRead s.dev.doorbellAddr 64] ∧
      t.dev.host = { s.dev.host with
        lastPoll := some s.dev.ticks, failRun := 0
        hostIdx := [(idx 0).toNat, (idx 1).toNat, (idx 2).toNat, (idx 3).toNat, (idx 4).toNat] } := by
  have hread := doorbellIndex_page idx rest
  have hgood : ∀ k ∈ List.range 5, ¬ s.dev.doorbellRead.indexBad k (doorbellIndex (doorbellPage idx rest) k) := by
    intro k hk hbad
    have hfit := (indexFits_iff s.dev ⟨k, List.mem_range.mp hk⟩ _).mp (hfits _)
    rw [← hread] at hfit
    exact absurd hfit (Nat.not_le.mpr hbad.2)
  have htaken : s.dev.doorbellRead.takenIndices (doorbellIndex (doorbellPage idx rest)) s.dev.host.hostIdx (List.range 5) =
      [(idx 0).toNat, (idx 1).toNat, (idx 2).toNat, (idx 3).toNat, (idx 4).toNat] := by
    refine List.ext_getElem? fun k => ?_
    by_cases hk : k < 5
    · have hring : s.dev.doorbellRead.ringEn k = true := getb_eq_true.mpr ((hen ⟨k, hk⟩).trans_ne (by decide))
      rw [takenIndices_get _ (by omega), if_pos ⟨List.mem_range.mpr hk, hring⟩, hread ⟨k, hk⟩]
      obtain rfl | rfl | rfl | rfl | rfl : k = 0 ∨ k = 1 ∨ k = 2 ∨ k = 3 ∨ k = 4 := by omega
      all_goals rfl
    · rw [List.getElem?_eq_none (by rw [takenIndices_length]; omega), List.getElem?_eq_none (by simp; omega)]
  rw [exec_doorbellPoll hon hdue]
  have hdev := takeIndex_each hgood
  rw [show s.dev.doorbellRead.host.hostIdx = s.dev.host.hostIdx from rfl, htaken] at hdev
  refine run_quiet_with hon.2.2 ?_ (by simp) ?_
  · rw [hdev]
    exact only_host_out _ _ _ s.dev
  · simp only [hdev]
    exact ⟨rfl, rfl⟩

/-- Settles O12: `doorbellPoll_fits` for a poll; a failed poll and a shadow write are single updates, and none of the three is
due while EN is 0. -/
theorem doorbellAndShadow : Obligations.DoorbellAndShadow := by
  unfold Obligations.DoorbellAndShadow
  refine ⟨?polled, ?failed, ?raised, ?shadow, ?idle⟩
  case polled =>
    intro s idx rest hon hdue hlen hen hfits
    exact doorbellPoll_fits hon hdue hlen hen hfits
  case failed =>
    intro s hon hdue hrun
    rw [exec_doorbellPollFail hon hdue]
    have hdev : (if s.dev.host.failRun + 1 == 16 then s.dev.pollFailed.raise IRQ_RING_ERR else s.dev.pollFailed) =
        s.dev.pollFailed := if_neg (by simpa using hrun)
    refine run_quiet_with hon.2.2 ?_ (by simp) ?_
    · rw [hdev]
      exact pollFailed_only s.dev
    · simp only [hdev]
      exact ⟨pollFailed_dbErr s.dev, rfl, rfl⟩
  case raised =>
    intro s hon hdue hrun hvec
    rw [exec_doorbellPollFail hon hdue]
    have hdev : (if s.dev.host.failRun + 1 == 16 then s.dev.pollFailed.raise IRQ_RING_ERR else s.dev.pollFailed) =
        s.dev.pollFailed.raise IRQ_RING_ERR := if_pos (by simp [hrun])
    have hkeep := (raise_only s.dev.pollFailed (c := IRQ_RING_ERR) (by decide)).get_eq HIF_STAT_DB_ERR
      (by simp [Area.has, HIF_ISR_CAUSE, HIF_STAT_DB_ERR, HIF_ISR, HIF_STAT])
    have hvec' : s.dev.pollFailed.get (HIF_VEC_EN IRQ_RING_ERR) = 1 :=
      ((pollFailed_only s.dev).get_eq _ (by
        simp [Area.has, HIF_STAT_DB_ERR, HIF_STAT, HIF_VEC_EN, HIF_VEC, IRQ_RING_ERR])).trans hvec
    refine run_quiet_with (ps := [.host, .out]) (as := [.field HIF_STAT_DB_ERR, .field HIF_ISR_CAUSE]) hon.2.2 ?_ (by simp) ?_
    · rw [hdev]
      exact ((pollFailed_only s.dev).mono (by simp) (by simp)).trans ((raise_only _ (by decide)).mono (by simp) (by simp))
    · simp only [hdev]
      exact ⟨hkeep.trans (pollFailed_dbErr s.dev), raise_hostIdx _ (by decide), raise_isr (by decide) (by decide) hvec'⟩
  case shadow =>
    intro s hon hen hold hdue
    have hstale : s.dev.shadowStale = true := by simp [Dev.shadowStale, Dev.getb, hen, hold]
    rw [show exec .shadowWrite s = run (fun _ d => d.shadowWrite) s from
      runIf_pos (s := s) (c := fun st d => isSender st && d.awake && d.shadowStale && d.pollDue d.host.lastShadow)
        (by simp [isSender_of_on hon, awake_of_on hon.2, hstale, hdue])]
    refine run_quiet_with hon.2.2 (only_host_out _ _ _ s.dev) (by simp) ⟨?_, rfl⟩
    simp [Dev.shadowWrite, Dev.emit, Dev.shadowAddr, Dev.shadowBytes, Dev.indices]
  case idle =>
    intro s page hon hen
    have hdue (last : Option Nat) : s.dev.pollDue last = false := pollDue_off hen
    exact ⟨runIf_neg (s := s) (c := fun st d => isSender st && d.awake && d.pollDue d.host.lastPoll) (by simp [hdue]),
      runIf_neg (s := s) (c := fun st d => isSender st && d.awake && d.pollDue d.host.lastPoll) (by simp [hdue]),
      runIf_neg (s := s) (c := fun st d => isSender st && d.awake && d.shadowStale && d.pollDue d.host.lastShadow)
        (by simp [hdue])⟩

end Sys2Proof.Machine
end

section
/-! SUPPORT. A poll with one index out of range (R59): the rings before it, its own, and those behind it. -/

namespace Sys2Proof.Machine

section
variable {d : Dev} {s : State}

theorem each_append {α : Type} (l m : List α) (g : Dev → α → Dev) (d : Dev) : d.each (l ++ m) g = (d.each l g).each m g :=
  List.foldl_append

/-- The rings of a device, one among them. -/
theorem range_five_split (n : Fin 5) : List.range 5 = List.range n ++ (n : Nat) :: List.range' (n + 1) (4 - n) := by
  revert n
  decide

/-- An error of ring `n` leaves the registers alone that say whether another ring is enabled, how large it is and where it
stands. -/
theorem ringError_other {n k : Nat} (code index : Nat) (hk : k ≠ n) (hlt : k < 5) (d : Dev) {f : Fld}
    (hf : f.addr = RING_CFG k ∨ f.addr = RING_IDX k) : (d.ringError n code index).get f = d.get f := by
  refine (ringError_only d n code index).get_eq f fun x hx j => ?_
  simp only [ringErrorAreas, List.mem_cons, List.not_mem_nil, or_false] at hx
  obtain rfl | rfl | rfl | rfl := hx <;> rintro ⟨haddr, -⟩ <;>
    obtain hf | hf := hf <;> rw [hf] at haddr <;>
    simp [RING_CFG, RING_IDX, RING_CFG_EN, RING_ERR_CODE, RING_ERR_IDX_INDEX, RING_ERR, RING_ERR_IDX, HIF_ISR_CAUSE, HIF_ISR]
      at haddr <;> omega

/-- After an error of ring `n`, an index of another ring is as good or bad as before. -/
theorem indexBad_ringError {n k : Nat} (code index idx : Nat) (hk : k ≠ n) (hlt : k < 5) (d : Dev) :
    (d.ringError n code index).indexBad k idx ↔ d.indexBad k idx := by
  simp only [Dev.indexBad, Dev.ringEn, Dev.getb, Dev.ringSize, Dev.ringIdx]
  rw [ringError_other code index hk hlt d (.inl rfl), ringError_other code index hk hlt d (.inl rfl),
    ringError_other code index hk hlt d (.inr rfl)]

/-- The host's indices once those before ring `n` and those behind it are taken. -/
theorem takenIndices_but {e : Dev} {idx : Nat → Nat} {h : List Nat} (n k : Fin 5) (hlen : h.length = 5)
    (hring : (k : Nat) ≠ n → e.ringEn k = d.ringEn k) :
    (e.takenIndices idx (d.takenIndices idx h (List.range n)) (List.range' (n + 1) (4 - n)))[(k : Nat)]? =
      if k ≠ n ∧ d.ringEn k = true then some (idx k) else h[(k : Nat)]? := by
  have hk : (k : Nat) < 5 := k.isLt
  rw [takenIndices_get _ (by rw [takenIndices_length]; omega), takenIndices_get _ (by omega)]
  by_cases hkn : (k : Nat) = n
  · simp [Fin.ext hkn]
  · rw [hring hkn]
    have hmem : (k : Nat) ∈ List.range' (n + 1) (4 - n) ∨ (k : Nat) ∈ List.range n := by
      simp only [List.mem_range'_1, List.mem_range]
      omega
    have hne : k ≠ n := fun h => hkn (congrArg Fin.val h)
    obtain hm | hm := hmem <;> by_cases hen : d.ringEn k = true <;> simp [hm, hen, hne]

/-- A poll in which only the index of ring `n` is bad: its ring stops, and the other indices are taken. -/
theorem takeIndex_oneBad (n : Fin 5) (idx : Nat → Nat) (hbad : d.indexBad n (idx n))
    (hgood : ∀ k : Nat, k < 5 → k ≠ n → ¬ d.indexBad k (idx k)) :
    ∃ e h, e = { d with host := { d.host with hostIdx := h } }.ringError n 1 (idx n) ∧
      ((d.each (List.range 5) fun d k => d.takeIndex k (idx k)) =
        { e with host := { e.host with hostIdx := e.takenIndices idx h (List.range' (n + 1) (4 - n)) } }) ∧
      h = d.takenIndices idx d.host.hostIdx (List.range n) := by
  have hn : (n : Nat) < 5 := n.isLt
  refine ⟨_, _, rfl, ?_, rfl⟩
  rw [range_five_split n, each_append,
    takeIndex_each (fun k hk => hgood k (by have := List.mem_range.mp hk; omega) (by have := List.mem_range.mp hk; omega))]
  generalize hh : d.takenIndices idx d.host.hostIdx (List.range n) = h
  have hbad' : { d with host := { d.host with hostIdx := h } }.indexBad n (idx n) := hbad
  rw [show ∀ (a : Dev) (g : Dev → Nat → Dev) (l : List Nat), a.each ((n : Nat) :: l) g = (g a n).each l g from
    fun _ _ _ => rfl, takeIndex_bad hbad', takeIndex_each, ringError_hostIdx]
  intro k hk
  have hk' : (n : Nat) + 1 ≤ k ∧ k < n + 1 + (4 - n) := by simpa using hk
  exact (indexBad_ringError 1 (idx n) (idx k) (by omega) (by omega) _).not.mpr (hgood k (by omega) (by omega))

/-- A poll with one index out of range (R59). -/
theorem doorbellPoll_oneBad {n : Fin 5} {idx : Fin 5 → Word} {rest : List Byte} (hon : senderOn s)
    (hdue : s.dev.pollDue s.dev.host.lastPoll = true) (hlen : s.dev.host.hostIdx.length = 5)
    (hen : s.dev.get (RING_CFG_EN n) = 1) (hout : ¬ indexFits s.dev n (idx n))
    (hothers : ∀ k : Fin 5, k ≠ n → s.dev.get (RING_CFG_EN k) = 0 ∨ indexFits s.dev k (idx k)) :
    AnswersWith (exec (.doorbellPoll (doorbellPage idx rest)) s) fun t => Only [.host, .out] (ringErrorAreas n) s t ∧
      t.dev.get (RING_CFG_EN n) = 0 ∧ t.dev.get (RING_ERR_CODE n) = 1 ∧ t.dev.get (RING_ERR_IDX_INDEX n) = (idx n).toNat ∧
      (∀ k : Fin 5, t.dev.host.hostIdx[(k : Nat)]? =
        if k ≠ n ∧ s.dev.get (RING_CFG_EN k) = 1 then some (idx k).toNat else s.dev.host.hostIdx[(k : Nat)]?) ∧
      (s.dev.get (HIF_VEC_EN IRQ_RING_ERR) = 1 → natBit (t.dev.get HIF_ISR_CAUSE) IRQ_RING_ERR = true) := by
  have hread := doorbellIndex_page idx rest
  have hn : (n : Nat) < 5 := n.isLt
  have hbad : s.dev.doorbellRead.indexBad n (doorbellIndex (doorbellPage idx rest) n) := by
    rw [hread]
    exact ⟨getb_eq_true.mpr (hen.trans_ne (by decide)), Nat.not_le.mp ((indexFits_iff s.dev n (idx n)).not.mp hout)⟩
  have hgood : ∀ k : Nat, k < 5 → k ≠ n →
      ¬ s.dev.doorbellRead.indexBad k (doorbellIndex (doorbellPage idx rest) k) := by
    intro k hk hkn hk'
    rw [hread ⟨k, hk⟩] at hk'
    obtain hoff | hfit := hothers ⟨k, hk⟩ (fun h => hkn (congrArg Fin.val h))
    · exact getb_eq_true.mp hk'.1 hoff
    · exact absurd ((indexFits_iff s.dev ⟨k, hk⟩ _).mp hfit) (Nat.not_le.mpr hk'.2)
  obtain ⟨e, h, he, hall, hh⟩ := takeIndex_oneBad n (doorbellIndex (doorbellPage idx rest)) hbad hgood
  rw [hread] at he
  have honly : s.dev.Only [.host, .out] (ringErrorAreas n) e :=
    he ▸ (only_host_out _ _ _ s.dev).trans (ringError_only _ n 1 (idx n).toNat)
  obtain ⟨hcleared, hcode, hindex⟩ : e.get (RING_CFG_EN n) = 0 ∧ e.get (RING_ERR_CODE n) = 1 ∧
      e.get (RING_ERR_IDX_INDEX n) = (idx n).toNat := by
    have hf := ringError_fields { s.dev.doorbellRead with host := { s.dev.doorbellRead.host with hostIdx := h } } n 1 (idx n).toNat
    rw [← he, Nat.mod_eq_of_lt (idx n).isLt] at hf
    exact hf
  have hisr (hvec : s.dev.get (HIF_VEC_EN IRQ_RING_ERR) = 1) : natBit (e.get HIF_ISR_CAUSE) IRQ_RING_ERR = true :=
    he ▸ ringError_isr n 1 _ hvec
  have hidx (k : Fin 5) : (e.takenIndices (doorbellIndex (doorbellPage idx rest)) h
      (List.range' (n + 1) (4 - n)))[(k : Nat)]? =
        if k ≠ n ∧ s.dev.get (RING_CFG_EN k) = 1 then some (idx k).toNat else s.dev.host.hostIdx[(k : Nat)]? := by
    have hring (hkn : (k : Nat) ≠ n) : e.ringEn k = s.dev.doorbellRead.ringEn k := by
      rw [he, Dev.ringEn, Dev.getb, ringError_other 1 _ hkn k.isLt _ (.inl rfl)]
      rfl
    have hone : s.dev.doorbellRead.ringEn k = true ↔ s.dev.get (RING_CFG_EN k) = 1 := by
      have hbit := get_bit s.dev (f := RING_CFG_EN k) rfl
      exact getb_eq_true.trans (by change s.dev.get (RING_CFG_EN k) ≠ 0 ↔ _; omega)
    have hlen' : s.dev.doorbellRead.host.hostIdx.length = 5 := hlen
    rw [hh, takenIndices_but n k hlen' hring, hread]
    simp only [hone]
    rfl
  rw [exec_doorbellPoll hon hdue]
  refine run_quiet_with (as := ringErrorAreas n) hon.2.2 ?_ (by simp) ?_
  · rw [hall]
    exact honly.trans ((Dev.only_host _ _ e).mono (by simp) fun _ => id)
  · simp only [hall]
    exact ⟨hcleared, hcode, hindex, hidx, hisr⟩

end

/-- Settles O13, by `doorbellPoll_oneBad`: the rings before and behind the bad one take their indices. -/
theorem indexOutOfRange : Obligations.IndexOutOfRange := by
  unfold Obligations.IndexOutOfRange
  intro s n idx rest hon hdue hlen hen hout hothers
  exact doorbellPoll_oneBad hon hdue hlen hen hout hothers

end Sys2Proof.Machine
end

section
/-! SUPPORT. Fetching and posting (R50, R63, R68, R74, R76): what a fetched slot, a failed read and a posted completion leave, and
the statement. -/

namespace Sys2Proof.Machine

section
variable {d : Dev} {s : State}

/-! Fetching (R63, R74). -/

/-- The descriptor that a slot holds. -/
def slotDesc (n i : Nat) (slot : List Byte) : Desc :=
  { ring := n, index := i, bytes := slot, phase := .fetched, data := [], sent := 0, opened := false, result := none }

/-- The device with a slot read, its descriptor in flight and the ring's index advanced. -/
def Dev.fetched (d : Dev) (n : Nat) (slot : List Byte) : Dev :=
  { (d.readSlot n (d.ringIdx n)).set (RING_IDX_INDEX n) (d.ringIdx n + 1) with
    host.descs := d.host.descs ++ [slotDesc n (d.ringIdx n) slot] }

theorem fetched_only (d : Dev) (n : Nat) (slot : List Byte) :
    d.Only [.host, .out] [.field (RING_IDX_INDEX n)] (d.fetched n slot) :=
  ((((Dev.Only.refl [.host, .out] [.field (RING_IDX_INDEX n)] d).emit _ (by simp)).set (RING_IDX_INDEX n) (d.ringIdx n + 1)
    (by simp)).trans ((Dev.only_host _ _ _).mono (by simp) fun _ => id))

theorem fetched_index (d : Dev) (n : Nat) (slot : List Byte) :
    (d.fetched n slot).get (RING_IDX_INDEX n) = (d.get (RING_IDX_INDEX n) + 1) % 2 ^ 32 :=
  Dev.get_set_same _ _ _ (by simp [RING_IDX_INDEX])

theorem exec_descFetch {ring : DescRing} {slot : List Byte} (hon : senderOn s) (hmay : s.dev.mayFetch (descRingNo ring) = true)
    (hlen : slot.length = 64) : exec (.descFetch ring slot) s = run (fun _ d =>
      if dCrcOk slot then d.fetched (descRingNo ring) slot
      else (d.fetched (descRingNo ring) slot).postDesc (slotDesc (descRingNo ring) (d.ringIdx (descRingNo ring)) slot)
        ST_DESC_CRC 0) s := by
  refine (runIf_pos (s := s) (c := fun st d => isSender st && d.awake && d.mayFetch (descRingNo ring))
    (by simp [isSender_of_on hon, awake_of_on hon.2, hmay])).trans (run_congr ?_)
  rw [slice_self hlen]
  rfl

/-- A descriptor that fails its CRC completes at once: the completion waits (R63). -/
theorem postDesc_failed (x : Desc) {status : Nat} (h : status ≠ ST_OK) (value : Nat) :
    (d.postDesc x status value).host.cpls = d.host.cpls ++ [cplOf x status value] := by
  simp [Dev.postDesc, h, Dev.complete, Dev.modDesc, cplOf]

/-! A failed read (R50). -/

theorem exec_descFetchFail {ring : FetchRing} {ahead : Nat} (hon : senderOn s)
    (hmay : s.dev.maySlot (fetchRingNo ring) ahead = true) :
    exec (.descFetchFail ring ahead) s = run (fun _ d =>
      (d.readSlot (fetchRingNo ring) (d.ringIdx (fetchRingNo ring) + ahead)).ringError (fetchRingNo ring) 2
        ((d.ringIdx (fetchRingNo ring) + ahead) % d.ringSize (fetchRingNo ring))) s :=
  runIf_pos (s := s) (c := fun st d => isSender st && d.awake && d.maySlot (fetchRingNo ring) ahead)
    (by simp [isSender_of_on hon, awake_of_on hon.2, hmay])

theorem readSlot_only (d : Dev) (n index : Nat) (as : List Area) : d.Only [.out] as (d.readSlot n index) :=
  (Dev.Only.refl _ _ d).emit _ (by simp)

/-! Posting (R68, R76). -/

/-- The device with its oldest completion written and its descriptor out of flight. -/
def Dev.posted (d : Dev) (c : Cpl) (rest : List Cpl) : Dev :=
  { d.emit (.hostWrite (d.slotAddr 3 (d.ringIdx 3) 16) (cplBytes c (d.ringIdx 3 / d.ringSize 3 % 2 == 1))) with
    host.cpls := rest
    host.descs := d.host.descs.filter fun e => !(e.ring == c.ring && e.index == c.index) }.set (RING_IDX_INDEX 3) (d.ringIdx 3 + 1)

theorem posted_only (d : Dev) (c : Cpl) (rest : List Cpl) : d.Only [.host, .out] [.field (RING_IDX_INDEX 3)] (d.posted c rest) :=
  (only_host_out _ _ _ d).set _ _ (by simp)

theorem exec_completionPost {c : Cpl} {rest : List Cpl} (hon : senderOn s) (hc : s.dev.host.cpls = c :: rest)
    (hroom : s.dev.ringRoom 3 = true) :
    exec .completionPost s = run (fun _ d => (d.posted c rest).raise IRQ_CPL) s := by
  refine (runIf_pos (s := s) (c := fun st d => isSender st && d.awake && !d.host.cpls.isEmpty && d.ringRoom 3)
    (by simp [isSender_of_on hon, awake_of_on hon.2, hc, hroom])).trans (run_congr ?_)
  simp only [hc]
  rfl

/-- PHASE is the parity of the pass over the ring (R68). -/
theorem b2n_parity (n : Nat) : b2n (n % 2 == 1) = n % 2 := by
  obtain h | h := Nat.mod_two_eq_zero_or_one n <;> simp [h, b2n]

end

/-- Settles O14: `exec_descFetch`, `exec_descFetchFail` and `exec_completionPost` say which update each row is. -/
theorem descriptors : Obligations.Descriptors := by
  unfold Obligations.Descriptors
  refine ⟨?held, ?badCrc, ?readFailed, ?flipFailed, ?nothing, ?posted, ?none⟩
  case held =>
    intro s slot hon hmay hlen hcrc
    rw [exec_descFetch (ring := .command) hon hmay hlen]
    have hok : dCrcOk slot = true := by simpa [dCrcOk] using hcrc
    refine run_quiet_with hon.2.2 ?_ (by simp) ?_
    · rw [if_pos hok]
      exact fetched_only s.dev 1 slot
    · simp only [hok, if_true]
      exact ⟨rfl, fetched_index s.dev 1 slot, rfl⟩
  case badCrc =>
    intro s slot hon hmay hlen hcrc hdescs hout
    rw [exec_descFetch (ring := .bulk) hon hmay hlen]
    have hbad : dCrcOk slot = false := by simpa [dCrcOk] using hcrc
    obtain ⟨_, _, _, hmoved⟩ := postDesc_moved (s.dev.fetched 2 slot) (slotDesc 2 (s.dev.ringIdx 2) slot) ST_DESC_CRC 0
    refine run_quiet_with (as := [.field (RING_IDX_INDEX 2)]) hon.2.2 ?_ (by simp) ?_
    · rw [if_neg (by simp [hbad])]
      exact (fetched_only s.dev 2 slot).trans (((postDesc_moved ..).only _).mono (by simp) fun _ => id)
    · simp only [hbad, Bool.false_eq_true, if_false]
      exact ⟨(congrArg (fun d : Dev => d.get (RING_IDX_INDEX 2)) hmoved).trans (fetched_index s.dev 2 slot),
        postDesc_failed _ (by decide) 0⟩
  case readFailed =>
    intro s hon hmay hdescs
    rw [exec_descFetchFail (ring := .command) hon (by simp [Dev.maySlot, fetchRingNo, hmay])]
    obtain ⟨hen, hcode, -⟩ := ringError_fields (s.dev.readSlot 1 (s.dev.ringIdx 1 + 0)) 1 2
      ((s.dev.ringIdx 1 + 0) % s.dev.ringSize 1)
    exact run_quiet_with hon.2.2 (((readSlot_only ..).mono (by simp) fun _ => id).trans (ringError_only ..)) (by simp) ⟨hen, hcode⟩
  case flipFailed =>
    intro s ahead hon hen hahead hmax hin hdescs hvec
    rw [exec_descFetchFail (ring := .flip) hon (by simp [Dev.maySlot, fetchRingNo, Dev.ringEn, Dev.getb, hen, hahead, hmax, hin])]
    have hquiet := ringError_quiet (d := s.dev.readSlot 0 (s.dev.ringIdx 0 + ahead)) 0 2
      ((s.dev.ringIdx 0 + ahead) % s.dev.ringSize 0) hdescs hvec
    obtain ⟨hcleared, hcode, -⟩ := ringError_fields (s.dev.readSlot 0 (s.dev.ringIdx 0 + ahead)) 0 2
      ((s.dev.ringIdx 0 + ahead) % s.dev.ringSize 0)
    refine run_quiet_with hon.2.2 ?_ (by simp) ⟨hcleared, hcode, ?_⟩
    · exact hquiet ▸ ((readSlot_only ..).set _ _ (by simp)).setAll _ (by simp)
    · exact (congrArg Dev.out hquiet).trans rfl
  case nothing =>
    intro s slot hon hmay
    exact ⟨runIf_neg (s := s) (c := fun st d => isSender st && d.awake && d.mayFetch 1) (by simp [hmay]),
      runIf_neg (s := s) (c := fun st d => isSender st && d.awake && d.maySlot 1 0) (by simp [Dev.maySlot, hmay])⟩
  case posted =>
    intro s c rest hon hc hen hspace hvec
    have hroom : s.dev.ringRoom 3 = true := by
      simpa [Dev.ringRoom, Dev.ringEn, Dev.getb, hen, Dev.ringEntries, ringCount, dist32, Dev.ringIdx,
        Dev.hostIndex] using hspace
    have hdev : (s.dev.posted c rest).raise IRQ_CPL = s.dev.posted c rest :=
      raise_off (((posted_only s.dev c rest).get_eq _ (by
        simp [Area.has, RING_IDX_INDEX, RING_IDX, HIF_VEC_EN, HIF_VEC, IRQ_CPL])).trans hvec)
    rw [exec_completionPost hon hc hroom]
    refine run_quiet_with hon.2.2 ?_ (by simp) ?_
    · rw [hdev]
      exact posted_only s.dev c rest
    · simp only [hdev]
      refine ⟨Dev.get_set_same _ _ _ (by decide), rfl, ?_⟩
      simp [Dev.posted, Dev.emit, cplBytes, b2n_parity, Dev.ringIdx]
  case none =>
    intro s hon h
    refine runIf_neg (s := s) (c := fun st d => isSender st && d.awake && !d.host.cpls.isEmpty && d.ringRoom 3) ?_
    obtain h | h := h
    · simp [h]
    · simp [Dev.ringRoom, Dev.ringEn, Dev.getb, h]

end Sys2Proof.Machine
end

section
/-! SUPPORT. The PCIe function (R47 to R49, R51, R84, R85, R389): the writes of its own spaces, the mailboxes that its reset
clears, the registers that return to Reset, and the statement. -/

namespace Sys2Proof.Machine

section
variable {d e f : Dev} {st : Straps} {s : State}

/-! The function's own spaces (R47, R48). -/

theorem exec_registerWrite_config {off : Nat} {v : Word} (hon : senderOn s) (hup : s.dev.host.linkUp = true)
    (hoff : off % 4 = 0) :
    exec (.registerWrite .config off .word v) s = run (fun st d => d.configWrite st off v.toNat) s := by
  refine (runIf_pos (s := s) (c := fun st d => d.awake && (Initiator.config == .service || hasAccess st .config d))
    (by simp [awake_of_on hon.2, hasAccess, isSender_of_on hon, hup])).trans (run_congr ?_)
  have hfn : s.dev.writeFunction s.straps .config off .word v = s.dev.configWrite s.straps off v.toNat := by
    simp [Dev.writeFunction, isTile_of_sender hon, hoff]
  exact hfn

theorem exec_registerWrite_bar2 {off : Nat} {v : Word} (hon : senderOn s) (hup : s.dev.host.linkUp = true)
    (hmem : s.dev.host.pcie.memEn = true) (hd3 : s.dev.host.pcie.d3hot = false) (hoff : off % 4 = 0) :
    exec (.registerWrite .bar2 off .word v) s = run (fun _ d => d.bar2Write off v.toNat) s := by
  refine (runIf_pos (s := s) (c := fun st d => d.awake && (Initiator.bar2 == .service || hasAccess st .bar2 d))
    (by simp [awake_of_on hon.2, hasAccess, isSender_of_on hon, Dev.barsOn, hup, hmem, hd3])).trans (run_congr ?_)
  have hfn : s.dev.writeFunction s.straps .bar2 off .word v = s.dev.bar2Write off v.toNat := by
    simp [Dev.writeFunction, isTile_of_sender hon, hoff]
  exact hfn

/-- An effect that replaces the host's part and nothing else. -/
theorem run_host {g : Straps → Dev → Dev} {x : HostSt} (hset : Settled s)
    (hg : g s.straps s.dev = { s.dev with host := x }) :
    AnswersWith (run g s) fun t => Only [.host] [] s t ∧ t.dev.host = x := by
  refine run_quiet_with hset ?_ (by simp) ?_
  · rw [hg]
    exact Dev.only_host ..
  · rw [hg]

theorem configWrite_command (v : Nat) (hup : d.host.linkUp = true) : d.configWrite st 4 v =
    { d with host := { d.host with pcie := { d.host.pcie with memEn := natBit v 1, busEn := natBit v 2 } } } := by
  rw [Dev.configWrite, if_neg (by simp [hup])]

theorem configWrite_aer (v : Nat) (hup : d.host.linkUp = true) : d.configWrite st 0x104 v =
    { d with host := { d.host with pcie := { d.host.pcie with caLogged := d.host.pcie.caLogged && !natBit v 15 } } } := by
  rw [Dev.configWrite, if_neg (by simp [hup])]

theorem bar2Write_data (n : Fin 64) (v : Nat) : d.bar2Write (16 * n + 8) v =
    { d with host := { d.host with pcie := { d.host.pcie with table := d.host.pcie.table.modify n fun e => (e.1, v) } } } := by
  have hdiv : (16 * (n : Nat) + 8) / 16 = n := by omega
  have hword : (16 * (n : Nat) + 8) % 16 / 4 = 2 := by omega
  rw [Dev.bar2Write]
  simp only [hdiv, hword, if_neg (show ¬ 1024 ≤ 16 * (n : Nat) + 8 by omega)]
  rfl

theorem bar2Write_mask (n : Fin 64) {v : Nat} (hv : natBit v 0 = true) : d.bar2Write (16 * n + 12) v =
    { d with host := { d.host with vecMask := setAt d.host.vecMask n true } } := by
  have hdiv : (16 * (n : Nat) + 12) / 16 = n := by omega
  have hword : (16 * (n : Nat) + 12) % 16 / 4 = 3 := by omega
  rw [Dev.bar2Write]
  simp only [hdiv, hword, if_neg (show ¬ 1024 ≤ 16 * (n : Nat) + 12 by omega), hv, if_true]

theorem natBit_toNat (v : Word) (k : Nat) : natBit v.toNat k = v.getLsbD k := natBit_eq_testBit ..

/-! The link (R84, R85). -/

/-- LINK_GEN and LINK_WIDTH are set, and the host's part changes. -/
theorem run_linkFields {g : Straps → Dev → Dev} {x : HostSt} {gen width : Nat} (hset : Settled s) (hgen : gen < 16)
    (hwidth : width < 16) (hg : g s.straps s.dev = { s.dev with host := x }.setAll
      [(HIF_STAT_LINK_GEN, gen), (HIF_STAT_LINK_WIDTH, width)]) :
    AnswersWith (run g s) fun t => Only [.host] [.field HIF_STAT_LINK_GEN, .field HIF_STAT_LINK_WIDTH] s t ∧
      t.dev.get HIF_STAT_LINK_GEN = gen ∧ t.dev.get HIF_STAT_LINK_WIDTH = width ∧ t.dev.host = x := by
  refine run_quiet_with hset ?_ (by simp) ?_
  · rw [hg]
    exact (Dev.only_host _ x s.dev).setAll _ (by simp)
  · simp only [hg]
    have hfirst := get_setAll (d := { s.dev with host := x }) (g := HIF_STAT_LINK_GEN) (v := gen) [] [(HIF_STAT_LINK_WIDTH, width)]
      (by decide) (by simp [Fld.apart, HIF_STAT_LINK_GEN, HIF_STAT_LINK_WIDTH])
    have hsecond := get_setAll (d := { s.dev with host := x }) (g := HIF_STAT_LINK_WIDTH) (v := width) [(HIF_STAT_LINK_GEN, gen)] []
      (by decide) (by simp)
    exact ⟨hfirst.trans (Nat.mod_eq_of_lt hgen), hsecond.trans (Nat.mod_eq_of_lt hwidth), by simp⟩

/-! The mailboxes that a reset of their reader clears (R389). -/

theorem only_mbx (as : List Area) (x : MbxSt) (d : Dev) : d.Only [.mbx] as { d with mbx := x } :=
  .parts rfl fun p hp => by cases p <;> simp_all [Part.same]

theorem setFull_only (d : Dev) (m : Nat) (b : Bool) : d.Only [.mbx] [.word MBX_STAT] (d.setFull m b) := by
  have hset : d.Only [.mbx] [.word MBX_STAT] (d.set MBX_STAT_FULL (natSetBit (d.get MBX_STAT_FULL) m b)) :=
    (Dev.Only.refl _ _ d).set _ _ (.inr (.inl (by simp [MBX_STAT_FULL])))
  unfold Dev.setFull
  dsimp only
  split
  · exact hset
  · exact hset.trans (only_mbx ..)

theorem setFull_full (d : Dev) (m : Nat) (b : Bool) {j : Nat} (hj : j < 8) :
    (d.setFull m b).mbxFull j = if j = m then b else d.mbxFull j := by
  have hget : (d.setFull m b).get MBX_STAT_FULL = natSetBit (d.get MBX_STAT_FULL) m b % 2 ^ 8 := by
    unfold Dev.setFull
    dsimp only
    split <;> exact Dev.get_set_same _ _ _ (by decide)
  rw [Dev.mbxFull, hget, natBit_mod hj, natBit_natSetBit, Dev.mbxFull]

theorem mbxAborted_only (d : Dev) (m : Nat) : d.Only [.mbx] [.word MBX_STAT] (d.mbxAborted m) := by
  have hset : d.Only [.mbx] [.word MBX_STAT] (d.set MBX_STAT_ABORTED (natSetBit (d.get MBX_STAT_ABORTED) m true)) :=
    (Dev.Only.refl _ _ d).set _ _ (.inr (.inl (by simp [MBX_STAT_ABORTED])))
  unfold Dev.mbxAborted
  dsimp only
  split
  · exact hset.trans (only_mbx ..)
  · exact hset

theorem mbxAborted_full (d : Dev) (m j : Nat) : (d.mbxAborted m).mbxFull j = d.mbxFull j := by
  have hget : (d.mbxAborted m).get MBX_STAT_FULL = d.get MBX_STAT_FULL := by
    unfold Dev.mbxAborted
    dsimp only
    split <;> exact Dev.get_set_ne _ _ _ _ (by simp [Fld.apart, MBX_STAT_ABORTED, MBX_STAT_FULL])
  rw [Dev.mbxFull, hget, Dev.mbxFull]

/-- Mailboxes 1 and 3, whose reader is the host: the writer's interrupt is a line of its core. -/
theorem mbxIrq_line {m : Nat} (hm : m = 1 ∨ m = 3) (d : Dev) : ∃ o, d.mbxIrq st (mbxWriter m) m = d.emit o := by
  obtain rfl | rfl := hm <;> exact ⟨_, rfl⟩

/-- A mailbox of the host's is cleared: its word, FULL, and what tells its writer. -/
theorem clearMbx_only {m : Nat} (hm : m = 1 ∨ m = 3) (d : Dev) :
    d.Only [.mbx, .out] [.word MBX_STAT, .word (MBX_DATA m)] (d.clearMbx st m) := by
  have hcleared : d.Only [.mbx, .out] [.word MBX_STAT, .word (MBX_DATA m)] ((d.set (MBX_DATA_WORD m) 0).setFull m false) :=
    ((Dev.Only.refl _ _ d).set _ _ (.inr (.inl (by simp [MBX_DATA_WORD])))).trans
      ((setFull_only ..).mono (by simp) (by simp))
  obtain ⟨o, ho⟩ := mbxIrq_line (st := st) hm (((d.set (MBX_DATA_WORD m) 0).setFull m false).mbxAborted m)
  unfold Dev.clearMbx
  dsimp only
  rw [if_neg (by omega : m ≠ 7), ho]
  exact .ite hcleared ((hcleared.trans ((mbxAborted_only ..).mono (by simp) (by simp))).emit o (by simp))

theorem clearMbx_full {m j : Nat} (hm : m = 1 ∨ m = 3) (hj : j < 8) (d : Dev) :
    (d.clearMbx st m).mbxFull j = if j = m then false else d.mbxFull j := by
  have hcleared : ((d.set (MBX_DATA_WORD m) 0).setFull m false).mbxFull j = if j = m then false else d.mbxFull j := by
    rw [setFull_full _ _ _ hj, Dev.mbxFull, Dev.get_set_ne]
    · rfl
    · simp [Fld.apart, MBX_DATA_WORD, MBX_STAT_FULL, MBX_DATA, MBX_STAT]
      omega
  obtain ⟨o, ho⟩ := mbxIrq_line (st := st) hm (((d.set (MBX_DATA_WORD m) 0).setFull m false).mbxAborted m)
  unfold Dev.clearMbx
  dsimp only
  rw [if_neg (by omega : m ≠ 7), ho]
  split
  · exact hcleared
  · exact (mbxAborted_full ..).trans hcleared

/-- The two mailboxes that the host reads are cleared. -/
theorem clearMbxs_only (d : Dev) : d.Only [.mbx, .out] [.word MBX_STAT, .word (MBX_DATA 1), .word (MBX_DATA 3)]
    (d.clearMbxs st [1, 3]) :=
  ((clearMbx_only (.inl rfl) d).mono (by simp) (by simp)).trans ((clearMbx_only (.inr rfl) _).mono (by simp) (by simp))

theorem clearMbxs_full {j : Nat} (hj : j < 8) (d : Dev) :
    (d.clearMbxs st [1, 3]).mbxFull j = (d.mbxFull j && decide (j ≠ 1 ∧ j ≠ 3)) := by
  have h : (d.clearMbxs st [1, 3]).mbxFull j = if j = 3 then false else if j = 1 then false else d.mbxFull j :=
    (clearMbx_full (.inr rfl) hj _).trans (by rw [clearMbx_full (.inl rfl) hj])
  rw [h]
  by_cases h1 : j = 1 <;> by_cases h3 : j = 3 <;> simp [h1, h3]

/-! The registers that return to Reset (R51). -/

/-- A register of the HIF and RING blocks that a reset of the function returns to Reset. -/
def resetByFunction (a : Nat) : Bool :=
  decide (0x010000 ≤ a) && decide (a < 0x030000) &&
    !(a == RING_FLIP_MODE || a == RING_FLIP_ACC || a == RING_FLIP_REJ || a == RING_FLIP_HELD)

/-- READY and the two link fields, with what they hold. -/
def Dev.keptFields (d : Dev) : List (Fld × Nat) := [HIF_STAT_READY, HIF_STAT_LINK_GEN, HIF_STAT_LINK_WIDTH].map fun f => (f, d.get f)

/-- The device with those registers at Reset. -/
def Dev.ringsReset (d : Dev) : Dev := { d with regs := d.regs.filter fun e => !resetByFunction e.1 }.setAll d.keptFields

theorem Cells.read_filter {α : Type} (dflt : Nat → α) (p : Nat → Bool) (c : Cells α) (a : Nat) :
    Cells.read dflt (c.filter fun e => p e.1) a = if p a then Cells.read dflt c a else dflt a := by
  induction c with
  | nil => simp [Cells.read]
  | cons x rest ih =>
    obtain ⟨b, v⟩ := x
    by_cases hp : p b
    · rw [List.filter_cons_of_pos (by simpa using hp)]
      by_cases hb : b = a
      · subst hb
        simp [Cells.read, hp]
      · simp [Cells.read, hb, ih]
    · rw [List.filter_cons_of_neg (by simpa using hp), ih]
      by_cases hb : b = a
      · subst hb
        simp [hp]
      · simp [Cells.read, hb]

theorem rd_filtered (d : Dev) (a : Nat) : ({ d with regs := d.regs.filter fun e => !resetByFunction e.1 } : Dev).rd a =
    if resetByFunction a then regReset a else d.rd a := by
  rw [Dev.rd, Cells.read_filter regReset (fun a => !resetByFunction a)]
  cases resetByFunction a <;> rfl

theorem rd_setAll_ne {l : List (Fld × Nat)} {a : Nat} (h : ∀ x ∈ l, a ≠ x.1.addr) : (d.setAll l).rd a = d.rd a := by
  induction l generalizing d with
  | nil => rfl
  | cons x l ih =>
    obtain ⟨hx, hl⟩ := List.forall_mem_cons.mp h
    exact (ih hl).trans (Dev.rd_set_ne _ _ _ hx)

theorem ringsReset_rd {a : Nat} (ha : a ≠ HIF_STAT) : d.ringsReset.rd a = if resetByFunction a then regReset a else d.rd a :=
  (rd_setAll_ne (by simpa [Dev.keptFields, HIF_STAT_READY, HIF_STAT_LINK_GEN, HIF_STAT_LINK_WIDTH] using ha)).trans (rd_filtered d a)

/-- The fields of HIF_STAT that are not kept share no bit with those that are. -/
theorem hifStat_apart {r : RegDesc} {f : FieldDesc} (hr : regAt HIF_STAT = some r) (hf : f ∈ r.fields)
    (hk : (⟨HIF_STAT, f.lo, f.width⟩ : Fld) ∉ [HIF_STAT_READY, HIF_STAT_LINK_GEN, HIF_STAT_LINK_WIDTH]) :
    ∀ g ∈ [HIF_STAT_READY, HIF_STAT_LINK_GEN, HIF_STAT_LINK_WIDTH], g.apart ⟨HIF_STAT, f.lo, f.width⟩ := by
  have hall : (regAt HIF_STAT).all fun r => r.fields.all fun f =>
      decide ((⟨HIF_STAT, f.lo, f.width⟩ : Fld) ∈ [HIF_STAT_READY, HIF_STAT_LINK_GEN, HIF_STAT_LINK_WIDTH]) ||
      [HIF_STAT_READY, HIF_STAT_LINK_GEN, HIF_STAT_LINK_WIDTH].all fun g =>
        decide (g.lo + g.width ≤ f.lo ∨ f.lo + f.width ≤ g.lo) := by decide +kernel
  rw [hr, Option.all_some] at hall
  have hone := List.all_eq_true.mp hall f hf
  rw [decide_eq_false hk, Bool.false_or] at hone
  exact fun g hg => .inr (of_decide_eq_true (List.all_eq_true.mp hone g hg))

theorem ringsReset_hifStat {f : Fld} (ha : f.addr = HIF_STAT)
    (hf : ∀ g ∈ [HIF_STAT_READY, HIF_STAT_LINK_GEN, HIF_STAT_LINK_WIDTH], g.apart f) :
    d.ringsReset.get f = fieldOf (regReset HIF_STAT) f.lo f.width := by
  have hreset : resetByFunction HIF_STAT = true := by decide
  refine (get_setAll_apart _ (by simpa [Dev.keptFields] using hf)).trans ?_
  rw [Dev.get, ha, rd_filtered, if_pos hreset]

/-- READY and the link fields stay. -/
theorem ringsReset_kept {f : Fld} (hf : f ∈ [HIF_STAT_READY, HIF_STAT_LINK_GEN, HIF_STAT_LINK_WIDTH]) :
    d.ringsReset.get f = d.get f := by
  have hlt (g : Fld) : d.get g % 2 ^ g.width = d.get g := Nat.mod_mod ..
  simp only [List.mem_cons, List.not_mem_nil, or_false] at hf
  obtain rfl | rfl | rfl := hf
  · exact (get_setAll [] [_, _] (by decide) (by simp [Fld.apart, HIF_STAT_READY, HIF_STAT_LINK_GEN, HIF_STAT_LINK_WIDTH])).trans (hlt _)
  · exact (get_setAll [_] [_] (by decide) (by simp [Fld.apart, HIF_STAT_LINK_GEN, HIF_STAT_LINK_WIDTH])).trans (hlt _)
  · exact (get_setAll [_, _] [] (by decide) (by simp)).trans (hlt _)

theorem ringsReset_only (d : Dev) : d.Only [] [.block 0x01, .block 0x02] d.ringsReset := by
  have hkept : Dev.Only [] [.word HIF_STAT] { d with regs := d.regs.filter fun e => !resetByFunction e.1 } d.ringsReset :=
    (Dev.Only.refl _ _ _).setAll _ (by simp [Dev.keptFields, HIF_STAT_READY, HIF_STAT_LINK_GEN, HIF_STAT_LINK_WIDTH])
  refine ⟨fun p hp => Part.same_trans (by cases p <;> simp [Part.same]) (hkept.1 p hp), fun a k ha => ?_⟩
  have hout : ¬ (0x010000 ≤ a ∧ a < 0x030000) := by
    have h1 := ha (.block 0x01) (by simp)
    have h2 := ha (.block 0x02) (by simp)
    simp only [Area.has] at h1 h2
    omega
  have hstat : a ≠ HIF_STAT := fun h => hout (by rw [h, HIF_STAT]; omega)
  rw [ringsReset_rd hstat, if_neg (by simp only [resetByFunction, Bool.and_eq_true, decide_eq_true_eq]; omega)]

/-! The reset of the function (R51). -/

/-- What a reset of the function may change. -/
def functionParts : List Part := [.host, .mbx, .time, .twin, .cal, .sec, .queue, .out]

/-- The registers that a reset of the function may change. -/
def functionAreas : List Area := [.block 0x01, .block 0x02, .word MBX_STAT, .word (MBX_DATA 1), .word (MBX_DATA 3)]

/-- What a reset of the function leaves, but for the function's own registers and the MSI-X table. -/
structure FunctionReset (d e : Dev) : Prop where
  only : d.Only functionParts functionAreas e
  fresh : e.rcd.fresh = d.rcd.fresh
  descs : e.host.descs = []
  cpls : e.host.cpls = []
  queue : e.host.queue.length = d.host.queue.length
  flying : e.host.flying.length = d.host.flying.length
  linkUp : e.host.linkUp = d.host.linkUp
  rings : ∀ a, a / 0x10000 = 1 ∨ a / 0x10000 = 2 → e.rd a = d.ringsReset.rd a
  full : ∀ m : Fin 8, e.mbxFull m = (d.mbxFull m && decide ((m : Nat) ≠ 1 ∧ (m : Nat) ≠ 3))
  twin : e.twin = { d.twin with swap := d.twin.swap.map fun w => { w with index := none } }

/-- Two devices that differ in the host's part and the mailboxes' alone, where what stays of the host agrees. -/
theorem FunctionReset.before (h : FunctionReset e f) (ho : d.Only [.host, .mbx] [] e) (hq : e.host.queue = d.host.queue)
    (hf : e.host.flying = d.host.flying) (hu : e.host.linkUp = d.host.linkUp) (hregs : e.regs = d.regs) : FunctionReset d f := by
  have hrd (a : Nat) : e.rd a = d.rd a := by rw [Dev.rd, hregs, Dev.rd]
  have hrings (a : Nat) : e.ringsReset.rd a = d.ringsReset.rd a := by
    by_cases ha : a = HIF_STAT
    · subst ha
      simp only [Dev.ringsReset, Dev.keptFields, Dev.get, hrd, hregs, List.map, Dev.setAll, Dev.set]
      rfl
    · rw [ringsReset_rd ha, ringsReset_rd ha, hrd]
  exact {
    only := (ho.mono (by simp [functionParts]) (by simp)).trans h.only
    fresh := h.fresh.trans (ho.1 .queue (by simp)).2.1
    descs := h.descs
    cpls := h.cpls
    queue := h.queue.trans (congrArg List.length hq)
    flying := h.flying.trans (congrArg List.length hf)
    linkUp := h.linkUp.trans hu
    rings := fun a ha => (h.rings a ha).trans (hrings a)
    full := fun m => by rw [h.full, Dev.mbxFull, Dev.get, hrd, Dev.mbxFull, Dev.get]
    twin := by rw [h.twin, ho.1 .twin (by simp)] }

theorem forgetWaiters_only (d : Dev) : d.Only [.host, .time, .twin, .cal, .sec, .queue] [] d.forgetWaiters :=
  .parts rfl fun p hp => by cases p <;> simp_all [Part.same, Dev.forgetWaiters]

/-- The rings' part of the host interface at Reset, with the flips that go on (R51). -/
def HostSt.ringsReset (h : HostSt) : HostSt :=
  { h with
    hostIdx := [0, 0, 0, 0, 0], shadow := none, shadowSeq := 1, lastShadow := none, lastPoll := none, lastFence := none,
    failRun := 0, descs := [], cpls := [], items := List.replicate 16 (0, 0)
    queue := h.queue.map fun f => { f with dropped := true }, flying := h.flying.map fun f => { f with dropped := true } }

/-- A reset of the function: the registers, the host's part, the waiters and the mailboxes, in this order. -/
theorem opFunctionReset_eq (st : Straps) (d : Dev) : d.opFunctionReset st =
    ({ d.ringsReset with host := d.host.ringsReset } : Dev).forgetWaiters.clearMbxs st [1, 3] := by
  have hhost : d.ringsReset.host = d.host := Dev.setAll_host ..
  rw [← hhost]
  rfl

/-- The host's part, apart from what names no descriptor, after a reset of the function. -/
structure HostForgets (h h' : HostSt) : Prop where
  descs : h'.descs = []
  cpls : h'.cpls = []
  queue : h'.queue.length = h.queue.length
  flying : h'.flying.length = h.flying.length
  linkUp : h'.linkUp = h.linkUp
  pcie : h'.pcie = h.pcie
  vecMask : h'.vecMask = h.vecMask
  pba : h'.pba = h.pba

theorem opFunctionReset_host (st : Straps) (d : Dev) : HostForgets d.host (d.opFunctionReset st).host := by
  have hhost : (d.opFunctionReset st).host = ({ d.ringsReset with host := d.host.ringsReset } : Dev).forgetWaiters.host := by
    rw [opFunctionReset_eq]
    exact (clearMbxs_only _).1 .host (by simp)
  rw [hhost]
  exact { descs := rfl, cpls := rfl, queue := List.length_map _, flying := List.length_map _, linkUp := rfl, pcie := rfl,
          vecMask := rfl, pba := rfl }

theorem opFunctionReset_resets (st : Straps) (d : Dev) : FunctionReset d (d.opFunctionReset st) := by
  have h := opFunctionReset_eq st d
  have hhost := opFunctionReset_host st d
  have hwait := forgetWaiters_only { d.ringsReset with host := d.host.ringsReset }
  have hclear := clearMbxs_only (st := st) ({ d.ringsReset with host := d.host.ringsReset } : Dev).forgetWaiters
  have hregs : d.Only functionParts functionAreas { d.ringsReset with host := d.host.ringsReset } :=
    ((ringsReset_only d).mono (by simp) (by simp [functionAreas])).trans ((Dev.only_host ..).mono (by simp [functionParts]) fun _ => id)
  rw [← h] at hclear
  have hstat : d.ringsReset.rd MBX_STAT = d.rd MBX_STAT := by
    rw [ringsReset_rd (by decide), if_neg (by decide)]
  exact {
    only := hregs.trans ((hwait.mono (by simp [functionParts]) (by simp)).trans
      (hclear.mono (by simp [functionParts]) (by simp [functionAreas])))
    fresh := by
      rw [(hclear.1 .queue (by simp)).2.1]
      exact ((ringsReset_only d).1 .queue (by simp)).2.1
    descs := hhost.descs
    cpls := hhost.cpls
    queue := hhost.queue
    flying := hhost.flying
    linkUp := hhost.linkUp
    rings := fun a ha => (hclear.rd_eq (by
      simp [Area.has, MBX_STAT, MBX_DATA]
      omega)).trans (hwait.rd_eq (by simp))
    full := fun m => by
      rw [h, clearMbxs_full m.isLt]
      congr 1
      rw [Dev.mbxFull, hwait.get_eq _ (by simp), Dev.mbxFull]
      exact congrArg (fun w => natBit (fieldOf w 0 8) m) hstat
    twin := by
      rw [hclear.1 .twin (by simp)]
      have htwin : d.ringsReset.twin = d.twin := (ringsReset_only d).1 .twin (by simp)
      exact congrArg (fun t : TwinSt => { t with swap := t.swap.map fun w : Swap => { w with index := none } }) htwin }

theorem enterD3hot_resets (st : Straps) (d : Dev) : FunctionReset d (d.enterD3hot st) := by
  have h := opFunctionReset_resets st d
  exact { h with
    only := h.only.trans ((Dev.only_host ..).mono (by simp [functionParts]) fun _ => id) }

theorem resetFunction_resets (st : Straps) (d : Dev) : FunctionReset d (d.resetFunction.opFunctionReset st) :=
  (opFunctionReset_resets st d.resetFunction).before
    (.parts rfl fun p hp => by cases p <;> simp_all [Part.same, Dev.resetFunction]) rfl rfl rfl rfl

/-- The effect of a reset of the function, and what it satisfies. -/
theorem run_functionReset {g : Straps → Dev → Dev} {p : State → Prop} (hset : Settled s)
    (h : FunctionReset s.dev (g s.straps s.dev)) (hp : p { s with dev := g s.straps s.dev }) : AnswersWith (run g s) p :=
  ⟨_, by simp only [run, Dev.finish_of_settled _ (h.fresh.trans hset)], hp⟩

/-! What the registers read after it. -/

theorem FunctionReset.field {a : Nat} {r : RegDesc} {x : FieldDesc} (h : FunctionReset d e)
    (hblock : a / 0x10000 = 1 ∨ a / 0x10000 = 2)
    (hflip : a ≠ RING_FLIP_MODE ∧ a ≠ RING_FLIP_ACC ∧ a ≠ RING_FLIP_REJ ∧ a ≠ RING_FLIP_HELD)
    (hr : regAt a = some r) (hx : x ∈ r.fields)
    (hk : (⟨a, x.lo, x.width⟩ : Fld) ∉ [HIF_STAT_READY, HIF_STAT_LINK_GEN, HIF_STAT_LINK_WIDTH]) :
    fieldOf (e.rd a) x.lo x.width = fieldOf (regReset a) x.lo x.width := by
  rw [h.rings a hblock]
  by_cases ha : a = HIF_STAT
  · subst ha
    exact ringsReset_hifStat (d := d) (f := ⟨HIF_STAT, x.lo, x.width⟩) rfl (hifStat_apart hr hx hk)
  · obtain ⟨h1, h2, h3, h4⟩ := hflip
    have hin : resetByFunction a = true := by
      simp only [resetByFunction, h1, h2, h3, h4, beq_eq_false_iff_ne, Bool.and_eq_true, decide_eq_true_eq, ne_eq,
        not_false_eq_true, Bool.not_eq_true', Bool.or_eq_false_iff, and_self, and_true]
      omega
    rw [ringsReset_rd ha, if_pos hin]

theorem FunctionReset.flips {a : Nat} (h : FunctionReset d e)
    (ha : a = RING_FLIP_MODE ∨ a = RING_FLIP_ACC ∨ a = RING_FLIP_REJ ∨ a = RING_FLIP_HELD) : e.rd a = d.rd a := by
  obtain ⟨hblock, hstat, hout⟩ : (a / 0x10000 = 1 ∨ a / 0x10000 = 2) ∧ a ≠ HIF_STAT ∧ resetByFunction a = false := by
    obtain rfl | rfl | rfl | rfl := ha <;> decide
  rw [h.rings a hblock, ringsReset_rd hstat, hout]
  rfl

theorem FunctionReset.hifStat {x : Fld} (h : FunctionReset d e) (hx : x ∈ [HIF_STAT_READY, HIF_STAT_LINK_GEN, HIF_STAT_LINK_WIDTH]) :
    e.get x = d.get x := by
  have haddr : x.addr = HIF_STAT := by
    simp only [List.mem_cons, List.not_mem_nil, or_false] at hx
    obtain rfl | rfl | rfl := hx <;> rfl
  rw [Dev.get, h.rings _ (by rw [haddr]; decide)]
  exact ringsReset_kept hx

/-- A field whose whole register is at Reset. -/
theorem FunctionReset.zero {x : Fld} (h : FunctionReset d e) (hblock : x.addr / 0x10000 = 1 ∨ x.addr / 0x10000 = 2)
    (hstat : x.addr ≠ HIF_STAT) (hin : resetByFunction x.addr = true) (hz : fieldOf (regReset x.addr) x.lo x.width = 0) :
    e.get x = 0 := by
  rw [Dev.get, h.rings _ hblock, ringsReset_rd hstat, if_pos hin, hz]

/-- What a Function Level Reset and D3hot have in common. -/
theorem FunctionReset.summary (h : FunctionReset d e) (n : Fin 5) (m : Fin 8) :
    e.host.descs = [] ∧ e.host.cpls = [] ∧ e.host.queue.length = d.host.queue.length ∧
    e.host.flying.length = d.host.flying.length ∧ e.host.linkUp = d.host.linkUp ∧
    e.get (RING_CFG_EN n) = 0 ∧ e.get (RING_IDX_INDEX n) = 0 ∧ e.get HIF_CTRL_EN = 0 ∧
    e.get HIF_STAT_READY = d.get HIF_STAT_READY ∧ e.get HIF_STAT_LINK_GEN = d.get HIF_STAT_LINK_GEN ∧
    e.rd RING_FLIP_ACC = d.rd RING_FLIP_ACC ∧ e.rd RING_FLIP_HELD = d.rd RING_FLIP_HELD ∧
    e.mbxFull m = (d.mbxFull m && decide ((m : Nat) ≠ 1 ∧ (m : Nat) ≠ 3)) := by
  have hring (x : Fld) (hx : x = RING_CFG_EN n ∨ x = RING_IDX_INDEX n) : e.get x = 0 := by
    have hall : ∀ k : Fin 5, ∀ x ∈ [RING_CFG_EN k, RING_IDX_INDEX k], (x.addr / 0x10000 = 1 ∨ x.addr / 0x10000 = 2) ∧
        x.addr ≠ HIF_STAT ∧ resetByFunction x.addr = true ∧ fieldOf (regReset x.addr) x.lo x.width = 0 := by decide +kernel
    obtain ⟨hblock, hstat, hin, hz⟩ := hall n x (by simpa using hx)
    exact h.zero hblock hstat hin hz
  exact ⟨h.descs, h.cpls, h.queue, h.flying, h.linkUp, hring _ (.inl rfl), hring _ (.inr rfl),
    h.zero (by decide) (by decide) (by decide) (by decide +kernel), h.hifStat (by simp), h.hifStat (by simp), h.flips (by simp),
    h.flips (by simp), h.full m⟩

end

/-- Settles O10: the writes of the function's own spaces and the link's rows are single updates; `resetFunction_resets` and
`enterD3hot_resets` say what a reset of the function leaves. -/
theorem pcieFunction : Obligations.PcieFunction := by
  unfold Obligations.PcieFunction
  refine ⟨?perst, ?command, ?aer, ?table, ?mask, ?linkUp, ?linkDown, ?flr, ?fields, ?flips, ?d3hot⟩
  case perst =>
    intro s hon
    rw [show exec .perstDeassert s = run _ s from runSender_pos hon]
    exact run_quiet_with hon.2.2 (.parts rfl fun p hp => by cases p <;> simp_all [Part.same, Dev.resetFunction, Dev.emit])
      (by simp) ⟨rfl, rfl, rfl⟩
  case command =>
    intro s v hon hup
    rw [exec_registerWrite_config hon hup rfl, ← natBit_toNat, ← natBit_toNat]
    exact run_host hon.2.2 (configWrite_command _ hup)
  case aer =>
    intro s v hon hup
    rw [exec_registerWrite_config hon hup rfl, ← natBit_toNat]
    exact run_host hon.2.2 (configWrite_aer _ hup)
  case table =>
    intro s n v hon hup hmem hd3
    rw [exec_registerWrite_bar2 hon hup hmem hd3 (by omega)]
    exact run_host hon.2.2 (bar2Write_data n _)
  case mask =>
    intro s n v hon hup hmem hd3 hv
    rw [exec_registerWrite_bar2 hon hup hmem hd3 (by omega)]
    exact run_host hon.2.2 (bar2Write_mask n ((natBit_toNat v 0).trans hv))
  case linkUp =>
    intro s gen width hon hge hle hwidth
    rw [show exec (.pcieLinkUp gen width) s = run _ s from
      runIf_pos (s := s) (c := fun st d => isSender st && d.awake && decide (1 ≤ gen) && decide (gen ≤ 5) &&
        [1, 2, 4, 8].contains width) (by simpa [isSender_of_on hon, awake_of_on hon.2, hge, hle] using hwidth)]
    exact run_linkFields hon.2.2 (by omega) (by omega) rfl
  case linkDown =>
    intro s hon
    rw [show exec .pcieLinkDown s = run _ s from runSender_pos hon]
    exact run_linkFields hon.2.2 (by decide) (by decide) rfl
  case flr =>
    intro s n m hon
    have h := resetFunction_resets s.straps s.dev
    have hhost := opFunctionReset_host s.straps s.dev.resetFunction
    rw [show exec .functionLevelReset s = run _ s from runSender_pos hon]
    refine run_functionReset (g := fun st d => d.resetFunction.opFunctionReset st) hon.2.2 h ⟨⟨rfl, rfl, h.only⟩, ?_⟩
    obtain ⟨h1, h2, h3, h4, h5, h6, h7, h8, h9, h10, h11, h12, h13⟩ := h.summary n m
    exact ⟨h1, h2, h3, h4, h5, h6, h7, h8, h9, h10, h11, h12, h13, hhost.pcie, hhost.vecMask, hhost.pba, h.twin⟩
  case fields =>
    intro s a r x hon hblock hflip hr hx hk
    rw [show exec .functionLevelReset s = run _ s from runSender_pos hon, show exec .d3hotEntry s = run _ s from runSender_pos hon]
    exact ⟨run_functionReset (g := fun st d => d.resetFunction.opFunctionReset st) hon.2.2 (resetFunction_resets ..)
        ((resetFunction_resets ..).field hblock hflip hr hx hk),
      run_functionReset (g := fun st d => d.enterD3hot st) hon.2.2 (enterD3hot_resets ..)
        ((enterD3hot_resets ..).field hblock hflip hr hx hk)⟩
  case flips =>
    intro s a hon ha
    rw [show exec .functionLevelReset s = run _ s from runSender_pos hon, show exec .d3hotEntry s = run _ s from runSender_pos hon]
    exact ⟨run_functionReset (g := fun st d => d.resetFunction.opFunctionReset st) hon.2.2 (resetFunction_resets ..)
        ((resetFunction_resets ..).flips ha),
      run_functionReset (g := fun st d => d.enterD3hot st) hon.2.2 (enterD3hot_resets ..) ((enterD3hot_resets ..).flips ha)⟩
  case d3hot =>
    intro s n m hon
    have h := enterD3hot_resets s.straps s.dev
    have hhost := opFunctionReset_host s.straps s.dev
    rw [show exec .d3hotEntry s = run _ s from runSender_pos hon]
    refine run_functionReset (g := fun st d => d.enterD3hot st) hon.2.2 h ⟨⟨rfl, rfl, h.only⟩, ?_⟩
    obtain ⟨h1, h2, h3, h4, h5, h6, h7, h8, h9, h10, h11, h12, h13⟩ := h.summary n m
    exact ⟨h1, h2, h3, h4, h5, h6, h7, h8, h9, h10, h11, h12, h13,
      congrArg (fun p : PcieSt => { p with d3hot := true }) hhost.pcie, hhost.vecMask, hhost.pba, h.twin⟩

end Sys2Proof.Machine
end

section
/-! SUPPORT. Transfers from the device (R67, R178, R237, R276, R347, R362, R377): how a tile's transfer is filled, how a sender's own
is served, what each object gives, and the statement. -/

namespace Sys2Proof.Machine

section
variable {d e : Dev} {st : Straps} {s : State} {desc : List Byte} {mine : List Byte → Bool}
  {f : Straps → List Byte → Dev → Answer × List Byte}

/-! A transfer at a tile (R178). -/

theorem only_tile (as : List Area) (x : TileSt) (d : Dev) (hf : x.front = d.tile.front) (hb : x.back = d.tile.back) :
    d.Only [.tile] as { d with tile := x } :=
  .parts rfl fun p hp => by cases p <;> simp_all [Part.same]

/-- The transfer that waits at a tile, and what is known of it. -/
theorem waitsGet_remote (hw : WaitsGet .remote desc s = true) : tileOn s ∧ ∃ b, s.dev.tile.bulks = [b] ∧
    cmdDesc b.pkt.bytes = desc ∧ b.pulls = [] ∧ s.dev.fillable b = true := by
  simp only [WaitsGet, Bool.and_eq_true, decide_eq_true_eq] at hw
  obtain ⟨hon, hb⟩ := hw
  split at hb
  · rename_i b hbulks
    simp only [Bool.and_eq_true, beq_iff_eq, List.isEmpty_iff] at hb
    obtain ⟨⟨⟨⟨hdesc, -⟩, -⟩, hpulls⟩, hfill⟩ := hb
    exact ⟨hon, b, hbulks, hdesc, hpulls, hfill⟩
  · exact absurd hb (by simp)

/-- The bulk transfers of a tile have their data, or are refused. -/
def Dev.filled (status value : Nat) (bytes : List Byte) (d : Dev) : Dev :=
  { d with tile.bulks := d.tile.bulks.map fun b =>
      { b with snapshot := some bytes, refused := status, refusedValue := value } }

theorem filled_only (status value : Nat) (bytes : List Byte) (as : List Area) (d : Dev) :
    d.Only [.tile] as (d.filled status value bytes) := only_tile as _ d rfl rfl

/-- A transfer that waits alone, without pulls, is filled. -/
theorem fillBulk_one {b : BulkIn} {g : Dev → Answer × List Byte} {status value : Nat} {bytes : List Byte}
    (hb : d.tile.bulks = [b]) (hp : b.pulls = []) (hg : g d = (((status, value), e), bytes)) (ht : e.tile = d.tile) :
    d.fillBulk st g b = e.filled status value bytes := by
  have hone : e.tile.bulks = [b] := ht ▸ hb
  simp [Dev.fillBulk, hg, hp, Dev.servePulls, Dev.modBulk, hone, Dev.filled]

/-- A transfer at a tile is served by what its object's effect gives, or refused with the effect's status. -/
theorem runGet_remote {ps : List Part} {as : List Area} {status value : Nat} {bytes : List Byte}
    (hw : WaitsGet .remote desc s = true) (hm : mine desc = true) (hns : snapshotObject (bObject desc) = false)
    (hf : f s.straps desc s.dev = (((status, value), e), bytes)) (he : s.dev.Only ps as e)
    (hps : Part.tile ∉ ps ∧ Part.frameStore ∉ ps ∧ Part.queue ∉ ps) :
    AnswersWith (runGet mine f .remote s) fun t => Only (.tile :: ps) as s t ∧ t.dev = e.filled status value bytes ∧
      t.dev.tile = (s.dev.filled status value bytes).tile := by
  obtain ⟨hon, b, hb, rfl, hpulls, hfill⟩ := waitsGet_remote hw
  have htile : e.tile = s.dev.tile := tile_of_only he hps.1 hps.2.1
  have hdev : s.dev.getRemote s.straps mine f = e.filled status value bytes := by
    have hfound : (s.dev.tile.bulks.find? fun b => mine (cmdDesc b.pkt.bytes) && s.dev.fillable b) = some b := by
      simp [hb, hm, hfill]
    rw [Dev.getRemote, hfound]
    simp only [hns, Bool.false_eq_true, if_false]
    exact fillBulk_one hb hpulls hf htile
  rw [show runGet mine f .remote s = run (fun st d => d.getRemote st mine f) s from runTile_pos hon]
  refine run_quiet_with (ps := .tile :: ps) hon.2.2 ?_ (by simpa using hps.2.2) ⟨hdev, ?_⟩
  · rw [hdev]
    exact (he.mono (fun _ => List.mem_cons_of_mem _) fun _ => id).trans
      ((filled_only ..).mono (by simp) fun _ => id)
  · rw [hdev, Dev.filled, htile]
    rfl

/-- A snapshot object is served from the bytes taken at its frame boundary (R276). -/
theorem runGet_snapshot {m : List Byte} (hw : WaitsGet .remote desc s = true) (hm : mine desc = true)
    (hs : snapshotObject (bObject desc) = true) (hb : s.dev.tile.bulks.map BulkIn.boundary = [some m]) :
    AnswersWith (runGet mine f .remote s) fun t => Only [.tile] [] s t ∧
      GetDone .remote desc (slice m (bOffset desc) (bLength desc)) s t := by
  obtain ⟨hon, b, hbulks, rfl, hpulls, hfill⟩ := waitsGet_remote hw
  have hbound : b.boundary = some m := by simpa [hbulks] using hb
  have hdev : s.dev.getRemote s.straps mine f =
      s.dev.filled ST_OK 0 (slice m (bOffset (cmdDesc b.pkt.bytes)) (bLength (cmdDesc b.pkt.bytes))) := by
    have hfound : (s.dev.tile.bulks.find? fun b => mine (cmdDesc b.pkt.bytes) && s.dev.fillable b) = some b := by
      simp [hbulks, hm, hfill]
    rw [Dev.getRemote, hfound]
    simp only [hs, if_true]
    exact fillBulk_one hbulks hpulls (by simp [BulkIn.getSnapshot, BulkIn.boundaryBytes, hbound]) rfl
  rw [show runGet mine f .remote s = run (fun st d => d.getRemote st mine f) s from runTile_pos hon]
  refine run_quiet_with hon.2.2 ?_ (by simp) ?_
  · rw [hdev]
    exact filled_only ..
  · simp only [hdev]
    rfl

/-! A transfer of the sender itself. -/

/-- What `oneDesc` says. -/
theorem oneDesc_iff {x : Desc} : oneDesc x s = true ↔
    senderOn s ∧ s.dev.host.descs = [x] ∧ s.dev.host.out = [] ∧ dNoCpl x.bytes = false := by
  simp [oneDesc, and_assoc]

theorem startDesc_one {i : Nat} (h : d.host.descs = [bulkAt i desc .fetched []]) :
    d.startDesc 2 i = { d with host := { d.host with descs := [bulkAt i desc .started []] } } := by
  simp [Dev.startDesc, Dev.modDesc, h, bulkAt]

/-- A descriptor of the sender's own is served at once: its bytes go to host memory, and it completes with their CRC. -/
theorem runGet_ring {ps : List Part} {as : List Area} {i value : Nat} {bytes : List Byte}
    (hone : oneDesc (bulkAt i desc .fetched []) s = true) (hl : dLocal desc = true)
    (hans : (s.dev.bulkAnswer s.straps desc).1 = ST_OK) (hm : mine desc = true) (hserves : s.dev.serves (bObject desc) = true)
    (hf : f s.straps desc (s.dev.startDesc 2 i) = (((ST_OK, value), e), bytes)) (he : (s.dev.startDesc 2 i).Only ps as e)
    (hps : Part.host ∉ ps ∧ Part.out ∉ ps ∧ Part.queue ∉ ps) :
    AnswersWith (runGet mine f (.ring i) s) fun t => Only (.host :: .out :: ps) as s t ∧
      t.dev.host = s.dev.host.completed (bulkAt i desc .fetched []) ST_OK (crc32c (e.served desc bytes 0 (bLength desc))) ∧
      t.dev.out = s.dev.out ++ [.hostWrite (bHostAddr desc) (e.served desc bytes 0 (bLength desc))] ∧
      t.dev.sec = e.sec ∧ t.dev.nvm = e.nvm := by
  obtain ⟨hon, hdescs, hout, hcpl⟩ := oneDesc_iff.mp hone
  have hfound : s.dev.findDesc 2 i = some (bulkAt i desc .fetched []) := by simp [Dev.findDesc, hdescs, bulkAt]
  have hstart : s.dev.startable (bulkAt i desc .fetched []) = true := startable_one _ hdescs rfl
  generalize hbytes : e.served desc bytes 0 (bLength desc) = served at *
  have hhost : e.host = { s.dev.host with descs := [bulkAt i desc .started []] } := by
    rw [he.1 .host hps.1, startDesc_one hdescs]
  have hdev : s.dev.getLocal s.straps i mine f = { e.emit (.hostWrite (bHostAddr desc) served) with
      host := s.dev.host.completed (bulkAt i desc .fetched []) ST_OK (crc32c served) } := by
    have hfin := finishDesc_one (d := e.emit (.hostWrite (bHostAddr desc) served)) (bulkAt i desc .started []) ST_OK
      (crc32c served) (by simp [hhost]) (by simp [hhost, hout]) (by simp [bulkAt]) rfl hcpl
    rw [Dev.getLocal, hfound]
    simp only [show (bulkAt i desc .fetched []).bytes = desc from rfl, hm, hstart, hl, hans, hserves, hf, hbytes,
      Bool.not_true, Bool.or_self, Bool.false_eq_true, if_false, ne_eq, not_true_eq_false]
    refine hfin.trans ?_
    rw [Dev.emit_host, hhost]
    rfl
  rw [show runGet mine f (.ring i) s = run (fun st d => d.getLocal st i mine f) s from runSender_pos hon]
  refine run_quiet_with (ps := .host :: .out :: ps) hon.2.2 ?_ (by simpa using hps.2.2) ?_
  · rw [hdev]
    have hframe : s.dev.Only (.host :: .out :: ps) as e := by
      rw [startDesc_one hdescs] at he
      exact ((Dev.only_host as _ s.dev).mono (by simp) fun _ => id).trans
        (he.mono (fun _ h => List.mem_cons_of_mem _ (List.mem_cons_of_mem _ h)) fun _ => id)
    exact (hframe.emit _ (by simp)).trans ((Dev.only_host ..).mono (by simp) fun _ => id)
  · simp only [hdev]
    have hsame : e.out = s.dev.out := (he.1 .out hps.2.1).trans (by rw [startDesc_one hdescs])
    exact ⟨trivial, by simp [hsame], rfl, rfl⟩

/-- A descriptor of the sender's own that its object refuses at once. -/
theorem runGet_ring_refused {i status value : Nat} (hone : oneDesc (bulkAt i desc .fetched []) s = true) (hl : dLocal desc = true)
    (hans : s.dev.bulkAnswer s.straps desc = (status, value)) (hbad : status ≠ ST_OK) (hm : mine desc = true) :
    AnswersWith (runGet mine f (.ring i) s) fun t => Only [.host] [] s t ∧
      t.dev.host = s.dev.host.completed (bulkAt i desc .fetched []) status value := by
  obtain ⟨hon, hdescs, hout, hcpl⟩ := oneDesc_iff.mp hone
  have hfound : s.dev.findDesc 2 i = some (bulkAt i desc .fetched []) := by simp [Dev.findDesc, hdescs, bulkAt]
  have hstart : s.dev.startable (bulkAt i desc .fetched []) = true := startable_one _ hdescs rfl
  rw [show runGet mine f (.ring i) s = run (fun st d => d.getLocal st i mine f) s from runSender_pos hon]
  refine run_host hon.2.2 ?_
  rw [Dev.getLocal, hfound]
  simp only [show (bulkAt i desc .fetched []).bytes = desc from rfl, hm, hstart, hl, hans, hbad, Bool.not_true, Bool.or_self,
    Bool.false_eq_true, if_false, ne_eq, not_false_eq_true, if_true]
  exact finishDesc_one (bulkAt i desc .fetched []) status value hdescs hout (by simp [bulkAt]) rfl hcpl

/-- Two devices with another host's part each keep to the same frame. -/
theorem Dev.Only.withHost {ps : List Part} {as : List Area} (he : d.Only ps as e) (h : HostSt) :
    ({ d with host := h } : Dev).Only ps as { e with host := h } := by
  refine ⟨fun p hp => ?_, he.2⟩
  have hsame := he.1 p hp
  cases p <;> first | exact hsame | rfl

/-- A transfer whose object's effect does not look at the host's part is served, at a tile or at the sender itself. -/
theorem runGet_served {ps : List Part} {as : List Area} {ref : CmdRef} {bytes : List Byte}
    (hw : WaitsGet ref desc s = true) (hm : mine desc = true) (hns : snapshotObject (bObject desc) = false)
    (hdump : bObject desc ≠ OB_REC_DUMP) (hserves : s.dev.serves (bObject desc) = true)
    (hf : ∀ h : HostSt, f s.straps desc { s.dev with host := h } = (((ST_OK, 0), { e with host := h }), bytes))
    (he : s.dev.Only ps as e)
    (hps : Part.tile ∉ ps ∧ Part.frameStore ∉ ps ∧ Part.queue ∉ ps ∧ Part.host ∉ ps ∧ Part.out ∉ ps) :
    AnswersWith (runGet mine f ref s) fun t => Only (ps ++ getParts ref) as s t ∧ GetDone ref desc bytes s t ∧
      t.dev.sec = e.sec ∧ t.dev.nvm = e.nvm := by
  obtain ⟨htile, hstore, hqueue, hhost, hout⟩ := hps
  cases ref with
  | remote =>
    have hself : { e with host := s.dev.host } = e := by rw [← he.1 .host hhost]
    obtain ⟨t, ht, hframe, hdev, hdone⟩ := runGet_remote hw hm hns ((hf s.dev.host).trans (by rw [hself])) he
      ⟨htile, hstore, hqueue⟩
    exact ⟨t, ht, ⟨hframe.1, hframe.2.1, hframe.2.2.mono (by simp [getParts, or_comm]) fun _ => id⟩, hdone, by rw [hdev]; rfl,
      by rw [hdev]; rfl⟩
  | ring i =>
    simp only [WaitsGet, Bool.and_eq_true, beq_iff_eq] at hw
    obtain ⟨⟨⟨hone, hl⟩, hans⟩, -⟩ := hw
    obtain ⟨-, hdescs, -, -⟩ := oneDesc_iff.mp hone
    have hstart := startDesc_one (d := s.dev) hdescs
    obtain ⟨t, ht, hframe, hdone, hsent, hsec, hnvm⟩ := runGet_ring (mine := mine) (f := f) hone hl hans hm hserves
      ((congrArg (f s.straps desc) hstart).trans (hf _)) (hstart ▸ he.withHost _) ⟨hhost, hout, hqueue⟩
    rw [Dev.served, if_neg hdump] at hdone hsent
    exact ⟨t, ht, ⟨hframe.1, hframe.2.1, hframe.2.2.mono (by simp [getParts, or_comm, or_assoc]) fun _ => id⟩, ⟨hdone, hsent⟩,
      hsec, hnvm⟩

/-! What each object gives. -/

/-- A read of eMRAM counts corrected words, and nothing else (R339). -/
theorem nvmRead_only (d : Dev) : d.Only [.free] [.field NVM_STAT_CE] d.nvmRead :=
  ((Dev.Only.refl _ _ d).draw 65536 (by simp)).addSat _ _ (by simp)

/-- The device after the next leaf has been used. -/
def Dev.leafUsed (d : Dev) : Dev :=
  let d1 := if d.sec.leaf = d.nvm.trusted.nextQ then { d with nvm.trusted.nextQ := d.sec.leaf + 64 }.countWrite else d
  { d1 with sec.leaf := d.sec.leaf + 1 }

theorem leafUsed_only (d : Dev) : d.Only [.sec, .nvm] [] d.leafUsed := by
  unfold Dev.leafUsed
  dsimp only
  split <;> exact .parts rfl fun p hp => by cases p <;> simp_all [Part.same, Dev.countWrite]

/-- A report does not name the count of committed leaves, nor anything of the host's part. -/
theorem report_committed (nonce : List Byte) (q n : Nat) (h : HostSt) (d : Dev) :
    ({ d with host := h, nvm.trusted.nextQ := n } : Dev).countWrite.report st nonce q = d.report st nonce q := rfl

theorem getAttest_report (h : HostSt) (hleaf : d.sec.leaf < 2 ^ 20) :
    ({ d with host := h } : Dev).getAttest st desc =
      (((ST_OK, 0), { d.leafUsed with host := h }), d.report st (slice desc 32 16) d.sec.leaf) := by
  have hok : ¬ 2 ^ 20 ≤ d.sec.leaf := by omega
  have hatt : ({ d with host := h } : Dev).opAttest st (slice desc 32 16) =
      (some (d.report st (slice desc 32 16) d.sec.leaf), { d.leafUsed with host := h }) := by
    unfold Dev.opAttest Dev.leafUsed
    dsimp only
    rw [if_neg hok]
    split
    · rw [report_committed]
      rfl
    · rfl
  rw [Dev.getAttest, hatt]

theorem getAttest_exhausted (hleaf : 2 ^ 20 ≤ d.sec.leaf) : d.getAttest st desc = (((ST_LMS_EXHAUSTED, 0), d), []) := by
  have hatt : d.opAttest st (slice desc 32 16) = (none, d) := if_pos hleaf
  rw [Dev.getAttest, hatt]

theorem leafUsed_nextQ (d : Dev) : d.leafUsed.nvm.trusted.nextQ =
    if d.sec.leaf = d.nvm.trusted.nextQ then d.sec.leaf + 64 else d.nvm.trusted.nextQ := by
  unfold Dev.leafUsed
  dsimp only
  split <;> rfl

theorem leafUsed_sec (d : Dev) : d.leafUsed.sec = { d.sec with leaf := d.sec.leaf + 1 } := by
  unfold Dev.leafUsed
  dsimp only
  split <;> rfl

theorem isObject_iff {dir ob : Nat} : isObject dir ob desc = true ↔ dOpcode desc = dir ∧ bObject desc = ob := by
  simp [isObject]

/-- LAMP_MAP and MEAS are a tile's (R276). -/
theorem bulkAnswer_snapshot (hs : isSender st = true) (hop : dOpcode desc = 2)
    (hob : bObject desc = OB_LAMP_MAP ∨ bObject desc = OB_MEAS) : d.bulkAnswer st desc = (ST_BAD_PARAM, 0) := by
  have hrole : isTile st = false := by
    simp only [isSender, isTile, beq_iff_eq, beq_eq_false_iff_ne] at hs ⊢
    simp [hs]
  obtain hob | hob := hob <;>
    simp [Dev.bulkAnswer, hop, hob, hrole, OB_MGMT_STAGE, OB_MANIFEST, OB_ATTEST, OB_COEF_SET, OB_SAFE_IMAGE, OB_LAMP_MAP, OB_MEAS]

/-! The recorder's dump (R377). -/

/-- The header of a dump from the oldest record on. -/
theorem recDumpHeader_oldest (hempty : d.get REC_STAT_EMPTY = 0) (hparam : bParam desc 36 % 2 = 1) :
    recDumpHeader d desc = leBytes (d.get REC_OLDEST_SEQ) 4 ++ leBytes (d.get REC_NEWEST_SEQ) 4 ++
      leBytes (d.get REC_OLDEST_SEQ) 4 ++
      leBytes (if precedes (d.get REC_NEWEST_SEQ) (d.get REC_OLDEST_SEQ) = true then 0
        else min (dist32 (d.get REC_OLDEST_SEQ) (d.get REC_NEWEST_SEQ) + 1) ((bLength desc - 32) / 32)) 4 ++
      leBytes (d.get REC_LOST_CNT_COUNT) 4 ++ leBytes (d.get TIME_STAT_TEPOCH) 1 ++ zeros 11 := by
  have hfirst : natBit (bParam desc 36) 0 = true := by simpa [natBit, natBits] using hparam
  simp [recDumpHeader, hfirst, getb_eq_false.mpr hempty]

theorem slice_append (l m : List Byte) (k : Nat) : slice (l ++ m) 0 (l.length + k) = l ++ slice m 0 k := by
  refine List.ext_getElem (by simp [slice]) fun j hj _ => ?_
  by_cases h : j < l.length
  · simp [slice, byteAt, List.getElem?_append_left h, List.getElem_append_left h, h]
  · have hle : l.length ≤ j := by omega
    simp [slice, byteAt, List.getElem?_append_right hle, List.getElem_append_right hle]

/-- A dump of one record: its header and the record. -/
theorem recDumpBytes_one {header : List Byte} {n : Nat} (hlen : header.length = 32) (hfirst : leAt header 8 4 = n)
    (hcount : leAt header 12 4 = 1) (hn : n < 2 ^ 32) :
    recDumpBytes d header 0 64 = header ++ slice (recDumpRecord d n) 0 32 := by
  have hlist : ((List.range ((0 + 64 + 31) / 32 - 0 / 32)).flatMap fun k =>
      if 0 / 32 + k = 0 then header else if 0 / 32 + k ≤ leAt header 12 4 then
        recDumpRecord d ((leAt header 8 4 + (0 / 32 + k) - 1) % 2 ^ 32) else zeros 32) = header ++ recDumpRecord d n := by
    simp [List.range_succ, hfirst, hcount, Nat.mod_eq_of_lt (show n < 4294967296 from hn)]
  have hslice := slice_append header (recDumpRecord d n) 32
  rw [hlen] at hslice
  rw [← hslice, ← hlist]
  rfl

/-- What a dump takes of a record does not depend on the host's part or on the count of corrected words. -/
theorem recDumpRecord_nvmRead (n : Nat) (h : HostSt) (d : Dev) :
    recDumpRecord ({ d with host := h } : Dev).nvmRead n = recDumpRecord d n := by
  have hget (f : Fld) (hf : f.addr ≠ NVM_STAT) : ({ d with host := h } : Dev).nvmRead.get f = d.get f :=
    ((nvmRead_only { d with host := h }).get_eq f (by simpa [Area.has, NVM_STAT_CE] using fun k e => absurd e hf)).trans rfl
  have hresult : ({ d with host := h } : Dev).nvmRead.recResult n = d.recResult n := by
    unfold Dev.recResult Dev.getb
    rw [hget _ (by decide), hget _ (by decide), hget _ (by decide)]
    rfl
  unfold recDumpRecord
  rw [hresult]
  rfl

/-- The header of a dump whose one record is `n`. -/
theorem recDumpHeader_single (hempty : d.get REC_STAT_EMPTY = 0) (hparam : bParam desc 36 % 2 = 1) (hlen : bLength desc = 64)
    (hsame : d.get REC_OLDEST_SEQ = d.get REC_NEWEST_SEQ) :
    recDumpHeader d desc = leBytes (d.get REC_NEWEST_SEQ) 4 ++ leBytes (d.get REC_NEWEST_SEQ) 4 ++
      leBytes (d.get REC_NEWEST_SEQ) 4 ++ leBytes 1 4 ++ leBytes (d.get REC_LOST_CNT_COUNT) 4 ++
      leBytes (d.get TIME_STAT_TEPOCH) 1 ++ zeros 11 := by
  have hdist : dist32 (d.get REC_NEWEST_SEQ) (d.get REC_NEWEST_SEQ) = 0 := by unfold dist32; omega
  rw [recDumpHeader_oldest hempty hparam, hsame, hlen, precedes_irrefl, hdist]
  rfl

/-- A dump of one record, taken of a device whose host's part differs. -/
theorem recDumpBytes_single (hempty : d.get REC_STAT_EMPTY = 0) (hparam : bParam desc 36 % 2 = 1) (hlen : bLength desc = 64)
    (hsame : d.get REC_OLDEST_SEQ = d.get REC_NEWEST_SEQ) (h : HostSt) :
    recDumpBytes ({ d with host := h } : Dev).nvmRead (recDumpHeader d desc) 0 64 =
      recDumpHeader d desc ++ slice (recDumpRecord d (d.get REC_NEWEST_SEQ)) 0 32 := by
  have hn : d.get REC_NEWEST_SEQ < 2 ^ 32 := Nat.mod_lt _ (Nat.two_pow_pos _)
  have hheader := recDumpHeader_single hempty hparam hlen hsame
  rw [← recDumpRecord_nvmRead (d.get REC_NEWEST_SEQ) h d]
  refine recDumpBytes_one ?_ ?_ ?_ hn
  · simp [hheader, zeros]
  · have hat := leAt_append_leBytes 4 (d.get REC_NEWEST_SEQ)
      (leBytes (d.get REC_NEWEST_SEQ) 4 ++ leBytes (d.get REC_NEWEST_SEQ) 4)
      (leBytes 1 4 ++ (leBytes (d.get REC_LOST_CNT_COUNT) 4 ++ (leBytes (d.get TIME_STAT_TEPOCH) 1 ++ zeros 11)))
    simpa [hheader, Nat.mod_eq_of_lt (show d.get REC_NEWEST_SEQ < 4294967296 from hn)] using hat
  · have hat := leAt_append_leBytes 4 1
      (leBytes (d.get REC_NEWEST_SEQ) 4 ++ (leBytes (d.get REC_NEWEST_SEQ) 4 ++ leBytes (d.get REC_NEWEST_SEQ) 4))
      (leBytes (d.get REC_LOST_CNT_COUNT) 4 ++ (leBytes (d.get TIME_STAT_TEPOCH) 1 ++ zeros 11))
    simpa [hheader] using hat

theorem recDumpHeader_host (h : HostSt) (d : Dev) : recDumpHeader { d with host := h } desc = recDumpHeader d desc := rfl

/-! Settings (R362). -/

theorem settingsId_eq (desc : List Byte) : settingsId desc = bParam desc 32 % 16 := by simp [settingsId, natBits]

theorem getSettings_block {b : SetBlock} (h : HostSt) (hb : d.block (bParam desc 32 % 16) = some b) :
    ({ d with host := h } : Dev).getSettings desc =
      (((ST_OK, 0), { d.nvmRead with host := h }), if natBit (bParam desc 33) 0 = true then b.header else b.body) := by
  have hb' : ({ d with host := h } : Dev).block (settingsId desc) = some b := by
    rw [settingsId_eq]
    exact hb
  unfold Dev.getSettings
  generalize ({ d with host := h } : Dev).block (settingsId desc) = x at *
  subst hb'
  rfl

end

/-- Settles O22: `runGet_served` for the objects that both roles serve, `runGet_remote` and `runGet_snapshot` for a tile's, and
`runGet_ring` for a sender's own dump. -/
theorem servedObjects : Obligations.ServedObjects := by
  unfold Obligations.ServedObjects
  refine ⟨?report, ?exhausted, ?coef, ?lamps, ?meas, ?refused, ?dump, ?ownDump, ?settings⟩
  case report =>
    intro s ref desc hw hobj hleaf hlen
    obtain ⟨-, hob⟩ := isObject_iff.mp hobj
    obtain ⟨t, ht, hframe, hdone, hsec, hnvm⟩ := runGet_served (mine := isObject 2 OB_ATTEST)
      (f := fun st desc d => d.getAttest st desc) hw hobj (by rw [hob]; decide) (by rw [hob]; decide)
      (by simp [Dev.serves, hob, trustedObject]) (fun h => getAttest_report h hleaf) (leafUsed_only s.dev) (by decide)
    exact ⟨t, ht, hframe, hdone, hsec.trans (leafUsed_sec _), (congrArg (fun n => n.trusted.nextQ) hnvm).trans (leafUsed_nextQ _)⟩
  case exhausted =>
    intro s desc hw hobj hleaf
    obtain ⟨-, hob⟩ := isObject_iff.mp hobj
    obtain ⟨-, b, hb, -⟩ := waitsGet_remote hw
    obtain ⟨t, ht, hframe, -, htile⟩ := runGet_remote (mine := isObject 2 OB_ATTEST) (f := fun st desc d => d.getAttest st desc)
      hw hobj (by rw [hob]; decide) (getAttest_exhausted hleaf) (Dev.Only.refl [] [] s.dev) (by decide)
    exact ⟨t, ht, hframe, by rw [htile]; simp [Dev.filled, hb]⟩
  case coef =>
    intro s desc slot hw hobj hnamed
    obtain ⟨-, hob⟩ := isObject_iff.mp hobj
    obtain ⟨t, ht, hframe, -, htile⟩ := runGet_remote (mine := isObject 2 OB_COEF_SET) (f := fun _ desc d => d.getCoef desc)
      hw hobj (by rw [hob]; decide) (by rw [Dev.getCoef, hnamed]) (nvmRead_only s.dev) (by decide)
    exact ⟨t, ht, hframe, htile⟩
  case lamps =>
    intro s desc m hw hobj hm
    exact runGet_snapshot hw hobj (by rw [(isObject_iff.mp hobj).2]; decide) hm
  case meas =>
    intro s desc m hw hobj hm
    exact runGet_snapshot hw hobj (by rw [(isObject_iff.mp hobj).2]; decide) hm
  case refused =>
    intro s i desc hone hl hobj
    have hsender := isSender_of_on (oneDesc_iff.mp hone).1
    split
    case isTrue hlamp =>
      have hobj' : isObject 2 OB_LAMP_MAP desc = true := by
        obtain h | h := hobj
        · exact h
        · exact absurd ((isObject_iff.mp h).2.symm.trans hlamp) (by decide)
      exact runGet_ring_refused hone hl (bulkAnswer_snapshot hsender (isObject_iff.mp hobj').1 (.inl hlamp)) (by decide) hobj'
    case isFalse hlamp =>
      have hobj' : isObject 2 OB_MEAS desc = true := hobj.resolve_left fun h => hlamp (isObject_iff.mp h).2
      obtain ⟨hop, hob⟩ := isObject_iff.mp hobj'
      exact runGet_ring_refused hone hl (bulkAnswer_snapshot hsender hop (.inr hob)) (by decide) hobj'
  case dump =>
    intro s desc hw hobj hempty hparam
    obtain ⟨-, hob⟩ := isObject_iff.mp hobj
    obtain ⟨t, ht, hframe, -, htile⟩ := runGet_remote (mine := isObject 2 OB_REC_DUMP) (f := fun _ desc d => d.getDump desc)
      hw hobj (by rw [hob]; decide) rfl (nvmRead_only s.dev) (by decide)
    rw [recDumpHeader_oldest hempty hparam] at htile
    exact ⟨t, ht, hframe, htile⟩
  case ownDump =>
    intro s i desc hone hl hobj hfirm hlim hoff hlen hempty hparam hsame
    obtain ⟨hop, hob⟩ := isObject_iff.mp hobj
    obtain ⟨-, hdescs, -, -⟩ := oneDesc_iff.mp hone
    have hans : (s.dev.bulkAnswer s.straps desc).1 = ST_OK := by
      simp [Dev.bulkAnswer, hop, hob, hlim, bulkDirOk, recDumpOk, hoff, hlen, OB_MGMT_STAGE, OB_MANIFEST, OB_ATTEST, OB_COEF_SET,
        OB_SAFE_IMAGE, OB_LAMP_MAP, OB_MEAS, OB_REC_DUMP]
    obtain ⟨t, ht, hframe, hdone, hsent, -⟩ := runGet_ring (mine := isObject 2 OB_REC_DUMP) (f := fun _ desc d => d.getDump desc)
      hone hl hans hobj (by simp [Dev.serves, hfirm]) rfl (nvmRead_only _) (by decide)
    rw [Dev.served, if_pos hob, hlen, startDesc_one hdescs, recDumpHeader_host,
      recDumpBytes_single hempty hparam hlen hsame, recDumpHeader_single hempty hparam hlen hsame] at hdone hsent
    exact ⟨t, ht, hframe, hsent, hdone⟩
  case settings =>
    intro s ref desc b hw hobj hfirm hblock
    obtain ⟨-, hob⟩ := isObject_iff.mp hobj
    obtain ⟨t, ht, hframe, hdone, -⟩ := runGet_served (mine := isObject 2 OB_SETTINGS) (f := fun _ desc d => d.getSettings desc)
      hw hobj (by rw [hob]; decide) (by rw [hob]; decide) (by simp [Dev.serves, hfirm])
      (fun h => getSettings_block h hblock) (nvmRead_only s.dev) (by decide)
    exact ⟨t, ht, hframe, hdone⟩

end Sys2Proof.Machine
end

section
/-! SUPPORT. Objects in eMRAM (R338 to R340): the fields of a commit record, the areas that a write makes good, and the object in
force once another has been committed. -/

namespace Sys2Proof.Machine

section
variable {d : Dev}

/-! The lengths of check values and hashes. -/

theorem revBits_lt (v w : Nat) : revBits v w < 2 ^ w := by
  induction w generalizing v with
  | zero => simp [revBits]
  | succ w ih =>
    have hbit : v % 2 * 2 ^ w ≤ 2 ^ w := by
      obtain h | h := Nat.mod_two_eq_zero_or_one v <;> simp [h]
    have hrest := ih (v / 2)
    rw [revBits, Nat.pow_succ]
    omega

theorem crcReflBit_lt {rp v w : Nat} (hrp : rp < 2 ^ w) (hv : v < 2 ^ w) : crcReflBit rp v < 2 ^ w := by
  have hhalf : v / 2 < 2 ^ w := Nat.lt_of_le_of_lt (Nat.div_le_self v 2) hv
  unfold crcReflBit
  split
  · exact Nat.xor_lt_two_pow hhalf hrp
  · exact hhalf

theorem crcByteRefl_lt {c : CrcSpec} {v byte : Nat} (hv : v < 2 ^ c.width) (hb : byte < 2 ^ c.width) :
    crcByteRefl c v byte < 2 ^ c.width := by
  have hbit {x : Nat} (hx : x < 2 ^ c.width) : crcReflBit (revBits c.poly c.width) x < 2 ^ c.width :=
    crcReflBit_lt (revBits_lt ..) hx
  exact hbit (hbit (hbit (hbit (hbit (hbit (hbit (hbit (Nat.xor_lt_two_pow hv hb))))))))

theorem crc32c_lt (bs : List Byte) : crc32c bs < 2 ^ 32 := by
  have hfeed (v : Nat) (hv : v < 2 ^ 32) : crcFeed (crcSpec 1) v bs < 2 ^ 32 := by
    unfold crcFeed
    induction bs generalizing v with
    | nil => exact hv
    | cons b bs ih => exact ih _ (crcByteRefl_lt (c := crcSpec 1) hv (Nat.lt_trans b.isLt (by decide)))
  exact Nat.xor_lt_two_pow (hfeed _ (by decide)) (by decide)

theorem sha256_length (bs : List Byte) : (sha256 bs).length = 32 := by
  simp only [sha256, beBytes, List.length_append, List.length_reverse, leBytes_length]

theorem slice_length (bs : List Byte) (k n : Nat) : (slice bs k n).length = n := by simp [slice]

theorem slice_whole (bs : List Byte) : slice bs 0 bs.length = bs := by
  rw [slice_eq_take_drop (by omega), List.drop_zero, List.take_length]

/-! Commit records (R340). -/

theorem recordBody_length (kind slot seq length : Nat) (hash : List Byte) :
    (recordBody kind slot seq length hash).length = 60 := by
  simp [recordBody, slice_length, zeros]

/-- A number stands before the numbers behind it. -/
theorem leAt_leBytes_append (v : Nat) (l : List Byte) : leAt (leBytes v 4 ++ l) 0 4 = v % 2 ^ 32 :=
  leAt_append_leBytes 4 v [] l

theorem byteAt_leBytes_append (v k : Nat) (l : List Byte) : byteAt (leBytes v 4 ++ l) (k + 4) = byteAt l k := by
  simp only [byteAt]
  rw [List.getElem?_append_right (by simp), leBytes_length, Nat.add_sub_cancel]

theorem leAt_leBytes_append_add (v k n : Nat) (l : List Byte) : leAt (leBytes v 4 ++ l) (k + 4) n = leAt l k n := by
  induction n generalizing k with
  | zero => rfl
  | succ n ih => rw [leAt, leAt, byteAt_leBytes_append, Nat.add_right_comm k 4 1, ih]

/-- The fields of a commit record. -/
theorem recordBytes_fields (kind slot seq length : Nat) (hash : List Byte) :
    let r := recordBytes kind slot seq length hash
    leAt r 0 4 = 0x43524D4F ∧ leAt r 4 4 = kind % 2 ^ 32 ∧ leAt r 8 4 = slot % 2 ^ 32 ∧ recordSeq r = seq % 2 ^ 32 ∧
    recordLength r = length % 2 ^ 32 := by
  simp only [recordBytes, recordBody, List.append_assoc, recordSeq, recordLength]
  generalize slice hash 0 32 ++ _ = rest
  refine ⟨leAt_leBytes_append .., ?_, ?_, ?_, ?_⟩
  · rw [leAt_leBytes_append_add _ 0, leAt_leBytes_append]
  · rw [leAt_leBytes_append_add _ 4, leAt_leBytes_append_add _ 0, leAt_leBytes_append]
  · rw [leAt_leBytes_append_add _ 8, leAt_leBytes_append_add _ 4, leAt_leBytes_append_add _ 0, leAt_leBytes_append]
  · rw [leAt_leBytes_append_add _ 12, leAt_leBytes_append_add _ 8, leAt_leBytes_append_add _ 4, leAt_leBytes_append_add _ 0,
      leAt_leBytes_append]

theorem recordBytes_hash (kind slot seq length : Nat) {hash : List Byte} (hh : hash.length = 32) :
    recordHash (recordBytes kind slot seq length hash) = hash := by
  have hself : slice hash 0 32 = hash := by rw [← hh, slice_whole]
  have hsplit : recordBytes kind slot seq length hash =
      (leBytes 0x43524D4F 4 ++ leBytes kind 4 ++ leBytes slot 4 ++ leBytes seq 4 ++ leBytes length 4) ++
        (hash ++ (zeros 8 ++ leBytes (crc32c (recordBody kind slot seq length hash)) 4)) := by
    simp [recordBytes, recordBody, hself]
  rw [recordHash, hsplit, slice_eq_take_drop (by simp [hh, zeros]), List.drop_left' (by simp), List.take_left' hh]

/-- A record written for a slot is one of that slot, and its CRC matches. -/
theorem recordBytes_ok {kind slot : Nat} (seq length : Nat) (hash : List Byte) (hk : kind < 2 ^ 32) (hs : slot < 2 ^ 32) :
    recordOk kind slot (recordBytes kind slot seq length hash) = true := by
  obtain ⟨hmagic, hkind, hslot, -, -⟩ := recordBytes_fields kind slot seq length hash
  have hbody := recordBody_length kind slot seq length hash
  have hcrc : leAt (recordBytes kind slot seq length hash) 60 4 = crc32c (recordBody kind slot seq length hash) := by
    have hat := leAt_append_leBytes 4 (crc32c (recordBody kind slot seq length hash)) (recordBody kind slot seq length hash) []
    rw [hbody, List.append_nil] at hat
    exact hat.trans (Nat.mod_eq_of_lt (crc32c_lt _))
  have htake : (recordBytes kind slot seq length hash).take 60 = recordBody kind slot seq length hash := List.take_left' hbody
  have hlen : (recordBytes kind slot seq length hash).length = 64 := by simp [recordBytes, hbody]
  rw [recordOk, hmagic, hkind, hslot, hcrc, htake, hlen, Nat.mod_eq_of_lt hk, Nat.mod_eq_of_lt hs]
  simp

/-! The areas that a write makes good (R339). -/

theorem areaBad_clearBad (d : Dev) (a c : Option NvmArea) (n : Nat) :
    (d.clearBad c).areaBad a n = if a = c then false else d.areaBad a n := by
  simp only [Dev.areaBad, Dev.clearBad, List.any_filter]
  by_cases hac : a = c
  · rw [if_pos hac, List.any_eq_false]
    intro x _
    subst hac
    cases h : (some x.1 == a) <;> simp [bne, h]
  · rw [if_neg hac]
    congr 1
    funext x
    by_cases hx : some x.1 = a
    · simp [hx, hac]
    · simp [hx]

/-! An object that is committed (R340). -/

/-- The kinds of the settings record and of the safe images. -/
def storedKind (k : Nat) : Prop := k = NK_SETTINGS ∨ k = NK_SAFE

theorem slots_setSlots {k : Nat} (hk : storedKind k) (l : List NvmSlot) (d : Dev) : (d.setSlots k l).slots k = l := by
  obtain rfl | rfl := hk <;> rfl

theorem bad_setSlots {k : Nat} (hk : storedKind k) (l : List NvmSlot) (d : Dev) : (d.setSlots k l).nvm.bad = d.nvm.bad := by
  obtain rfl | rfl := hk <;> rfl

/-- The slot that holds a committed object. -/
def committedSlot (k slot seq : Nat) (bytes : List Byte) (w : NvmSlot) : NvmSlot :=
  { bytes := bytes, written := 0, commit := recordBytes k slot (seq % 2 ^ 32) bytes.length (sha256 bytes), prior := w.commit }

theorem commitObject_slots {k : Nat} (hk : storedKind k) (bytes : List Byte) (d : Dev) :
    (d.commitObject k bytes).slots k = (d.slots k).modify (d.spareSlot k) (committedSlot k (d.spareSlot k) (d.nextSeq k) bytes) := by
  have hwritten : (d.writeSlot k (d.spareSlot k) bytes).slots k =
      (d.slots k).modify (d.spareSlot k) fun s => { s with bytes := bytes, written := 0 } := slots_setSlots hk _ d
  refine (slots_setSlots hk _ _).trans ?_
  rw [hwritten, modAt, List.modify_modify_eq]
  rfl

theorem commitObject_areaBad {k : Nat} (hk : storedKind k) (bytes : List Byte) (a : Option NvmArea) (n : Nat) (d : Dev) :
    (d.commitObject k bytes).areaBad a n =
      if a = some (commitArea k (d.spareSlot k)) ∨ a = slotArea k (d.spareSlot k) then false else d.areaBad a n := by
  have hbad {e f : Dev} (h : e.nvm.bad = f.nvm.bad) : e.areaBad a n = f.areaBad a n := by simp [Dev.areaBad, h]
  have hwrite : (d.writeSlot k (d.spareSlot k) bytes).areaBad a n =
      if a = slotArea k (d.spareSlot k) then false else d.areaBad a n := by
    refine (areaBad_clearBad (d.setSlots k _) a _ n).trans ?_
    rw [hbad (bad_setSlots hk _ d)]
  refine (areaBad_clearBad ((d.writeSlot k (d.spareSlot k) bytes).setSlots k _) a _ n).trans ?_
  rw [hbad (bad_setSlots hk _ _), hwrite]
  by_cases h1 : a = some (commitArea k (d.spareSlot k)) <;> by_cases h2 : a = slotArea k (d.spareSlot k) <;> simp [h1, h2]

theorem spareSlot_lt (d : Dev) (k : Nat) : d.spareSlot k = 0 ∨ d.spareSlot k = 1 := by
  unfold Dev.spareSlot
  split <;> simp

/-- The areas of the two slots of a kind are apart. -/
theorem areas_apart {k s o : Nat} (hk : storedKind k) (hs : s = 0 ∨ s = 1) (ho : o = 0 ∨ o = 1) (hne : o ≠ s) :
    (some (commitArea k o) ≠ some (commitArea k s) ∧ some (commitArea k o) ≠ slotArea k s) ∧
    slotArea k o ≠ some (commitArea k s) ∧ slotArea k o ≠ slotArea k s := by
  obtain rfl : o = 1 - s := by omega
  obtain rfl | rfl := hk <;> obtain rfl | rfl := hs <;> decide

section
variable {k : Nat} (hk : storedKind k) {bytes : List Byte} (hlen : (d.slots k).length = 2)
include hk hlen

theorem commitObject_nth_new : nth ((d.commitObject k bytes).slots k) (d.spareSlot k) NvmSlot.empty =
    committedSlot k (d.spareSlot k) (d.nextSeq k) bytes (nth (d.slots k) (d.spareSlot k) NvmSlot.empty) := by
  have hlt : d.spareSlot k < (d.slots k).length := by have := spareSlot_lt d k; omega
  rw [commitObject_slots hk]
  simp [nth, hlt]

omit hlen in
theorem commitObject_nth_other {o : Nat} (ho : o ≠ d.spareSlot k) :
    nth ((d.commitObject k bytes).slots k) o NvmSlot.empty = nth (d.slots k) o NvmSlot.empty := by
  rw [commitObject_slots hk]
  simp [nth, Ne.symm ho]

/-- The new slot stands by its new record. -/
theorem commitObject_record : (d.commitObject k bytes).slotRecord k (d.spareSlot k) =
    some (recordBytes k (d.spareSlot k) (d.nextSeq k % 2 ^ 32) bytes.length (sha256 bytes)) := by
  have hkind : k < 2 ^ 32 := by obtain rfl | rfl := hk <;> decide
  have hslot : d.spareSlot k < 2 ^ 32 := by obtain h | h := spareSlot_lt d k <;> rw [h] <;> decide
  have hok := recordBytes_ok (d.nextSeq k % 2 ^ 32) bytes.length (sha256 bytes) hkind hslot
  have hgood := commitObject_areaBad hk bytes (some (commitArea k (d.spareSlot k))) 64 d
  rw [if_pos (.inl rfl)] at hgood
  simp [Dev.slotRecord, commitObject_nth_new hk hlen, committedSlot, hok, hgood, -Nat.reducePow]

omit hlen in
/-- The other slot stands as before. -/
theorem commitObject_record_other {o : Nat} (ho : o = 0 ∨ o = 1) (hne : o ≠ d.spareSlot k) :
    (d.commitObject k bytes).slotRecord k o = d.slotRecord k o := by
  obtain ⟨⟨h1, h2⟩, -⟩ := areas_apart hk (spareSlot_lt d k) ho hne
  have hsame := commitObject_areaBad hk bytes (some (commitArea k o)) 64 d
  rw [if_neg (not_or.mpr ⟨h1, h2⟩)] at hsame
  simp only [Dev.slotRecord, commitObject_nth_other hk hne, hsame]

omit hlen in
theorem commitObject_valid_other {o : Nat} (ho : o = 0 ∨ o = 1) (hne : o ≠ d.spareSlot k) :
    (d.commitObject k bytes).slotValid k o = d.slotValid k o := by
  obtain ⟨-, h1, h2⟩ := areas_apart hk (spareSlot_lt d k) ho hne
  have hsame (n : Nat) : (d.commitObject k bytes).areaBad (slotArea k o) n = d.areaBad (slotArea k o) n :=
    (commitObject_areaBad hk bytes (slotArea k o) n d).trans (if_neg (not_or.mpr ⟨h1, h2⟩))
  simp only [Dev.slotValid, commitObject_record_other hk ho hne, commitObject_nth_other hk hne, hsame]

omit hlen in
theorem commitObject_seq_other {o : Nat} (ho : o = 0 ∨ o = 1) (hne : o ≠ d.spareSlot k) :
    (d.commitObject k bytes).slotSeq k o = d.slotSeq k o := by
  simp only [Dev.slotSeq, commitObject_valid_other hk ho hne, commitObject_record_other hk ho hne]

variable (hb : bytes.length < 2 ^ 32)
include hb

theorem commitObject_valid : (d.commitObject k bytes).slotValid k (d.spareSlot k) = true := by
  obtain ⟨-, -, -, -, hlength⟩ := recordBytes_fields k (d.spareSlot k) (d.nextSeq k % 2 ^ 32) bytes.length (sha256 bytes)
  rw [Nat.mod_eq_of_lt hb] at hlength
  have hgood := commitObject_areaBad hk bytes (slotArea k (d.spareSlot k)) bytes.length d
  rw [if_pos (.inr rfl)] at hgood
  simp [Dev.slotValid, commitObject_record hk hlen, hlength, commitObject_nth_new hk hlen, committedSlot, hgood,
    recordBytes_hash _ _ _ _ (sha256_length bytes), -Nat.reducePow]

theorem commitObject_object : (d.commitObject k bytes).slotObject k (d.spareSlot k) = bytes := by
  obtain ⟨-, -, -, -, hlength⟩ := recordBytes_fields k (d.spareSlot k) (d.nextSeq k % 2 ^ 32) bytes.length (sha256 bytes)
  rw [Nat.mod_eq_of_lt hb] at hlength
  simp [Dev.slotObject, commitObject_valid hk hlen hb, commitObject_record hk hlen, commitObject_nth_new hk hlen, committedSlot,
    hlength, -Nat.reducePow]

variable (hq : d.nextSeq k < 2 ^ 32)
include hq

theorem commitObject_seq : (d.commitObject k bytes).slotSeq k (d.spareSlot k) = d.nextSeq k := by
  obtain ⟨-, -, -, hseq, -⟩ := recordBytes_fields k (d.spareSlot k) (d.nextSeq k % 2 ^ 32) bytes.length (sha256 bytes)
  rw [Nat.mod_eq_of_lt hq, Nat.mod_eq_of_lt hq] at hseq
  simp [Dev.slotSeq, commitObject_valid hk hlen hb, commitObject_record hk hlen, Nat.mod_eq_of_lt hq,
    hseq, -Nat.reducePow]

/-- An object that is committed is the one in force (R340). -/
theorem commitObject_inForce : (d.commitObject k bytes).objectInForce k = bytes := by
  suffices hf : (d.commitObject k bytes).inForce k = some (d.spareSlot k) by
    rw [Dev.objectInForce, hf]
    exact commitObject_object hk hlen hb
  have hvalid := commitObject_valid hk hlen hb
  have hseq := commitObject_seq hk hlen hb hq
  have hmax : d.slotSeq k 0 < d.nextSeq k ∧ d.slotSeq k 1 < d.nextSeq k := by unfold Dev.nextSeq; omega
  obtain hs | hs := spareSlot_lt d k
  · have hother := commitObject_seq_other (bytes := bytes) hk (.inr rfl) (show 1 ≠ d.spareSlot k by omega)
    rw [hs] at hvalid hseq ⊢
    have hlow : ¬ (d.commitObject k bytes).slotSeq k 0 < (d.commitObject k bytes).slotSeq k 1 := by omega
    simp [Dev.inForce, hvalid, hlow]
  · have hother := commitObject_seq_other (bytes := bytes) hk (.inl rfl) (show 0 ≠ d.spareSlot k by omega)
    rw [hs] at hvalid hseq ⊢
    have hhigh : (d.commitObject k bytes).slotSeq k 0 < (d.commitObject k bytes).slotSeq k 1 := by omega
    simp [Dev.inForce, hvalid, hhigh]

end

end
end Sys2Proof.Machine
end

section
/-! SUPPORT. Stored objects (R67, R178, R225, R235 to R237, R340, R362): how a transfer to the device is answered, what each object
does with its data, and the statement. -/

namespace Sys2Proof.Machine

section
variable {d e : Dev} {st : Straps} {s : State} {desc data : List Byte} {mine : List Byte → Bool}
  {f : Straps → List Byte → List Byte → Dev → Answer} {ps : List Part} {as : List Area}

/-! A transfer at a tile (R178). -/

/-- The registers that decide whether and how a tile answers. -/
def answerRegs : List Nat := [XPT_ADDR, LANE_STAT 0, LANE_STAT 1]

/-- Devices that agree on those registers and on the ports answer alike. -/
theorem answer_congr (hp : e.ports = d.ports) (hr : ∀ a ∈ answerRegs, e.rd a = d.rd a) (cmd : List Byte) :
    canAnswer e cmd = canAnswer d cmd ∧
    ∀ status value off l, rspWaits e cmd status value off l = rspWaits d cmd status value off l := by
  have haddr : e.rd XPT_ADDR = d.rd XPT_ADDR := hr _ (by simp [answerRegs])
  have hvalid : e.addrValid = d.addrValid := congrArg (fun w => fieldOf w 15 1 != 0) haddr
  have hsrc : tileSrc e = tileSrc d := by
    rw [tileSrc, tileSrc, hvalid, show e.get XPT_ADDR_ADDR = d.get XPT_ADDR_ADDR from congrArg (fun w => fieldOf w 0 12) haddr]
  have hrelay : e.relays (endPort (pktTail cmd)) = d.relays (endPort (pktTail cmd)) := by
    have hlane (n : Nat) (hn : LANE_STAT n ∈ answerRegs) : e.pstate n = d.pstate n :=
      congrArg (fun w => fieldOf w 0 4) (hr _ hn)
    cases h : pktTail cmd
    · exact congrArg (· == P_LS0) (hlane 1 (by simp [answerRegs]))
    · exact congrArg (· == P_LS0) (hlane 0 (by simp [answerRegs]))
  refine ⟨by rw [canAnswer, canAnswer, hvalid, hrelay], fun status value off l => ?_⟩
  simp only [rspWaits, rspPkt, tilePkt, hsrc, hp]

/-- The transfer that waits at a tile, and what is known of it. -/
theorem waitsPut_remote (hw : WaitsPut .remote desc data s = true) : tileOn s ∧ s.dev.tile.cmds = [] ∧
    s.dev.tile.running = [] ∧ ∃ b l, s.dev.tile.bulks = [b] ∧ b.last = some l ∧ cmdDesc b.pkt.bytes = desc ∧ b.data = data ∧
    b.opening = none ∧ b.segs = [] ∧ b.pulls = [] ∧ canAnswer s.dev l.1.bytes = true := by
  simp only [WaitsPut, Bool.and_eq_true, decide_eq_true_eq] at hw
  obtain ⟨⟨⟨hon, hcmds⟩, hrun⟩, hb⟩ := hw
  split at hb
  · rename_i b hbulks
    split at hb
    · rename_i l hlast
      simp only [Bool.and_eq_true, beq_iff_eq, List.isEmpty_iff, Option.isNone_iff_eq_none] at hb
      obtain ⟨⟨⟨⟨⟨hdesc, hdata⟩, hopen⟩, hsegs⟩, hpulls⟩, hcan⟩ := hb
      exact ⟨hon, hcmds, hrun, b, l, hbulks, hlast, hdesc, hdata, hopen, hsegs, hpulls, hcan⟩
    · exact absurd hb (by simp)
  · exact absurd hb (by simp)

/-- The transfer of a tile is over, and its RSP waits. -/
def Dev.putAnswered (cmd : List Byte) (status value : Nat) (d : Dev) : Dev :=
  { d with tile.bulks := [], ports := rspWaits d cmd status value 0 [] }

theorem putAnswered_only (cmd : List Byte) (status value : Nat) (as : List Area) (d : Dev) :
    d.Only [.tile, .ports] as (d.putAnswered cmd status value) :=
  .parts rfl fun p hp => by cases p <;> simp_all [Part.same, Dev.putAnswered]

/-- The one transfer that a tile carries out is answered, and is over. -/
theorem answer_put {b : BulkIn} {l : RxPkt × Nat × Nat} (status value : Nat) (hb : d.tile.bulks = [b]) (hl : b.last = some l)
    (hc : d.tile.cmds = []) (hr : d.tile.running = []) (hcan : canAnswer d l.1.bytes = true) :
    d.answer st (.remote l.1) status value = d.putAnswered l.1.bytes status value := by
  have hover : { d with
      tile.running := d.tile.running.filter fun e => e.1 != l.1
      tile.cmds := d.tile.cmds.filter fun e => e.1 != l.1
      tile.bulks := d.tile.bulks.filter fun b => (b.last.map Prod.fst) != some l.1 } = { d with tile.bulks := [] } := by
    have hcmds : (d.tile.cmds.filter fun e => e.1 != l.1) = d.tile.cmds := by simp [hc]
    have hrun : (d.tile.running.filter fun e => e.1 != l.1) = d.tile.running := by simp [hr]
    rw [hcmds, hrun, hb]
    simp [hl]
  rw [Dev.answer, hover]
  exact respond_relays (d := { d with tile.bulks := [] }) _ _ _ _ _ hcan

/-- A transfer at a tile is carried out by its object's effect and answered with its status and VALUE. -/
theorem runPut_remote {status value : Nat} (hw : WaitsPut .remote desc data s = true) (hm : mine desc = true)
    (hserves : s.dev.serves (bObject desc) = true) (hf : f s.straps desc data s.dev = ((status, value), e))
    (he : s.dev.Only ps as e) (hps : Part.ports ∉ ps ∧ Part.queue ∉ ps) (hr : ∀ a ∈ answerRegs, e.rd a = s.dev.rd a)
    (ht : e.tile.bulks = s.dev.tile.bulks ∧ e.tile.cmds = s.dev.tile.cmds ∧ e.tile.running = s.dev.tile.running) :
    AnswersWith (runPut mine f .remote s) fun t => Only (.tile :: .ports :: ps) as s t ∧
      (∃ cmd, t.dev = e.putAnswered cmd status value) ∧ t.dev.ports = rspWaits s.dev
        (s.dev.tile.bulks.flatMap fun b => (b.last.map fun l => l.1.bytes).getD []) status value 0 [] := by
  obtain ⟨hon, hcmds, hrun, b, l, hb, hl, rfl, rfl, hopen, hsegs, hpulls, hcan⟩ := waitsPut_remote hw
  obtain ⟨htb, htc, htr⟩ := ht
  obtain ⟨hcan', hrsp⟩ := answer_congr (he.1 .ports hps.1) hr l.1.bytes
  have hvalid : s.dev.addrValid = true := by
    rw [canAnswer, Bool.and_eq_true] at hcan
    exact hcan.1
  have hwait : s.dev.waiting = [l] := by simp [Dev.waiting, hcmds, hb, hopen, hsegs, hpulls, hl]
  have hnext : s.dev.isNext l = true := by simp [Dev.isNext, hvalid, hwait]
  have hdev : s.dev.putRemote s.straps mine f = e.putAnswered l.1.bytes status value := by
    have hfound : (s.dev.tile.bulks.find? fun b => b.last.isSome) = some b := by simp [hb, hl]
    rw [Dev.putRemote, hfound]
    simp only [hl, hm, hserves, hnext, hf, Bool.not_true, Bool.or_self, Bool.false_eq_true, if_false]
    exact answer_put status value (htb.trans hb) hl (htc.trans hcmds) (htr.trans hrun) (hcan'.trans hcan)
  rw [show runPut mine f .remote s = run (fun st d => d.putRemote st mine f) s from runTile_pos hon]
  refine run_quiet_with hon.2.2 ?_ (by simpa using hps.2) ⟨⟨_, hdev⟩, ?_⟩
  · rw [hdev]
    exact (he.mono (fun _ h => List.mem_cons_of_mem _ (List.mem_cons_of_mem _ h)) fun _ => id).trans
      ((putAnswered_only ..).mono (by simp) fun _ => id)
  · rw [hdev, hb]
    simp [hl, Dev.putAnswered, hrsp]

/-! A transfer of the sender itself. -/

/-- A transfer whose data has been read is carried out by its object's effect, and its descriptor completes. -/
theorem runPut_ring {i status value : Nat} (hw : WaitsPut (.ring i) desc data s = true) (hm : mine desc = true)
    (hserves : s.dev.serves (bObject desc) = true) (hf : f s.straps desc data s.dev = ((status, value), e))
    (he : s.dev.Only ps as e) (hps : Part.host ∉ ps ∧ Part.queue ∉ ps) :
    AnswersWith (runPut mine f (.ring i) s) fun t => Only (.host :: ps) as s t ∧
      t.dev = { e with host := s.dev.host.completed (bulkAt i desc .started data) status value } := by
  simp only [WaitsPut, Bool.and_eq_true, Bool.not_eq_true', beq_iff_eq] at hw
  obtain ⟨⟨⟨⟨hone, hl⟩, hcast⟩, hdata⟩, hcrc⟩ := hw
  obtain ⟨hon, hdescs, hout, hcpl⟩ := oneDesc_iff.mp hone
  have hfound : s.dev.findDesc 2 i = some (bulkAt i desc .started data) := by simp [Dev.findDesc, hdescs, bulkAt]
  have hhost : e.host = s.dev.host := he.1 .host hps.1
  have hdev : s.dev.putLocal s.straps i mine f =
      { e with host := s.dev.host.completed (bulkAt i desc .started data) status value } := by
    have hfin := finishDesc_one (d := e) (bulkAt i desc .started data) status value (by rw [hhost, hdescs]) (by rw [hhost, hout])
      (by simp [bulkAt]) rfl hcpl
    rw [Dev.putLocal, hfound]
    simp only [show (bulkAt i desc .started data).bytes = desc from rfl, show (bulkAt i desc .started data).data = data from rfl,
      show (bulkAt i desc .started data).phase = .started from rfl, show (Phase.started == Phase.fetched) = false from rfl, hm,
      hserves, hl, hcast, hdata,
      hcrc, hf, Bool.not_true, Bool.or_self, Bool.false_eq_true, if_false, bne_self_eq_false]
    rw [← hhost]
    exact hfin
  rw [show runPut mine f (.ring i) s = run (fun st d => d.putLocal st i mine f) s from runSender_pos hon]
  refine run_quiet_with hon.2.2 ?_ (by simpa using hps.2) hdev
  rw [hdev]
  exact (he.mono (fun _ => List.mem_cons_of_mem _) fun _ => id).trans ((Dev.only_host ..).mono (by simp) fun _ => id)

/-- A transfer whose object's effect leaves the registers alone is carried out and answered, at a tile or at the sender itself. -/
theorem runPut_done {ref : CmdRef} {status value : Nat} (hw : WaitsPut ref desc data s = true) (hm : mine desc = true)
    (hserves : s.dev.serves (bObject desc) = true) (hf : f s.straps desc data s.dev = ((status, value), e))
    (he : s.dev.Only ps [] e)
    (hps : Part.ports ∉ ps ∧ Part.queue ∉ ps ∧ Part.host ∉ ps ∧ Part.tile ∉ ps ∧ Part.frameStore ∉ ps) :
    AnswersWith (runPut mine f ref s) fun t => Only (ps ++ answerParts ref) [] s t ∧ PutDone ref desc data status value s t ∧
      t.dev.nvm = e.nvm := by
  obtain ⟨hports, hqueue, hhost, htile, hstore⟩ := hps
  cases ref with
  | remote =>
    have hsame : e.tile = s.dev.tile := tile_of_only he htile hstore
    obtain ⟨t, ht, hframe, ⟨cmd, hdev⟩, hp⟩ := runPut_remote hw hm hserves hf he ⟨hports, hqueue⟩
      (fun a _ => he.rd_eq (by simp)) (by simp [hsame])
    refine ⟨t, ht, ⟨hframe.1, hframe.2.1, hframe.2.2.mono (by simp +contextual [answerParts]) fun _ => id⟩, ⟨?_, hp⟩, ?_⟩
    · rw [hdev, ← hsame]
      rfl
    · rw [hdev]
      rfl
  | ring i =>
    obtain ⟨t, ht, hframe, hdev⟩ := runPut_ring hw hm hserves hf he ⟨hhost, hqueue⟩
    exact ⟨t, ht, ⟨hframe.1, hframe.2.1, hframe.2.2.mono (by simp [answerParts, or_comm]) fun _ => id⟩,
      by rw [PutDone, hdev], by rw [hdev]⟩

/-! Coefficient sets (R235 to R237). -/

/-- The fields and registers that show the slots (R241), and COR_STAT.READY. -/
def coefAreas : List Area := [.field COR_STAT_READY, .field COR_STAT_STAGED, .word (COR_SLOT_ID 0), .word (COR_SLOT_ID 1),
  .word (COR_SLOT_SEQ 0), .word (COR_SLOT_SEQ 1)]

/-- From `d` to `e` a coefficient slot may be another, and the marks of a staged set; what waits at the tile, the other slots and
the other objects of the device's own are the same. -/
structure Dev.CoefWritten (slot : Nat) (d e : Dev) : Prop where
  frame : d.Only [.tile, .nvm, .free] coefAreas e
  waits : e.tile.bulks = d.tile.bulks ∧ e.tile.cmds = d.tile.cmds ∧ e.tile.running = d.tile.running
  others : ∀ n, n ≠ slot → e.nvm.coef[n]? = d.nvm.coef[n]?
  kept : e.nvm.settings = d.nvm.settings ∧ e.nvm.cal = d.nvm.cal

section
variable {slot n seq : Nat} {c : Dev}

theorem Dev.CoefWritten.refl (slot : Nat) (d : Dev) : d.CoefWritten slot d := ⟨.refl .., ⟨rfl, rfl, rfl⟩, fun _ _ => rfl, ⟨rfl, rfl⟩⟩

theorem Dev.CoefWritten.trans (h1 : c.CoefWritten slot d) (h2 : d.CoefWritten slot e) : c.CoefWritten slot e := by
  obtain ⟨hb, hc, hr⟩ := h2.waits
  obtain ⟨hs, hk⟩ := h2.kept
  exact ⟨h1.frame.trans h2.frame, ⟨hb.trans h1.waits.1, hc.trans h1.waits.2.1, hr.trans h1.waits.2.2⟩,
    fun n hn => (h2.others n hn).trans (h1.others n hn), ⟨hs.trans h1.kept.1, hk.trans h1.kept.2⟩⟩

theorem showCoef_only (d : Dev) : d.Only [] coefAreas d.showCoef := by
  refine Dev.Only.setb _ _ (by simp [coefAreas]) ?_
  refine (Dev.Only.setAll _ ?_ (Dev.Only.setAll _ ?_ (Dev.Only.refl ..))) <;>
    simp [coefAreas, COR_SLOT_ID_SERIAL, COR_SLOT_SEQ_STAGE, COR_SLOT_SEQ_ACT]

theorem showCoef_ready (d : Dev) : d.showCoef.get COR_STAT_READY = d.get COR_STAT_READY := by
  refine (Dev.get_set_ne _ _ _ _ (.inr (.inl (by decide)))).trans ?_
  refine (get_setAll_apart _ ?_).trans (get_setAll_apart _ ?_) <;>
    simp [Fld.apart, COR_SLOT_ID_SERIAL, COR_SLOT_SEQ_STAGE, COR_SLOT_SEQ_ACT, COR_SLOT_ID, COR_SLOT_SEQ, COR_STAT_READY, COR_STAT]

theorem showCoef_nvm (d : Dev) : d.showCoef.nvm = d.nvm := (showCoef_only d).1 .nvm (by simp)

theorem showCoef_tile (d : Dev) : d.showCoef.tile = d.tile := tile_of_only (showCoef_only d) (by simp) (by simp)

theorem showCoef_written (slot : Nat) (d : Dev) : d.CoefWritten slot d.showCoef :=
  ⟨(showCoef_only d).mono (by simp) fun _ => id, by simp [showCoef_tile], by simp [showCoef_nvm], by simp [showCoef_nvm]⟩

theorem unloadStaged_written (slot : Nat) (d : Dev) : d.CoefWritten slot d.unloadStaged :=
  ⟨((Dev.Only.refl _ coefAreas d).set COR_STAT_READY 0 (by simp [coefAreas])).trans
    ((only_tile coefAreas { d.tile with loading := none } (d.set COR_STAT_READY 0) rfl rfl).mono (ps := [.tile]) (by simp) fun _ => id), ⟨rfl, rfl, rfl⟩, fun _ _ => rfl,
    ⟨rfl, rfl⟩⟩

/-- The marks of a staged set are no object. -/
theorem marks_written (seqs : List (Nat × Nat)) (loading : Option Bool) (staged slot : Nat) (d : Dev) :
    d.CoefWritten slot { d with nvm.coefSeq := seqs, tile.loading := loading, tile.staged := staged } :=
  ⟨.parts rfl fun p hp => by cases p <;> simp_all [Part.same], ⟨rfl, rfl, rfl⟩, fun _ _ => rfl, ⟨rfl, rfl⟩⟩

/-- The slots of the coefficient sets are replaced, and only one of them is another. -/
theorem setCoef_written {l : List NvmSlot} (hl : ∀ n, n ≠ slot → l[n]? = d.nvm.coef[n]?) :
    d.CoefWritten slot (d.setSlots NK_COEF l) :=
  ⟨.parts rfl fun p hp => by cases p <;> simp_all [Part.same, Dev.setSlots, NK_COEF], ⟨rfl, rfl, rfl⟩, hl, ⟨rfl, rfl⟩⟩

/-- The words that fail are no object. -/
theorem clearBad_written (area : Option NvmArea) (slot : Nat) (d : Dev) : d.CoefWritten slot (d.clearBad area) :=
  ⟨.parts rfl fun p hp => by cases p <;> simp_all [Part.same, Dev.clearBad], ⟨rfl, rfl, rfl⟩, fun _ _ => rfl, ⟨rfl, rfl⟩⟩

/-- The trusted store is no object. -/
theorem countWrite_written (slot : Nat) (d : Dev) : d.CoefWritten slot d.countWrite :=
  ⟨.parts rfl fun p hp => by cases p <;> simp_all [Part.same, Dev.countWrite], ⟨rfl, rfl, rfl⟩, fun _ _ => rfl, ⟨rfl, rfl⟩⟩

theorem writeSlot_written (slot : Nat) (bytes : List Byte) (d : Dev) : d.CoefWritten slot (d.writeSlot NK_COEF slot bytes) :=
  ((setCoef_written fun _ hn => List.getElem?_modify_ne _ _ (Ne.symm hn)).trans (clearBad_written ..)).trans (countWrite_written ..)

theorem commitSlot_written (slot seq : Nat) (d : Dev) : d.CoefWritten slot (d.commitSlot NK_COEF slot seq) :=
  ((setCoef_written fun _ hn => List.getElem?_modify_ne _ _ (Ne.symm hn)).trans (clearBad_written ..)).trans (countWrite_written ..)

/-- The reason for which a set is not stored. -/
theorem coefFails_fst (bytes : List Byte) (d : Dev) : (d.coefFails bytes).1 =
    (coefSetReason bytes).or (if Config.freeValue d.free % 2 = 1 then some 7 else none) := by
  unfold Dev.coefFails
  split
  case h_1 r hr => simp [hr]
  case h_2 hr => simp [hr, Dev.writeFails, Dev.draw]

/-- A check of a set, and the write's own luck, move the count of free values alone. -/
theorem coefFails_snd (bytes : List Byte) (d : Dev) : ∃ n, (d.coefFails bytes).2 = { d with free := n } := by
  unfold Dev.coefFails
  split
  · exact ⟨d.free, rfl⟩
  · exact ⟨d.free + 1, rfl⟩

theorem free_written (slot n : Nat) (d : Dev) : d.CoefWritten slot { d with free := n } :=
  ⟨.parts rfl fun p hp => by cases p <;> simp_all [Part.same], ⟨rfl, rfl, rfl⟩, fun _ _ => rfl, ⟨rfl, rfl⟩⟩

/-- A slot that is emptied (R235). -/
theorem emptyCoefSlot_written (slot : Nat) (d : Dev) : d.CoefWritten slot (d.emptyCoefSlot slot) := by
  have hunload : d.CoefWritten slot (if slot = d.tile.staged then d.unloadStaged else d) := by
    split
    · exact unloadStaged_written ..
    · exact .refl ..
  refine ((hunload.trans (setCoef_written fun _ hn => ?_)).trans (countWrite_written ..)).trans (showCoef_written ..)
  exact List.getElem?_set_ne (Ne.symm hn)

theorem emptyCoefSlot_slot (hslot : slot < d.nvm.coef.length) :
    (d.emptyCoefSlot slot).nvm.coef[slot]? = some NvmSlot.empty := by
  unfold Dev.emptyCoefSlot
  rw [showCoef_nvm]
  have hcoef : (if slot = d.tile.staged then d.unloadStaged else d).nvm.coef = d.nvm.coef := by split <;> rfl
  exact (congrArg (fun l => (setAt l slot NvmSlot.empty)[slot]?) hcoef).trans (List.getElem?_set_self hslot)

/-- The device with a set written to a slot, committed, and staged (R236). -/
def Dev.coefStored (slot seq : Nat) (bytes : List Byte) (d : Dev) : Dev :=
  let d1 := d.unloadStaged
  let d2 := (d1.writeSlot NK_COEF slot bytes).commitSlot NK_COEF slot (d1.nextSeq NK_COEF)
  { d2 with
    nvm.coefSeq := setAt d2.nvm.coefSeq slot (seq % 65536, 0)
    tile.loading := some true, tile.staged := slot }

theorem coefStored_written (slot seq : Nat) (bytes : List Byte) (d : Dev) : d.CoefWritten slot (d.coefStored slot seq bytes) := by
  refine (((unloadStaged_written slot d).trans (writeSlot_written slot bytes _)).trans
    (commitSlot_written slot (d.unloadStaged.nextSeq NK_COEF) _)).trans ?_
  exact marks_written ..

theorem coefStored_slot (seq : Nat) (bytes : List Byte) (hslot : slot < d.nvm.coef.length) :
    (d.coefStored slot seq bytes).nvm.coef[slot]?.map NvmSlot.bytes = some bytes := by
  have hcoef : (d.coefStored slot seq bytes).nvm.coef =
      modAt (modAt d.nvm.coef slot fun s => { s with bytes := bytes, written := 0 }) slot fun s =>
        { s with
          written := 0
          commit := recordBytes NK_COEF slot (d.unloadStaged.nextSeq NK_COEF % 2 ^ 32) s.object.length (sha256 s.object)
          prior := s.commit } := rfl
  rw [hcoef, modAt, modAt, List.getElem?_modify_eq, List.getElem?_modify_eq]
  simp [hslot]

theorem coefStored_ready (slot seq : Nat) (bytes : List Byte) (d : Dev) : (d.coefStored slot seq bytes).get COR_STAT_READY = 0 :=
  (Dev.get_set_same d COR_STAT_READY 0 (by decide)).trans rfl

/-- The slot that a transfer writes, where a set is active. -/
theorem coefTarget_active (h : d.get COR_STAT_ACTIVE < 2) : d.coefTarget = 1 - d.get COR_STAT_ACTIVE := by
  obtain h | h : d.get COR_STAT_ACTIVE = 0 ∨ d.get COR_STAT_ACTIVE = 1 := by omega
  all_goals simp [Dev.coefTarget, h]

theorem storeCoefSet_fails {bytes : List Byte} {r : Nat} (h : (d.coefFails bytes).1 = some r) :
    d.storeCoefSet bytes = (some r, (d.coefFails bytes).2.emptyCoefSlot d.coefTarget) := by
  simp only [Dev.storeCoefSet, h]

theorem storeCoefSet_stores {bytes : List Byte} (h : (d.coefFails bytes).1 = none) : ∃ seq,
    d.storeCoefSet bytes = (none, ((d.coefFails bytes).2.coefStored d.coefTarget seq bytes).showCoef) := by
  refine ⟨max (d.coefSeqOf 0).1 (d.coefSeqOf 1).1 + 1, ?_⟩
  simp only [Dev.storeCoefSet, h]
  rfl

theorem putCoef_armed (h : d.get COR_STAT_PEND = 1) : d.putCoef data = ((ST_REMOTE_FAULT, 1), d) := by
  rw [Dev.putCoef, if_pos (getb_eq_true.mpr (by omega))]

/-- A set that is not stored. -/
theorem putCoef_fails {r : Nat} (hpend : d.get COR_STAT_PEND = 0) (hlen : d.nvm.coef.length = 2) (hact : d.get COR_STAT_ACTIVE < 2)
    (hr : (d.coefFails data).1 = some r) : ∃ e, d.putCoef data = ((ST_REMOTE_FAULT, r), e) ∧
      d.CoefWritten (1 - d.get COR_STAT_ACTIVE) e ∧ e.nvm.coef[1 - d.get COR_STAT_ACTIVE]? = some NvmSlot.empty := by
  obtain ⟨n, hn⟩ := coefFails_snd data d
  refine ⟨({ d with free := n } : Dev).emptyCoefSlot (1 - d.get COR_STAT_ACTIVE), ?_, (free_written ..).trans (emptyCoefSlot_written ..),
    emptyCoefSlot_slot (by simp only [hlen]; omega)⟩
  rw [Dev.putCoef, if_neg (by simp [getb_eq_false.mpr hpend]), storeCoefSet_fails hr, hn, coefTarget_active hact]

/-- A set that is stored. -/
theorem putCoef_stores (hpend : d.get COR_STAT_PEND = 0) (hlen : d.nvm.coef.length = 2) (hact : d.get COR_STAT_ACTIVE < 2)
    (hr : (d.coefFails data).1 = none) : ∃ e, d.putCoef data = ((ST_OK, 0), e) ∧
      d.CoefWritten (1 - d.get COR_STAT_ACTIVE) e ∧ e.nvm.coef[1 - d.get COR_STAT_ACTIVE]?.map NvmSlot.bytes = some data ∧
      e.get COR_STAT_READY = 0 ∧ e.tile.loading = some true ∧ e.tile.staged = 1 - d.get COR_STAT_ACTIVE := by
  obtain ⟨n, hn⟩ := coefFails_snd data d
  obtain ⟨seq, hseq⟩ := storeCoefSet_stores hr
  refine ⟨(({ d with free := n } : Dev).coefStored (1 - d.get COR_STAT_ACTIVE) seq data).showCoef, ?_,
    ((free_written ..).trans (coefStored_written ..)).trans (showCoef_written ..), ?_, ?_, ?_⟩
  · rw [Dev.putCoef, if_neg (by simp [getb_eq_false.mpr hpend]), hseq, hn, coefTarget_active hact]
  · rw [showCoef_nvm]
    exact coefStored_slot _ _ (by simp only [hlen]; omega)
  · rw [showCoef_ready, coefStored_ready]
  · rw [showCoef_tile]
    exact ⟨rfl, rfl⟩

end

/-! Safe images (R225). -/

theorem safeImages_length (n : Nat) (b : List Byte) : (safeImages n b).length ≤ n := by
  induction n generalizing b with
  | zero => simp [safeImages]
  | succ n ih =>
    rw [safeImages]
    split
    · simp
    · simpa using ih _

theorem stored_length (t : SafeImage) : t.stored.length = 10 + 6 * (t.w * t.h) := by
  simp only [SafeImage.stored, List.length_append, leBytes_length, slice_length, zeros, List.length_replicate, Nat.mul_assoc]

theorem flatMap_stored_length (l : List SafeImage) :
    (l.flatMap SafeImage.stored).length = 10 * l.length + 6 * (l.map fun t => t.w * t.h).sum := by
  induction l with
  | nil => rfl
  | cons t l ih =>
    simp only [List.flatMap_cons, List.length_append, stored_length, ih, List.length_cons, List.map_cons, List.sum_cons]
    omega

/-- The images in force after the transfer: the region's own replaced, or removed. -/
def Dev.safesWith (desc data : List Byte) (d : Dev) : List SafeImage :=
  let others := d.safes.filter fun t => t.region != bParam desc 32 % 4
  if safeRemoves desc = true then others else others ++ [safeOf desc data]

theorem safesWith_fits (hok : d.safeOk desc = true) (hsum : (d.safes.map fun t => t.w * t.h).sum ≤ 49152) :
    ((d.safesWith desc data).flatMap SafeImage.stored).length < 2 ^ 32 := by
  have hregion : (safeOf desc []).region = bParam desc 32 % 4 := by simp [safeOf, natBits]
  have hothers : (d.safes.filter fun t => t.region != bParam desc 32 % 4).length ≤ 4 :=
    (List.length_filter_le ..).trans (safeImages_length 4 _)
  rw [flatMap_stored_length, Dev.safesWith]
  split
  · have hle : ((d.safes.filter fun t => t.region != bParam desc 32 % 4).map fun t => t.w * t.h).sum ≤ 49152 :=
      ((List.filter_sublist.map _).sum_le_sum fun _ _ => Nat.zero_le _).trans hsum
    omega
  · rename_i hkeep
    simp only [Dev.safeOk, hregion, Bool.and_eq_true, Bool.or_eq_true, hkeep, decide_eq_true_eq] at hok
    obtain ⟨-, -, hle⟩ := hok
    simp only [List.length_append, List.map_append, List.sum_append, List.length_cons, List.length_nil, List.map_cons,
      List.map_nil, List.sum_cons, List.sum_nil]
    have hsize : (safeOf desc data).w * (safeOf desc data).h = (safeOf desc []).w * (safeOf desc []).h := rfl
    omega

theorem putSafe_refused (hok : d.safeOk desc = false) : d.putSafe desc data = ((ST_BAD_PARAM, 0), d) := by
  rw [Dev.putSafe, if_pos (by simp [hok])]

theorem putSafe_stores (hok : d.safeOk desc = true) : d.putSafe desc data =
    ((ST_OK, 0), d.commitObject NK_SAFE ((d.safesWith desc data).flatMap SafeImage.stored)) := by
  have hregion : (safeOf desc data).region = bParam desc 32 % 4 := by simp [safeOf, natBits]
  rw [Dev.putSafe, if_neg (by simp [hok])]
  simp only [hregion, Dev.safesWith]

/-! Objects in two slots (R340). -/

theorem setSlots_only {k : Nat} (hk : storedKind k) (l : List NvmSlot) (d : Dev) : d.Only [.nvm] [] (d.setSlots k l) := by
  obtain rfl | rfl := hk
  all_goals exact .parts rfl fun p hp => by cases p <;> simp_all [Part.same, Dev.setSlots, NK_SETTINGS, NK_SAFE]

/-- The words that fail and the count of writes are eMRAM's own. -/
theorem written_only (area : Option NvmArea) (d : Dev) : d.Only [.nvm] [] (d.clearBad area).countWrite :=
  .parts rfl fun p hp => by cases p <;> simp_all [Part.same, Dev.clearBad, Dev.countWrite]

theorem writeSlot_only {k : Nat} (hk : storedKind k) (slot : Nat) (bytes : List Byte) (d : Dev) :
    d.Only [.nvm] [] (d.writeSlot k slot bytes) := (setSlots_only hk ..).trans (written_only ..)

theorem commitSlot_only {k : Nat} (hk : storedKind k) (slot seq : Nat) (d : Dev) :
    d.Only [.nvm] [] (d.commitSlot k slot seq) := (setSlots_only hk ..).trans (written_only ..)

/-- An object that is committed leaves everything but eMRAM alone. -/
theorem commitObject_only {k : Nat} (hk : storedKind k) (bytes : List Byte) (d : Dev) : d.Only [.nvm] [] (d.commitObject k bytes) :=
  (writeSlot_only hk ..).trans (commitSlot_only hk ..)

/-- The object in force is what eMRAM holds. -/
theorem objectInForce_congr (h : e.nvm = d.nvm) (k : Nat) : e.objectInForce k = d.objectInForce k := by
  have hslots : e.slots k = d.slots k := by unfold Dev.slots; rw [h]
  have hbad (a : Option NvmArea) (n : Nat) : e.areaBad a n = d.areaBad a n := by unfold Dev.areaBad; rw [h]
  have hrecord (s : Nat) : e.slotRecord k s = d.slotRecord k s := by simp only [Dev.slotRecord, hslots, hbad]
  have hvalid (s : Nat) : e.slotValid k s = d.slotValid k s := by simp only [Dev.slotValid, hrecord, hslots, hbad]
  have hseq (s : Nat) : e.slotSeq k s = d.slotSeq k s := by simp only [Dev.slotSeq, hvalid, hrecord]
  have hforce : e.inForce k = d.inForce k := by simp only [Dev.inForce, hvalid, hseq]
  simp only [Dev.objectInForce, hforce, Dev.slotObject, hvalid, hslots, hrecord]

/-! Settings (R362). -/

section
variable {r : List Byte} (hr : d.recordWith (settingsId desc) (leAt desc 34 2) data = r)
include hr

theorem putSettings_long (hlen : settingsMax < r.length) : d.putSettings desc data = ((ST_BAD_PARAM, 0), d) := by
  rw [Dev.putSettings, hr, if_pos hlen]

theorem putSettings_unwritten (hlen : ¬ settingsMax < r.length) (hw : Config.freeValue d.free % 2 = 1) :
    d.putSettings desc data = ((ST_REMOTE_FAULT, 7), { d with free := d.free + 1 }) := by
  have hfail : d.writeFails = (true, { d with free := d.free + 1 }) := by simp [Dev.writeFails, Dev.draw, hw]
  rw [Dev.putSettings, hr, if_neg hlen, hfail]
  rfl

theorem putSettings_stores (hlen : ¬ settingsMax < r.length) (hw : Config.freeValue d.free % 2 ≠ 1) :
    d.putSettings desc data = ((ST_OK, 0), ({ d with free := d.free + 1 } : Dev).commitObject NK_SETTINGS r) := by
  have hfail : d.writeFails = (false, { d with free := d.free + 1 }) := by simp [Dev.writeFails, Dev.draw, hw]
  rw [Dev.putSettings, hr, if_neg hlen, hfail]
  rfl

end

/-! The host data of a transfer (R50). -/

theorem bulkLimitsOk_of_answer (hop : dOpcode desc = 1) (hans : (d.bulkAnswer st desc).1 = ST_OK) : bulkLimitsOk desc = true := by
  by_contra hlim
  have hbad : d.bulkAnswer st desc = (ST_BAD_PARAM, 0) := by simp [Dev.bulkAnswer, hop, hlim]
  rw [hbad] at hans
  exact absurd hans (by decide)

/-- The data of a LOCAL transfer starts it. -/
theorem dataRead_local {i : Nat} (hdescs : d.host.descs = [bulkAt i desc .fetched []]) (hl : dLocal desc = true)
    (hcast : isBcast desc = false) (hans : (d.bulkAnswer st desc).1 = ST_OK) :
    d.dataRead st (bulkAt i desc .fetched []) data = { d with host := { d.host with descs := [bulkAt i desc .started data] } } := by
  have hstart : d.startable (bulkAt i desc .fetched []) = true := startable_one _ hdescs rfl
  rw [Dev.dataRead]
  simp only [show (bulkAt i desc .fetched []).bytes = desc from rfl, show (bulkAt i desc .fetched []).index = i from rfl, hl, hcast,
    hstart, hans, Bool.not_true, Bool.false_and, Bool.false_eq_true, if_false, ne_eq, not_true_eq_false]
  rw [startDesc_one hdescs]
  simp [Dev.modDesc, bulkAt]

/-- A read that the host answers acts on the LOCAL descriptor that waits for it. -/
theorem run_bulkDataReadDone {i : Nat} (got : Option (List Byte)) (hone : oneDesc (bulkAt i desc .fetched []) s = true)
    (hl : dLocal desc = true) (hop : dOpcode desc = 1) (hlim : bulkLimitsOk desc = true) :
    exec (.bulkDataReadDone i got) s = run (fun st d =>
      match got with
      | none => d.failBulk i ST_DMA_ERR 0
      | some l => d.dataRead st (bulkAt i desc .fetched []) (slice l 0 (bLength desc))) s := by
  obtain ⟨hon, hdescs, -, -⟩ := oneDesc_iff.mp hone
  have hfound : s.dev.findDesc 2 i = some (bulkAt i desc .fetched []) := by simp [Dev.findDesc, hdescs, bulkAt]
  have hstart : s.dev.startable (bulkAt i desc .fetched []) = true := startable_one _ hdescs rfl
  refine (runSender_pos hon).trans (run_congr ?_)
  simp only [hfound, show (bulkAt i desc .fetched []).bytes = desc from rfl, show (bulkAt i desc .fetched []).phase = .fetched from rfl,
    show (bulkAt i desc .fetched []).data = [] from rfl, hop, hlim, hl, hstart]
  rfl

/-- A transfer alone in flight fails before it has sent anything. -/
theorem failBulk_one {i status value : Nat} (hdescs : d.host.descs = [bulkAt i desc .fetched []]) (hout : d.host.out = [])
    (hcpl : dNoCpl desc = false) :
    d.failBulk i status value = { d with host := d.host.completed (bulkAt i desc .fetched []) status value } := by
  have hnone : d.failBulk i status value = d.finishDesc 2 i status value := by simp [Dev.failBulk, hout, Dev.each]
  rw [hnone]
  exact finishDesc_one (bulkAt i desc .fetched []) status value hdescs hout (by simp [bulkAt]) rfl hcpl

end

/-- What shows the coefficient slots does not decide how a tile answers. -/
theorem answerRegs_kept {d e : Dev} {ps : List Part} (ho : d.Only ps coefAreas e) : ∀ a ∈ answerRegs, e.rd a = d.rd a := by
  intro a ha
  refine ho.rd_eq fun x hx k hhas => ?_
  simp only [answerRegs, coefAreas, List.mem_cons, List.not_mem_nil, or_false] at ha hx
  obtain rfl | rfl | rfl | rfl | rfl | rfl := hx <;> obtain rfl | rfl | rfl := ha <;>
    simp [Area.has, COR_STAT_READY, COR_STAT_STAGED, COR_STAT, COR_SLOT_ID, COR_SLOT_SEQ, XPT_ADDR, LANE_STAT] at hhas

/-- Settles O21: a transfer is carried out by its object's effect, which either leaves the device or writes one slot; a set touches
the slot that is not active, and an object that is committed is the one in force. -/
theorem storedObjects : Obligations.StoredObjects := by
  unfold Obligations.StoredObjects
  refine ⟨?armed, ?coef, ?safe, ?outside, ?settings, ?started, ?failed⟩
  case armed =>
    intro s desc data hw hobj hfirm hpend
    obtain ⟨t, ht, hframe, hdone, -⟩ := runPut_done (ps := []) (ref := .remote) (mine := isObject 1 OB_COEF_SET)
      (f := fun _ _ data d => d.putCoef data) hw hobj (by simp [Dev.serves, hfirm]) (putCoef_armed hpend) (.refl ..) (by decide)
    exact ⟨t, ht, hframe, hdone⟩
  case coef =>
    intro s desc data hw hobj hfirm hpend hlen hact slot reason
    have hserves : s.dev.serves (bObject desc) = true := by simp [Dev.serves, hfirm]
    have hrun {status value : Nat} {e : Dev} (hf : s.dev.putCoef data = ((status, value), e)) (hw' : s.dev.CoefWritten slot e) :=
      runPut_remote (mine := isObject 1 OB_COEF_SET) (f := fun _ _ data d => d.putCoef data) hw hobj hserves hf hw'.frame (by decide)
        (answerRegs_kept hw'.frame) hw'.waits
    have hreason : (s.dev.coefFails data).1 = reason := coefFails_fst data s.dev
    have hactive : s.dev.get COR_STAT_ACTIVE ≠ slot := by omega
    cases hr : reason with
    | some r =>
      obtain ⟨e, hf, hwr, hempty⟩ := putCoef_fails hpend hlen hact (hreason.trans hr)
      obtain ⟨t, ht, hframe, ⟨cmd, hdev⟩, hports⟩ := hrun hf hwr
      refine ⟨t, ht, ⟨hframe.1, hframe.2.1, hframe.2.2.mono (by simp) fun _ => id⟩, by rw [hdev]; rfl, ?_, ?_, ?_, ?_, by simp⟩
      · rw [hdev]; exact hwr.others _ hactive
      · rw [hdev]; exact hwr.kept.1
      · rw [hdev]; exact hwr.kept.2
      · rintro _ ⟨⟩
        exact ⟨by rw [hdev]; exact hempty, hports⟩
    | none =>
      obtain ⟨e, hf, hwr, hstored, hready, hload, hstaged⟩ := putCoef_stores hpend hlen hact (hreason.trans hr)
      obtain ⟨t, ht, hframe, ⟨cmd, hdev⟩, hports⟩ := hrun hf hwr
      refine ⟨t, ht, ⟨hframe.1, hframe.2.1, hframe.2.2.mono (by simp) fun _ => id⟩, by rw [hdev]; rfl, ?_, ?_, ?_, by simp, fun _ => ?_⟩
      · rw [hdev]; exact hwr.others _ hactive
      · rw [hdev]; exact hwr.kept.1
      · rw [hdev]; exact hwr.kept.2
      · refine ⟨?_, ?_, ?_, ?_, hports⟩ <;> rw [hdev]
        · exact hstored
        · exact hready
        · exact hload
        · exact hstaged
  case safe =>
    intro s desc data hw hobj hfirm hok hsum hlen hseq others l
    obtain ⟨t, ht, hframe, hdone, hnvm⟩ := runPut_done (ref := .remote) (mine := isObject 1 OB_SAFE_IMAGE)
      (f := fun _ desc data d => d.putSafe desc data) hw hobj (by simp [Dev.serves, hfirm]) (putSafe_stores hok)
      (commitObject_only (.inr rfl) ..) (by decide)
    refine ⟨t, ht, ⟨hframe.1, hframe.2.1, hframe.2.2.mono (by simp [answerParts]) fun _ => id⟩, hdone, ?_, by rw [hnvm]; rfl,
      by rw [hnvm]; rfl⟩
    rw [objectInForce_congr hnvm]
    exact commitObject_inForce (.inr rfl) hlen (safesWith_fits hok hsum) hseq
  case outside =>
    intro s desc data hw hobj hfirm hok
    obtain ⟨t, ht, hframe, hdone, -⟩ := runPut_done (ps := []) (ref := .remote) (mine := isObject 1 OB_SAFE_IMAGE)
      (f := fun _ desc data d => d.putSafe desc data) hw hobj (by simp [Dev.serves, hfirm]) (putSafe_refused hok) (.refl ..) (by decide)
    exact ⟨t, ht, hframe, hdone⟩
  case settings =>
    intro s ref desc data hw hobj hfirm hlen hseq record
    have hrecord : s.dev.recordWith (settingsId desc) (leAt desc 34 2) data = record := by rw [settingsId_eq]; rfl
    have hrun {status value : Nat} {e : Dev} (hf : s.dev.putSettings desc data = ((status, value), e))
        (he : s.dev.Only [.nvm, .free] [] e) :=
      runPut_done (mine := isObject 1 OB_SETTINGS) (f := fun _ desc data d => d.putSettings desc data) hw hobj
        (by simp [Dev.serves, hfirm]) hf he (by decide)
    have hdrawn : s.dev.Only [.nvm, .free] [] { s.dev with free := s.dev.free + 1 } :=
      (Dev.Only.refl _ _ s.dev).draw 2 (by simp)
    clear_value record
    by_cases hlong : record.length ≤ 65536
    · have hshort : ¬ settingsMax < record.length := Nat.not_lt.mpr hlong
      by_cases hbad : Config.freeValue s.dev.free % 2 = 1
      · obtain ⟨t, ht, hframe, hdone, hnvm⟩ := hrun (putSettings_unwritten hrecord hshort hbad) hdrawn
        exact ⟨t, ht, hframe, by rw [hnvm], by rw [hnvm], by rw [hnvm], by rw [if_pos hlong, if_pos hbad]; exact ⟨hdone, hnvm⟩⟩
      · obtain ⟨t, ht, hframe, hdone, hnvm⟩ := hrun (putSettings_stores hrecord hshort hbad)
          (hdrawn.trans ((commitObject_only (.inl rfl) ..).mono (by simp) fun _ => id))
        refine ⟨t, ht, hframe, by rw [hnvm]; rfl, by rw [hnvm]; rfl, by rw [hnvm]; rfl, ?_⟩
        rw [if_pos hlong, if_neg hbad]
        refine ⟨hdone, (objectInForce_congr hnvm _).trans ?_⟩
        exact commitObject_inForce (.inl rfl) hlen (Nat.lt_of_le_of_lt hlong (by decide)) hseq
    · obtain ⟨t, ht, hframe, hdone, hnvm⟩ := hrun (putSettings_long hrecord (Nat.not_le.mp hlong)) (.refl ..)
      exact ⟨t, ht, hframe, by rw [hnvm], by rw [hnvm], by rw [hnvm], by rw [if_neg hlong]; exact ⟨hdone, hnvm⟩⟩
  case started =>
    intro s i desc data hone hl hcast hop hans hlen
    obtain ⟨hon, hdescs, -, -⟩ := oneDesc_iff.mp hone
    rw [run_bulkDataReadDone _ hone hl hop (bulkLimitsOk_of_answer hop hans)]
    refine run_host hon.2.2 ?_
    have hwhole : slice data 0 (bLength desc) = data := by rw [← hlen, slice_whole]
    exact (congrArg (Dev.dataRead s.straps (bulkAt i desc .fetched []) · s.dev) hwhole).trans (dataRead_local hdescs hl hcast hans)
  case failed =>
    intro s i desc hone hl hop hlim
    obtain ⟨hon, hdescs, hout, hcpl⟩ := oneDesc_iff.mp hone
    rw [run_bulkDataReadDone _ hone hl hop hlim]
    exact run_host hon.2.2 (failBulk_one hdescs hout hcpl)

end Sys2Proof.Machine
end

section
/-! SUPPORT. A counterexample to the statement of the flips in transport: a check-value unit captures the layer traffic of the frame
whose transport ends (R383), and the end of that capture shows in a part that the statement does not let change. -/

namespace Sys2Proof.Machine

/-- A launched frame of mode 0 on port 1 with one layer, which is still to be read. -/
def flipUnread : Flip :=
  { index := 0, header := zeros 64, layers := [{ entry := zeros 64, ready := true, held := false, retired := false }], guards := [],
    mode := 0, present := gridAt 0 3, modeChange := false, deferred := 0, launched := some 0, closed := false, ended := false,
    ports := [1], dropped := false }

/-- A check-value unit whose capture runs. -/
def crcCapturing : CrcUnit := { CrcUnit.init with running := true }

/-- A sender at the transport end of that frame. Port 1 feeds, with a packet under way, and unit 0 captures the stream of
SRC 3. -/
def senderCapturing : State :=
  let s := senderWith { HostSt.init with flying := [flipUnread], launchCount := 1 }
    (State.reset.dev.ports.modify 1 fun p => { p with cur := some .time })
  { s with dev := { s.dev.setAll [(TWIN_STAT_MODES, 4 * M_FEED), (SNP_CTRL_EN 0, 1), (SNP_CTRL_SRC 0, 3)] with
      time.clk.ns := transportEnd (gridAt 0 3), crc := crcCapturing :: List.replicate 7 CrcUnit.init } }

/-- The frame ends for the capture as its PRESENT is handed to the port (R383). -/
theorem capture_transportEnd_senderCapturing :
    nextDev (fun d => d.crc.map CrcUnit.ended) (exec .transportEnd senderCapturing) = some (true :: List.replicate 7 false) := by
  decide +kernel

/-- Refutes O44: the frame of its fifth clause does not list the check-value units, and in `senderCapturing` the transport end
closes the frame, which ends the capture of unit 0 (R383), where the clause says that every unit stays as it is. -/
theorem not_flipsInTransport : ¬ Obligations.FlipsInTransport := by
  unfold Obligations.FlipsInTransport
  rintro ⟨-, -, -, -, hcut, -⟩
  obtain ⟨t, ht, ⟨-, -, hparts, -⟩, -⟩ := hcut senderCapturing flipUnread _ 1 .time (by decide +kernel) rfl rfl rfl rfl rfl rfl rfl
    rfl (by decide +kernel) (by decide +kernel) (by decide +kernel) (by decide +kernel) (by decide +kernel) (by decide +kernel)
  have hcrc : t.dev.crc = senderCapturing.dev.crc := hparts .crc (by simp)
  have hafter := capture_transportEnd_senderCapturing
  rw [ht, nextDev, hcrc] at hafter
  exact absurd (Option.some.inj hafter) (by decide)

end Sys2Proof.Machine
end

section
/-! SUPPORT. A counterexample to the statement of a port out of LS0: a port in LS2 that still counts reports of its peer, which the
receivers that LS2_ENERGY_DETECT finds off count no more. -/

namespace Sys2Proof.Machine

/-- A tile just after reset whose port 0 is in LS2 and still counts one report of RXLOCK = 1 from its peer. -/
def tileCountingInLs2 : State :=
  { State.reset with dev := (State.reset.dev.set (LANE_STAT_STATE 0) P_LS2).modPort 0 fun p => { p with peerLockRun := 1 } }

/-- The port enters REFWAIT with its receivers off, which ends the count (R141). -/
theorem peerLockRun_ls2EnergyDetect :
    nextDev (fun d => (d.port 0).peerLockRun) (exec (.ls2EnergyDetect 0) tileCountingInLs2) = some 0 := by decide +kernel

/-- Refutes O40: its ninth clause lists what LS2_ENERGY_DETECT makes of the port and does not list the counts of the peer's
reports, which the model ends with the receivers off (`Dev.receiversOff`). In `tileCountingInLs2` one of them is not 0, and the
clause asks that it stays. Such a port is in no reachable state: whatever enters LS2 ends the counts, and none begins there. -/
theorem not_linkLossAndReference : ¬ Obligations.LinkLossAndReference := by
  unfold Obligations.LinkLossAndReference
  rintro ⟨-, -, -, -, -, -, -, -, henergy, -⟩
  obtain ⟨t, ht, -, -, hports⟩ := henergy tileCountingInLs2 0 (by decide +kernel) (by decide +kernel) (.inl rfl)
  have hkept : (t.dev.port 0).peerLockRun = 1 := by
    rw [Dev.port, hports]
    rfl
  have hafter := peerLockRun_ls2EnergyDetect
  rw [ht, nextDev, hkept] at hafter
  exact absurd (Option.some.inj hafter) (by decide)

end Sys2Proof.Machine
end

section
/-! SUPPORT. Rules for ports and lanes: what an update of one lane or port leaves of the others, the adaptation of a lane (R147,
R148), and frames of the ports' part. -/

namespace Sys2Proof.Machine

section
variable {d e : Dev} {x y n m : Nat}

/-! Registers and frames. -/

theorem Dev.get_congr (h : e.regs = d.regs) (f : Fld) : e.get f = d.get f := by simp [Dev.get, Dev.rd, h]

@[simp] theorem modPort_get (d : Dev) (x : Nat) (f : PortSt → PortSt) (g : Fld) : (d.modPort x f).get g = d.get g :=
  Dev.get_congr rfl g

@[simp] theorem modLane_get (d : Dev) (x n : Nat) (f : LaneSt → LaneSt) (g : Fld) : (d.modLane x n f).get g = d.get g :=
  Dev.get_congr rfl g

/-- A value that fits its field is what the field reads. -/
theorem Dev.get_set_fits (d : Dev) {f : Fld} {v : Nat} (h : f.lo + f.width ≤ 32) (hv : v < 2 ^ f.width) : (d.set f v).get f = v := by
  rw [Dev.get_set_same d f v h, Nat.mod_eq_of_lt hv]

theorem Dev.get_lt (d : Dev) (f : Fld) : d.get f < 2 ^ f.width := Nat.mod_lt _ (Nat.two_pow_pos _)

/-- A field reads the same where the areas of a frame hold none of its bits. -/
theorem Dev.Only.get_bits {ps : List Part} {as : List Area} (ho : d.Only ps as e) (g : Fld)
    (h : ∀ a ∈ as, ∀ k, g.lo ≤ k → k < g.lo + g.width → ¬ a.has g.addr k) : e.get g = d.get g := by
  refine Nat.eq_of_testBit_eq fun j => ?_
  rw [Dev.get, Dev.get, testBit_fieldOf, testBit_fieldOf]
  by_cases hj : j < g.width
  · rw [ho.2 g.addr (g.lo + j) fun a ha => h a ha _ (by omega) (by omega)]
  · simp [hj]

theorem only_free (as : List Area) (k : Nat) (d : Dev) : d.Only [.free] as { d with free := k } :=
  .parts rfl fun p hp => by cases p <;> simp_all [Part.same]

/-- A field set to what it reads leaves its register. -/
theorem withField_fieldOf (v : Word) (lo width : Nat) : withField v lo width (fieldOf v lo width) = v := by
  refine BitVec.eq_of_getLsbD_eq fun k hk => ?_
  rw [getLsbD_withField _ _ _ _ _ hk]
  split
  case isTrue h => rw [testBit_fieldOf, decide_eq_true (by omega : k - lo < width), Bool.true_and, Nat.add_sub_cancel' h.1]
  case isFalse => rfl

/-- A count of nothing leaves every register. -/
theorem rd_add_zero (d : Dev) (f : Fld) (a : Nat) : (d.add f 0).rd a = d.rd a := by
  rw [Dev.add, Dev.set, Dev.rd_wr, Nat.add_zero, Dev.get, withField_fieldOf]
  split
  case isTrue h => rw [h]
  case isFalse => rfl

theorem add_zero_only (d : Dev) (f : Fld) : d.Only [] [] (d.add f 0) :=
  ⟨fun p _ => by cases p <;> simp [Part.same], fun a k _ => by rw [rd_add_zero]⟩

/-! One port. -/

theorem port_modPort_same {f : PortSt → PortSt} (hx : x < d.ports.length) : (d.modPort x f).port x = f (d.port x) := by
  simp [Dev.port, nth, hx]

/-- A port keeps what the update of a port keeps. -/
theorem port_modPort_kept {α : Type} {f : PortSt → PortSt} (g : PortSt → α) (h : ∀ p, g (f p) = g p) :
    g ((d.modPort x f).port y) = g (d.port y) := by
  simp only [Dev.port, Dev.modPort_ports_eq, nth, List.getD_eq_getElem?_getD, List.getElem?_modify]
  cases d.ports[y]? with
  | none => rfl
  | some p => by_cases hy : x = y <;> simp [hy, h]

/-! One lane. -/

theorem lane_modPort {f : PortSt → PortSt} (h : ∀ p, (f p).lanes = p.lanes) : (d.modPort x f).lane y m = d.lane y m := by
  rw [Dev.lane, Dev.lane, port_modPort_kept PortSt.lanes h]

theorem lane_modLane_same {f : LaneSt → LaneSt} (hx : x < d.ports.length) (hn : n < (d.port x).lanes.length) :
    (d.modLane x n f).lane x n = f (d.lane x n) := by
  rw [Dev.lane, Dev.modLane, port_modPort_same hx]
  simp [Dev.lane, nth, modAt, hn]

theorem lane_modLane_ne {f : LaneSt → LaneSt} (h : m ≠ n) : (d.modLane x n f).lane y m = d.lane y m :=
  port_modPort_kept (fun p => nth p.lanes m LaneSt.init) fun p => by simp [nth, modAt, h.symm]

/-- A port but for its lanes stays at the update of a lane. -/
theorem port_modLane_kept {α : Type} {f : LaneSt → LaneSt} (g : PortSt → α) (h : ∀ p l, g { p with lanes := l } = g p) :
    g ((d.modLane x n f).port y) = g (d.port y) := port_modPort_kept g fun p => h p _

/-- A lane keeps what the update of a lane keeps. -/
theorem lane_modLane_kept {α : Type} {f : LaneSt → LaneSt} (g : LaneSt → α) (h : ∀ l, g (f l) = g l) :
    g ((d.modLane x n f).lane y m) = g (d.lane y m) := by
  refine port_modPort_kept (fun p => g (nth p.lanes m LaneSt.init)) fun p => ?_
  simp only [modAt, nth, List.getD_eq_getElem?_getD, List.getElem?_modify]
  cases p.lanes[m]? with
  | none => rfl
  | some l => by_cases hm : n = m <;> simp [hm, h]

/-- An adaptation draws a value, and changes the taps of its lane; a frozen lane stays as it is (R142, R148). -/
theorem adapt_eq (x n : Nat) (d : Dev) :
    ∃ (k : Nat) (t : LaneSt → Option Config.Taps), d.adapt x n = { d with free := k }.modLane x n fun l => { l with taps := t l } := by
  unfold Dev.adapt
  split
  · refine ⟨d.free, LaneSt.taps, ?_⟩
    change d = { d with ports := d.ports.modify x fun p => { p with lanes := p.lanes.modify n id } }
    simp only [List.modify_id]
    change d = { d with ports := d.ports.modify x id }
    rw [List.modify_id]
  · exact ⟨_, _, rfl⟩

end

end Sys2Proof.Machine
end

section
/-! SUPPORT. What one lane's codeword makes of a device (R119, R122, R143, R147): the frame of any, and one that fails to decode. -/

namespace Sys2Proof.Machine

section
variable {d e f : Dev} {st : Straps} {x n : Nat} {as bs : List Area} {w : RxCodeword}

/-- Between the two devices lane `n` of port `x` has taken a codeword: the other lane, the lengths of the lists and the packets
under reassembly stay, and outside the ports only the listed areas and the count of drawn values may differ. -/
structure CodewordTaken (as : List Area) (x n : Nat) (d e : Dev) : Prop where
  frame : d.Only [.ports, .free] as e
  ports : e.ports.length = d.ports.length
  lanes : (e.port x).lanes.length = (d.port x).lanes.length
  other : ∀ m, m ≠ n → e.lane x m = d.lane x m
  packets : (e.port x).open_ = (d.port x).open_

theorem CodewordTaken.refl (as : List Area) (x n : Nat) (d : Dev) : CodewordTaken as x n d d :=
  ⟨.refl .., rfl, rfl, fun _ _ => rfl, rfl⟩

theorem CodewordTaken.trans (h1 : CodewordTaken as x n d e) (h2 : CodewordTaken as x n e f) : CodewordTaken as x n d f :=
  ⟨h1.frame.trans h2.frame, h2.ports.trans h1.ports, h2.lanes.trans h1.lanes,
    fun m hm => (h2.other m hm).trans (h1.other m hm), h2.packets.trans h1.packets⟩

theorem CodewordTaken.mono (ha : ∀ a ∈ as, a ∈ bs) (h : CodewordTaken as x n d e) : CodewordTaken bs x n d e :=
  ⟨h.frame.mono (fun _ => id) ha, h.ports, h.lanes, h.other, h.packets⟩

/-- An update outside the ports, within the areas. -/
theorem CodewordTaken.of_ports (h : CodewordTaken as x n d e) (hf : e.Only [.ports, .free] as f) (hp : f.ports = e.ports) :
    CodewordTaken as x n d f :=
  h.trans ⟨hf, by rw [hp], by rw [Dev.port, hp, Dev.port], fun _ _ => by rw [Dev.lane, Dev.port, hp, Dev.lane, Dev.port],
    by rw [Dev.port, hp, Dev.port]⟩

theorem CodewordTaken.set (h : CodewordTaken as x n d e) (g : Fld) (v : Nat)
    (hg : Area.field g ∈ as ∨ Area.word g.addr ∈ as ∨ Area.all ∈ as) : CodewordTaken as x n d (e.set g v) :=
  h.of_ports (.set g v hg (.refl ..)) rfl

theorem CodewordTaken.add (h : CodewordTaken as x n d e) (g : Fld) (v : Nat)
    (hg : Area.field g ∈ as ∨ Area.word g.addr ∈ as ∨ Area.all ∈ as) : CodewordTaken as x n d (e.add g v) :=
  h.set g _ hg

theorem CodewordTaken.withFree (h : CodewordTaken as x n d e) (k : Nat) : CodewordTaken as x n d { e with free := k } :=
  h.of_ports ((only_free as k e).mono (by simp) fun _ => id) rfl

/-- An update of the port that leaves its lanes and its packets. -/
theorem CodewordTaken.modPort (h : CodewordTaken as x n d e) {g : PortSt → PortSt} (hl : ∀ p, (g p).lanes = p.lanes)
    (ho : ∀ p, (g p).open_ = p.open_) : CodewordTaken as x n d (e.modPort x g) :=
  h.trans ⟨.modPort _ _ (by simp) (.refl ..), by simp, congrArg List.length (port_modPort_kept PortSt.lanes hl),
    fun _ _ => lane_modPort hl, port_modPort_kept PortSt.open_ ho⟩

theorem CodewordTaken.modLane (h : CodewordTaken as x n d e) (g : LaneSt → LaneSt) :
    CodewordTaken as x n d (e.modLane x n g) :=
  h.trans ⟨.modLane _ _ _ (by simp) (.refl ..), by simp [Dev.modLane],
    port_modPort_kept (fun p => p.lanes.length) fun p => by simp [modAt], fun _ hm => lane_modLane_ne hm,
    port_modPort_kept PortSt.open_ fun _ => rfl⟩

theorem CodewordTaken.adapt (h : CodewordTaken as x n d e) : CodewordTaken as x n d (e.adapt x n) := by
  obtain ⟨k, t, he⟩ := adapt_eq x n e
  rw [he]
  exact (h.withFree k).modLane _

/-- An adaptation leaves the registers. -/
theorem adapt_get (x n : Nat) (d : Dev) (g : Fld) : (d.adapt x n).get g = d.get g := by
  obtain ⟨k, t, he⟩ := adapt_eq x n d
  rw [he]
  rfl

/-- An adaptation changes the taps alone of the lane. -/
theorem adapt_lane {α : Type} (g : LaneSt → α) (hg : ∀ l t, g { l with taps := t } = g l) (x n : Nat) (d : Dev) :
    g ((d.adapt x n).lane x n) = g (d.lane x n) := by
  obtain ⟨k, t, he⟩ := adapt_eq x n d
  rw [he]
  exact lane_modLane_kept (d := { d with free := k }) g fun l => hg l _

/-- An adaptation leaves a port but for its lanes. -/
theorem adapt_port {α : Type} (g : PortSt → α) (hg : ∀ p l, g { p with lanes := l } = g p) (x n : Nat) (d : Dev) :
    g ((d.adapt x n).port x) = g (d.port x) := by
  obtain ⟨k, t, he⟩ := adapt_eq x n d
  rw [he]
  exact port_modLane_kept (d := { d with free := k }) g hg

/-! A codeword that fails to decode (R122, R143). -/

/-- A codeword that failed counts in CWU and in the run of its lane, whose descrambler then holds a free state. -/
def Dev.failNoted (x n : Nat) (d : Dev) : Dev :=
  let r := d.draw (2 ^ 58)
  (r.2.add (LANEN_CWU_COUNT x n) 1).modLane x n fun l =>
    { l with failRun := l.failRun + 1, discardFirst := false, rxScr := BitVec.ofNat 58 r.1 }

/-- The device after a codeword that failed, before its run of failures is judged: on lane 0 it ends the runs of the peer's
reports. -/
def Dev.failCounted (x n : Nat) (d : Dev) : Dev :=
  if n = 0 then (d.failNoted x n).modPort x PortSt.breakRuns else d.failNoted x n

theorem codewordFailed_eq (st : Straps) (x n : Nat) (d : Dev) : d.codewordFailed st x n =
    if failLimit ≤ ((d.failCounted x n).lane x n).failRun && (d.pstate x == P_LS0 || d.pstate x == P_RECOVER) then
      (d.failCounted x n).loseLock st x n
    else d.failCounted x n := rfl

/-- The areas that a codeword which fails to decode touches. -/
abbrev failAreas (x n : Nat) : List Area := [.word (LANEN_CWU x n)]

theorem failNoted_taken (x n : Nat) (d : Dev) : CodewordTaken (failAreas x n) x n d (d.failNoted x n) :=
  (((CodewordTaken.refl ..).withFree (d.free + 1)).add _ 1 (.inr (.inl (by simp [LANEN_CWU_COUNT])))).modLane _

theorem failCounted_taken (x n : Nat) (d : Dev) : CodewordTaken (failAreas x n) x n d (d.failCounted x n) := by
  unfold Dev.failCounted
  split
  · exact (failNoted_taken x n d).modPort (fun _ => rfl) fun _ => rfl
  · exact failNoted_taken x n d

theorem failCounted_count (x n : Nat) (d : Dev) :
    (d.failCounted x n).get (LANEN_CWU_COUNT x n) = (d.get (LANEN_CWU_COUNT x n) + 1) % 2 ^ 32 := by
  have hregs : (d.failCounted x n).regs = (d.add (LANEN_CWU_COUNT x n) 1).regs := by
    unfold Dev.failCounted
    split <;> rfl
  rw [Dev.get_congr hregs]
  exact Dev.get_set_same _ _ _ (by simp [LANEN_CWU_COUNT])

theorem failCounted_failRun (hx : x < d.ports.length) (hn : n < (d.port x).lanes.length) :
    ((d.failCounted x n).lane x n).failRun = (d.lane x n).failRun + 1 := by
  have hlane : (d.failCounted x n).lane x n = (d.failNoted x n).lane x n := by
    unfold Dev.failCounted
    split
    · exact lane_modPort fun _ => rfl
    · rfl
  have hnoted : (d.failNoted x n).lane x n = _ := lane_modLane_same hx hn
  rw [hlane, hnoted]
  rfl

/-- A failed codeword of lane 0 ends the runs of the peer's reports; one of lane 1 leaves them (R125, R141). -/
theorem failCounted_runs (hx : x < d.ports.length) :
    ((d.failCounted x n).port x).peerLockRun = (if n = 0 then 0 else (d.port x).peerLockRun) ∧
    ((d.failCounted x n).port x).peerUnlockSince = (if n = 0 then none else (d.port x).peerUnlockSince) := by
  unfold Dev.failCounted
  by_cases hn : n = 0
  · simp only [if_pos hn]
    rw [port_modPort_same ((failNoted_taken x n d).ports ▸ hx)]
    exact ⟨rfl, rfl⟩
  · simp only [if_neg hn]
    exact ⟨port_modLane_kept PortSt.peerLockRun fun _ _ => rfl, port_modLane_kept PortSt.peerUnlockSince fun _ _ => rfl⟩

/-- The lane is in lock with a signal (R119). -/
structure LaneUp (x n : Nat) (d : Dev) : Prop where
  lol : d.get (LANEN_STAT_LOL x n) = 0
  los : d.get (LANEN_STAT_LOS x n) = 0

theorem takeCodeword_none (st : Straps) (x n : Nat) (d : Dev) : d.takeCodeword st x n none = (none, d) := by
  unfold Dev.takeCodeword
  split <;> rfl

/-- The device with the receiver's state after a codeword. -/
def Dev.descrambled (x n : Nat) (w : RxCodeword) (d : Dev) : Dev :=
  d.modLane x n fun _ => (receiveCodeword (d.lane x n) (d.getb (LANEN_STAT_POLINV x n)) w).2

theorem takeCodeword_of_undecoded (hup : LaneUp x n d)
    (hr : (receiveCodeword (d.lane x n) (d.getb (LANEN_STAT_POLINV x n)) w).1 = none) :
    d.takeCodeword st x n (some w) = (none, ((d.descrambled x n w).codewordFailed st x n).adapt x n) := by
  unfold Dev.takeCodeword
  simp only [getb_eq_false.mpr hup.lol, getb_eq_false.mpr hup.los, Bool.or_self, Bool.false_eq_true, if_false, hr]
  rfl

theorem descrambled_taken (x n : Nat) (w : RxCodeword) (d : Dev) : CodewordTaken as x n d (d.descrambled x n w) :=
  (CodewordTaken.refl ..).modLane _

theorem descrambled_failRun (hx : x < d.ports.length) (hn : n < (d.port x).lanes.length) :
    ((d.descrambled x n w).lane x n).failRun = (d.lane x n).failRun := by
  rw [Dev.descrambled, lane_modLane_same hx hn, receiveCodeword_lane]

/-- A codeword that fails, short of the eighth in a row. -/
theorem takeCodeword_fails (st : Straps) (hup : LaneUp x n d)
    (hr : (receiveCodeword (d.lane x n) (d.getb (LANEN_STAT_POLINV x n)) w).1 = none)
    (hx : x < d.ports.length) (hn : n < (d.port x).lanes.length) (hrun : (d.lane x n).failRun < 7) :
    ∃ e, d.takeCodeword st x n (some w) = (none, e) ∧ CodewordTaken (failAreas x n) x n d e ∧
      e.get (LANEN_CWU_COUNT x n) = (d.get (LANEN_CWU_COUNT x n) + 1) % 2 ^ 32 ∧
      (e.lane x n).failRun = (d.lane x n).failRun + 1 ∧
      (e.port x).peerLockRun = (if n = 0 then 0 else (d.port x).peerLockRun) ∧
      (e.port x).peerUnlockSince = (if n = 0 then none else (d.port x).peerUnlockSince) := by
  have htaken : CodewordTaken (failAreas x n) x n d (d.descrambled x n w) := descrambled_taken x n w d
  have hx' : x < (d.descrambled x n w).ports.length := htaken.ports ▸ hx
  have hfail := failCounted_failRun hx' (htaken.lanes ▸ hn)
  rw [descrambled_failRun hx hn] at hfail
  have hlimit : ¬ failLimit ≤ (d.lane x n).failRun + 1 := by unfold failLimit; omega
  have hkeep : (d.descrambled x n w).codewordFailed st x n = (d.descrambled x n w).failCounted x n := by
    simp [codewordFailed_eq, hfail, hlimit]
  obtain ⟨hlock, hunlock⟩ := failCounted_runs (n := n) hx'
  refine ⟨_, takeCodeword_of_undecoded hup hr, ?_⟩
  rw [hkeep]
  refine ⟨(htaken.trans (failCounted_taken ..)).adapt, ?_, (adapt_lane LaneSt.failRun (fun _ _ => rfl) ..).trans hfail,
    (adapt_port PortSt.peerLockRun (fun _ _ => rfl) ..).trans (hlock.trans ?_),
    (adapt_port PortSt.peerUnlockSince (fun _ _ => rfl) ..).trans (hunlock.trans ?_)⟩
  · rw [adapt_get, failCounted_count]
    rfl
  · rw [Dev.descrambled, port_modLane_kept PortSt.peerLockRun fun _ _ => rfl]
  · rw [Dev.descrambled, port_modLane_kept PortSt.peerUnlockSince fun _ _ => rfl]

end

end Sys2Proof.Machine
end

section
/-! SUPPORT. The eighth failed codeword in a row at a sender (R143): its lane loses lock, and its port goes to RECOVER. -/

namespace Sys2Proof.Machine

section
variable {d e : Dev} {st : Straps} {x y n m : Nat} {as : List Area} {w : RxCodeword}

/-! Registers of a port and of its lanes. -/

@[simp] theorem laneStat_ne_lanenStat : LANE_STAT x ≠ LANEN_STAT y n := by unfold LANE_STAT LANEN_STAT; omega
@[simp] theorem lanenStat_ne_laneStat : LANEN_STAT y n ≠ LANE_STAT x := laneStat_ne_lanenStat.symm
@[simp] theorem laneStat_ne_cwu : LANE_STAT x ≠ LANEN_CWU y n := by unfold LANE_STAT LANEN_CWU; omega
@[simp] theorem laneStat_ne_cwc : LANE_STAT x ≠ LANEN_CWC y n := by unfold LANE_STAT LANEN_CWC; omega
@[simp] theorem laneStat_ne_sym : LANE_STAT x ≠ LANEN_SYM y n := by unfold LANE_STAT LANEN_SYM; omega

/-! Loss of lock. -/

/-- A sender's port that carries cells goes to RECOVER with nothing but its state and its own times. -/
theorem enter_recover_sender (hst : isTile st = false) (hp : sendsCells (d.pstate x) = true) :
    d.enter st x P_RECOVER = (d.set (LANE_STAT_STATE x) P_RECOVER).modPort x fun p =>
      { p with since := d.ticks, noLockRecorded := false, refwait := false } := by
  have hstart : startsSending (d.pstate x) P_RECOVER = false := by simp [startsSending, hp, P_RECOVER, P_LS0]
  simp only [Dev.enter, show sendsCells P_RECOVER = true from rfl, hst, hstart, if_true, Bool.false_and, Bool.and_false,
    Bool.false_eq_true, if_false, show (P_RECOVER == P_LS0) = false from rfl, show (P_RECOVER == P_REFWAIT) = false from rfl]

/-- The areas that the loss of a sender's lock touches. -/
abbrev lockAreas (x n : Nat) : List Area := [.word (LANEN_STAT x n), .field (LANE_STAT_STATE x), .field (LANE_STAT_RX_UP x)]

/-- The device with a lane that has lost lock, before its port leaves LS0. -/
def Dev.lockLost (x n : Nat) (d : Dev) : Dev :=
  (((d.setAll [(LANEN_STAT_LOL x n, 1), (LANEN_STAT_LOL_SEEN x n, 1)]).modLane x n LaneSt.unmarked).set (LANE_STAT_RX_UP x) 0).modPort
    x PortSt.breakRuns

theorem lockLost_only (x n : Nat) (d : Dev) : d.Only [.ports] (lockAreas x n) (d.lockLost x n) :=
  .modPort _ _ (by simp) (.set _ _ (by simp) (.modLane _ _ _ (by simp) (.setAll _
    (by simp [LANEN_STAT_LOL, LANEN_STAT_LOL_SEEN]) (.refl ..))))

theorem lockLost_shows (x n : Nat) (d : Dev) : (d.lockLost x n).get (LANEN_STAT_LOL x n) = 1 ∧
    (d.lockLost x n).get (LANEN_STAT_LOL_SEEN x n) = 1 ∧ (d.lockLost x n).get (LANE_STAT_RX_UP x) = 0 ∧
    (d.lockLost x n).pstate x = d.pstate x := by
  simp only [Dev.lockLost, Dev.setAll, Dev.pstate, modPort_get]
  refine ⟨?_, ?_, ?_, ?_⟩
  · rw [Dev.get_set_ne _ _ _ _ (.inl (by simp [LANEN_STAT_LOL, LANE_STAT_RX_UP])), modLane_get,
      Dev.get_set_ne _ _ _ _ (.inr (.inr (by simp [LANEN_STAT_LOL, LANEN_STAT_LOL_SEEN]))),
      Dev.get_set_fits _ (by simp [LANEN_STAT_LOL]) (by simp [LANEN_STAT_LOL])]
  · rw [Dev.get_set_ne _ _ _ _ (.inl (by simp [LANEN_STAT_LOL_SEEN, LANE_STAT_RX_UP])), modLane_get,
      Dev.get_set_fits _ (by simp [LANEN_STAT_LOL_SEEN]) (by simp [LANEN_STAT_LOL_SEEN])]
  · exact Dev.get_set_fits _ (by simp [LANE_STAT_RX_UP]) (by simp [LANE_STAT_RX_UP])
  · rw [Dev.get_set_ne _ _ _ _ (.inr (.inr (by simp [LANE_STAT_STATE, LANE_STAT_RX_UP]))), modLane_get,
      Dev.get_set_ne _ _ _ _ (.inl (by simp [LANE_STAT_STATE, LANEN_STAT_LOL_SEEN])),
      Dev.get_set_ne _ _ _ _ (.inl (by simp [LANE_STAT_STATE, LANEN_STAT_LOL]))]

/-- A lane of a sender that loses lock in LS0 or RECOVER leaves the port in RECOVER (R141, R143). -/
theorem loseLock_sender (hst : isTile st = false) (hp : d.pstate x = P_LS0 ∨ d.pstate x = P_RECOVER) :
    d.Only [.ports] (lockAreas x n) (d.loseLock st x n) ∧ (d.loseLock st x n).get (LANEN_STAT_LOL x n) = 1 ∧
    (d.loseLock st x n).get (LANEN_STAT_LOL_SEEN x n) = 1 ∧ (d.loseLock st x n).get (LANE_STAT_RX_UP x) = 0 ∧
    (d.loseLock st x n).pstate x = P_RECOVER := by
  obtain ⟨hlol, hseen, hup, hstate⟩ := lockLost_shows x n d
  have hbefore : ((d.setAll [(LANEN_STAT_LOL x n, 1), (LANEN_STAT_LOL_SEEN x n, 1)]).modLane x n LaneSt.unmarked).pstate x =
      d.pstate x := by
    simp only [Dev.pstate, modLane_get]
    exact get_setAll_apart _ (by simp [Fld.apart, LANEN_STAT_LOL, LANEN_STAT_LOL_SEEN, LANE_STAT_STATE])
  have heq : d.loseLock st x n =
      if d.pstate x == P_LS0 then (d.lockLost x n).enter st x P_RECOVER else d.lockLost x n := by
    rw [← hbefore]
    rfl
  rw [heq]
  rcases hp with hp | hp
  · rw [hp, if_pos (by decide), enter_recover_sender hst (by rw [hstate, hp]; rfl)]
    simp only [modPort_get, Dev.pstate]
    refine ⟨.modPort _ _ (by simp) (.set _ _ (by simp) (lockLost_only x n d)), ?_, ?_, ?_,
      Dev.get_set_fits _ (by simp [LANE_STAT_STATE]) (by simp [LANE_STAT_STATE, P_RECOVER])⟩
    · rw [Dev.get_set_ne _ _ _ _ (.inl (by simp [LANE_STAT_STATE, LANEN_STAT_LOL])), hlol]
    · rw [Dev.get_set_ne _ _ _ _ (.inl (by simp [LANE_STAT_STATE, LANEN_STAT_LOL_SEEN])), hseen]
    · rw [Dev.get_set_ne _ _ _ _ (.inr (.inl (by simp [LANE_STAT_STATE, LANE_STAT_RX_UP]))), hup]
  · rw [hp, if_neg (by decide)]
    exact ⟨lockLost_only x n d, hlol, hseen, hup, hstate.trans hp⟩

/-- The eighth codeword in a row that fails on a lane of a sender, in LS0 or RECOVER. -/
theorem takeCodeword_eighth (hst : isTile st = false) (hp : d.pstate x = P_LS0 ∨ d.pstate x = P_RECOVER) (hup : LaneUp x n d)
    (hr : (receiveCodeword (d.lane x n) (d.getb (LANEN_STAT_POLINV x n)) w).1 = none)
    (hx : x < d.ports.length) (hn : n < (d.port x).lanes.length) (hrun : (d.lane x n).failRun = 7) :
    ∃ e, d.takeCodeword st x n (some w) = (none, e) ∧ d.Only [.ports, .free] (failAreas x n ++ lockAreas x n) e ∧
      e.get (LANEN_STAT_LOL x n) = 1 ∧ e.get (LANEN_STAT_LOL_SEEN x n) = 1 ∧ e.get (LANE_STAT_RX_UP x) = 0 ∧
      e.pstate x = P_RECOVER := by
  have hseen : CodewordTaken (failAreas x n) x n d (d.descrambled x n w) := descrambled_taken x n w d
  have hcounted := hseen.trans (failCounted_taken x n (d.descrambled x n w))
  have hfail := failCounted_failRun (hseen.ports ▸ hx) (hseen.lanes ▸ hn)
  rw [descrambled_failRun hx hn, hrun] at hfail
  have hstate : ((d.descrambled x n w).failCounted x n).pstate x = d.pstate x :=
    hcounted.frame.get_eq _ (by simp [Area.has, LANE_STAT_STATE])
  have hbefore : (d.descrambled x n w).pstate x = d.pstate x := modLane_get ..
  have hlose : (d.descrambled x n w).codewordFailed st x n = ((d.descrambled x n w).failCounted x n).loseLock st x n := by
    rw [codewordFailed_eq, hfail, hbefore, if_pos (by rcases hp with hp | hp <;> simp [hp, failLimit])]
  obtain ⟨hframe, hlost⟩ := loseLock_sender (n := n) hst (hstate.symm ▸ hp)
  refine ⟨_, takeCodeword_of_undecoded hup hr, ?_⟩
  rw [hlose]
  have hadapt := (CodewordTaken.refl (failAreas x n ++ lockAreas x n) x n
    (((d.descrambled x n w).failCounted x n).loseLock st x n)).adapt
  refine ⟨((hcounted.frame.mono (fun _ => id) fun _ => List.mem_append_left _).trans
    (hframe.mono (by simp) fun _ => List.mem_append_right _)).trans hadapt.frame, ?_⟩
  simpa only [adapt_get, Dev.pstate] using hlost

end

end Sys2Proof.Machine
end

section
/-! SUPPORT. The codewords that are read (R120, R122, R123): what they tell of the peer, and the counts of corrected symbols. -/

namespace Sys2Proof.Machine

section
variable {d e : Dev} {st : Straps} {x n m : Nat} {as : List Area} {w : RxCodeword}

/-! Counts. -/

theorem b2n_natBit (v k : Nat) : b2n (natBit v k) = v / 2 ^ k % 2 := by
  unfold b2n natBit natBits
  rw [Nat.shiftRight_eq_div_pow]
  split <;> rename_i h <;> simp at h ⊢ <;> omega

/-- The symbols corrected in a codeword are counted, and a codeword with any of them (R120). -/
def Dev.correctionsCounted (x n k : Nat) (d : Dev) : Dev :=
  if k = 0 then d else (d.add (LANEN_CWC_COUNT x n) 1).add (LANEN_SYM_COUNT x n) k

/-- The areas of the counts of corrections, and those of what a codeword tells of the peer. -/
abbrev countAreas (x n : Nat) : List Area := [.word (LANEN_CWC x n), .word (LANEN_SYM x n)]

abbrev peerAreas (x : Nat) : List Area :=
  [.field (LANE_STAT_TX_UP x), .field (LANE_STAT_PEER_PM x), .field (LANE_STAT_PEER_REFDEP x), .field (LANE_STAT_SWAP x)]

theorem cwc_ne_sym : LANEN_CWC x n ≠ LANEN_SYM y m := by unfold LANEN_CWC LANEN_SYM; omega

theorem correctionsCounted_only (x n k : Nat) (d : Dev) : d.Only [] (countAreas x n) (d.correctionsCounted x n k) := by
  unfold Dev.correctionsCounted
  split
  · exact .refl ..
  · exact .add _ _ (by simp [LANEN_SYM_COUNT]) (.add _ _ (by simp [LANEN_CWC_COUNT]) (.refl ..))

theorem correctionsCounted_shows (x n k : Nat) (d : Dev) :
    (d.correctionsCounted x n k).get (LANEN_CWC_COUNT x n) =
      (d.get (LANEN_CWC_COUNT x n) + if k = 0 then 0 else 1) % 2 ^ 32 ∧
    (d.correctionsCounted x n k).get (LANEN_SYM_COUNT x n) = (d.get (LANEN_SYM_COUNT x n) + k) % 2 ^ 32 := by
  have hcwc : d.get (LANEN_CWC_COUNT x n) < 2 ^ 32 := d.get_lt _
  have hsym : d.get (LANEN_SYM_COUNT x n) < 2 ^ 32 := d.get_lt _
  have hapart : (LANEN_CWC_COUNT x n).apart (LANEN_SYM_COUNT x n) := .inl (by simp [LANEN_CWC_COUNT, LANEN_SYM_COUNT, cwc_ne_sym])
  have hback : (LANEN_SYM_COUNT x n).apart (LANEN_CWC_COUNT x n) :=
    .inl (by simp [LANEN_CWC_COUNT, LANEN_SYM_COUNT, cwc_ne_sym.symm])
  unfold Dev.correctionsCounted
  by_cases hk : k = 0
  · simp only [hk, if_true, Nat.add_zero]
    exact ⟨(Nat.mod_eq_of_lt hcwc).symm, (Nat.mod_eq_of_lt hsym).symm⟩
  · simp only [if_neg hk, Dev.add]
    rw [Dev.get_set_ne _ _ _ _ hback, Dev.get_set_same _ _ _ (by simp [LANEN_CWC_COUNT]),
      Dev.get_set_same _ _ _ (by simp [LANEN_SYM_COUNT]), Dev.get_set_ne _ _ _ _ hapart]
    exact ⟨rfl, rfl⟩

/-! The peer's report. -/

theorem modPort_id (x : Nat) (d : Dev) : d.modPort x id = d := by
  change { d with ports := d.ports.modify x id } = d
  rw [List.modify_id]

/-- A report of the peer sets its three fields, and counts in the runs of the port. -/
theorem peerReport_eq (x : Nat) (rxlock : Bool) (pmreq : Nat) (refdep run codeword : Bool) (d : Dev) :
    ∃ f : PortSt → PortSt, (∀ p, (f p).lanes = p.lanes) ∧ (∀ p, (f p).open_ = p.open_) ∧
      d.peerReport x rxlock pmreq refdep run codeword =
        (d.setAll [(LANE_STAT_TX_UP x, b2n rxlock), (LANE_STAT_PEER_PM x, pmreq), (LANE_STAT_PEER_REFDEP x, b2n refdep)]).modPort
          x f := by
  cases run with
  | false => exact ⟨id, fun _ => rfl, fun _ => rfl, (modPort_id ..).symm⟩
  | true =>
    refine ⟨_, ?_, ?_, rfl⟩
    · exact fun _ => rfl
    · exact fun _ => rfl

/-- The device after a codeword has told of the peer: the three fields, and on lane 0 the LANEID (R123, R130). -/
def Dev.peerTold (x n link : Nat) (d : Dev) : Dev :=
  (d.peerReport x (natBit link 0) (natBits link 1 2) (natBit link 3) (n == 0) true).noteLaneId x n (natBit link 4)

theorem peerTold_taken (x n link : Nat) (d : Dev) : CodewordTaken (peerAreas x) x n d (d.peerTold x n link) := by
  obtain ⟨f, hl, ho, he⟩ := peerReport_eq x (natBit link 0) (natBits link 1 2) (natBit link 3) (n == 0) true d
  have hreport := ((((CodewordTaken.refl (peerAreas x) x n d).set (LANE_STAT_TX_UP x) (b2n (natBit link 0)) (by simp)).set
    (LANE_STAT_PEER_PM x) (natBits link 1 2) (by simp)).set (LANE_STAT_PEER_REFDEP x) (b2n (natBit link 3)) (by simp)).modPort hl ho
  unfold Dev.peerTold Dev.noteLaneId
  rw [he]
  split
  · exact hreport.set _ _ (by simp)
  · exact hreport

theorem not_peerAreas {a : Nat} (h : a ≠ LANE_STAT x) : ∀ r ∈ peerAreas x, ∀ k, ¬ r.has a k := by
  simp [Area.has, LANE_STAT_TX_UP, LANE_STAT_PEER_PM, LANE_STAT_PEER_REFDEP, LANE_STAT_SWAP, h]

/-- What the registers show of the peer once a codeword has told of it. -/
structure PeerShown (x link : Nat) (e : Dev) : Prop where
  txUp : e.get (LANE_STAT_TX_UP x) = link % 2
  peerPm : e.get (LANE_STAT_PEER_PM x) = link / 2 % 4
  refdep : e.get (LANE_STAT_PEER_REFDEP x) = link / 8 % 2

theorem noteLaneId_get {g : Fld} (b : Bool) (hg : (LANE_STAT_SWAP x).apart g) (d : Dev) : (d.noteLaneId x n b).get g = d.get g := by
  unfold Dev.noteLaneId
  split
  · exact Dev.get_set_ne _ _ _ _ hg
  · rfl

theorem peerTold_shows (x n link : Nat) (d : Dev) : PeerShown x link (d.peerTold x n link) := by
  obtain ⟨f, -, -, he⟩ := peerReport_eq x (natBit link 0) (natBits link 1 2) (natBit link 3) (n == 0) true d
  constructor
  · rw [Dev.peerTold, noteLaneId_get _ (.inr (by simp [LANE_STAT_SWAP, LANE_STAT_TX_UP])), he, modPort_get]
    refine (get_setAll [] [_, _] (by simp [LANE_STAT_TX_UP]) ?_).trans ?_
    · simp [Fld.apart, LANE_STAT_TX_UP, LANE_STAT_PEER_PM, LANE_STAT_PEER_REFDEP]
    · rw [b2n_natBit]; simp [LANE_STAT_TX_UP]
  · rw [Dev.peerTold, noteLaneId_get _ (.inr (by simp [LANE_STAT_SWAP, LANE_STAT_PEER_PM])), he, modPort_get]
    refine (get_setAll [_] [_] (by simp [LANE_STAT_PEER_PM]) ?_).trans ?_
    · simp [Fld.apart, LANE_STAT_PEER_PM, LANE_STAT_PEER_REFDEP]
    · simp [LANE_STAT_PEER_PM, natBits, Nat.shiftRight_eq_div_pow]
  · rw [Dev.peerTold, noteLaneId_get _ (.inr (by simp [LANE_STAT_SWAP, LANE_STAT_PEER_REFDEP])), he, modPort_get]
    refine (get_setAll [_, _] [] (by simp [LANE_STAT_PEER_REFDEP]) (by simp)).trans ?_
    rw [b2n_natBit]; simp [LANE_STAT_PEER_REFDEP]

/-- SWAP follows the LANEID that arrives on lane 0 (R130). -/
theorem peerTold_swap (x n link : Nat) (d : Dev) :
    (d.peerTold x n link).get (LANE_STAT_SWAP x) = if n = 0 then link / 16 % 2 else d.get (LANE_STAT_SWAP x) := by
  obtain ⟨f, -, -, he⟩ := peerReport_eq x (natBit link 0) (natBits link 1 2) (natBit link 3) (n == 0) true d
  unfold Dev.peerTold Dev.noteLaneId
  rw [he]
  split
  · rw [Dev.setb, Dev.get_set_same _ _ _ (by simp [LANE_STAT_SWAP]), b2n_natBit]
    simp [LANE_STAT_SWAP]
  · rw [modPort_get]
    exact get_setAll_apart _ (by simp [Fld.apart, LANE_STAT_SWAP, LANE_STAT_TX_UP, LANE_STAT_PEER_PM, LANE_STAT_PEER_REFDEP])

/-- A codeword that is read, after the first one since lock, is counted and tells of the peer. -/
theorem takeCodeword_of_decoded {link k : Nat} {cells : List (List Byte)} (hup : LaneUp x n d)
    (hd : (d.lane x n).discardFirst = false)
    (hr : (receiveCodeword (d.lane x n) (d.getb (LANEN_STAT_POLINV x n)) w).1 = some ((link, cells), k)) :
    d.takeCodeword st x n (some w) = (some (link, cells),
      (((((d.descrambled x n w).modLane x n fun l =>
        { l with failRun := 0, discardFirst := false, fullStep := natBits link 8 10 != 0 }).adapt x n).correctionsCounted x n k).peerTold
          x n link)) := by
  unfold Dev.takeCodeword
  simp only [getb_eq_false.mpr hup.lol, getb_eq_false.mpr hup.los, Bool.or_self, Bool.false_eq_true, if_false, hr, hd]
  rfl

/-- The areas that a codeword which is read touches. -/
abbrev readAreas (x n : Nat) : List Area := peerAreas x ++ countAreas x n

/-- What the device is after a codeword that is read: its frame, and what the registers show of the peer and of the symbols
corrected (R120, R123). -/
theorem takeCodeword_reads (st : Straps) {link k : Nat} {cells : List (List Byte)} (hup : LaneUp x n d)
    (hd : (d.lane x n).discardFirst = false)
    (hr : (receiveCodeword (d.lane x n) (d.getb (LANEN_STAT_POLINV x n)) w).1 = some ((link, cells), k)) :
    ∃ e, d.takeCodeword st x n (some w) = (some (link, cells), e) ∧ CodewordTaken (readAreas x n) x n d e ∧ PeerShown x link e ∧
      e.get (LANE_STAT_SWAP x) = (if n = 0 then link / 16 % 2 else d.get (LANE_STAT_SWAP x)) ∧
      e.get (LANEN_CWC_COUNT x n) = (d.get (LANEN_CWC_COUNT x n) + if k = 0 then 0 else 1) % 2 ^ 32 ∧
      e.get (LANEN_SYM_COUNT x n) = (d.get (LANEN_SYM_COUNT x n) + k) % 2 ^ 32 := by
  rw [takeCodeword_of_decoded hup hd hr]
  generalize hb : ((d.descrambled x n w).modLane x n fun l =>
    { l with failRun := 0, discardFirst := false, fullStep := natBits link 8 10 != 0 }).adapt x n = b
  have hbt : CodewordTaken (readAreas x n) x n d b := hb ▸ ((descrambled_taken x n w d).modLane _).adapt
  have hbg : ∀ g, b.get g = d.get g := fun g => by rw [← hb, adapt_get, modLane_get, Dev.descrambled, modLane_get]
  have hct : CodewordTaken (readAreas x n) x n d (b.correctionsCounted x n k) :=
    hbt.of_ports ((correctionsCounted_only ..).mono (by simp) fun _ => List.mem_append_right _) (by
      unfold Dev.correctionsCounted; split <;> rfl)
  have htold := peerTold_taken x n link (b.correctionsCounted x n k)
  obtain ⟨hcwc, hsym⟩ := correctionsCounted_shows x n k b
  refine ⟨_, rfl, hct.trans (htold.mono fun _ => List.mem_append_left _), peerTold_shows .., ?_, ?_, ?_⟩
  · rw [peerTold_swap, (correctionsCounted_only ..).get_eq _ (by simp [Area.has, LANE_STAT_SWAP]), hbg]
  · rw [htold.frame.get_eq _ (not_peerAreas laneStat_ne_cwc.symm), hcwc, hbg]
  · rw [htold.frame.get_eq _ (not_peerAreas laneStat_ne_sym.symm), hsym, hbg]

end

end Sys2Proof.Machine
end

section
/-! SUPPORT. A codeword pair at a sender (R152, R158, R184): which pairs a port takes, the cells of a pair, and the packet of one cell. -/

namespace Sys2Proof.Machine

section
variable {d e : Dev} {st : Straps} {s : State} {x r : Nat} {cells : List (List Byte)}

/-- The device after the codewords of a pair and their cells, and what a tile forwards in their slots. -/
def Dev.pairTaken (st : Straps) (x r : Nat) (c0 c1 : Option RxCodeword) (d : Dev) : List (Option (List Byte)) × Dev :=
  let a := d.takeCodeword st x 0 c0
  let b := a.2.takeCodeword st x 1 c1
  let c := b.2.pairUp x a.1 b.1
  c.2.takeCells st x r c.1

/-- What a port in LS0 or RECOVER does with a pair: its cells are taken, a tile sends a pair of its own on the other port. -/
theorem exec_codewordPairRx {x : Port} (c0 c1 : Option RxCodeword) (hon : deviceOn s) (hx : portExists s.straps x = true)
    (hp : s.dev.pstate x = P_LS0 ∨ s.dev.pstate x = P_RECOVER) (hr : (s.dev.port x).refwait = false) :
    exec (.codewordPairRx x c0 c1 r) s = run (fun st d =>
      let t := d.pairTaken st x r c0 c1
      let d1 := if isTile st then t.2.relayPair st (otherPort x) (if t.1.isEmpty then List.replicate 20 none else t.1) else t.2
      d1.goCheck st x) s := by
  have htakes : s.dev.takesCodewords x = true := by
    rcases hp with hp | hp <;> simp [Dev.takesCodewords, hp, hr, P_LS0, P_RECOVER, P_DOWN, P_LS1, P_LS2]
  change execCodewordPairRx x c0 c1 r s = _
  unfold execCodewordPairRx
  rw [runIf_pos (by simp [awake_of_on hon, hx, htakes])]
  rfl

/-- A port that is not in GO has no countdown to judge. -/
theorem goCheck_same (h : d.pstate x ≠ P_GO) : d.goCheck st x = d := by simp [Dev.goCheck, h]

/-- Idle cells deliver nothing (R156). -/
theorem takeCells_idle (h : ∀ c ∈ cells, cellOk c = true ∧ cellValid c = false) : (d.takeCells st x r cells).2 = d := by
  induction cells with
  | nil => rfl
  | cons c cells ih =>
    obtain ⟨hc, hrest⟩ := List.forall_mem_cons.mp h
    have hone : d.takeCell st x r c = (none, d) := by simp [Dev.takeCell, hc.1, hc.2]
    simp only [Dev.takeCells, hone]
    exact ih hrest

/-- The outcome of a pair at a sender: the codewords of both lanes, the cells that they deliver, and the cells' packets. -/
theorem codewordPairRx_sender {x : Port} {c0 c1 : Option RxCodeword} {a b : Option (Nat × List (List Byte))} {d1 d2 d3 : Dev}
    {ps : List Part} {as : List Area} (hon : senderOn s) (hp : s.dev.pstate x = P_LS0 ∨ s.dev.pstate x = P_RECOVER)
    (hr : (s.dev.port x).refwait = false)
    (h0 : s.dev.takeCodeword s.straps x 0 c0 = (a, d1)) (h1 : d1.takeCodeword s.straps x 1 c1 = (b, d2))
    (hcells : d2.pairUp x a b = (cells, d2)) (h3 : (d2.takeCells s.straps x r cells).2 = d3)
    (hgo : d3.pstate x ≠ P_GO) (ho : s.dev.Only ps as d3) (hq : Part.queue ∉ ps) :
    exec (.codewordPairRx x c0 c1 r) s = .next { s with dev := d3 } ∧ Only ps as s { s with dev := d3 } := by
  have hexists : portExists s.straps x = true := by simp [portExists, isSender_of_on hon]
  have htaken : (s.dev.pairTaken s.straps x r c0 c1).2 = d3 := by simp only [Dev.pairTaken, h0, h1, hcells, h3]
  rw [exec_codewordPairRx c0 c1 hon.2 hexists hp hr]
  refine ⟨run_next _ hon.2.2 ?_ ho hq, rfl, rfl, ho⟩
  simp only [isTile_of_sender hon, Bool.false_eq_true, if_false, htaken]
  exact goCheck_same hgo

theorem pairUp_none (x : Nat) (d : Dev) : d.pairUp x none none = ([], d) := rfl

theorem pairUp_cells {p q : Nat × List (List Byte)} (x : Nat) (d : Dev) (h : pairCells p q = some cells) :
    d.pairUp x (some p) (some q) = (cells, d) := by simp only [Dev.pairUp, h]

/-! A packet of one cell (R158). -/

/-- The device after the last cell of a packet that no reassembly stays open for. -/
def Dev.wholePacket (x : Nat) (cell : List Byte) (d : Dev) : Dev :=
  { (d.endRoute x (cellStream cell)).dropReasm x (cellStream cell) with
    rxq := d.rxq ++ [{ port := x, bytes := (cellData cell).take (16 + pktLen (cellData cell)), tRx := d.nowFine }] }

theorem wholePacket_only (x : Nat) (cell : List Byte) (d : Dev) : d.Only [.ports, .rxq] [] (d.wholePacket x cell) :=
  .parts rfl fun p hp => by cases p <;> simp_all [Part.same, Dev.wholePacket, Dev.endRoute, Dev.dropReasm]

/-- The TYPE of a packet stands in its first byte. -/
theorem pktType_take (p : List Byte) {n : Nat} (hn : 0 < n) : pktType (p.take n) = pktType p := by
  simp [pktType, byteAt, List.getElem?_take_of_lt hn]

theorem pktDefined_rsp {p : List Byte} (h : pktType p = PT_RSP) : pktDefined p = true := by
  simp [pktDefined, pktTypeKnown, h, PT_RSP, PT_CMD, PT_UPDATE]

/-- A sender keeps the packet of one cell that an RSP fits in (R158, R159). -/
theorem takeCell_rsp {c : List Byte} (hst : st.role = .sender)
    (hc : cellOk c = true ∧ cellValid c = true ∧ cellSop c = true ∧ cellEop c = true ∧ cellCidx c = 0)
    (ht : pktType (cellData c) = PT_RSP) (hlen : pktLen (cellData c) ≤ 40) (hopen : (d.port x).open_ = []) :
    (d.takeCell st x r c).2 = d.wholePacket x c := by
  obtain ⟨hok, hvalid, hsop, heop, hidx⟩ := hc
  have hsender : isSender st = true := by simp [isSender, hst]
  have htile : isTile st = false := by simp [isTile, hst]
  have hdefined := pktDefined_rsp ht
  have hwants : senderWants ((cellData c).take (16 + pktLen (cellData c))) = true := by
    have hwhole := (pktType_take (cellData c) (n := 16 + pktLen (cellData c)) (by omega)).trans ht
    simp [senderWants, pktDefined_rsp hwhole, hwhole]
  have hcells : pktCells (pktLen (cellData c)) = 1 := by unfold pktCells; omega
  have hroute : routeOf st d (cellData c) = .consume := by simp [routeOf, hsender]
  simp only [Dev.takeCell, hok, hvalid, hsop, hroute, Bool.not_true, Bool.false_eq_true, if_false, if_true]
  simp [Dev.takeSop, hopen, unknownHere, hdefined, hsender, htile, heop, Dev.addCell, hidx, hcells, Dev.arrived, hwants]
  rfl

end

end Sys2Proof.Machine
end

section
/-! SUPPORT. Both codewords of a pair at a sender (R119, R120, R143): the other lane once one has taken its codeword, pairs that
fail, and pairs that are read. -/

namespace Sys2Proof.Machine

section
variable {d e : Dev} {st : Straps} {s : State} {x n m r : Nat} {as : List Area} {w : RxCodeword} {cells : List (List Byte)}

theorem lanenStat_ne_cwu : LANEN_STAT x n ≠ LANEN_CWU y m := by unfold LANEN_STAT LANEN_CWU; omega
theorem lanenStat_ne_cwc : LANEN_STAT x n ≠ LANEN_CWC y m := by unfold LANEN_STAT LANEN_CWC; omega
theorem lanenStat_ne_sym : LANEN_STAT x n ≠ LANEN_SYM y m := by unfold LANEN_STAT LANEN_SYM; omega
theorem cwu_ne_cwu (h : n ≠ m) : LANEN_CWU x n ≠ LANEN_CWU x m := by unfold LANEN_CWU; omega
theorem cwc_ne_cwc (h : n ≠ m) : LANEN_CWC x n ≠ LANEN_CWC x m := by unfold LANEN_CWC; omega
theorem sym_ne_sym (h : n ≠ m) : LANEN_SYM x n ≠ LANEN_SYM x m := by unfold LANEN_SYM; omega

/-! The other lane, once one has taken its codeword. -/

theorem not_failAreas {a : Nat} (h : a ≠ LANEN_CWU x n) : ∀ b ∈ failAreas x n, ∀ k, ¬ b.has a k := by simp [Area.has, h]

theorem not_readAreas {a : Nat} (hp : a ≠ LANE_STAT x) (hc : a ≠ LANEN_CWC x n) (hs : a ≠ LANEN_SYM x n) :
    ∀ b ∈ readAreas x n, ∀ k, ¬ b.has a k :=
  List.forall_mem_append.mpr ⟨not_peerAreas hp, by simp [Area.has, hc, hs]⟩

theorem CodewordTaken.laneUp (h : CodewordTaken as x n d e) (ha : ∀ b ∈ as, ∀ k, ¬ b.has (LANEN_STAT x m) k)
    (hup : LaneUp x m d) : LaneUp x m e :=
  ⟨(h.frame.get_eq (LANEN_STAT_LOL x m) ha).trans hup.lol, (h.frame.get_eq (LANEN_STAT_LOS x m) ha).trans hup.los⟩

theorem CodewordTaken.receives (h : CodewordTaken as x n d e) (ha : ∀ b ∈ as, ∀ k, ¬ b.has (LANEN_STAT x m) k) (hm : m ≠ n) :
    receiveCodeword (e.lane x m) (e.getb (LANEN_STAT_POLINV x m)) w =
      receiveCodeword (d.lane x m) (d.getb (LANEN_STAT_POLINV x m)) w := by
  rw [h.other m hm, Dev.getb, Dev.getb, h.frame.get_eq (LANEN_STAT_POLINV x m) ha]

/-- Two codewords of a pair that fail, each short of the eighth in its row, at a sender (R119, R122, R143). -/
theorem pair_fails {x : Port} {b0 b1 : RxCodeword} (hon : senderOn s) (hls : s.dev.get (LANE_STAT_STATE x) = P_LS0)
    (hr : (s.dev.port x).refwait = false) (hup0 : LaneUp x 0 s.dev) (hup1 : LaneUp x 1 s.dev)
    (hx : x.val < s.dev.ports.length) (hlanes : (s.dev.port x).lanes.length = 2)
    (hf0 : (receiveCodeword (s.dev.lane x 0) (s.dev.getb (LANEN_STAT_POLINV x 0)) b0).1 = none)
    (hf1 : (receiveCodeword (s.dev.lane x 1) (s.dev.getb (LANEN_STAT_POLINV x 1)) b1).1 = none)
    (hrun0 : (s.dev.lane x 0).failRun < 7) (hrun1 : (s.dev.lane x 1).failRun < 7) :
    AnswersWith (exec (.codewordPairRx x (some b0) (some b1) r) s) fun t =>
      Only [.ports, .free] [.word (LANEN_CWU x 0), .word (LANEN_CWU x 1)] s t ∧
      t.dev.get (LANEN_CWU_COUNT x 0) = (s.dev.get (LANEN_CWU_COUNT x 0) + 1) % 2 ^ 32 ∧
      t.dev.get (LANEN_CWU_COUNT x 1) = (s.dev.get (LANEN_CWU_COUNT x 1) + 1) % 2 ^ 32 ∧
      (t.dev.lane x 0).failRun = (s.dev.lane x 0).failRun + 1 ∧ (t.dev.lane x 1).failRun = (s.dev.lane x 1).failRun + 1 ∧
      (t.dev.port x).peerLockRun = 0 ∧ (t.dev.port x).peerUnlockSince = none := by
  obtain ⟨d1, h0, htaken0, hcwu0, hfail0, hlock0, hunlock0⟩ := takeCodeword_fails s.straps hup0 hf0 hx (by omega) hrun0
  have hstat := not_failAreas (x := x) (n := 0) (lanenStat_ne_cwu (x := x) (n := 1))
  obtain ⟨d2, h1, htaken1, hcwu1, hfail1, hlock1, hunlock1⟩ := takeCodeword_fails (w := b1) s.straps (htaken0.laneUp hstat hup1)
    ((congrArg Prod.fst (htaken0.receives hstat (by decide))).trans hf1) (htaken0.ports ▸ hx)
    (by rw [htaken0.lanes, hlanes]; decide) (by rw [htaken0.other 1 (by decide)]; exact hrun1)
  have hframe : s.dev.Only [.ports, .free] [.word (LANEN_CWU x 0), .word (LANEN_CWU x 1)] d2 :=
    (htaken0.frame.mono (by simp) (by simp)).trans (htaken1.frame.mono (by simp) (by simp))
  have hgo : d2.pstate x ≠ P_GO := by
    rw [Dev.pstate, hframe.get_eq _ (by simp [Area.has, LANE_STAT_STATE]), hls]
    decide
  obtain ⟨hexec, honly⟩ := codewordPairRx_sender (r := r) hon (.inl hls) hr h0 h1 (pairUp_none ..) rfl hgo hframe (by simp)
  refine ⟨_, hexec, honly, ?_, ?_, ?_, ?_, hlock1.trans hlock0, hunlock1.trans hunlock0⟩
  · exact (htaken1.frame.get_eq _ (not_failAreas (cwu_ne_cwu (by decide)))).trans hcwu0
  · rw [← htaken0.frame.get_eq (LANEN_CWU_COUNT x 1) (not_failAreas (cwu_ne_cwu (by decide)))]
    exact hcwu1
  · exact (congrArg LaneSt.failRun (htaken1.other 0 (by decide))).trans hfail0
  · rw [← htaken0.other 1 (by decide)]
    exact hfail1

/-- The eighth failed codeword in a row on lane 0 of a sender's port (R143). -/
theorem pair_losesLock {x : Port} {b0 : RxCodeword} (hon : senderOn s)
    (hp : s.dev.get (LANE_STAT_STATE x) = P_LS0 ∨ s.dev.get (LANE_STAT_STATE x) = P_RECOVER)
    (hr : (s.dev.port x).refwait = false) (hup0 : LaneUp x 0 s.dev)
    (hx : x.val < s.dev.ports.length) (hlanes : (s.dev.port x).lanes.length = 2)
    (hf0 : (receiveCodeword (s.dev.lane x 0) (s.dev.getb (LANEN_STAT_POLINV x 0)) b0).1 = none)
    (hrun0 : (s.dev.lane x 0).failRun = 7) :
    AnswersWith (exec (.codewordPairRx x (some b0) none r) s) fun t =>
      Only [.ports, .free] [.word (LANEN_CWU x 0), .word (LANEN_STAT x 0), .field (LANE_STAT_STATE x), .field (LANE_STAT_RX_UP x)] s t ∧
      t.dev.get (LANEN_STAT_LOL x 0) = 1 ∧ t.dev.get (LANEN_STAT_LOL_SEEN x 0) = 1 ∧ t.dev.get (LANE_STAT_RX_UP x) = 0 ∧
      t.dev.get (LANE_STAT_STATE x) = P_RECOVER := by
  obtain ⟨e, h0, hframe, hlol, hseen, hup, hstate⟩ := takeCodeword_eighth (isTile_of_sender hon) hp hup0 hf0 hx (by omega) hrun0
  obtain ⟨hexec, honly⟩ := codewordPairRx_sender (r := r) hon hp hr h0 (takeCodeword_none ..) (pairUp_none ..) rfl
    (hstate ▸ (by decide : P_RECOVER ≠ P_GO)) hframe (by simp)
  exact ⟨_, hexec, honly, hlol, hseen, hup, hstate⟩

/-- The device after the codewords of a pair that is read, before its cells are looked at. -/
structure PairRead (x l0 l1 k0 k1 : Nat) (d e : Dev) : Prop where
  frame : d.Only [.ports, .free] (peerAreas x ++ [.word (LANEN_CWC x 0), .word (LANEN_CWC x 1), .word (LANEN_SYM x 0),
    .word (LANEN_SYM x 1)]) e
  peer : PeerShown x l1 e
  swap : e.get (LANE_STAT_SWAP x) = l0 / 16 % 2
  cwc : e.get (LANEN_CWC_COUNT x 0) = (d.get (LANEN_CWC_COUNT x 0) + if k0 = 0 then 0 else 1) % 2 ^ 32
  sym : e.get (LANEN_SYM_COUNT x 0) = (d.get (LANEN_SYM_COUNT x 0) + k0) % 2 ^ 32
  packets : (e.port x).open_ = (d.port x).open_

theorem pair_reads (st : Straps) {l0 l1 k0 k1 : Nat} {c0 c1 : List (List Byte)} {b0 b1 : RxCodeword} (hup0 : LaneUp x 0 d) (hup1 : LaneUp x 1 d)
    (hfirst : (d.lane x 0).discardFirst = false ∧ (d.lane x 1).discardFirst = false)
    (hr0 : (receiveCodeword (d.lane x 0) (d.getb (LANEN_STAT_POLINV x 0)) b0).1 = some ((l0, c0), k0))
    (hr1 : (receiveCodeword (d.lane x 1) (d.getb (LANEN_STAT_POLINV x 1)) b1).1 = some ((l1, c1), k1)) :
    ∃ d1 d2, d.takeCodeword st x 0 (some b0) = (some (l0, c0), d1) ∧
      d1.takeCodeword st x 1 (some b1) = (some (l1, c1), d2) ∧ PairRead x l0 l1 k0 k1 d d2 := by
  obtain ⟨d1, h0, htaken0, -, hswap0, hcwc0, hsym0⟩ := takeCodeword_reads st hup0 hfirst.1 hr0
  have hstat := not_readAreas (x := x) (n := 0) (a := LANEN_STAT x 1) lanenStat_ne_laneStat lanenStat_ne_cwc lanenStat_ne_sym
  obtain ⟨d2, h1, htaken1, hpeer1, hswap1, -, -⟩ := takeCodeword_reads (w := b1) st (htaken0.laneUp hstat hup1)
    (by rw [htaken0.other 1 (by decide)]; exact hfirst.2) ((congrArg Prod.fst (htaken0.receives hstat (by decide))).trans hr1)
  refine ⟨d1, d2, h0, h1, (htaken0.frame.mono (by simp) (by simp)).trans (htaken1.frame.mono (by simp) (by simp)), hpeer1,
    hswap1.trans hswap0, ?_, ?_, htaken1.packets.trans htaken0.packets⟩
  · exact (htaken1.frame.get_eq _ (not_readAreas laneStat_ne_cwc.symm (cwc_ne_cwc (by decide)) cwc_ne_sym)).trans hcwc0
  · exact (htaken1.frame.get_eq _ (not_readAreas laneStat_ne_sym.symm cwc_ne_sym.symm (sym_ne_sym (by decide)))).trans hsym0

theorem PairRead.pstate {l0 l1 k0 k1 : Nat} (h : PairRead x l0 l1 k0 k1 d e) : e.pstate x = d.pstate x :=
  h.frame.get_bits _ fun a ha k _ hk => by
    simp only [LANE_STAT_STATE] at hk
    rcases List.mem_append.mp ha with ha | ha
    · simp only [peerAreas, List.mem_cons, List.not_mem_nil, or_false] at ha
      rcases ha with rfl | rfl | rfl | rfl <;>
        simp only [Area.has, LANE_STAT_TX_UP, LANE_STAT_PEER_PM, LANE_STAT_PEER_REFDEP, LANE_STAT_SWAP] <;> omega
    · simp only [List.mem_cons, List.not_mem_nil, or_false] at ha
      rcases ha with rfl | rfl | rfl | rfl <;> simp [Area.has, LANE_STAT_STATE]

end

end Sys2Proof.Machine
end

section
/-! SUPPORT. What a sender gets of a pair that it reads (R120, R123, R156, R158): the idle cells and the packet of one cell. -/

namespace Sys2Proof.Machine

section
variable {d e : Dev} {st : Straps} {s : State} {x r : Nat} {as : List Area} {w : RxCodeword}

/-- The areas that a pair which is read touches, as the statement lists them. -/
abbrev pairAreas (x : Nat) : List Area :=
  [.field (LANE_STAT_TX_UP x), .field (LANE_STAT_PEER_PM x), .field (LANE_STAT_PEER_REFDEP x),
    .field (LANE_STAT_SWAP x), .word (LANEN_CWC x 0), .word (LANEN_CWC x 1), .word (LANEN_SYM x 0), .word (LANEN_SYM x 1)]

/-- A sender reads a pair in LS0: its two codewords, taken one after the other, pair to these cells, and leave what `PairRead`
says. -/
structure ReadsPair (x : Port) (b0 b1 : RxCodeword) (l0 l1 k0 k1 : Nat) (cells : List (List Byte)) (s : State) : Prop where
  on : senderOn s
  state : s.dev.get (LANE_STAT_STATE x) = P_LS0
  running : (s.dev.port x).refwait = false
  delivers : ∃ p0 p1 d1 d2, s.dev.takeCodeword s.straps x 0 (some b0) = (some p0, d1) ∧
    d1.takeCodeword s.straps x 1 (some b1) = (some p1, d2) ∧ pairCells p0 p1 = some cells ∧ PairRead x l0 l1 k0 k1 s.dev d2

/-- A pair of idle cells shows the peer's report and the symbols corrected, and delivers nothing (R120, R123, R156). -/
theorem pair_idle {x : Port} {b0 b1 : RxCodeword} {l0 l1 k0 k1 : Nat} {cells : List (List Byte)}
    (h : ReadsPair x b0 b1 l0 l1 k0 k1 cells s) (hidle : ∀ c ∈ cells, cellOk c = true ∧ cellValid c = false) :
    AnswersWith (exec (.codewordPairRx x (some b0) (some b1) r) s) fun t =>
      Only [.ports, .free] (pairAreas x) s t ∧
      t.dev.get (LANE_STAT_TX_UP x) = l1 % 2 ∧ t.dev.get (LANE_STAT_PEER_PM x) = l1 / 2 % 4 ∧
      t.dev.get (LANE_STAT_PEER_REFDEP x) = l1 / 8 % 2 ∧ t.dev.get (LANE_STAT_SWAP x) = l0 / 16 % 2 ∧
      t.dev.get (LANEN_CWC_COUNT x 0) = (s.dev.get (LANEN_CWC_COUNT x 0) + (if k0 = 0 then 0 else 1)) % 2 ^ 32 ∧
      t.dev.get (LANEN_SYM_COUNT x 0) = (s.dev.get (LANEN_SYM_COUNT x 0) + k0) % 2 ^ 32 := by
  obtain ⟨hon, hls, hr, p0, p1, d1, d2, h0, h1, hcells, hread⟩ := h
  have hgo : d2.pstate x ≠ P_GO := by
    rw [hread.pstate, Dev.pstate, hls]
    decide
  obtain ⟨hexec, honly⟩ := codewordPairRx_sender (r := r) hon (.inl hls) hr h0 h1 (pairUp_cells _ _ hcells) (takeCells_idle hidle)
    hgo hread.frame (by simp)
  exact ⟨_, hexec, honly, hread.peer.txUp, hread.peer.peerPm, hread.peer.refdep, hread.swap, hread.cwc, hread.sym⟩

/-- A pair with the one cell of an RSP before idle ones gives a sender that packet, stamped with its clock (R158, R196). -/
theorem pair_rsp {x : Port} {b0 b1 : RxCodeword} {l0 l1 k0 k1 : Nat} {c : List Byte} {cells : List (List Byte)}
    (h : ReadsPair x b0 b1 l0 l1 k0 k1 (c :: cells) s) (hidle : ∀ c ∈ cells, cellOk c = true ∧ cellValid c = false)
    (hc : cellOk c = true ∧ cellValid c = true ∧ cellSop c = true ∧ cellEop c = true ∧ cellCidx c = 0)
    (ht : pktType (cellData c) = PT_RSP) (hlen : pktLen (cellData c) ≤ 40) (hopen : (s.dev.port x).open_ = []) :
    AnswersWith (exec (.codewordPairRx x (some b0) (some b1) r) s) fun t =>
      Only [.ports, .rxq, .free] (pairAreas x) s t ∧
      t.dev.rxq = s.dev.rxq ++ [{ port := x, bytes := (cellData c).take (16 + pktLen (cellData c)), tRx := s.dev.nowFine }] := by
  obtain ⟨hon, hls, hr, p0, p1, d1, d2, h0, h1, hcells, hread⟩ := h
  have hpacket : (d2.takeCells s.straps x r (c :: cells)).2 = d2.wholePacket x c := by
    have hone := takeCell_rsp (r := r) hon.1 hc ht hlen (hread.packets.trans hopen)
    change (Dev.takeCells s.straps x r cells (d2.takeCell s.straps x r c).2).2 = _
    rw [hone, takeCells_idle hidle]
  have hgo : (d2.wholePacket x c).pstate x ≠ P_GO := by
    have hkept : (d2.wholePacket x c).pstate x = d2.pstate x := (wholePacket_only ..).get_eq _ (by simp)
    rw [hkept, hread.pstate, Dev.pstate, hls]
    decide
  have hframe : s.dev.Only [.ports, .rxq, .free] (pairAreas x) (d2.wholePacket x c) :=
    (hread.frame.mono (by simp) fun _ => id).trans ((wholePacket_only ..).mono (by simp) (by simp))
  obtain ⟨hexec, honly⟩ := codewordPairRx_sender (r := r) hon (.inl hls) hr h0 h1 (pairUp_cells _ _ hcells) hpacket
    hgo hframe (by simp)
  have hclock : d2.time.clk = s.dev.time.clk := hread.frame.1 .clock (by simp)
  have hrxq : d2.rxq = s.dev.rxq := hread.frame.1 .rxq (by simp)
  have hnow : d2.nowFine = s.dev.nowFine := by simp only [Dev.nowFine, Dev.now, hclock]
  refine ⟨_, hexec, honly, ?_⟩
  change d2.rxq ++ [_] = _
  rw [hrxq, hnow]

end

end Sys2Proof.Machine
end

section
/-! SUPPORT. A codeword pair at a tile (R166, R169, R170): the pair that it sends on its other port for one that brings no cells,
and the slots that it keeps while the line is not free. -/

namespace Sys2Proof.Machine

section
variable {d e : Dev} {st : Straps} {s : State} {y r : Nat} {as : List Area}

/-- A tile relays twenty free slots for a pair from lanes that deliver nothing. -/
theorem exec_codewordPairRx_tile {x : Port} (hon : tileOn s) (hx : x.val < 2) (hls : s.dev.get (LANE_STAT_STATE x) = P_LS0)
    (hr : (s.dev.port x).refwait = false) :
    exec (.codewordPairRx x none none r) s =
      run (fun st d => (d.relayPair st (1 - x.val) (List.replicate 20 none)).goCheck st x) s := by
  have htaken : s.dev.pairTaken s.straps x r none none = ([], s.dev) := by
    simp only [Dev.pairTaken, takeCodeword_none, pairUp_none]
    rfl
  rw [exec_codewordPairRx none none hon.2 (by simp [portExists, hx]) (.inl hls) hr]
  refine run_congr ?_
  simp only [htaken, isTile_of_on hon, if_true, List.isEmpty_nil]
  rfl

/-! The forwarding buffer (R169). -/

/-- With the line free and nothing buffered, free slots leave as they came. -/
theorem bufferPair_leaving (n : Nat) : bufferPair true (List.replicate n none) [] = (List.replicate n none, [], 0) := by
  induction n with
  | zero => rfl
  | succ n ih => simp [List.replicate_succ, bufferPair, bufferSlot, dropIdleAt, ih, b2n]

/-- While the line is not free, a buffer that is empty takes twelve free slots and drops the rest. -/
theorem bufferPair_kept : bufferPair false (List.replicate 20 none) [] = ([], List.replicate 12 none, 0) := by decide

theorem get_add_zero (d : Dev) (f g : Fld) : (d.add f 0).get g = d.get g := by rw [Dev.get, rd_add_zero, Dev.get]

/-- The slots are kept while the line is not free. -/
theorem relayPair_busy (hc : d.carries y = true) (hfree : d.lineFree y = false) (hfwd : (d.port y).fwd = []) :
    d.relayPair st y (List.replicate 20 none) =
      (d.modPort y fun p => { p with fwd := List.replicate 12 none }).add (XPT_OVF_COUNT (otherPort y)) 0 := by
  simp only [Dev.relayPair, hc, hfree, hfwd, bufferPair_kept, Bool.not_true, Bool.false_eq_true, if_false]

/-! Slots that are filled with own packets (R170). -/

theorem fillSlots_free {α : Type} (n : Nat) (cs : List α) (h : cs.length ≤ n) :
    fillSlots (List.replicate n none) cs = cs.map some ++ List.replicate (n - cs.length) none := by
  induction n generalizing cs with
  | zero => simp [List.length_eq_zero_iff.mp (Nat.le_zero.mp h), fillSlots]
  | succ n ih =>
    cases cs with
    | nil => simpa [List.replicate_succ, fillSlots] using ih [] (Nat.zero_le _)
    | cons c cs => simpa [List.replicate_succ, fillSlots] using ih cs (Nat.le_of_succ_le_succ h)

theorem modPort_modPort (y : Nat) (f g : PortSt → PortSt) (d : Dev) : (d.modPort y f).modPort y g = d.modPort y (g ∘ f) := by
  simp only [Dev.modPort, modAt, List.modify_modify_eq]

/-- The pair that leaves, of own cells and idle ones. -/
def pairOf (cells : List (List Byte)) : List (List Byte) := cells ++ List.replicate (20 - cells.length) idleCell

/-- The device with the own packets that leave taken out of the queue, and their records sent. -/
def Dev.ownTaken (y : Nat) (recs : List Nat) (rest : List OwnPkt) (d : Dev) : Dev :=
  (((d.modPort y fun q => { q with fwd := [] }).add (XPT_OVF_COUNT (otherPort y)) 0).modPort y fun q => { q with own := rest }).each
    recs Dev.recordSent

theorem relayPair_free {cells : List (List Byte)} {recs : List Nat} {rest : List OwnPkt} (hc : d.carries y = true)
    (hfree : d.lineFree y = true) (hfwd : (d.port y).fwd = []) (hlen : cells.length ≤ 20)
    (htake : takeOwn d.nowFine 20 (d.port y).own = (cells, recs, rest)) :
    d.relayPair st y (List.replicate 20 none) = (d.ownTaken y recs rest).putPair st y (pairOf cells) := by
  generalize hk : (d.modPort y fun q => { q with fwd := [] }).add (XPT_OVF_COUNT (otherPort y)) 0 = k
  have hcarries : k.carries y = true := by
    have hstate : k.pstate y = d.pstate y := by rw [← hk, Dev.pstate, get_add_zero, modPort_get, Dev.pstate]
    have htone : (k.port y).toneSince = (d.port y).toneSince := by rw [← hk]; exact port_modPort_kept PortSt.toneSince fun _ => rfl
    simpa only [Dev.carries, Dev.transmitting, hstate, htone] using hc
  have hown : takeOwn k.nowFine 20 (k.port y).own = (cells, recs, rest) := by
    have hsame : (k.port y).own = (d.port y).own := by rw [← hk]; exact port_modPort_kept PortSt.own fun _ => rfl
    rw [hsame, ← htake, ← hk]
    rfl
  have hrelay : d.relayPair st y (List.replicate 20 none) = k.sendSlots st y (List.replicate 20 none) := by
    simp only [Dev.relayPair, hc, hfree, hfwd, bufferPair_leaving, Bool.not_true, Bool.false_eq_true, if_false, if_true, hk]
  have hslots : (List.filter Option.isNone (List.replicate 20 (none : Option (List Byte)) ++ List.replicate 0 none)).length = 20 := by
    decide
  rw [hrelay, Dev.ownTaken, hk]
  simp only [Dev.sendSlots, hcarries, List.length_replicate, Nat.sub_self, hslots, hown, Bool.not_true, Bool.false_eq_true, if_false]
  rw [List.replicate_zero, List.append_nil, fillSlots_free 20 cells hlen]
  simp [pairOf]

/-! The pair on the line. -/

/-- What a pair that is sent changes: the lanes, the line and PAIRSEQ of its port, and what has left the device. -/
theorem putPair_eq {cells : List (List Byte)} (st : Straps) (y : Nat) (d : Dev) (h : cells.length = 20) :
    ∃ f l0 l1, (∀ p, PortSt.own (f p) = p.own) ∧ d.putPair st y cells = (d.modPort y f).emit (.pair y cells l0 l1) := by
  have hslots : ((List.range 20).map fun k => nth cells k idleCell) = cells := by
    refine List.ext_getElem (by simp [h]) fun j hj _ => ?_
    have hj' : j < cells.length := by simpa [h] using hj
    simp [nth, hj']
  unfold Dev.putPair
  dsimp only
  rw [hslots]
  unfold Dev.slotSent
  rw [modPort_modPort]
  refine ⟨_, _, _, ?_, rfl⟩
  exact fun _ => rfl

theorem pairOf_length {cells : List (List Byte)} (h : cells.length ≤ 20) : (pairOf cells).length = 20 := by
  simp [pairOf]; omega

/-! The two cases of the line. -/

/-- A tile whose port `x` is in LS0, and whose other port is in LS0 with an empty forwarding buffer and sends no tone. -/
structure Relays (x : Port) (s : State) : Prop where
  on : tileOn s
  inner : x.val < 2
  state : s.dev.get (LANE_STAT_STATE x) = P_LS0
  running : (s.dev.port x).refwait = false
  across : s.dev.get (LANE_STAT_STATE (1 - x.val)) = P_LS0
  tone : (s.dev.port (1 - x.val)).toneSince = none
  empty : (s.dev.port (1 - x.val)).fwd = []

theorem Relays.carries {x : Port} (h : Relays x s) : s.dev.carries (1 - x.val) = true := by
  simp [Dev.carries, Dev.transmitting, Dev.pstate, h.across, h.tone, sendsCells]

/-- The line is free: a pair leaves with own cells in its first slots and idle cells in the rest (R166, R170). -/
theorem pair_relayed {x : Port} {cells : List (List Byte)} {recs : List Nat} {rest : List OwnPkt} (h : Relays x s)
    (hline : (s.dev.port (1 - x.val)).lineEnd ≤ 5 * s.dev.time.clk.ticks + 5) (hlen : cells.length ≤ 20)
    (htake : takeOwn s.dev.nowFine 20 (s.dev.port (1 - x.val)).own = (cells, recs, rest))
    (hkept : s.dev.Only [.ports] as (s.dev.ownTaken (1 - x.val) recs rest))
    (hstate : ∀ a ∈ as, ∀ k, ¬ a.has (LANE_STAT x) k) :
    ∃ t l0 l1, exec (.codewordPairRx x none none r) s = .next t ∧ Only [.ports, .out] as s t ∧
      t.dev.out = s.dev.out ++ [.pair (1 - x.val) (pairOf cells) l0 l1] ∧
      (t.dev.port (1 - x.val)).own = ((s.dev.ownTaken (1 - x.val) recs rest).port (1 - x.val)).own ∧
      ∀ g, t.dev.get g = (s.dev.ownTaken (1 - x.val) recs rest).get g := by
  have hfree : s.dev.lineFree (1 - x.val) = true := decide_eq_true hline
  have hrelay := relayPair_free (st := s.straps) h.carries hfree h.empty hlen htake
  obtain ⟨f, l0, l1, hown, hput⟩ := putPair_eq s.straps (1 - x.val) (s.dev.ownTaken (1 - x.val) recs rest) (pairOf_length hlen)
  rw [hput] at hrelay
  generalize s.dev.ownTaken (1 - x.val) recs rest = e at *
  have hframe : s.dev.Only [.ports, .out] as ((e.modPort (1 - x.val) f).emit (.pair (1 - x.val) (pairOf cells) l0 l1)) :=
    .emit _ (by simp) (.modPort _ _ (by simp) (hkept.mono (by simp) fun _ => id))
  have hgo : ((e.modPort (1 - x.val) f).emit (.pair (1 - x.val) (pairOf cells) l0 l1)).pstate x ≠ P_GO := by
    rw [Dev.pstate, hframe.get_eq _ hstate, h.state]
    decide
  have hrun : exec (.codewordPairRx x none none r) s =
      .next { s with dev := (e.modPort (1 - x.val) f).emit (.pair (1 - x.val) (pairOf cells) l0 l1) } := by
    rw [exec_codewordPairRx_tile h.on h.inner h.state h.running]
    refine run_next _ h.on.2.2 ?_ hframe (by simp)
    rw [hrelay, goCheck_same hgo]
  have hout : e.out = s.dev.out := hkept.1 .out (by simp)
  exact ⟨_, l0, l1, hrun, ⟨rfl, rfl, hframe⟩, by rw [Dev.emit_out_eq, Dev.modPort_out, hout],
    port_modPort_kept (d := e) PortSt.own hown, fun g => Dev.get_congr rfl g⟩

/-- The line is not free: of twenty free slots the buffer keeps twelve (R169). -/
theorem pair_kept {x : Port} (h : Relays x s) (hline : 5 * s.dev.time.clk.ticks + 5 < (s.dev.port (1 - x.val)).lineEnd) :
    AnswersWith (exec (.codewordPairRx x none none r) s) fun t => Only [.ports] [] s t ∧
      t.dev.ports = s.dev.ports.modify (1 - x.val) fun p => { p with fwd := List.replicate 12 none } := by
  have hbusy : s.dev.lineFree (1 - x.val) = false := decide_eq_false (Nat.not_le.mpr hline)
  have hrelay := relayPair_busy (st := s.straps) h.carries hbusy h.empty
  generalize he : (s.dev.modPort (1 - x.val) fun p => { p with fwd := List.replicate 12 none }).add
    (XPT_OVF_COUNT (otherPort (1 - x.val))) 0 = e at hrelay
  have hframe : s.dev.Only [.ports] [] e :=
    he ▸ (Dev.Only.modPort _ _ (by simp) (.refl ..)).trans ((add_zero_only ..).mono (by simp) fun _ => id)
  have hgo : e.pstate x ≠ P_GO := by
    rw [Dev.pstate, hframe.get_eq _ (by simp), h.state]
    decide
  rw [exec_codewordPairRx_tile h.on h.inner h.state h.running]
  refine ⟨_, run_next _ h.on.2.2 ?_ hframe (by simp), ⟨rfl, rfl, hframe⟩, by rw [← he]; rfl⟩
  rw [hrelay, goCheck_same hgo]

/-- Nothing of its own leaves: only the ports change. -/
theorem ownTaken_nothing (y : Nat) (rest : List OwnPkt) (d : Dev) : d.Only [.ports] [] (d.ownTaken y [] rest) :=
  .modPort _ _ (by simp) ((Dev.Only.modPort _ _ (by simp) (.refl ..)).trans ((add_zero_only ..).mono (by simp) fun _ => id))

/-- The EVENT of the record at REC_SENT leaves: REC_SENT moves on (R170, R374). -/
theorem ownTaken_record {q : Nat} (y : Nat) (rest : List OwnPkt) (hq : d.get REC_SENT_SEQ = q) :
    d.ownTaken y [q] rest = (d.ownTaken y [] rest).set REC_SENT_SEQ (q + 1) := by
  have hsent : (d.ownTaken y [] rest).get REC_SENT_SEQ = q := ((ownTaken_nothing ..).get_eq _ (by simp)).trans hq
  change (d.ownTaken y [] rest).recordSent q = _
  rw [Dev.recordSent, if_pos hsent]

theorem ownTaken_own {rest : List OwnPkt} (hy : y < d.ports.length) : ((d.ownTaken y [] rest).port y).own = rest := by
  have hlen : y < ((d.modPort y fun q => { q with fwd := [] }).add (XPT_OVF_COUNT (otherPort y)) 0).ports.length := by
    simpa [Dev.add] using hy
  exact congrArg PortSt.own (port_modPort_same hlen)

end

end Sys2Proof.Machine
end

section
/-! SUPPORT. A tile's own packets (R163, R170, R374) and the end of a reassembly (R184), and the statement of the codeword pairs. -/

namespace Sys2Proof.Machine

section
variable {d e : Dev} {st : Straps} {s : State} {x y : Nat}

theorem modify_congr {α : Type} {l : List α} {n : Nat} {f g : α → α} (h : ∀ p ∈ l[n]?, f p = g p) : l.modify n f = l.modify n g := by
  refine List.ext_getElem? fun j => ?_
  rw [List.getElem?_modify, List.getElem?_modify]
  by_cases hj : n = j
  · subst hj
    cases hp : l[n]? with
    | none => rfl
    | some p => simp [h p (by simp [hp])]
  · simp [hj]

theorem set_port (g : Fld) (v : Nat) (d : Dev) : (d.set g v).port y = d.port y := rfl

/-- An own packet waits for the pairs that come from the other port. -/
theorem queueOwn_relays (k : OwnPkt) (h : d.relays y = true) :
    d.queueOwn st y k = d.modPort y fun q => { q with own := insertOwn k q.own } := by
  have hrelays : (d.modPort y fun q => { q with own := insertOwn k q.own }).relays y = true := h
  simp only [Dev.queueOwn, hrelays, if_true]

/-- The outcome of an effect that changes one port and records nothing. -/
theorem run_modPort (g : Straps → Dev → Dev) {f : PortSt → PortSt} (hset : Settled s) (hg : g s.straps s.dev = s.dev.modPort x f) :
    AnswersWith (run g s) fun t => Only [.ports] [] s t ∧ t.dev.ports = s.dev.ports.modify x f := by
  have hframe : s.dev.Only [.ports] [] (s.dev.modPort x f) := .modPort _ _ (by simp) (.refl ..)
  exact ⟨_, run_next g hset hg hframe (by simp), ⟨rfl, rfl, hframe⟩, rfl⟩

/-- An EVENT that waits alone leaves in the first slots of the pair, and its record is sent (R166, R170, R374). -/
theorem pair_sendsEvent {x : Port} {q r : Nat} {e : OwnPkt} (h : Relays x s)
    (hline : (s.dev.port (1 - x.val)).lineEnd ≤ 5 * s.dev.time.clk.ticks + 5) (hown : (s.dev.port (1 - x.val)).own = [e])
    (he : e.record = some q ∧ e.turn = none ∧ e.cells.length ≤ 20) (hq : s.dev.get REC_SENT_SEQ = q) :
    ∃ t l0 l1, exec (.codewordPairRx x none none r) s = .next t ∧ Only [.ports, .out] [.word REC_SENT] s t ∧
      t.dev.get REC_SENT_SEQ = (q + 1) % 2 ^ 32 ∧ (t.dev.port (1 - x.val)).own = [] ∧
      t.dev.out = s.dev.out ++ [.pair (1 - x.val) (pairOf e.cells) l0 l1] := by
  obtain ⟨hrecord, hturn, hlen⟩ := he
  have hport : 1 - x.val < s.dev.ports.length := by
    by_contra hnone
    have hinit : s.dev.port (1 - x.val) = PortSt.init := by
      rw [Dev.port, nth, List.getD_eq_default _ _ (Nat.le_of_not_lt hnone)]
    exact absurd (hinit ▸ hown) (by simp [PortSt.init])
  have htake : takeOwn s.dev.nowFine 20 (s.dev.port (1 - x.val)).own = (e.cells, [q], []) := by
    simp [hown, takeOwn, OwnPkt.leaving, hturn, hrecord, hlen]
  have hrest := ownTaken_record (1 - x.val) [] hq
  have hkept : s.dev.Only [.ports] [.word REC_SENT] (s.dev.ownTaken (1 - x.val) [q] []) := by
    rw [hrest]
    exact .set _ _ (by simp [REC_SENT_SEQ]) ((ownTaken_nothing ..).mono (by simp) (by simp))
  have hstate : LANE_STAT x ≠ REC_SENT := by
    have := h.inner
    unfold LANE_STAT REC_SENT
    omega
  obtain ⟨t, l0, l1, ht, honly, hout, hqueue, hget⟩ := pair_relayed (r := r) h hline hlen htake hkept (by simpa [Area.has] using hstate)
  rw [hrest, set_port, ownTaken_own hport] at hqueue
  rw [hrest] at hget
  exact ⟨t, l0, l1, ht, honly, (hget _).trans (Dev.get_set_same _ _ _ (by decide)), hqueue, hout⟩

/-- A WITNESS waits each millisecond on a port that carries cells (R163). -/
theorem witnessSend_waits {x : Port} (hon : tileOn s) (hx : x.val < 2) (hen : s.dev.get XPT_CTRL_WIT_EN = 1)
    (hls : s.dev.get (LANE_STAT_STATE x) = P_LS0) (hacross : s.dev.get (LANE_STAT_STATE (1 - x.val)) = P_LS0)
    (hdue : (s.dev.port x).lastWit + 247500 ≤ s.dev.time.clk.ticks) :
    AnswersWith (exec (.witnessSend x) s) fun t => Only [.ports] [] s t ∧
      t.dev.ports = s.dev.ports.modify x fun p =>
        { p with wseq := (p.wseq + 1) % 65536, lastWit := s.dev.time.clk.ticks,
                 own := insertOwn { prec := 2, cells := packetCells (tilePkt s.dev PT_WITNESS 0 (witnessBody s.dev x)), turn := none,
                                    record := none } p.own } := by
  have hready : (isTile s.straps && s.dev.awake && decide (x.val < 2) && s.dev.getb XPT_CTRL_WIT_EN &&
      (s.dev.pstate x == P_LS0 || s.dev.pstate x == P_TXONLY) && s.dev.passed (s.dev.port x).lastWit witnessPeriod) = true := by
    have hperiod : s.dev.passed (s.dev.port x).lastWit witnessPeriod = true := decide_eq_true hdue
    simp [isTile_of_on hon, awake_of_on hon.2, hx, Dev.getb, hen, Dev.pstate, hls, hperiod]
  change AnswersWith (execWitnessSend x s) _
  unfold execWitnessSend
  rw [runIf_pos hready]
  refine run_modPort _ hon.2.2 ?_
  have hrelays : (s.dev.modPort x fun p =>
      { p with wseq := (p.wseq + 1) % 65536, lastWit := s.dev.ticks }).relays x = true := beq_iff_eq.mpr hacross
  exact (queueOwn_relays _ hrelays).trans (modPort_modPort ..)

/-- The record at REC_SENT waits as an EVENT (R374). -/
theorem eventSend_waits {q : Nat} (hon : tileOn s) (hfull : s.dev.get REC_STAT_EMPTY = 0) (hsent : s.dev.get REC_SENT_SEQ = q)
    (hnext : s.dev.rcd.next ≠ q) (hold : precedes q (s.dev.get REC_OLDEST_SEQ) = false) (hok : s.dev.recCheckOk q = true)
    (hsev : s.dev.get REC_CTRL_SEND_SEV ≤ (eventOfBytes (s.dev.recSlot q)).sev) (hacc : s.dev.tile.accepted = none)
    (hls0 : s.dev.get (LANE_STAT_STATE 0) = P_LS0) (hls1 : s.dev.get (LANE_STAT_STATE 1) = P_LS0)
    (hown : ∀ p ∈ s.dev.ports, p.own = []) (htone : (s.dev.port 0).toneSince = none) :
    AnswersWith (exec .eventSend s) fun t => Only [.ports] [] s t ∧
      t.dev.ports = s.dev.ports.modify 0 fun p =>
        { p with own := [{ prec := 3, cells := packetCells (tilePkt s.dev PT_EVENT 0 (s.dev.recSlot q)), turn := none,
                           record := some q }] } := by
  have hport : eventPort s.dev = 0 := by simp [eventPort, hacc]
  have hnone : (s.dev.ports.all fun p => p.own.all fun e => e.record.isNone) = true :=
    List.all_eq_true.mpr fun p hp => by simp [hown p hp]
  have hcarries : s.dev.carries 0 = true := by simp [Dev.carries, Dev.transmitting, Dev.pstate, hls0, htone, sendsCells]
  have hskip : s.dev.skipUnsent = s.dev := by simp [Dev.skipUnsent, hsent, hold]
  have hsevere : ¬ (eventOfBytes (s.dev.recSlot q)).sev < s.dev.get REC_CTRL_SEND_SEV := Nat.not_lt.mpr hsev
  have hready : (isTile s.straps && s.dev.awake && !s.dev.getb REC_STAT_EMPTY && s.dev.get REC_SENT_SEQ != s.dev.rcd.next &&
      s.dev.carries (eventPort s.dev) && s.dev.ports.all fun p => p.own.all fun e => e.record.isNone) = true := by
    simp [isTile_of_on hon, awake_of_on hon.2, Dev.getb, hfull, hsent, hnext.symm, hport, hcarries, hnone]
  change AnswersWith (execEventSend s) _
  unfold execEventSend
  rw [runIf_pos hready]
  refine run_modPort _ hon.2.2 ?_
  have hrelays : s.dev.relays 0 = true := beq_iff_eq.mpr hls1
  simp only [hskip, hsent, hsevere, hok, hport, decide_false, Bool.not_true, Bool.or_self, Bool.false_eq_true, if_false]
  rw [queueOwn_relays _ hrelays]
  refine congrArg (fun l => { s.dev with ports := l }) (modify_congr fun p hp => ?_)
  rw [hown p (List.mem_of_getElem? hp)]
  rfl

/-- The one packet under reassembly at a port is given up and counted (R184). -/
theorem reassembly_ends {x : Port} {r : Reasm} (hon : deviceOn s) (hopen : (s.dev.port x).open_ = [r])
    (hlate : r.lastCell + 25000 ≤ s.dev.time.clk.ticks) :
    AnswersWith (exec (.packetReassemblyTimeout x r.stream) s) fun t =>
      Only [.ports] [.word (XPT_PKTERR x)] s t ∧
      t.dev.get (XPT_PKTERR_COUNT x) = (s.dev.get (XPT_PKTERR_COUNT x) + 1) % 2 ^ 32 ∧
      t.dev.ports = s.dev.ports.modify x fun p => { p with open_ := [] } := by
  have hready : (s.dev.awake && (s.dev.port x).open_.any fun k => k.stream == r.stream && s.dev.passed k.lastCell (us 100)) = true := by
    have hpassed : s.dev.passed r.lastCell (us 100) = true := decide_eq_true hlate
    simp [awake_of_on hon, hopen, hpassed]
  have hframe : s.dev.Only [.ports] [.word (XPT_PKTERR x)] ((s.dev.dropReasm x r.stream).add (XPT_PKTERR_COUNT x) 1) :=
    .add _ _ (by simp [XPT_PKTERR_COUNT]) (.modPort _ _ (by simp) (.refl ..))
  change AnswersWith (execPacketReassemblyTimeout x r.stream s) _
  unfold execPacketReassemblyTimeout
  rw [runIf_pos hready]
  refine ⟨_, run_quiet hon.2 hframe (by simp), ⟨rfl, rfl, hframe⟩, ?_, modify_congr fun p hp => ?_⟩
  · exact Dev.get_set_same _ _ _ (by simp [XPT_PKTERR_COUNT])
  · have hp' : p.open_ = [r] := by
      rw [← hopen, Dev.port, nth, List.getD_eq_getElem?_getD, Option.mem_def.mp hp]
      rfl
    simp [hp']

end

/-- Settles O42, clause by clause: at a sender by what each codeword of the pair makes of the device, at a tile by the pair that
leaves or the slots that stay. -/
theorem cellsAndPackets : Obligations.CellsAndPackets := by
  unfold Obligations.CellsAndPackets
  refine ⟨?fails, ?losesLock, ?idle, ?rsp, ?relayed, ?kept, ?event, ?witness, ?eventSend, ?timeout⟩
  case fails =>
    intro s x r b0 b1 hon hls hr hup0 hup1 hlen hf0 hf1 hrun
    exact pair_fails hon hls hr ⟨hup0.1, hup0.2⟩ ⟨hup1.1, hup1.2⟩ (by rw [hlen.1]; exact x.isLt) hlen.2 hf0 hf1 hrun.1 hrun.2
  case losesLock =>
    intro s x r b0 hon hp hr hup0 hlen hf0 hrun
    exact pair_losesLock hon hp hr ⟨hup0.1, hup0.2⟩ (by rw [hlen.1]; exact x.isLt) hlen.2 hf0 hrun
  case idle =>
    intro s x r b0 b1 l0 l1 k0 k1 c0 c1 cells hon hls hr hup0 hup1 _ hfirst hr0 hr1 hcells hidle
    obtain ⟨d1, d2, h0, h1, hread⟩ := pair_reads s.straps ⟨hup0.1, hup0.2⟩ ⟨hup1.1, hup1.2⟩ hfirst hr0 hr1
    exact pair_idle ⟨hon, hls, hr, _, _, d1, d2, h0, h1, hcells, hread⟩ hidle
  case rsp =>
    intro s x r b0 b1 l0 l1 k0 k1 c0 c1 c cells hon hls hr hup0 hup1 _ hfirst hr0 hr1 hcells hidle hc ht hlen hopen
    obtain ⟨d1, d2, h0, h1, hread⟩ := pair_reads s.straps ⟨hup0.1, hup0.2⟩ ⟨hup1.1, hup1.2⟩ hfirst hr0 hr1
    exact pair_rsp ⟨hon, hls, hr, _, _, d1, d2, h0, h1, hcells, hread⟩ hidle hc ht hlen hopen
  case relayed =>
    intro s x r hon hx hls hacross hr _ htone hfwd hown hline
    obtain ⟨t, l0, l1, ht, honly, hout, -⟩ := pair_relayed (r := r) ⟨hon, hx, hls, hr, hacross, htone, hfwd⟩ hline
      (cells := []) (by simp) (by rw [hown]; rfl) (ownTaken_nothing ..) (by simp)
    refine ⟨t, ht, honly, ?_⟩
    rw [hout, List.drop_left]
    rfl
  case kept =>
    intro s x r hon hx hls hacross hr _ htone hfwd hline
    exact pair_kept ⟨hon, hx, hls, hr, hacross, htone, hfwd⟩ hline
  case event =>
    intro s r q e hon hls hr _ htone hfwd hown he hq hline
    have hrelays : Relays 1 s := ⟨hon, by decide, hls.2, hr, hls.1, htone, hfwd⟩
    obtain ⟨t, l0, l1, ht, honly, hseq, hrest, hout⟩ := pair_sendsEvent (r := r) hrelays hline hown he hq
    refine ⟨t, ht, honly, hseq, hrest, ?_⟩
    rw [hout, List.drop_left]
    rfl
  case witness =>
    intro s x hon hx hen hls hacross hdue
    exact witnessSend_waits hon hx hen hls hacross hdue
  case eventSend =>
    intro s q hon hfull hsent hnext hold hok hsev hacc hls0 hls1 hown htone
    exact eventSend_waits hon hfull hsent hnext hold hok hsev hacc hls0 hls1 hown htone
  case timeout =>
    intro s x r hon hopen hlate
    exact reassembly_ends hon hopen hlate

end Sys2Proof.Machine
end

section
/-! SUPPORT. A counterexample to the statement of the wall clock: a PPS_IN edge that is followed by a step back, while a flip
waits beyond the horizon that the step leaves (R188, R192, R206). -/

namespace Sys2Proof.Machine

section
variable {d : Dev} {st : Straps} {delta t : Int} {s : State}

/-- A correction that SLEW_PPM gives no rate to is applied as a step (R188). -/
theorem correct_of_slewPpm_zero (hrate : d.get TIME_CTRL_SLEW_PPM = 0) (hdelta : delta ≠ 0) :
    d.correct st delta = d.stepBy st delta := by
  have hslow : d.slewRate delta < ppmTrim 1 := by
    calc d.slewRate delta ≤ ppmTrim (d.get TIME_CTRL_SLEW_PPM) := min_le_left _ _
      _ = 0 := by rw [hrate]; rfl
      _ < ppmTrim 1 := by decide
  simp [Dev.correct, hslow, hdelta]

/-- A step to `t` leaves the earliest queued flip more than 1 s beyond the horizon (R206). -/
def Dev.strandedBy (t : Int) (d : Dev) : Prop :=
  ∃ f ∈ d.host.queue.head?, (d.time.clk.at_ t).sec * giga + (d.time.clk.at_ t).ns + 2 * giga < f.present

/-- A step back that strands the queue flushes it, and no change of mode is pending any more (R206). -/
theorem stepTo_flushes (hs : st.role = .sender) (hback : t < d.time.clk.whole) (hfar : d.strandedBy t) :
    (d.stepTo st t).get RING_FLIP_MODE_NEXT = 0xFF := by
  obtain ⟨f, hf, hlate⟩ := hfar
  obtain ⟨fs, hqueue⟩ := List.head?_eq_some_iff.mp hf
  simp only [Dev.stepTo, hs, Dev.queueAfterStep, decide_eq_false (not_le.mpr hback), Bool.false_eq_true, if_false,
    Dev.event_host, Dev.setAll_host, hqueue, Dev.now, Dev.event_time, Dev.setAll_time, if_pos hlate]
  exact Dev.get_set_same _ RING_FLIP_MODE_NEXT 0xFF (by decide)

/-- The events of a command leave the pending mode as it is. -/
theorem finish_modeNext (d : Dev) : d.finish.get RING_FLIP_MODE_NEXT = d.get RING_FLIP_MODE_NEXT :=
  ((Dev.Only.refl [.queue] [.field REC_LOST_CNT_COUNT] d).finish (by simp) (.inl (by simp))).get_eq _
    (by simp [Area.has, RING_FLIP_MODE_NEXT, RING_FLIP_MODE, REC_LOST_CNT_COUNT, REC_LOST_CNT])

/-- A PPS_IN edge less than 0.5 s into the second steps the clock back where SLEW_PPM gives no rate (R188, R192); if that
strands the queue, no change of mode is pending any more. -/
theorem ppsInEdge_flushes (hon : senderOn s) (hsrc : s.dev.get TIME_CTRL_SRC = SRC_PPS)
    (hstate : s.dev.get TIME_STAT_STATE ≠ T_FREE) (hrate : s.dev.get TIME_CTRL_SLEW_PPM = 0)
    (hns : 0 < s.dev.time.clk.ns ∧ s.dev.time.clk.ns < giga / 2)
    (hfar : s.dev.strandedBy (s.dev.time.clk.whole + -(s.dev.time.clk.ns : Int) * 2 ^ 32)) :
    AnswersWith (exec .ppsInEdge s) fun t => t.dev.get RING_FLIP_MODE_NEXT = 0xFF := by
  obtain ⟨hpos, hlt⟩ := hns
  refine ⟨_, runSender_pos hon, ?_⟩
  change Dev.get (Dev.finish _) _ = _
  rw [finish_modeNext]
  simp only [hsrc, bne_self_eq_false, Bool.false_eq_true, if_false, if_pos hlt, Dev.timeState, beq_eq_false_iff_ne.mpr hstate]
  rw [Dev.get_set_ne _ _ _ _ (.inl (by decide)), correct_of_slewPpm_zero _ (by omega)]
  · exact stepTo_flushes hon.1 (by simp; omega) (by simpa [Dev.strandedBy] using hfar)
  · have hstamp := get_setAll_apart (d := s.dev) (g := TIME_CTRL_SLEW_PPM)
      [(TIME_PPSIN_NS, s.dev.time.clk.ns), (TIME_PPSIN_NEW, 1)]
      (by simp [Fld.apart, TIME_PPSIN_NS, TIME_PPSIN_NEW, TIME_CTRL_SLEW_PPM, TIME_PPSIN, TIME_CTRL])
    exact (get_setAll_apart _ (by simp [Fld.apart, TIME_STAT_SEL, TIME_TRIM_TRIM, TIME_CTRL_SLEW_PPM, TIME_STAT, TIME_TRIM,
      TIME_CTRL])).trans (hstamp.trans hrate)

end

/-- A change to mode 0 whose flip is to be presented at 3 s. -/
def flipAtThreeSeconds : Flip :=
  { index := 0, header := [], layers := [], guards := [], mode := 0, present := 3 * giga, modeChange := true, deferred := 0,
    launched := none, closed := false, ended := false, ports := [], dropped := false }

/-- A sender on PPS, LOCKED, 5 ns after its start, with that flip queued and SLEW_PPM at its reserved encoding 0. -/
def senderFlipAhead : State :=
  let s := senderWith { HostSt.init with queue := [flipAtThreeSeconds] } State.reset.dev.ports
  let d := { s.dev with time.clk.ns := 5 }
  { s with dev := d.setAll [(TIME_CTRL_SRC, SRC_PPS), (TIME_CTRL_SLEW_PPM, 0), (TIME_STAT_STATE, T_LOCKED),
      (RING_FLIP_MODE_NEXT, 0)] }

theorem strandedBy_senderFlipAhead :
    senderFlipAhead.dev.strandedBy (senderFlipAhead.dev.time.clk.whole + -(senderFlipAhead.dev.time.clk.ns : Int) * 2 ^ 32) :=
  ⟨flipAtThreeSeconds, rfl, by decide +kernel⟩

/-- Refutes O36: its seventeenth clause, of a PPS_IN edge in the first 1 ms of a second, has no premise that the queue of flips
is empty, nor that SLEW_PPM leaves a rate. In `senderFlipAhead` the edge steps the clock back by 5 ns, which flushes the queue
(R206) and sets RING_FLIP_MODE.NEXT to 0xFF, where the clause lets, beside the count of lost events, only TIME_PPSIN, TIME_STAT
and TIME_TRIM change. SLEW_PPM of 0 is a reserved encoding (R209). -/
theorem not_wallClock : ¬ Obligations.WallClock := by
  unfold Obligations.WallClock
  rintro ⟨-, -, -, -, -, -, -, -, -, -, -, -, -, -, -, -, hedge, -⟩
  have hon : senderOn senderFlipAhead := by decide +kernel
  have hsrc : senderFlipAhead.dev.get TIME_CTRL_SRC = SRC_PPS := by decide +kernel
  have hstate : senderFlipAhead.dev.get TIME_STAT_STATE ≠ T_FREE := by decide +kernel
  obtain ⟨t, ht, ⟨-, -, hframe⟩, -⟩ := hedge senderFlipAhead hon hsrc hstate (by decide +kernel)
  obtain ⟨u, hu, hflushed⟩ := ppsInEdge_flushes hon hsrc hstate (by decide +kernel) (by decide +kernel) strandedBy_senderFlipAhead
  obtain rfl : t = u := Host.Outcome.next.inj (ht.symm.trans hu)
  rw [hframe.get_eq _ (by simp [Area.has, RING_FLIP_MODE_NEXT, RING_FLIP_MODE, REC_LOST_CNT_COUNT, REC_LOST_CNT, TIME_PPSIN,
    TIME_STAT, TIME_TRIM])] at hflushed
  exact absurd hflushed (by decide +kernel)

end Sys2Proof.Machine
end

section
/-! SUPPORT. A counterexample to the statement of the PTP instances: an instance in LISTENING, with no time-transmitter selected,
that still holds a granted interval (R189, R190). -/

namespace Sys2Proof.Machine

/-- An Announce of the time-transmitter 9 that the instances of a sender take after reset: untagged, over Ethernet, in domain
127, once a second. -/
def announceOfNine : Announce :=
  { wire := { udp := false, vlan := none, domain := 127 }, source := 9, priority1 := 1, clockClass := 2, clockAccuracy := 3,
    variance := 4, priority2 := 5, grandmaster := 6, stepsRemoved := 1, utcOffset := 37, logInterval := 0 }

/-- A sender with SRC = HOST, whose instance 0 is LISTENING and has heard no Announce, and has a granted interval of 2 s. -/
def senderGranted : State :=
  let s := senderWith HostSt.init State.reset.dev.ports
  let d := { s.dev with time.inst := [{ PtpInst.init with granted := some 1 }, PtpInst.init] }
  { s with dev := d.setAll [(TIME_CTRL_SRC, SRC_HOST), (TIME_PTP_STAT_STATE 0, PTP_LISTENING)] }

/-- The Announce that selects a time-transmitter keeps the granted interval, which only a return to LISTENING discards. -/
theorem granted_ptpAnnounceReceive_senderGranted :
    nextDev (fun d => (d.ptp 0).granted) (exec (.ptpAnnounceReceive 0 announceOfNine) senderGranted) = some (some 1) := by
  decide +kernel

/-- Refutes O38: its third clause has no premise that a LISTENING instance holds no granted interval. In `senderGranted` no
time-transmitter is selected, so the clause asks that the interval be gone when `announceOfNine` selects one, and the model
keeps it; it drops the interval where an instance returns to LISTENING (`Dev.ptpListen`). -/
theorem not_ptpInstances : ¬ Obligations.PtpInstances := by
  unfold Obligations.PtpInstances
  rintro ⟨-, -, hannounce, -⟩
  obtain ⟨t, ht, -, -, -, -, -, -, -, hgranted, -⟩ := hannounce senderGranted 0 announceOfNine (by decide +kernel)
    (by decide +kernel) (by decide +kernel) (by decide +kernel) (by decide +kernel) (by decide +kernel) (by decide +kernel)
    (by decide +kernel) (by decide +kernel)
  have hafter := granted_ptpAnnounceReceive_senderGranted
  rw [ht] at hafter
  have hkept : (t.dev.ptp 0).granted = some 1 := Option.some.inj hafter
  have hgone : (t.dev.ptp 0).granted = none := hgranted (by decide +kernel)
  exact absurd (hkept.symm.trans hgone) (by decide)

end Sys2Proof.Machine
end

section
/-! SUPPORT. A counterexample to the statement of the footprint changes: a switch that makes the footprint's mapping differ from
that of the coefficient set in force (R235), which the tile remembers in a part that the statement does not let change. -/

namespace Sys2Proof.Machine

/-- A coefficient set measured for RGB lamps (MAP = 0) with KNEE_LOG2 = 8, 0 elsewhere, and this SET_CRC (R234). -/
def rgbSetWith (crc : Nat) : List Byte := [1, 0, 0, 0, 0, 0, 8, 0] ++ zeros 52 ++ leBytes crc 4 ++ zeros (coefLength - 64)

/-- The coefficient slot A with that set, committed (R236, R340). -/
def rgbSlot : NvmSlot :=
  let bytes := rgbSetWith (crc32c (rgbSetWith 0))
  { bytes := bytes, written := 0, commit := recordBytes NK_COEF 0 1 bytes.length (sha256 bytes), prior := [] }

/-- A tile with that set active, at the AT of 50 ms of a footprint change to the mono mapping (CMP_FP_NEXT1.MAP = 1). The
mapping in force has been RGB, as the set's is. -/
def tileTurnsMono : State :=
  tileAt fun d =>
    { d with time.clk.ns := 50000000, nvm.coef := [rgbSlot, NvmSlot.empty], nvm.coefSeq := [(1, 1), (0, 0)] }.setAll
      [(COR_STAT_ACTIVE, 0), (CMP_FP_NEXT1_EN, 1), (CMP_FP_NEXT1_MAP, 1), (CMP_FP_AT_NS_NS, 50000000), (CMP_FP_ARM_PEND, 1)]

/-- The switch produces the mismatch of R235, and the tile remembers it, so as to record COR_MAP_MISMATCH once. -/
theorem mapBad_footprintSwitch_tileTurnsMono :
    nextDev (fun d => d.tile.mapBad) (exec .footprintSwitch tileTurnsMono) = some true := by decide +kernel

/-- Refutes O27: the frame of its third clause does not list the tile's part, and in `tileTurnsMono` the switch makes MAP of the
footprint in force differ from MAP of the active set, which the model keeps in `tile.mapBad` (`Dev.noteMap`). The clause says
that it stays false. -/
theorem not_footprintChanges : ¬ Obligations.FootprintChanges := by
  unfold Obligations.FootprintChanges
  rintro ⟨-, -, hswitch, -⟩
  obtain ⟨t, ht, ⟨-, -, hframe⟩, -⟩ := hswitch tileTurnsMono (by decide +kernel) (by decide +kernel) (by decide +kernel)
  have htile : t.dev.tile = tileTurnsMono.dev.tile := tile_of_only hframe (by simp) (by simp)
  have hafter := mapBad_footprintSwitch_tileTurnsMono
  rw [ht, nextDev, htile] at hafter
  exact absurd (Option.some.inj hafter) (by decide +kernel)

end Sys2Proof.Machine
end

section
/-! SUPPORT. A counterexample to the statement of the coefficient sets: a set switch that makes MAP of the set in force differ
from the mapping of the footprint (R235, R238), which the tile remembers in a part that the statement says stays. -/

namespace Sys2Proof.Machine

section
variable {s : State} (st : Straps) (d : Dev)

/-! What a switch of sets remembers. -/

theorem finish_tile : d.finish.tile = d.tile :=
  tile_of_only ((Dev.Only.refl [.queue] [.field REC_LOST_CNT_COUNT] d).finish (by simp) (.inl (by simp))) (by simp) (by simp)

theorem noteMap_mapBad : (d.noteMap st).tile.mapBad = d.mapDiffers := by
  simp only [Dev.noteMap]
  split <;> rfl

theorem noteCanvas_tile : (d.noteCanvas st).tile = d.tile := by
  unfold Dev.noteCanvas
  split
  · split <;> rfl
  · rfl

theorem showCoef_time : d.showCoef.time = d.time := by
  have hclk : d.showCoef.time.clk = d.time.clk := (showCoef_only d).1 .clock (by simp)
  have hrest : { d.showCoef.time with clk := d.time.clk } = d.time := (showCoef_only d).1 .time (by simp)
  rwa [← hclk] at hrest

/-- Where the fields that show the slots lie, and READY: bits 2 and 3 of COR_STAT, and the registers of the slots. -/
theorem coefAreas_has {x : Area} {a k : Nat} (hx : x ∈ coefAreas) (hk : x.has a k) :
    (a = COR_STAT ∧ (k = 2 ∨ k = 3)) ∨ (COR_SLOT_ID 0 ≤ a ∧ a ≤ COR_SLOT_SEQ 1) := by
  simp only [coefAreas, List.mem_cons, List.not_mem_nil, or_false] at hx
  rcases hx with rfl | rfl | rfl | rfl | rfl | rfl <;>
    simp only [Area.has, COR_STAT_READY, COR_STAT_STAGED, COR_STAT, COR_SLOT_ID, COR_SLOT_SEQ] at hk ⊢ <;> omega

theorem showCoef_rd (a : Nat) (ha : a ≠ COR_STAT) (hslot : a < COR_SLOT_ID 0 ∨ COR_SLOT_SEQ 1 < a) :
    d.showCoef.rd a = d.rd a :=
  (showCoef_only d).rd_eq fun _ hx k hk => by
    have hin := coefAreas_has hx hk
    omega

theorem showCoef_get (f : Fld) (ha : f.addr ≠ COR_STAT) (hslot : f.addr < COR_SLOT_ID 0 ∨ COR_SLOT_SEQ 1 < f.addr) :
    d.showCoef.get f = d.get f := by rw [Dev.get, showCoef_rd d f.addr ha hslot, Dev.get]

theorem showCoef_getStat (f : Fld) (ha : f.addr = COR_STAT) (hbits : f.lo + f.width ≤ 2 ∨ 4 ≤ f.lo) :
    d.showCoef.get f = d.get f :=
  (showCoef_only d).get_bits f fun _ hx k _ _ hk => by
    have hin := coefAreas_has hx hk
    simp only [ha, COR_STAT, COR_SLOT_ID, COR_SLOT_SEQ] at hin
    omega

theorem showCoef_slotFor (t : Nat) : d.showCoef.slotFor t = d.slotFor t := by
  have hactive := showCoef_getStat d COR_STAT_ACTIVE (by decide) (by decide)
  have hpend := showCoef_getStat d COR_STAT_PEND (by decide) (by decide)
  have hns := showCoef_get d COR_AT_NS_NS (by decide) (by decide)
  have hsl := showCoef_get d COR_AT_SL_S (by decide) (by decide)
  have hsh := showCoef_get d COR_AT_SH_S (by decide) (by decide)
  unfold Dev.slotFor Dev.getb Dev.timeOf
  rw [hactive, hpend, hns, hsl, hsh, showCoef_tile]

theorem showCoef_footprintFor (t : Nat) : d.showCoef.footprintFor t = d.footprintFor t := by
  have harm := showCoef_get d CMP_FP_ARM_PEND (by decide) (by decide)
  have hns := showCoef_get d CMP_FP_AT_NS_NS (by decide) (by decide)
  have hsl := showCoef_get d CMP_FP_AT_SL_S (by decide) (by decide)
  have hsh := showCoef_get d CMP_FP_AT_SH_S (by decide) (by decide)
  have hnext : d.showCoef.fpNext t = d.fpNext t := by
    unfold Dev.fpNext Dev.getb Dev.fpAt Dev.timeOf
    rw [harm, hns, hsl, hsh]
  unfold Dev.footprintFor Dev.footWords
  rw [hnext, showCoef_rd d CMP_FP_NEXT0 (by decide) (by decide), showCoef_rd d CMP_FP_NEXT1 (by decide) (by decide),
    showCoef_rd d CMP_FP_CUR0 (by decide) (by decide), showCoef_rd d CMP_FP_CUR1 (by decide) (by decide)]

theorem showCoef_mapDiffers : d.showCoef.mapDiffers = d.mapDiffers := by
  have hnow : d.showCoef.now = d.now := by rw [Dev.now, showCoef_time, Dev.now]
  simp only [Dev.mapDiffers, Dev.coefSet, Dev.coefBytes, hnow, showCoef_slotFor, showCoef_footprintFor, showCoef_nvm]

theorem event_mapDiffers (e : EvCode) (p0 p1 p2 : Nat) : (d.event st e p0 p1 p2).mapDiffers = d.mapDiffers := rfl

/-- The staged set is in force, and its activation sequence waits to be written (R238). -/
def Dev.takeStaged : Dev :=
  { d with tile.actCommit := some d.ticks }.setAll
    [(COR_STAT_ACTIVE, d.tile.staged), (COR_STAT_PEND, 0), (COR_STAT_READY, 0)]

/-- At AT an armed switch takes the staged set and notes what it no longer matches. -/
theorem exec_coefSetSwitch (hon : tileOn s) (hpend : s.dev.get COR_STAT_PEND = 1) (hat : s.dev.corAt ≤ s.dev.now) :
    exec .coefSetSwitch s = run (fun st d =>
      ((d.takeStaged.showCoef.event st EV_COR_SET_SWITCH 0 0 0).noteMap st).noteCanvas st) s := by
  change execCoefSetSwitch s = _
  unfold execCoefSetSwitch
  rw [runIf_pos (by simp [isTile_of_on hon, awake_of_on hon.2, Dev.getb, hpend, hat])]
  rfl

/-- The switch remembers whether the new set's mapping differs from the footprint's. -/
theorem mapBad_coefSetSwitch (hon : tileOn s) (hpend : s.dev.get COR_STAT_PEND = 1) (hat : s.dev.corAt ≤ s.dev.now) :
    nextDev (fun d => d.tile.mapBad) (exec .coefSetSwitch s) = some s.dev.takeStaged.mapDiffers := by
  rw [exec_coefSetSwitch hon hpend hat, run, nextDev, finish_tile, noteCanvas_tile, noteMap_mapBad, event_mapDiffers,
    showCoef_mapDiffers]

end

/-- A mono tile without an active set, at the AT of 50 ms of the switch to `rgbSlot`, staged in slot A and loaded. -/
def monoTileTakesRgb : State :=
  tileAt fun d =>
    { d with time.clk.ns := 50000000, nvm.coef := [rgbSlot, NvmSlot.empty], nvm.coefSeq := [(1, 0), (0, 0)] }.setAll
      [(COR_STAT_ACTIVE, 3), (COR_STAT_READY, 1), (COR_STAT_PEND, 1), (COR_AT_NS_NS, 50000000), (CMP_FP_CUR1_EN, 1),
        (CMP_FP_CUR1_MAP, 1)]

/-- Refutes O28: its fourth clause says that of the tile's part the switch changes `actCommit` alone. In `monoTileTakesRgb` the
switch makes MAP of the set in force differ from MAP of the footprint, which the model keeps in `tile.mapBad` (`Dev.noteMap`)
so as to record COR_MAP_MISMATCH once; the clause says that it stays false. -/
theorem not_coefficientSets : ¬ Obligations.CoefficientSets := by
  unfold Obligations.CoefficientSets
  rintro ⟨-, -, -, hswitch, -⟩
  have hon : tileOn monoTileTakesRgb := by decide +kernel
  have hpend : monoTileTakesRgb.dev.get COR_STAT_PEND = 1 := by decide +kernel
  have hat : monoTileTakesRgb.dev.corAt ≤ monoTileTakesRgb.dev.now := by decide +kernel
  obtain ⟨t, ht, -, -, -, -, htile, -⟩ := hswitch monoTileTakesRgb hon hpend hat (by decide +kernel)
  have hdiffers : monoTileTakesRgb.dev.takeStaged.mapDiffers = true := by decide +kernel
  have hafter := mapBad_coefSetSwitch hon hpend hat
  rw [ht, nextDev, htile, hdiffers] at hafter
  have hkept : monoTileTakesRgb.dev.tile.mapBad = true := Option.some.inj hafter
  exact absurd hkept (by decide +kernel)

end Sys2Proof.Machine
end

section
/-! SUPPORT. Fades (R249): the arm by its two outcomes, the start with the GRY_LEVEL writes that it settles, the end, and the
statement. -/

namespace Sys2Proof.Machine

section
variable {d : Dev} {s : State} {init : Initiator} {f : Nat × Nat × Nat × Nat}

/-! The arm. -/

theorem fadeValuesOk_iff {tgt dur : Nat} :
    fadeValuesOk tgt dur = true ↔ tgt ≤ darkLevel ∧ (dur = 0 ∨ 10 ≤ dur ∧ dur ≤ 60000) := by
  simp only [fadeValuesOk, Bool.and_eq_true, Bool.or_eq_true, decide_eq_true_eq, beq_iff_eq]

theorem fadeStart_of_idle (hidle : d.tile.fadeRun = none) : d.fadeStart = d.get GRY_LEVEL_LVL := by
  rw [Dev.fadeStart, hidle]

theorem opFadeArm_arms (hat : d.now + armMargin ≤ d.fadeAt)
    (hok : fadeValuesOk (d.get GRY_FADE_TGT) (d.get GRY_FADE_DUR_MS) = true) :
    d.opFadeArm =
      { d with tile.fadePend := some (d.fadeStart, d.get GRY_FADE_TGT, d.fadeAt, d.get GRY_FADE_DUR_MS) }.set
        GRY_FADE_ARM_PEND 1 := by
  rw [Dev.opFadeArm, if_neg (by simp [hok, hat])]

theorem opFadeArm_late (h : d.fadeAt < d.now + armMargin ∨
    fadeValuesOk (d.get GRY_FADE_TGT) (d.get GRY_FADE_DUR_MS) = false) : d.opFadeArm = d.set GRY_FADE_ARM_LATE 1 := by
  rw [Dev.opFadeArm, if_pos (by simpa using h)]

/-- A write of GRY_FADE_ARM by an initiator that may make it arms at a running tile. -/
theorem exec_fadeArm (hon : tileOn s) (hmay : mayWrite s.straps init s.dev = true) :
    exec (.fadeArm init) s = run (fun _ d => d.opFadeArm) s := by
  change execFadeArm init s = _
  exact runBy_pos hon.2 hmay (isTile_of_on hon)

theorem fadeArm_arms (hon : tileOn s) (hmay : mayWrite s.straps init s.dev = true)
    (hat : s.dev.now + armMargin ≤ s.dev.fadeAt)
    (hok : fadeValuesOk (s.dev.get GRY_FADE_TGT) (s.dev.get GRY_FADE_DUR_MS) = true) (hidle : s.dev.tile.fadeRun = none) :
    AnswersWith (exec (.fadeArm init) s) fun t =>
      Only [.tile] [.field GRY_FADE_ARM_PEND] s t ∧ t.dev.get GRY_FADE_ARM_PEND = 1 ∧ t.dev.tile = { s.dev.tile with
        fadePend := some (s.dev.get GRY_LEVEL_LVL, s.dev.get GRY_FADE_TGT, s.dev.fadeAt, s.dev.get GRY_FADE_DUR_MS) } := by
  have hdev := opFadeArm_arms hat hok
  rw [exec_fadeArm hon hmay]
  refine run_quiet_with hon.2.2 ?_ (by simp) ?_ <;> simp only [hdev]
  · refine .set _ _ (by simp) ?_
    exact only_tile _ _ s.dev rfl rfl
  · exact ⟨Dev.get_set_same _ _ _ (by decide), by rw [Dev.set_tile, fadeStart_of_idle hidle]⟩

theorem fadeArm_late (hon : tileOn s) (hmay : mayWrite s.straps init s.dev = true)
    (h : s.dev.fadeAt < s.dev.now + armMargin ∨
      fadeValuesOk (s.dev.get GRY_FADE_TGT) (s.dev.get GRY_FADE_DUR_MS) = false) :
    AnswersWith (exec (.fadeArm init) s) fun t =>
      Only [] [.field GRY_FADE_ARM_LATE] s t ∧ t.dev.get GRY_FADE_ARM_LATE = 1 := by
  have hdev := opFadeArm_late h
  rw [exec_fadeArm hon hmay]
  refine run_quiet_with hon.2.2 ?_ (by simp) ?_ <;> simp only [hdev]
  · exact (Dev.Only.refl _ _ s.dev).set _ _ (by simp)
  · exact Dev.get_set_same _ _ _ (by decide)

/-! The start. -/

/-- GRY_LEVEL shows the value last written, so its writes come into force in the tile's part alone. -/
theorem enforce_level (d : Dev) (v : Word) :
    d.enforce GRY_LEVEL v = { d with tile.eff := Cells.write regReset d.tile.eff GRY_LEVEL v } := by
  rw [Dev.enforce, if_neg (by decide)]

theorem each_enforce_level (ws : List LateWrite) (hws : ∀ w ∈ ws, w.addr = GRY_LEVEL) (d : Dev) :
    ∃ eff, d.each ws (fun d w => d.enforce w.addr w.value) = { d with tile.eff := eff } := by
  unfold Dev.each
  induction ws generalizing d with
  | nil => exact ⟨d.tile.eff, rfl⟩
  | cons w ws ih =>
    obtain ⟨hw, hrest⟩ := List.forall_mem_cons.mp hws
    rw [List.foldl_cons, hw, enforce_level]
    exact ih hrest _

/-- The writes that wait and the values in force are all that settling GRY_LEVEL changes. -/
theorem settleLevel_parts (d : Dev) : ∃ late eff, d.settleLevel = { d with tile.late := late, tile.eff := eff } := by
  obtain ⟨eff, heff⟩ := each_enforce_level (d.tile.late.filter fun w => w.addr == GRY_LEVEL)
    (fun w hw => by simpa using (List.mem_filter.mp hw).2)
    { d with tile.late := d.tile.late.filter fun w => w.addr != GRY_LEVEL }
  exact ⟨_, eff, heff⟩

/-- At AT the armed fade is the one that runs. -/
def Dev.fadeBegun (f : Nat × Nat × Nat × Nat) (d : Dev) : Dev :=
  { d.settleLevel with tile.fadePend := none, tile.fadeRun := some f }.setAll [(GRY_FADE_ARM_PEND, 0), (GRY_FADE_ARM_RUN, 1)]

theorem exec_fadeStart (hon : tileOn s) (hpend : s.dev.tile.fadePend = some f) (hat : f.2.2.1 ≤ s.dev.now) :
    exec .fadeStart s = run (fun _ d => d.fadeBegun f) s := by
  change execFadeStart s = _
  rw [execFadeStart, runTile_pos hon]
  exact run_congr (by simp only [hpend, if_pos hat, Dev.fadeBegun])

theorem fadeBegun_only (f : Nat × Nat × Nat × Nat) (d : Dev) :
    d.Only [.tile] [.field GRY_FADE_ARM_PEND, .field GRY_FADE_ARM_RUN] (d.fadeBegun f) := by
  obtain ⟨late, eff, hsettle⟩ := settleLevel_parts d
  rw [Dev.fadeBegun, hsettle]
  refine .setAll _ (by simp) ?_
  exact only_tile _ _ d rfl rfl

theorem fadeStart_runs (hon : tileOn s) (hpend : s.dev.tile.fadePend = some f) (hat : f.2.2.1 ≤ s.dev.now) :
    AnswersWith (exec .fadeStart s) fun t =>
      Only [.tile] [.field GRY_FADE_ARM_PEND, .field GRY_FADE_ARM_RUN] s t ∧ t.dev.get GRY_FADE_ARM_PEND = 0 ∧
      t.dev.get GRY_FADE_ARM_RUN = 1 ∧ t.dev.tile.fadePend = none ∧ t.dev.tile.fadeRun = some f := by
  rw [exec_fadeStart hon hpend hat]
  refine run_quiet_with hon.2.2 (fadeBegun_only f s.dev) (by simp) ⟨?_, ?_, rfl, rfl⟩
  · exact get_setAll [] [(GRY_FADE_ARM_RUN, 1)] (by decide) (by simp [Fld.apart, GRY_FADE_ARM_PEND, GRY_FADE_ARM_RUN])
  · exact get_setAll [(GRY_FADE_ARM_PEND, 0)] [] (by decide) (by simp)

theorem exec_fadeStart_of_unarmed (hon : tileOn s) (hpend : s.dev.tile.fadePend = none) : exec .fadeStart s = .next s := by
  change execFadeStart s = _
  rw [execFadeStart, runTile_pos hon, run]
  simp only [hpend, Dev.finish_of_settled _ hon.2.2]

/-! The end. -/

/-- At AT + DUR the level is the target, and no fade runs. -/
def Dev.fadeOver (level : Nat) (d : Dev) : Dev := d.setAll [(GRY_LEVEL_LVL, level), (GRY_FADE_ARM_RUN, 0)]

theorem exec_fadeEnd (hon : tileOn s) (hfade : s.dev.tile.fadeRun = some f) (hrun : s.dev.get GRY_FADE_ARM_RUN = 1)
    (hover : f.2.2.1 + f.2.2.2 * 1000000 ≤ s.dev.now) :
    exec .fadeEnd s = run (fun st _ => (s.dev.fadeOver f.2.1).event st EV_GRY_FADE_DONE 0 0 0) s := by
  change execFadeEnd s = _
  rw [execFadeEnd, runTile_pos hon]
  exact run_congr (by simp [hfade, Dev.getb, hrun, hover, Dev.fadeOver])

theorem fadeOver_only (level : Nat) (d : Dev) :
    d.Only [] [.field GRY_LEVEL_LVL, .field GRY_FADE_ARM_RUN] (d.fadeOver level) :=
  (Dev.Only.refl _ _ d).setAll _ (by simp)

theorem fadeEnd_records (hon : tileOn s) (hfade : s.dev.tile.fadeRun = some f) (hrun : s.dev.get GRY_FADE_ARM_RUN = 1)
    (hlevel : f.2.1 ≤ darkLevel) (hover : f.2.2.1 + f.2.2.2 * 1000000 ≤ s.dev.now) :
    AnswersWith (exec .fadeEnd s) fun t =>
      OnlyLogging [] [.field GRY_LEVEL_LVL, .field GRY_FADE_ARM_RUN] s t ∧ t.dev.get GRY_LEVEL_LVL = f.2.1 ∧
      t.dev.get GRY_FADE_ARM_RUN = 0 ∧ Logs [(EV_GRY_FADE_DONE.code, 0, 0, 0)] s t := by
  have hfits : f.2.1 < 2 ^ GRY_LEVEL_LVL.width := Nat.lt_of_le_of_lt hlevel (by decide)
  rw [exec_fadeEnd hon hfade hrun hover]
  obtain ⟨t, ht, honly, hlogs, hkeep⟩ :=
    run_records EV_GRY_FADE_DONE 0 0 0 hon.2.2 (fadeOver_only f.2.1 s.dev) (by simp)
  refine ⟨t, ht, honly, ?_, ?_, hlogs⟩
  · rw [hkeep.get_eq _ (by simp [Area.has, GRY_LEVEL_LVL, GRY_LEVEL, REC_LOST_CNT_COUNT, REC_LOST_CNT])]
    exact (get_setAll [] [(GRY_FADE_ARM_RUN, 0)] (by decide)
      (by simp [Fld.apart, GRY_LEVEL_LVL, GRY_LEVEL, GRY_FADE_ARM_RUN, GRY_FADE_ARM])).trans (Nat.mod_eq_of_lt hfits)
  · rw [hkeep.get_eq _ (by simp [Area.has, GRY_FADE_ARM_RUN, GRY_FADE_ARM, REC_LOST_CNT_COUNT, REC_LOST_CNT])]
    exact get_setAll [(GRY_LEVEL_LVL, f.2.1)] [] (by decide) (by simp)

theorem exec_fadeEnd_of_idle (hon : tileOn s) (hfade : s.dev.tile.fadeRun = none) : exec .fadeEnd s = .next s := by
  change execFadeEnd s = _
  rw [execFadeEnd, runTile_pos hon, run]
  simp only [hfade, Dev.finish_of_settled _ hon.2.2]

end

/-- Settles O26, clause by clause: an arm is accepted exactly by the margin and by `fadeValuesOk_iff`; a start leaves all but
the tile's part alone, since what `Dev.settleLevel` brings into force lies there; an end is an effect with one event. -/
theorem fades : Obligations.Fades := by
  unfold Obligations.Fades
  refine ⟨fun s init hon hmay hat htgt hdur hidle => ?_, fun s init hon hmay hbad => ?_,
    fun s f hon hpend hat => fadeStart_runs hon hpend hat,
    fun s f hon hfade hrun hlevel hover => fadeEnd_records hon hfade hrun hlevel hover,
    fun s hon hpend hidle => ⟨exec_fadeStart_of_unarmed hon hpend, exec_fadeEnd_of_idle hon hidle⟩⟩
  · exact fadeArm_arms hon hmay hat (fadeValuesOk_iff.mpr ⟨htgt, hdur⟩) hidle
  · refine fadeArm_late hon hmay (hbad.imp_right fun hvalues => ?_)
    rw [Bool.eq_false_iff, ne_eq, fadeValuesOk_iff, darkLevel]
    omega

end Sys2Proof.Machine
end

section
/-! SUPPORT. The lamp tests: what a result makes of the diagnosis (R265, R267, R268), a step made for each of a list of columns, and
the outcome of LAMP_TEST. -/

namespace Sys2Proof.Machine

section
variable {d e : Dev} {s : State} {st : Straps} {codes : List Nat} {i c : Nat}

/-! A step for each of a list. -/

/-- What every step leaves alone is the same after all of them. -/
theorem each_eq {α β : Type} {φ : Dev → β} {f : Dev → α → Dev} (l : List α) (h : ∀ d, ∀ x ∈ l, φ (f d x) = φ d) (d : Dev) :
    φ (d.each l f) = φ d := by
  induction l generalizing d with
  | nil => rfl
  | cons x l ih => exact (ih (fun d y hy => h d y (.tail _ hy)) _).trans (h d x (.head _))

/-- What only the step of `x` changes is, after all of them, as that step leaves it. -/
theorem each_visit {α β : Type} {φ : Dev → β} {f : Dev → α → Dev} {l : List α} {x : α} (hnodup : l.Nodup) (hx : x ∈ l)
    (hother : ∀ d y, y ≠ x → φ (f d y) = φ d) (d : Dev) : ∃ before, φ (d.each l f) = φ (f (d.each before f) x) := by
  obtain ⟨before, behind, rfl⟩ := List.append_of_mem hx
  have hbehind : x ∉ behind := (List.nodup_cons.mp hnodup.of_append_right).1
  refine ⟨before, ?_⟩
  rw [each_append]
  exact each_eq behind (fun d y hy => hother d y fun hyx => hbehind (hyx ▸ hy)) _

/-! What a test may change. -/

/-- The device without what the tests find and the events of the step; the forced masks stay. -/
def Dev.undiagnosed (d : Dev) : Dev :=
  { d with
    diag := { d.diag with last := [], tested := [], agree := [], vcol := [], pin := [], events := 0, leftOut := 0 }
    rcd.fresh := [] }

theorem only_undiagnosed (d : Dev) : d.Only [.diag, .queue] [] d.undiagnosed :=
  .parts rfl fun p hp => by cases p <;> simp_all [Part.same, Dev.undiagnosed]

theorem undiagnosed_only (d : Dev) : d.undiagnosed.Only [.diag, .queue] [] d :=
  .parts rfl fun p hp => by cases p <;> simp_all [Part.same, Dev.undiagnosed]

/-- Devices that differ in what the tests find alone differ in the diagnosis and the recorder's queue alone. -/
theorem only_of_undiagnosed (h : e.undiagnosed = d.undiagnosed) : d.Only [.diag, .queue] [] e :=
  (only_undiagnosed d).trans (h ▸ undiagnosed_only e)

/-! A result (R267, R268). -/

theorem noteLamp_undiagnosed (n old new : Nat) (d : Dev) : (d.noteLamp st n old new).undiagnosed = d.undiagnosed := by
  unfold Dev.noteLamp
  split <;> rfl

theorem lampResult_undiagnosed (n r : Nat) (d : Dev) : (d.lampResult st n r).undiagnosed = d.undiagnosed := by
  unfold Dev.lampResult
  extract_lets
  split
  · rfl
  · exact noteLamp_undiagnosed ..

theorem noteLamp_last (n old new : Nat) (d : Dev) : (d.noteLamp st n old new).diag.last = d.diag.last := by
  unfold Dev.noteLamp
  split <;> rfl

theorem noteLamp_vcol_pin (n old new : Nat) (d : Dev) :
    (d.noteLamp st n old new).diag.vcol = d.diag.vcol ∧ (d.noteLamp st n old new).diag.pin = d.diag.pin := by
  unfold Dev.noteLamp
  split <;> exact ⟨rfl, rfl⟩

theorem lampResult_vcol_pin (n r : Nat) (d : Dev) :
    (d.lampResult st n r).diag.vcol = d.diag.vcol ∧ (d.lampResult st n r).diag.pin = d.diag.pin := by
  unfold Dev.lampResult
  extract_lets
  split
  · exact ⟨rfl, rfl⟩
  · exact noteLamp_vcol_pin ..

theorem lampResult_lampLast_ne {n m : Nat} (r : Nat) (h : m ≠ n) (d : Dev) :
    (d.lampResult st n r).lampLast m = d.lampLast m := by
  unfold Dev.lampResult
  extract_lets
  split
  · rfl
  · rw [Dev.lampLast, noteLamp_last]
    exact (Cells.read_write ..).trans (if_neg h)

/-- With REPEAT at most 1 every result sets LAST (R267). -/
theorem lampResult_lampLast {r : Nat} (n : Nat) (hrepeat : d.effGet DIAG_CTRL_REPEAT ≤ 1) : (d.lampResult st n r).lampLast n = r := by
  unfold Dev.lampResult
  extract_lets a count _ d1 old
  have hcount : 1 ≤ count := by simp only [count]; split <;> omega
  split
  case isTrue h =>
    have hold : old = r := by
      rw [Bool.or_eq_true, decide_eq_true_eq, beq_iff_eq] at h
      exact h.resolve_left (by omega)
    exact hold
  case isFalse =>
    rw [Dev.lampLast, noteLamp_last]
    exact Cells.read_write_same ..

/-! One lamp (R265). -/

theorem testLamp_undiagnosed (mono : Bool) (n mv : Nat) (d : Dev) :
    (d.testLamp st mono n mv).undiagnosed = d.undiagnosed := by
  unfold Dev.testLamp
  extract_lets
  split
  · rfl
  · exact lampResult_undiagnosed ..

/-- The column voltage is kept, and no pin result changes. -/
theorem testLamp_vcol_pin (mono : Bool) (n mv : Nat) (d : Dev) :
    (d.testLamp st mono n mv).diag.vcol = Cells.write (fun _ => 0) d.diag.vcol n (mv + 1) ∧
      (d.testLamp st mono n mv).diag.pin = d.diag.pin := by
  unfold Dev.testLamp
  extract_lets
  split
  · exact ⟨rfl, rfl⟩
  · exact lampResult_vcol_pin ..

theorem testLamp_lampLast_ne {n m : Nat} (mono : Bool) (mv : Nat) (h : m ≠ n) (d : Dev) :
    (d.testLamp st mono n mv).lampLast m = d.lampLast m := by
  unfold Dev.testLamp
  extract_lets
  split
  · rfl
  · exact lampResult_lampLast_ne _ h _

/-- With a valid supply sample and no pin short the voltage of a column's lamp is judged (R265, R273). -/
theorem testLamp_lampLast (mono : Bool) (mv : Nat) (hi : i < 128) (hvalid : (d.bankVs (c / 8)).2 = true)
    (hpin : d.pinShort c = false) (hrepeat : d.effGet DIAG_CTRL_REPEAT ≤ 1) :
    (d.testLamp st mono (128 * c + i) mv).lampLast (128 * c + i) =
      d.judgeVcol (c / 8) (lampPlace mono (128 * c + i)).2.2 mv := by
  have hcol : (128 * c + i) / 128 = c := by omega
  unfold Dev.testLamp
  rw [hcol, if_neg (by simp [hvalid, hpin])]
  exact lampResult_lampLast _ hrepeat

/-! A row (R263). -/

/-- The lamps of row i in these columns, tested at the voltages that the bank ADCs gave. -/
def Dev.testRow (st : Straps) (mono : Bool) (i : Nat) (mv : Nat → Nat) (cols : List Nat) (d : Dev) : Dev :=
  d.each cols fun d c => d.testLamp st mono (128 * c + i) (mv c)

theorem testRow_undiagnosed (mono : Bool) (mv : Nat → Nat) (cols : List Nat) (d : Dev) :
    (d.testRow st mono i mv cols).undiagnosed = d.undiagnosed :=
  each_eq cols (fun d _ _ => testLamp_undiagnosed _ _ _ d) d

theorem testRow_pin (mono : Bool) (mv : Nat → Nat) (cols : List Nat) (d : Dev) :
    (d.testRow st mono i mv cols).diag.pin = d.diag.pin :=
  each_eq (φ := fun d => d.diag.pin) cols (fun d _ _ => (testLamp_vcol_pin _ _ _ d).2) d

theorem testLamp_vcol_ne {n m : Nat} (mono : Bool) (mv : Nat) (h : m ≠ n) (d : Dev) :
    Cells.read (fun _ => 0) (d.testLamp st mono n mv).diag.vcol m = Cells.read (fun _ => 0) d.diag.vcol m := by
  rw [(testLamp_vcol_pin mono n mv d).1, Cells.read_write, if_neg h]

/-- A column that is not tested keeps its voltage and its lamp's LAST. -/
theorem testRow_untested {cols : List Nat} (mono : Bool) (mv : Nat → Nat) (hc : c ∉ cols) (d : Dev) :
    Cells.read (fun _ => 0) (d.testRow st mono i mv cols).diag.vcol (128 * c + i) =
      Cells.read (fun _ => 0) d.diag.vcol (128 * c + i) ∧
    (d.testRow st mono i mv cols).lampLast (128 * c + i) = d.lampLast (128 * c + i) := by
  have hother : ∀ x ∈ cols, 128 * c + i ≠ 128 * x + i := by
    intro x hx heq
    exact hc ((show c = x by omega) ▸ hx)
  exact ⟨each_eq (φ := fun d => Cells.read (fun _ => 0) d.diag.vcol (128 * c + i)) cols
      (fun d x hx => testLamp_vcol_ne _ _ (hother x hx) d) d,
    each_eq (φ := fun d => d.lampLast (128 * c + i)) cols (fun d x hx => testLamp_lampLast_ne _ _ (hother x hx) d) d⟩

/-- A tested column's voltage is kept. -/
theorem testRow_vcol {cols : List Nat} (mono : Bool) (mv : Nat → Nat) (hnodup : cols.Nodup) (hc : c ∈ cols) (d : Dev) :
    Cells.read (fun _ => 0) (d.testRow st mono i mv cols).diag.vcol (128 * c + i) = mv c + 1 := by
  obtain ⟨before, hvisit⟩ := each_visit (φ := fun d => Cells.read (fun _ => 0) d.diag.vcol (128 * c + i)) hnodup hc
    (fun d x hx => testLamp_vcol_ne (st := st) mono (mv x) (by omega : 128 * c + i ≠ 128 * x + i) d) d
  refine hvisit.trans ?_
  rw [(testLamp_vcol_pin ..).1, Cells.read_write_same]

/-- A tested column's voltage is judged: the tests of other columns change nothing of what the judgement goes by. -/
theorem testRow_lampLast {cols : List Nat} (mono : Bool) (mv : Nat → Nat) (hnodup : cols.Nodup) (hc : c ∈ cols) (hi : i < 128)
    (hvalid : (d.bankVs (c / 8)).2 = true) (hpin : d.pinShort c = false) (hrepeat : d.effGet DIAG_CTRL_REPEAT ≤ 1) :
    (d.testRow st mono i mv cols).lampLast (128 * c + i) =
      d.judgeVcol (c / 8) (lampPlace mono (128 * c + i)).2.2 (mv c) := by
  obtain ⟨before, hvisit⟩ := each_visit (φ := fun d => d.lampLast (128 * c + i)) hnodup hc
    (fun d x hx => testLamp_lampLast_ne (st := st) mono (mv x) (by omega : 128 * c + i ≠ 128 * x + i) d) d
  have hsame : (d.testRow st mono i mv before).undiagnosed = d.undiagnosed := testRow_undiagnosed ..
  have hvs : (d.testRow st mono i mv before).bankVs (c / 8) = d.bankVs (c / 8) := congrArg (·.bankVs (c / 8)) hsame
  have heff : (d.testRow st mono i mv before).effGet DIAG_CTRL_REPEAT = d.effGet DIAG_CTRL_REPEAT :=
    congrArg (·.effGet DIAG_CTRL_REPEAT) hsame
  refine hvisit.trans ((testLamp_lampLast mono (mv c) hi (hvs ▸ hvalid) ?_ (heff ▸ hrepeat)).trans ?_)
  · exact (congrArg (Cells.read (fun _ => 0) · c == 1) (testRow_pin mono mv before d)).trans hpin
  · exact congrArg (·.judgeVcol (c / 8) (lampPlace mono (128 * c + i)).2.2 (mv c)) hsame

/-! LAMP_TEST. -/

/-- The slot is over and its test pulses have gone out. -/
def Dev.lampPulses (i : Nat) (d : Dev) : Dev :=
  d.closeSlot.emit (.lampTest i (d.get THM_COMP_DADV) (d.geti THM_COMP_RT) (d.effGet DIAG_CTRL_TP) d.testCodes d.allCells
    (d.activeColumns.map fun c => (c, pulseStart d.tile.drive.e (d.effGet DIAG_CTRL_TP) c)))

/-- The row is tested; what a row of open lamps adds lies in DIAG_STAT and the events. -/
def Dev.rowTested (st : Straps) (i : Nat) (codes : List Nat) (d : Dev) : Dev :=
  (d.lampPulses i).testRow st d.mono i (fun c => d.adcMv (c / 8) (nth codes c 0 % 4096)) d.activeColumns

theorem opLampTest_eq (st : Straps) (i : Nat) (codes : List Nat) (d : Dev) :
    d.opLampTest st i codes = d.rowTested st i codes ∨
      d.opLampTest st i codes = ((d.rowTested st i codes).set DIAG_STAT_ROW_OPEN_SEEN 1).event st EV_DIAG_ROW_OPEN i 0 0 := by
  unfold Dev.opLampTest
  extract_lets
  split
  · exact .inr rfl
  · exact .inl rfl

/-- The diagnosis is that of the row's tests; the slot and what has gone out are those of its pulses. -/
theorem opLampTest_parts (st : Straps) (i : Nat) (codes : List Nat) (d : Dev) :
    (d.opLampTest st i codes).diag = (d.rowTested st i codes).diag ∧
      (d.opLampTest st i codes).tile = d.closeSlot.tile ∧ (d.opLampTest st i codes).out = (d.lampPulses i).out := by
  have hrow : (d.rowTested st i codes).undiagnosed = (d.lampPulses i).undiagnosed := testRow_undiagnosed ..
  have htile : (d.rowTested st i codes).tile = d.closeSlot.tile := (congrArg (fun e : Dev => e.tile) hrow :)
  have hout : (d.rowTested st i codes).out = (d.lampPulses i).out := (congrArg (fun e : Dev => e.out) hrow :)
  obtain h | h := opLampTest_eq st i codes d <;> rw [h]
  · exact ⟨rfl, htile, hout⟩
  · exact ⟨rfl, htile, hout⟩

theorem closeSlot_only (as : List Area) (d : Dev) : d.Only [.tile] as d.closeSlot := only_tile as _ d rfl rfl

theorem opLampTest_only (st : Straps) (i : Nat) (codes : List Nat) (d : Dev) :
    d.Only [.queue, .tile, .diag, .out] [.field REC_LOST_CNT_COUNT, .field DIAG_STAT_ROW_OPEN_SEEN]
      (d.opLampTest st i codes) := by
  have hrow : d.Only [.queue, .tile, .diag, .out] [.field REC_LOST_CNT_COUNT, .field DIAG_STAT_ROW_OPEN_SEEN]
      (d.rowTested st i codes) :=
    (((closeSlot_only _ d).mono (by simp) fun _ => id).emit _ (by simp)).trans
      ((only_of_undiagnosed (testRow_undiagnosed ..)).mono (by simp) (by simp))
  obtain h | h := opLampTest_eq st i codes d <;> rw [h]
  · exact hrow
  · exact (hrow.set _ _ (by simp)).event _ _ _ _ _ (by simp)

/-- The end of a command leaves the diagnosis and what has gone out as they are. -/
theorem finish_diag_out (d : Dev) : d.finish.diag = d.diag ∧ d.finish.out = d.out := by
  have honly := (Dev.Only.refl [.queue] [.field REC_LOST_CNT_COUNT] d).finish (by simp) (.inl (by simp))
  exact ⟨honly.1 .diag (by simp), honly.1 .out (by simp)⟩

theorem exec_lampTest (hon : tileOn s) (hopen : s.dev.openSlot = some i) (hslot : s.dev.lampSlot s.dev.tile.drive.k i = true)
    (hallowed : s.dev.testsAllowed = true) :
    exec (.lampTest codes) s = run (fun st d => d.opLampTest st i codes) s := by
  change execLampTest codes s = _
  rw [execLampTest, runTile_pos hon]
  exact run_congr (by simp [hopen, hslot, hallowed])

/-- LAMP_TEST in an open slot answers: its frame, and its diagnosis, slot and pulses. -/
theorem lampTest_answers (hon : tileOn s) (hopen : s.dev.openSlot = some i)
    (hslot : s.dev.lampSlot s.dev.tile.drive.k i = true) (hallowed : s.dev.testsAllowed = true) :
    AnswersWith (exec (.lampTest codes) s) fun t =>
      OnlyLogging [.tile, .diag, .out] [.field DIAG_STAT_ROW_OPEN_SEEN] s t ∧ t.dev.tile = s.dev.closeSlot.tile ∧
      t.dev.out = (s.dev.lampPulses i).out ∧ t.dev.diag = (s.dev.rowTested s.straps i codes).diag := by
  obtain ⟨hdiag, htile, hout⟩ := opLampTest_parts s.straps i codes s.dev
  obtain ⟨hdiag', hout'⟩ := finish_diag_out (s.dev.opLampTest s.straps i codes)
  exact ⟨_, exec_lampTest hon hopen hslot hallowed, run_frame (f := fun st d => d.opLampTest st i codes) (opLampTest_only s.straps i codes s.dev),
    (finish_tile _).trans htile, hout'.trans hout, hdiag'.trans hdiag⟩

/-! The columns of the banks that are on. -/

theorem litColumns_of_undark (h : d.tile.drive.darkBanks = []) : d.litColumns = List.range 384 := by
  simp [Dev.litColumns, h, colCount]

theorem closeSlot_tile_of_undark (h : d.tile.drive.darkBanks = []) :
    d.closeSlot.tile = { d.tile with drive := { d.tile.drive with open_ := false } } := by
  rw [Dev.closeSlot, ← h]

theorem activeColumns_nodup (d : Dev) : d.activeColumns.Nodup := (List.nodup_range.filter _).filter _

theorem lampPulses_out_of_undark (h : d.tile.drive.darkBanks = []) : (d.lampPulses i).out = d.out ++
    [.lampTest i (d.get THM_COMP_DADV) (d.geti THM_COMP_RT) (d.effGet DIAG_CTRL_TP)
      ((List.range 48).map fun b => (d.effGet (LDRV_BANK_IFS_CODE b), d.effGet (LDRV_BANK_IFS_RANGE b)))
      ((List.range 384).map d.sinkCells)
      (((List.range 384).filter fun c => d.effGet (LDRV_BANK_IFS_CODE (c / 8)) != 0).map fun c =>
        (c, (d.tile.drive.e - d.effGet DIAG_CTRL_TP) * (c % 8) / 7))] := by
  rw [Dev.lampPulses, Dev.activeColumns, litColumns_of_undark h]
  rfl

theorem mem_activeColumns_of_undark (h : d.tile.drive.darkBanks = []) (hc : c < 384)
    (hcode : d.effGet (LDRV_BANK_IFS_CODE (c / 8)) ≠ 0) : c ∈ d.activeColumns := by
  simp [Dev.activeColumns, litColumns_of_undark h, hc, hcode]

theorem not_mem_activeColumns_of_dark (h : d.tile.drive.darkBanks = [c / 8]) : c ∉ d.activeColumns := by
  simp [Dev.activeColumns, Dev.litColumns, h]

/-- R262 to R265: each column of a bank that is on is tested and judged. -/
theorem lampTest_judges (i : Fin 128) (c : Fin 384) (hon : tileOn s) (hopen : s.dev.openSlot = some (i : Nat))
    (hslot : s.dev.lampSlot s.dev.tile.drive.k i = true) (hallowed : s.dev.testsAllowed = true)
    (hundark : s.dev.tile.drive.darkBanks = []) (hcode : s.dev.effGet (LDRV_BANK_IFS_CODE (c / 8)) ≠ 0)
    (hvalid : s.dev.getb (DIAG_VLED_VALID ((c : Nat) / 8 / 12)) = true) (hpin : s.dev.pinShort c = false)
    (hrepeat : s.dev.effGet DIAG_CTRL_REPEAT ≤ 1) :
    AnswersWith (exec (.lampTest codes) s) fun t =>
      OnlyLogging [.tile, .diag, .out] [.field DIAG_STAT_ROW_OPEN_SEEN] s t ∧
      t.dev.tile = { s.dev.tile with drive := { s.dev.tile.drive with open_ := false } } ∧
      t.dev.out = (s.dev.lampPulses i).out ∧
      Cells.read (fun _ => 0) t.dev.diag.vcol (128 * c + i) = s.dev.adcMv ((c : Nat) / 8) (codes.getD c 0 % 4096) + 1 ∧
      t.dev.lampLast (128 * c + i) = s.dev.judgeVcol ((c : Nat) / 8) (lampPlace s.dev.mono (128 * c + i)).2.2
        (s.dev.adcMv ((c : Nat) / 8) (codes.getD c 0 % 4096)) ∧
      t.dev.diag.forced = s.dev.diag.forced ∧ t.dev.diag.pin = s.dev.diag.pin := by
  have hc := mem_activeColumns_of_undark hundark c.isLt hcode
  have hnodup := activeColumns_nodup s.dev
  obtain ⟨t, ht, honly, htile, hout, hdiag⟩ := lampTest_answers (codes := codes) hon hopen hslot hallowed
  refine ⟨t, ht, honly, htile.trans (closeSlot_tile_of_undark hundark), hout, ?_, ?_, ?_, ?_⟩
  · rw [hdiag]
    exact testRow_vcol _ _ hnodup hc _
  · rw [Dev.lampLast, hdiag]
    exact testRow_lampLast (d := s.dev.lampPulses i) _ _ hnodup hc i.isLt hvalid hpin hrepeat
  · rw [hdiag]
    exact congrArg (·.diag.forced) (testRow_undiagnosed (d := s.dev.lampPulses i) ..)
  · rw [hdiag]
    exact testRow_pin (d := s.dev.lampPulses i) ..

/-- A bank dark in the slot gives no result (log entry 101). -/
theorem lampTest_of_dark (i : Fin 128) (c : Fin 384) (hon : tileOn s) (hopen : s.dev.openSlot = some (i : Nat))
    (hslot : s.dev.lampSlot s.dev.tile.drive.k i = true) (hallowed : s.dev.testsAllowed = true)
    (hdark : s.dev.tile.drive.darkBanks = [(c : Nat) / 8]) :
    AnswersWith (exec (.lampTest codes) s) fun t =>
      OnlyLogging [.tile, .diag, .out] [.field DIAG_STAT_ROW_OPEN_SEEN] s t ∧
      t.dev.tile = { s.dev.tile with drive := { s.dev.tile.drive with open_ := false, darkBanks := [] } } ∧
      Cells.read (fun _ => 0) t.dev.diag.vcol (128 * c + i) = Cells.read (fun _ => 0) s.dev.diag.vcol (128 * c + i) ∧
      t.dev.lampLast (128 * c + i) = s.dev.lampLast (128 * c + i) := by
  obtain ⟨t, ht, honly, htile, -, hdiag⟩ := lampTest_answers (codes := codes) hon hopen hslot hallowed
  obtain ⟨hvcol, hlast⟩ := testRow_untested (st := s.straps) (i := i) s.dev.mono
    (fun c => s.dev.adcMv (c / 8) (nth codes c 0 % 4096)) (not_mem_activeColumns_of_dark hdark) (s.dev.lampPulses i)
  refine ⟨t, ht, honly, htile, ?_, ?_⟩
  · rw [hdiag]
    exact hvcol
  · rw [Dev.lampLast, hdiag]
    exact hlast

end

end Sys2Proof.Machine
end

section
/-! SUPPORT. The pin test (R266, R426): what one column's result makes of the diagnosis, the two groups of columns, and the
statement of the lamp tests. -/

namespace Sys2Proof.Machine

section
variable {d : Dev} {s : State} {st : Straps} {codes : List Nat} {i c : Nat}

/-! One column (R266). -/

/-- The result of a column stands, its change recorded, before its lamps get it. -/
def Dev.pinNoted (st : Straps) (c : Nat) (short : Bool) (d : Dev) : Dev :=
  if d.pinShort c == short then d
  else { d with diag.pin := Cells.write (fun _ => 0) d.diag.pin c (b2n short) }.event st EV_DIAG_PIN c (b2n short) 0

/-- What no change of a lamp's LAST touches is as the column's own result leaves it. -/
theorem pinResult_eq {β : Type} {φ : Dev → β} (hφ : ∀ (d : Dev) n, φ (d.lampResult st n L_NBR) = φ d) (c : Nat) (short : Bool)
    (d : Dev) : φ (d.pinResult st c short) = φ (d.pinNoted st c short) := by
  unfold Dev.pinResult
  extract_lets d1
  split
  · exact each_eq _ (fun d _ _ => hφ d _) _
  · rfl

theorem pinResult_undiagnosed (c : Nat) (short : Bool) (d : Dev) : (d.pinResult st c short).undiagnosed = d.undiagnosed := by
  rw [pinResult_eq (fun d _ => lampResult_undiagnosed _ _ d), Dev.pinNoted]
  split <;> rfl

theorem pinResult_vcol (c : Nat) (short : Bool) (d : Dev) : (d.pinResult st c short).diag.vcol = d.diag.vcol := by
  rw [pinResult_eq (φ := fun d => d.diag.vcol) (fun d _ => (lampResult_vcol_pin _ _ d).1), Dev.pinNoted]
  split <;> rfl

theorem pinResult_pin (c : Nat) (short : Bool) (d : Dev) :
    (d.pinResult st c short).diag.pin = (d.pinNoted st c short).diag.pin :=
  pinResult_eq (φ := fun d => d.diag.pin) (fun d _ => (lampResult_vcol_pin _ _ d).2) c short d

theorem pinResult_pinShort_ne {x : Nat} (short : Bool) (h : c ≠ x) (d : Dev) :
    (d.pinResult st x short).pinShort c = d.pinShort c := by
  rw [Dev.pinShort, pinResult_pin, Dev.pinNoted]
  split
  · rfl
  · exact congrArg (· == 1) ((Cells.read_write ..).trans (if_neg h))

theorem pinResult_pinShort (c : Nat) (short : Bool) (d : Dev) : (d.pinResult st c short).pinShort c = short := by
  rw [Dev.pinShort, pinResult_pin, Dev.pinNoted]
  split
  case isTrue h => exact beq_iff_eq.mp h
  case isFalse =>
    refine (congrArg (· == 1) (Cells.read_write_same ..)).trans ?_
    cases short <;> rfl

/-! The halves (R266, R426). -/

/-- The columns of one of the two groups. -/
def pinGroup (g : Nat) : List Nat :=
  (List.range 384).filter fun c => (c / 32 + c % 32 + (if 6 ≤ c / 32 then 1 else 0)) % 2 == g

theorem filter_inG1 : (List.range colCount).filter inG1 = pinGroup 1 := rfl

theorem filter_not_inG1 : ((List.range colCount).filter fun c => !inG1 c) = pinGroup 0 := by
  refine List.filter_congr fun c _ => ?_
  rw [inG1]
  obtain h | h := Nat.mod_two_eq_zero_or_one (c / 32 + c % 32 + (if 6 ≤ c / 32 then 1 else 0)) <;> rw [h] <;> rfl

/-- With no bank dark, every column of a group sinks. -/
theorem pinGroup_sinks (g : Nat) (h : d.tile.drive.darkBanks = []) : (pinGroup g).filter d.litColumns.contains = pinGroup g := by
  rw [litColumns_of_undark h, List.filter_eq_self]
  intro c hc
  simpa using (List.mem_filter.mp hc).1

theorem pinHalves_of_undark (h : d.tile.drive.darkBanks = []) :
    d.pinHalves = [(pinGroup 0, pinGroup 1), (pinGroup 1, pinGroup 0)] := by
  simp only [Dev.pinHalves, filter_inG1, filter_not_inG1, pinGroup_sinks _ h]

/-! PIN_TEST. -/

/-- A column is shorted when twice its voltage exceeds the supply (R266, log entry 153). -/
def Dev.pinJudged (codes : List Nat) (d : Dev) (c : Nat) : Bool :=
  decide ((d.bankVs (c / 8)).1 < 2 * d.adcMv (c / 8) (nth codes c 0 % 4096))

/-- The slot is over and both halves of its pin test have gone out. -/
def Dev.pinPulses (i : Nat) (d : Dev) : Dev := d.closeSlot.emit (.pinTest i d.testCodes d.allCells d.pinHalves)

theorem opPinTest_eq (st : Straps) (i : Nat) (codes : List Nat) (d : Dev) :
    d.opPinTest st i codes = (d.pinPulses i).each d.litColumns fun e c => e.pinResult st c (d.pinJudged codes c) := rfl

theorem opPinTest_undiagnosed (st : Straps) (i : Nat) (codes : List Nat) (d : Dev) :
    (d.opPinTest st i codes).undiagnosed = (d.pinPulses i).undiagnosed :=
  each_eq d.litColumns (fun e c _ => pinResult_undiagnosed c _ e) _

theorem opPinTest_vcol (st : Straps) (i : Nat) (codes : List Nat) (d : Dev) :
    (d.opPinTest st i codes).diag.vcol = d.diag.vcol :=
  each_eq (φ := fun e => e.diag.vcol) d.litColumns (fun e c _ => pinResult_vcol c _ e) (d.pinPulses i)

theorem opPinTest_pinShort (st : Straps) (i : Nat) (hc : c ∈ d.litColumns) :
    (d.opPinTest st i codes).pinShort c = d.pinJudged codes c := by
  obtain ⟨before, hvisit⟩ := each_visit (φ := fun e => e.pinShort c) (List.nodup_range.filter _) hc
    (fun e x hx => pinResult_pinShort_ne (st := st) (d.pinJudged codes x) hx.symm e) (d.pinPulses i)
  rw [opPinTest_eq]
  exact hvisit.trans (pinResult_pinShort ..)

theorem opPinTest_only (st : Straps) (i : Nat) (codes : List Nat) (d : Dev) :
    d.Only [.queue, .tile, .diag, .out] [.field REC_LOST_CNT_COUNT] (d.opPinTest st i codes) :=
  (((closeSlot_only _ d).mono (by simp) fun _ => id).emit _ (by simp)).trans
    ((only_of_undiagnosed (opPinTest_undiagnosed st i codes d)).mono (by simp) (by simp))

theorem exec_pinTest (hon : tileOn s) (hopen : s.dev.openSlot = some i) (hslot : s.dev.pinSlot s.dev.tile.drive.k i = true)
    (hdriving : s.dev.tile.drive.driving = true) :
    exec (.pinTest codes) s = run (fun st d => d.opPinTest st i codes) s := by
  change execPinTest codes s = _
  rw [execPinTest, runTile_pos hon]
  exact run_congr (by simp [hopen, hslot, hdriving])

/-- R266: each column is judged by its voltage and the supply. -/
theorem pinTest_judges (i : Fin 128) (c : Fin 384) (hon : tileOn s) (hopen : s.dev.openSlot = some (i : Nat))
    (hslot : s.dev.pinSlot s.dev.tile.drive.k i = true) (hdriving : s.dev.tile.drive.driving = true)
    (hundark : s.dev.tile.drive.darkBanks = []) :
    AnswersWith (exec (.pinTest codes) s) fun t =>
      OnlyLogging [.tile, .diag, .out] [] s t ∧
      t.dev.tile = { s.dev.tile with drive := { s.dev.tile.drive with open_ := false } } ∧
      t.dev.out = s.dev.out ++ [.pinTest i s.dev.testCodes s.dev.allCells
        [(pinGroup 0, pinGroup 1), (pinGroup 1, pinGroup 0)]] ∧
      t.dev.pinShort c = s.dev.pinJudged codes c ∧
      t.dev.diag.vcol = s.dev.diag.vcol ∧ t.dev.diag.forced = s.dev.diag.forced := by
  have hc : (c : Nat) ∈ s.dev.litColumns := by simp [litColumns_of_undark hundark]
  have hsame := opPinTest_undiagnosed s.straps i codes s.dev
  obtain ⟨hdiag, hout⟩ := finish_diag_out (s.dev.opPinTest s.straps i codes)
  refine ⟨_, exec_pinTest hon hopen hslot hdriving, run_frame (f := fun st d => d.opPinTest st i codes) (opPinTest_only s.straps i codes s.dev), ?_, ?_, ?_, ?_, ?_⟩
  · exact (finish_tile _).trans ((congrArg (fun e : Dev => e.tile) hsame).trans (closeSlot_tile_of_undark hundark))
  · rw [← pinHalves_of_undark hundark]
    exact hout.trans (congrArg (fun e : Dev => e.out) hsame)
  · rw [Dev.pinShort, hdiag]
    exact opPinTest_pinShort s.straps i hc
  · exact (congrArg DiagSt.vcol hdiag).trans (opPinTest_vcol s.straps i codes s.dev)
  · exact (congrArg DiagSt.forced hdiag).trans (congrArg (·.diag.forced) hsame)

/-! No slot. -/

theorem openSlot_of_shut (h : d.tile.drive.open_ = false ∨ d.aon.vdrv = false) : d.openSlot = none := by
  obtain h | h := h <;> simp [Dev.openSlot, Dev.rowsHeldOff, h]

theorem tests_of_shut (hon : tileOn s) (h : s.dev.openSlot = none) :
    exec (.lampTest codes) s = .next s ∧ exec (.pinTest codes) s = .next s :=
  ⟨(runTile_pos hon).trans (run_same hon.2.2 (by simp only [h])), (runTile_pos hon).trans (run_same hon.2.2 (by simp only [h]))⟩

end

/-- Settles O31, clause by clause: of a row's tests only that of a column's own lamp changes what stands of it (`each_visit`), and
none changes what the others are judged by (`testRow_undiagnosed`); the pin test's columns are judged likewise. -/
theorem lampTests : Obligations.LampTests := by
  unfold Obligations.LampTests
  refine ⟨fun s codes i c hon hopen hslot hallowed hundark hcode hvalid hpin hrepeat => ?_,
    fun s codes i c hon hopen hslot hallowed hdark => lampTest_of_dark i c hon hopen hslot hallowed hdark,
    fun s codes i c hon hopen hslot hdriving _ hundark => pinTest_judges i c hon hopen hslot hdriving hundark,
    fun s codes hon hshut => tests_of_shut hon (openSlot_of_shut hshut)⟩
  obtain ⟨t, ht, honly, htile, hout, hrest⟩ :=
    lampTest_judges (codes := codes) i c hon hopen hslot hallowed hundark hcode hvalid hpin hrepeat
  exact ⟨t, ht, honly, htile, hout.trans (lampPulses_out_of_undark hundark), hrest⟩

end Sys2Proof.Machine
end

section
/-! SUPPORT. Commands that wait alone (R66, R68, R165, R176): how one is taken up, what its answer leaves, and the outcomes of one
that its effect answers. -/

namespace Sys2Proof.Machine

section
variable {s t : State} {ref : CmdRef} {desc : List Byte} {mine : List Byte → Bool} {f : CmdEffect} {w : Waiter} {d e : Dev}
  {ps : List Part} {as : List Area} {status value : Nat}

/-- The command has been taken up and has no answer yet. -/
def Dev.begun (ref : CmdRef) (desc : List Byte) (d : Dev) : Dev :=
  match ref with
  | .ring i => { d with host := { d.host with descs := [{ fetchedCmd i desc with phase := .started }] } }
  | .remote => { d with tile := { d.tile with cmds := [], running := d.tile.cmds } }

/-- The packet that brought the command of a tile. -/
def State.cmdBytes (s : State) : List Byte := (s.dev.tile.cmds.map fun c => c.1.bytes).headD []

/-- The command has been answered, where its effect has left the device. -/
def Dev.ended (ref : CmdRef) (desc cmd : List Byte) (status value : Nat) (e : Dev) : Dev :=
  match ref with
  | .ring i => { e with host := e.host.completed (fetchedCmd i desc) status value }
  | .remote => { e with tile := { e.tile with running := [] }, ports := rspWaits e cmd status value 0 [] }

/-- An opcode that is refused where the command stands (R66). -/
def wrongPlace (ref : CmdRef) (op : Nat) : Bool :=
  match ref with
  | .ring _ => remoteOnly op
  | .remote => localOnly op

/-- The effect of a command has left alone what its answer goes by and into: the descriptor's place, the tile's part, the ports
and the registers of R157 and R166. -/
structure Dev.Carries (b e : Dev) : Prop where
  descs : e.host.descs = b.host.descs ∧ e.host.out = b.host.out ∧ e.host.cpls = b.host.cpls
  tile : e.tile = b.tile
  ports : e.ports = b.ports
  regs : ∀ a ∈ answerRegs, e.rd a = b.rd a

theorem Dev.Carries.refl (d : Dev) : d.Carries d := ⟨⟨rfl, rfl, rfl⟩, rfl, rfl, fun _ _ => rfl⟩

theorem waits_ring {i : Nat} (hw : Waits (.ring i) desc s = true) : senderOn s ∧ s.dev.host.descs = [fetchedCmd i desc] ∧
    s.dev.host.out = [] ∧ dNoCpl desc = false ∧ dLocal desc = true := by
  rw [Waits, Bool.and_eq_true, oneDesc_iff] at hw
  obtain ⟨⟨hon, hdescs, hout, hcpl⟩, hlocal⟩ := hw
  exact ⟨hon, hdescs, hout, hcpl, hlocal⟩

theorem waits_remote (hw : Waits .remote desc s = true) : tileOn s ∧ s.dev.tile.bulks = [] ∧ s.dev.tile.running = [] ∧
    ∃ c, s.dev.tile.cmds = [c] ∧ cmdDesc c.1.bytes = desc ∧ canAnswer s.dev c.1.bytes = true := by
  simp only [Waits, Bool.and_eq_true, decide_eq_true_eq] at hw
  obtain ⟨⟨⟨hon, hbulks⟩, hrunning⟩, hcmd⟩ := hw
  split at hcmd
  · rename_i c hcmds
    rw [Bool.and_eq_true, decide_eq_true_eq] at hcmd
    exact ⟨hon, hbulks, hrunning, c, hcmds, hcmd.1, hcmd.2⟩
  · exact absurd hcmd (by simp)

theorem settled_of_waits (hw : Waits ref desc s = true) : Settled s := by
  cases ref with
  | ring i => exact (waits_ring hw).1.2.2
  | remote => exact (waits_remote hw).1.2.2

theorem findDesc_one {x : Desc} (h : d.host.descs = [x]) : d.findDesc x.ring x.index = some x := by
  simp [Dev.findDesc, h]

theorem only_begun (ref : CmdRef) (desc : List Byte) (d : Dev) : d.Only (answerParts ref) [] (d.begun ref desc) := by
  cases ref with
  | ring i => exact Dev.only_host ..
  | remote => exact (only_tile [] { d.tile with cmds := [], running := d.tile.cmds } d rfl rfl).mono (by simp [answerParts]) (by simp)

theorem only_ended (cmd : List Byte) (e : Dev) : e.Only (answerParts ref) [] (e.ended ref desc cmd status value) := by
  cases ref with
  | ring i => exact Dev.only_host ..
  | remote => exact .parts rfl fun p hp => by cases p <;> simp_all [Part.same, Dev.ended, answerParts]

/-- A command that waits alone is taken up, and what its effect answers is its answer. -/
theorem runCommand_begun (hw : Waits ref desc s = true) (hm : mine desc = true) (hruns : s.dev.runs (dOpcode desc) = true)
    (hplace : wrongPlace ref (dOpcode desc) = false) : ∃ w, waiterOf ref s = some w ∧
    runCommand mine always f ref s = run (fun st _ =>
      match (f s.straps w desc (s.dev.begun ref desc)).1 with
      | some a => (f s.straps w desc (s.dev.begun ref desc)).2.answer st w a.1 a.2
      | none => (f s.straps w desc (s.dev.begun ref desc)).2) s := by
  cases ref with
  | ring i =>
    obtain ⟨hon, hdescs, -, -, hlocal⟩ := waits_ring hw
    have hfound : s.dev.findDesc 1 i = some (fetchedCmd i desc) := findDesc_one hdescs
    have hstart : s.dev.startDesc 1 i = s.dev.begun (.ring i) desc := by
      simp [Dev.startDesc, Dev.modDesc, hdescs, Dev.begun, fetchedCmd]
    refine ⟨.ring i, rfl, (runSender_pos hon).trans (run_congr ?_)⟩
    simp only [Dev.runLocal, hfound, startable_one _ hdescs rfl, hstart, show (fetchedCmd i desc).bytes = desc from rfl, hm,
      hlocal, show remoteOnly (dOpcode desc) = false from hplace, hruns, always, Bool.not_true, Bool.or_self,
      Bool.false_eq_true, if_false] <;> rfl
  | remote =>
    obtain ⟨hon, hbulks, hrunning, c, hcmds, rfl, hcan⟩ := waits_remote hw
    rw [canAnswer, Bool.and_eq_true] at hcan
    have hnext : s.dev.isNext c = true := by simp [Dev.isNext, hcan.1, Dev.waiting, hcmds, hbulks]
    refine ⟨.remote c.1, by simp [waiterOf, hcmds], (runTile_pos hon).trans (run_congr ?_)⟩
    have hbegun : { s.dev with
        tile.cmds := s.dev.tile.cmds.filter fun o => o.1 != c.1
        tile.running := s.dev.tile.running ++ [c] } = s.dev.begun .remote (cmdDesc c.1.bytes) := by
      simp [Dev.begun, hcmds, hrunning]
    rw [hcmds] at hbegun
    simp only [Dev.runHead, hcmds, List.head?_cons, hm, hruns, hnext, hbegun,
      show localOnly (dOpcode (cmdDesc c.1.bytes)) = false from hplace, Bool.not_true, Bool.or_self, Bool.false_eq_true, if_false] <;> rfl

/-- The answer to a command that waited alone. -/
theorem answer_ended {st : Straps} (hw : Waits ref desc s = true) (hwait : waiterOf ref s = some w)
    (he : (s.dev.begun ref desc).Carries e) : e.answer st w status value = e.ended ref desc s.cmdBytes status value := by
  obtain ⟨⟨hdescs, hout, -⟩, htile, hports, hregs⟩ := he
  cases ref with
  | ring i =>
    obtain ⟨-, -, hnone, hcpl, -⟩ := waits_ring hw
    obtain rfl : Waiter.ring i = w := Option.some.inj hwait
    exact finishDesc_one { fetchedCmd i desc with phase := .started } status value hdescs (hout.trans hnone) (by simp) rfl hcpl
  | remote =>
    obtain ⟨-, hbulks, hrunning, c, hcmds, -, hcan⟩ := waits_remote hw
    obtain rfl : Waiter.remote c.1 = w := by simpa [waiterOf, hcmds] using hwait
    have hover : { e with
        tile.running := e.tile.running.filter fun x => x.1 != c.1
        tile.cmds := e.tile.cmds.filter fun x => x.1 != c.1
        tile.bulks := e.tile.bulks.filter fun b => (b.last.map Prod.fst) != some c.1 } =
        { e with tile := { e.tile with running := [] } } := by
      simp [htile, Dev.begun, hcmds, hbulks]
    obtain ⟨hcan', -⟩ := answer_congr hports hregs c.1.bytes
    rw [Dev.answer, hover, Dev.ended, State.cmdBytes, hcmds]
    exact respond_relays (d := { e with tile := { e.tile with running := [] } }) _ _ _ _ _ (hcan'.trans hcan)

/-- The answered command is answered, and waits no longer. -/
theorem answered_of_ended (hw : Waits ref desc s = true) (he : (s.dev.begun ref desc).Carries e)
    (ht : t.dev.host = (e.ended ref desc s.cmdBytes status value).host ∧
      t.dev.tile = (e.ended ref desc s.cmdBytes status value).tile ∧
      t.dev.ports = (e.ended ref desc s.cmdBytes status value).ports) : Answered ref desc status value s t := by
  obtain ⟨hhost, htile, hports⟩ := ht
  obtain ⟨⟨-, -, hcpls⟩, hsame, hp, hregs⟩ := he
  cases ref with
  | ring i => exact ⟨by rw [hhost]; rfl, by rw [hhost]; exact congrArg (· ++ _) hcpls⟩
  | remote =>
    refine ⟨by rw [htile, Dev.ended, hsame]; rfl, by rw [htile]; rfl, ?_⟩
    rw [hports]
    exact (answer_congr (d := s.dev) hp hregs s.cmdBytes).2 status value 0 []

/-- Where the effect has left the whole host interface alone, only the command's own place has changed. -/
theorem answeredOnly_of_ended (hw : Waits ref desc s = true) (he : (s.dev.begun ref desc).Carries e)
    (hhost : e.host = (s.dev.begun ref desc).host)
    (ht : t.dev.host = (e.ended ref desc s.cmdBytes status value).host ∧
      t.dev.tile = (e.ended ref desc s.cmdBytes status value).tile ∧
      t.dev.ports = (e.ended ref desc s.cmdBytes status value).ports) : AnsweredOnly ref desc status value s t := by
  refine ⟨answered_of_ended hw he ht, ?_⟩
  cases ref with
  | ring i => simp only [ht.1, Dev.ended, hhost, Dev.begun, HostSt.completed]
  | remote =>
    obtain ⟨-, -, hrunning, -⟩ := waits_remote hw
    rw [ht.2.1, Dev.ended, he.tile]
    simp [Dev.begun, ← hrunning]

/-- A command that its effect answers, without an event, is answered where the effect leaves the device. -/
theorem runCommand_ends (hw : Waits ref desc s = true) (hm : mine desc = true) (hruns : s.dev.runs (dOpcode desc) = true)
    (hplace : wrongPlace ref (dOpcode desc) = false)
    (hf : ∀ w, f s.straps w desc (s.dev.begun ref desc) = (some (status, value), e))
    (hcarry : (s.dev.begun ref desc).Carries e) (honly : (s.dev.begun ref desc).Only ps as e) (hq : Part.queue ∉ ps) :
    AnswersWith (runCommand mine always f ref s) fun t => Only (ps ++ answerParts ref) as s t ∧
      t.dev = e.ended ref desc s.cmdBytes status value ∧ Answered ref desc status value s t ∧
      (e.host = (s.dev.begun ref desc).host → AnsweredOnly ref desc status value s t) := by
  obtain ⟨w, hwait, hrun⟩ := runCommand_begun (f := f) hw hm hruns hplace
  have hframe : s.dev.Only (ps ++ answerParts ref) as (e.ended ref desc s.cmdBytes status value) :=
    (((only_begun ref desc s.dev).mono (by simp +contextual) (by simp)).trans (honly.mono (by simp +contextual) fun _ => id)).trans
      ((only_ended s.cmdBytes e).mono (by simp +contextual) (by simp))
  rw [hrun]
  simp only [hf w, answer_ended hw hwait hcarry]
  refine run_quiet_with (f := fun _ _ => e.ended ref desc s.cmdBytes status value) (settled_of_waits hw) hframe ?_
    ⟨rfl, answered_of_ended hw hcarry ⟨rfl, rfl, rfl⟩, fun hhost => answeredOnly_of_ended hw hcarry hhost ⟨rfl, rfl, rfl⟩⟩
  cases ref <;> simpa [answerParts] using hq

/-- A command whose effect changes nothing. -/
theorem runCommand_reads (hw : Waits ref desc s = true) (hm : mine desc = true) (hruns : s.dev.runs (dOpcode desc) = true)
    (hplace : wrongPlace ref (dOpcode desc) = false)
    (hf : ∀ w, f s.straps w desc (s.dev.begun ref desc) = (some (status, value), s.dev.begun ref desc)) :
    AnswersWith (runCommand mine always f ref s) fun t =>
      Only (answerParts ref) [] s t ∧ AnsweredOnly ref desc status value s t := by
  obtain ⟨t, ht, honly, -, -, honlyAnswer⟩ := runCommand_ends (ps := []) (as := []) hw hm hruns hplace hf (.refl _)
    (Dev.Only.refl ..) (by simp)
  exact ⟨t, ht, honly, honlyAnswer rfl⟩

/-- A LOCAL command that has to go to a tile completes with BAD_PARAM (R66). -/
theorem runCommand_misplaced {i : Nat} {ready : List Byte → Dev → Bool} (hw : Waits (.ring i) desc s = true)
    (hm : mine desc = true) (hplace : remoteOnly (dOpcode desc) = true) :
    AnswersWith (runCommand mine ready f (.ring i) s) fun t =>
      Only [.host] [] s t ∧ AnsweredOnly (.ring i) desc ST_BAD_PARAM 0 s t := by
  obtain ⟨hon, hdescs, hout, hcpl, hlocal⟩ := waits_ring hw
  have hfound : s.dev.findDesc 1 i = some (fetchedCmd i desc) := findDesc_one hdescs
  have hdev : s.dev.runLocal s.straps i mine ready f =
      { s.dev with host := s.dev.host.completed (fetchedCmd i desc) ST_BAD_PARAM 0 } := by
    simp only [Dev.runLocal, hfound, startable_one _ hdescs rfl, show (fetchedCmd i desc).bytes = desc from rfl, hm,
      hlocal, hplace, Bool.not_true, Bool.or_self, Bool.false_eq_true, if_false, if_true]
    exact finishDesc_one (fetchedCmd i desc) ST_BAD_PARAM 0 hdescs hout (by simp [fetchedCmd]) rfl hcpl
  rw [show runCommand mine ready f (.ring i) s = run (fun st d => d.runLocal st i mine ready f) s from runSender_pos hon]
  refine run_quiet_with hon.2.2 ?_ (by simp) ?_
  · rw [hdev]
    exact Dev.only_host ..
  · simp only [hdev]
    exact ⟨⟨rfl, rfl⟩, rfl⟩

end

end Sys2Proof.Machine
end

section
/-! SUPPORT. DIAG_LAMP, DIAG_FORCE, REC_MARK and REC_CLEAR (R275, R378, R379). -/

namespace Sys2Proof.Machine

section
variable {s : State} {ref : CmdRef} {desc tok : List Byte} {d : Dev} {w : Waiter} {n : Nat}

theorem runs_of_firmware (op : Nat) (h : d.firmware = true) : d.runs op = true := by simp [Dev.runs, h]

theorem hasOp_of_eq {op : Nat} (h : dOpcode desc = op) : hasOp op desc = true := by simp [hasOp, h]

/-! Diagnosis (R275). -/

theorem diagLamp_reads (hw : Waits .remote desc s = true) (hfw : s.dev.firmware = true) (hop : dOpcode desc = 0x0300)
    (hn : dData desc 0 % 65536 < 49152) :
    AnswersWith (exec (.diagLamp .remote) s) fun t => Only [.tile, .ports] [] s t ∧
      AnsweredOnly .remote desc ST_OK (s.dev.lampWord (dData desc 0 % 65536)) s t :=
  runCommand_reads hw (hasOp_of_eq hop) (runs_of_firmware _ hfw) (by rw [hop]; rfl) fun _ => if_neg (Nat.not_le.mpr hn)

theorem diag_badLamp (hw : Waits .remote desc s = true) (hfw : s.dev.firmware = true)
    (hop : dOpcode desc = 0x0300 ∨ dOpcode desc = 0x0301) (hn : 49151 < dData desc 0 % 65536) :
    AnswersWith (exec (if dOpcode desc = 0x0300 then .diagLamp .remote else .diagForce .remote) s) fun t =>
      Only [.tile, .ports] [] s t ∧ AnsweredOnly .remote desc ST_BAD_PARAM 0 s t := by
  obtain hop | hop := hop <;> rw [hop] <;>
    exact runCommand_reads hw (hasOp_of_eq hop) (runs_of_firmware _ hfw) (by rw [hop]; rfl) fun _ => if_pos hn

theorem diag_local {i : Nat} (hw : Waits (.ring i) desc s = true) (hop : dOpcode desc = 0x0300 ∨ dOpcode desc = 0x0301) :
    AnswersWith (exec (if dOpcode desc = 0x0300 then .diagLamp (.ring i) else .diagForce (.ring i)) s) fun t =>
      Only [.host] [] s t ∧ AnsweredOnly (.ring i) desc ST_BAD_PARAM 0 s t := by
  obtain hop | hop := hop <;> rw [hop] <;> exact runCommand_misplaced hw (hasOp_of_eq hop) (by rw [hop]; rfl)

theorem mem_insertLamp (n : Nat) (l : List Nat) : n ∈ insertLamp n l := by
  induction l with
  | nil => simp [insertLamp]
  | cons m l ih =>
    unfold insertLamp
    split
    · simp
    · split
      · simp [*]
      · exact .tail _ ih

theorem filter_insertLamp (n : Nat) (l : List Nat) :
    (insertLamp n l).filter (fun m => m != n) = l.filter fun m => m != n := by
  induction l with
  | nil => simp [insertLamp]
  | cons m l ih =>
    unfold insertLamp
    split
    · simp
    · split
      · rfl
      · simp only [List.filter_cons, ih]

/-- The forced masks once one lamp's has been set or released. -/
def forcedMasks (n : Nat) (on : Bool) (l : List Nat) : List Nat := if on then insertLamp n l else l.filter fun m => m != n

theorem mem_forcedMasks (n : Nat) (on : Bool) (l : List Nat) : n ∈ forcedMasks n on l ↔ on = true := by
  cases on
  · simp [forcedMasks]
  · simp [forcedMasks, mem_insertLamp]

theorem filter_forcedMasks (n : Nat) (on : Bool) (l : List Nat) :
    (forcedMasks n on l).filter (fun m => m != n) = l.filter fun m => m != n := by
  cases on
  · simp [forcedMasks]
  · exact filter_insertLamp n l

/-! The settings record (R362): a block is replaced in eMRAM alone, by what eMRAM holds. -/

theorem commitBlock_only (id : Nat) (body : List Byte) (d : Dev) : d.Only [.nvm] [] (d.commitBlock id body) := by
  unfold Dev.commitBlock
  extract_lets
  split
  · exact .refl ..
  · exact commitObject_only (by simp [storedKind]) ..

theorem rawBlock_congr {e : Dev} (h : e.nvm = d.nvm) (id : Nat) : e.rawBlock id = d.rawBlock id := by
  rw [Dev.rawBlock, Dev.rawBlock, Dev.blocks, Dev.blocks, objectInForce_congr h]

theorem recordWith_congr {e : Dev} (h : e.nvm = d.nvm) (id version : Nat) (body : List Byte) :
    e.recordWith id version body = d.recordWith id version body := by
  rw [Dev.recordWith, Dev.recordWith, Dev.blocks, Dev.blocks, objectInForce_congr h]

theorem inForce_slotSeq_congr {e : Dev} (h : e.nvm = d.nvm) (k : Nat) :
    e.inForce k = d.inForce k ∧ ∀ s, e.slotSeq k s = d.slotSeq k s := by
  have hslots : e.slots k = d.slots k := by unfold Dev.slots; rw [h]
  have hbad (a : Option NvmArea) (n : Nat) : e.areaBad a n = d.areaBad a n := by unfold Dev.areaBad; rw [h]
  have hrecord (s : Nat) : e.slotRecord k s = d.slotRecord k s := by simp only [Dev.slotRecord, hslots, hbad]
  have hvalid (s : Nat) : e.slotValid k s = d.slotValid k s := by simp only [Dev.slotValid, hrecord, hslots, hbad]
  have hseq (s : Nat) : e.slotSeq k s = d.slotSeq k s := by simp only [Dev.slotSeq, hvalid, hrecord]
  exact ⟨by simp only [Dev.inForce, hvalid, hseq], hseq⟩

theorem commitObject_congr {e : Dev} (h : e.nvm = d.nvm) (bytes : List Byte) :
    (e.commitObject NK_SETTINGS bytes).nvm = (d.commitObject NK_SETTINGS bytes).nvm := by
  obtain ⟨hforce, hslotSeq⟩ := inForce_slotSeq_congr h NK_SETTINGS
  have hslot : e.spareSlot NK_SETTINGS = d.spareSlot NK_SETTINGS := by
    rw [Dev.spareSlot, Dev.spareSlot, hforce]
  have hseq : e.nextSeq NK_SETTINGS = d.nextSeq NK_SETTINGS := by
    rw [Dev.nextSeq, Dev.nextSeq, hslotSeq, hslotSeq]
  rw [Dev.commitObject, Dev.commitObject, hslot, hseq]
  simp [Dev.writeSlot, Dev.commitSlot, Dev.countWrite, Dev.clearBad, Dev.setSlots, Dev.slots, NK_SETTINGS, h]

/-- The record that a block of the device's own makes (R362). -/
def Dev.blockRecord (d : Dev) (id : Nat) (body : List Byte) : List Byte :=
  d.recordWith id (match d.rawBlock id with | some b => b.version | none => 0) body

theorem commitBlock_eq (id : Nat) (body : List Byte) (d : Dev) : d.commitBlock id body =
    if settingsMax < (d.blockRecord id body).length then d else d.commitObject NK_SETTINGS (d.blockRecord id body) := by
  unfold Dev.commitBlock Dev.blockRecord
  cases d.rawBlock id <;> rfl

theorem blockRecord_congr {e : Dev} (h : e.nvm = d.nvm) (id : Nat) (body : List Byte) :
    e.blockRecord id body = d.blockRecord id body := by
  rw [Dev.blockRecord, Dev.blockRecord, rawBlock_congr h, recordWith_congr h]

theorem commitBlock_congr {e : Dev} (h : e.nvm = d.nvm) (id : Nat) (body : List Byte) :
    (e.commitBlock id body).nvm = (d.commitBlock id body).nvm := by
  rw [commitBlock_eq, commitBlock_eq, blockRecord_congr h]
  by_cases hlen : settingsMax < (d.blockRecord id body).length
  · rw [if_pos hlen, if_pos hlen, h]
  · rw [if_neg hlen, if_neg hlen, commitObject_congr h]

/-- What DIAG_FORCE does and answers. -/
def diagForceEffect : CmdEffect := fun _ _ desc d =>
  if lampCount ≤ diagLampNo desc then (some (ST_BAD_PARAM, 0), d)
  else (some (ST_OK, 0), d.opDiagForce (diagLampNo desc) (natBit (dData desc 0) 16))

theorem exec_diagForce : exec (.diagForce ref) s = runCommand (hasOp 0x0301) always diagForceEffect ref s := rfl

/-- The device with other forced masks, not yet saved. -/
def Dev.withForced (l : List Nat) (d : Dev) : Dev := { d with diag := { d.diag with forced := l } }

/-- A lamp's forced mask is set or released, and the masks are saved in block 4. -/
theorem diagForceEffect_forces {st : Straps} (hn : dData desc 0 % 65536 < 49152) (d : Dev) : diagForceEffect st w desc d =
    (some (ST_OK, 0),
      (d.withForced (forcedMasks (dData desc 0 % 65536) (natBit (dData desc 0) 16) d.diag.forced)).commitBlock 4
        (maskBody (forcedMasks (dData desc 0 % 65536) (natBit (dData desc 0) 16) d.diag.forced))) :=
  if_neg (Nat.not_le.mpr hn)

theorem withForced_only (l : List Nat) (d : Dev) : d.Only [.diag] [] (d.withForced l) :=
  .parts rfl fun p hp => by cases p <;> simp_all [Part.same, Dev.withForced]

theorem carries_of_only {e : Dev} {ps : List Part} (h : d.Only ps [] e)
    (hps : Part.host ∉ ps ∧ Part.tile ∉ ps ∧ Part.frameStore ∉ ps ∧ Part.ports ∉ ps) : d.Carries e := by
  obtain ⟨hhost, htile, hstore, hports⟩ := hps
  have hsame : e.host = d.host := h.1 .host hhost
  exact ⟨by rw [hsame]; exact ⟨rfl, rfl, rfl⟩, tile_of_only h htile hstore, h.1 .ports hports, fun _ _ => h.rd_eq (by simp)⟩

/-- DIAG_FORCE of a lamp (R272, R275, R362). -/
theorem diagForce_forces (hw : Waits .remote desc s = true) (hfw : s.dev.firmware = true) (hop : dOpcode desc = 0x0301)
    (hn : dData desc 0 % 65536 < 49152) :
    AnswersWith (exec (.diagForce .remote) s) fun t =>
      Only [.tile, .ports, .diag, .nvm] [] s t ∧ AnsweredOnly .remote desc ST_OK 0 s t ∧
      t.dev.diag.forced = forcedMasks (dData desc 0 % 65536) (natBit (dData desc 0) 16) s.dev.diag.forced ∧
      t.dev.nvm = (s.dev.commitBlock 4 (maskBody t.dev.diag.forced)).nvm := by
  rw [exec_diagForce]
  have heffect (w : Waiter) := diagForceEffect_forces (w := w) (st := s.straps) hn (s.dev.begun .remote desc)
  rw [show (s.dev.begun .remote desc).diag.forced = s.dev.diag.forced from rfl] at heffect
  generalize forcedMasks (dData desc 0 % 65536) (natBit (dData desc 0) 16) s.dev.diag.forced = l at heffect ⊢
  have hsave := commitBlock_only 4 (maskBody l) ((s.dev.begun .remote desc).withForced l)
  have hnvm : (((s.dev.begun .remote desc).withForced l).commitBlock 4 (maskBody l)).nvm =
      (s.dev.commitBlock 4 (maskBody l)).nvm :=
    commitBlock_congr (d := s.dev) (e := (s.dev.begun .remote desc).withForced l) rfl 4 (maskBody l)
  generalize ((s.dev.begun .remote desc).withForced l).commitBlock 4 (maskBody l) = e at heffect hsave hnvm
  have hall : (s.dev.begun .remote desc).Only [.diag, .nvm] [] e :=
    ((withForced_only l _).mono (by simp) (by simp)).trans (hsave.mono (by simp) (by simp))
  obtain ⟨t, ht, hframe, hdev, -, hanswer⟩ := runCommand_ends (f := diagForceEffect) hw
    (hasOp_of_eq hop) (runs_of_firmware _ hfw) (by rw [hop]; rfl) heffect (carries_of_only hall (by simp)) hall (by simp)
  have hforced : t.dev.diag.forced = l := by
    rw [hdev]
    exact congrArg DiagSt.forced (hsave.1 .diag (by simp))
  refine ⟨t, ht, ⟨hframe.1, hframe.2.1, hframe.2.2.mono (by simp [answerParts]) (by simp)⟩, hanswer (hall.1 .host (by simp)),
    hforced, ?_⟩
  rw [hforced, hdev]
  exact hnvm

/-! REC_MARK (R379). -/

theorem mark_badSeverity (hw : Waits ref desc s = true) (hfw : s.dev.firmware = true) (hop : dOpcode desc = 0x0701)
    (hsev : 6 ≤ dData desc 3 % 16) :
    AnswersWith (exec (.recMark ref) s) fun t =>
      Only (answerParts ref) [] s t ∧ AnsweredOnly ref desc ST_BAD_PARAM 0 s t := by
  refine runCommand_reads hw (hasOp_of_eq hop) (runs_of_firmware _ hfw) (by rw [hop]; cases ref <;> rfl) fun _ => ?_
  exact if_pos hsev

theorem begun_rcd (ref : CmdRef) (desc : List Byte) (d : Dev) : (d.begun ref desc).rcd = d.rcd := by cases ref <;> rfl

theorem begun_free (ref : CmdRef) (desc : List Byte) (d : Dev) : (d.begun ref desc).free = d.free := by cases ref <;> rfl

/-- The record that a REC_MARK makes. -/
def markRecord (st : Straps) (desc : List Byte) (d : Dev) : EventRec :=
  d.record st (evRecMark (natBits (dData desc 3) 0 4)) (natBits (dData desc 3) 4 6) (dData desc 0) (dData desc 1) (dData desc 2)

theorem opRecMark_queues {st : Straps} (hsev : dData desc 3 % 16 ≤ 5) (hset : d.rcd.fresh = []) (hroom : d.rcd.queue.length < 32) :
    d.opRecMark st w desc = (none, d.note { markRecord st desc d with mark := some w }) := by
  refine (if_neg (Nat.not_lt.mpr hsev)).trans (if_pos ?_)
  simpa [Dev.recRoom, hset, recDepth] using hroom

theorem opRecMark_loses {st : Straps} (hsev : dData desc 3 % 16 ≤ 5) (hset : d.rcd.fresh = []) (hfull : 32 ≤ d.rcd.queue.length) :
    d.opRecMark st w desc =
      (some (ST_OK, Config.freeValue d.free % 2 ^ 32), { d.note (markRecord st desc d) with free := d.free + 1 }) := by
  refine (if_neg (Nat.not_lt.mpr hsev)).trans ((if_neg ?_).trans rfl)
  simpa [Dev.recRoom, hset, recDepth] using hfull

/-- The one event of a command is put into the queue, or lost, at its end. -/
theorem finish_one {r : EventRec} (hone : d.rcd.fresh = [r]) : d.finish = { d with rcd.fresh := [] }.enqueue r := by
  simp only [Dev.finish, hone]
  rfl

theorem finish_note {r : EventRec} (hset : d.rcd.fresh = []) (hroom : d.rcd.queue.length < 32) :
    (d.note r).finish = { d with rcd.queue := d.rcd.queue ++ [r] } := by
  rw [finish_room _ (by simpa [Dev.note, hset, recDepth] using hroom)]
  simp [Dev.note, hset, sortByCode, insertByCode]

theorem enqueue_full (r : EventRec) (hfull : 32 ≤ d.rcd.queue.length) :
    (d.enqueue r).rcd.queue = d.rcd.queue ∧ (d.enqueue r).rcd.lost = d.rcd.lost + 1 := by
  have h : ¬ d.rcd.queue.length < recDepth := Nat.not_lt.mpr hfull
  rw [Dev.enqueue, if_neg h]
  by_cases h0 : d.rcd.lost = 0
  · simp [Dev.add, h0]
  · simp [Dev.add, h0]

/-- An event that finds the queue full is lost (R370). -/
theorem finish_full {r : EventRec} (hone : d.rcd.fresh = [r]) (hfull : 32 ≤ d.rcd.queue.length) :
    d.finish.rcd.queue = d.rcd.queue ∧ d.finish.rcd.lost = d.rcd.lost + 1 := by
  rw [finish_one hone]
  exact enqueue_full (d := { d with rcd.fresh := [] }) r hfull

theorem markRecord_fields (st : Straps) (desc : List Byte) (d : Dev) :
    (markRecord st desc d).sev = dData desc 3 % 16 ∧ (markRecord st desc d).flags % 64 = dData desc 3 / 16 % 64 := by
  refine ⟨rfl, ?_⟩
  simp only [markRecord, Dev.record, eventFlags, natBits, Nat.shiftRight_eq_div_pow]
  omega

theorem only_queue (q : List EventRec) (d : Dev) : d.Only [.queue] [] { d with rcd.queue := q } :=
  .parts rfl fun p hp => by cases p <;> simp_all [Part.same]

theorem only_note_free (r : EventRec) (n : Nat) (d : Dev) : d.Only [.queue, .free] [] { d.note r with free := n } :=
  .parts rfl fun p hp => by cases p <;> simp_all [Part.same, Dev.note]

theorem mark_records (hw : Waits ref desc s = true) (hfw : s.dev.firmware = true) (hop : dOpcode desc = 0x0701)
    (hsev : dData desc 3 % 16 ≤ 5) (hroom : s.dev.rcd.queue.length < 32) :
    AnswersWith (exec (.recMark ref) s) fun t =>
      OnlyLogging (answerParts ref) [] s t ∧ Started ref desc s t ∧ t.dev.ports = s.dev.ports ∧
      Logs [((evRecMark 0).code, dData desc 0 % 2 ^ 32, dData desc 1 % 2 ^ 32, dData desc 2 % 2 ^ 32)] s t ∧
      (t.dev.rcd.queue.map fun e => (e.sev, e.flags % 64, e.mark)) = (s.dev.rcd.queue.map fun e => (e.sev, e.flags % 64, e.mark)) ++
        [(dData desc 3 % 16, dData desc 3 / 16 % 64, waiterOf ref s)] := by
  have hrcd := begun_rcd ref desc s.dev
  have hset : (s.dev.begun ref desc).rcd.fresh = [] := hrcd ▸ settled_of_waits hw
  have hroom' : (s.dev.begun ref desc).rcd.queue.length < 32 := hrcd ▸ hroom
  obtain ⟨w, hwait, hrun⟩ := runCommand_begun (f := fun st w desc d => d.opRecMark st w desc) hw (hasOp_of_eq hop)
    (runs_of_firmware _ hfw) (by rw [hop]; cases ref <;> rfl)
  simp only [opRecMark_queues hsev hset hroom', run, finish_note hset hroom', hrcd] at hrun
  obtain ⟨hrecSev, hrecFlags⟩ := markRecord_fields s.straps desc (s.dev.begun ref desc)
  refine ⟨_, hrun, ⟨rfl, rfl, ?_⟩, ?_, ?_, fun _ => ⟨?_, rfl⟩, ?_⟩
  · refine ((only_begun ref desc s.dev).mono (by simp +contextual) (by simp)).trans ?_
    rw [← hrcd]
    exact (only_queue ..).mono (by simp) (by simp)
  · cases ref <;> rfl
  · cases ref <;> rfl
  · exact List.map_append
  · simp [hrecSev, hrecFlags, hwait]

/-- With the queue full the event is lost, and VALUE is a free value (log entry 159). -/
theorem mark_lost (hw : Waits ref desc s = true) (hfw : s.dev.firmware = true) (hop : dOpcode desc = 0x0701)
    (hsev : dData desc 3 % 16 ≤ 5) (hfull : 32 ≤ s.dev.rcd.queue.length) :
    AnswersWith (exec (.recMark ref) s) fun t =>
      OnlyLogging (.free :: answerParts ref) [] s t ∧ t.dev.rcd.queue = s.dev.rcd.queue ∧ t.dev.rcd.lost = s.dev.rcd.lost + 1 ∧
      t.dev.free = s.dev.free + 1 ∧ AnsweredOnly ref desc ST_OK (Config.freeValue s.dev.free % 2 ^ 32) s t := by
  have hrcd := begun_rcd ref desc s.dev
  have hfree := begun_free ref desc s.dev
  have hset : (s.dev.begun ref desc).rcd.fresh = [] := hrcd ▸ settled_of_waits hw
  obtain ⟨w, hwait, hrun⟩ := runCommand_begun (f := fun st w desc d => d.opRecMark st w desc) hw (hasOp_of_eq hop)
    (runs_of_firmware _ hfw) (by rw [hop]; cases ref <;> rfl)
  obtain ⟨e, he⟩ : ∃ e : Dev, e =
    { (s.dev.begun ref desc).note (markRecord s.straps desc (s.dev.begun ref desc)) with free := s.dev.free + 1 } := ⟨_, rfl⟩
  have hcarry : (s.dev.begun ref desc).Carries e := by
    rw [he]
    exact ⟨⟨rfl, rfl, rfl⟩, rfl, rfl, fun _ _ => rfl⟩
  simp only [opRecMark_loses hsev hset (hrcd ▸ hfull), hfree, ← he, answer_ended hw hwait hcarry, run] at hrun
  have hend : (e.ended ref desc s.cmdBytes ST_OK (Config.freeValue s.dev.free % 2 ^ 32)).rcd = e.rcd := by cases ref <;> rfl
  have hone : e.rcd = { s.dev.rcd with fresh := [markRecord s.straps desc (s.dev.begun ref desc)] } := by
    rw [he]
    simp [Dev.note, hrcd, settled_of_waits hw]
  obtain ⟨hqueue, hlost⟩ := finish_full (d := e.ended ref desc s.cmdBytes ST_OK (Config.freeValue s.dev.free % 2 ^ 32))
    (by rw [hend, hone]) (by rw [hend, hone]; exact hfull)
  have hkeep := (Dev.Only.refl [.queue] [.field REC_LOST_CNT_COUNT]
    (e.ended ref desc s.cmdBytes ST_OK (Config.freeValue s.dev.free % 2 ^ 32))).finish (by simp) (.inl (by simp))
  refine ⟨_, hrun, ⟨rfl, rfl, ?_⟩, ?_, ?_, ?_, ?_⟩
  · have hnote : (s.dev.begun ref desc).Only [.queue, .free] [] e := he ▸ only_note_free ..
    exact (((only_begun ref desc s.dev).mono (by simp +contextual) (by simp)).trans (hnote.mono (by simp) (by simp))).trans
      (((only_ended s.cmdBytes e).mono (by simp +contextual) (by simp)).trans (hkeep.mono (by simp) (by simp)))
  · exact hqueue.trans (by rw [hend, hone])
  · exact hlost.trans (by rw [hend, hone])
  · refine (hkeep.1 .free (by simp)).trans ?_
    cases ref <;> exact congrArg Dev.free he
  · exact answeredOnly_of_ended hw hcarry (by rw [he]; rfl)
      ⟨hkeep.1 .host (by simp), tile_of_only hkeep (by simp) (by simp), hkeep.1 .ports (by simp)⟩

/-! RECORDER_WRITE of a REC_MARK's record (R372, R379). -/

/-- A sender's record that is no EVT_RING_OVF is written, and waits for the Event Ring. -/
theorem writeRecord_sender {st : Straps} {r : EventRec} (hst : isSender st = true) (hcode : r.code ≠ EV_EVT_RING_OVF.code) (d : Dev) :
    (d.writeRecord st r).host = { d.host with evtPend := d.host.evtPend ++ [{ r with seq := d.rcd.next, mark := none }] } ∧
      (d.writeRecord st r).rcd.queue = d.rcd.queue ∧ (d.writeRecord st r).rcd.fresh = d.rcd.fresh ∧
      (d.writeRecord st r).rcd.lost = d.rcd.lost ∧
      (d.writeRecord st r).get REC_NEWEST_SEQ = d.rcd.next % 2 ^ 32 := by
  simp only [Dev.writeRecord, hst, if_true, beq_eq_false_iff_ne.mpr hcode, Bool.false_eq_true, if_false]
  refine ⟨by simp, by simp, by simp, by simp, ?_⟩
  exact get_setAll [(REC_OLDEST_SEQ, _)] [(REC_STAT_EMPTY, 0)] (by decide) (by simp [Fld.apart, REC_STAT_EMPTY, REC_NEWEST_SEQ, REC_STAT, REC_NEWEST])

theorem recorderWrite_completes {i : Nat} {x : Desc} {r : EventRec} (hon : senderOn s) (hqueue : s.dev.rcd.queue = [r])
    (hmark : r.mark = some (.ring i)) (hcode : r.code ≠ EV_EVT_RING_OVF.code) (hlost : s.dev.rcd.lost = 0)
    (hdescs : s.dev.host.descs = [x]) (hring : x.ring = 1) (hindex : x.index = i) (hphase : x.phase = .started)
    (hresult : x.result = none) (hcpl : dNoCpl x.bytes = false) (hout : s.dev.host.out = []) :
    AnswersWith (exec .recorderWrite s) fun t =>
      t.dev.host.descs = [{ x with phase := .finished, result := some (ST_OK, s.dev.rcd.next) }] ∧
      t.dev.host.cpls = s.dev.host.cpls ++ [cplOf x ST_OK s.dev.rcd.next] ∧
      t.dev.get REC_NEWEST_SEQ = s.dev.rcd.next % 2 ^ 32 ∧ t.dev.rcd.queue = [] := by
  let d : Dev := { s.dev with rcd.queue := [] }
  obtain ⟨hhost, hq, hfresh, hl, hnewest⟩ := writeRecord_sender (isSender_of_on hon) hcode d
  have hfin := finishDesc_one (d := d.writeRecord s.straps r) x ST_OK s.dev.rcd.next (by rw [hhost]; exact hdescs)
    (by rw [hhost]; exact hout) (by simp [hphase]) hresult hcpl
  have hdev : s.dev.opRecorderWrite s.straps =
      { d.writeRecord s.straps r with host := (d.writeRecord s.straps r).host.completed x ST_OK s.dev.rcd.next } := by
    have hone : s.dev.opRecorderWrite s.straps = (d.writeQueued s.straps r).reportLost s.straps := by
      rw [Dev.opRecorderWrite, hqueue]
      rfl
    have hwrite : d.writeQueued s.straps r = (d.writeRecord s.straps r).finishDesc x.ring x.index ST_OK s.dev.rcd.next := by
      rw [Dev.writeQueued, hmark, hring, hindex]
      rfl
    rw [hone, hwrite, hfin, Dev.reportLost]
    exact if_pos (hl.trans hlost)
  have hsettled : (s.dev.opRecorderWrite s.straps).rcd.fresh = [] := by
    rw [hdev]
    exact hfresh.trans hon.2.2
  have hend : exec .recorderWrite s = .next { s with dev := s.dev.opRecorderWrite s.straps } := by
    change execRecorderWrite s = _
    rw [execRecorderWrite, runIf_pos (by simp [awake_of_on hon.2, hqueue]), run, Dev.finish_of_settled _ hsettled]
  refine ⟨_, hend, ?_⟩
  simp only [hdev]
  refine ⟨rfl, ?_, hnewest, hq⟩
  simp only [HostSt.completed, hhost]
  rfl

/-! REC_CLEAR (R378, log entries 36 and 51). -/

theorem clear_noToken (hw : Waits ref desc s = true) (hfw : s.dev.firmware = true) (hop : dOpcode desc = 0x0700)
    (htok : s.dev.sec.clearToken = none) :
    AnswersWith (exec (.recClear ref) s) fun t =>
      Only (answerParts ref) [] s t ∧ AnsweredOnly ref desc ST_REC_NO_TOKEN 0 s t := by
  refine runCommand_reads hw (hasOp_of_eq hop) (runs_of_firmware _ hfw) (by rw [hop]; cases ref <;> rfl) fun _ => ?_
  have hsec : (s.dev.begun ref desc).sec.clearToken = none := by cases ref <;> exact htok
  simp only [Dev.opRecClear, hsec]

theorem begun_tokenOk (ref : CmdRef) (desc tok : List Byte) (d : Dev) : (d.begun ref desc).tokenOk tok = d.tokenOk tok := by
  cases ref <;> rfl

theorem clear_badToken (hw : Waits ref desc s = true) (hfw : s.dev.firmware = true) (hop : dOpcode desc = 0x0700)
    (htok : s.dev.sec.clearToken = some tok) (hbad : s.dev.tokenOk tok = false) :
    AnswersWith (exec (.recClear ref) s) fun t =>
      Only (answerParts ref) [] s t ∧ AnsweredOnly ref desc ST_TOKEN_BAD 0 s t := by
  refine runCommand_reads hw (hasOp_of_eq hop) (runs_of_firmware _ hfw) (by rw [hop]; cases ref <;> rfl) fun _ => ?_
  have hsec : (s.dev.begun ref desc).sec.clearToken = some tok := by cases ref <;> exact htok
  simp only [Dev.opRecClear, hsec, begun_tokenOk, hbad, Bool.not_false, if_true]

/-- Where the eMRAM write fails, the token is used and nothing is cleared. -/
theorem clear_unwritten (hw : Waits ref desc s = true) (hfw : s.dev.firmware = true) (hop : dOpcode desc = 0x0700)
    (htok : s.dev.sec.clearToken = some tok) (hok : s.dev.tokenOk tok = true) (hfail : Config.freeValue s.dev.free % 2 = 1) :
    AnswersWith (exec (.recClear ref) s) fun t =>
      Answered ref desc ST_REC_NVM 0 s t ∧ Only ([.sec, .nvm, .free] ++ answerParts ref) [] s t := by
  let b := s.dev.begun ref desc
  let e : Dev := { b.useToken tok with sec.clearToken := none, free := s.dev.free + 1 }
  have hsec : b.sec.clearToken = some tok := by cases ref <;> exact htok
  have hfree : b.free = s.dev.free := begun_free ..
  have hclear : b.opRecClear s.straps = ((ST_REC_NVM, 0), e) := by
    simp only [Dev.opRecClear, hsec, b, begun_tokenOk, hok, Bool.not_true, Bool.false_eq_true, if_false]
    simp [Dev.writeFails, Dev.draw, Dev.useToken, hfail, hfree, e, b]
  obtain ⟨t, ht, honly, -, hanswer, -⟩ := runCommand_ends (f := fun st _ _ d => (some (d.opRecClear st).1, (d.opRecClear st).2))
    (status := ST_REC_NVM) (value := 0) (ps := [.sec, .nvm, .free]) (as := []) (e := e) hw (hasOp_of_eq hop)
    (runs_of_firmware _ hfw) (by rw [hop]; cases ref <;> rfl) (fun _ => by simp only [b] at hclear; simp only [hclear])
    ⟨⟨rfl, rfl, rfl⟩, rfl, rfl, fun _ _ => rfl⟩
    (.parts rfl fun p hp => by cases p <;> simp_all [Part.same, e, b, Dev.useToken]) (by simp)
  exact ⟨t, ht, hanswer, honly⟩

end

end Sys2Proof.Machine
end

section
/-! SUPPORT. What the statement on the lamp and recorder commands turns on: REC_CLEARED has 32 bits for the count of records cleared,
and a device whose OLDEST stands just behind NEWEST asks for 2^32 there, where its token is good and its eMRAM write succeeds. -/

namespace Sys2Proof.Machine

/-! Bytes in a row. -/

theorem byteAt_append (l m : List Byte) (k : Nat) :
    byteAt (l ++ m) k = if k < l.length then byteAt l k else byteAt m (k - l.length) := by
  split
  · exact byteAt_append_left ‹_›
  · simp only [byteAt, List.getElem?_append_right (Nat.le_of_not_lt ‹_›)]

theorem zeros_length (n : Nat) : (zeros n).length = n := List.length_replicate

theorem beBytes_length (v n : Nat) : (beBytes v n).length = n := by rw [beBytes, List.length_reverse, leBytes_length]

theorem byteAt_zeros (n k : Nat) : byteAt (zeros n) k = 0 := by
  unfold byteAt zeros
  rw [List.getElem?_replicate]
  by_cases h : k < n
  · rw [if_pos h]
    rfl
  · rw [if_neg h]

theorem byteAt_beBytes {v : Nat} (hv : v < 256) (k : Nat) : byteAt (beBytes v 4) k = if k = 3 then v else 0 := by
  have h : beBytes v 4 = [0, 0, 0, BitVec.ofNat 8 v] := by
    have h1 : v / 256 = 0 := Nat.div_eq_of_lt hv
    simp [beBytes, leBytes, h1]
  rw [h]
  match k with
  | 0 | 1 | 2 => rfl
  | 3 => simpa [byteAt] using hv
  | k + 4 => simp [byteAt]

/-! A token that its own key verifies (R333, R336). -/

/-- The LMS signature whose hashes are all zero: LMS type H5, LM-OTS type W8, leaf 0. -/
def zeroSig : LmsSig :=
  { q := 0, ots := 4, c := zeros 32, y := List.replicate 34 (zeros 32), lms := 5, path := List.replicate 5 (zeros 32) }

/-- Its bytes. -/
def zeroSigLms : List Byte := zeros 4 ++ (beBytes 4 4 ++ (zeros 1120 ++ (beBytes 5 4 ++ zeros 160)))

theorem byteAt_zeroSigLms (k : Nat) : byteAt zeroSigLms k = if k = 7 then 4 else if k = 1131 then 5 else 0 := by
  simp only [zeroSigLms, byteAt_append, zeros_length, beBytes_length, byteAt_zeros, byteAt_beBytes (v := 4) (by decide),
    byteAt_beBytes (v := 5) (by decide)]
  split_ifs <;> omega

theorem zeroSigLms_length : zeroSigLms.length = 1292 := by
  simp only [zeroSigLms, List.length_append, zeros_length, beBytes_length]

theorem slice_zeroSigLms {k n : Nat} (h : (7 < k ∧ k + n ≤ 1131) ∨ 1131 < k) : slice zeroSigLms k n = zeros n := by
  refine List.ext_getElem (by simp [slice, zeros]) fun j hj _ => ?_
  have hj' : j < n := by simpa [slice] using hj
  simp only [slice, List.getElem_map, List.getElem_range, byteAt_zeroSigLms, zeros, List.getElem_replicate]
  rw [if_neg (by omega), if_neg (by omega)]
  rfl

theorem hashesAt_zeroSigLms {off n : Nat} (h : (7 < off ∧ off + 32 * n ≤ 1131) ∨ 1131 < off) :
    hashesAt zeroSigLms off n = List.replicate n (zeros 32) := by
  rw [List.eq_replicate_iff]
  refine ⟨by simp [hashesAt], fun b hb => ?_⟩
  obtain ⟨k, hk, rfl⟩ := List.mem_map.mp hb
  rw [List.mem_range] at hk
  exact slice_zeroSigLms (by omega)

theorem parseLms_zeroSigLms : parseLms zeroSigLms = .found zeroSig 1292 := by
  have hots : beAt zeroSigLms 4 4 = 4 := by simp [beAt, List.range_succ, byteAt_zeroSigLms]
  have hq : beAt zeroSigLms 0 4 = 0 := by simp [beAt, List.range_succ, byteAt_zeroSigLms]
  have hlms : beAt zeroSigLms 1128 4 = 5 := by simp [beAt, List.range_succ, byteAt_zeroSigLms]
  simp [parseLms, zeroSigLms_length, hots, otsType, hlms, lmsHeight, hq, slice_zeroSigLms, hashesAt_zeroSigLms, zeroSig]

/-- The same as an HSS signature of one level. -/
def zeroSigBytes : List Byte := zeros 4 ++ zeroSigLms

theorem zeroSigBytes_length : zeroSigBytes.length = 1296 := by
  rw [zeroSigBytes, List.length_append, zeroSigLms_length, zeros_length]

theorem parseHss_zeroSigBytes : parseHss zeroSigBytes = .found ⟨[], zeroSig⟩ 1296 := by
  have hlevels : beAt zeroSigBytes 0 4 = 0 := rfl
  have hdrop : zeroSigBytes.drop 4 = zeroSigLms := List.drop_left' rfl
  have hlen : ¬ zeroSigBytes.length < 4 := by rw [zeroSigBytes_length]; decide
  rw [parseHss, if_neg hlen, hlevels, if_neg (by decide), hdrop]
  simp only [parseLevels, parseLms_zeroSigLms]

/-- The message of `tokA`: TYPE 1, TSEQ 9, any device. -/
def clearMessage : List Byte := leBytes 1 2 ++ zeros 2 ++ leBytes 9 4 ++ zeros 56

/-- A REC_CLEAR token with that signature. -/
def zeroSigToken : List Byte := clearMessage ++ zeroSigBytes

/-- The root that the signature of the message leads to. -/
def zeroSigRoot : List Byte :=
  lmsRoot (zeros 16) zeroSig.path 32 (sha256 (zeros 16 ++ beBytes 32 4 ++ beBytes 0x8282 2 ++
    otsCandidate ⟨8, 34, 0⟩ (zeros 16) clearMessage zeroSig))

theorem zeroSigRoot_length : zeroSigRoot.length = 32 := sha256_length _

/-- The public key of one level with a root. -/
def keyWithRoot (root : List Byte) : List Byte := beBytes 1 4 ++ (beBytes 5 4 ++ beBytes 4 4 ++ zeros 16 ++ root)

theorem slice_behind (l m : List Byte) : slice (l ++ m) l.length m.length = m := by
  rw [slice_eq_take_drop (by simp), List.drop_left, List.take_length]

/-- The key's fields, whatever its root. -/
theorem keyWithRoot_fields (root : List Byte) : beAt (keyWithRoot root) 0 4 = 1 ∧ beAt ((keyWithRoot root).drop 4) 0 4 = 5 ∧
    beAt ((keyWithRoot root).drop 4) 4 4 = 4 ∧ slice ((keyWithRoot root).drop 4) 8 16 = zeros 16 := ⟨rfl, rfl, rfl, rfl⟩

theorem keyWithRoot_root {root : List Byte} (h : root.length = 32) : slice ((keyWithRoot root).drop 4) 24 32 = root := by
  rw [← h]
  exact slice_behind (beBytes 5 4 ++ beBytes 4 4 ++ zeros 16) root

theorem hssVerify_zeroSig : hssVerify (keyWithRoot zeroSigRoot) clearMessage zeroSigBytes = true := by
  obtain ⟨hlevels, hlms, hots, hident⟩ := keyWithRoot_fields zeroSigRoot
  have hroot := keyWithRoot_root zeroSigRoot_length
  have hlast : lmsVerify ((keyWithRoot zeroSigRoot).drop 4) clearMessage zeroSig = true := by
    simp only [lmsVerify, show otsType zeroSig.ots = some ⟨8, 34, 0⟩ from rfl, show lmsHeight zeroSig.lms = some 5 from rfl, hlms,
      hots, hident, hroot]
    rw [Bool.and_eq_true]
    exact ⟨by decide, beq_iff_eq.mpr rfl⟩
  simp [hssVerify, parseHss_zeroSigBytes, zeroSigBytes_length, hlevels, levelsVerify, hlast]

/-! The device. -/

/-- A sender that holds that token and its key, and whose OLDEST stands one behind NEWEST. -/
def senderWrapped (n : Nat) : State :=
  cmdAtSender 5 (descOf 0x700 2 7 0 []) fun d =>
    { d with sec.clearToken := some zeroSigToken, nvm.trusted.slot1 := some (keyWithRoot zeroSigRoot), free := n }.setAll
      [(REC_OLDEST_SEQ, 1), (REC_STAT_EMPTY, 0)]

/-- The token's own fields; the signature is apart. -/
theorem zeroSigToken_fields : tokType zeroSigToken = 1 ∧ tokSeq zeroSigToken = 9 ∧ tokDevice zeroSigToken = 0 ∧
    tokAfter zeroSigToken = 0 := ⟨rfl, rfl, rfl, rfl⟩

theorem zeroSigToken_length : zeroSigToken.length = 1360 := by
  rw [zeroSigToken, List.length_append, zeroSigBytes_length]
  rfl

theorem tokenOk_senderWrapped (n : Nat) : (senderWrapped n).dev.tokenOk zeroSigToken = true := by
  obtain ⟨htype, hseq, hdevice, hafter⟩ := zeroSigToken_fields
  have htake : zeroSigToken.take 64 = clearMessage := List.take_left' rfl
  have hdrop : zeroSigToken.drop 64 = zeroSigBytes := List.drop_left' rfl
  have hverify : (senderWrapped n).dev.verify 1 clearMessage zeroSigBytes = true := hssVerify_zeroSig
  have howned : (senderWrapped n).dev.owned = true := rfl
  have htseq : (senderWrapped n).dev.nvm.trusted.tseq = 0 := rfl
  simp [Dev.tokenOk, htake, hdrop, zeroSigToken_length, htype, hseq, hdevice, hafter, howned, htseq, hverify]

theorem waits_senderWrapped (n : Nat) : Waits (.ring 5) (descOf 0x700 2 7 0 []) (senderWrapped n) = true := by
  rw [Waits, Bool.and_eq_true, oneDesc_iff]
  exact ⟨⟨⟨rfl, rfl, rfl⟩, rfl, rfl, by decide +kernel⟩, by decide +kernel⟩

theorem senderWrapped_clears (n : Nat) : (senderWrapped n).dev.firmware = true ∧ dOpcode (descOf 0x700 2 7 0 []) = 0x0700 ∧
    (senderWrapped n).dev.sec.clearToken = some zeroSigToken ∧ (senderWrapped n).dev.rcd.next < 2 ^ 32 := by
  refine ⟨rfl, by decide +kernel, rfl, ?_⟩
  have hnext : (senderWrapped n).dev.rcd.next = State.reset.dev.rcd.next := rfl
  rw [hnext]
  decide +kernel

theorem cleared_senderWrapped (n : Nat) : (if (senderWrapped n).dev.get REC_STAT_EMPTY = 1 then 0 else
    dist32 ((senderWrapped n).dev.get REC_OLDEST_SEQ) ((senderWrapped n).dev.get REC_NEWEST_SEQ) + 1) = 2 ^ 32 := by
  have hget (f : Fld) : (senderWrapped n).dev.get f = (senderWrapped 0).dev.get f := rfl
  simp only [hget]
  decide +kernel

theorem eventOfBytes_p2_lt (bytes : List Byte) : (eventOfBytes bytes).p2 < 2 ^ 32 := by
  have hbyte (k : Nat) : byteAt bytes k < 256 := by
    unfold byteAt
    split
    · exact BitVec.isLt _
    · decide
  have h0 := hbyte 28
  have h1 := hbyte (28 + 1)
  have h2 := hbyte (28 + 1 + 1)
  have h3 := hbyte (28 + 1 + 1 + 1)
  simp only [eventOfBytes, leAt]
  omega

/-- The statement gives REC_CLEARED of a clear that is written the count of the records cleared, so that count has 32 bits. -/
theorem cleared_fits (h : Obligations.LampAndRecorderCommands) {s : State} {ref : CmdRef} {desc tok : List Byte}
    (hw : Waits ref desc s = true) (hfw : s.dev.firmware = true) (hop : dOpcode desc = 0x0700)
    (htok : s.dev.sec.clearToken = some tok) (hnext : s.dev.rcd.next < 2 ^ 32) (hok : s.dev.tokenOk tok = true)
    (hwritten : Config.freeValue s.dev.free % 2 ≠ 1) :
    (if s.dev.get REC_STAT_EMPTY = 1 then 0 else dist32 (s.dev.get REC_OLDEST_SEQ) (s.dev.get REC_NEWEST_SEQ) + 1) < 2 ^ 32 := by
  obtain ⟨-, -, -, -, -, -, -, -, -, hclear⟩ := h
  obtain ⟨t, -, ht⟩ := hclear s ref desc tok hw hfw hop htok hnext
  rw [if_neg fun hfail => hwritten hfail.2, if_pos hok] at ht
  obtain ⟨-, -, -, -, -, -, hrecord⟩ := ht
  have hp2 : (eventOfBytes _).p2 = _ := congrArg (fun x => x.2.2.2) hrecord
  exact hp2.symm.trans_lt (eventOfBytes_p2_lt _)

/-- The statement asks that every eMRAM write fails: else REC_CLEAR in `senderWrapped` has a count of 2^32 to record. -/
theorem freeValue_odd_of_lampAndRecorderCommands (h : Obligations.LampAndRecorderCommands) (n : Nat) :
    Config.freeValue n % 2 = 1 := by
  by_contra hwritten
  obtain ⟨hfw, hop, htok, hnext⟩ := senderWrapped_clears n
  have hfits := cleared_fits h (waits_senderWrapped n) hfw hop htok hnext (tokenOk_senderWrapped n) hwritten
  rw [cleared_senderWrapped] at hfits
  exact Nat.lt_irrefl _ hfits

/-- Where every eMRAM write fails, no clear is written, and every clause holds. -/
theorem lampAndRecorderCommands_of_freeValue_odd (hodd : ∀ n, Config.freeValue n % 2 = 1) :
    Obligations.LampAndRecorderCommands := by
  unfold Obligations.LampAndRecorderCommands
  refine ⟨fun s desc hw hfw hop hn => diagLamp_reads hw hfw hop hn, fun s desc hw hfw hop hn => ?_,
    fun s desc hw hfw hop hn => diag_badLamp hw hfw hop hn, fun s i desc hw hop => diag_local hw hop,
    fun s ref desc hw hfw hop hsev hroom => mark_records hw hfw hop hsev hroom,
    fun s ref desc hw hfw hop hsev hfull => mark_lost hw hfw hop hsev hfull,
    fun s i e r hon hqueue hmark hcode hlost hdescs hring hindex hphase hresult hcpl hout =>
      recorderWrite_completes hon hqueue hmark hcode hlost hdescs hring hindex hphase hresult hcpl hout,
    fun s ref desc hw hfw hop hsev => mark_badSeverity hw hfw hop hsev,
    fun s ref desc hw hfw hop htok => clear_noToken hw hfw hop htok, fun s ref desc tok hw hfw hop htok _ => ?_⟩
  · obtain ⟨t, ht, hframe, hanswer, hforced, hnvm⟩ := diagForce_forces hw hfw hop hn
    refine ⟨t, ht, hframe, hanswer, ?_, ?_, hnvm⟩ <;> rw [hforced]
    · exact mem_forcedMasks ..
    · exact filter_forcedMasks ..
  · by_cases hok : s.dev.tokenOk tok = true
    · simpa [hok, hodd] using clear_unwritten hw hfw hop htok hok (hodd _)
    · simpa [hok] using clear_badToken hw hfw hop htok (by simpa using hok)

/-- O17 (not settled): it holds exactly if no eMRAM write ever succeeds. `Config.freeValue` has no body, so neither side can be
proved or refuted here; a premise that OLDEST lies at most 16,383 behind NEWEST would do away with the counterexample. -/
theorem lampAndRecorderCommands_iff : Obligations.LampAndRecorderCommands ↔ ∀ n, Config.freeValue n % 2 = 1 :=
  ⟨freeValue_odd_of_lampAndRecorderCommands, lampAndRecorderCommands_of_freeValue_odd⟩

end Sys2Proof.Machine
end
